-- ==== Sys2Proof/Config.lean ====
section
/-! DEFINITION. What the manual takes from an outside standard or from a random source, as
constants without a body: no proof can see a value of theirs, and a statement about them holds
for every value. Log entries 7, 8 and 9 name them. -/
namespace Sys2Proof.Config

/-- AES-256-XTS over one LBA (R164): for a key and a namespace LBA, a permutation of blocks.
Its inverse decrypts. -/
opaque xts : (key lba : Nat) → Equiv.Perm Nat

/-- The wrapping of a namespace's key pair under the device key (R164, R443); its inverse unwraps. -/
opaque keyWrap : (deviceKey : Nat) → Equiv.Perm Nat

/-- SHA-384 over octets (R124, R440). -/
opaque sha384 : List Nat → Nat

/-- ECDSA over NIST P-384 (R440): public key, digest, signature. -/
opaque ecdsaVerify : (publicKey digest signature : Nat) → Bool

/-- HMAC-SHA-256 (R388): key, message octets; the whole 32-octet code. -/
opaque hmacSha256 : (key : Nat) → List Nat → Nat

/-- The AES key unwrap of MGMT_KEY_WRAP under the ECDH secret of DEV_PUBKEY (R443):
the 32-octet management key, or none when the unwrap fails. -/
opaque keyUnwrap : (deviceKey wrapped : Nat) → Option Nat

/-- The pair key agreed at the first join by ECDH over NIST P-384 (R347). -/
opaque pairKey : (identityA identityB : Nat) → Nat

/-- The state that the partner's controller reports of itself at the n-th join, less one: no Rally frame carries it (R15,
R339, log entry 23). -/
opaque partnerCtl : (n : Nat) → Nat

/-- What C1 takes from C0 at the first join, the n-th one of this state, for which no Rally frame has a place (R339, R342, log
entry 23): of namespace k its numbers (0 present when odd, 1 LBA format, 2 extended LBAs when odd, 3 layout P2 when odd,
4 key, 5 size in granules, 6 capacity in granules). -/
opaque pairNs : (n k field : Nat) → Nat

/-- The granules (0) and the attached controllers (1) of namespace k at such a join. -/
opaque pairNsList : (n k field : Nat) → List Nat

/-- The header, as four dwords, of the TLP that an error reported through AER concerned: the n-th one logged (R99, log
entry 38). -/
opaque tlpHeader : (n : Nat) → Nat

/-- The n-th value drawn from the random source (R164, R307, R388). -/
opaque random : (n : Nat) → Nat

/-- SHA-384 of the boot ROM, measurement 1 of R124. -/
opaque romDigest : Nat

/-- The device's certificate chain, which slot 0 holds from manufacture on (R124): its octets. -/
opaque certChain : List Nat

/-- The ECDSA signature that the device makes over an SPDM message (R124), the n-th one made. -/
opaque spdmSign : (n : Nat) → (message : List Nat) → Nat

/-- The CTExponent that the device reports in CAPABILITIES, which R124 does not give. -/
opaque spdmCtExponent : Nat

/-- The vendor family of D4010.02 (R261): 1,024 octets, little-endian. -/
opaque vendorFamily : Nat

/-- The lower and upper bound of a read-level offset that the parameter page advertises
(R229); a part that advertises none gives 0 for both. -/
opaque offsetRange : Nat × Nat

/-- The read-retry set that the parameter page advertises for a slot 1 to 7 of a table (0 QLC,
1 SLC), as an entry of R213 without its flags octet: 15 octets (R215). -/
opaque retrySet : (table slot : Nat) → Nat

/-- The value of a bit the manual leaves to NVM Express in an Identify or log structure that
this model names but does not give: structure number, octet. -/
opaque nvmeOctet : (page octet : Nat) → Nat

/-- The Crucible copy write of R43 for so many octets, in picoseconds: the manual gives the term
no value (log entry 21). -/
opaque copyWritePs : (octets : Nat) → Nat

/-- The journal append of R43 for so many records, in picoseconds (log entry 21). -/
opaque journalPs : (records : Nat) → Nat

/-- Bus time in channel tokens of a transaction that the manual gives no length: 0 a status poll (R184), 1 a
short-form ZQ calibration (R183), 2 a temperature read (R195) (log entry 21). -/
opaque busTokens : (kind : Nat) → Nat

/-- The 416 octets of LDPC parity over the data and tag of a codeword (R205). -/
opaque ldpc : (word : Nat) → Nat

/-- The data of codeword k of a filler page, in the low 4,096 octets, and the unit index in its tag (R206). -/
opaque filler : (k : Nat) → Nat

/-- The unit index in the tag of a system page of some contents (R206). -/
opaque systemUnit : (data : Nat) → Nat

/-- How many read-retry sets the parameter page advertises for a table (0 QLC, 1 SLC), slot 0 aside (R215). -/
opaque retrySets : (table : Nat) → Nat

/-- What training leaves in the trim set of a target, as the first 22 octets of its record (R179, R200): the
n-th set taken (log entry 11). -/
opaque trims : (n : Nat) → Nat

end Sys2Proof.Config
end

