-- ==== Sys2Proof/Word.lean ====
section
/-! DEFINITION. Plain numbers of the S9632: bit fields, octets, fixed widths and the units of time.

Values that the manual numbers as registers are natural numbers below their width; `bits` and
`bit` read their fields. Times inside a bound are picoseconds, so that every constant of the
manual (0.96 µs of bus time, 33.85 ns of port time) is exact or rounded up in one place;
fabric timestamps are cycles of the 800 MHz fabric (1,250 ps each). -/
namespace Sys2Proof

/-- A time in picoseconds. -/
abbrev Ps := Nat

/-- A fabric timestamp, in cycles of the 800 MHz fabric clock (R413, R414). -/
abbrev Cyc := Nat

/-- Picoseconds in one fabric cycle: 800 MHz. -/
abbrev psPerCyc : Nat := 1250

/-- Fabric cycles in one inning: 100,000 cycles, 125 µs (R51). -/
abbrev cycPerInning : Nat := 100000

/-- Picoseconds in one inning. -/
abbrev psPerInning : Nat := 125000000

abbrev cycPerUs : Nat := 800
abbrev cycPerMs : Nat := 800000
abbrev cycPerSec : Nat := 800000000
abbrev cycPerMin : Nat := 48000000000
abbrev cycPerHour : Nat := 2880000000000
abbrev cycPerDay : Nat := 69120000000000

/-- Bits [hi:lo] of a number. -/
def bits (x hi lo : Nat) : Nat := x / 2 ^ lo % 2 ^ (hi + 1 - lo)

/-- Bit k of a number, as 0 or 1. -/
def bit (x k : Nat) : Nat := x / 2 ^ k % 2

/-- Octet k of a little-endian number. -/
def octet (x k : Nat) : Nat := x / 2 ^ (8 * k) % 256

/-- A number put at bit position lo. -/
def at' (x lo : Nat) : Nat := x * 2 ^ lo

/-- Bits [hi:lo] of x replaced by v. -/
def setBits (x hi lo v : Nat) : Nat :=
  x - bits x hi lo * 2 ^ lo + v % 2 ^ (hi + 1 - lo) * 2 ^ lo

/-- Division rounded up; dividing by 0 gives 0. -/
def cdiv (a b : Nat) : Nat := if b = 0 then 0 else (a + b - 1) / b

/-- The largest value of a 20-, 40- or 60-bit number. -/
abbrev max20 : Nat := 0xFFFFF
abbrev max40 : Nat := 0xFFFFFFFFFF
abbrev max60 : Nat := 0xFFFFFFFFFFFFFFF

/-- Serial comparison modulo 2^w (R88, R136, R458): a lies before b. -/
def serialLt (w a b : Nat) : Bool :=
  let d := (b + 2 ^ w - a % 2 ^ w) % 2 ^ w
  decide (1 ≤ d) && decide (d ≤ 2 ^ (w - 1) - 1)

/-- The distance from a forward to b modulo 2^w. -/
def serialDist (w a b : Nat) : Nat := (b % 2 ^ w + 2 ^ w - a % 2 ^ w) % 2 ^ w

/-- A signed number of w bits as a natural number (two's complement, R366). -/
def ofInt (w : Nat) (i : Int) : Nat := (i % (2 ^ w : Int)).toNat

/-- The signed value of a w-bit number. -/
def toInt (w x : Nat) : Int := if x < 2 ^ (w - 1) then (x : Int) else (x : Int) - 2 ^ w

/-- The octets of a little-endian number, n of them. -/
def octetsOf (n x : Nat) : List Nat := (List.range n).map (octet x)

/-- The little-endian number of a list of octets. -/
def ofOctets : List Nat → Nat
  | [] => 0
  | o :: r => o + 256 * ofOctets r

/-- The sum of a list of numbers. -/
def sumOf (l : List Nat) : Nat := l.foldl (· + ·) 0

/-- The largest of a list of numbers, 0 for none. -/
def maxOf (l : List Nat) : Nat := l.foldl max 0

/-- The smallest of a list of numbers, or the default for none. -/
def minOf (d : Nat) (l : List Nat) : Nat := l.foldl min d

end Sys2Proof
end

