-- ==== Sys2Proof/Syntax.lean ====
section
/-! DEFINITION. The commands of the block: one constructor of `Instr` for each row of
spec/opcode_table.json, in the table's order, with the operands the step needs from outside.
Every command carries `t`, the fabric timestamp at which it takes place (log entry 4). An
operand after `t` is what the host, a peer, the partner, the media, a pin or a timer brings;
`h` is the handle of a command taken in by FETCH. -/
namespace Sys2Proof

/-- The transports of the dictionary (R29, R380): in port mode 1 the BAR4 windows of the two
physical functions are transports of their own. -/
inductive Xport where
  | nvme
  | bar4 (port : Nat)
  | mctp
  | fliad
  | internal
  deriving DecidableEq, Repr

/-- The data and the metadata of one logical block (R82). -/
structure Blk where
  data : Nat
  info : Nat
  deriving DecidableEq, Repr

/-- One entry of the Autonomous Power State Transition table (R400). -/
structure ApstEntry where
  itps : Nat
  itptMs : Nat
  deriving DecidableEq, Repr

/-- One record of a Dictionary Set (R378): `addr` is index × 256 + sub; an OCT record holds the
number of octets in `value` and the octets, little-endian, in `octets`. -/
structure DictRec where
  addr : Nat
  type : Nat
  tag : Nat
  value : Nat
  octets : Nat
  deriving DecidableEq, Repr

/-- What a budget, a ledger or a queue of earlier-due work belongs to (R51, R54): a die (LUN
index), a channel, the hard or soft engines of a quadrant, a port's two directions, the Rally
link. -/
inductive Res where
  | die (lun : Nat)
  | chan (ch : Nat)
  | hard (q : Nat)
  | soft (q : Nat)
  | portOut (p : Nat)
  | portIn (p : Nat)
  | rally
  deriving DecidableEq, Repr

/-- What comes out of the decode of one codeword (R207, R210): whether the LDPC syndrome is zero, the 4,192 octets of data and tag
as a little-endian number, the bits corrected, and, when the second decode that R210 makes of a miscorrection has a zero syndrome,
the octets and the bits corrected of that one. -/
structure CwDecode where
  syndrome : Bool
  word : Nat
  corrected : Nat
  second : Option (Nat × Nat)
  deriving DecidableEq, Repr

/-- What comes out of one step of a codeword (R218): its own decode, or for a reconstruction those of the members read, each with
its position in the stripe. -/
structure Decode where
  own : CwDecode
  members : List (Nat × CwDecode)
  deriving DecidableEq, Repr

/-- What closes a row: the row, and whether the accumulator that forms its parity has shown a fault (R144, R260). -/
structure RowClose where
  row : Nat
  fault : Bool
  deriving DecidableEq, Repr

/-- One conversion of the housekeeping ADC (R416 to R418). -/
structure AdcCode where
  code : Int
  overRange : Bool
  late : Bool
  deriving DecidableEq, Repr

/-- What the flush steps of the power-fail sequence meet outside the controller (R291, R292):
the dirty slots issued before the usable energy fell to the reserve (none: all of them), the
journal pages and the energy of steps 3 and 4 in mJ, the time to the end of step 4 in µs, the
last step reached, and whether main power was lost while the steps ran. -/
structure FlushInput where
  issued : Option Nat
  pages : Nat
  energy : Nat
  micros : Nat
  reached : Nat
  mainLost : Bool
  deriving DecidableEq, Repr

/-- What a hold-up proof measured (R278): how it ended, the voltage and current step at the
assertion of STORE_HOLD#, the charge counted, the fall of the open-circuit voltage, the energy
of the drain and of the same time at the draw before it, the slots drained. -/
structure ProofInput where
  result : Nat
  dV : Nat
  dI : Nat
  charge : Nat
  fall : Nat
  energyDrain : Nat
  energyIdle : Nat
  drained : Nat
  deriving DecidableEq, Repr

/-- A NAND target as identification finds it (R173, R176, R177): `iface` is 1 NV-LPDDR4, 2 JESD230, 3 NV-DDR3 and anything else
for an interface that is declined, `commands` that it has the commands that R177 asks for, and `appointed` that its volume appointment, where
its CE pin has volumes, has not failed (R175). -/
structure TgtInfo where
  ch : Nat
  t : Nat
  answers : Bool
  luns : Nat
  planes : Nat
  pages : Nat
  pageData : Nat
  spare : Nat
  passes : Nat
  maxRate : Nat
  iface : Nat
  suspend : Bool
  independent : Bool
  slcMode : Bool
  qlcNative : Bool
  commands : Bool
  softBit : Bool
  volumes : Bool
  appointed : Bool
  good : List Nat
  deriving DecidableEq, Repr

/-- One unit version found by the tag scan of a start without a valid Hallmark (R296). -/
structure ScanVersion where
  unit : Nat
  wseq : Nat
  entry : Nat
  deriving DecidableEq, Repr

/-- What the eight steps of a start meet (R435): the last step that ended, the PAIR_ID strap, the
DDR5 channels' sizes and trained rates, the readable system-area copies, the targets found, the
rates the channels trained to and their eyes, the versions of a tag scan, the step times in µs, and the control
cores that fail their self-test, 4 × cluster + core. -/
structure StartInput where
  upto : Nat
  pairId : Nat
  ddrGib : List Nat
  ddrRate : List Nat
  copies : List Bool
  targets : List TgtInfo
  trained : List (List (Nat × Nat × Nat))
  scan : List ScanVersion
  times : List Nat
  badCores : List Nat
  deriving DecidableEq, Repr

/-- The header and trailer of a received Rally frame (R338). -/
structure RHdr where
  crcOk : Bool
  seq : Nat
  acked : Nat
  credits : Nat
  slots : Nat
  xfer : Nat
  last : Bool
  deriving DecidableEq, Repr

/-- The type fields of a HELLO frame (R339). -/
structure HelloFrame where
  protocol : Nat
  index : Nat
  variant : Nat
  lanes : Nat
  state : Nat
  identity : Nat
  boot : Nat
  marked : Nat
  unconfirmed : Nat
  deriving DecidableEq, Repr

/-- The type fields and the payload of MIRROR_DATA, MIRROR_META and RESYNC_DATA (R339). -/
structure MirrorFrame where
  unit : Nat
  fmt : Nat
  whole : Bool
  nsid : Nat
  slba : Nat
  count : Nat
  offset : Nat
  blocks : List Blk
  deriving DecidableEq, Repr

/-- One entry of an unconfirmed list (R352). -/
structure UnconfEntry where
  unit : Nat
  count : Nat
  kind : Nat
  key : Nat
  deriving DecidableEq, Repr

/-- One received Fliad frame (R387): `octets` is the header and payload as they arrived, over
which the tag is checked, `payload` the payload as a little-endian number. -/
structure FliadFrame where
  version : Nat
  session : Nat
  seq : Nat
  length : Nat
  last : Bool
  offset : Nat
  addr : Nat
  count : Nat
  octTag : Nat
  payload : Nat
  octets : List Nat
  tag : Nat
  deriving DecidableEq, Repr

/-- One entry of a function's MSI-X table that the host has written (R109): vector, message address and data, masked. -/
structure MsixEntry where
  vector : Nat
  address : Nat
  data : Nat
  masked : Bool
  deriving DecidableEq, Repr

/-- What the host has written into a function's own registers of configuration space and into its MSI-X table (R99, R106,
R109, R113, R117): Max_Read_Request_Size in octets, the completion timeout field, the tag modes. -/
structure FnCfg where
  busMaster : Bool
  readRequest : Nat
  timeout : Nat
  relaxed : Bool
  noSnoop : Bool
  extTag : Bool
  tag10 : Bool
  tag14 : Bool
  msix : Bool
  msixMask : Bool
  vectors : List MsixEntry
  deriving DecidableEq, Repr

/-- What the host has written into the registers that a port's PF holds for the port and its VFs (R102, R103, R107, R108,
R121, R123): the PF's routing ID, SR-IOV and Resizable BAR controls, System Page Size as a power of two of 4 KiB, PME_En,
the L1 substates allowed (bit 0 L1.1, bit 1 L1.2) with the LTR threshold in µs, and the addresses of BAR0, BAR2, BAR4 and
of the VF BARs. -/
structure PfCfg where
  rid : Nat
  ari : Bool
  vfEnable : Bool
  numVfs : Nat
  sysPage : Nat
  bar2 : Option Nat
  vfBar2 : Option Nat
  pmeEn : Bool
  l1pm : Nat
  ltrThreshold : Nat
  bases : List Nat
  deriving DecidableEq, Repr

/-- A command in service, by its handle, with the host time in ns that its transfer took (R37). -/
structure Served where
  h : Nat
  hostNs : Nat
  deriving DecidableEq, Repr

/-- A function that returns to D0, with the shadow tails that its controller reads then: of a function, a queue and its tail (R74, R118). -/
structure Waking where
  fn : Nat
  tails : List (Nat × Nat × Nat)
  deriving DecidableEq, Repr

/-- A BAR of a function that a memory write addresses (R109, R117). -/
structure BarOf where
  fn : Nat
  bar : Nat
  deriving DecidableEq, Repr

/-- What the host has written by the time it enables a controller: CC.AMS, the configuration space of the function and of its
PF, and whether it has cleared PME_Status and the function's AER errors (R75, R99, R123, log entry 37). -/
structure EnableCfg where
  ams : Nat
  fn : FnCfg
  pf : PfCfg
  pmeClear : Bool
  aerClear : Bool
  deriving DecidableEq, Repr

/-- What triggers a power fail: PWR_FAIL# (reason 1) or the 12 V comparator (reason 2), how long it is low, and the input in
mV (R290). -/
structure LowInput where
  reason : Nat
  lowNs : Nat
  mv : Nat
  deriving DecidableEq, Repr

/-- The commands of the S9632, in the order of spec/opcode_table.json. -/
inductive Instr where
  /-- DOORBELL_WRITE (R74): A 32-bit write to a submission tail or completion head doorbell is
  checked and recorded for its queue. -/
  | doorbellWrite (t port fn off size value : Nat) (shadow : Option Nat)
  /-- FETCH (R75): The queue engine makes a fetch visit chosen by function and NVMe arbitration
  and takes up to the allowed number of entries. -/
  | fetch (t port : Nat) (entries : List (List Nat)) (shadow : Option Nat)
  /-- ADMISSION (R47): The admission unit computes the command's bound, places its tokens and
  credits, and admits it, admits it as a read-around, refuses it or keeps a class 3 command
  waiting. -/
  | admission (t h : Nat)
  /-- ADMIT_WAIT_EXPIRY (R47): A class 0 to 2 command still undecided at ADMIT_WAIT after fetch is
  refused with cause ADMIT_WAIT. -/
  | admitWaitExpiry (t h : Nat)
  /-- RANGE_LOCK_GRANT (R87): A waiting range-lock entry is granted once no earlier conflicting
  live entry remains. -/
  | rangeLockGrant (t h : Nat)
  /-- COMMIT_POINT (R84): A write-type command reaches its commit point when its data and map
  changes are in both Crucible copies, releasing its exclusive lock. -/
  | commitPoint (t h : Nat)
  /-- COMPLETION_POST (R36): A completion entry is posted once its command's data has been
  delivered, followed by its MSI-X message. -/
  | completionPost (t : Nat) (x : Served)
  /-- DEADLINE_EXPIRED (R39): A class 0 or 1 command meeting recovery trouble completes at its
  promised time with DEADLINE_EXPIRED and its recovery continues in staging. -/
  | deadlineExpired (t h : Nat)
  /-- CLASS2_LATE_LIMIT (R39): A class 2 command still running at CLASS2_LATE_LIMIT after fetch
  completes with DEADLINE_EXPIRED. -/
  | class2LateLimit (t h : Nat)
  /-- COMPLETION_TIMEOUT (R117): A memory read of a command that meets its completion timeout ends
  the command with Data Transfer Error and charges the port. -/
  | completionTimeout (t h : Nat)
  /-- ERROR_COMPLETION_RECEIVED (R117): A completion with Unsupported Request, Completer Abort or
  poison ends its command with Data Transfer Error. -/
  | errorCompletionReceived (t h kind : Nat)
  /-- POISONED_WRITE_RECEIVED (R117): A poisoned write into BAR0, BAR2 or BAR4 is dropped and
  reported through AER. -/
  | poisonedWriteReceived (t port : Nat) (bar : BarOf)
  /-- CREATE_IO_SUBMISSION_QUEUE (R71): Creates an I/O submission queue and takes a pair context
  from the function's reservation. -/
  | createIoSubmissionQueue (t h : Nat)
  /-- DELETE_IO_SUBMISSION_QUEUE (R91): Deletes a submission queue, aborting or discarding its
  commands as R91 sets out. -/
  | deleteIoSubmissionQueue (t h : Nat)
  /-- CREATE_IO_COMPLETION_QUEUE (R72): Creates an I/O completion queue in host memory, refusing
  PC 0 or a buffer address. -/
  | createIoCompletionQueue (t h : Nat)
  /-- DELETE_IO_COMPLETION_QUEUE (R71): Deletes a completion queue with no attached submission
  queue and returns the pair when last of the pair. -/
  | deleteIoCompletionQueue (t h : Nat)
  /-- GET_LOG_PAGE (R80): Returns a supported log page, taking a telemetry capture when asked. -/
  | getLogPage (t h : Nat)
  /-- IDENTIFY (R80): Returns controller, namespace, namespace list or descriptor data. -/
  | identify (t h : Nat)
  /-- ABORT (R90): Completes successfully with command not aborted, whatever its target. -/
  | abort (t h : Nat)
  /-- SET_FEATURES_ARBITRATION (R75): Sets the arbitration burst and weights used within a
  function. -/
  | setFeaturesArbitration (t h : Nat)
  /-- SET_FEATURES_POWER_MANAGEMENT (R400): Requests an operational or non-operational power
  state. -/
  | setFeaturesPowerManagement (t h : Nat)
  /-- SET_FEATURES_TEMPERATURE_THRESHOLD (R426): Sets over- and under-temperature thresholds that
  only raise warnings and events. -/
  | setFeaturesTemperatureThreshold (t h : Nat)
  /-- SET_FEATURES_NUMBER_OF_QUEUES (R69): Reserves queue pairs from the pool, granting the
  smallest of request, quota, doorbell limit and free pairs. -/
  | setFeaturesNumberOfQueues (t h : Nat)
  /-- SET_FEATURES_INTERRUPT_COALESCING (R79): Sets interrupt coalescing, which delays MSI-X
  messages only. -/
  | setFeaturesInterruptCoalescing (t h : Nat)
  /-- SET_FEATURES_INTERRUPT_VECTOR_CONFIG (R79): Sets per-vector coalescing configuration. -/
  | setFeaturesInterruptVectorConfig (t h : Nat)
  /-- SET_FEATURES_APST (R400): Sets the Autonomous Power State Transition table and idle timers. -/
  | setFeaturesApst (t h : Nat) (table : List ApstEntry)
  /-- SET_FEATURES_OTHER (R80): Sets another supported feature or completes with Invalid Field in
  Command for an unsupported one. -/
  | setFeaturesOther (t h data : Nat)
  /-- GET_FEATURES (R80): Returns the current value of a supported feature. -/
  | getFeatures (t h : Nat)
  /-- ASYNCHRONOUS_EVENT_REQUEST (R80): Holds up to 16 outstanding requests that complete when
  events arise. -/
  | asynchronousEventRequest (t h : Nat)
  /-- NAMESPACE_CREATE (R133): Creates a namespace from whole free granules with its layout and
  XTS key pair. -/
  | namespaceCreate (t h nsze ncap flbas : Nat)
  /-- NAMESPACE_DELETE (R92): Ends I/O to the namespace, waits for admitted commands, then drops
  its data, entries and key. -/
  | namespaceDelete (t h : Nat)
  /-- NAMESPACE_ATTACH (R104): Attaches a namespace to the controllers named, including VFs by
  controller ID. -/
  | namespaceAttach (t h : Nat) (controllers : List Nat)
  /-- NAMESPACE_DETACH (R92): Ends I/O of the detached functions to the namespace and hides its
  Scorebook entries from them. -/
  | namespaceDetach (t h : Nat) (controllers : List Nat)
  /-- FIRMWARE_IMAGE_DOWNLOAD (R444): Receives a piece of a firmware image into the working store
  in 4 KiB multiples. -/
  | firmwareImageDownload (t h piece : Nat)
  /-- FIRMWARE_COMMIT_REPLACE (R445): Commit action 000b checks the downloaded image and writes it
  to a slot. -/
  | firmwareCommitReplace (t h : Nat)
  /-- FIRMWARE_COMMIT_REPLACE_ACTIVATE (R445): Commit action 001b writes the image and makes the
  slot pending. -/
  | firmwareCommitReplaceActivate (t h : Nat)
  /-- FIRMWARE_COMMIT_ACTIVATE (R445): Commit action 010b checks a slot's image and makes it
  pending. -/
  | firmwareCommitActivate (t h : Nat)
  /-- FIRMWARE_COMMIT_ACTIVATE_NO_RESET (R93): Commit action 011b drains admitted commands and
  restarts the cores on the new image without reset. -/
  | firmwareCommitActivateNoReset (t h : Nat)
  /-- FWA_DRAIN_LIMIT_EXPIRY (R93): If the drain has not ended at FWA_DRAIN_LIMIT, fetch resumes
  and Commit completes with 0x13, leaving the image for the next reset. -/
  | fwaDrainLimitExpiry (t : Nat)
  /-- FIRMWARE_COMMIT_INVALID (R445): Commit actions 100b to 111b complete with Invalid Field in
  Command. -/
  | firmwareCommitInvalid (t h : Nat)
  /-- DEVICE_SELF_TEST_SHORT (R94): Starts a short self-test of segments 1 to 4 under ST. -/
  | deviceSelfTestShort (t h failing : Nat)
  /-- DEVICE_SELF_TEST_EXTENDED (R94): Starts an extended self-test of segments 1 to 5 under ST. -/
  | deviceSelfTestExtended (t h failing : Nat)
  /-- DEVICE_SELF_TEST_ABORT (R95): Code Fh aborts the running self-test, which reports Aborted. -/
  | deviceSelfTestAbort (t h : Nat)
  /-- DOORBELL_BUFFER_CONFIG (R74): Configures shadow doorbells and EventIdx buffers for the
  function. -/
  | doorbellBufferConfig (t h : Nat)
  /-- FORMAT_NVM (R161): Waits for admitted commands, then deallocates every unit, optionally
  replaces the key and sets the LBA format. -/
  | formatNvm (t h : Nat)
  /-- SANITIZE_CRYPTO_ERASE (R162): Replaces every namespace key and deallocates every map entry. -/
  | sanitizeCryptoErase (t h : Nat) (failed : Bool)
  /-- SANITIZE_BLOCK_ERASE (R162): As crypto erase, then erases every block including scrap-pool
  blocks. -/
  | sanitizeBlockErase (t h : Nat) (failed : Bool)
  /-- SANITIZE_OVERWRITE (R162): As crypto erase, then programs the pattern for each pass and
  erases every block. -/
  | sanitizeOverwrite (t h : Nat) (failed : Bool)
  /-- DICTIONARY_SET (R379): Checks all records, then applies the non-action records as one write
  with clamping and starts the actions in order. -/
  | dictionarySet (t h : Nat) (records : List DictRec)
  /-- DICTIONARY_GET (R377): Returns records for a run of consecutive subs of one index. -/
  | dictionaryGet (t h : Nat)
  /-- PAIR_CONTROL_STATUS (R358): Action 0 reports the pair state, link, detach and diverged
  granules. -/
  | pairControlStatus (t h : Nat)
  /-- PAIR_CONTROL_CHOOSE_SOURCE (R353): Action 1 names the source for diverged granules and moves
  both sides to RESYNC. -/
  | pairControlChooseSource (t h : Nat)
  /-- PAIR_CONTROL_DETACH (R349): Action 2 detaches, sending NOTICE and going SOLO with only the
  detaching side accepting writes. -/
  | pairControlDetach (t h : Nat)
  /-- PAIR_CONTROL_REJOIN (R358): Action 3 ends the detach and the pair decides by R353. -/
  | pairControlRejoin (t h : Nat)
  /-- FLUSH (R41): Completes within 5 µs of fetch because every earlier completed write is already
  power-safe. -/
  | flush (t h : Nat)
  /-- WRITE (R43): A write is admitted by the write rule, moved by DMA into both Crucible copies,
  merged where partial, and completed at its commit point. -/
  | write (t : Nat) (x : Served) (blocks : List Blk)
  /-- READ (R43): A read is admitted by the read rule, resolved through directory and map, read,
  decoded and delivered by DMA. -/
  | read (t h : Nat)
  /-- COMPARE (R41): A read-rule command whose data comes from the host and is compared with the
  stored data. -/
  | compare (t : Nat) (x : Served) (blocks : List Blk)
  /-- WRITE_ZEROES (R160): Sets whole units to deallocated or written zero and merges partly
  covered units with zeros. -/
  | writeZeroes (t h : Nat)
  /-- DATASET_MANAGEMENT (R159): Deallocates every whole unit of up to 256 ranges with DEALLOC
  records. -/
  | datasetManagement (t h : Nat)
  /-- VERIFY (R41): A read-rule command that reads and checks data without moving it to the host. -/
  | verify (t h : Nat)
  /-- SEGMENT_READ (R319): Looks a key up, locks its extent and delivers the clipped bytes to host
  memory or through the Passer. -/
  | segmentRead (t h : Nat)
  /-- SCOREBOOK_PUT (R315): Locks old and new extents, marks the key pending and writes the new
  entry and generation at its commit point. -/
  | scorebookPut (t h : Nat)
  /-- SCOREBOOK_DROP (R316): Locks the old extent, marks the key pending and clears the entry at
  its commit point. -/
  | scorebookDrop (t h : Nat)
  /-- SCOREBOOK_LOOK (R318): Returns the 32-octet entry of a key without taking a lock. -/
  | scorebookLook (t h : Nat)
  /-- CC_ENABLE (R436): CC.EN written to 1 makes the controller set CSTS.RDY once start-up or
  drain has ended. The configuration space of the function and of its PF is as the host has left it by then,
  with PME_Status cleared by it or not (log entry 37). -/
  | ccEnable (t port fn : Nat) (cfg : EnableCfg) (asqs acqs : Nat)
  /-- CONTROLLER_RESET (R91): CC.EN cleared ends the function's commands, returns its queues and
  clears CSTS.RDY. -/
  | controllerReset (t port fn : Nat) (flush : FlushInput)
  /-- SHUTDOWN_NORMAL (R449): CC.SHN 01b drains the function and, when device-wide, flushes the
  Crucible and writes the Hallmark. -/
  | shutdownNormal (t port fn : Nat) (flush : FlushInput)
  /-- SHUTDOWN_ABRUPT (R449): CC.SHN 10b stops fetch at once and runs the flush steps on main
  power. -/
  | shutdownAbrupt (t port fn : Nat) (flush : FlushInput)
  /-- CMB_ENABLE (R110): Setting CMBMSC.CMSE reserves DRAM for the controller memory buffer or
  refuses it. -/
  | cmbEnable (t port fn base : Nat)
  /-- FULL_FUNDAMENTAL_RESET (R115): PERST# on every port in use stops fetch, runs the flush steps
  on main power and restarts from the boot ROM. -/
  | fullFundamentalReset (t : Nat) (flush : FlushInput)
  /-- PORT_RESET (R114): PERST# on one port, hot reset, link disable or link down resets one port
  and its functions. -/
  | portReset (t port kind : Nat)
  /-- FLR_INITIATE (R116): Initiate Function Level Reset stops fetch and DMA and ends the
  function's commands. -/
  | flrInitiate (t port fn : Nat)
  /-- FLR_DRAIN_DONE (R116): Once outstanding non-posted requests have ended, Transactions Pending
  clears and the queues are deleted. -/
  | flrDrainDone (t port fn : Nat)
  /-- VF_ENABLE_CLEAR (R104): Clearing VF Enable deletes every queue of every VF of the PF as an
  FLR. -/
  | vfEnableClear (t port : Nat)
  /-- D3HOT_ENTRY (R118): PowerState 11b stops fetch and pauses admitted commands at the next TLP
  boundary. -/
  | d3hotEntry (t port fn : Nat)
  /-- D0_ENTRY (R118): PowerState 00b resumes paused commands and fetch from the shadow doorbells. -/
  | d0Entry (t port : Nat) (w : Waking)
  /-- PME_TURN_OFF (R118): PME_Turn_Off in D3hot is answered with PME_TO_Ack within 1 ms. -/
  | pmeTurnOff (t port : Nat)
  /-- LINK_TRAINED (R99): A port link finishes training at a width and generation, setting its
  payload rate and unit state. -/
  | linkTrained (t port gen width : Nat) (flit : Bool)
  /-- L0P_WIDTH_REQUEST (R120): The port requests a narrower or wider L0p width as its ledger
  commitments allow or require. -/
  | l0pWidthRequest (t port width : Nat)
  /-- L0P_WIDTH_CHANGE (R120): An L0p width change completes, including one requested by the link
  partner. -/
  | l0pWidthChange (t port width : Nat) (byPartner : Bool)
  /-- ASPM_L1_ENTRY (R121): After ASPM_L1_IDLE with no work, the port initiates L1 and sends
  LTR_IDLE. -/
  | aspmL1Entry (t port substate : Nat)
  /-- L1_EXIT (R123): The port leaves L1 substates, driving CLKREQ# low, for host traffic or its
  own need. -/
  | l1Exit (t port : Nat)
  /-- MPS_CHANGE (R113): A change of Max_Payload_Size applies to later TLPs and admissions. -/
  | mpsChange (t port mps : Nat)
  /-- DOE_REQUEST (R124): A Data Object Exchange request is answered with discovery or an SPDM
  response. -/
  | doeRequest (t port vendor kind length code : Nat) (body : List Nat) (busy : Bool)
  /-- DOE_ABORT (R124): The DOE Abort bit clears DOE Error and ends any SPDM exchange. -/
  | doeAbort (t port : Nat)
  /-- OCT_SELECT (R383): A write of OCT_SELECT latches an OCT entry into the window's octet
  buffer. -/
  | octSelect (t port addr : Nat)
  /-- OCT_COMMIT (R383): A write of OCT_COMMIT applies the buffer's first OCT_WLEN octets to the
  entry as one write. -/
  | octCommit (t port addr wlen tag octets : Nat)
  /-- CELL_DWORD0_READ (R382): Reading dword 0 of a multi-cell entry latches its other cells with
  the same tag. -/
  | cellDword0Read (t port slot index sub : Nat)
  /-- CELL_UPPER_WRITE (R382): Writing dword 1 or 2 stages the upper cells of a multi-cell entry. -/
  | cellUpperWrite (t port slot index sub dword value : Nat)
  /-- CELL_DWORD0_WRITE (R382): Writing dword 0 commits the value, with staged upper cells and
  under its tag condition. -/
  | cellDword0Write (t port slot index sub value : Nat)
  /-- DICTIONARY_WRITE (R368): A write to a dictionary entry with no row of its own is checked,
  clamped and applied in arrival order. -/
  | dictionaryWrite (t : Nat) (x : Xport) (addr value tag : Nat)
  /-- SNAP_TAKE (R31): Captures the controller snapshot entries at one fabric timestamp and
  advances SNAP_GEN. -/
  | snapTake (t : Nat) (x : Xport) (value : Nat)
  /-- QSEL (R31): Writing QSEL captures the selected queue's state entries. -/
  | qsel (t : Nat) (x : Xport) (value : Nat)
  /-- UNIT_RETIRE (R18): Retires the named unit unless it would fail the service floor or has no
  own hardware. -/
  | unitRetire (t : Nat) (x : Xport) (value : Nat)
  /-- INNING_BOUNDARY (R52): Every 125 µs the Umpire allocates each budget among the activity
  classes and refills it. `inning` is the number of the inning that begins. -/
  | inningBoundary (t inning : Nat)
  /-- SUPPLY_HOLD_END (R56): At SUPPLY_HOLD_UNTIL the supply hold after a fall ends. -/
  | supplyHoldEnd (t : Nat)
  /-- NAND_OPERATION_COMPLETE (R184): A status poll finds RDY and the engine reads FAIL and ends
  the read, program or erase. -/
  | nandOperationComplete (t lun : Nat) (fail : Bool)
  /-- STATUS_POLL (R184): The engine polls Read Status Enhanced at POLL_START of the median and
  then every STATUS_POLL; `none` is a poll without an answer. -/
  | statusPoll (t lun : Nat) (ready : Option Bool)
  /-- OPERATION_TIMEOUT (R185): An operation without RDY at its timeout is ended by Reset LUN and
  handled by kind. -/
  | operationTimeout (t lun : Nat)
  /-- SUSPEND_EFFECT (R190): A suspended status is seen and the waiting HR read is issued. -/
  | suspendEffect (t lun : Nat) (ended : Bool)
  /-- RESUME_PROGRESS_MET (R189): After MIN_RESUME the operation may be suspended again for a
  waiting read. -/
  | resumeProgressMet (t lun : Nat)
  /-- TRAINING_ATTEMPT (R180): A channel training attempt sets interface, rate and trims, stepping
  down the ladder until a rate passes. `rates` are the rates that verify and `eyes`, in their order, the narrowest eye of the
  channel, in per mille of a UI, with the height of the lowest, in reference-voltage steps. -/
  | trainingAttempt (t ch : Nat) (full : Bool) (rates : List Nat) (eyes : List (Nat × Nat))
  /-- RETRAIN_DUE (R182): A target due by interval or temperature is retrained in a booked outage. -/
  | retrainDue (t ch tgt : Nat) (eye : Nat × Nat) (higher : List (Nat × Nat × Nat))
  /-- ZQ_CALIBRATION (R183): Every ZQ_INTERVAL each target runs short-form ZQ calibration. -/
  | zqCalibration (t ch tgt : Nat) (ok : Bool)
  /-- NAND_TEMPERATURE_READ (R195): Once per NTEMP_INTERVAL each LUN's on-die temperature is read
  or substituted. -/
  | nandTemperatureRead (t lun : Nat) (reading : Option Int)
  /-- ERASE_INTENT_PROGRAMMED (R192): When an intent page has passed in every copy, its erases are
  issued. -/
  | eraseIntentProgrammed (t : Nat)
  /-- EI_CLEAR_DELAY (R192): Pending clears waiting EI_CLEAR_DELAY cause an empty intent page to
  carry cleared-through. -/
  | eiClearDelay (t : Nat)
  /-- DECODE_COMPLETE (R207): An LDPC decode ends and passes or fails its checks, moving the
  codeword up the recovery ladder. -/
  | decodeComplete (t task : Nat) (result : Decode)
  /-- REALLOCATION (R224): A recovered unit in the queue is written by RF and switched if its map
  entry still names the source. -/
  | reallocation (t : Nat)
  /-- RELOCATION (R225): RF moves the valid units of marked and refresh-due superblocks. -/
  | relocation (t : Nat)
  /-- RETENTION_STRESS_TICK (R212): Once per minute each closed superblock's retention stress
  grows by its band. -/
  | retentionStressTick (t : Nat)
  /-- ZONE_LEARNING_PERIOD (R216): Every ZT_LEARN_PERIOD each zone's order is resorted by counts
  and the counts halved. -/
  | zoneLearningPeriod (t : Nat)
  /-- STRIPE_ROW_CLOSE (R144): A row whose members all passed closes, placing each newest slot in
  the map and freeing slots. -/
  | stripeRowClose (t : Nat) (row : RowClose)
  /-- CRU_CLOSE_TIME (R144): An open row holding data for CRU_CLOSE_TIME is closed with filler. -/
  | cruCloseTime (t row : Nat)
  /-- JOURNAL_PAGE_PROGRAMMED (R137): A full journal half programmed under SY becomes free again. -/
  | journalPageProgrammed (t stream : Nat)
  /-- CHECKPOINT (R138): The checkpointer copies and programs the slice with the oldest checkpoint
  and records its index entry. -/
  | checkpoint (t : Nat)
  /-- SLICE_LOAD (R139): A map slice is loaded from its checkpoint and journal, on touch or in the
  background. -/
  | sliceLoad (t slice : Nat) (badUnits : List Nat)
  /-- FOLD (R147): The Planisher folds the oldest closed SLC superblock into QLC. -/
  | fold (t : Nat)
  /-- DESTINATION_PAGE_SAFE (R149): When a destination page becomes safe, each unit still at its
  source is switched to it. -/
  | destinationPageSafe (t sb slot : Nat)
  /-- SOURCE_RELEASE (R150): A source superblock with all units switched or dead and no pins is
  released for erase. -/
  | sourceRelease (t sb : Nat)
  /-- GC_VICTIM_CHOICE (R152): Garbage collection chooses a victim by cost-benefit or least valid
  data. -/
  | gcVictimChoice (t : Nat)
  /-- SUPERBLOCK_ASSEMBLY (R238): A superblock is assembled from the next layout row whose dies
  have free blocks. -/
  | superblockAssembly (t stream layout : Nat)
  /-- PATCH_ENTRY_EFFECT (R245): A patch entry takes effect once its record and patch pages have
  passed. -/
  | patchEntryEffect (t sb row : Nat)
  /-- PATROL_ROW (R248): The Assayer reads a row, forms syndromes and repairs parity or data or
  marks it unresolved. -/
  | patrolRow (t sb row : Nat) (members : List (Option (List CwDecode)))
  /-- RECAST (R250): Recast takes the next exposed superblock and releases, folds, collects or
  replaces members. -/
  | recast (t : Nat)
  /-- MEMBER_REPLACEMENT_COMPLETE (R252): A replacement block programmed to its end is named in
  the superblock record and m falls. -/
  | memberReplacementComplete (t sb member : Nat)
  /-- FENCE_TIME_EXPIRY (R18): At the end of FENCE_TIME a unit whose probe has not passed is
  retired. -/
  | fenceTimeExpiry (t unit : Nat)
  /-- PROBE_COMPLETE (R18): A fenced unit's probe ends, returning it to its prior state or
  retiring it. -/
  | probeComplete (t unit : Nat) (pass : Bool)
  /-- ADC_SCAN (R416): Each 125 µs the housekeeping ADC converts its 16 slots and the gauge counts
  charge; `chgDone` is STORE_CHG_DONE# low (R268). -/
  | adcScan (t : Nat) (codes : List AdcCode) (chgDone : Bool)
  /-- STORE_INSERTED (R274): An inserted store is gauged by its first estimate and tap-checked. -/
  | storeInserted (t vstk : Nat)
  /-- STORE_REMOVED (R287): A removed store is retired, then ABSENT, and write-through begins. -/
  | storeRemoved (t : Nat)
  /-- GAUGE_HIBERNATE (R275): With low store current for 1 s in PS4 or AON-only the gauge stops
  scanning. -/
  | gaugeHibernate (t : Nat)
  /-- GAUGE_WAKE (R275): Store current or a wake source wakes the gauge, which limits Q_a to the
  measured voltage. -/
  | gaugeWake (t vstk : Nat) (amps : Int)
  /-- TAP_CHECK (R284): A tap check draws current from each tap in turn and classifies open taps
  and bad cells. -/
  | tapCheck (t tap moved : Nat)
  /-- TAP_CHECK_INTERVAL (R286): Every TAP_CHECK_INTERVAL a check of every tap starts. -/
  | tapCheckInterval (t : Nat)
  /-- TAP_CHECK_RUN (R286): Writing TAP_CHECK_RUN starts a check of every tap or is refused. -/
  | tapCheckRun (t : Nat) (x : Xport) (value : Nat)
  /-- PROOF_INTERVAL (R277): After PROOF_INTERVAL at the full anchor a hold-up proof starts. -/
  | proofInterval (t : Nat)
  /-- PROOF_RUN (R277): Writing PROOF_RUN starts a proof at the full anchor or reads back result
  4. -/
  | proofRun (t : Nat) (x : Xport) (value : Nat)
  /-- PROOF_END (R278): A proof ends at PROOF_DV, margin or fault and sets ESR, C and the learned
  flush cost. -/
  | proofEnd (t : Nat) (p : ProofInput)
  /-- STORE_PREPARE (R288): Writing STORE_PREPARE enters write-through and drains the Crucible for
  removal, or ends preparation. -/
  | storePrepare (t : Nat) (x : Xport) (value : Nat)
  /-- POWER_FAIL_TRIGGER (R290): PWR_FAIL# or the 12 V comparator low for PF_FILTER starts the
  power-fail sequence. -/
  | powerFailTrigger (t : Nat) (low : LowInput) (mainReturns : Bool) (flush : FlushInput)
  /-- STASH_MOVE (R310): The Scorebook engine empties the stash by cuckoo moves, undoing after
  SB_MAX_KICKS. -/
  | stashMove (t : Nat)
  /-- CATALOGUE_PAGE_PROGRAMMED (R323): A full catalogue page is programmed into a system
  superblock and freed. -/
  | cataloguePageProgrammed (t : Nat)
  /-- PW_ARM (R325): PW_CMD 1 arms a FREE window with valid fields and zeroes its counts. -/
  | pwArm (t : Nat) (x : Xport)
  /-- PW_REMOVE (R325): PW_CMD 2 retires an ACTIVE window with cause 2. -/
  | pwRemove (t : Nat) (x : Xport)
  /-- PW_CLEAR (R325): PW_CMD 3 returns an unused RETIRED window to FREE. -/
  | pwClear (t : Nat) (x : Xport)
  /-- PW_CONSUMED_WRITE (R328): A consumed count written for a window lowers its outstanding work
  or is ignored. -/
  | pwConsumedWrite (t : Nat) (x : Xport) (port win value : Nat)
  /-- PW_FAULT_WRITE (R329): A non-zero write to PW_FAULT retires the window with cause 3. -/
  | pwFaultWrite (t : Nat) (x : Xport) (port win value : Nat)
  /-- PW_TIMEOUT (R329): A doorbell not consumed within PW_TIMEOUT retires the window with cause
  1. -/
  | pwTimeout (t port win : Nat)
  /-- PEER_DOORBELL (R327): After its data writes and in window order, a delivery's doorbell is
  written to the peer. -/
  | peerDoorbell (t h : Nat)
  /-- DOORBELL_READ_COMPLETION (R327): The read after a cross-port doorbell completes, allowing
  the completion entry or retiring the window. -/
  | doorbellReadCompletion (t h : Nat) (ok : Bool)
  /-- RALLY_LINK_TRAINING (R336): The Rally link trains its lanes and comes up on the widest
  passing set. -/
  | rallyLinkTraining (t lanes : Nat)
  /-- RALLY_LINK_DOWN (R341): The physical Rally link goes down and the partner is lost. -/
  | rallyLinkDown (t : Nat)
  /-- RALLY_LOSS_TIME (R341): No valid frame for RALLY_LOSS_TIME loses the partner. -/
  | rallyLossTime (t : Nat)
  /-- RALLY_ACK_TIMEOUT (R340): With no advance of acknowledgement the sender replays from the
  oldest unacknowledged frame. -/
  | rallyAckTimeout (t : Nat)
  /-- ACK_IDLE (R340): A side with nothing to send for 1 µs sends an ACK. -/
  | ackIdle (t : Nat)
  /-- HELLO_TIMER (R342): HELLO is sent every 1 ms until the partner's arrives. -/
  | helloTimer (t : Nat)
  /-- PAIR_JOIN_WAIT (R342): At start-up a controller with no partner HELLO by PAIR_JOIN_WAIT goes
  SOLO. -/
  | pairJoinWait (t : Nat)
  /-- HELLO (R342): A received HELLO is checked and the pair joins or is refused. -/
  | hello (t : Nat) (hd : RHdr) (hello : HelloFrame)
  /-- ACK (R340): A received ACK advances the acknowledged sequence. -/
  | ack (t : Nat) (hd : RHdr)
  /-- NAK (R340): A received NAK makes the sender replay from the expected sequence. -/
  | nak (t : Nat) (hd : RHdr) (expected : Nat)
  /-- MIRROR_DATA (R345): A mirrored data frame is staged into granted slots under an exclusive
  lock. -/
  | mirrorData (t : Nat) (hd : RHdr) (m : MirrorFrame)
  /-- MIRROR_META (R345): A mirrored metadata frame is staged with its data. -/
  | mirrorMeta (t : Nat) (hd : RHdr) (m : MirrorFrame)
  /-- MIRROR_MAP (R345): A mirrored map operation or catalogue change is applied at its single
  frame. -/
  | mirrorMap (t : Nat) (hd : RHdr) (op unit nsid count : Nat) (entry : List Nat)
  /-- DONE (R343): DONE for a transfer lets the origin post its completion. -/
  | done (t : Nat) (hd : RHdr)
  /-- ABORT_FRAME (R345): ABORT discards a staged transfer. -/
  | abortFrame (t : Nat) (hd : RHdr)
  /-- RESYNC_CTRL (R353): Resynchronisation control frames exchange maps and lists and mark
  granule start and done. -/
  | resyncCtrl (t : Nat) (hd : RHdr) (op index : Nat) (granules : List Nat) (entries : List UnconfEntry)
  /-- RESYNC_DATA (R354): A copied unit is applied unless a newer mirrored write has been applied. -/
  | resyncData (t : Nat) (hd : RHdr) (m : MirrorFrame) (unitState : Nat)
  /-- REMOTE_READ (R354): A remote read request is admitted by the source's own test and answered. -/
  | remoteRead (t : Nat) (hd : RHdr) (unit mask nsid left : Nat)
  /-- REMOTE_DATA (R348): A remote read answer delivers data, a refusal or a loss to the waiting
  read. -/
  | remoteData (t : Nat) (hd : RHdr) (result : Nat) (blocks : List Blk)
  /-- MBOX (R356): A mailbox frame updates the local replica and is acknowledged if fenced. -/
  | mbox (t : Nat) (hd : RHdr) (cell value : Nat) (fenced : Bool)
  /-- MBOX_ACK (R356): A mailbox acknowledgement completes the fenced write. -/
  | mboxAck (t : Nat) (hd : RHdr) (cell : Nat)
  /-- NOTICE (R341): A NOTICE frame reports the partner's power-fail, shutdown, detach, rejoin or
  state change. -/
  | notice (t : Nat) (hd : RHdr) (kind state : Nat)
  /-- MBOX_WRITE (R356): A plain mailbox write updates the replica and sends MBOX. -/
  | mboxWrite (t : Nat) (x : Xport) (cell value : Nat)
  /-- MBOX_FENCED_WRITE (R356): A fenced mailbox write sends MBOX and completes on
  acknowledgement. -/
  | mboxFencedWrite (t : Nat) (x : Xport) (cell value : Nat)
  /-- MBOX_FENCE_TIMEOUT (R356): A fenced write without acknowledgement in 100 µs completes with
  result 2. -/
  | mboxFenceTimeout (t : Nat)
  /-- RESYNC_COPY (R354): The source copies a marked granule to the target under RB. -/
  | resyncCopy (t : Nat)
  /-- DIRTY_MAP_PROGRAM (R352): Within 1 s of a change the dirty-region map and list are
  programmed to both system-area copies. -/
  | dirtyMapProgram (t : Nat)
  /-- IMAGE_WRITE (R373): After IMAGE_DELAY the persistent image is written to the older slot. -/
  | imageWrite (t : Nat)
  /-- IMAGE_FLUSH (R374): Writing IMAGE_FLUSH starts an image write at once. -/
  | imageFlush (t : Nat) (x : Xport) (value : Nat)
  /-- MGMT_KEY_WRAP (R443): Writing MGMT_KEY_WRAP unwraps and provisions the management key unless
  locked. -/
  | mgmtKeyWrap (t : Nat) (x : Xport) (value : Nat)
  /-- SEC_LOCK_SET (R443): Writing SEC_LOCK_SET locks security writes on MCTP and the BAR4 window. -/
  | secLockSet (t : Nat) (x : Xport) (value : Nat)
  /-- SVN_COMMIT (R442): Writing SVN_COMMIT raises SVN_FLOOR to the running image's security
  version. -/
  | svnCommit (t : Nat) (x : Xport) (value : Nat)
  /-- KEY_REVOKE (R457): Writing KEY_REVOKE revokes a root key index unless refused. -/
  | keyRevoke (t : Nat) (x : Xport) (value : Nat)
  /-- PM_TARGET (R400): Writing PM_TARGET requests a power state. -/
  | pmTarget (t : Nat) (x : Xport) (value : Nat)
  /-- MCTP_GET (R385): A vendor-defined GET message returns dictionary records. -/
  | mctpGet (t addr count : Nat) (pecOk : Bool)
  /-- MCTP_SET (R385): A vendor-defined SET message writes dictionary records as Dictionary Set. -/
  | mctpSet (t : Nat) (records : List DictRec) (pecOk : Bool)
  /-- MCTP_CONTROL_MESSAGE (R384): An MCTP control message is answered or refused as unsupported. -/
  | mctpControlMessage (t code eid : Nat) (pecOk : Bool)
  /-- MCTP_REASSEMBLY_TIMEOUT (R384): A message not completed 100 ms after its start is dropped. -/
  | mctpReassemblyTimeout (t : Nat)
  /-- FLIAD_OPEN (R388): An OPEN frame opens an authenticated session and derives its key. -/
  | fliadOpen (t : Nat) (f : FliadFrame)
  /-- FLIAD_CLOSE (R388): A CLOSE frame ends the session. -/
  | fliadClose (t : Nat) (f : FliadFrame)
  /-- FLIAD_GET (R390): A GET frame returns up to 64 dictionary records. -/
  | fliadGet (t : Nat) (f : FliadFrame)
  /-- FLIAD_SET (R390): A SET frame writes up to 64 records as Dictionary Set. -/
  | fliadSet (t : Nat) (f : FliadFrame) (records : List DictRec)
  /-- FLIAD_GET_BLOCK (R390): A GET_BLOCK frame returns a block of a latched OCT entry. -/
  | fliadGetBlock (t : Nat) (f : FliadFrame)
  /-- FLIAD_SET_BLOCK (R390): A SET_BLOCK frame stages a block and the last one commits it. -/
  | fliadSetBlock (t : Nat) (f : FliadFrame)
  /-- FLIAD_IDLE (R388): A session without a valid frame for FLIAD_IDLE ends. -/
  | fliadIdle (t session : Nat)
  /-- NEIGHBOR_SOLICITATION (R386): Neighbor discovery messages are answered for the port's
  addresses. -/
  | neighborSolicitation (t target : Nat)
  /-- ICMPV6_ECHO (R386): An ICMPv6 Echo request is answered. -/
  | icmpv6Echo (t target ident : Nat)
  /-- MGMT_LINK_CHANGE (R386): The management Ethernet link comes up at a speed or goes down. -/
  | mgmtLinkChange (t speed : Nat)
  /-- IDLE_TIMER (R400): An idle timer expiry requests PS3 or PS4. -/
  | idleTimer (t target : Nat)
  /-- PS_ENTRY (R402): With no refuser, the sequencer enters PS3 or PS4, aborting if a refuser or
  wake arises. -/
  | psEntry (t : Nat) (longest : Nat) (wake : Option Nat)
  /-- WAKE_EXIT (R403): A wake source takes the controller from PS3 or PS4 back to its last
  operational state. -/
  | wakeExit (t source : Nat) (frame : List Nat)
  /-- HOUSEKEEPING_WAKE (R406): HOUSEKEEPING_WAKE after entry the timer wakes the controller for
  background work. -/
  | housekeepingWake (t : Nat)
  /-- PMBUS_REQUEST (R409): A voltage request is written and checked, retried up to three times
  and reverted on failure. -/
  | pmbusRequest (t millivolts : Nat) (attempts : List Nat)
  /-- PMB_ALERT (R409): A falling PMB_ALERT# makes the controller read STATUS_WORD on every page
  and clear faults. -/
  | pmbAlert (t : Nat) (status : List Nat)
  /-- VR_PGOOD_LOSS (R410): VR_PGOOD low for 10 µs outside a request is counted and reported. -/
  | vrPgoodLoss (t : Nat)
  /-- AVS_ADJUST (R411): The adaptive control requests a VDD_CORE rise or fall from its margin
  monitors. -/
  | avsAdjust (t step : Nat) (rise : Bool) (attempts : List Nat)
  /-- REFCLK_LOSS (R415): Loss of REFCLK_50M puts the PLL in holdover, stops fetch and drains. -/
  | refclkLoss (t : Nat)
  /-- REFCLK_RETURN (R415): The reference returning within the second relocks the PLL and resumes
  service. -/
  | refclkReturn (t : Nat)
  /-- HOLDOVER_EXPIRY (R415): After holdover ends the cores halt and CSTS.CFS is set. -/
  | holdoverExpiry (t : Nat)
  /-- JUNCTION_AVERAGE (R420): Each millisecond a diode average is formed and levels are crossed
  or cleared. -/
  | junctionAverage (t : Nat) (samples : List (Option Int)) (flush : FlushInput)
  /-- THROTTLE_RISE (R423): Every THROTTLE_RISE in THROTTLE the step rises if still above the
  level. -/
  | throttleRise (t : Nat)
  /-- THROTTLE_RELEASE (R423): Every THROTTLE_RELEASE outside THROTTLE the step falls by one. -/
  | throttleRelease (t : Nat)
  /-- VAON_UP (R434): VAON rising starts the always-on domain on the slow oscillator. -/
  | vaonUp (t : Nat)
  /-- MAIN_12V_GOOD (R434): 12 V above PF_12V_THRESH for 10 ms releases VR_EN. -/
  | main12vGood (t : Nat)
  /-- VR_PGOOD_TIMEOUT (R434): VR_PGOOD not high within 20 ms drops VR_EN and retries after 1 s. -/
  | vrPgoodTimeout (t : Nat)
  /-- START (R435): The eight-step start-up sequence runs from boot ROM to ready. -/
  | start (t : Nat) (inp : StartInput)
  /-- TOUCH_LOAD_COMPLETE (R439): A warm-up touch load ends and the waiting read's remaining terms
  are computed. -/
  | touchLoadComplete (t h : Nat)
  /-- EVENT_SECOND_END (R464): At each second's end count records and suppression records are
  written. -/
  | eventSecondEnd (t : Nat)
  /-- EXCERPT_PAGE_PROGRAM (R465): An excerpt page is programmed when full or EXCERPT_DELAY after
  its first record. -/
  | excerptPageProgram (t : Nat)
  /-- SHN_DRAIN_LIMIT (R449): When a normal shutdown's drain passes SHN_DRAIN_LIMIT, the commands
  still outstanding end as for an abrupt shutdown and the flush steps follow. -/
  | shnDrainLimit (t : Nat) (flush : FlushInput)
  /-- PERST_DEASSERTION (R115): Deassertion of PERST# on a port starts link training within 20 ms
  and releases WAKE#. -/
  | perstDeassertion (t port : Nat)
  /-- PATROL_OVERDUE (R247): A closed superblock not patrolled within PATROL_PERIOD of its last
  patrol or close is counted in PATROL_OVERDUE, raising event 0x18B when the count becomes
  non-zero. -/
  | patrolOverdue (t : Nat)
  /-- RALLY_FRAME_DISCARD (R340): A Rally frame whose CRC fails is discarded and one NAK is sent
  for the expected sequence. -/
  | rallyFrameDiscard (t : Nat)
  /-- MGMT_RX_DROP (R386): A datagram to a UDP port other than FLIAD_PORT, or any other unhandled
  frame, is dropped and counted in MGMT_RX_DROPS. -/
  | mgmtRxDrop (t udpPort : Nat)
  /-- INTERRUPT_COALESCING_TIME (R79): When the coalescing delay of a vector ends, the delayed
  MSI-X message for posted completions is sent. -/
  | interruptCoalescingTime (t port fn vector : Nat)
  deriving DecidableEq, Repr

end Sys2Proof
end

