-- ==== Sys2Proof/Decode.lean ====
section
/-! DEFINITION. The rows of the table give no bits: a command comes from outside as an operation
with operands and not as a word, so no word spells one. -/
namespace Sys2Proof

/-- The command that a word spells by the table's bits: none, because no row gives bits. -/
def decodeTableWord (_nbits _w : Nat) : Option Instr := none

end Sys2Proof
end

