-- ==== Sys2Proof/Machine/Types.lean ====
section
/-! DEFINITION. The parts of the machine's state that the dictionary, the unit tree, the queues,
the admission unit and the ports hold (Architecture, Promised times, Queues, PCI Express
endpoint, Parameter dictionary, Counters and logs). Plain data throughout. -/
namespace Sys2Proof.Machine

/-- A sparse table keyed by an entry address and an item of that entry; a key that is not
listed holds the entry's default. -/
abbrev Store := List ((Nat × Nat) × Nat)

/-- A sparse map of numbers; a key that is not listed holds the map's default. -/
abbrev SMap := List (Nat × Nat)

/-- The value types of the dictionary (R366). -/
inductive DType where
  | u20 | s20 | e20 | b20 | u40 | u60 | oct
  deriving DecidableEq, Repr

/-- The access rights (R367). -/
inductive Access where
  | ro | rw | wo | rwp | x
  deriving DecidableEq, Repr

/-- What an entry is held separately for (DESC_SCOPE, R393). -/
inductive Scope where
  | device | port | fn | transport | item
  deriving DecidableEq, Repr

/-- One field of an entry and the check it takes (R369, R393): kind 0 zero, 1 range,
2 enumeration. -/
structure Field where
  hi : Nat
  lo : Nat
  kind : Nat
  min : Nat
  max : Nat
  deriving DecidableEq, Repr

/-- A dictionary entry's seven properties (R365); `last` is above `addr` for an array of subs. -/
structure Desc where
  addr : Nat
  last : Nat
  name : String
  type : DType
  access : Access
  dflt : Nat
  dfltVf : Nat
  min : Int
  max : Int
  enum : List Nat
  fields : List Field
  persist : Nat
  scope : Scope
  octets : Nat
  step : Nat
  deriving DecidableEq, Repr

/-- One clamp report (R372). -/
structure ClampRec where
  addr : Nat
  transport : Nat
  kind : Nat
  fn : Nat
  written : Nat
  stored : Nat
  time : Nat
  num : Nat
  deriving DecidableEq, Repr

/-- The dictionary window in BAR4 of one physical function (R380 to R383). -/
structure Win where
  latchAddr : Nat
  latchValue : Nat
  latchTag : Nat
  stageAddr : Nat
  stage1 : Option Nat
  stage2 : Option Nat
  octBuf : Nat
  octLen : Nat
  octTag : Nat
  octWlen : Nat
  octWtag : Nat
  slotMap : SMap
  status : Nat
  statusTag : Nat
  octSelect : Nat
  deriving DecidableEq, Repr

/-- One record of the persistent image (R375): address, item as a function word, value. -/
structure ImgRec where
  addr : Nat
  item : Nat
  value : Nat
  deriving DecidableEq, Repr

/-- One slot of the persistent image (R373, R375): `valid` is its signature, `crc` its last four octets. -/
structure ImgSlot where
  valid : Bool
  seq : Nat
  variant : Nat
  fw : Nat
  recs : List ImgRec
  crc : Nat
  deriving DecidableEq, Repr

/-- The parameter dictionary: the stored values and generation tags, the clamp ring, the
windows, the two image slots, the moment of the first unwritten change, and the records of an image
write in progress. -/
structure Dict where
  vals : Store
  tags : Store
  clamps : List ClampRec
  wins : List Win
  slotA : Option ImgSlot
  slotB : Option ImgSlot
  dirtySince : Option Nat
  writing : Bool
  snap : List ImgRec
  deriving DecidableEq, Repr

/-- One event record (R462); `params` are octets 20 to 31. -/
structure EvRec where
  time : Nat
  src : Nat
  sev : Nat
  ev : Nat
  unit : Nat
  num : Nat
  params : List Nat
  deriving DecidableEq, Repr

/-- The count of one source, or of one cause of a source, in the current second (R464). -/
structure SecCount where
  src : Nat
  cause : Nat
  count : Nat
  firstT : Nat
  deriving DecidableEq, Repr

/-- The event ring, the per-second accounts, the excerpt, and the second whose end was the last to be
handled (R462 to R465). -/
structure Ev where
  ring : List EvRec
  written : List SecCount
  suppressed : List SecCount
  firsts : List SecCount
  refusals : List SecCount
  page : List EvRec
  pageT : Nat
  pages : List (List EvRec)
  sec : Nat
  deriving DecidableEq, Repr

/-- One unit of the unit tree with its own condition (R13 to R20). `probe`: 0 none, 1 running,
2 postponed, 3 passed; `parked` is the cause of a retirement that the configuration has put aside (R492), 0 for none. -/
structure UnitRec where
  unit : Nat
  own : Nat
  prior : Nat
  cause : Nat
  faults : List Nat
  fences : List Nat
  fencesLife : Nat
  lastChange : Nat
  fenceEnd : Nat
  probe : Nat
  parked : Nat
  deriving DecidableEq, Repr

/-- The transient faults of a parent's children within 1 ms (R19): the parent, the moment of the first of them, the
children charged and when, and whether they have been taken into one fault of the parent. -/
structure Spread where
  parent : Nat
  first : Nat
  children : List (Nat × Nat)
  taken : Bool
  deriving DecidableEq, Repr

/-- The unit tree. Units that are not listed hold their default; `cores` are the control cores that have been retired,
4 × cluster + core (R16). -/
structure Un where
  units : List UnitRec
  spreads : List Spread
  cores : List Nat
  deriving DecidableEq, Repr

/-- The state of a command inside the controller (R75 to R91). -/
inductive Phase where
  | fetched
  | waiting
  | admitted
  | working
  | committed
  | ended
  | inside
  deriving DecidableEq, Repr

/-- One command in the controller. Times with the ending `Ps` are picoseconds from the start of
fabric time; `fetchT` and `admitT` are fabric timestamps; `key` is the catalogue entry a Segment Read met, `host`
the data the host sent, `blocks` the data captured at the resolve point, `raUnits` the units read
around, `waitH` the Put or Drop whose end it waits on, `cause` the expiry cause of the trouble it has met (0 none) and
`fault` that its path can no longer serve it, `stallT` since when its completion has waited on a full queue, `order` its place
among the completions (R39, R37, R78), `taken` that it has been admitted (R31), `guests` the slots it has taken of the partner's grant (R344),
`recs` the journal record spaces it has reserved, by stream (R141). -/
structure Cmd where
  h : Nat
  port : Nat
  fn : Nat
  qid : Nat
  cid : Nat
  admin : Bool
  opcode : Nat
  sqe : List Nat
  fetchT : Nat
  cls : Nat
  phase : Phase
  admitT : Nat
  promisePs : Nat
  boundPs : Nat
  extraPs : Nat
  guests : Nat
  recs : List (Nat × Nat)
  smallestUs : Nat
  ra : Bool
  fault : Bool
  step : Nat
  status : Nat
  dw0 : Nat
  dw1 : Nat
  nsid : Nat
  first : Nat
  last : Nat
  resolved : Bool
  resolvedPs : Nat
  blocks : List Blk
  key : List Nat
  slots : List Nat
  credits : Nat
  energy : Nat
  win : Option Nat
  work : Nat
  fenced : Bool
  silent : Bool
  posted : Bool
  xfer : Nat
  peerPs : Nat
  paused : Option Nat
  raUnits : List Nat
  host : List Blk
  waitH : Option Nat
  cause : Nat
  stallT : Option Nat
  order : Nat
  taken : Bool
  deriving DecidableEq, Repr

/-- One entry of the range-lock table (R85 to R88); `owner` marks the entry of a transfer from the granule's owner, which
counts as earlier than the others it meets (R346). An entry that covers no units has a first unit above its last. -/
structure Lock where
  h : Nat
  seq : Nat
  nsid : Nat
  first : Nat
  last : Nat
  excl : Bool
  granted : Bool
  owner : Bool
  deriving DecidableEq, Repr

/-- The range-lock table: the main table and the holdover list, each in order. -/
structure Lk where
  main : List Lock
  held : List Lock
  deriving DecidableEq, Repr

/-- A submission queue (R69 to R75, R98), with the class floor of its function when it was created (R35, R67). -/
structure Sq where
  port : Nat
  fn : Nat
  qid : Nat
  size : Nat
  head : Nat
  tail : Nat
  base : Nat
  prio : Nat
  cq : Nat
  cls : Nat
  floor : Nat
  deleting : Bool
  fetched : Nat
  completed : Nat
  refused : Nat
  eventIdx : Nat
  drain : Bool
  deriving DecidableEq, Repr

/-- A completion queue (R71, R78, R79). -/
structure Cq where
  port : Nat
  fn : Nat
  qid : Nat
  size : Nat
  head : Nat
  tail : Nat
  phase : Nat
  base : Nat
  vector : Nat
  ien : Bool
  eventIdx : Nat
  deriving DecidableEq, Repr

/-- The fetch arbitration of one port (R75): the function being served, the entries it may still
fetch in this round, and per function the weights left of the high, medium and low classes and
the last queue served. -/
structure Arb where
  fn : Nat
  left : Nat
  rounds : List (Nat × List Nat)
  deriving DecidableEq, Repr

/-- The queues, their SRAM context cache (most recently used first) and the arbitration. -/
structure Qs where
  sqs : List Sq
  cqs : List Cq
  cache : List (Nat × Nat)
  arb : List Arb
  deriving DecidableEq, Repr

/-- A pending, coalesced interrupt of a vector (R79). -/
structure Coal where
  vector : Nat
  count : Nat
  since : Nat
  deriving DecidableEq, Repr

/-- One function: its controller registers, features, queues granted, device power state and
reset drain (R68, R69, R79, R80, R104, R110, R115, R116, R118), what the host wrote into its configuration space and MSI-X
table, and the vectors whose pending bit is set (R99, R106, R109). -/
structure Fn where
  port : Nat
  fn : Nat
  en : Bool
  rdy : Bool
  shst : Nat
  ams : Nat
  asqs : Nat
  acqs : Nat
  ab : Nat
  hpw : Nat
  mpw : Nat
  lpw : Nat
  thOver : SMap
  thUnder : SMap
  coalThr : Nat
  coalTime : Nat
  vecNoCoal : List Nat
  coal : List Coal
  apste : Bool
  apst : List ApstEntry
  aeConfig : Nat
  aers : List Nat
  aesPending : List (Nat × Nat × Nat)
  aeMasked : List Nat
  granted : Nat
  ioCreated : Bool
  flr : Nat
  flrT : Nat
  dstate : Nat
  cmse : Bool
  cmbOct : Nat
  cmbBase : Nat
  shadow : Bool
  others : SMap
  changedNs : List Nat
  shnT : Nat
  psMp : List Nat
  cfg : FnCfg
  pba : List Nat
  deriving DecidableEq, Repr

/-- One PCI Express port (R99 to R123): the link, its width in use and at training, the payload
sizes, PERST#, L1, DOE, the sizes latched at its last reset, what the host wrote into its PF's configuration space, the
reference clock's mode taken at training, the AER errors held for each function with the header logged for its first (R99, R105, R126),
whether a placement has needed more port time than the width gives (R120), the memory reads still open in a function-level reset's drain,
by function and command (R116, R117), and the BAR2 sizes in MiB, by function, that stay in force for a buffer after a resize (R110). -/
structure Port where
  port : Nat
  perst : Bool
  link : Nat
  gen : Nat
  width : Nat
  trained : Nat
  rateWidth : Nat
  flit : Bool
  mps : Nat
  clkreq : Bool
  wake : Bool
  pmeEn : Bool
  pmeStatus : Bool
  ltr : Nat
  doeError : Bool
  spdmVersion : Bool
  spdmAlgos : Bool
  readyL23 : Bool
  idleSince : Nat
  bar0 : Nat
  bar2 : Nat
  bar4 : Nat
  vfBar0 : Nat
  vfBar2 : Nat
  totalVfs : Nat
  subsysVendor : Nat
  subsysId : Nat
  cfg : PfCfg
  sris : Bool
  aerErrors : List (Nat × Nat)
  aerHeader : List (Nat × Nat)
  wantWide : Bool
  drains : List (Nat × Nat)
  bar2Held : List (Nat × Nat)
  deriving DecidableEq, Repr

/-- The allocation of one budget in the current inning (R51 to R53), by the nine classes. -/
structure Budget where
  res : Res
  cap : Nat
  alloc : List Nat
  used : List Nat
  debt : List Nat
  pool : Nat
  deriving DecidableEq, Repr

/-- HR tokens placed for a command in one inning of one resource (R54). -/
structure LedgerItem where
  h : Nat
  res : Res
  inning : Nat
  tokens : Nat
  deriving DecidableEq, Repr

/-- Earlier-due work of an admitted command on one resource (R43): codewords on a channel or a
quadrant's hard engines, octets on a port, picoseconds of sensing on a plane of a die. -/
structure WorkItem where
  h : Nat
  res : Res
  plane : Nat
  duePs : Nat
  amount : Nat
  deriving DecidableEq, Repr

/-- The Umpire: budgets, the HR ledger, admitted work, the largest measured times of R45, and
the read-around bus tokens of the inning. -/
structure Um where
  budgets : List Budget
  ledger : List LedgerItem
  work : List WorkItem
  measSusp : Nat
  measTrSlc : Nat
  measTrQlc : Nat
  measProgSlc : Nat
  raBus : SMap
  raInflight : List Nat
  inning : Nat
  supplyPrev : Nat
  deriving DecidableEq, Repr

/-- What the block sends out, in the order sent: the output of the command just executed. -/
inductive Out where
  /-- A completion entry written to a completion queue (R36, R78). -/
  | cqe (port fn cq sqid cid sqHead phase status dw0 dw1 : Nat)
  /-- An MSI-X message (R79, R111). -/
  | msix (port fn vector : Nat)
  /-- Logical blocks sent to the host for a read (R36). -/
  | data (h : Nat) (blocks : List Blk)
  /-- Volume Select on a CE pin of a channel (R175). -/
  | volume (ch pin volume : Nat)
  /-- The octets of a page as a program transfers them over its channel (R205). -/
  | page (lun block plane octets : Nat)
  /-- Octets of a structure returned to the host. -/
  | octets (h : Nat) (octets : List Nat)
  /-- Dictionary records returned (R378), each as address, type, access, status, tag, value. -/
  | recs (h : Nat) (recs : List (List Nat))
  /-- A write into a peer window: bus address, octets (R326, R327). -/
  | peer (port win addr size value : Nat)
  /-- Blocks delivered into a peer window. -/
  | peerData (port win addr : Nat) (blocks : List Blk)
  /-- An error signalled through AER on a port (R117). -/
  | aer (port code : Nat)
  /-- A Rally frame: type, sequence, transfer, and the frame as octets (R338). -/
  | rally (kind seq xfer : Nat) (octets : List Nat)
  /-- A management response as it goes over its transport, in octets (R385, R387). -/
  | frame (x : Xport) (octets : List Nat)
  /-- A management response: transport, command, status, fields. -/
  | reply (x : Xport) (op status : Nat) (fields : List Nat)
  /-- A data object answered through the DOE mailbox of a port (R124). -/
  | doe (port kind : Nat) (octets : List Nat)
  /-- A PMBus write to the regulator at an address (R408, R409): VOUT_COMMAND on page 0 with millivolts, or CLEAR_FAULTS. -/
  | pmbus (addr code value : Nat)
  /-- A link-layer or sideband signal: name of the signal, port, value. -/
  | signal (code port value : Nat)
  deriving DecidableEq, Repr

end Sys2Proof.Machine
end

