-- ==== Sys2Proof/Machine/TypesFlash.lean ====
section
/-! DEFINITION. The parts of the machine's state that hold the map, the Crucible, the
superblocks, the channels and dies, the read tasks and the lost-range log (Flash translation,
Flash channels, Error correction, Declustered stripes). Plain data throughout. -/
namespace Sys2Proof.Machine

/-- One namespace (R133, R164, R236): its granules in order, sizes in LBAs, format, layout, the
controllers it is attached to and the number of its key pair. -/
structure Ns where
  nsid : Nat
  nsze : Nat
  ncap : Nat
  lbaf : Nat
  ext : Bool
  p2 : Bool
  granules : List Nat
  attached : List Nat
  key : Nat
  wrapped : Nat
  formatting : Bool
  deleting : Bool
  detaching : List Nat
  deriving DecidableEq, Repr

/-- One journal record (R136): kind 0 PLACE, 1 DEALLOC, 2 ZERO. -/
structure JRec where
  kind : Nat
  unit : Nat
  count : Nat
  entry : Nat
  seq : Nat
  deriving DecidableEq, Repr

/-- One stream of the journal (R137): the half being filled and the full half, oldest first. -/
structure JStream where
  stream : Nat
  active : List JRec
  full : List JRec
  deriving DecidableEq, Repr

/-- Pages of a system superblock: its number, the first of them in its order, and how many (R138, R146). -/
abbrev SysRun := Nat × Nat × Nat

/-- A journal page on flash (R136 to R138): the records as the 128-bit words programmed, and the pages that hold them. -/
structure JPage where
  stream : Nat
  words : List Nat
  place : List SysRun
  deriving DecidableEq, Repr

/-- A counted slice checkpoint (R138): the moment it was taken and the entries of the slice, with its index entry: its
location, its start sequence and the CRC-32C of the copy. -/
structure Ckpt where
  slice : Nat
  start : Nat
  time : Nat
  entries : SMap
  place : List SysRun
  crc : Nat
  deriving DecidableEq, Repr

/-- A data slot of the Crucible in use (R140 to R144): the unit version it holds as ciphertext
blocks, its write sequence (none before the commit point), whether it was issued to a channel,
its stripe row, whether it carries an energy credit, and whether it is one granted to the partner. -/
structure Slot where
  id : Nat
  unit : Nat
  wseq : Option Nat
  fmt : Nat
  nsid : Nat
  blocks : List Blk
  issued : Bool
  row : Option Nat
  energy : Bool
  h : Nat
  guest : Bool
  deriving DecidableEq, Repr

/-- The map, the namespaces, the journal, the checkpoints and the Crucible. `homes` is the DDR channel of each map slice and
`copies` those of the Crucible's copies (R11). -/
structure Ft where
  nss : List Ns
  map : SMap
  streams : List JStream
  jpages : List JPage
  ckpts : List Ckpt
  loaded : List Nat
  loading : List Nat
  rotation : List Nat
  rotationT : Nat
  slots : List Slot
  dir : SMap
  nextSlot : Nat
  order : List Nat
  sizeMib : Nat
  kept : Bool
  target : Nat
  cmbMib : Nat
  sanitizeStep : Nat
  sanitizeKind : Nat
  sanitizePattern : Nat
  keyNext : Nat
  homes : List Nat
  copies : List Nat
  deriving DecidableEq, Repr

/-- The state of a superblock (R144 to R155, R225, R250); it is assembling until its blocks are
erased in its mode. -/
inductive SbState where
  | assembling
  | open
  | closed
  | folding
  | collecting
  | relocating
  | awaitErase
  deriving DecidableEq, Repr

/-- What a superblock is for: host SLC data, a QLC destination, system pages, the flush
reserve. -/
inductive SbKind where
  | host | dest | system | reserve
  deriving DecidableEq, Repr

/-- One member of a superblock (R132, R214, R225, R226): die, block, hint, codewords read since
close. -/
structure Member where
  lun : Nat
  block : Nat
  hintZone : Nat
  hintSlot : Nat
  hinted : Bool
  reads : Nat
  deriving DecidableEq, Repr

/-- A patch entry (R245). -/
structure Patch where
  row : Nat
  voids : List Nat
  pReloc : Option Nat
  qReloc : Option Nat
  deriving DecidableEq, Repr

/-- A unit placed in a superblock slot (R132). -/
structure Placed where
  slot : Nat
  unit : Nat
  deriving DecidableEq, Repr

/-- A superblock record; `pend` are patch entries that have not taken effect, `record` the patch entries as its pages hold them
(R245), `used` the pages given out of a system superblock, `spoilt` the rows and members that a full patch area left unreadable
(R246). -/
structure Sb where
  idx : Nat
  qlc : Bool
  p2 : Bool
  kind : SbKind
  state : SbState
  members : List Member
  pages : Nat
  rows : Nat
  placed : List Placed
  closeT : Nat
  patches : List Patch
  stress : Nat
  dueT : Option Nat
  marked : Option Nat
  firstMark : Bool
  patrolT : Nat
  patrolRow : Nat
  overdue : Bool
  exposed : Bool
  inWork : Bool
  stream : Nat
  pend : List Patch
  used : Nat
  seq0 : Option Nat
  record : List Nat
  spoilt : List (Nat × Nat)
  deriving DecidableEq, Repr

/-- One open stripe row (R144, R233, R240): the slots placed at data positions (0 for a copy), members that
reported pass of the present pass, failed or were filled, the quadrant of its parity engine and since when it
holds data. `more` is how many passes come after the present one, and `folded` are the words of the data pages folded into its accumulator, by member (R240, R241). -/
structure Row where
  id : Nat
  sb : Nat
  row : Nat
  entries : List (Nat × Nat)
  passed : List Nat
  failed : List Nat
  filler : List Nat
  quad : Nat
  acc : Nat
  since : Nat
  closing : Bool
  parityIssued : Bool
  spanWait : Bool
  more : Nat
  folded : List (Nat × List Nat)
  deriving DecidableEq, Repr

/-- A copy waiting for its switch (R142, R147 to R149): the unit, its source and its destination
entry, the activity class, the write sequence that it carries on, and whether it moves for the reallocation queue (R224). -/
structure Held where
  unit : Nat
  src : Nat
  dst : Nat
  cls : Nat
  wseq : Nat
  queued : Bool
  deriving DecidableEq, Repr

/-- A member replacement of Recast in work (R252): the rows safe on its block, the rows programmed, those of which every pass is,
with the words of the others, and the codeword positions of the present row that cannot be
rebuilt (R255). -/
structure Repl where
  sb : Nat
  pos : Nat
  lun : Nat
  block : Nat
  row : Nat
  prog : Nat
  fin : Nat
  words : List (Nat × List Nat)
  bad : List Nat
  filler : Bool
  deriving DecidableEq, Repr

/-- The superblocks, the layout table's position, fold queue, victims, held copies, member
replacements, the reallocation queue (unit, map entry and the codewords in staging with their words), and the units of failed blocks that have
found no row yet, with their source, class and stream (R154), the LUNs being rebuilt with the moment each began (R260), and the superblock and row that the
Assayer reads. -/
structure Sbs where
  sbs : List Sb
  rows : List Row
  nextRow : Nat
  layoutRow : Nat
  eligible : List Nat
  foldQ : List Nat
  victims : List Nat
  held : List Held
  repls : List Repl
  replCounts : SMap
  realloc : List (Nat × Nat × List (Nat × Nat))
  moveQ : List (Nat × Nat × Nat × Nat)
  rebuilding : List (Nat × Nat)
  patrolAt : Option (Nat × Nat)
  pairMin : Nat
  pairMax : Nat
  deriving DecidableEq, Repr

/-- One block of a LUN (R153 to R156, R226): erases in QLC and SLC mode, scrapped, marks, the
superblock it serves, the mode it was last erased in and has not been programmed since (0 none,
1 SLC, 2 QLC). -/
structure Block where
  lun : Nat
  block : Nat
  qlcErases : Nat
  slcErases : Nat
  scrapped : Bool
  marks : Nat
  sb : Option Nat
  mode : Nat
  fill : Option Nat
  deriving DecidableEq, Repr

/-- The kinds of a media operation. -/
inductive OpKind where
  | read | program | erase
  deriving DecidableEq, Repr

/-- A media operation of a die (R184 to R191): the activity class (0 HR to 8 ST), block mode,
plane, times, suspends used, progress before the last suspend, and what it serves: a read task,
a row member or a block erase; `pollT` is when its next status poll is due, 0 before the first, and `allow` the suspends that it was
allowed when it was issued (R202); `page` are the words that a program puts on its page (R205), `bus` the channel tokens of its transfers,
and `charged` what it has been charged on its die in the inning `chargedAt` (R51); `levels` are the read levels of its senses, a zone entry and a shift in DAC steps (R213, R218). -/
structure Op where
  kind : OpKind
  cls : Nat
  qlc : Bool
  block : Nat
  plane : Nat
  issueT : Nat
  resumeT : Nat
  doneProg : Nat
  suspends : Nat
  suspended : Bool
  suspendT : Option Nat
  task : Nat
  row : Nat
  member : Nat
  retries : Nat
  confirmed : Bool
  senses : Nat
  levels : List (Nat × Int)
  pollT : Nat
  allow : Nat
  page : List Nat
  bus : Nat
  charged : Nat
  chargedAt : Nat
  deriving DecidableEq, Repr

/-- One die (R156, R176 to R178, R195): geometry, good blocks at the first format, operations
issued and queued, temperature, its age in intervals and when its interval began, and the latest times of its reads, programs and erases (R184). -/
structure Die where
  lun : Nat
  planes : Nat
  good : Nat
  blocks : List Block
  ops : List Op
  temp : Option Int
  tempAge : Nat
  tempT : Nat
  times : List (OpKind × Nat)
  deriving DecidableEq, Repr

/-- One target (R175 to R177, R182): fitted, its trims as an octet record, the temperature and
moment of its last training, its volume address once appointed, the termination and drive strength set for it, and the width of its eye in
per mille of a UI (R179). -/
structure Tgt where
  tgt : Nat
  fitted : Bool
  maxRate : Nat
  iface : Nat
  luns : Nat
  suspend : Bool
  independent : Bool
  softBit : Bool
  trims : Nat
  trainTemp : Int
  trainT : Nat
  zqT : Nat
  volume : Option Nat
  odt : Nat
  drive : Nat
  eye : Nat
  deriving DecidableEq, Repr

/-- The interface entries of R199 as the last full training attempt of a channel took them. -/
structure TrainSet where
  rateMax : Nat
  floor : Nat
  odt : Nat
  drive : Nat
  ntemp : Nat
  deriving DecidableEq, Repr

/-- One channel (R172, R174, R180, R182): `jobs` are the booked retrainings, as target and innings, `selected` the volume
selected on each CE pin (R175), and `set` the interface entries in force (R199). -/
structure Chan where
  ch : Nat
  rate : Nat
  configured : Nat
  fails : Nat
  wp : Bool
  outages : List Nat
  eye : Nat
  jobs : List (Nat × List Nat)
  selected : List Nat
  set : TrainSet
  deriving DecidableEq, Repr

/-- One entry of the erase-intent ring that is not cleared (R192, R193). -/
structure Intent where
  lun : Nat
  block : Nat
  planes : Nat
  kind : Nat
  seq : Nat
  sb : Nat
  written : Bool
  ended : Bool
  deriving DecidableEq, Repr

/-- An entry as an erase-intent page holds it (R193). -/
structure EiEntry where
  lun : Nat
  block : Nat
  planes : Nat
  kind : Nat
  seq : Nat
  sb : Nat
  deriving DecidableEq, Repr

/-- A page of the erase-intent ring (R192, R193): the copy of the system area, its place among the ring's 8 blocks, and its
fields. -/
structure EiPage where
  copy : Nat
  block : Nat
  page : Nat
  first : Nat
  cleared : Nat
  entries : List EiEntry
  crc : Nat
  deriving DecidableEq, Repr

/-- Channels, targets, dies and the erase-intent ring: its entries not cleared, its pages in both copies, and how many pages have
been written to it. The geometry fields are those of the reference target (R177); `answering` is what identification found at the last start (R176), and `geometry` the reference target recorded with the fitted set (R177). -/
structure Md where
  chans : List Chan
  tgts : List Tgt
  dies : List Die
  planes : Nat
  pagesPerBlock : Nat
  passes : Nat
  intents : List Intent
  ring : List EiPage
  ringAt : Nat
  cleared : Nat
  clearSince : Option Nat
  answering : List TgtInfo
  geometry : Option TgtInfo
  deriving DecidableEq, Repr

/-- A member read in a reconstruction (R48, R208): its position in the stripe, the page that is read, and the quadrant and the engine
that decode it. -/
structure MRead where
  pos : Nat
  entry : Nat
  quad : Nat
  engine : Nat
  deriving DecidableEq, Repr

/-- One codeword being read (R218 to R221), with `grp` the number that its die reads carry: the command or internal reader, the unit, the
codeword position, the map entry it reads, the zone and the table entries in force, the step reached, the
position in the order of entries, the LDPC engine with the quadrant that decodes it, the members that a reconstruction reads,
its own position in the stripe, whether the codeword is one of parity (R234), and when the bound of its step ends, in ps (R210). -/
structure Task where
  id : Nat
  h : Nat
  unit : Nat
  cw : Nat
  entry : Nat
  order : List Nat
  zone : Nat
  levels : List Nat
  idx : Nat
  step : Nat
  reached : Nat
  raTried : Bool
  ran3 : Bool
  cls : Nat
  own : Nat
  word : Option Nat
  quad : Nat
  engine : Nat
  cont : Bool
  skipped : Bool
  grp : Nat
  members : List MRead
  pos : Nat
  parity : Bool
  endPs : Nat
  deriving DecidableEq, Repr

/-- The pass counts of one zone's slots (R216). -/
structure ZoneCount where
  key : Nat
  counts : List Nat
  deriving DecidableEq, Repr

/-- One copy of the zone tables in the system area (R215): its generation, its CRC-32C and the stored values. -/
structure ZtCopy where
  copy : Nat
  gen : Nat
  crc : Nat
  table : Store
  deriving DecidableEq, Repr

/-- The codewords in the read ladder, the pins on source superblocks, the zone counts with the moment of the last learning, and
the zone tables of the system area. -/
structure Rd where
  tasks : List Task
  nextTask : Nat
  pins : List (Nat × Nat)
  counts : List ZoneCount
  learnT : Nat
  saved : List ZtCopy
  deriving DecidableEq, Repr

/-- One run of the lost-range log (R257). -/
structure Lost where
  first : Nat
  count : Nat
  cause : Nat
  nsid : Nat
  nsUnit : Nat
  deriving DecidableEq, Repr

end Sys2Proof.Machine
end

