-- ==== Sys2Proof/Machine/TypesSafety.lean ====
section
/-! DEFINITION. The parts of the machine's state that hold the store and its gauge, the
Hallmark, the Scorebook, the peer windows, the pair, the management transports, the power,
clock and temperature control, the firmware slots and the host logs. Plain data throughout. -/
namespace Sys2Proof.Machine

/-- The Touchstone gauge and the store (R268 to R289). `qa` counts nanocoulombs; run counts are
consecutive scans; `waking` holds from a wake until the next scan has limited the count (R275). -/
structure Store9 where
  present : Bool
  chgDoneLow : Bool
  qa : Nat
  settling : Nat
  peakI : Int
  lowRun : Nat
  highRun : Nat
  overRun : Nat
  noChg : Nat
  chgOff : Bool
  hold : Bool
  atFull : Bool
  prevOcv : Option Int
  prevOver : Nat
  suspects : List Nat
  lateRuns : List Nat
  missing : Nat
  lastE : Nat
  proof : Bool
  proofDue : Nat
  tapCheck : Nat
  tapT : Nat
  tapOpen : Nat
  hibernate : Bool
  lowCur : Nat
  estimate : Bool
  dirty : Nat
  tapDue : Nat
  lastI : Int
  waking : Bool
  deriving DecidableEq, Repr

/-- One stream end of a Hallmark (R294). -/
structure StreamEnd where
  stream : Nat
  loc : Nat
  seq : Nat
  deriving DecidableEq, Repr

/-- The Hallmark page (R294). -/
structure Hallmark where
  session : Nat
  reason : Nat
  result : Nat
  flags : Nat
  jseq : Nat
  lastSeq : Nat
  slots : Nat
  pages : Nat
  energy : Nat
  micros : Nat
  time : Nat
  ends : List StreamEnd
  evNext : Nat
  excerptLost : Nat
  crc : Nat
  deriving DecidableEq, Repr

/-- A Scorebook entry (R306); `key` is the 16 octets, little-endian. -/
structure SbEntry where
  key : Nat
  nsid : Nat
  slba : Nat
  length : Nat
  gen : Nat
  flags : Nat
  pending : Nat
  deriving DecidableEq, Repr

/-- A catalogue record (R322). `place` is bucket × 2 + slot, or 2^31 + stash index. -/
structure CatRec where
  set : Bool
  place : Nat
  seq : Nat
  entry : SbEntry
  deriving DecidableEq, Repr

/-- A catalogue checkpoint slice, and the pages that hold it (R324). -/
structure CatCkpt where
  slice : Nat
  start : Nat
  time : Nat
  entries : List (Nat × SbEntry)
  place : List SysRun
  deriving DecidableEq, Repr

/-- A catalogue page on flash and its place (R323): its records as the 64-octet words programmed (R322). -/
structure CatPage where
  words : List Nat
  place : List SysRun
  deriving DecidableEq, Repr

/-- The Scorebook: positions in use (bucket × 2 + slot), the stash by index with the order of
age, the pages in the Crucible, pages on flash, slices loaded and checkpoints; `tried` are the
stash entries returned since the others were last tried, `rotation` the slices checkpointed since `rotationT`. -/
structure Book where
  cells : List (Nat × SbEntry)
  stash : List (Nat × SbEntry)
  next : Bool
  page : List CatRec
  full : List CatRec
  flash : List CatPage
  loaded : List Nat
  ckpts : List CatCkpt
  created : Bool
  placeholders : List (Nat × SbEntry)
  tried : List Nat
  rotation : List Nat
  rotationT : Nat
  deriving DecidableEq, Repr

/-- A peer window's working state (R325 to R329): the fields that took effect at the last arm, the
doorbells written, the consumed count accepted, the times of the doorbells not consumed, the commands
that use it, and those that wait for the read behind their doorbell. -/
structure Win5 where
  port : Nat
  win : Nat
  state : Nat
  base : Nat
  size : Nat
  dbAddr : Nat
  dbSize : Nat
  template : Nat
  fieldA : Nat
  fieldB : Nat
  maxWork : Nat
  owner : Nat
  ordered : Bool
  timeoutMs : Nat
  count : Nat
  accepted : Nat
  timers : List Nat
  users : List Nat
  reading : List Nat
  deriving DecidableEq, Repr

/-- A transfer between the controllers of a pair (R343, R345). `stage` holds the frames staged
on the partner, `mirror` whether the last frame was sent or has come, `sent` whether the frames before
the last were handed to the link. -/
structure Xfer where
  id : Nat
  h : Nat
  origin : Bool
  slots : Nat
  mirror : Bool
  done : Bool
  nsid : Nat
  first : Nat
  count : Nat
  fmt : Nat
  whole : Bool
  slba : Nat
  blocks : List Blk
  kind : Nat
  sent : Bool
  deriving DecidableEq, Repr

/-- A sequenced Rally frame kept for replay (R340). -/
structure Sent where
  seq : Nat
  kind : Nat
  xfer : Nat
  fields : List Nat
  blocks : List Blk
  deriving DecidableEq, Repr

/-- The pair over the Rally link (R336 to R358): `savedMarks` and `savedUnconf` are the map and the list as last
programmed (R352), `queue` holds frames that wait for a link credit,
`back` the receive buffers freed since the last report, `partnerState` the pair state that the partner reported last (R339), and
`replays` the unconfirmed entries still to be replayed (R353). -/
structure Pr where
  strap : Nat
  lanes : Nat
  up : Bool
  joined : Bool
  sendNext : Nat
  recvNext : Nat
  acked : Nat
  window : List Sent
  credits : Nat
  nakFor : Option Nat
  lastRx : Nat
  lastAckT : Nat
  replayT : Option Nat
  slotsOut : Nat
  grant : Nat
  slotsIn : Nat
  slotsFreed : Nat
  xfers : List Xfer
  nextXfer : Nat
  marks : List Nat
  peerMarks : List Nat
  diverged : List Nat
  unconfirmed : List UnconfEntry
  peerUnconf : List UnconfEntry
  mapDirty : Option Nat
  savedMarks : List Nat
  savedUnconf : List UnconfEntry
  source : Bool
  copying : Option Nat
  pendingGr : List Nat
  startSeen : List Nat
  newer : List Nat
  remote : List (Nat × Nat)
  fences : List (Nat × Nat × Nat)
  partnerIndex : Nat
  partnerBoot : Nat
  partnerCtl : Nat
  partnerState : Nat
  pairKey : Nat
  joinWait : Bool
  resyncT : Nat
  resyncBytes : Nat
  refused : Bool
  helloSent : Bool
  queue : List Sent
  back : Nat
  replays : List UnconfEntry
  deriving DecidableEq, Repr

/-- A Fliad session (R388 to R390). -/
structure Sess where
  id : Nat
  key : Nat
  last : Nat
  reply : List Nat
  frame : List Nat
  lastT : Nat
  block : Nat
  blockLen : Nat
  blockTag : Nat
  blockAddr : Nat
  stage : Nat
  stageEnd : Nat
  deriving DecidableEq, Repr

/-- The management transports (R384 to R390): `smbAddr` and `smbSpeed` are the SMBus address and speed in force (R395). -/
structure Mg where
  sessions : List Sess
  key : Option Nat
  sessNext : Nat
  smbAddr : Nat
  smbSpeed : Nat
  deriving DecidableEq, Repr

/-- Power states, clocks and supplies (R398 to R415). `clock`: 0 fast oscillator, 1 root PLL,
2 holdover, 3 slow oscillator. -/
structure Pm where
  idleT : Nat
  enteredT : Nat
  wanted : Option Nat
  requestIdle : Bool
  clock : Nat
  holdoverT : Option Nat
  vrEn : Bool
  vrGood : Bool
  vcoreFails : Nat
  avsStopped : Bool
  avsT : Nat
  marginT : Nat
  refill : Bool
  smbusHeld : Bool
  deriving DecidableEq, Repr

/-- Junction temperature control (R420 to R425). Averages are in sixteenths of a degree. -/
structure Th where
  warnUp : Nat
  warnDown : Nat
  thrUp : Nat
  thrDown : Nat
  shutUp : Nat
  shutDown : Nat
  invalid : Nat
  valid : Nat
  lastValid : Option Int
  stepT : Nat
  hotT : Nat
  warnMs : Nat
  critMs : Nat
  deriving DecidableEq, Repr

/-- A firmware slot or download as the checks of R440 read it; `bodySha` and `keySha` are the
SHA-384 of the body and of the public key as held, `sigOk` whether the signature verifies. -/
structure Image where
  present : Bool
  magicOk : Bool
  keyIndex : Nat
  length : Nat
  svn : Nat
  version : Nat
  variants : Nat
  bodyDigest : Nat
  bodySha : Nat
  keySha : Nat
  sigOk : Bool
  deriving DecidableEq, Repr

/-- Firmware slots 1 to 3, the octets downloaded as a little-endian number and how many they are, the slot that last ran, a no-reset activation waiting
for its drain, and the state of a device-wide shutdown. -/
structure Fw where
  slots : List Image
  down : Nat
  downOct : Nat
  lastRan : Nat
  fwaH : Option Nat
  fwaT : Option Nat
  fwaSlot : Nat
  shn : Nat
  shnKind : Nat
  startT : Nat
  readyT : Nat
  startTimes : List Nat
  deriving DecidableEq, Repr

/-- One entry of the Error Information log (R466). -/
structure ErrRec where
  count : Nat
  sqid : Nat
  cid : Nat
  status : Nat
  lba : Nat
  nsid : Nat
  deriving DecidableEq, Repr

/-- One telemetry capture (R466): Data Area 1 as octets, the ring and the excerpt. -/
structure Telem where
  area1 : List Nat
  ring : List EvRec
  kept : List EvRec
  deriving DecidableEq, Repr

/-- The host logs: Error Information, self-test (code, result and segment of each, newest first; what the test running
will report, who started it, and the units that its segment has left to read, of how many), SMART counts, those of data in
blocks of 512 octets, and telemetry (R94, R158, R297, R426, R466). -/
structure Lg where
  errs : List ErrRec
  errCount : Nat
  selfTests : List (Nat × Nat × Nat)
  stOwner : Option (Nat × Nat)
  stFailing : Nat
  stLeft : List (Nat × Nat)
  stTotal : Nat
  mediaErrors : Nat
  unitsRead : Nat
  unitsWritten : Nat
  readCmds : Nat
  writeCmds : Nat
  telemAvail : Bool
  telemHost : Option Telem
  telemCtrl : Option Telem
  badRecovery : Bool
  sanLog : Nat
  deriving DecidableEq, Repr

/-- What the fuses and straps of one part hold (R2, R5, R106, R440, R442, R443, R457). -/
structure Fuse where
  variant : Nat
  deviceId : Nat
  rev : Nat
  serial : Nat
  mac : Nat
  keyDigests : List Nat
  keyRevoked : List Bool
  svnFloor : Nat
  pubkey : Nat
  secret : Nat
  deriving DecidableEq, Repr

/-- Where the controller stands between power and service (R434 to R451). -/
inductive Run where
  | dark
  | standby
  | rails
  | starting
  | ready
  | recovery
  | shut
  | halted
  | thermalHold
  deriving DecidableEq, Repr

/-- A state without the main rails: the always-on domain alone. -/
def Run.railsOff : Run → Bool
  | .standby => true
  | .thermalHold => true
  | _ => false

/-- The run state with its companions: the step a start reached (8: ready), its cause, whether the
controller status carries CFS, whether maintenance mode is in force, whether DRAM holds
valid training, and PAIR_MODE and PORT_MODE as the last start took them (R126, R360). -/
structure Boot where
  run : Run
  cfs : Bool
  maint : Bool
  maintT : Nat
  cause : Nat
  trained : Bool
  hallmark : Option Hallmark
  found : Option Hallmark
  copies : List Bool
  ddrGib : List Nat
  ddrRate : List Nat
  fetchHeld : Bool
  retryT : Nat
  railsT : Nat
  step : Nat
  pairMode : Nat
  portMode : Nat
  deriving DecidableEq, Repr

/-- The block: everything but the queue of waiting commands. `out` is what the last command
sent out, `nextH` the next command handle, `rnd` the draws made from the random source and
`free` the free values taken. -/
structure Chip where
  now : Nat
  fuse : Fuse
  boot : Boot
  dict : Dict
  ev : Ev
  un : Un
  fns : List Fn
  ports : List Port
  qs : Qs
  cmds : List Cmd
  nextH : Nat
  lk : Lk
  um : Um
  ft : Ft
  sb : Sbs
  md : Md
  rd : Rd
  lost : List Lost
  st : Store9
  book : Book
  wins : List Win5
  pr : Pr
  mg : Mg
  pm : Pm
  th : Th
  fw : Fw
  lg : Lg
  rnd : Nat
  free : Nat
  out : List Out
  deriving DecidableEq, Repr

end Sys2Proof.Machine
end

