-- ==== Sys2Proof/Machine/DictA.lean ====
section
/-! DEFINITION. The dictionary entries 0x1000–0x2FFF with the properties of R365, one row each as the
manual's tables give them: first and last address, name, type, access, default, default on a
virtual function, minimum, maximum, listed codes, fields, persistence, scope, octets, rounding
step. -/
namespace Sys2Proof.Machine

def dictRowsA0 : List Desc := [
  ⟨0x100001, 0x100001, "VENDOR_ID", .u20, .ro, 7997, 7997, 0, 1048575, [], [], 0, .device, 0, 0⟩,
  ⟨0x100002, 0x100002, "PF_DEVICE_ID", .u20, .ro, 0, 0, 0x9616, 0x9632, [0x9616, 0x9632], [], 0, .device, 0, 0⟩,
  ⟨0x100003, 0x100003, "SILICON_REV", .u20, .ro, 0, 0, 0, 1048575, [], [⟨19, 8, 0, 0, 0⟩, ⟨7, 4, 1, 0, 15⟩, ⟨3, 0, 1, 0, 15⟩], 0, .device, 0, 0⟩,
  ⟨0x100004, 0x100004, "VARIANT", .e20, .ro, 0, 0, 0, 2, [0, 1, 2], [], 0, .device, 0, 0⟩,
  ⟨0x101001, 0x101001, "UNIT_SELECT", .u20, .rw, 0, 0, 0, 1048575, [], [], 0, .transport, 0, 0⟩,
  ⟨0x101002, 0x101002, "UNIT_OWN_STATE", .e20, .ro, 0, 0, 0, 4, [0, 1, 2, 3, 4], [], 0, .item, 0, 0⟩,
  ⟨0x101003, 0x101003, "UNIT_STATE", .e20, .ro, 0, 0, 0, 4, [0, 1, 2, 3, 4], [], 0, .item, 0, 0⟩,
  ⟨0x101004, 0x101004, "UNIT_TRANSIENTS", .u20, .ro, 0, 0, 0, 1048575, [], [], 0, .item, 0, 0⟩,
  ⟨0x101005, 0x101005, "UNIT_FENCES", .u20, .ro, 0, 0, 0, 1048575, [], [], 0, .item, 0, 0⟩,
  ⟨0x101006, 0x101006, "UNIT_FENCES_LIFE", .u40, .ro, 0, 0, 0, 1099511627775, [], [], 2, .item, 0, 0⟩,
  ⟨0x101007, 0x101007, "UNIT_LAST_CHANGE", .u60, .ro, 0, 0, 0, 1152921504606846975, [], [], 0, .item, 0, 0⟩,
  ⟨0x101008, 0x101008, "UNIT_CAUSE", .e20, .ro, 0, 0, 0, 7, [0, 1, 2, 3, 4, 5, 6, 7], [], 2, .item, 0, 0⟩,
  ⟨0x101009, 0x101009, "UNIT_RETIRE", .u20, .x, 0, 0, 0, 1048575, [], [], 0, .device, 0, 0⟩,
  ⟨0x10100A, 0x10100A, "UNIT_RETIRE_RESULT", .e20, .ro, 0, 0, 0, 3, [0, 1, 2, 3], [], 0, .device, 0, 0⟩,
  ⟨0x102001, 0x102001, "LUN_STATES", .oct, .ro, 0, 0, 0, 2048, [], [], 0, .device, 2048, 0⟩,
  ⟨0x102002, 0x102002, "TGT_STATES", .oct, .ro, 0, 0, 0, 512, [], [], 0, .device, 512, 0⟩,
  ⟨0x102003, 0x102003, "CHAN_STATES", .oct, .ro, 0, 0, 0, 32, [], [], 0, .device, 32, 0⟩,
  ⟨0x102004, 0x102004, "QUAD_STATES", .oct, .ro, 0, 0, 0, 4, [], [], 0, .device, 4, 0⟩,
  ⟨0x102005, 0x102005, "OTHER_STATES", .oct, .ro, 0, 0, 0, 65, [], [], 0, .device, 65, 0⟩,
  ⟨0x103001, 0x103001, "SERVICE_LEVEL", .e20, .ro, 0, 0, 0, 2, [0, 1, 2], [], 0, .device, 0, 0⟩,
  ⟨0x103002, 0x103002, "FLOOR_FAULTS", .b20, .ro, 0, 0, 0, 1048575, [], [⟨19, 6, 0, 0, 0⟩, ⟨5, 0, 1, 0, 63⟩], 0, .device, 0, 0⟩,
  ⟨0x103003, 0x103003, "WT_CAUSE", .b20, .ro, 0, 0, 0, 1048575, [], [⟨19, 5, 0, 0, 0⟩, ⟨4, 0, 1, 0, 31⟩], 0, .device, 0, 0⟩,
  ⟨0x114001, 0x114001, "TRANSIENT_LIMIT", .u20, .rwp, 3, 3, 2, 16, [], [], 1, .device, 0, 0⟩,
  ⟨0x114002, 0x114002, "FENCE_LIMIT", .u20, .rwp, 8, 8, 1, 64, [], [], 1, .device, 0, 0⟩,
  ⟨0x114003, 0x114003, "FENCE_TIME", .u20, .rwp, 100, 100, 10, 1000, [], [], 1, .device, 0, 0⟩,
  ⟨0x114004, 0x114004, "TRANSIENT_WINDOW", .u20, .rwp, 1000, 1000, 100, 10000, [], [], 1, .device, 0, 0⟩,
  ⟨0x114005, 0x114005, "FENCE_WINDOW", .u20, .rwp, 24, 24, 1, 168, [], [], 1, .device, 0, 0⟩,
  ⟨0x114006, 0x114006, "BACKOFF_BASE", .u20, .rwp, 10, 10, 1, 1000, [], [], 1, .device, 0, 0⟩,
  ⟨0x114007, 0x114007, "RETRY_LIMIT", .u20, .rwp, 3, 3, 1, 8, [], [], 1, .device, 0, 0⟩,
  ⟨0x114008, 0x114008, "PARENT_SPREAD", .u20, .rwp, 3, 3, 2, 8, [], [], 1, .device, 0, 0⟩,
  ⟨0x1F0001, 0x1F0001, "SNAP_TAKE", .u20, .x, 0, 0, 1, 1, [], [], 0, .device, 0, 0⟩,
  ⟨0x1F0002, 0x1F0002, "SNAP_GEN", .u20, .ro, 0, 0, 0, 1048575, [], [], 0, .transport, 0, 0⟩,
  ⟨0x1F0003, 0x1F0003, "SNAP_TIME", .u60, .ro, 0, 0, 0, 1152921504606846975, [], [], 0, .transport, 0, 0⟩,
  ⟨0x1F0004, 0x1F0004, "SNAP_SERVICE", .e20, .ro, 0, 0, 0, 2, [0, 1, 2], [], 0, .transport, 0, 0⟩,
  ⟨0x1F0005, 0x1F0005, "SNAP_CTL_STATE", .e20, .ro, 0, 0, 0, 4, [0, 1, 2, 3, 4], [], 0, .transport, 0, 0⟩,
  ⟨0x1F0006, 0x1F0006, "SNAP_FLOOR", .b20, .ro, 0, 0, 0, 1048575, [], [⟨19, 6, 0, 0, 0⟩, ⟨5, 0, 1, 0, 63⟩], 0, .transport, 0, 0⟩,
  ⟨0x1F0007, 0x1F0007, "SNAP_FUNCS", .u20, .ro, 0, 0, 0, 1024, [], [], 0, .transport, 0, 0⟩,
  ⟨0x1F0008, 0x1F0008, "SNAP_QPAIRS", .u40, .ro, 0, 0, 0, 1048576, [], [], 0, .transport, 0, 0⟩,
  ⟨0x1F0009, 0x1F0009, "SNAP_ADMITTED", .u40, .ro, 0, 0, 0, 1099511627775, [], [], 0, .transport, 0, 0⟩,
  ⟨0x1F000A, 0x1F000A, "SNAP_DIRTY", .u40, .ro, 0, 0, 0, 1099511627775, [], [], 0, .transport, 0, 0⟩]

def dictRowsA1 : List Desc := [
  ⟨0x1F1001, 0x1F1001, "QSEL", .u40, .rw, 0, 0, 0, 1099511627775, [], [⟨39, 36, 0, 0, 0⟩, ⟨35, 35, 1, 0, 1⟩, ⟨34, 26, 1, 0, 511⟩, ⟨25, 16, 0, 0, 0⟩, ⟨15, 0, 1, 0, 65535⟩], 0, .transport, 0, 0⟩,
  ⟨0x1F1002, 0x1F1002, "Q_STATE", .e20, .ro, 0, 0, 0, 3, [0, 1, 2, 3], [], 0, .transport, 0, 0⟩,
  ⟨0x1F1003, 0x1F1003, "Q_SQ_HEAD", .u20, .ro, 0, 0, 0, 65535, [], [], 0, .transport, 0, 0⟩,
  ⟨0x1F1004, 0x1F1004, "Q_SQ_TAIL", .u20, .ro, 0, 0, 0, 65535, [], [], 0, .transport, 0, 0⟩,
  ⟨0x1F1005, 0x1F1005, "Q_CQ_HEAD", .u20, .ro, 0, 0, 0, 65535, [], [], 0, .transport, 0, 0⟩,
  ⟨0x1F1006, 0x1F1006, "Q_CQ_TAIL", .u20, .ro, 0, 0, 0, 65535, [], [], 0, .transport, 0, 0⟩,
  ⟨0x1F1007, 0x1F1007, "Q_CQ_PHASE", .u20, .ro, 0, 0, 0, 1, [], [], 0, .transport, 0, 0⟩,
  ⟨0x1F1008, 0x1F1008, "Q_INFLIGHT", .u20, .ro, 0, 0, 0, 1048575, [], [], 0, .transport, 0, 0⟩,
  ⟨0x1F1009, 0x1F1009, "Q_CLASS", .e20, .ro, 0, 0, 0, 3, [0, 1, 2, 3], [], 0, .transport, 0, 0⟩,
  ⟨0x1F100A, 0x1F100A, "Q_OLDEST_DUE", .u60, .ro, 0, 0, 0, 1152921504606846975, [], [], 0, .transport, 0, 0⟩,
  ⟨0x1F100B, 0x1F100B, "Q_BASES", .oct, .ro, 0, 0, 0, 16, [], [], 0, .transport, 16, 0⟩,
  ⟨0x1F100C, 0x1F100C, "Q_NEXT", .u40, .ro, 0, 0, 0, 1099511627775, [], [], 0, .transport, 0, 0⟩,
  ⟨0x200001, 0x200001, "CLASS0_TIME", .u20, .rwp, 250, 250, 150, 2000, [], [], 1, .device, 0, 0⟩,
  ⟨0x200002, 0x200002, "CLASS1_TIME", .u20, .rwp, 1000, 1000, 500, 10000, [], [], 1, .device, 0, 0⟩,
  ⟨0x200003, 0x200003, "CLASS2_TIME", .u20, .rwp, 8000, 8000, 2000, 100000, [], [], 1, .device, 0, 0⟩,
  ⟨0x200004, 0x200004, "CLASS2_LATE_LIMIT", .u20, .rwp, 1000, 1000, 100, 10000, [], [], 1, .device, 0, 0⟩,
  ⟨0x200005, 0x200005, "RECOVERY_ALLOW", .b20, .rwp, 1841, 1841, 0, 1048575, [], [⟨19, 12, 0, 0, 0⟩, ⟨11, 8, 1, 0, 7⟩, ⟨7, 4, 1, 0, 7⟩, ⟨3, 0, 1, 0, 7⟩], 1, .device, 0, 0⟩,
  ⟨0x200006, 0x200006, "ADMIT_WAIT", .u20, .rwp, 3000, 3000, 500, 4000, [], [], 1, .device, 0, 0⟩,
  ⟨0x200007, 0x200007, "HOST_LAT_LIMIT", .u20, .rwp, 2000, 2000, 500, 20000, [], [], 1, .device, 0, 0⟩,
  ⟨0x200008, 0x200008, "CLASS_FOR_PRIORITY", .b20, .rwp, 27, 27, 0, 1048575, [], [⟨19, 8, 0, 0, 0⟩, ⟨7, 6, 1, 0, 3⟩, ⟨5, 4, 1, 0, 3⟩, ⟨3, 2, 1, 0, 3⟩, ⟨1, 0, 1, 0, 3⟩], 1, .device, 0, 0⟩,
  ⟨0x201001, 0x201001, "DIE_HR", .b20, .rwp, 410600, 410600, 0, 1048575, [], [⟨19, 10, 1, 100, 1000⟩, ⟨9, 0, 1, 0, 1000⟩], 1, .device, 0, 0⟩,
  ⟨0x201002, 0x201002, "DIE_SY", .b20, .rwp, 30920, 30920, 0, 1048575, [], [⟨19, 10, 1, 0, 1000⟩, ⟨9, 0, 1, 0, 1000⟩], 1, .device, 0, 0⟩,
  ⟨0x201003, 0x201003, "DIE_HW", .b20, .rwp, 154300, 154300, 0, 1048575, [], [⟨19, 10, 1, 0, 1000⟩, ⟨9, 0, 1, 0, 1000⟩], 1, .device, 0, 0⟩,
  ⟨0x201004, 0x201004, "DIE_RB", .b20, .rwp, 61940, 61940, 0, 1048575, [], [⟨19, 10, 1, 0, 1000⟩, ⟨9, 0, 1, 0, 1000⟩], 1, .device, 0, 0⟩,
  ⟨0x201005, 0x201005, "DIE_RF", .b20, .rwp, 31020, 31020, 0, 1048575, [], [⟨19, 10, 1, 0, 1000⟩, ⟨9, 0, 1, 0, 1000⟩], 1, .device, 0, 0⟩,
  ⟨0x201006, 0x201006, "DIE_GC", .b20, .rwp, 103000, 103000, 0, 1048575, [], [⟨19, 10, 1, 0, 1000⟩, ⟨9, 0, 1, 0, 1000⟩], 1, .device, 0, 0⟩,
  ⟨0x201007, 0x201007, "DIE_FD", .b20, .rwp, 103000, 103000, 0, 1048575, [], [⟨19, 10, 1, 0, 1000⟩, ⟨9, 0, 1, 0, 1000⟩], 1, .device, 0, 0⟩,
  ⟨0x201008, 0x201008, "DIE_PT", .b20, .rwp, 20630, 20630, 0, 1048575, [], [⟨19, 10, 1, 0, 1000⟩, ⟨9, 0, 1, 0, 1000⟩], 1, .device, 0, 0⟩,
  ⟨0x201009, 0x201009, "DIE_ST", .b20, .rwp, 10340, 10340, 0, 1048575, [], [⟨19, 10, 1, 0, 1000⟩, ⟨9, 0, 1, 0, 1000⟩], 1, .device, 0, 0⟩,
  ⟨0x202001, 0x202001, "BUS_HR", .b20, .rwp, 461800, 461800, 0, 1048575, [], [⟨19, 10, 1, 100, 1000⟩, ⟨9, 0, 1, 0, 1000⟩], 1, .device, 0, 0⟩,
  ⟨0x202002, 0x202002, "BUS_SY", .b20, .rwp, 30920, 30920, 0, 1048575, [], [⟨19, 10, 1, 0, 1000⟩, ⟨9, 0, 1, 0, 1000⟩], 1, .device, 0, 0⟩,
  ⟨0x202003, 0x202003, "BUS_HW", .b20, .rwp, 154300, 154300, 0, 1048575, [], [⟨19, 10, 1, 0, 1000⟩, ⟨9, 0, 1, 0, 1000⟩], 1, .device, 0, 0⟩,
  ⟨0x202004, 0x202004, "BUS_RB", .b20, .rwp, 61940, 61940, 0, 1048575, [], [⟨19, 10, 1, 0, 1000⟩, ⟨9, 0, 1, 0, 1000⟩], 1, .device, 0, 0⟩,
  ⟨0x202005, 0x202005, "BUS_RF", .b20, .rwp, 31020, 31020, 0, 1048575, [], [⟨19, 10, 1, 0, 1000⟩, ⟨9, 0, 1, 0, 1000⟩], 1, .device, 0, 0⟩,
  ⟨0x202006, 0x202006, "BUS_GC", .b20, .rwp, 82520, 82520, 0, 1048575, [], [⟨19, 10, 1, 0, 1000⟩, ⟨9, 0, 1, 0, 1000⟩], 1, .device, 0, 0⟩,
  ⟨0x202007, 0x202007, "BUS_FD", .b20, .rwp, 103000, 103000, 0, 1048575, [], [⟨19, 10, 1, 0, 1000⟩, ⟨9, 0, 1, 0, 1000⟩], 1, .device, 0, 0⟩,
  ⟨0x202008, 0x202008, "BUS_PT", .b20, .rwp, 20630, 20630, 0, 1048575, [], [⟨19, 10, 1, 0, 1000⟩, ⟨9, 0, 1, 0, 1000⟩], 1, .device, 0, 0⟩,
  ⟨0x202009, 0x202009, "BUS_ST", .b20, .rwp, 10340, 10340, 0, 1048575, [], [⟨19, 10, 1, 0, 1000⟩, ⟨9, 0, 1, 0, 1000⟩], 1, .device, 0, 0⟩,
  ⟨0x203001, 0x203001, "LDH_HR", .b20, .rwp, 513000, 513000, 0, 1048575, [], [⟨19, 10, 1, 100, 1000⟩, ⟨9, 0, 1, 0, 1000⟩], 1, .device, 0, 0⟩,
  ⟨0x203002, 0x203002, "LDH_SY", .b20, .rwp, 20680, 20680, 0, 1048575, [], [⟨19, 10, 1, 0, 1000⟩, ⟨9, 0, 1, 0, 1000⟩], 1, .device, 0, 0⟩]

def dictRowsA2 : List Desc := [
  ⟨0x203003, 0x203003, "LDH_HW", .b20, .rwp, 51500, 51500, 0, 1048575, [], [⟨19, 10, 1, 0, 1000⟩, ⟨9, 0, 1, 0, 1000⟩], 1, .device, 0, 0⟩,
  ⟨0x203004, 0x203004, "LDH_RB", .b20, .rwp, 103000, 103000, 0, 1048575, [], [⟨19, 10, 1, 0, 1000⟩, ⟨9, 0, 1, 0, 1000⟩], 1, .device, 0, 0⟩,
  ⟨0x203005, 0x203005, "LDH_RF", .b20, .rwp, 51600, 51600, 0, 1048575, [], [⟨19, 10, 1, 0, 1000⟩, ⟨9, 0, 1, 0, 1000⟩], 1, .device, 0, 0⟩,
  ⟨0x203006, 0x203006, "LDH_GC", .b20, .rwp, 103000, 103000, 0, 1048575, [], [⟨19, 10, 1, 0, 1000⟩, ⟨9, 0, 1, 0, 1000⟩], 1, .device, 0, 0⟩,
  ⟨0x203007, 0x203007, "LDH_FD", .b20, .rwp, 103000, 103000, 0, 1048575, [], [⟨19, 10, 1, 0, 1000⟩, ⟨9, 0, 1, 0, 1000⟩], 1, .device, 0, 0⟩,
  ⟨0x203008, 0x203008, "LDH_PT", .b20, .rwp, 51500, 51500, 0, 1048575, [], [⟨19, 10, 1, 0, 1000⟩, ⟨9, 0, 1, 0, 1000⟩], 1, .device, 0, 0⟩,
  ⟨0x203009, 0x203009, "LDH_ST", .b20, .rwp, 10340, 10340, 0, 1048575, [], [⟨19, 10, 1, 0, 1000⟩, ⟨9, 0, 1, 0, 1000⟩], 1, .device, 0, 0⟩,
  ⟨0x204001, 0x204001, "LDS_HR", .b20, .rwp, 513000, 513000, 0, 1048575, [], [⟨19, 10, 1, 100, 1000⟩, ⟨9, 0, 1, 0, 1000⟩], 1, .device, 0, 0⟩,
  ⟨0x204002, 0x204002, "LDS_SY", .b20, .rwp, 20680, 20680, 0, 1048575, [], [⟨19, 10, 1, 0, 1000⟩, ⟨9, 0, 1, 0, 1000⟩], 1, .device, 0, 0⟩,
  ⟨0x204003, 0x204003, "LDS_HW", .b20, .rwp, 100, 100, 0, 1048575, [], [⟨19, 10, 1, 0, 1000⟩, ⟨9, 0, 1, 0, 1000⟩], 1, .device, 0, 0⟩,
  ⟨0x204004, 0x204004, "LDS_RB", .b20, .rwp, 154200, 154200, 0, 1048575, [], [⟨19, 10, 1, 0, 1000⟩, ⟨9, 0, 1, 0, 1000⟩], 1, .device, 0, 0⟩,
  ⟨0x204005, 0x204005, "LDS_RF", .b20, .rwp, 102900, 102900, 0, 1048575, [], [⟨19, 10, 1, 0, 1000⟩, ⟨9, 0, 1, 0, 1000⟩], 1, .device, 0, 0⟩,
  ⟨0x204006, 0x204006, "LDS_GC", .b20, .rwp, 51600, 51600, 0, 1048575, [], [⟨19, 10, 1, 0, 1000⟩, ⟨9, 0, 1, 0, 1000⟩], 1, .device, 0, 0⟩,
  ⟨0x204007, 0x204007, "LDS_FD", .b20, .rwp, 51600, 51600, 0, 1048575, [], [⟨19, 10, 1, 0, 1000⟩, ⟨9, 0, 1, 0, 1000⟩], 1, .device, 0, 0⟩,
  ⟨0x204008, 0x204008, "LDS_PT", .b20, .rwp, 51600, 51600, 0, 1048575, [], [⟨19, 10, 1, 0, 1000⟩, ⟨9, 0, 1, 0, 1000⟩], 1, .device, 0, 0⟩,
  ⟨0x204009, 0x204009, "LDS_ST", .b20, .rwp, 10340, 10340, 0, 1048575, [], [⟨19, 10, 1, 0, 1000⟩, ⟨9, 0, 1, 0, 1000⟩], 1, .device, 0, 0⟩,
  ⟨0x205001, 0x205001, "SUPPLY_PS0", .u20, .rwp, 1000, 1000, 100, 1000, [], [], 1, .device, 0, 0⟩,
  ⟨0x205002, 0x205002, "SUPPLY_PS1", .u20, .rwp, 720, 720, 100, 1000, [], [], 1, .device, 0, 0⟩,
  ⟨0x205003, 0x205003, "SUPPLY_PS2", .u20, .rwp, 440, 440, 100, 1000, [], [], 1, .device, 0, 0⟩,
  ⟨0x205004, 0x205004, "SUPPLY_EFFECTIVE", .u20, .ro, 0, 0, 0, 1000, [], [], 0, .device, 0, 0⟩,
  ⟨0x205005, 0x205005, "THROTTLE_FACTOR", .u20, .ro, 1000, 1000, 0, 1000, [], [], 0, .device, 0, 0⟩,
  ⟨0x205006, 0x205006, "SUPPLY_HOLD_UNTIL", .u60, .ro, 0, 0, 0, 1152921504606846975, [], [], 0, .device, 0, 0⟩,
  ⟨0x206001, 0x206001, "T_SUSP_WORST", .u20, .rwp, 25000, 25000, 5000, 100000, [], [], 1, .device, 0, 0⟩,
  ⟨0x206002, 0x206002, "TR_WORST_SLC", .u20, .rwp, 35000, 35000, 10000, 200000, [], [], 1, .device, 0, 0⟩,
  ⟨0x206003, 0x206003, "TR_WORST_QLC", .u20, .rwp, 60000, 60000, 10000, 200000, [], [], 1, .device, 0, 0⟩,
  ⟨0x206004, 0x206004, "TPROG_WORST_SLC", .u20, .rwp, 250000, 250000, 50000, 1000000, [], [], 1, .device, 0, 0⟩,
  ⟨0x206005, 0x206005, "RESOLVE_BOUND", .u20, .ro, 2000, 2000, 0, 1048575, [], [], 0, .device, 0, 0⟩,
  ⟨0x206006, 0x206006, "POST_MARGIN", .u20, .ro, 1000, 1000, 0, 1048575, [], [], 0, .device, 0, 0⟩,
  ⟨0x206007, 0x206007, "PARITY_BOUND", .u20, .ro, 2000, 2000, 0, 1048575, [], [], 0, .device, 0, 0⟩,
  ⟨0x206008, 0x206008, "LEDGER_INNINGS", .u20, .ro, 64, 64, 0, 1048575, [], [], 0, .device, 0, 0⟩,
  ⟨0x207001, 0x207001, "RA_ENABLE", .e20, .rwp, 1, 1, 0, 1, [0, 1], [], 1, .device, 0, 0⟩,
  ⟨0x207002, 0x207002, "RA_MAX_INFLIGHT", .u20, .rwp, 256, 256, 0, 1024, [], [], 1, .device, 0, 0⟩,
  ⟨0x207003, 0x207003, "RA_BUS_CEIL", .u20, .rwp, 300, 300, 0, 1000, [], [], 1, .device, 0, 0⟩,
  ⟨0x209001, 0x209001, "ADMITTED", .u60, .ro, 0, 0, 0, 1152921504606846975, [], [], 0, .device, 0, 0⟩,
  ⟨0x209002, 0x209002, "REFUSED", .u60, .ro, 0, 0, 0, 1152921504606846975, [], [], 0, .device, 0, 0⟩,
  ⟨0x209003, 0x209003, "EXPIRED", .u60, .ro, 0, 0, 0, 1152921504606846975, [], [], 0, .device, 0, 0⟩,
  ⟨0x209004, 0x209004, "LATE", .u60, .ro, 0, 0, 0, 1152921504606846975, [], [], 0, .device, 0, 0⟩,
  ⟨0x209005, 0x209005, "READAROUND", .u60, .ro, 0, 0, 0, 1152921504606846975, [], [], 0, .device, 0, 0⟩,
  ⟨0x209006, 0x209006, "HOST_DELAY", .u60, .ro, 0, 0, 0, 1152921504606846975, [], [], 0, .device, 0, 0⟩,
  ⟨0x209007, 0x209007, "REFUSE_CAUSES", .oct, .ro, 0, 0, 0, 85, [], [], 0, .device, 85, 0⟩]

def dictRowsA3 : List Desc := [
  ⟨0x210001, 0x210001, "QB_SELECT", .u40, .rw, 0, 0, 0, 1099511627775, [], [⟨39, 36, 0, 0, 0⟩, ⟨35, 35, 1, 0, 1⟩, ⟨34, 26, 1, 0, 511⟩, ⟨25, 16, 0, 0, 0⟩, ⟨15, 0, 1, 0, 65535⟩], 0, .transport, 0, 0⟩,
  ⟨0x210002, 0x210002, "QB_CLASS", .e20, .rw, 4, 4, 0, 4, [0, 1, 2, 3, 4], [], 0, .item, 0, 0⟩,
  ⟨0x210003, 0x210003, "QB_EFFECTIVE", .e20, .ro, 0, 0, 0, 3, [0, 1, 2, 3], [], 0, .item, 0, 0⟩,
  ⟨0x211001, 0x211001, "FN_SELECT", .u20, .rw, 0, 0, 0, 1048575, [], [⟨19, 10, 0, 0, 0⟩, ⟨9, 9, 1, 0, 1⟩, ⟨8, 0, 1, 0, 511⟩], 0, .transport, 0, 0⟩,
  ⟨0x211002, 0x211002, "FN_CLASS_MAP", .b20, .rwp, 256, 256, 0, 1048575, [], [⟨19, 9, 0, 0, 0⟩, ⟨8, 8, 1, 0, 1⟩, ⟨7, 6, 1, 0, 3⟩, ⟨5, 4, 1, 0, 3⟩, ⟨3, 2, 1, 0, 3⟩, ⟨1, 0, 1, 0, 3⟩], 1, .fn, 0, 0⟩,
  ⟨0x211003, 0x211003, "FN_CLASS_FLOOR", .u20, .rwp, 0, 0, 0, 3, [], [], 1, .fn, 0, 0⟩,
  ⟨0x220001, 0x220001, "POOL_TOTAL", .u40, .ro, 1048576, 1048576, 0, 1099511627775, [], [], 0, .device, 0, 0⟩,
  ⟨0x220002, 0x220002, "POOL_FREE", .u40, .ro, 0, 0, 0, 1048576, [], [], 0, .device, 0, 0⟩,
  ⟨0x220003, 0x220003, "POOL_RESERVED", .u40, .ro, 0, 0, 0, 1048576, [], [], 0, .device, 0, 0⟩,
  ⟨0x220004, 0x220004, "POOL_DENIED", .u60, .ro, 0, 0, 0, 1152921504606846975, [], [], 0, .device, 0, 0⟩,
  ⟨0x221001, 0x221001, "FQ_SELECT", .u20, .rw, 0, 0, 0, 1048575, [], [⟨19, 10, 0, 0, 0⟩, ⟨9, 9, 1, 0, 1⟩, ⟨8, 0, 1, 0, 511⟩], 0, .transport, 0, 0⟩,
  ⟨0x221002, 0x221002, "FQ_QUOTA", .u20, .rwp, 65535, 2048, 1, 65535, [], [], 1, .fn, 0, 0⟩,
  ⟨0x221003, 0x221003, "FQ_GRANTED", .u20, .ro, 0, 0, 0, 65535, [], [], 0, .fn, 0, 0⟩,
  ⟨0x221004, 0x221004, "FQ_CREATED", .u20, .ro, 0, 0, 0, 65535, [], [], 0, .fn, 0, 0⟩,
  ⟨0x221005, 0x221005, "FQ_FETCH_WEIGHT", .u20, .rwp, 16, 16, 1, 255, [], [], 1, .fn, 0, 0⟩,
  ⟨0x221006, 0x221006, "FQ_DOORBELL_LIMIT", .u20, .ro, 0, 0, 1535, 65535, [], [], 0, .fn, 0, 0⟩,
  ⟨0x222001, 0x222001, "CTX_HITS", .u60, .ro, 0, 0, 0, 1152921504606846975, [], [], 0, .device, 0, 0⟩,
  ⟨0x222002, 0x222002, "CTX_MISSES", .u60, .ro, 0, 0, 0, 1152921504606846975, [], [], 0, .device, 0, 0⟩,
  ⟨0x223001, 0x223001, "FETCH_LIMIT", .u20, .rwp, 64, 64, 8, 64, [], [], 1, .device, 0, 0⟩,
  ⟨0x223002, 0x223002, "ADMIT_INPUT_DEPTH", .u20, .ro, 4096, 4096, 0, 1048575, [], [], 0, .device, 0, 0⟩,
  ⟨0x223003, 0x223003, "FETCH_PAUSES", .u60, .ro, 0, 0, 0, 1152921504606846975, [], [], 0, .device, 0, 0⟩,
  ⟨0x224001, 0x224001, "RL_CAPACITY", .u20, .ro, 65536, 65536, 0, 1048575, [], [], 0, .device, 0, 0⟩,
  ⟨0x224002, 0x224002, "RL_LIVE", .u20, .ro, 0, 0, 0, 65536, [], [], 0, .device, 0, 0⟩,
  ⟨0x224003, 0x224003, "RL_PEAK", .u20, .ro, 0, 0, 0, 1048575, [], [], 0, .device, 0, 0⟩,
  ⟨0x224004, 0x224004, "RL_HOLDOVER", .u20, .ro, 0, 0, 0, 1024, [], [], 0, .device, 0, 0⟩,
  ⟨0x224005, 0x224005, "RL_NEXT_SEQ", .u20, .ro, 0, 0, 0, 1048575, [], [], 0, .device, 0, 0⟩,
  ⟨0x224006, 0x224006, "RL_WAITS", .u60, .ro, 0, 0, 0, 1152921504606846975, [], [], 0, .device, 0, 0⟩,
  ⟨0x224007, 0x224007, "RL_FULL_STALLS", .u60, .ro, 0, 0, 0, 1152921504606846975, [], [], 0, .device, 0, 0⟩,
  ⟨0x224008, 0x224008, "RL_HOLDOVER_STALLS", .u60, .ro, 0, 0, 0, 1152921504606846975, [], [], 0, .device, 0, 0⟩,
  ⟨0x225001, 0x225001, "SQ_DEL_ABORTS", .u60, .ro, 0, 0, 0, 1152921504606846975, [], [], 0, .device, 0, 0⟩,
  ⟨0x225002, 0x225002, "ABORT_CMDS", .u60, .ro, 0, 0, 0, 1152921504606846975, [], [], 0, .device, 0, 0⟩,
  ⟨0x226001, 0x226001, "FWA_DRAIN_LIMIT", .u20, .rwp, 800, 800, 100, 890, [], [], 1, .device, 0, 0⟩,
  ⟨0x226002, 0x226002, "FWA_LAST_DRAIN", .u40, .ro, 0, 0, 0, 1099511627775, [], [], 0, .device, 0, 0⟩,
  ⟨0x226003, 0x226003, "FWA_LAST_RESULT", .e20, .ro, 2, 2, 0, 2, [0, 1, 2], [], 0, .device, 0, 0⟩,
  ⟨0x227001, 0x227001, "ST_STATE", .e20, .ro, 0, 0, 0, 2, [0, 1, 2], [], 0, .device, 0, 0⟩,
  ⟨0x227002, 0x227002, "ST_SEGMENT", .u20, .ro, 0, 0, 0, 5, [], [], 0, .device, 0, 0⟩,
  ⟨0x228001, 0x228001, "QC_SELECT", .u40, .rw, 0, 0, 0, 1099511627775, [], [⟨39, 36, 0, 0, 0⟩, ⟨35, 35, 1, 0, 1⟩, ⟨34, 26, 1, 0, 511⟩, ⟨25, 16, 0, 0, 0⟩, ⟨15, 0, 1, 0, 65535⟩], 0, .transport, 0, 0⟩,
  ⟨0x228002, 0x228002, "QC_FETCHED", .u40, .ro, 0, 0, 0, 1099511627775, [], [], 0, .item, 0, 0⟩,
  ⟨0x228003, 0x228003, "QC_COMPLETED", .u40, .ro, 0, 0, 0, 1099511627775, [], [], 0, .item, 0, 0⟩,
  ⟨0x228004, 0x228004, "QC_REFUSED", .u40, .ro, 0, 0, 0, 1099511627775, [], [], 0, .item, 0, 0⟩]

def dictRowsA4 : List Desc := [
  ⟨0x240001, 0x240001, "PORT_MODE", .e20, .rwp, 0, 0, 0, 1, [0, 1], [], 1, .device, 0, 0⟩,
  ⟨0x240002, 0x240002, "LINK_MAX_GEN", .u20, .rwp, 6, 6, 1, 6, [], [], 1, .device, 0, 0⟩,
  ⟨0x240003, 0x240003, "CLOCK_MODE", .e20, .rwp, 0, 0, 0, 1, [0, 1], [], 1, .device, 0, 0⟩,
  ⟨0x240004, 0x240004, "L0P_ENABLE", .e20, .rwp, 1, 1, 0, 1, [0, 1], [], 1, .device, 0, 0⟩,
  ⟨0x240005, 0x240005, "L0P_MIN_WIDTH", .e20, .rwp, 2, 2, 0, 4, [0, 1, 2, 3, 4], [], 1, .device, 0, 0⟩,
  ⟨0x240006, 0x240006, "ASPM_L1_IDLE", .u20, .rwp, 100, 100, 10, 100000, [], [], 1, .device, 0, 0⟩,
  ⟨0x240007, 0x240007, "LTR_ACTIVE", .u20, .rwp, 10, 10, 1, 1000, [], [], 1, .device, 0, 0⟩,
  ⟨0x240008, 0x240008, "LTR_IDLE", .u20, .rwp, 3000, 3000, 10, 100000, [], [], 1, .device, 0, 0⟩,
  ⟨0x240009, 0x240009, "SUBSYS_VENDOR_ID", .u20, .rwp, 7997, 7997, 0, 65535, [], [], 1, .device, 0, 0⟩,
  ⟨0x24000A, 0x24000A, "SUBSYS_ID", .u20, .rwp, 0, 0, 0, 65535, [], [], 1, .device, 0, 0⟩,
  ⟨0x241001, 0x241001, "PORT_SELECT", .u20, .rw, 0, 0, 0, 1, [], [], 0, .transport, 0, 0⟩,
  ⟨0x241002, 0x241002, "LINK_STATE", .e20, .ro, 0, 0, 0, 7, [0, 1, 2, 3, 4, 5, 6, 7], [], 0, .port, 0, 0⟩,
  ⟨0x241003, 0x241003, "LINK_GEN", .u20, .ro, 0, 0, 0, 6, [], [], 0, .port, 0, 0⟩,
  ⟨0x241004, 0x241004, "LINK_WIDTH", .u20, .ro, 0, 0, 0, 16, [], [], 0, .port, 0, 0⟩,
  ⟨0x241005, 0x241005, "LINK_TRAINED_WIDTH", .u20, .ro, 0, 0, 0, 16, [], [], 0, .port, 0, 0⟩,
  ⟨0x241006, 0x241006, "LINK_FLIT", .e20, .ro, 0, 0, 0, 1, [0, 1], [], 0, .port, 0, 0⟩,
  ⟨0x241007, 0x241007, "LINK_RECOVERIES", .u60, .ro, 0, 0, 0, 1152921504606846975, [], [], 0, .port, 0, 0⟩,
  ⟨0x241008, 0x241008, "PORT_RESETS", .u60, .ro, 0, 0, 0, 1152921504606846975, [], [], 0, .port, 0, 0⟩,
  ⟨0x241009, 0x241009, "L0P_CHANGES", .u60, .ro, 0, 0, 0, 1152921504606846975, [], [], 0, .port, 0, 0⟩,
  ⟨0x24100A, 0x24100A, "CPL_TIMEOUTS", .u60, .ro, 0, 0, 0, 1152921504606846975, [], [], 0, .port, 0, 0⟩,
  ⟨0x24100B, 0x24100B, "POISONED_RX", .u60, .ro, 0, 0, 0, 1152921504606846975, [], [], 0, .port, 0, 0⟩,
  ⟨0x242001, 0x242001, "PF_BAR0_SIZE", .e20, .rwp, 6, 6, 0, 6, [0, 1, 2, 3, 4, 5, 6], [], 1, .device, 0, 0⟩,
  ⟨0x242002, 0x242002, "PF_BAR2_DEFAULT", .e20, .rwp, 6, 6, 0, 16, [0, 1, 2, 3, 4, 5, 6, 7, 8, 9, 10, 11, 12, 13, 14, 15, 16], [], 1, .device, 0, 0⟩,
  ⟨0x242003, 0x242003, "PF_BAR4_SIZE", .e20, .rwp, 0, 0, 0, 3, [0, 1, 2, 3], [], 1, .device, 0, 0⟩,
  ⟨0x242004, 0x242004, "VF_BAR0_SIZE", .e20, .rwp, 1, 1, 0, 6, [0, 1, 2, 3, 4, 5, 6], [], 1, .device, 0, 0⟩,
  ⟨0x242005, 0x242005, "VF_BAR2_DEFAULT", .e20, .rwp, 0, 0, 0, 8, [0, 1, 2, 3, 4, 5, 6, 7, 8], [], 1, .device, 0, 0⟩,
  ⟨0x242006, 0x242006, "TOTAL_VFS", .u20, .rwp, 511, 511, 0, 511, [], [], 1, .device, 0, 0⟩,
  ⟨0x242007, 0x242007, "CMB_RESERVED", .u40, .ro, 0, 0, 0, 65536, [], [], 0, .device, 0, 0⟩,
  ⟨0x242008, 0x242008, "CMB_REFUSED", .u60, .ro, 0, 0, 0, 1152921504606846975, [], [], 0, .device, 0, 0⟩,
  ⟨0x245001, 0x245001, "FLR_SELECT", .u20, .rw, 0, 0, 0, 1048575, [], [⟨19, 10, 0, 0, 0⟩, ⟨9, 9, 1, 0, 1⟩, ⟨8, 0, 1, 0, 511⟩], 0, .transport, 0, 0⟩,
  ⟨0x245002, 0x245002, "FLR_STATE", .e20, .ro, 0, 0, 0, 2, [0, 1, 2], [], 0, .fn, 0, 0⟩,
  ⟨0x245003, 0x245003, "FLR_LAST_DRAIN", .u40, .ro, 0, 0, 0, 1099511627775, [], [], 0, .fn, 0, 0⟩,
  ⟨0x245004, 0x245004, "FLR_COUNT", .u60, .ro, 0, 0, 0, 1152921504606846975, [], [], 0, .fn, 0, 0⟩,
  ⟨0x246001, 0x246001, "SPDM_ENABLE", .e20, .rwp, 1, 1, 0, 1, [0, 1], [], 1, .device, 0, 0⟩,
  ⟨0x246002, 0x246002, "SPDM_REQUESTS", .u60, .ro, 0, 0, 0, 1152921504606846975, [], [], 0, .device, 0, 0⟩,
  ⟨0x246003, 0x246003, "SPDM_ERRORS", .u60, .ro, 0, 0, 0, 1152921504606846975, [], [], 0, .device, 0, 0⟩,
  ⟨0x246004, 0x246004, "SPDM_CERT_SLOTS", .b20, .ro, 1, 1, 0, 1048575, [], [⟨19, 8, 0, 0, 0⟩, ⟨7, 0, 1, 0, 255⟩], 0, .device, 0, 0⟩]

/-- Entries 0x1000–0x2FFF. -/
def dictRowsA : List Desc :=
  dictRowsA0 ++ dictRowsA1 ++ dictRowsA2 ++ dictRowsA3 ++ dictRowsA4

end Sys2Proof.Machine
end

