-- ==== Sys2Proof/Machine/DictB.lean ====
section
/-! DEFINITION. The dictionary entries 0x3000–0x3FFF with the properties of R365, one row each as the
manual's tables give them: first and last address, name, type, access, default, default on a
virtual function, minimum, maximum, listed codes, fields, persistence, scope, octets, rounding
step. -/
namespace Sys2Proof.Machine

def dictRowsB0 : List Desc := [
  ⟨0x300001, 0x300001, "USER_CAPACITY", .u40, .ro, 0, 0, 0, 524288, [], [], 0, .device, 0, 0⟩,
  ⟨0x300002, 0x300002, "USER_CAPACITY_MAX", .u40, .ro, 0, 0, 0, 524288, [], [], 0, .device, 0, 0⟩,
  ⟨0x300003, 0x300003, "MAP_UNITS", .u40, .ro, 0, 0, 0, 34359738368, [], [], 0, .device, 0, 0⟩,
  ⟨0x300004, 0x300004, "MAP_SLICES", .u20, .ro, 0, 0, 0, 8192, [], [], 0, .device, 0, 0⟩,
  ⟨0x300005, 0x300005, "SUPERBLOCKS", .u20, .ro, 0, 0, 0, 1048575, [], [], 0, .device, 0, 0⟩,
  ⟨0x300006, 0x300006, "SLOTS_PER_SB", .u40, .ro, 0, 0, 64, 1048576, [], [], 0, .device, 0, 0⟩,
  ⟨0x300007, 0x300007, "GRANULES_FREE", .u20, .ro, 0, 0, 0, 524288, [], [], 0, .device, 0, 0⟩,
  ⟨0x301001, 0x301001, "SLC_SHARE", .u20, .rwp, 30, 30, 10, 60, [], [], 1, .device, 0, 0⟩,
  ⟨0x301002, 0x301002, "OP_MIN", .u20, .rwp, 70, 70, 28, 500, [], [], 1, .device, 0, 0⟩,
  ⟨0x301003, 0x301003, "SPARE_INIT", .u20, .rwp, 60, 60, 20, 200, [], [], 1, .device, 0, 0⟩,
  ⟨0x301004, 0x301004, "PE_RATED_QLC", .u20, .rwp, 1500, 1500, 100, 100000, [], [], 1, .device, 0, 0⟩,
  ⟨0x301005, 0x301005, "PE_RATED_SLC", .u20, .rwp, 30000, 30000, 1000, 1000000, [], [], 1, .device, 0, 0⟩,
  ⟨0x301006, 0x301006, "DIE_SPARE_MIN", .u20, .rwp, 20, 20, 5, 100, [], [], 1, .device, 0, 0⟩,
  ⟨0x301007, 0x301007, "SPARE_INIT_ACTIVE", .u20, .ro, 60, 60, 20, 200, [], [], 2, .device, 0, 0⟩,
  ⟨0x302001, 0x302001, "JRN_FLASH_MAX", .u20, .rwp, 8, 8, 1, 32, [], [], 1, .device, 0, 0⟩,
  ⟨0x302002, 0x302002, "JRN_FLASH_USED", .u20, .ro, 0, 0, 0, 32768, [], [], 0, .device, 0, 0⟩,
  ⟨0x302003, 0x302003, "JRN_NEXT_SEQ", .u40, .ro, 0, 0, 0, 1099511627775, [], [⟨39, 32, 0, 0, 0⟩, ⟨31, 0, 1, 0, 4294967295⟩], 0, .device, 0, 0⟩,
  ⟨0x302004, 0x302004, "CKPT_WRITTEN", .u60, .ro, 0, 0, 0, 1152921504606846975, [], [], 0, .device, 0, 0⟩,
  ⟨0x302005, 0x302005, "CKPT_ROTATION_LAST", .u20, .ro, 0, 0, 0, 1048575, [], [], 0, .device, 0, 0⟩,
  ⟨0x302006, 0x302006, "SLICES_LOADED", .u20, .ro, 0, 0, 0, 8192, [], [], 0, .device, 0, 0⟩,
  ⟨0x302007, 0x302007, "SLICE_LOADS_ON_TOUCH", .u60, .ro, 0, 0, 0, 1152921504606846975, [], [], 0, .device, 0, 0⟩,
  ⟨0x303001, 0x303001, "CRU_SIZE", .u20, .rwp, 4096, 4096, 1024, 16384, [], [], 1, .device, 0, 256⟩,
  ⟨0x303002, 0x303002, "CRU_SIZE_EFFECTIVE", .u20, .ro, 0, 0, 0, 16384, [], [], 0, .device, 0, 0⟩,
  ⟨0x303003, 0x303003, "CRU_SLOTS_FREE", .u20, .ro, 0, 0, 0, 1032192, [], [], 0, .device, 0, 0⟩,
  ⟨0x303004, 0x303004, "CRU_DIRTY_UNITS", .u20, .ro, 0, 0, 0, 1032192, [], [], 0, .device, 0, 0⟩,
  ⟨0x303005, 0x303005, "CRU_CLOSE_TIME", .u20, .rwp, 50, 50, 1, 1000, [], [], 1, .device, 0, 0⟩,
  ⟨0x303006, 0x303006, "CRU_RMW_UNITS", .u60, .ro, 0, 0, 0, 1152921504606846975, [], [], 0, .device, 0, 0⟩,
  ⟨0x303007, 0x303007, "CRU_PAD_UNITS", .u60, .ro, 0, 0, 0, 1152921504606846975, [], [], 0, .device, 0, 0⟩,
  ⟨0x304001, 0x304001, "LIFE_PCT", .u20, .ro, 0, 0, 0, 255, [], [], 0, .device, 0, 0⟩,
  ⟨0x304002, 0x304002, "LIFE_WEAR", .u20, .ro, 0, 0, 0, 1048575, [], [], 0, .device, 0, 0⟩,
  ⟨0x304003, 0x304003, "LIFE_SPARE", .u20, .ro, 0, 0, 0, 1000, [], [], 0, .device, 0, 0⟩,
  ⟨0x304004, 0x304004, "AVAIL_SPARE", .u20, .ro, 0, 0, 0, 100, [], [], 0, .device, 0, 0⟩,
  ⟨0x304005, 0x304005, "HOST_UNITS_WRITTEN", .u60, .ro, 0, 0, 0, 1152921504606846975, [], [], 2, .device, 0, 0⟩,
  ⟨0x304006, 0x304006, "NAND_PAGES_PROGRAMMED", .u60, .ro, 0, 0, 0, 1152921504606846975, [], [], 2, .device, 0, 0⟩,
  ⟨0x304007, 0x304007, "WRITE_AMP", .u20, .ro, 0, 0, 0, 1048575, [], [], 0, .device, 0, 0⟩,
  ⟨0x304008, 0x304008, "PROGRAM_SOURCES", .oct, .ro, 0, 0, 0, 48, [], [], 2, .device, 48, 0⟩,
  ⟨0x305001, 0x305001, "XTS_KEYS_ACTIVE", .u20, .ro, 0, 0, 0, 1024, [], [], 0, .device, 0, 0⟩,
  ⟨0x305002, 0x305002, "FORMAT_STATE", .e20, .ro, 0, 0, 0, 2, [0, 1, 2], [], 0, .device, 0, 0⟩,
  ⟨0x305003, 0x305003, "SANITIZE_STATE", .e20, .ro, 0, 0, 0, 2, [0, 1, 2], [], 2, .device, 0, 0⟩,
  ⟨0x305004, 0x305004, "SANITIZE_SCRAP_UNERASED", .u40, .ro, 0, 0, 0, 1099511627775, [], [], 2, .device, 0, 0⟩]

def dictRowsB1 : List Desc := [
  ⟨0x305005, 0x305005, "KEY_REPLACEMENTS", .u60, .ro, 0, 0, 0, 1152921504606846975, [], [], 2, .device, 0, 0⟩,
  ⟨0x340001, 0x340001, "PAIR_DEPTH", .u20, .rwp, 1, 1, 1, 3, [], [], 1, .device, 0, 0⟩,
  ⟨0x340002, 0x340002, "SLC_SB_TOTAL", .u20, .ro, 0, 0, 0, 1048575, [], [], 0, .device, 0, 0⟩,
  ⟨0x340003, 0x340003, "SLC_SB_FREE", .u20, .ro, 0, 0, 0, 1048575, [], [], 0, .device, 0, 0⟩,
  ⟨0x340004, 0x340004, "SYS_SB_RESERVED", .u20, .ro, 0, 0, 0, 1048575, [], [], 0, .device, 0, 0⟩,
  ⟨0x340005, 0x340005, "FOLD_QUEUE", .u20, .ro, 0, 0, 0, 1048575, [], [], 0, .device, 0, 0⟩,
  ⟨0x340006, 0x340006, "FOLD_HELD_UNITS", .u40, .ro, 0, 0, 0, 1099511627775, [], [], 0, .device, 0, 0⟩,
  ⟨0x340007, 0x340007, "SWITCH_MISSES", .u60, .ro, 0, 0, 0, 1152921504606846975, [], [], 0, .device, 0, 0⟩,
  ⟨0x340008, 0x340008, "PATCH_SB_RESERVE", .u20, .ro, 16, 16, 0, 1048575, [], [], 0, .device, 0, 0⟩,
  ⟨0x341001, 0x341001, "GC_START", .u20, .rwp, 50, 50, 10, 300, [], [], 1, .device, 0, 0⟩,
  ⟨0x341002, 0x341002, "GC_URGENT", .u20, .rwp, 15, 15, 5, 100, [], [], 1, .device, 0, 0⟩,
  ⟨0x341003, 0x341003, "GC_AGE_CAP", .u20, .rwp, 86400, 86400, 60, 1000000, [], [], 1, .device, 0, 0⟩,
  ⟨0x341004, 0x341004, "GC_AGE_BIAS", .u20, .rwp, 60, 60, 1, 3600, [], [], 1, .device, 0, 0⟩,
  ⟨0x341005, 0x341005, "GC_MAX_UTIL", .u20, .rwp, 950, 950, 500, 990, [], [], 1, .device, 0, 0⟩,
  ⟨0x341006, 0x341006, "WL_GAP", .u20, .rwp, 200, 200, 20, 5000, [], [], 1, .device, 0, 0⟩,
  ⟨0x341007, 0x341007, "FREE_SB", .u20, .ro, 0, 0, 0, 1048575, [], [], 0, .device, 0, 0⟩,
  ⟨0x341008, 0x341008, "GC_VICTIMS", .u60, .ro, 0, 0, 0, 1152921504606846975, [], [], 0, .device, 0, 0⟩,
  ⟨0x341009, 0x341009, "WL_MOVES", .u60, .ro, 0, 0, 0, 1152921504606846975, [], [], 0, .device, 0, 0⟩,
  ⟨0x342001, 0x342001, "PROGRAM_FAILS", .u60, .ro, 0, 0, 0, 1152921504606846975, [], [], 2, .device, 0, 0⟩,
  ⟨0x342002, 0x342002, "ERASE_FAILS", .u60, .ro, 0, 0, 0, 1152921504606846975, [], [], 2, .device, 0, 0⟩,
  ⟨0x342003, 0x342003, "SCRAP_BLOCKS", .u40, .ro, 0, 0, 0, 1099511627775, [], [], 2, .device, 0, 0⟩,
  ⟨0x342004, 0x342004, "LUN_SELECT", .u20, .rw, 0, 0, 0, 2047, [], [], 0, .transport, 0, 0⟩,
  ⟨0x342005, 0x342005, "LUN_GOOD_BLOCKS", .u20, .ro, 0, 0, 0, 1048575, [], [], 2, .item, 0, 0⟩,
  ⟨0x342006, 0x342006, "LUN_SPARE", .u20, .ro, 0, 0, 0, 1048575, [], [], 2, .item, 0, 0⟩,
  ⟨0x342007, 0x342007, "LUN_ERASES_MEAN", .u20, .ro, 0, 0, 0, 1048575, [], [], 0, .item, 0, 0⟩,
  ⟨0x342008, 0x342008, "LUN_ERASES_MAX", .u20, .ro, 0, 0, 0, 1048575, [], [], 0, .item, 0, 0⟩,
  ⟨0x380001, 0x380001, "NAND_IFACE", .e20, .rwp, 0, 0, 0, 3, [0, 1, 2, 3], [], 1, .device, 0, 0⟩,
  ⟨0x380002, 0x380002, "NAND_RATE_MAX", .u20, .rwp, 4800, 4800, 800, 4800, [], [], 1, .device, 0, 0⟩,
  ⟨0x380003, 0x380003, "NAND_RATE_FLOOR", .u20, .rwp, 800, 800, 800, 4800, [], [], 1, .device, 0, 0⟩,
  ⟨0x380004, 0x380004, "NAND_ODT", .e20, .rwp, 2, 2, 0, 4, [0, 1, 2, 3, 4], [], 1, .device, 0, 0⟩,
  ⟨0x380005, 0x380005, "NAND_DRIVE", .e20, .rwp, 1, 1, 0, 2, [0, 1, 2], [], 1, .device, 0, 0⟩,
  ⟨0x380006, 0x380006, "QLC_PASSES", .e20, .rwp, 0, 0, 0, 2, [0, 1, 2], [], 1, .device, 0, 0⟩,
  ⟨0x380007, 0x380007, "NTEMP_FEATURE", .b20, .rwp, 0, 0, 0, 1048575, [], [⟨19, 16, 0, 0, 0⟩, ⟨15, 8, 1, 0, 255⟩, ⟨7, 0, 1, 0, 255⟩], 1, .device, 0, 0⟩,
  ⟨0x381001, 0x381001, "CH_SELECT", .u20, .rw, 0, 0, 0, 31, [], [], 0, .transport, 0, 0⟩,
  ⟨0x381002, 0x381002, "CH_RATE", .u20, .ro, 0, 0, 0, 4800, [], [], 0, .item, 0, 0⟩,
  ⟨0x381003, 0x381003, "CH_TARGETS", .u20, .ro, 0, 0, 0, 16, [], [], 2, .item, 0, 0⟩,
  ⟨0x381004, 0x381004, "CH_TRAIN_FAILS", .u20, .ro, 0, 0, 0, 3, [], [], 0, .item, 0, 0⟩,
  ⟨0x381005, 0x381005, "CH_TRAIN_LAST", .u60, .ro, 0, 0, 0, 1152921504606846975, [], [], 0, .item, 0, 0⟩,
  ⟨0x381006, 0x381006, "CH_EYE_MIN", .u20, .ro, 0, 0, 0, 1000, [], [], 0, .item, 0, 0⟩,
  ⟨0x381007, 0x381007, "CH_RETRAINS", .u60, .ro, 0, 0, 0, 1152921504606846975, [], [], 0, .item, 0, 0⟩]

def dictRowsB2 : List Desc := [
  ⟨0x381008, 0x381008, "CH_TRIMS", .oct, .ro, 0, 0, 0, 384, [], [], 0, .item, 384, 0⟩,
  ⟨0x382001, 0x382001, "RETRAIN_INTERVAL", .u20, .rwp, 24, 24, 1, 168, [], [], 1, .device, 0, 0⟩,
  ⟨0x382002, 0x382002, "RETRAIN_DELTA_T", .u20, .rwp, 15, 15, 5, 40, [], [], 1, .device, 0, 0⟩,
  ⟨0x382003, 0x382003, "ZQ_INTERVAL", .u20, .rwp, 1000, 1000, 100, 60000, [], [], 1, .device, 0, 0⟩,
  ⟨0x382004, 0x382004, "TRAIN_EYE_MIN", .u20, .rwp, 350, 350, 200, 600, [], [], 1, .device, 0, 0⟩,
  ⟨0x383001, 0x383001, "STATUS_POLL", .u20, .rwp, 1000, 1000, 250, 10000, [], [], 1, .device, 0, 0⟩,
  ⟨0x383002, 0x383002, "TIMEOUT_READ", .u20, .rwp, 500, 500, 200, 5000, [], [], 1, .device, 0, 0⟩,
  ⟨0x383003, 0x383003, "TIMEOUT_PROGRAM", .u20, .rwp, 6000, 6000, 1000, 50000, [], [], 1, .device, 0, 0⟩,
  ⟨0x383004, 0x383004, "TIMEOUT_ERASE", .u20, .rwp, 30000, 30000, 5000, 200000, [], [], 1, .device, 0, 0⟩,
  ⟨0x383005, 0x383005, "POLL_START", .u20, .rwp, 800, 800, 100, 1000, [], [], 1, .device, 0, 0⟩,
  ⟨0x383006, 0x383006, "OP_TIMEOUTS", .u60, .ro, 0, 0, 0, 1152921504606846975, [], [], 0, .device, 0, 0⟩,
  ⟨0x383007, 0x383007, "LUN_RESETS", .u60, .ro, 0, 0, 0, 1152921504606846975, [], [], 0, .device, 0, 0⟩,
  ⟨0x384001, 0x384001, "SUSP_ALLOW_ERASE", .u20, .rwp, 8, 8, 0, 16, [], [], 1, .device, 0, 0⟩,
  ⟨0x384002, 0x384002, "SUSP_ALLOW_PROGRAM", .u20, .rwp, 4, 4, 0, 8, [], [], 1, .device, 0, 0⟩,
  ⟨0x384003, 0x384003, "MIN_RESUME_ERASE", .u20, .rwp, 200, 200, 50, 2000, [], [], 1, .device, 0, 0⟩,
  ⟨0x384004, 0x384004, "MIN_RESUME_PROGRAM", .u20, .rwp, 100, 100, 20, 1000, [], [], 1, .device, 0, 0⟩,
  ⟨0x384005, 0x384005, "SUSP_MEASURED_MAX", .u20, .ro, 0, 0, 0, 1048575, [], [], 0, .device, 0, 0⟩,
  ⟨0x384006, 0x384006, "SUSPENDS", .u60, .ro, 0, 0, 0, 1152921504606846975, [], [], 0, .device, 0, 0⟩,
  ⟨0x384007, 0x384007, "SUSP_SPENT", .u60, .ro, 0, 0, 0, 1152921504606846975, [], [], 0, .device, 0, 0⟩,
  ⟨0x385001, 0x385001, "EI_NEXT_SEQ", .u40, .ro, 0, 0, 0, 1099511627775, [], [], 2, .device, 0, 0⟩,
  ⟨0x385002, 0x385002, "EI_PENDING", .u20, .ro, 0, 0, 0, 4096, [], [], 0, .device, 0, 0⟩,
  ⟨0x385003, 0x385003, "EI_MAX_PENDING", .u20, .ro, 4096, 4096, 0, 1048575, [], [], 0, .device, 0, 0⟩,
  ⟨0x385004, 0x385004, "EI_CLEAR_DELAY", .u20, .rwp, 10, 10, 1, 600, [], [], 1, .device, 0, 0⟩,
  ⟨0x385005, 0x385005, "EI_REERASED_LAST", .u20, .ro, 0, 0, 0, 1048575, [], [], 0, .device, 0, 0⟩,
  ⟨0x385006, 0x385006, "EI_REERASED", .u60, .ro, 0, 0, 0, 1152921504606846975, [], [], 2, .device, 0, 0⟩,
  ⟨0x386001, 0x386001, "NTEMP_INTERVAL", .u20, .rwp, 1000, 1000, 100, 60000, [], [], 1, .device, 0, 0⟩,
  ⟨0x386002, 0x386002, "NTEMP_MAX", .s20, .ro, 0, 0, -524288, 524287, [], [], 0, .device, 0, 0⟩,
  ⟨0x386003, 0x386003, "NTEMP_MIN", .s20, .ro, 0, 0, -524288, 524287, [], [], 0, .device, 0, 0⟩,
  ⟨0x386004, 0x386004, "NTEMP_MAP", .oct, .ro, 0, 0, 0, 2048, [], [], 0, .device, 2048, 0⟩,
  ⟨0x386005, 0x386005, "NTEMP_FALLBACKS", .u60, .ro, 0, 0, 0, 1152921504606846975, [], [], 0, .device, 0, 0⟩,
  ⟨0x386006, 0x386006, "NTEMP_DEFAULT", .s20, .rwp, 85, 85, 0, 125, [], [], 1, .device, 0, 0⟩,
  ⟨0x3C0001, 0x3C0001, "HARD_ONLINE", .u20, .ro, 0, 0, 0, 32, [], [], 0, .device, 0, 0⟩,
  ⟨0x3C0002, 0x3C0002, "SOFT_ONLINE", .u20, .ro, 0, 0, 0, 16, [], [], 0, .device, 0, 0⟩,
  ⟨0x3C0003, 0x3C0003, "HARD_DECODE", .u20, .ro, 920, 920, 0, 1048575, [], [], 0, .device, 0, 0⟩,
  ⟨0x3C0004, 0x3C0004, "SOFT_DECODE", .u20, .ro, 4610, 4610, 0, 1048575, [], [], 0, .device, 0, 0⟩,
  ⟨0x3C0005, 0x3C0005, "LDPC_ROUTE_ENABLE", .e20, .rwp, 1, 1, 0, 1, [0, 1], [], 1, .device, 0, 0⟩,
  ⟨0x3C0006, 0x3C0006, "ROUTE_TIME", .u20, .ro, 250, 250, 0, 1048575, [], [], 0, .device, 0, 0⟩,
  ⟨0x3C0007, 0x3C0007, "ROUTED", .u60, .ro, 0, 0, 0, 1152921504606846975, [], [], 0, .device, 0, 0⟩,
  ⟨0x3C0008, 0x3C0008, "MISCORRECTIONS", .u60, .ro, 0, 0, 0, 1152921504606846975, [], [], 0, .device, 0, 0⟩,
  ⟨0x3C0009, 0x3C0009, "TAG_MISMATCHES", .u60, .ro, 0, 0, 0, 1152921504606846975, [], [], 0, .device, 0, 0⟩]

def dictRowsB3 : List Desc := [
  ⟨0x3C1001, 0x3C1001, "ZT_SELECT", .b20, .rw, 0, 0, 0, 1048575, [], [⟨19, 10, 0, 0, 0⟩, ⟨9, 9, 1, 0, 1⟩, ⟨8, 0, 1, 0, 319⟩], 0, .transport, 0, 0⟩,
  ⟨0x3C1002, 0x3C1002, "ZT_ENTRIES", .oct, .rwp, 0, 0, 0, 128, [], [], 1, .item, 128, 0⟩,
  ⟨0x3C1003, 0x3C1003, "ZT_ORDER", .oct, .rwp, 506097522914230528, 506097522914230528, 0, 8, [], [], 1, .item, 8, 0⟩,
  ⟨0x3C1004, 0x3C1004, "ZT_COUNTS", .oct, .ro, 0, 0, 0, 16, [], [], 0, .item, 16, 0⟩,
  ⟨0x3C1005, 0x3C1005, "ZT_LEARN", .e20, .rwp, 1, 1, 0, 1, [0, 1], [], 1, .device, 0, 0⟩,
  ⟨0x3C1006, 0x3C1006, "ZT_LEARN_PERIOD", .u20, .rwp, 60, 60, 5, 10080, [], [], 1, .device, 0, 0⟩,
  ⟨0x3C1007, 0x3C1007, "ZT_GEN", .u20, .ro, 0, 0, 0, 1048575, [], [], 2, .device, 0, 0⟩,
  ⟨0x3C1008, 0x3C1008, "SOFT_DELTA", .u20, .rwp, 6, 6, 1, 32, [], [], 1, .device, 0, 0⟩,
  ⟨0x3C2001, 0x3C2001, "BAND_LIMITS", .b20, .rwp, 7928, 7928, 0, 1048575, [], [⟨19, 14, 0, 0, 0⟩, ⟨13, 9, 1, 1, 31⟩, ⟨8, 4, 1, 1, 31⟩, ⟨3, 0, 1, 0, 15⟩], 1, .device, 0, 0⟩,
  ⟨0x3C2002, 0x3C2002, "REFRESH_INT[0]", .u20, .rwp, 90, 90, 1, 365, [], [], 1, .device, 0, 0⟩,
  ⟨0x3C2003, 0x3C2003, "REFRESH_INT[1]", .u20, .rwp, 30, 30, 1, 365, [], [], 1, .device, 0, 0⟩,
  ⟨0x3C2004, 0x3C2004, "REFRESH_INT[2]", .u20, .rwp, 10, 10, 1, 365, [], [], 1, .device, 0, 0⟩,
  ⟨0x3C2005, 0x3C2005, "REFRESH_INT[3]", .u20, .rwp, 3, 3, 1, 365, [], [], 1, .device, 0, 0⟩,
  ⟨0x3C2006, 0x3C2006, "BUCKET_BOUNDS", .oct, .rwp, 114089714598181980888395240964097, 114089714598181980888395240964097, 0, 14, [], [], 1, .device, 14, 0⟩,
  ⟨0x3C2007, 0x3C2007, "REFRESH_DUE", .u20, .ro, 0, 0, 0, 1048575, [], [], 0, .device, 0, 0⟩,
  ⟨0x3C2008, 0x3C2008, "REFRESH_OVERDUE", .u20, .ro, 0, 0, 0, 1048575, [], [], 0, .device, 0, 0⟩,
  ⟨0x3C2009, 0x3C2009, "REFRESHED", .u60, .ro, 0, 0, 0, 1152921504606846975, [], [], 2, .device, 0, 0⟩,
  ⟨0x3C3001, 0x3C3001, "ERR_REFRESH_BITS", .u20, .rwp, 160, 160, 16, 1024, [], [], 1, .device, 0, 0⟩,
  ⟨0x3C3002, 0x3C3002, "READ_DISTURB_QLC", .u40, .rwp, 100000, 100000, 1000, 10000000, [], [], 1, .device, 0, 0⟩,
  ⟨0x3C3003, 0x3C3003, "READ_DISTURB_SLC", .u40, .rwp, 1000000, 1000000, 10000, 100000000, [], [], 1, .device, 0, 0⟩,
  ⟨0x3C3004, 0x3C3004, "REALLOC_QUEUE_MAX", .u20, .ro, 256, 256, 0, 1048575, [], [], 0, .device, 0, 0⟩,
  ⟨0x3C3005, 0x3C3005, "MARK_RETIRE", .u20, .rwp, 4, 4, 1, 64, [], [], 1, .device, 0, 0⟩,
  ⟨0x3C3006, 0x3C3006, "EARLY_MARKS", .u60, .ro, 0, 0, 0, 1152921504606846975, [], [], 2, .device, 0, 0⟩,
  ⟨0x3C3007, 0x3C3007, "MARK_RETIRED_BLOCKS", .u60, .ro, 0, 0, 0, 1152921504606846975, [], [], 2, .device, 0, 0⟩,
  ⟨0x3C4001, 0x3C4001, "STEP1_PASS", .u60, .ro, 0, 0, 0, 1152921504606846975, [], [], 0, .device, 0, 0⟩,
  ⟨0x3C4002, 0x3C4002, "STEP2_PASS", .u60, .ro, 0, 0, 0, 1152921504606846975, [], [], 0, .device, 0, 0⟩,
  ⟨0x3C4003, 0x3C4003, "STEP3_PASS", .u60, .ro, 0, 0, 0, 1152921504606846975, [], [], 0, .device, 0, 0⟩,
  ⟨0x3C4004, 0x3C4004, "STEP4_PASS", .u60, .ro, 0, 0, 0, 1152921504606846975, [], [], 0, .device, 0, 0⟩,
  ⟨0x3C4005, 0x3C4005, "LOST_CODEWORDS", .u60, .ro, 0, 0, 0, 1152921504606846975, [], [], 0, .device, 0, 0⟩,
  ⟨0x3C4006, 0x3C4006, "CONTINUATIONS", .u60, .ro, 0, 0, 0, 1152921504606846975, [], [], 2, .device, 0, 0⟩,
  ⟨0x3C4007, 0x3C4007, "REALLOCATED", .u60, .ro, 0, 0, 0, 1152921504606846975, [], [], 2, .device, 0, 0⟩,
  ⟨0x3C4008, 0x3C4008, "CORRECTED_BITS", .u60, .ro, 0, 0, 0, 1152921504606846975, [], [], 2, .device, 0, 0⟩]

/-- Entries 0x3000–0x3FFF. -/
def dictRowsB : List Desc :=
  dictRowsB0 ++ dictRowsB1 ++ dictRowsB2 ++ dictRowsB3

end Sys2Proof.Machine
end

