-- ==== Sys2Proof/Machine/DictC.lean ====
section
/-! DEFINITION. The dictionary entries 0x4000–0x5FFF with the properties of R365, one row each as the
manual's tables give them: first and last address, name, type, access, default, default on a
virtual function, minimum, maximum, listed codes, fields, persistence, scope, octets, rounding
step. -/
namespace Sys2Proof.Machine

def dictRowsC0 : List Desc := [
  ⟨0x400001, 0x400001, "LAYOUT_NEXT", .e20, .rwp, 0, 0, 0, 1, [0, 1], [], 1, .device, 0, 0⟩,
  ⟨0x400002, 0x400002, "NS_SELECT", .u20, .rw, 1, 1, 1, 1024, [], [], 0, .transport, 0, 0⟩,
  ⟨0x400003, 0x400003, "NS_LAYOUT", .e20, .ro, 0, 0, 0, 1, [0, 1], [], 2, .item, 0, 0⟩,
  ⟨0x400004, 0x400004, "SB_P2", .u20, .ro, 0, 0, 0, 1048575, [], [], 0, .device, 0, 0⟩,
  ⟨0x401001, 0x401001, "LAYOUT_PERMS", .u20, .rwp, 256, 256, 16, 256, [], [], 1, .device, 0, 0⟩,
  ⟨0x401002, 0x401002, "LAYOUT_FAMILY", .oct, .rwp, Config.vendorFamily, Config.vendorFamily, 0, 1024, [], [], 1, .device, 1024, 0⟩,
  ⟨0x401003, 0x401003, "LAYOUT_ELIGIBLE", .u20, .ro, 0, 0, 0, 2048, [], [], 0, .device, 0, 0⟩,
  ⟨0x401004, 0x401004, "LAYOUT_PAIR_MIN", .u20, .ro, 0, 0, 0, 1048575, [], [], 0, .device, 0, 0⟩,
  ⟨0x401005, 0x401005, "LAYOUT_PAIR_MAX", .u20, .ro, 0, 0, 0, 1048575, [], [], 0, .device, 0, 0⟩,
  ⟨0x401006, 0x401006, "LAYOUT_GEN", .u20, .ro, 0, 0, 0, 1048575, [], [], 2, .device, 0, 0⟩,
  ⟨0x401007, 0x401007, "LAYOUT_SKIPS", .u60, .ro, 0, 0, 0, 1152921504606846975, [], [], 0, .device, 0, 0⟩,
  ⟨0x402001, 0x402001, "ACC_SLOTS", .u20, .ro, 1920, 1920, 0, 1048575, [], [], 0, .device, 0, 0⟩,
  ⟨0x402002, 0x402002, "ACC_FREE", .u20, .ro, 0, 0, 0, 1920, [], [], 0, .device, 0, 0⟩,
  ⟨0x402003, 0x402003, "ACC_RESERVE_SY", .u20, .ro, 64, 64, 0, 1048575, [], [], 0, .device, 0, 0⟩,
  ⟨0x402004, 0x402004, "ACC_RESERVE_HOST", .u20, .ro, 256, 256, 0, 1048575, [], [], 0, .device, 0, 0⟩,
  ⟨0x402005, 0x402005, "PATCH_MAX", .u20, .ro, 40, 40, 0, 1048575, [], [], 0, .device, 0, 0⟩,
  ⟨0x402006, 0x402006, "SMALL_WRITES", .u60, .ro, 0, 0, 0, 1152921504606846975, [], [], 2, .device, 0, 0⟩,
  ⟨0x402007, 0x402007, "PATCH_FULL", .u60, .ro, 0, 0, 0, 1152921504606846975, [], [], 2, .device, 0, 0⟩,
  ⟨0x403001, 0x403001, "LOST_MAX", .u20, .ro, 1048575, 1048575, 0, 1048575, [], [], 0, .device, 0, 0⟩,
  ⟨0x403002, 0x403002, "LOST_RUNS", .u20, .ro, 0, 0, 0, 1048575, [], [], 2, .device, 0, 0⟩,
  ⟨0x403003, 0x403003, "LOST_UNITS", .u40, .ro, 0, 0, 0, 1099511627775, [], [], 2, .device, 0, 0⟩,
  ⟨0x403004, 0x403004, "LOST_SELECT", .u20, .rw, 0, 0, 0, 1048574, [], [], 0, .transport, 0, 0⟩,
  ⟨0x403005, 0x403005, "LOST_ENTRY", .oct, .ro, 0, 0, 0, 16, [], [], 0, .item, 16, 0⟩,
  ⟨0x403006, 0x403006, "LOST_ENTERED", .u60, .ro, 0, 0, 0, 1152921504606846975, [], [], 2, .device, 0, 0⟩,
  ⟨0x403007, 0x403007, "LOST_CLEARED", .u60, .ro, 0, 0, 0, 1152921504606846975, [], [], 2, .device, 0, 0⟩,
  ⟨0x403008, 0x403008, "LOST_ENTER_MAX", .u20, .ro, 983039, 983039, 0, 1048575, [], [], 0, .device, 0, 0⟩,
  ⟨0x404001, 0x404001, "PATROL_ENABLE", .e20, .rwp, 1, 1, 0, 1, [0, 1], [], 1, .device, 0, 0⟩,
  ⟨0x404002, 0x404002, "PATROL_PERIOD", .u20, .rwp, 14, 14, 1, 365, [], [], 1, .device, 0, 0⟩,
  ⟨0x404003, 0x404003, "PATROL_OVERDUE", .u20, .ro, 0, 0, 0, 1048575, [], [], 0, .device, 0, 0⟩,
  ⟨0x404004, 0x404004, "PATROL_OLDEST", .u20, .ro, 0, 0, 0, 1048575, [], [], 0, .device, 0, 0⟩,
  ⟨0x404005, 0x404005, "ROWS_CHECKED", .u60, .ro, 0, 0, 0, 1152921504606846975, [], [], 2, .device, 0, 0⟩,
  ⟨0x404006, 0x404006, "PARITY_REPAIRS", .u60, .ro, 0, 0, 0, 1152921504606846975, [], [], 2, .device, 0, 0⟩,
  ⟨0x404007, 0x404007, "DATA_REPAIRS", .u60, .ro, 0, 0, 0, 1152921504606846975, [], [], 2, .device, 0, 0⟩,
  ⟨0x404008, 0x404008, "UNRESOLVED_ROWS", .u60, .ro, 0, 0, 0, 1152921504606846975, [], [], 2, .device, 0, 0⟩,
  ⟨0x405001, 0x405001, "RB_COLLECT_UTIL", .u20, .rwp, 250, 250, 0, 1000, [], [], 1, .device, 0, 0⟩,
  ⟨0x405002, 0x405002, "RB_PARALLEL", .u20, .rwp, 32, 32, 1, 256, [], [], 1, .device, 0, 0⟩,
  ⟨0x405003, 0x405003, "RB_STATE", .e20, .ro, 0, 0, 0, 1, [0, 1], [], 0, .device, 0, 0⟩,
  ⟨0x405004, 0x405004, "RB_EXPOSED", .u20, .ro, 0, 0, 0, 1048575, [], [], 0, .device, 0, 0⟩,
  ⟨0x405005, 0x405005, "RB_OVER_TOLERANCE", .u20, .ro, 0, 0, 0, 1048575, [], [], 0, .device, 0, 0⟩,
  ⟨0x405006, 0x405006, "RB_REPLACED", .u60, .ro, 0, 0, 0, 1152921504606846975, [], [], 2, .device, 0, 0⟩]

def dictRowsC1 : List Desc := [
  ⟨0x405007, 0x405007, "RB_RESTARTS", .u60, .ro, 0, 0, 0, 1152921504606846975, [], [], 2, .device, 0, 0⟩,
  ⟨0x405008, 0x405008, "RB_DOUBLE_ROWS", .u60, .ro, 0, 0, 0, 1152921504606846975, [], [], 2, .device, 0, 0⟩,
  ⟨0x405009, 0x405009, "RB_LAST_TIME", .u40, .ro, 0, 0, 0, 1099511627775, [], [], 2, .device, 0, 0⟩,
  ⟨0x480001, 0x480001, "STORE_CELLS", .u20, .rwp, 4, 4, 2, 8, [], [], 1, .device, 0, 0⟩,
  ⟨0x480002, 0x480002, "STORE_KIND", .e20, .rwp, 0, 0, 0, 1, [0, 1], [], 1, .device, 0, 0⟩,
  ⟨0x480003, 0x480003, "STORE_C_RATED", .u40, .rwp, 750, 750, 10, 10000000, [], [], 1, .device, 0, 0⟩,
  ⟨0x480004, 0x480004, "STORE_ESR_RATED", .u20, .rwp, 80, 80, 1, 10000, [], [], 1, .device, 0, 0⟩,
  ⟨0x480005, 0x480005, "STORE_V_FULL", .u20, .rwp, 10000, 10000, 2000, 32000, [], [], 1, .device, 0, 0⟩,
  ⟨0x480006, 0x480006, "STORE_V_CUT", .u20, .rwp, 5000, 5000, 1000, 30000, [], [], 1, .device, 0, 0⟩,
  ⟨0x480007, 0x480007, "STORE_E_NOMINAL", .u40, .rwp, 20000, 20000, 20000, 2000000, [], [], 1, .device, 0, 0⟩,
  ⟨0x480008, 0x480008, "HOLDUP_EFF", .u20, .rwp, 900, 900, 500, 1000, [], [], 1, .device, 0, 0⟩,
  ⟨0x480009, 0x480009, "FLUSH_POWER", .u40, .rwp, 80000, 80000, 10000, 200000, [], [], 1, .device, 0, 0⟩,
  ⟨0x48000A, 0x48000A, "CELL_V_MAX", .u20, .rwp, 2700, 2700, 1000, 4200, [], [], 1, .device, 0, 0⟩,
  ⟨0x48000B, 0x48000B, "CELL_DEV", .u20, .rwp, 150, 150, 20, 1000, [], [], 1, .device, 0, 0⟩,
  ⟨0x48000C, 0x48000C, "STORE_AGE_MARGIN", .u20, .rwp, 100, 100, 0, 500, [], [], 1, .device, 0, 0⟩,
  ⟨0x48000D, 0x48000D, "STORE_EOL_LOSS", .u20, .rwp, 300, 300, 50, 800, [], [], 1, .device, 0, 0⟩,
  ⟨0x48000E, 0x48000E, "CHARGE_ENABLE", .e20, .rwp, 1, 1, 0, 1, [0, 1], [], 1, .device, 0, 0⟩,
  ⟨0x481001, 0x481001, "GAUGE_STATE", .e20, .ro, 0, 0, 0, 4, [0, 1, 2, 3, 4], [], 0, .device, 0, 0⟩,
  ⟨0x481002, 0x481002, "STORE_Q_A", .u40, .ro, 0, 0, 0, 1099511627775, [], [], 0, .device, 0, 0⟩,
  ⟨0x481003, 0x481003, "STORE_C", .u40, .ro, 750, 750, 0, 1099511627775, [], [], 2, .device, 0, 0⟩,
  ⟨0x481004, 0x481004, "STORE_ESR", .u20, .ro, 80, 80, 0, 1048575, [], [], 2, .device, 0, 0⟩,
  ⟨0x481005, 0x481005, "STORE_V_STACK", .u20, .ro, 0, 0, 0, 1048575, [], [], 0, .device, 0, 0⟩,
  ⟨0x481006, 0x481006, "STORE_I", .s20, .ro, 0, 0, -524288, 524287, [], [], 0, .device, 0, 0⟩,
  ⟨0x481007, 0x481007, "E_USABLE", .u40, .ro, 0, 0, 0, 1099511627775, [], [], 0, .device, 0, 0⟩,
  ⟨0x481008, 0x481008, "E_FULL", .u40, .ro, 0, 0, 0, 1099511627775, [], [], 0, .device, 0, 0⟩,
  ⟨0x481009, 0x481009, "E_RESERVE", .u40, .ro, 0, 0, 0, 1099511627775, [], [], 0, .device, 0, 0⟩,
  ⟨0x48100A, 0x48100A, "E_OBLIGED", .u40, .ro, 0, 0, 0, 1099511627775, [], [], 0, .device, 0, 0⟩,
  ⟨0x48100B, 0x48100B, "E_MIN", .u40, .ro, 0, 0, 0, 1099511627775, [], [], 0, .device, 0, 0⟩,
  ⟨0x48100C, 0x48100C, "BOOKS_SHORT", .e20, .ro, 0, 0, 0, 1, [0, 1], [], 0, .device, 0, 0⟩,
  ⟨0x48100D, 0x48100D, "CREDIT_POOL", .u20, .ro, 0, 0, 0, 1048575, [], [], 0, .device, 0, 0⟩,
  ⟨0x48100E, 0x48100E, "STORE_C_FIRST", .u40, .ro, 0, 0, 0, 1099511627775, [], [], 2, .device, 0, 0⟩,
  ⟨0x48100F, 0x48100F, "STORE_AGING", .u20, .ro, 0, 0, 0, 1048575, [], [], 0, .device, 0, 0⟩,
  ⟨0x482001, 0x482001, "CELL_V", .oct, .ro, 0, 0, 0, 16, [], [], 0, .device, 16, 0⟩,
  ⟨0x482002, 0x482002, "TAP_OPEN", .b20, .ro, 0, 0, 0, 1048575, [], [⟨19, 8, 0, 0, 0⟩, ⟨7, 0, 1, 0, 255⟩], 2, .device, 0, 0⟩,
  ⟨0x482003, 0x482003, "TAP_CHECK_INTERVAL", .u20, .rwp, 24, 24, 1, 168, [], [], 1, .device, 0, 0⟩,
  ⟨0x482004, 0x482004, "TAP_CHECK_UA", .u20, .ro, 200, 200, 0, 1048575, [], [], 0, .device, 0, 0⟩,
  ⟨0x482005, 0x482005, "TAP_OPEN_MV", .u20, .rwp, 50, 50, 10, 500, [], [], 1, .device, 0, 0⟩,
  ⟨0x482006, 0x482006, "TAP_CHECK_RUN", .u20, .x, 0, 0, 1, 1, [], [], 0, .device, 0, 0⟩,
  ⟨0x482007, 0x482007, "TAP_CHECK_RESULT", .e20, .ro, 0, 0, 0, 4, [0, 1, 2, 3, 4], [], 0, .device, 0, 0⟩,
  ⟨0x482008, 0x482008, "CELL_FAULT_CELL", .u20, .ro, 0, 0, 0, 8, [], [], 2, .device, 0, 0⟩]

def dictRowsC2 : List Desc := [
  ⟨0x483001, 0x483001, "PROOF_INTERVAL", .u20, .rwp, 168, 168, 24, 2160, [], [], 1, .device, 0, 0⟩,
  ⟨0x483002, 0x483002, "PROOF_DV", .u20, .rwp, 1000, 1000, 200, 10000, [], [], 1, .device, 0, 0⟩,
  ⟨0x483003, 0x483003, "PROOF_RUN", .u20, .x, 0, 0, 1, 1, [], [], 0, .device, 0, 0⟩,
  ⟨0x483004, 0x483004, "PROOF_RESULT", .e20, .ro, 0, 0, 0, 5, [0, 1, 2, 3, 4, 5], [], 2, .device, 0, 0⟩,
  ⟨0x483005, 0x483005, "PROOF_AGE", .u20, .ro, 0, 0, 0, 1048575, [], [], 2, .device, 0, 0⟩,
  ⟨0x483006, 0x483006, "PROOFS", .u60, .ro, 0, 0, 0, 1152921504606846975, [], [], 2, .device, 0, 0⟩,
  ⟨0x483007, 0x483007, "PROOF_MIN_SLOTS", .u20, .ro, 10000, 10000, 0, 1048575, [], [], 0, .device, 0, 0⟩,
  ⟨0x484001, 0x484001, "FLUSH_COST_MIN", .u20, .rwp, 40, 40, 10, 1000, [], [], 1, .device, 0, 0⟩,
  ⟨0x484002, 0x484002, "FLUSH_COST_LEARNED", .u20, .ro, 0, 0, 0, 1048575, [], [], 2, .device, 0, 0⟩,
  ⟨0x484003, 0x484003, "FLUSH_COST", .u20, .ro, 40, 40, 0, 1048575, [], [], 0, .device, 0, 0⟩,
  ⟨0x484004, 0x484004, "FLUSH_FIXED", .u20, .rwp, 500, 500, 100, 20000, [], [], 1, .device, 0, 0⟩,
  ⟨0x484005, 0x484005, "MARK_COST", .u20, .ro, 20, 20, 0, 1048575, [], [], 0, .device, 0, 0⟩,
  ⟨0x484006, 0x484006, "JRN_TAIL_PAGES", .u20, .ro, 8192, 8192, 0, 1048575, [], [], 0, .device, 0, 0⟩,
  ⟨0x484007, 0x484007, "BOOKS_HYST", .u20, .rwp, 100, 100, 0, 10000, [], [], 1, .device, 0, 0⟩,
  ⟨0x484008, 0x484008, "CRU_MIN_BACKED", .u20, .ro, 1024, 1024, 0, 1048575, [], [], 0, .device, 0, 0⟩,
  ⟨0x484009, 0x484009, "FLUSH_RESERVE_SB", .u20, .ro, 0, 0, 0, 1048575, [], [], 0, .device, 0, 0⟩,
  ⟨0x48400A, 0x48400A, "BOOKS_SHORT_EVENTS", .u60, .ro, 0, 0, 0, 1152921504606846975, [], [], 2, .device, 0, 0⟩,
  ⟨0x48400B, 0x48400B, "STORE_PREPARE", .u20, .x, 0, 0, 0, 1, [], [], 0, .device, 0, 0⟩,
  ⟨0x48400C, 0x48400C, "PREPARE_STATE", .e20, .ro, 0, 0, 0, 2, [0, 1, 2], [], 0, .device, 0, 0⟩,
  ⟨0x485001, 0x485001, "PF_12V_THRESH", .u20, .rwp, 10800, 10800, 9000, 11400, [], [], 1, .device, 0, 0⟩,
  ⟨0x485002, 0x485002, "PF_FILTER", .u20, .rwp, 1000, 1000, 250, 10000, [], [], 1, .device, 0, 0⟩,
  ⟨0x485003, 0x485003, "PF_LAST_REASON", .e20, .ro, 0, 0, 0, 5, [0, 1, 2, 3, 4, 5], [], 0, .device, 0, 0⟩,
  ⟨0x485004, 0x485004, "PF_LAST_RESULT", .e20, .ro, 0, 0, 0, 2, [0, 1, 2], [], 0, .device, 0, 0⟩,
  ⟨0x485005, 0x485005, "PF_LAST_SLOTS", .u40, .ro, 0, 0, 0, 1099511627775, [], [], 0, .device, 0, 0⟩,
  ⟨0x485006, 0x485006, "PF_LAST_ENERGY", .u40, .ro, 0, 0, 0, 1099511627775, [], [], 0, .device, 0, 0⟩,
  ⟨0x485007, 0x485007, "PF_LAST_TIME", .u40, .ro, 0, 0, 0, 1099511627775, [], [], 0, .device, 0, 0⟩,
  ⟨0x485008, 0x485008, "REVERTED_LAST", .u40, .ro, 0, 0, 0, 1099511627775, [], [], 0, .device, 0, 0⟩,
  ⟨0x485009, 0x485009, "UNSAFE_SHUTDOWNS", .u60, .ro, 0, 0, 0, 1152921504606846975, [], [], 2, .device, 0, 0⟩,
  ⟨0x48500A, 0x48500A, "UNCLEAN_STARTS", .u60, .ro, 0, 0, 0, 1152921504606846975, [], [], 2, .device, 0, 0⟩,
  ⟨0x48500B, 0x48500B, "BOOT_COUNT", .u40, .ro, 0, 0, 0, 1099511627775, [], [⟨39, 32, 0, 0, 0⟩, ⟨31, 0, 1, 0, 4294967295⟩], 2, .device, 0, 0⟩,
  ⟨0x48500C, 0x48500C, "FLUSH_RATE", .u20, .ro, 30000, 30000, 0, 1048575, [], [], 0, .device, 0, 0⟩,
  ⟨0x500001, 0x500001, "SB_ENABLE", .e20, .rwp, 0, 0, 0, 1, [0, 1], [], 1, .device, 0, 0⟩,
  ⟨0x500002, 0x500002, "SB_STATE", .e20, .ro, 0, 0, 0, 3, [0, 1, 2, 3], [], 0, .device, 0, 0⟩,
  ⟨0x500003, 0x500003, "SB_CAPACITY", .u40, .ro, 536870912, 536870912, 0, 1099511627775, [], [], 0, .device, 0, 0⟩,
  ⟨0x500004, 0x500004, "SB_ENTRIES", .u40, .ro, 0, 0, 0, 1099511627775, [], [], 0, .device, 0, 0⟩,
  ⟨0x500005, 0x500005, "SB_LOAD", .u20, .ro, 0, 0, 0, 1048575, [], [], 0, .device, 0, 0⟩,
  ⟨0x500006, 0x500006, "SB_STASH", .u20, .ro, 0, 0, 0, 4096, [], [], 0, .device, 0, 0⟩,
  ⟨0x500007, 0x500007, "SB_MAX_KICKS", .u20, .rwp, 64, 64, 8, 500, [], [], 1, .device, 0, 0⟩,
  ⟨0x500008, 0x500008, "SB_SEEDS", .oct, .ro, 0, 0, 0, 8, [], [], 2, .device, 8, 0⟩,
  ⟨0x500009, 0x500009, "SB_LOOKUP_BOUND", .u20, .ro, 1000, 1000, 0, 1048575, [], [], 0, .device, 0, 0⟩]

def dictRowsC3 : List Desc := [
  ⟨0x50000A, 0x50000A, "SB_SLICES_LOADED", .u20, .ro, 0, 0, 0, 1025, [], [], 0, .device, 0, 0⟩,
  ⟨0x50000B, 0x50000B, "SB_NEXT_SEQ", .u40, .ro, 0, 0, 0, 1099511627775, [], [⟨39, 32, 0, 0, 0⟩, ⟨31, 0, 1, 0, 4294967295⟩], 0, .device, 0, 0⟩,
  ⟨0x501001, 0x501001, "SB_FN_SELECT", .u20, .rw, 0, 0, 0, 1048575, [], [⟨19, 10, 0, 0, 0⟩, ⟨9, 9, 1, 0, 1⟩, ⟨8, 0, 1, 0, 511⟩], 0, .transport, 0, 0⟩,
  ⟨0x501002, 0x501002, "SB_FN_RIGHTS", .e20, .rwp, 2, 0, 0, 2, [0, 1, 2], [], 1, .fn, 0, 0⟩,
  ⟨0x502001, 0x502001, "SB_LOOKUPS", .u60, .ro, 0, 0, 0, 1152921504606846975, [], [], 0, .device, 0, 0⟩,
  ⟨0x502002, 0x502002, "SB_ABSENT", .u60, .ro, 0, 0, 0, 1152921504606846975, [], [], 0, .device, 0, 0⟩,
  ⟨0x502003, 0x502003, "SB_PUTS", .u60, .ro, 0, 0, 0, 1152921504606846975, [], [], 0, .device, 0, 0⟩,
  ⟨0x502004, 0x502004, "SB_DROPS", .u60, .ro, 0, 0, 0, 1152921504606846975, [], [], 0, .device, 0, 0⟩,
  ⟨0x502005, 0x502005, "SB_KICKS", .u60, .ro, 0, 0, 0, 1152921504606846975, [], [], 0, .device, 0, 0⟩,
  ⟨0x502006, 0x502006, "SB_FULL", .u60, .ro, 0, 0, 0, 1152921504606846975, [], [], 0, .device, 0, 0⟩,
  ⟨0x502007, 0x502007, "SB_SEG_READS", .u60, .ro, 0, 0, 0, 1152921504606846975, [], [], 0, .device, 0, 0⟩,
  ⟨0x502008, 0x502008, "SB_CLIPPED", .u60, .ro, 0, 0, 0, 1152921504606846975, [], [], 0, .device, 0, 0⟩,
  ⟨0x510001, 0x510001, "PW_SELECT", .u20, .rw, 0, 0, 0, 1048575, [], [⟨19, 9, 0, 0, 0⟩, ⟨8, 8, 1, 0, 1⟩, ⟨7, 0, 1, 0, 255⟩], 0, .transport, 0, 0⟩,
  ⟨0x510002, 0x510002, "PW_STATE", .e20, .ro, 0, 0, 0, 2, [0, 1, 2], [], 0, .item, 0, 0⟩,
  ⟨0x510003, 0x510003, "PW_BASE", .oct, .rw, 0, 0, 0, 8, [], [], 0, .item, 8, 0⟩,
  ⟨0x510004, 0x510004, "PW_SIZE", .u40, .rw, 4096, 4096, 4096, 4294967296, [], [], 0, .item, 0, 4096⟩,
  ⟨0x510005, 0x510005, "PW_DB_ADDR", .oct, .rw, 0, 0, 0, 8, [], [], 0, .item, 8, 0⟩,
  ⟨0x510006, 0x510006, "PW_DB_SIZE", .e20, .rw, 0, 0, 0, 1, [0, 1], [], 0, .item, 0, 0⟩,
  ⟨0x510007, 0x510007, "PW_DB_TEMPLATE", .oct, .rw, 0, 0, 0, 8, [], [], 0, .item, 8, 0⟩,
  ⟨0x510008, 0x510008, "PW_DB_FIELD_A", .b20, .rw, 0, 0, 0, 1048575, [], [⟨19, 15, 0, 0, 0⟩, ⟨14, 12, 1, 0, 4⟩, ⟨11, 6, 1, 0, 63⟩, ⟨5, 0, 1, 0, 63⟩], 0, .item, 0, 0⟩,
  ⟨0x510009, 0x510009, "PW_DB_FIELD_B", .b20, .rw, 0, 0, 0, 1048575, [], [⟨19, 15, 0, 0, 0⟩, ⟨14, 12, 1, 0, 4⟩, ⟨11, 6, 1, 0, 63⟩, ⟨5, 0, 1, 0, 63⟩], 0, .item, 0, 0⟩,
  ⟨0x51000A, 0x51000A, "PW_MAX_WORK", .u20, .rw, 64, 64, 1, 4096, [], [], 0, .item, 0, 0⟩,
  ⟨0x51000B, 0x51000B, "PW_OWNER", .b20, .rw, 512, 512, 0, 1048575, [], [⟨19, 12, 0, 0, 0⟩, ⟨11, 11, 1, 0, 1⟩, ⟨10, 10, 1, 0, 1⟩, ⟨9, 9, 1, 0, 1⟩, ⟨8, 0, 1, 0, 511⟩], 0, .item, 0, 0⟩,
  ⟨0x51000C, 0x51000C, "PW_ORDERED", .e20, .rw, 1, 1, 0, 1, [0, 1], [], 0, .item, 0, 0⟩,
  ⟨0x51000D, 0x51000D, "PW_TIMEOUT", .u20, .rw, 100, 100, 1, 10000, [], [], 0, .item, 0, 0⟩,
  ⟨0x51000E, 0x51000E, "PW_CMD", .u20, .x, 0, 0, 1, 3, [], [], 0, .item, 0, 0⟩,
  ⟨0x51000F, 0x51000F, "PW_CMD_RESULT", .e20, .ro, 0, 0, 0, 2, [0, 1, 2], [], 0, .item, 0, 0⟩,
  ⟨0x510010, 0x510010, "PW_OUTSTANDING", .u20, .ro, 0, 0, 0, 4096, [], [], 0, .item, 0, 0⟩,
  ⟨0x510011, 0x510011, "PW_RETIRE_CAUSE", .e20, .ro, 0, 0, 0, 5, [0, 1, 2, 3, 4, 5], [], 0, .item, 0, 0⟩,
  ⟨0x510012, 0x510012, "PW_DOORBELLS", .u60, .ro, 0, 0, 0, 1152921504606846975, [], [], 0, .item, 0, 0⟩,
  ⟨0x510013, 0x510013, "PW_BYTES", .u60, .ro, 0, 0, 0, 1152921504606846975, [], [], 0, .item, 0, 0⟩,
  ⟨0x510014, 0x510014, "PW_BAD_CONSUMED", .u60, .ro, 0, 0, 0, 1152921504606846975, [], [], 0, .item, 0, 0⟩,
  ⟨0x518000, 0x5180FF, "PW_CONSUMED", .u20, .rw, 0, 0, 0, 1048575, [], [], 0, .device, 0, 0⟩,
  ⟨0x518100, 0x5181FF, "PW_CONSUMED", .u20, .rw, 0, 0, 0, 1048575, [], [], 0, .device, 0, 0⟩,
  ⟨0x519000, 0x5190FF, "PW_FAULT", .u20, .rw, 0, 0, 0, 1048575, [], [], 0, .device, 0, 0⟩,
  ⟨0x519100, 0x5191FF, "PW_FAULT", .u20, .rw, 0, 0, 0, 1048575, [], [], 0, .device, 0, 0⟩,
  ⟨0x580001, 0x580001, "PAIR_MODE", .e20, .rwp, 0, 0, 0, 1, [0, 1], [], 1, .device, 0, 0⟩,
  ⟨0x580002, 0x580002, "PAIR_SOLO_WRITES", .e20, .rwp, 0, 0, 0, 3, [0, 1, 2, 3], [], 1, .device, 0, 0⟩,
  ⟨0x580003, 0x580003, "PAIR_JOIN_WAIT", .u20, .rwp, 5, 5, 1, 30, [], [], 1, .device, 0, 0⟩,
  ⟨0x580004, 0x580004, "RALLY_LOSS_TIME", .u20, .rwp, 50, 50, 10, 10000, [], [], 1, .device, 0, 0⟩]

def dictRowsC4 : List Desc := [
  ⟨0x580005, 0x580005, "MIRROR_SLOTS", .u20, .rwp, 32768, 32768, 4096, 262144, [], [], 1, .device, 0, 0⟩,
  ⟨0x580006, 0x580006, "RESYNC_RATE_MAX", .u20, .rwp, 8000, 8000, 100, 29000, [], [], 1, .device, 0, 0⟩,
  ⟨0x580007, 0x580007, "RALLY_ACK_TIMEOUT", .u20, .rwp, 10, 10, 2, 1000, [], [], 1, .device, 0, 0⟩,
  ⟨0x580008, 0x580008, "RALLY_MIN_LANES", .e20, .rwp, 1, 1, 1, 8, [1, 2, 4, 8], [], 1, .device, 0, 0⟩,
  ⟨0x580009, 0x580009, "MIRROR_ACK_BOUND", .u20, .ro, 4000, 4000, 0, 1048575, [], [], 0, .device, 0, 0⟩,
  ⟨0x581001, 0x581001, "PAIR_STATE", .e20, .ro, 4, 4, 0, 4, [0, 1, 2, 3, 4], [], 2, .device, 0, 0⟩,
  ⟨0x581002, 0x581002, "PAIR_INDEX", .u20, .ro, 0, 0, 0, 1, [], [], 0, .device, 0, 0⟩,
  ⟨0x581003, 0x581003, "PAIR_IDENTITY", .oct, .ro, 0, 0, 0, 8, [], [], 2, .device, 8, 0⟩,
  ⟨0x581004, 0x581004, "RALLY_LANES", .u20, .ro, 0, 0, 0, 8, [], [], 0, .device, 0, 0⟩,
  ⟨0x581005, 0x581005, "MIRROR_SLOTS_HELD", .u20, .ro, 0, 0, 0, 1048575, [], [], 0, .device, 0, 0⟩,
  ⟨0x581006, 0x581006, "MIRROR_INFLIGHT", .u20, .ro, 0, 0, 0, 1048575, [], [], 0, .device, 0, 0⟩,
  ⟨0x581007, 0x581007, "MARKED_GRANULES", .u20, .ro, 0, 0, 0, 524289, [], [], 2, .device, 0, 0⟩,
  ⟨0x581008, 0x581008, "UNCONFIRMED", .u20, .ro, 0, 0, 0, 8192, [], [], 2, .device, 0, 0⟩,
  ⟨0x581009, 0x581009, "DIVERGED_GRANULES", .u20, .ro, 0, 0, 0, 524289, [], [], 2, .device, 0, 0⟩,
  ⟨0x58100A, 0x58100A, "RESYNC_LEFT", .u20, .ro, 0, 0, 0, 1048575, [], [], 0, .device, 0, 0⟩,
  ⟨0x58100B, 0x58100B, "DETACHED", .e20, .ro, 0, 0, 0, 2, [0, 1, 2], [], 2, .device, 0, 0⟩,
  ⟨0x58100C, 0x58100C, "SOLO_SINCE", .u60, .ro, 0, 0, 0, 1152921504606846975, [], [], 0, .device, 0, 0⟩,
  ⟨0x582001, 0x582001, "MAP_SELECT", .u20, .rw, 0, 0, 0, 16, [], [], 0, .transport, 0, 0⟩,
  ⟨0x582002, 0x582002, "DIRTY_MAP", .oct, .ro, 0, 0, 0, 4096, [], [], 0, .item, 4096, 0⟩,
  ⟨0x582003, 0x582003, "DIVERGED_MAP", .oct, .ro, 0, 0, 0, 4096, [], [], 0, .item, 4096, 0⟩,
  ⟨0x583001, 0x583001, "RALLY_FRAMES_TX", .u60, .ro, 0, 0, 0, 1152921504606846975, [], [], 0, .device, 0, 0⟩,
  ⟨0x583002, 0x583002, "RALLY_FRAMES_RX", .u60, .ro, 0, 0, 0, 1152921504606846975, [], [], 0, .device, 0, 0⟩,
  ⟨0x583003, 0x583003, "RALLY_NAKS", .u60, .ro, 0, 0, 0, 1152921504606846975, [], [], 0, .device, 0, 0⟩,
  ⟨0x583004, 0x583004, "RALLY_REPLAYS", .u60, .ro, 0, 0, 0, 1152921504606846975, [], [], 0, .device, 0, 0⟩,
  ⟨0x583005, 0x583005, "PARTNER_LOSSES", .u60, .ro, 0, 0, 0, 1152921504606846975, [], [], 2, .device, 0, 0⟩,
  ⟨0x583006, 0x583006, "MIRRORED_BYTES", .u60, .ro, 0, 0, 0, 1152921504606846975, [], [], 0, .device, 0, 0⟩,
  ⟨0x583007, 0x583007, "RESYNC_BYTES", .u60, .ro, 0, 0, 0, 1152921504606846975, [], [], 0, .device, 0, 0⟩,
  ⟨0x583008, 0x583008, "REMOTE_READS", .u60, .ro, 0, 0, 0, 1152921504606846975, [], [], 0, .device, 0, 0⟩,
  ⟨0x584000, 0x58403F, "MBOX", .u20, .rw, 0, 0, 0, 1048575, [], [], 0, .device, 0, 0⟩,
  ⟨0x584100, 0x58413F, "MBOX_FENCED", .u20, .rw, 0, 0, 0, 1048575, [], [], 0, .device, 0, 0⟩,
  ⟨0x584201, 0x584201, "MBOX_FENCE_RESULT", .e20, .ro, 0, 0, 0, 2, [0, 1, 2], [], 0, .device, 0, 0⟩,
  ⟨0x584202, 0x584202, "MBOX_FOREIGN_WRITES", .u60, .ro, 0, 0, 0, 1152921504606846975, [], [], 0, .device, 0, 0⟩]

/-- Entries 0x4000–0x5FFF. -/
def dictRowsC : List Desc :=
  dictRowsC0 ++ dictRowsC1 ++ dictRowsC2 ++ dictRowsC3 ++ dictRowsC4

end Sys2Proof.Machine
end

