-- ==== Sys2Proof/Machine/DictD.lean ====
section
/-! DEFINITION. The dictionary entries 0x6000–0x7FFF with the properties of R365, one row each as the
manual's tables give them: first and last address, name, type, access, default, default on a
virtual function, minimum, maximum, listed codes, fields, persistence, scope, octets, rounding
step. -/
namespace Sys2Proof.Machine

def dictRowsD0 : List Desc := [
  ⟨0x600001, 0x600001, "PM_MODE", .e20, .rwp, 0, 0, 0, 1, [0, 1], [], 1, .device, 0, 0⟩,
  ⟨0x600002, 0x600002, "PM_TARGET", .e20, .rw, 0, 0, 0, 4, [0, 1, 2, 3, 4], [], 0, .device, 0, 0⟩,
  ⟨0x600003, 0x600003, "PS_CURRENT", .e20, .ro, 0, 0, 0, 4, [0, 1, 2, 3, 4], [], 0, .device, 0, 0⟩,
  ⟨0x600004, 0x600004, "PS_REQUESTED", .e20, .ro, 0, 0, 0, 4, [0, 1, 2, 3, 4], [], 0, .device, 0, 0⟩,
  ⟨0x600005, 0x600005, "PS_LAST_OP", .e20, .ro, 0, 0, 0, 2, [0, 1, 2], [], 0, .device, 0, 0⟩,
  ⟨0x600006, 0x600006, "PS_ENTRIES", .u60, .ro, 0, 0, 0, 1152921504606846975, [], [], 0, .device, 0, 0⟩,
  ⟨0x600007, 0x600007, "PS_REFUSALS", .oct, .ro, 0, 0, 0, 50, [], [], 0, .device, 50, 0⟩,
  ⟨0x600008, 0x600008, "PS_LAST_REFUSER", .e20, .ro, 15, 15, 0, 9, [0, 1, 2, 3, 4, 5, 6, 7, 8, 9], [], 0, .device, 0, 0⟩,
  ⟨0x600009, 0x600009, "PS0_MP", .u20, .rwp, 9000, 9000, 1000, 25000, [], [], 1, .device, 0, 0⟩,
  ⟨0x60000A, 0x60000A, "PS1_MP", .u20, .rwp, 6500, 6500, 1000, 25000, [], [], 1, .device, 0, 0⟩,
  ⟨0x60000B, 0x60000B, "PS2_MP", .u20, .rwp, 4000, 4000, 1000, 25000, [], [], 1, .device, 0, 0⟩,
  ⟨0x60000C, 0x60000C, "PS3_MP", .u20, .rwp, 1200, 1200, 100, 10000, [], [], 1, .device, 0, 0⟩,
  ⟨0x60000D, 0x60000D, "PS4_MP", .u20, .rwp, 300, 300, 10, 5000, [], [], 1, .device, 0, 0⟩,
  ⟨0x601001, 0x601001, "IDLE_PS3", .u20, .rwp, 50, 50, 1, 100000, [], [], 1, .device, 0, 0⟩,
  ⟨0x601002, 0x601002, "IDLE_PS4", .u20, .rwp, 5000, 5000, 10, 1000000, [], [], 1, .device, 0, 0⟩,
  ⟨0x601003, 0x601003, "HOUSEKEEPING_WAKE", .u20, .rwp, 60, 60, 0, 1440, [], [], 1, .device, 0, 0⟩,
  ⟨0x603001, 0x603001, "WAKE_ENABLE", .b20, .rwp, 127, 127, 0, 1048575, [], [⟨19, 7, 0, 0, 0⟩, ⟨6, 2, 1, 0, 31⟩, ⟨1, 1, 1, 1, 1⟩, ⟨0, 0, 1, 0, 1⟩], 1, .device, 0, 0⟩,
  ⟨0x603002, 0x603002, "WAKE_PME", .b20, .rwp, 0, 0, 0, 1048575, [], [⟨19, 7, 0, 0, 0⟩, ⟨6, 6, 1, 0, 1⟩, ⟨5, 5, 0, 0, 0⟩, ⟨4, 2, 1, 0, 7⟩, ⟨1, 1, 0, 0, 0⟩, ⟨0, 0, 1, 0, 1⟩], 1, .device, 0, 0⟩,
  ⟨0x603003, 0x603003, "WAKE_LAST", .e20, .ro, 7, 7, 0, 6, [0, 1, 2, 3, 4, 5, 6], [], 0, .device, 0, 0⟩,
  ⟨0x603004, 0x603004, "WAKE_COUNTS", .oct, .ro, 0, 0, 0, 35, [], [], 0, .device, 35, 0⟩,
  ⟨0x604001, 0x604001, "WAKE_PATTERN", .oct, .rwp, 0, 0, 0, 128, [], [], 1, .device, 128, 0⟩,
  ⟨0x604002, 0x604002, "WAKE_MASK", .oct, .rwp, 0, 0, 0, 16, [], [], 1, .device, 16, 0⟩,
  ⟨0x604003, 0x604003, "WAKE_LEN", .u20, .rwp, 0, 0, 0, 128, [], [], 1, .device, 0, 0⟩,
  ⟨0x605001, 0x605001, "PMB_ADDR", .u20, .rwp, 64, 64, 8, 119, [], [], 1, .device, 0, 0⟩,
  ⟨0x605002, 0x605002, "AVS_ENABLE", .e20, .rwp, 1, 1, 0, 1, [0, 1], [], 1, .device, 0, 0⟩,
  ⟨0x605003, 0x605003, "VCORE_MIN", .u20, .rwp, 650, 650, 650, 850, [], [], 1, .device, 0, 5⟩,
  ⟨0x605004, 0x605004, "VCORE_MAX", .u20, .rwp, 850, 850, 650, 850, [], [], 1, .device, 0, 5⟩,
  ⟨0x605005, 0x605005, "VCORE_TARGET", .u20, .ro, 750, 750, 650, 850, [], [], 0, .device, 0, 0⟩,
  ⟨0x605006, 0x605006, "PMB_FAILS", .u60, .ro, 0, 0, 0, 1152921504606846975, [], [], 2, .device, 0, 0⟩,
  ⟨0x605007, 0x605007, "PMB_LAST_RESULT", .e20, .ro, 0, 0, 0, 4, [0, 1, 2, 3, 4], [], 0, .device, 0, 0⟩,
  ⟨0x605008, 0x605008, "PMB_LAST_STATUS", .oct, .ro, 0, 0, 0, 14, [], [], 0, .device, 14, 0⟩,
  ⟨0x605009, 0x605009, "PGOOD_LOSSES", .u60, .ro, 0, 0, 0, 1152921504606846975, [], [], 2, .device, 0, 0⟩,
  ⟨0x60500A, 0x60500A, "PMB_RETRIES", .u60, .ro, 0, 0, 0, 1152921504606846975, [], [], 0, .device, 0, 0⟩,
  ⟨0x606001, 0x606001, "CLK_SOURCE", .e20, .ro, 0, 0, 0, 3, [0, 1, 2, 3], [], 0, .device, 0, 0⟩,
  ⟨0x606002, 0x606002, "PLL_LOCKS", .u60, .ro, 0, 0, 0, 1152921504606846975, [], [], 0, .device, 0, 0⟩,
  ⟨0x606003, 0x606003, "REF_LOSSES", .u60, .ro, 0, 0, 0, 1152921504606846975, [], [], 2, .device, 0, 0⟩,
  ⟨0x640001, 0x640001, "TJ", .s20, .ro, 0, 0, -524288, 524287, [], [], 0, .device, 0, 0⟩,
  ⟨0x640002, 0x640002, "TJ_MAX", .s20, .ro, 0, 0, -524288, 524287, [], [], 0, .device, 0, 0⟩,
  ⟨0x640003, 0x640003, "THERM_STATE", .e20, .ro, 0, 0, 0, 3, [0, 1, 2, 3], [], 0, .device, 0, 0⟩,
  ⟨0x640004, 0x640004, "THERM_WARN", .u20, .rwp, 100, 100, 70, 100, [], [], 1, .device, 0, 0⟩]

def dictRowsD1 : List Desc := [
  ⟨0x640005, 0x640005, "THERM_THROTTLE", .u20, .rwp, 108, 108, 80, 108, [], [], 1, .device, 0, 0⟩,
  ⟨0x640006, 0x640006, "THERM_SHUTDOWN", .u20, .rwp, 118, 118, 90, 118, [], [], 1, .device, 0, 0⟩,
  ⟨0x640007, 0x640007, "THROTTLE_STEP", .u20, .ro, 0, 0, 0, 8, [], [], 0, .device, 0, 0⟩,
  ⟨0x640008, 0x640008, "THROTTLE_RISE", .u20, .ro, 50, 50, 0, 1048575, [], [], 0, .device, 0, 0⟩,
  ⟨0x640009, 0x640009, "THROTTLE_RELEASE", .u20, .rwp, 500, 500, 50, 10000, [], [], 1, .device, 0, 0⟩,
  ⟨0x64000A, 0x64000A, "THROTTLE_FACTORS", .oct, .rwp, 1038483140639299356394153846243328900, 1038483140639299356394153846243328900, 0, 16, [], [], 1, .device, 16, 0⟩,
  ⟨0x64000B, 0x64000B, "SENSOR_FAULT", .e20, .ro, 0, 0, 0, 1, [0, 1], [], 0, .device, 0, 0⟩,
  ⟨0x64000C, 0x64000C, "THROTTLE_TIME", .u60, .ro, 0, 0, 0, 1152921504606846975, [], [], 2, .device, 0, 0⟩,
  ⟨0x64000D, 0x64000D, "THERM_SHUTDOWNS", .u60, .ro, 0, 0, 0, 1152921504606846975, [], [], 2, .device, 0, 0⟩,
  ⟨0x641001, 0x641001, "ADC_SAMPLES", .oct, .ro, 0, 0, 0, 64, [], [], 0, .device, 64, 0⟩,
  ⟨0x641002, 0x641002, "ADC_SLOT_FAILS", .b20, .ro, 0, 0, 0, 1048575, [], [⟨19, 16, 0, 0, 0⟩, ⟨15, 0, 1, 0, 65535⟩], 0, .device, 0, 0⟩,
  ⟨0x641003, 0x641003, "ADC_OVERRANGE", .u60, .ro, 0, 0, 0, 1152921504606846975, [], [], 0, .device, 0, 0⟩,
  ⟨0x641004, 0x641004, "ADC_SCANS", .u60, .ro, 0, 0, 0, 1152921504606846975, [], [], 0, .device, 0, 0⟩,
  ⟨0x641005, 0x641005, "V12_MAIN", .s20, .ro, 0, 0, -524288, 524287, [], [], 0, .device, 0, 0⟩,
  ⟨0x641006, 0x641006, "V3V3_AUX", .s20, .ro, 0, 0, -524288, 524287, [], [], 0, .device, 0, 0⟩,
  ⟨0x641007, 0x641007, "VCORE_SENSE", .s20, .ro, 0, 0, -524288, 524287, [], [], 0, .device, 0, 0⟩,
  ⟨0x641008, 0x641008, "STORE_SHUNT", .u20, .rwp, 5000, 5000, 100, 100000, [], [], 1, .device, 0, 0⟩,
  ⟨0x680001, 0x680001, "DESC_SELECT", .u40, .rw, 0, 0, 0, 1099511627775, [], [⟨39, 24, 0, 0, 0⟩, ⟨23, 8, 1, 0, 65535⟩, ⟨7, 0, 1, 0, 255⟩], 0, .transport, 0, 0⟩,
  ⟨0x680002, 0x680002, "DESC_TYPE", .e20, .ro, 0, 0, 0, 6, [0, 1, 2, 3, 4, 5, 6], [], 0, .item, 0, 0⟩,
  ⟨0x680003, 0x680003, "DESC_ACCESS", .e20, .ro, 0, 0, 0, 4, [0, 1, 2, 3, 4], [], 0, .item, 0, 0⟩,
  ⟨0x680004, 0x680004, "DESC_PERSIST", .e20, .ro, 0, 0, 0, 2, [0, 1, 2], [], 0, .item, 0, 0⟩,
  ⟨0x680005, 0x680005, "DESC_SCOPE", .e20, .ro, 0, 0, 0, 4, [0, 1, 2, 3, 4], [], 0, .item, 0, 0⟩,
  ⟨0x680006, 0x680006, "DESC_DEFAULT", .u60, .ro, 0, 0, 0, 1152921504606846975, [], [], 0, .item, 0, 0⟩,
  ⟨0x680007, 0x680007, "DESC_DEFAULT_VF", .u60, .ro, 0, 0, 0, 1152921504606846975, [], [], 0, .item, 0, 0⟩,
  ⟨0x680008, 0x680008, "DESC_MIN", .u60, .ro, 0, 0, 0, 1152921504606846975, [], [], 0, .item, 0, 0⟩,
  ⟨0x680009, 0x680009, "DESC_MAX", .u60, .ro, 0, 0, 0, 1152921504606846975, [], [], 0, .item, 0, 0⟩,
  ⟨0x68000A, 0x68000A, "DESC_FIELDS", .oct, .ro, 0, 0, 0, 240, [], [], 0, .item, 240, 0⟩,
  ⟨0x68000B, 0x68000B, "DESC_ENUM", .oct, .ro, 0, 0, 0, 256, [], [], 0, .item, 256, 0⟩,
  ⟨0x68000C, 0x68000C, "DESC_NAME", .oct, .ro, 0, 0, 0, 32, [], [], 0, .item, 32, 0⟩,
  ⟨0x68000D, 0x68000D, "DESC_NEXT", .u40, .ro, 0, 0, 0, 1099511627775, [], [], 0, .item, 0, 0⟩,
  ⟨0x68000E, 0x68000E, "DICT_ENTRIES", .u20, .ro, 0, 0, 0, 1048575, [], [], 0, .device, 0, 0⟩,
  ⟨0x68000F, 0x68000F, "DICT_FORMAT", .u20, .ro, 1, 1, 0, 1048575, [], [], 0, .device, 0, 0⟩,
  ⟨0x681001, 0x681001, "IMAGE_STATE", .e20, .ro, 0, 0, 0, 2, [0, 1, 2], [], 0, .device, 0, 0⟩,
  ⟨0x681002, 0x681002, "IMAGE_SEQ", .u40, .ro, 0, 0, 0, 1099511627775, [], [⟨39, 32, 0, 0, 0⟩, ⟨31, 0, 1, 0, 4294967295⟩], 0, .device, 0, 0⟩,
  ⟨0x681003, 0x681003, "IMAGE_SOURCE", .e20, .ro, 0, 0, 0, 2, [0, 1, 2], [], 0, .device, 0, 0⟩,
  ⟨0x681004, 0x681004, "IMAGE_DELAY", .u20, .rwp, 100, 100, 10, 10000, [], [], 1, .device, 0, 0⟩,
  ⟨0x681005, 0x681005, "IMAGE_FLUSH", .u20, .x, 0, 0, 1, 1, [], [], 0, .device, 0, 0⟩,
  ⟨0x681006, 0x681006, "IMAGE_RECORDS", .u20, .ro, 0, 0, 0, 1048575, [], [], 0, .device, 0, 0⟩,
  ⟨0x681007, 0x681007, "IMAGE_LOAD_CLAMPS", .u20, .ro, 0, 0, 0, 1048575, [], [], 0, .device, 0, 0⟩,
  ⟨0x681008, 0x681008, "IMAGE_WRITES", .u60, .ro, 0, 0, 0, 1152921504606846975, [], [], 2, .device, 0, 0⟩]

def dictRowsD2 : List Desc := [
  ⟨0x682001, 0x682001, "MCTP_SMB_ADDR", .u20, .rwp, 106, 106, 8, 119, [], [], 1, .device, 0, 0⟩,
  ⟨0x682002, 0x682002, "MCTP_EID", .u20, .ro, 0, 0, 0, 254, [], [], 0, .device, 0, 0⟩,
  ⟨0x682003, 0x682003, "MCTP_WRITE_ENABLE", .e20, .rwp, 1, 1, 0, 1, [0, 1], [], 1, .device, 0, 0⟩,
  ⟨0x682004, 0x682004, "MCTP_SMB_SPEED", .e20, .rwp, 2, 2, 0, 2, [0, 1, 2], [], 1, .device, 0, 0⟩,
  ⟨0x682005, 0x682005, "MCTP_MSGS", .u60, .ro, 0, 0, 0, 1152921504606846975, [], [], 0, .device, 0, 0⟩,
  ⟨0x682006, 0x682006, "MCTP_ERRORS", .u60, .ro, 0, 0, 0, 1152921504606846975, [], [], 0, .device, 0, 0⟩,
  ⟨0x683001, 0x683001, "MGMT_MAC", .oct, .ro, 0, 0, 0, 6, [], [], 0, .device, 6, 0⟩,
  ⟨0x683002, 0x683002, "MGMT_LINK", .e20, .ro, 0, 0, 0, 3, [0, 1, 2, 3], [], 0, .device, 0, 0⟩,
  ⟨0x683003, 0x683003, "MGMT_ENABLE", .e20, .rwp, 1, 1, 0, 1, [0, 1], [], 1, .device, 0, 0⟩,
  ⟨0x683004, 0x683004, "MGMT_IPV6_ADDR", .oct, .rwp, 0, 0, 0, 16, [], [], 1, .device, 16, 0⟩,
  ⟨0x683005, 0x683005, "MGMT_IPV6_PREFIX", .u20, .rwp, 64, 64, 1, 128, [], [], 1, .device, 0, 0⟩,
  ⟨0x683006, 0x683006, "MGMT_GATEWAY", .oct, .rwp, 0, 0, 0, 16, [], [], 1, .device, 16, 0⟩,
  ⟨0x683007, 0x683007, "MGMT_RX_DROPS", .u60, .ro, 0, 0, 0, 1152921504606846975, [], [], 0, .device, 0, 0⟩,
  ⟨0x684001, 0x684001, "FLIAD_PORT", .u20, .rwp, 7610, 7610, 1024, 65535, [], [], 1, .device, 0, 0⟩,
  ⟨0x684002, 0x684002, "FLIAD_WRITE_ENABLE", .e20, .rwp, 1, 1, 0, 1, [0, 1], [], 1, .device, 0, 0⟩,
  ⟨0x684003, 0x684003, "FLIAD_SESSIONS_MAX", .u20, .rwp, 4, 4, 1, 4, [], [], 1, .device, 0, 0⟩,
  ⟨0x684004, 0x684004, "FLIAD_IDLE", .u20, .rwp, 60, 60, 10, 3600, [], [], 1, .device, 0, 0⟩,
  ⟨0x684005, 0x684005, "FLIAD_KEY_STATE", .e20, .ro, 0, 0, 0, 1, [0, 1], [], 0, .device, 0, 0⟩,
  ⟨0x684006, 0x684006, "FLIAD_SESSIONS", .u20, .ro, 0, 0, 0, 4, [], [], 0, .device, 0, 0⟩,
  ⟨0x684007, 0x684007, "FLIAD_REQUESTS", .u60, .ro, 0, 0, 0, 1152921504606846975, [], [], 0, .device, 0, 0⟩,
  ⟨0x684008, 0x684008, "FLIAD_AUTH_FAILS", .u60, .ro, 0, 0, 0, 1152921504606846975, [], [], 2, .device, 0, 0⟩,
  ⟨0x684009, 0x684009, "FLIAD_STALE_SEQ", .u60, .ro, 0, 0, 0, 1152921504606846975, [], [], 0, .device, 0, 0⟩,
  ⟨0x685001, 0x685001, "DICT_READS", .u60, .ro, 0, 0, 0, 1152921504606846975, [], [], 0, .device, 0, 0⟩,
  ⟨0x685002, 0x685002, "DICT_WRITES", .u60, .ro, 0, 0, 0, 1152921504606846975, [], [], 0, .device, 0, 0⟩,
  ⟨0x685003, 0x685003, "DICT_REFUSED", .u60, .ro, 0, 0, 0, 1152921504606846975, [], [], 0, .device, 0, 0⟩,
  ⟨0x700001, 0x700001, "POWER_ON_TIME", .u60, .ro, 0, 0, 0, 1152921504606846975, [], [], 2, .device, 0, 0⟩,
  ⟨0x700002, 0x700002, "FABRIC_NOW", .u60, .ro, 0, 0, 0, 1152921504606846975, [], [], 0, .device, 0, 0⟩,
  ⟨0x700003, 0x700003, "POWER_CYCLES", .u60, .ro, 0, 0, 0, 1152921504606846975, [], [], 2, .device, 0, 0⟩,
  ⟨0x700004, 0x700004, "HOST_UNITS_READ", .u60, .ro, 0, 0, 0, 1152921504606846975, [], [], 2, .device, 0, 0⟩,
  ⟨0x700005, 0x700005, "COUNTERS_SATURATED", .u20, .ro, 0, 0, 0, 1048575, [], [], 0, .device, 0, 0⟩,
  ⟨0x700006, 0x700006, "COUNTERS_SATURATED_LIFE", .u20, .ro, 0, 0, 0, 1048575, [], [], 2, .device, 0, 0⟩,
  ⟨0x701001, 0x701001, "JRN_SEQ_EPOCH", .u40, .ro, 0, 0, 0, 1099511627775, [], [], 0, .device, 0, 0⟩,
  ⟨0x701002, 0x701002, "SB_SEQ_EPOCH", .u40, .ro, 0, 0, 0, 1099511627775, [], [], 0, .device, 0, 0⟩,
  ⟨0x701003, 0x701003, "RL_SEQ_EPOCH", .u60, .ro, 0, 0, 0, 1152921504606846975, [], [], 0, .device, 0, 0⟩,
  ⟨0x701004, 0x701004, "RALLY_SEQ_EPOCH", .u40, .ro, 0, 0, 0, 1099511627775, [], [], 0, .device, 0, 0⟩,
  ⟨0x701005, 0x701005, "SEQ_SPAN_WAITS", .u60, .ro, 0, 0, 0, 1152921504606846975, [], [], 0, .device, 0, 0⟩,
  ⟨0x701006, 0x701006, "SEQ_SPAN_CLOSES", .u60, .ro, 0, 0, 0, 1152921504606846975, [], [], 0, .device, 0, 0⟩,
  ⟨0x780001, 0x780001, "EVT_DEPTH", .u20, .ro, 65536, 65536, 0, 1048575, [], [], 0, .device, 0, 0⟩,
  ⟨0x780002, 0x780002, "EVT_NEXT", .u40, .ro, 0, 0, 0, 1099511627775, [], [⟨39, 32, 0, 0, 0⟩, ⟨31, 0, 1, 0, 4294967295⟩], 0, .device, 0, 0⟩,
  ⟨0x780003, 0x780003, "EVT_SELECT", .u40, .rw, 0, 0, 0, 1099511627775, [], [⟨39, 32, 0, 0, 0⟩, ⟨31, 0, 1, 0, 4294967295⟩], 0, .transport, 0, 0⟩]

def dictRowsD3 : List Desc := [
  ⟨0x780004, 0x780004, "EVT_RECORD", .oct, .ro, 0, 0, 0, 32, [], [], 0, .item, 32, 0⟩,
  ⟨0x780005, 0x780005, "EVT_MIN_SEVERITY", .e20, .rwp, 1, 1, 0, 5, [0, 1, 2, 3, 4, 5], [], 1, .device, 0, 0⟩,
  ⟨0x780006, 0x780006, "EVT_RATE_MAX", .u20, .rwp, 1000, 1000, 10, 100000, [], [], 1, .device, 0, 0⟩,
  ⟨0x780007, 0x780007, "EVT_TOTAL", .u60, .ro, 0, 0, 0, 1152921504606846975, [], [], 0, .device, 0, 0⟩,
  ⟨0x780008, 0x780008, "EVT_OVERWRITTEN", .u60, .ro, 0, 0, 0, 1152921504606846975, [], [], 0, .device, 0, 0⟩,
  ⟨0x780009, 0x780009, "EVT_FILTERED", .u60, .ro, 0, 0, 0, 1152921504606846975, [], [], 0, .device, 0, 0⟩,
  ⟨0x78000A, 0x78000A, "EVT_SUPPRESSED", .u60, .ro, 0, 0, 0, 1152921504606846975, [], [], 0, .device, 0, 0⟩,
  ⟨0x78000B, 0x78000B, "EVT_FIRST", .u40, .ro, 0, 0, 0, 1099511627775, [], [⟨39, 32, 0, 0, 0⟩, ⟨31, 0, 1, 0, 4294967295⟩], 0, .device, 0, 0⟩,
  ⟨0x781001, 0x781001, "EXCERPT_MIN_SEVERITY", .e20, .rwp, 4, 4, 3, 5, [3, 4, 5], [], 1, .device, 0, 0⟩,
  ⟨0x781002, 0x781002, "EXCERPT_DELAY", .u20, .rwp, 10, 10, 1, 600, [], [], 1, .device, 0, 0⟩,
  ⟨0x781003, 0x781003, "EXCERPT_SELECT", .u40, .rw, 0, 0, 0, 1099511627775, [], [⟨39, 32, 0, 0, 0⟩, ⟨31, 0, 1, 0, 4294967295⟩], 0, .transport, 0, 0⟩,
  ⟨0x781004, 0x781004, "EXCERPT_RECORD", .oct, .ro, 0, 0, 0, 32, [], [], 0, .item, 32, 0⟩,
  ⟨0x781005, 0x781005, "EXCERPT_OLDEST", .u40, .ro, 0, 0, 0, 1099511627775, [], [⟨39, 32, 0, 0, 0⟩, ⟨31, 0, 1, 0, 4294967295⟩], 2, .device, 0, 0⟩,
  ⟨0x781006, 0x781006, "EXCERPT_NEWEST", .u40, .ro, 0, 0, 0, 1099511627775, [], [⟨39, 32, 0, 0, 0⟩, ⟨31, 0, 1, 0, 4294967295⟩], 2, .device, 0, 0⟩,
  ⟨0x781007, 0x781007, "EXCERPT_LOST_LAST", .u20, .ro, 0, 0, 0, 1048574, [], [], 0, .device, 0, 0⟩,
  ⟨0x782001, 0x782001, "TELEM_CTRL_GEN", .u20, .ro, 0, 0, 0, 255, [], [], 2, .device, 0, 0⟩,
  ⟨0x782002, 0x782002, "TELEM_SKIPPED", .u60, .ro, 0, 0, 0, 1152921504606846975, [], [], 0, .device, 0, 0⟩,
  ⟨0x7C0001, 0x7C0001, "FW_RUNNING_SLOT", .u20, .ro, 0, 0, 0, 3, [], [], 0, .device, 0, 0⟩,
  ⟨0x7C0002, 0x7C0002, "FW_PENDING_SLOT", .u20, .ro, 0, 0, 0, 3, [], [], 2, .device, 0, 0⟩,
  ⟨0x7C0003, 0x7C0003, "FW_SLOT_VERSIONS", .oct, .ro, 0, 0, 0, 24, [], [], 2, .device, 24, 0⟩,
  ⟨0x7C0004, 0x7C0004, "BOOT_RESULT", .e20, .ro, 0, 0, 0, 2, [0, 1, 2], [], 0, .device, 0, 0⟩,
  ⟨0x7C0005, 0x7C0005, "BOOT_FAIL_MASK", .b20, .ro, 0, 0, 0, 1048575, [], [⟨19, 4, 0, 0, 0⟩, ⟨3, 1, 1, 0, 7⟩, ⟨0, 0, 0, 0, 0⟩], 0, .device, 0, 0⟩,
  ⟨0x7C0006, 0x7C0006, "FW_DOWNLOADED", .u40, .ro, 0, 0, 0, 16777216, [], [], 0, .device, 0, 0⟩,
  ⟨0x7C0007, 0x7C0007, "FW_COMMITS", .u60, .ro, 0, 0, 0, 1152921504606846975, [], [], 2, .device, 0, 0⟩,
  ⟨0x7C0008, 0x7C0008, "FW_ACTIVATIONS", .u60, .ro, 0, 0, 0, 1152921504606846975, [], [], 2, .device, 0, 0⟩,
  ⟨0x7C1001, 0x7C1001, "START_STEP", .e20, .ro, 0, 0, 1, 8, [1, 2, 3, 4, 5, 6, 7, 8], [], 0, .device, 0, 0⟩,
  ⟨0x7C1002, 0x7C1002, "START_CAUSE", .e20, .ro, 0, 0, 0, 4, [0, 1, 2, 3, 4], [], 0, .device, 0, 0⟩,
  ⟨0x7C1003, 0x7C1003, "START_TIMES", .oct, .ro, 0, 0, 0, 32, [], [], 0, .device, 32, 0⟩,
  ⟨0x7C1004, 0x7C1004, "START_INTERRUPTED", .u60, .ro, 0, 0, 0, 1152921504606846975, [], [], 2, .device, 0, 0⟩,
  ⟨0x7C2001, 0x7C2001, "WARMUP_BOUND", .u20, .rwp, 25000, 25000, 20000, 100000, [], [], 1, .device, 0, 0⟩,
  ⟨0x7C2002, 0x7C2002, "WARMUP_ACTIVE", .e20, .ro, 0, 0, 0, 1, [0, 1], [], 0, .device, 0, 0⟩,
  ⟨0x7C2003, 0x7C2003, "WARMUP_ADMITS", .u60, .ro, 0, 0, 0, 1152921504606846975, [], [], 0, .device, 0, 0⟩,
  ⟨0x7C2004, 0x7C2004, "WARMUP_LAST", .u40, .ro, 0, 0, 0, 1099511627775, [], [], 0, .device, 0, 0⟩,
  ⟨0x7C2005, 0x7C2005, "SLICE_LOAD_BOUND", .u20, .ro, 20000, 20000, 0, 1048575, [], [], 0, .device, 0, 0⟩,
  ⟨0x7C3001, 0x7C3001, "SHN_DRAIN_LIMIT", .u20, .rwp, 800, 800, 100, 850, [], [], 1, .device, 0, 0⟩,
  ⟨0x7C3002, 0x7C3002, "SHN_STATE", .e20, .ro, 0, 0, 0, 3, [0, 1, 2, 3], [], 0, .device, 0, 0⟩,
  ⟨0x7C3003, 0x7C3003, "SHN_COUNT", .u60, .ro, 0, 0, 0, 1152921504606846975, [], [], 2, .device, 0, 0⟩,
  ⟨0x7C3004, 0x7C3004, "SHN_LAST_TIME", .u40, .ro, 0, 0, 0, 1099511627775, [], [], 0, .device, 0, 0⟩,
  ⟨0x7C3005, 0x7C3005, "MAINT_SINCE", .u60, .ro, 0, 0, 0, 1152921504606846975, [], [], 0, .device, 0, 0⟩,
  ⟨0x7C3006, 0x7C3006, "MAINT_ENTRIES", .u60, .ro, 0, 0, 0, 1152921504606846975, [], [], 2, .device, 0, 0⟩]

def dictRowsD4 : List Desc := [
  ⟨0x7D0001, 0x7D0001, "DEV_PUBKEY", .oct, .ro, 0, 0, 0, 97, [], [], 0, .device, 97, 0⟩,
  ⟨0x7D0002, 0x7D0002, "MGMT_KEY_WRAP", .oct, .x, 0, 0, 0, 144, [], [], 0, .device, 144, 0⟩,
  ⟨0x7D0003, 0x7D0003, "MGMT_KEY_RESULT", .e20, .ro, 0, 0, 0, 3, [0, 1, 2, 3], [], 0, .device, 0, 0⟩,
  ⟨0x7D0004, 0x7D0004, "SEC_LOCK", .e20, .ro, 0, 0, 0, 1, [0, 1], [], 2, .device, 0, 0⟩,
  ⟨0x7D0005, 0x7D0005, "SEC_LOCK_SET", .u20, .x, 0, 0, 1, 1, [], [], 0, .device, 0, 0⟩,
  ⟨0x7D1001, 0x7D1001, "SVN_RUNNING", .u40, .ro, 0, 0, 0, 1099511627775, [], [⟨39, 32, 0, 0, 0⟩, ⟨31, 0, 1, 0, 4294967295⟩], 0, .device, 0, 0⟩,
  ⟨0x7D1002, 0x7D1002, "SVN_FLOOR", .u20, .ro, 0, 0, 0, 64, [], [], 2, .device, 0, 0⟩,
  ⟨0x7D1003, 0x7D1003, "SVN_COMMIT", .u20, .x, 0, 0, 1, 1, [], [], 0, .device, 0, 0⟩,
  ⟨0x7D1004, 0x7D1004, "SVN_RESULT", .e20, .ro, 0, 0, 0, 4, [0, 1, 2, 3, 4], [], 0, .device, 0, 0⟩,
  ⟨0x7D1005, 0x7D1005, "ROOT_KEYS", .b20, .ro, 0, 0, 0, 1048575, [], [⟨19, 8, 0, 0, 0⟩, ⟨7, 4, 1, 0, 15⟩, ⟨3, 0, 1, 0, 15⟩], 0, .device, 0, 0⟩,
  ⟨0x7D1006, 0x7D1006, "KEY_REVOKE", .u20, .x, 0, 0, 0, 3, [], [], 0, .device, 0, 0⟩,
  ⟨0x7D1007, 0x7D1007, "KEY_REVOKE_RESULT", .e20, .ro, 0, 0, 0, 3, [0, 1, 2, 3], [], 0, .device, 0, 0⟩,
  ⟨0x7F0001, 0x7F0001, "CLAMP_NEXT", .u40, .ro, 0, 0, 0, 1099511627775, [], [⟨39, 32, 0, 0, 0⟩, ⟨31, 0, 1, 0, 4294967295⟩], 0, .device, 0, 0⟩,
  ⟨0x7F0002, 0x7F0002, "CLAMP_SELECT", .u40, .rw, 0, 0, 0, 1099511627775, [], [⟨39, 32, 0, 0, 0⟩, ⟨31, 0, 1, 0, 4294967295⟩], 0, .transport, 0, 0⟩,
  ⟨0x7F0003, 0x7F0003, "CLAMP_RECORD", .oct, .ro, 0, 0, 0, 40, [], [], 0, .item, 40, 0⟩,
  ⟨0x7F0004, 0x7F0004, "CLAMP_DEPTH", .u20, .ro, 1024, 1024, 0, 1048575, [], [], 0, .device, 0, 0⟩,
  ⟨0x7F0005, 0x7F0005, "CLAMP_TOTAL", .u60, .ro, 0, 0, 0, 1152921504606846975, [], [], 0, .device, 0, 0⟩,
  ⟨0x7F0006, 0x7F0006, "CLAMP_REFUSALS", .u60, .ro, 0, 0, 0, 1152921504606846975, [], [], 0, .device, 0, 0⟩]

/-- Entries 0x6000–0x7FFF. -/
def dictRowsD : List Desc :=
  dictRowsD0 ++ dictRowsD1 ++ dictRowsD2 ++ dictRowsD3 ++ dictRowsD4

end Sys2Proof.Machine
end

