-- ==== Sys2Proof/Machine/Entries.lean ====
section
/-! DEFINITION. The addresses of the dictionary entries by name, as index × 256 + sub (R6, R365). -/
namespace Sys2Proof.Machine.E

abbrev VENDOR_ID : Nat := 0x100001
abbrev PF_DEVICE_ID : Nat := 0x100002
abbrev SILICON_REV : Nat := 0x100003
abbrev VARIANT : Nat := 0x100004
abbrev UNIT_SELECT : Nat := 0x101001
abbrev UNIT_OWN_STATE : Nat := 0x101002
abbrev UNIT_STATE : Nat := 0x101003
abbrev UNIT_TRANSIENTS : Nat := 0x101004
abbrev UNIT_FENCES : Nat := 0x101005
abbrev UNIT_FENCES_LIFE : Nat := 0x101006
abbrev UNIT_LAST_CHANGE : Nat := 0x101007
abbrev UNIT_CAUSE : Nat := 0x101008
abbrev UNIT_RETIRE : Nat := 0x101009
abbrev UNIT_RETIRE_RESULT : Nat := 0x10100A
abbrev LUN_STATES : Nat := 0x102001
abbrev TGT_STATES : Nat := 0x102002
abbrev CHAN_STATES : Nat := 0x102003
abbrev QUAD_STATES : Nat := 0x102004
abbrev OTHER_STATES : Nat := 0x102005
abbrev SERVICE_LEVEL : Nat := 0x103001
abbrev FLOOR_FAULTS : Nat := 0x103002
abbrev WT_CAUSE : Nat := 0x103003
abbrev TRANSIENT_LIMIT : Nat := 0x114001
abbrev FENCE_LIMIT : Nat := 0x114002
abbrev FENCE_TIME : Nat := 0x114003
abbrev TRANSIENT_WINDOW : Nat := 0x114004
abbrev FENCE_WINDOW : Nat := 0x114005
abbrev BACKOFF_BASE : Nat := 0x114006
abbrev RETRY_LIMIT : Nat := 0x114007
abbrev PARENT_SPREAD : Nat := 0x114008
abbrev SNAP_TAKE : Nat := 0x1F0001
abbrev SNAP_GEN : Nat := 0x1F0002
abbrev SNAP_TIME : Nat := 0x1F0003
abbrev SNAP_SERVICE : Nat := 0x1F0004
abbrev SNAP_CTL_STATE : Nat := 0x1F0005
abbrev SNAP_FLOOR : Nat := 0x1F0006
abbrev SNAP_FUNCS : Nat := 0x1F0007
abbrev SNAP_QPAIRS : Nat := 0x1F0008
abbrev SNAP_ADMITTED : Nat := 0x1F0009
abbrev SNAP_DIRTY : Nat := 0x1F000A
abbrev QSEL : Nat := 0x1F1001
abbrev Q_STATE : Nat := 0x1F1002
abbrev Q_SQ_HEAD : Nat := 0x1F1003
abbrev Q_SQ_TAIL : Nat := 0x1F1004
abbrev Q_CQ_HEAD : Nat := 0x1F1005
abbrev Q_CQ_TAIL : Nat := 0x1F1006
abbrev Q_CQ_PHASE : Nat := 0x1F1007
abbrev Q_INFLIGHT : Nat := 0x1F1008
abbrev Q_CLASS : Nat := 0x1F1009
abbrev Q_OLDEST_DUE : Nat := 0x1F100A
abbrev Q_BASES : Nat := 0x1F100B
abbrev Q_NEXT : Nat := 0x1F100C
abbrev CLASS0_TIME : Nat := 0x200001
abbrev CLASS1_TIME : Nat := 0x200002
abbrev CLASS2_TIME : Nat := 0x200003
abbrev CLASS2_LATE_LIMIT : Nat := 0x200004
abbrev RECOVERY_ALLOW : Nat := 0x200005
abbrev ADMIT_WAIT : Nat := 0x200006
abbrev HOST_LAT_LIMIT : Nat := 0x200007
abbrev CLASS_FOR_PRIORITY : Nat := 0x200008
abbrev DIE_HR : Nat := 0x201001
abbrev DIE_SY : Nat := 0x201002
abbrev DIE_HW : Nat := 0x201003
abbrev DIE_RB : Nat := 0x201004
abbrev DIE_RF : Nat := 0x201005
abbrev DIE_GC : Nat := 0x201006
abbrev DIE_FD : Nat := 0x201007
abbrev DIE_PT : Nat := 0x201008
abbrev DIE_ST : Nat := 0x201009
abbrev BUS_HR : Nat := 0x202001
abbrev BUS_SY : Nat := 0x202002
abbrev BUS_HW : Nat := 0x202003
abbrev BUS_RB : Nat := 0x202004
abbrev BUS_RF : Nat := 0x202005
abbrev BUS_GC : Nat := 0x202006
abbrev BUS_FD : Nat := 0x202007
abbrev BUS_PT : Nat := 0x202008
abbrev BUS_ST : Nat := 0x202009
abbrev LDH_HR : Nat := 0x203001
abbrev LDH_SY : Nat := 0x203002
abbrev LDH_HW : Nat := 0x203003
abbrev LDH_RB : Nat := 0x203004
abbrev LDH_RF : Nat := 0x203005
abbrev LDH_GC : Nat := 0x203006
abbrev LDH_FD : Nat := 0x203007
abbrev LDH_PT : Nat := 0x203008
abbrev LDH_ST : Nat := 0x203009
abbrev LDS_HR : Nat := 0x204001
abbrev LDS_SY : Nat := 0x204002
abbrev LDS_HW : Nat := 0x204003
abbrev LDS_RB : Nat := 0x204004
abbrev LDS_RF : Nat := 0x204005
abbrev LDS_GC : Nat := 0x204006
abbrev LDS_FD : Nat := 0x204007
abbrev LDS_PT : Nat := 0x204008
abbrev LDS_ST : Nat := 0x204009
abbrev SUPPLY_PS0 : Nat := 0x205001
abbrev SUPPLY_PS1 : Nat := 0x205002
abbrev SUPPLY_PS2 : Nat := 0x205003
abbrev SUPPLY_EFFECTIVE : Nat := 0x205004
abbrev THROTTLE_FACTOR : Nat := 0x205005
abbrev SUPPLY_HOLD_UNTIL : Nat := 0x205006
abbrev T_SUSP_WORST : Nat := 0x206001
abbrev TR_WORST_SLC : Nat := 0x206002
abbrev TR_WORST_QLC : Nat := 0x206003
abbrev TPROG_WORST_SLC : Nat := 0x206004
abbrev RESOLVE_BOUND : Nat := 0x206005
abbrev POST_MARGIN : Nat := 0x206006
abbrev PARITY_BOUND : Nat := 0x206007
abbrev LEDGER_INNINGS : Nat := 0x206008
abbrev RA_ENABLE : Nat := 0x207001
abbrev RA_MAX_INFLIGHT : Nat := 0x207002
abbrev RA_BUS_CEIL : Nat := 0x207003
abbrev ADMITTED : Nat := 0x209001
abbrev REFUSED : Nat := 0x209002
abbrev EXPIRED : Nat := 0x209003
abbrev LATE : Nat := 0x209004
abbrev READAROUND : Nat := 0x209005
abbrev HOST_DELAY : Nat := 0x209006
abbrev REFUSE_CAUSES : Nat := 0x209007
abbrev QB_SELECT : Nat := 0x210001
abbrev QB_CLASS : Nat := 0x210002
abbrev QB_EFFECTIVE : Nat := 0x210003
abbrev FN_SELECT : Nat := 0x211001
abbrev FN_CLASS_MAP : Nat := 0x211002
abbrev FN_CLASS_FLOOR : Nat := 0x211003
abbrev POOL_TOTAL : Nat := 0x220001
abbrev POOL_FREE : Nat := 0x220002
abbrev POOL_RESERVED : Nat := 0x220003
abbrev POOL_DENIED : Nat := 0x220004
abbrev FQ_SELECT : Nat := 0x221001
abbrev FQ_QUOTA : Nat := 0x221002
abbrev FQ_GRANTED : Nat := 0x221003
abbrev FQ_CREATED : Nat := 0x221004
abbrev FQ_FETCH_WEIGHT : Nat := 0x221005
abbrev FQ_DOORBELL_LIMIT : Nat := 0x221006
abbrev CTX_HITS : Nat := 0x222001
abbrev CTX_MISSES : Nat := 0x222002
abbrev FETCH_LIMIT : Nat := 0x223001
abbrev ADMIT_INPUT_DEPTH : Nat := 0x223002
abbrev FETCH_PAUSES : Nat := 0x223003
abbrev RL_CAPACITY : Nat := 0x224001
abbrev RL_LIVE : Nat := 0x224002
abbrev RL_PEAK : Nat := 0x224003
abbrev RL_HOLDOVER : Nat := 0x224004
abbrev RL_NEXT_SEQ : Nat := 0x224005
abbrev RL_WAITS : Nat := 0x224006
abbrev RL_FULL_STALLS : Nat := 0x224007
abbrev RL_HOLDOVER_STALLS : Nat := 0x224008
abbrev SQ_DEL_ABORTS : Nat := 0x225001
abbrev ABORT_CMDS : Nat := 0x225002
abbrev FWA_DRAIN_LIMIT : Nat := 0x226001
abbrev FWA_LAST_DRAIN : Nat := 0x226002
abbrev FWA_LAST_RESULT : Nat := 0x226003
abbrev ST_STATE : Nat := 0x227001
abbrev ST_SEGMENT : Nat := 0x227002
abbrev QC_SELECT : Nat := 0x228001
abbrev QC_FETCHED : Nat := 0x228002
abbrev QC_COMPLETED : Nat := 0x228003
abbrev QC_REFUSED : Nat := 0x228004
abbrev PORT_MODE : Nat := 0x240001
abbrev LINK_MAX_GEN : Nat := 0x240002
abbrev CLOCK_MODE : Nat := 0x240003
abbrev L0P_ENABLE : Nat := 0x240004
abbrev L0P_MIN_WIDTH : Nat := 0x240005
abbrev ASPM_L1_IDLE : Nat := 0x240006
abbrev LTR_ACTIVE : Nat := 0x240007
abbrev LTR_IDLE : Nat := 0x240008
abbrev SUBSYS_VENDOR_ID : Nat := 0x240009
abbrev SUBSYS_ID : Nat := 0x24000A
abbrev PORT_SELECT : Nat := 0x241001
abbrev LINK_STATE : Nat := 0x241002
abbrev LINK_GEN : Nat := 0x241003
abbrev LINK_WIDTH : Nat := 0x241004
abbrev LINK_TRAINED_WIDTH : Nat := 0x241005
abbrev LINK_FLIT : Nat := 0x241006
abbrev LINK_RECOVERIES : Nat := 0x241007
abbrev PORT_RESETS : Nat := 0x241008
abbrev L0P_CHANGES : Nat := 0x241009
abbrev CPL_TIMEOUTS : Nat := 0x24100A
abbrev POISONED_RX : Nat := 0x24100B
abbrev PF_BAR0_SIZE : Nat := 0x242001
abbrev PF_BAR2_DEFAULT : Nat := 0x242002
abbrev PF_BAR4_SIZE : Nat := 0x242003
abbrev VF_BAR0_SIZE : Nat := 0x242004
abbrev VF_BAR2_DEFAULT : Nat := 0x242005
abbrev TOTAL_VFS : Nat := 0x242006
abbrev CMB_RESERVED : Nat := 0x242007
abbrev CMB_REFUSED : Nat := 0x242008
abbrev FLR_SELECT : Nat := 0x245001
abbrev FLR_STATE : Nat := 0x245002
abbrev FLR_LAST_DRAIN : Nat := 0x245003
abbrev FLR_COUNT : Nat := 0x245004
abbrev SPDM_ENABLE : Nat := 0x246001
abbrev SPDM_REQUESTS : Nat := 0x246002
abbrev SPDM_ERRORS : Nat := 0x246003
abbrev SPDM_CERT_SLOTS : Nat := 0x246004
abbrev USER_CAPACITY : Nat := 0x300001
abbrev USER_CAPACITY_MAX : Nat := 0x300002
abbrev MAP_UNITS : Nat := 0x300003
abbrev MAP_SLICES : Nat := 0x300004
abbrev SUPERBLOCKS : Nat := 0x300005
abbrev SLOTS_PER_SB : Nat := 0x300006
abbrev GRANULES_FREE : Nat := 0x300007
abbrev SLC_SHARE : Nat := 0x301001
abbrev OP_MIN : Nat := 0x301002
abbrev SPARE_INIT : Nat := 0x301003
abbrev PE_RATED_QLC : Nat := 0x301004
abbrev PE_RATED_SLC : Nat := 0x301005
abbrev DIE_SPARE_MIN : Nat := 0x301006
abbrev SPARE_INIT_ACTIVE : Nat := 0x301007
abbrev JRN_FLASH_MAX : Nat := 0x302001
abbrev JRN_FLASH_USED : Nat := 0x302002
abbrev JRN_NEXT_SEQ : Nat := 0x302003
abbrev CKPT_WRITTEN : Nat := 0x302004
abbrev CKPT_ROTATION_LAST : Nat := 0x302005
abbrev SLICES_LOADED : Nat := 0x302006
abbrev SLICE_LOADS_ON_TOUCH : Nat := 0x302007
abbrev CRU_SIZE : Nat := 0x303001
abbrev CRU_SIZE_EFFECTIVE : Nat := 0x303002
abbrev CRU_SLOTS_FREE : Nat := 0x303003
abbrev CRU_DIRTY_UNITS : Nat := 0x303004
abbrev CRU_CLOSE_TIME : Nat := 0x303005
abbrev CRU_RMW_UNITS : Nat := 0x303006
abbrev CRU_PAD_UNITS : Nat := 0x303007
abbrev LIFE_PCT : Nat := 0x304001
abbrev LIFE_WEAR : Nat := 0x304002
abbrev LIFE_SPARE : Nat := 0x304003
abbrev AVAIL_SPARE : Nat := 0x304004
abbrev HOST_UNITS_WRITTEN : Nat := 0x304005
abbrev NAND_PAGES_PROGRAMMED : Nat := 0x304006
abbrev WRITE_AMP : Nat := 0x304007
abbrev PROGRAM_SOURCES : Nat := 0x304008
abbrev XTS_KEYS_ACTIVE : Nat := 0x305001
abbrev FORMAT_STATE : Nat := 0x305002
abbrev SANITIZE_STATE : Nat := 0x305003
abbrev SANITIZE_SCRAP_UNERASED : Nat := 0x305004
abbrev KEY_REPLACEMENTS : Nat := 0x305005
abbrev PAIR_DEPTH : Nat := 0x340001
abbrev SLC_SB_TOTAL : Nat := 0x340002
abbrev SLC_SB_FREE : Nat := 0x340003
abbrev SYS_SB_RESERVED : Nat := 0x340004
abbrev FOLD_QUEUE : Nat := 0x340005
abbrev FOLD_HELD_UNITS : Nat := 0x340006
abbrev SWITCH_MISSES : Nat := 0x340007
abbrev PATCH_SB_RESERVE : Nat := 0x340008
abbrev GC_START : Nat := 0x341001
abbrev GC_URGENT : Nat := 0x341002
abbrev GC_AGE_CAP : Nat := 0x341003
abbrev GC_AGE_BIAS : Nat := 0x341004
abbrev GC_MAX_UTIL : Nat := 0x341005
abbrev WL_GAP : Nat := 0x341006
abbrev FREE_SB : Nat := 0x341007
abbrev GC_VICTIMS : Nat := 0x341008
abbrev WL_MOVES : Nat := 0x341009
abbrev PROGRAM_FAILS : Nat := 0x342001
abbrev ERASE_FAILS : Nat := 0x342002
abbrev SCRAP_BLOCKS : Nat := 0x342003
abbrev LUN_SELECT : Nat := 0x342004
abbrev LUN_GOOD_BLOCKS : Nat := 0x342005
abbrev LUN_SPARE : Nat := 0x342006
abbrev LUN_ERASES_MEAN : Nat := 0x342007
abbrev LUN_ERASES_MAX : Nat := 0x342008
abbrev NAND_IFACE : Nat := 0x380001
abbrev NAND_RATE_MAX : Nat := 0x380002
abbrev NAND_RATE_FLOOR : Nat := 0x380003
abbrev NAND_ODT : Nat := 0x380004
abbrev NAND_DRIVE : Nat := 0x380005
abbrev QLC_PASSES : Nat := 0x380006
abbrev NTEMP_FEATURE : Nat := 0x380007
abbrev CH_SELECT : Nat := 0x381001
abbrev CH_RATE : Nat := 0x381002
abbrev CH_TARGETS : Nat := 0x381003
abbrev CH_TRAIN_FAILS : Nat := 0x381004
abbrev CH_TRAIN_LAST : Nat := 0x381005
abbrev CH_EYE_MIN : Nat := 0x381006
abbrev CH_RETRAINS : Nat := 0x381007
abbrev CH_TRIMS : Nat := 0x381008
abbrev RETRAIN_INTERVAL : Nat := 0x382001
abbrev RETRAIN_DELTA_T : Nat := 0x382002
abbrev ZQ_INTERVAL : Nat := 0x382003
abbrev TRAIN_EYE_MIN : Nat := 0x382004
abbrev STATUS_POLL : Nat := 0x383001
abbrev TIMEOUT_READ : Nat := 0x383002
abbrev TIMEOUT_PROGRAM : Nat := 0x383003
abbrev TIMEOUT_ERASE : Nat := 0x383004
abbrev POLL_START : Nat := 0x383005
abbrev OP_TIMEOUTS : Nat := 0x383006
abbrev LUN_RESETS : Nat := 0x383007
abbrev SUSP_ALLOW_ERASE : Nat := 0x384001
abbrev SUSP_ALLOW_PROGRAM : Nat := 0x384002
abbrev MIN_RESUME_ERASE : Nat := 0x384003
abbrev MIN_RESUME_PROGRAM : Nat := 0x384004
abbrev SUSP_MEASURED_MAX : Nat := 0x384005
abbrev SUSPENDS : Nat := 0x384006
abbrev SUSP_SPENT : Nat := 0x384007
abbrev EI_NEXT_SEQ : Nat := 0x385001
abbrev EI_PENDING : Nat := 0x385002
abbrev EI_MAX_PENDING : Nat := 0x385003
abbrev EI_CLEAR_DELAY : Nat := 0x385004
abbrev EI_REERASED_LAST : Nat := 0x385005
abbrev EI_REERASED : Nat := 0x385006
abbrev NTEMP_INTERVAL : Nat := 0x386001
abbrev NTEMP_MAX : Nat := 0x386002
abbrev NTEMP_MIN : Nat := 0x386003
abbrev NTEMP_MAP : Nat := 0x386004
abbrev NTEMP_FALLBACKS : Nat := 0x386005
abbrev NTEMP_DEFAULT : Nat := 0x386006
abbrev HARD_ONLINE : Nat := 0x3C0001
abbrev SOFT_ONLINE : Nat := 0x3C0002
abbrev HARD_DECODE : Nat := 0x3C0003
abbrev SOFT_DECODE : Nat := 0x3C0004
abbrev LDPC_ROUTE_ENABLE : Nat := 0x3C0005
abbrev ROUTE_TIME : Nat := 0x3C0006
abbrev ROUTED : Nat := 0x3C0007
abbrev MISCORRECTIONS : Nat := 0x3C0008
abbrev TAG_MISMATCHES : Nat := 0x3C0009
abbrev ZT_SELECT : Nat := 0x3C1001
abbrev ZT_ENTRIES : Nat := 0x3C1002
abbrev ZT_ORDER : Nat := 0x3C1003
abbrev ZT_COUNTS : Nat := 0x3C1004
abbrev ZT_LEARN : Nat := 0x3C1005
abbrev ZT_LEARN_PERIOD : Nat := 0x3C1006
abbrev ZT_GEN : Nat := 0x3C1007
abbrev SOFT_DELTA : Nat := 0x3C1008
abbrev BAND_LIMITS : Nat := 0x3C2001
abbrev REFRESH_INT0 : Nat := 0x3C2002
abbrev REFRESH_INT1 : Nat := 0x3C2003
abbrev REFRESH_INT2 : Nat := 0x3C2004
abbrev REFRESH_INT3 : Nat := 0x3C2005
abbrev BUCKET_BOUNDS : Nat := 0x3C2006
abbrev REFRESH_DUE : Nat := 0x3C2007
abbrev REFRESH_OVERDUE : Nat := 0x3C2008
abbrev REFRESHED : Nat := 0x3C2009
abbrev ERR_REFRESH_BITS : Nat := 0x3C3001
abbrev READ_DISTURB_QLC : Nat := 0x3C3002
abbrev READ_DISTURB_SLC : Nat := 0x3C3003
abbrev REALLOC_QUEUE_MAX : Nat := 0x3C3004
abbrev MARK_RETIRE : Nat := 0x3C3005
abbrev EARLY_MARKS : Nat := 0x3C3006
abbrev MARK_RETIRED_BLOCKS : Nat := 0x3C3007
abbrev STEP1_PASS : Nat := 0x3C4001
abbrev STEP2_PASS : Nat := 0x3C4002
abbrev STEP3_PASS : Nat := 0x3C4003
abbrev STEP4_PASS : Nat := 0x3C4004
abbrev LOST_CODEWORDS : Nat := 0x3C4005
abbrev CONTINUATIONS : Nat := 0x3C4006
abbrev REALLOCATED : Nat := 0x3C4007
abbrev CORRECTED_BITS : Nat := 0x3C4008
abbrev LAYOUT_NEXT : Nat := 0x400001
abbrev NS_SELECT : Nat := 0x400002
abbrev NS_LAYOUT : Nat := 0x400003
abbrev SB_P2 : Nat := 0x400004
abbrev LAYOUT_PERMS : Nat := 0x401001
abbrev LAYOUT_FAMILY : Nat := 0x401002
abbrev LAYOUT_ELIGIBLE : Nat := 0x401003
abbrev LAYOUT_PAIR_MIN : Nat := 0x401004
abbrev LAYOUT_PAIR_MAX : Nat := 0x401005
abbrev LAYOUT_GEN : Nat := 0x401006
abbrev LAYOUT_SKIPS : Nat := 0x401007
abbrev ACC_SLOTS : Nat := 0x402001
abbrev ACC_FREE : Nat := 0x402002
abbrev ACC_RESERVE_SY : Nat := 0x402003
abbrev ACC_RESERVE_HOST : Nat := 0x402004
abbrev PATCH_MAX : Nat := 0x402005
abbrev SMALL_WRITES : Nat := 0x402006
abbrev PATCH_FULL : Nat := 0x402007
abbrev LOST_MAX : Nat := 0x403001
abbrev LOST_RUNS : Nat := 0x403002
abbrev LOST_UNITS : Nat := 0x403003
abbrev LOST_SELECT : Nat := 0x403004
abbrev LOST_ENTRY : Nat := 0x403005
abbrev LOST_ENTERED : Nat := 0x403006
abbrev LOST_CLEARED : Nat := 0x403007
abbrev LOST_ENTER_MAX : Nat := 0x403008
abbrev PATROL_ENABLE : Nat := 0x404001
abbrev PATROL_PERIOD : Nat := 0x404002
abbrev PATROL_OVERDUE : Nat := 0x404003
abbrev PATROL_OLDEST : Nat := 0x404004
abbrev ROWS_CHECKED : Nat := 0x404005
abbrev PARITY_REPAIRS : Nat := 0x404006
abbrev DATA_REPAIRS : Nat := 0x404007
abbrev UNRESOLVED_ROWS : Nat := 0x404008
abbrev RB_COLLECT_UTIL : Nat := 0x405001
abbrev RB_PARALLEL : Nat := 0x405002
abbrev RB_STATE : Nat := 0x405003
abbrev RB_EXPOSED : Nat := 0x405004
abbrev RB_OVER_TOLERANCE : Nat := 0x405005
abbrev RB_REPLACED : Nat := 0x405006
abbrev RB_RESTARTS : Nat := 0x405007
abbrev RB_DOUBLE_ROWS : Nat := 0x405008
abbrev RB_LAST_TIME : Nat := 0x405009
abbrev STORE_CELLS : Nat := 0x480001
abbrev STORE_KIND : Nat := 0x480002
abbrev STORE_C_RATED : Nat := 0x480003
abbrev STORE_ESR_RATED : Nat := 0x480004
abbrev STORE_V_FULL : Nat := 0x480005
abbrev STORE_V_CUT : Nat := 0x480006
abbrev STORE_E_NOMINAL : Nat := 0x480007
abbrev HOLDUP_EFF : Nat := 0x480008
abbrev FLUSH_POWER : Nat := 0x480009
abbrev CELL_V_MAX : Nat := 0x48000A
abbrev CELL_DEV : Nat := 0x48000B
abbrev STORE_AGE_MARGIN : Nat := 0x48000C
abbrev STORE_EOL_LOSS : Nat := 0x48000D
abbrev CHARGE_ENABLE : Nat := 0x48000E
abbrev GAUGE_STATE : Nat := 0x481001
abbrev STORE_Q_A : Nat := 0x481002
abbrev STORE_C : Nat := 0x481003
abbrev STORE_ESR : Nat := 0x481004
abbrev STORE_V_STACK : Nat := 0x481005
abbrev STORE_I : Nat := 0x481006
abbrev E_USABLE : Nat := 0x481007
abbrev E_FULL : Nat := 0x481008
abbrev E_RESERVE : Nat := 0x481009
abbrev E_OBLIGED : Nat := 0x48100A
abbrev E_MIN : Nat := 0x48100B
abbrev BOOKS_SHORT : Nat := 0x48100C
abbrev CREDIT_POOL : Nat := 0x48100D
abbrev STORE_C_FIRST : Nat := 0x48100E
abbrev STORE_AGING : Nat := 0x48100F
abbrev CELL_V : Nat := 0x482001
abbrev TAP_OPEN : Nat := 0x482002
abbrev TAP_CHECK_INTERVAL : Nat := 0x482003
abbrev TAP_CHECK_UA : Nat := 0x482004
abbrev TAP_OPEN_MV : Nat := 0x482005
abbrev TAP_CHECK_RUN : Nat := 0x482006
abbrev TAP_CHECK_RESULT : Nat := 0x482007
abbrev CELL_FAULT_CELL : Nat := 0x482008
abbrev PROOF_INTERVAL : Nat := 0x483001
abbrev PROOF_DV : Nat := 0x483002
abbrev PROOF_RUN : Nat := 0x483003
abbrev PROOF_RESULT : Nat := 0x483004
abbrev PROOF_AGE : Nat := 0x483005
abbrev PROOFS : Nat := 0x483006
abbrev PROOF_MIN_SLOTS : Nat := 0x483007
abbrev FLUSH_COST_MIN : Nat := 0x484001
abbrev FLUSH_COST_LEARNED : Nat := 0x484002
abbrev FLUSH_COST : Nat := 0x484003
abbrev FLUSH_FIXED : Nat := 0x484004
abbrev MARK_COST : Nat := 0x484005
abbrev JRN_TAIL_PAGES : Nat := 0x484006
abbrev BOOKS_HYST : Nat := 0x484007
abbrev CRU_MIN_BACKED : Nat := 0x484008
abbrev FLUSH_RESERVE_SB : Nat := 0x484009
abbrev BOOKS_SHORT_EVENTS : Nat := 0x48400A
abbrev STORE_PREPARE : Nat := 0x48400B
abbrev PREPARE_STATE : Nat := 0x48400C
abbrev PF_12V_THRESH : Nat := 0x485001
abbrev PF_FILTER : Nat := 0x485002
abbrev PF_LAST_REASON : Nat := 0x485003
abbrev PF_LAST_RESULT : Nat := 0x485004
abbrev PF_LAST_SLOTS : Nat := 0x485005
abbrev PF_LAST_ENERGY : Nat := 0x485006
abbrev PF_LAST_TIME : Nat := 0x485007
abbrev REVERTED_LAST : Nat := 0x485008
abbrev UNSAFE_SHUTDOWNS : Nat := 0x485009
abbrev UNCLEAN_STARTS : Nat := 0x48500A
abbrev BOOT_COUNT : Nat := 0x48500B
abbrev FLUSH_RATE : Nat := 0x48500C
abbrev SB_ENABLE : Nat := 0x500001
abbrev SB_STATE : Nat := 0x500002
abbrev SB_CAPACITY : Nat := 0x500003
abbrev SB_ENTRIES : Nat := 0x500004
abbrev SB_LOAD : Nat := 0x500005
abbrev SB_STASH : Nat := 0x500006
abbrev SB_MAX_KICKS : Nat := 0x500007
abbrev SB_SEEDS : Nat := 0x500008
abbrev SB_LOOKUP_BOUND : Nat := 0x500009
abbrev SB_SLICES_LOADED : Nat := 0x50000A
abbrev SB_NEXT_SEQ : Nat := 0x50000B
abbrev SB_FN_SELECT : Nat := 0x501001
abbrev SB_FN_RIGHTS : Nat := 0x501002
abbrev SB_LOOKUPS : Nat := 0x502001
abbrev SB_ABSENT : Nat := 0x502002
abbrev SB_PUTS : Nat := 0x502003
abbrev SB_DROPS : Nat := 0x502004
abbrev SB_KICKS : Nat := 0x502005
abbrev SB_FULL : Nat := 0x502006
abbrev SB_SEG_READS : Nat := 0x502007
abbrev SB_CLIPPED : Nat := 0x502008
abbrev PW_SELECT : Nat := 0x510001
abbrev PW_STATE : Nat := 0x510002
abbrev PW_BASE : Nat := 0x510003
abbrev PW_SIZE : Nat := 0x510004
abbrev PW_DB_ADDR : Nat := 0x510005
abbrev PW_DB_SIZE : Nat := 0x510006
abbrev PW_DB_TEMPLATE : Nat := 0x510007
abbrev PW_DB_FIELD_A : Nat := 0x510008
abbrev PW_DB_FIELD_B : Nat := 0x510009
abbrev PW_MAX_WORK : Nat := 0x51000A
abbrev PW_OWNER : Nat := 0x51000B
abbrev PW_ORDERED : Nat := 0x51000C
abbrev PW_TIMEOUT : Nat := 0x51000D
abbrev PW_CMD : Nat := 0x51000E
abbrev PW_CMD_RESULT : Nat := 0x51000F
abbrev PW_OUTSTANDING : Nat := 0x510010
abbrev PW_RETIRE_CAUSE : Nat := 0x510011
abbrev PW_DOORBELLS : Nat := 0x510012
abbrev PW_BYTES : Nat := 0x510013
abbrev PW_BAD_CONSUMED : Nat := 0x510014
abbrev PW_CONSUMED0 : Nat := 0x518000
abbrev PW_CONSUMED1 : Nat := 0x518100
abbrev PW_FAULT0 : Nat := 0x519000
abbrev PW_FAULT1 : Nat := 0x519100
abbrev PAIR_MODE : Nat := 0x580001
abbrev PAIR_SOLO_WRITES : Nat := 0x580002
abbrev PAIR_JOIN_WAIT : Nat := 0x580003
abbrev RALLY_LOSS_TIME : Nat := 0x580004
abbrev MIRROR_SLOTS : Nat := 0x580005
abbrev RESYNC_RATE_MAX : Nat := 0x580006
abbrev RALLY_ACK_TIMEOUT : Nat := 0x580007
abbrev RALLY_MIN_LANES : Nat := 0x580008
abbrev MIRROR_ACK_BOUND : Nat := 0x580009
abbrev PAIR_STATE : Nat := 0x581001
abbrev PAIR_INDEX : Nat := 0x581002
abbrev PAIR_IDENTITY : Nat := 0x581003
abbrev RALLY_LANES : Nat := 0x581004
abbrev MIRROR_SLOTS_HELD : Nat := 0x581005
abbrev MIRROR_INFLIGHT : Nat := 0x581006
abbrev MARKED_GRANULES : Nat := 0x581007
abbrev UNCONFIRMED : Nat := 0x581008
abbrev DIVERGED_GRANULES : Nat := 0x581009
abbrev RESYNC_LEFT : Nat := 0x58100A
abbrev DETACHED : Nat := 0x58100B
abbrev SOLO_SINCE : Nat := 0x58100C
abbrev MAP_SELECT : Nat := 0x582001
abbrev DIRTY_MAP : Nat := 0x582002
abbrev DIVERGED_MAP : Nat := 0x582003
abbrev RALLY_FRAMES_TX : Nat := 0x583001
abbrev RALLY_FRAMES_RX : Nat := 0x583002
abbrev RALLY_NAKS : Nat := 0x583003
abbrev RALLY_REPLAYS : Nat := 0x583004
abbrev PARTNER_LOSSES : Nat := 0x583005
abbrev MIRRORED_BYTES : Nat := 0x583006
abbrev RESYNC_BYTES : Nat := 0x583007
abbrev REMOTE_READS : Nat := 0x583008
abbrev MBOX : Nat := 0x584000
abbrev MBOX_FENCED : Nat := 0x584100
abbrev MBOX_FENCE_RESULT : Nat := 0x584201
abbrev MBOX_FOREIGN_WRITES : Nat := 0x584202
abbrev PM_MODE : Nat := 0x600001
abbrev PM_TARGET : Nat := 0x600002
abbrev PS_CURRENT : Nat := 0x600003
abbrev PS_REQUESTED : Nat := 0x600004
abbrev PS_LAST_OP : Nat := 0x600005
abbrev PS_ENTRIES : Nat := 0x600006
abbrev PS_REFUSALS : Nat := 0x600007
abbrev PS_LAST_REFUSER : Nat := 0x600008
abbrev PS0_MP : Nat := 0x600009
abbrev PS1_MP : Nat := 0x60000A
abbrev PS2_MP : Nat := 0x60000B
abbrev PS3_MP : Nat := 0x60000C
abbrev PS4_MP : Nat := 0x60000D
abbrev IDLE_PS3 : Nat := 0x601001
abbrev IDLE_PS4 : Nat := 0x601002
abbrev HOUSEKEEPING_WAKE : Nat := 0x601003
abbrev WAKE_ENABLE : Nat := 0x603001
abbrev WAKE_PME : Nat := 0x603002
abbrev WAKE_LAST : Nat := 0x603003
abbrev WAKE_COUNTS : Nat := 0x603004
abbrev WAKE_PATTERN : Nat := 0x604001
abbrev WAKE_MASK : Nat := 0x604002
abbrev WAKE_LEN : Nat := 0x604003
abbrev PMB_ADDR : Nat := 0x605001
abbrev AVS_ENABLE : Nat := 0x605002
abbrev VCORE_MIN : Nat := 0x605003
abbrev VCORE_MAX : Nat := 0x605004
abbrev VCORE_TARGET : Nat := 0x605005
abbrev PMB_FAILS : Nat := 0x605006
abbrev PMB_LAST_RESULT : Nat := 0x605007
abbrev PMB_LAST_STATUS : Nat := 0x605008
abbrev PGOOD_LOSSES : Nat := 0x605009
abbrev PMB_RETRIES : Nat := 0x60500A
abbrev CLK_SOURCE : Nat := 0x606001
abbrev PLL_LOCKS : Nat := 0x606002
abbrev REF_LOSSES : Nat := 0x606003
abbrev TJ : Nat := 0x640001
abbrev TJ_MAX : Nat := 0x640002
abbrev THERM_STATE : Nat := 0x640003
abbrev THERM_WARN : Nat := 0x640004
abbrev THERM_THROTTLE : Nat := 0x640005
abbrev THERM_SHUTDOWN : Nat := 0x640006
abbrev THROTTLE_STEP : Nat := 0x640007
abbrev THROTTLE_RISE : Nat := 0x640008
abbrev THROTTLE_RELEASE : Nat := 0x640009
abbrev THROTTLE_FACTORS : Nat := 0x64000A
abbrev SENSOR_FAULT : Nat := 0x64000B
abbrev THROTTLE_TIME : Nat := 0x64000C
abbrev THERM_SHUTDOWNS : Nat := 0x64000D
abbrev ADC_SAMPLES : Nat := 0x641001
abbrev ADC_SLOT_FAILS : Nat := 0x641002
abbrev ADC_OVERRANGE : Nat := 0x641003
abbrev ADC_SCANS : Nat := 0x641004
abbrev V12_MAIN : Nat := 0x641005
abbrev V3V3_AUX : Nat := 0x641006
abbrev VCORE_SENSE : Nat := 0x641007
abbrev STORE_SHUNT : Nat := 0x641008
abbrev DESC_SELECT : Nat := 0x680001
abbrev DESC_TYPE : Nat := 0x680002
abbrev DESC_ACCESS : Nat := 0x680003
abbrev DESC_PERSIST : Nat := 0x680004
abbrev DESC_SCOPE : Nat := 0x680005
abbrev DESC_DEFAULT : Nat := 0x680006
abbrev DESC_DEFAULT_VF : Nat := 0x680007
abbrev DESC_MIN : Nat := 0x680008
abbrev DESC_MAX : Nat := 0x680009
abbrev DESC_FIELDS : Nat := 0x68000A
abbrev DESC_ENUM : Nat := 0x68000B
abbrev DESC_NAME : Nat := 0x68000C
abbrev DESC_NEXT : Nat := 0x68000D
abbrev DICT_ENTRIES : Nat := 0x68000E
abbrev DICT_FORMAT : Nat := 0x68000F
abbrev IMAGE_STATE : Nat := 0x681001
abbrev IMAGE_SEQ : Nat := 0x681002
abbrev IMAGE_SOURCE : Nat := 0x681003
abbrev IMAGE_DELAY : Nat := 0x681004
abbrev IMAGE_FLUSH : Nat := 0x681005
abbrev IMAGE_RECORDS : Nat := 0x681006
abbrev IMAGE_LOAD_CLAMPS : Nat := 0x681007
abbrev IMAGE_WRITES : Nat := 0x681008
abbrev MCTP_SMB_ADDR : Nat := 0x682001
abbrev MCTP_EID : Nat := 0x682002
abbrev MCTP_WRITE_ENABLE : Nat := 0x682003
abbrev MCTP_SMB_SPEED : Nat := 0x682004
abbrev MCTP_MSGS : Nat := 0x682005
abbrev MCTP_ERRORS : Nat := 0x682006
abbrev MGMT_MAC : Nat := 0x683001
abbrev MGMT_LINK : Nat := 0x683002
abbrev MGMT_ENABLE : Nat := 0x683003
abbrev MGMT_IPV6_ADDR : Nat := 0x683004
abbrev MGMT_IPV6_PREFIX : Nat := 0x683005
abbrev MGMT_GATEWAY : Nat := 0x683006
abbrev MGMT_RX_DROPS : Nat := 0x683007
abbrev FLIAD_PORT : Nat := 0x684001
abbrev FLIAD_WRITE_ENABLE : Nat := 0x684002
abbrev FLIAD_SESSIONS_MAX : Nat := 0x684003
abbrev FLIAD_IDLE : Nat := 0x684004
abbrev FLIAD_KEY_STATE : Nat := 0x684005
abbrev FLIAD_SESSIONS : Nat := 0x684006
abbrev FLIAD_REQUESTS : Nat := 0x684007
abbrev FLIAD_AUTH_FAILS : Nat := 0x684008
abbrev FLIAD_STALE_SEQ : Nat := 0x684009
abbrev DICT_READS : Nat := 0x685001
abbrev DICT_WRITES : Nat := 0x685002
abbrev DICT_REFUSED : Nat := 0x685003
abbrev POWER_ON_TIME : Nat := 0x700001
abbrev FABRIC_NOW : Nat := 0x700002
abbrev POWER_CYCLES : Nat := 0x700003
abbrev HOST_UNITS_READ : Nat := 0x700004
abbrev COUNTERS_SATURATED : Nat := 0x700005
abbrev COUNTERS_SATURATED_LIFE : Nat := 0x700006
abbrev JRN_SEQ_EPOCH : Nat := 0x701001
abbrev SB_SEQ_EPOCH : Nat := 0x701002
abbrev RL_SEQ_EPOCH : Nat := 0x701003
abbrev RALLY_SEQ_EPOCH : Nat := 0x701004
abbrev SEQ_SPAN_WAITS : Nat := 0x701005
abbrev SEQ_SPAN_CLOSES : Nat := 0x701006
abbrev EVT_DEPTH : Nat := 0x780001
abbrev EVT_NEXT : Nat := 0x780002
abbrev EVT_SELECT : Nat := 0x780003
abbrev EVT_RECORD : Nat := 0x780004
abbrev EVT_MIN_SEVERITY : Nat := 0x780005
abbrev EVT_RATE_MAX : Nat := 0x780006
abbrev EVT_TOTAL : Nat := 0x780007
abbrev EVT_OVERWRITTEN : Nat := 0x780008
abbrev EVT_FILTERED : Nat := 0x780009
abbrev EVT_SUPPRESSED : Nat := 0x78000A
abbrev EVT_FIRST : Nat := 0x78000B
abbrev EXCERPT_MIN_SEVERITY : Nat := 0x781001
abbrev EXCERPT_DELAY : Nat := 0x781002
abbrev EXCERPT_SELECT : Nat := 0x781003
abbrev EXCERPT_RECORD : Nat := 0x781004
abbrev EXCERPT_OLDEST : Nat := 0x781005
abbrev EXCERPT_NEWEST : Nat := 0x781006
abbrev EXCERPT_LOST_LAST : Nat := 0x781007
abbrev TELEM_CTRL_GEN : Nat := 0x782001
abbrev TELEM_SKIPPED : Nat := 0x782002
abbrev FW_RUNNING_SLOT : Nat := 0x7C0001
abbrev FW_PENDING_SLOT : Nat := 0x7C0002
abbrev FW_SLOT_VERSIONS : Nat := 0x7C0003
abbrev BOOT_RESULT : Nat := 0x7C0004
abbrev BOOT_FAIL_MASK : Nat := 0x7C0005
abbrev FW_DOWNLOADED : Nat := 0x7C0006
abbrev FW_COMMITS : Nat := 0x7C0007
abbrev FW_ACTIVATIONS : Nat := 0x7C0008
abbrev START_STEP : Nat := 0x7C1001
abbrev START_CAUSE : Nat := 0x7C1002
abbrev START_TIMES : Nat := 0x7C1003
abbrev START_INTERRUPTED : Nat := 0x7C1004
abbrev WARMUP_BOUND : Nat := 0x7C2001
abbrev WARMUP_ACTIVE : Nat := 0x7C2002
abbrev WARMUP_ADMITS : Nat := 0x7C2003
abbrev WARMUP_LAST : Nat := 0x7C2004
abbrev SLICE_LOAD_BOUND : Nat := 0x7C2005
abbrev SHN_DRAIN_LIMIT : Nat := 0x7C3001
abbrev SHN_STATE : Nat := 0x7C3002
abbrev SHN_COUNT : Nat := 0x7C3003
abbrev SHN_LAST_TIME : Nat := 0x7C3004
abbrev MAINT_SINCE : Nat := 0x7C3005
abbrev MAINT_ENTRIES : Nat := 0x7C3006
abbrev DEV_PUBKEY : Nat := 0x7D0001
abbrev MGMT_KEY_WRAP : Nat := 0x7D0002
abbrev MGMT_KEY_RESULT : Nat := 0x7D0003
abbrev SEC_LOCK : Nat := 0x7D0004
abbrev SEC_LOCK_SET : Nat := 0x7D0005
abbrev SVN_RUNNING : Nat := 0x7D1001
abbrev SVN_FLOOR : Nat := 0x7D1002
abbrev SVN_COMMIT : Nat := 0x7D1003
abbrev SVN_RESULT : Nat := 0x7D1004
abbrev ROOT_KEYS : Nat := 0x7D1005
abbrev KEY_REVOKE : Nat := 0x7D1006
abbrev KEY_REVOKE_RESULT : Nat := 0x7D1007
abbrev CLAMP_NEXT : Nat := 0x7F0001
abbrev CLAMP_SELECT : Nat := 0x7F0002
abbrev CLAMP_RECORD : Nat := 0x7F0003
abbrev CLAMP_DEPTH : Nat := 0x7F0004
abbrev CLAMP_TOTAL : Nat := 0x7F0005
abbrev CLAMP_REFUSALS : Nat := 0x7F0006

end Sys2Proof.Machine.E
end

