-- ==== Sys2Proof/Machine/State.lean ====
section
/-! DEFINITION. The whole state of the block: the chip and, first in first out, the commands that
wait. The reasons a step can stop, and the machine right after reset. -/
namespace Sys2Proof.Machine

/-- Reasons for which the machine stops. There is none: the manual describes an effect, an ignored
access or a refusal with a status for every command, so no command stops the machine. Safe. -/
inductive Fault where
  deriving DecidableEq, Repr

/-- Reasons for which a command has no meaning. -/
inductive Refusal where
  /-- Raised by an arm of `exec` whose command has no meaning yet. Safe: nothing can be proved of
  what that command does. -/
  | notModelled (mnemonic : String)
  deriving DecidableEq, Repr

/-- The machine: the chip, and the queue of commands that wait, the next one in front. -/
structure State where
  chip : Chip
  pending : List Instr
  deriving DecidableEq, Repr

/-- A function's configuration space as a reset leaves it (R106, R113, R116): bus mastering off, Max_Read_Request_Size 512
octets, completion timeout 0000b, MSI-X off (values that the manual leaves to PCI Express are PRESUMED, log entry 37). -/
def FnCfg.initial : FnCfg :=
  { busMaster := false, readRequest := 512, timeout := 0, relaxed := true, noSnoop := true, extTag := false, tag10 := false,
    tag14 := false, msix := false, msixMask := false, vectors := [] }

/-- A PF's configuration space for its port as a reset leaves it (R103, R108, R115): no VF, Resizable BAR controls at their
reset values. -/
def PfCfg.initial : PfCfg :=
  { rid := 0, ari := false, vfEnable := false, numVfs := 0, sysPage := 0, bar2 := none, vfBar2 := none, pmeEn := false, l1pm := 0,
    ltrThreshold := 0, bases := [] }

/-- A function as a reset of its port leaves it (R75, R115): not enabled, D0 uninitialised. -/
def Fn.initial (port fn : Nat) : Fn :=
  { port := port, fn := fn, en := false, rdy := false, shst := 0, ams := 0, asqs := 0, acqs := 0,
    ab := 7, hpw := 0, mpw := 0, lpw := 0, thOver := [], thUnder := [], coalThr := 0,
    coalTime := 0, vecNoCoal := [], coal := [], apste := false, apst := [], aeConfig := 0xF1F,
    aers := [], aesPending := [], aeMasked := [], granted := 0, ioCreated := false, flr := 0,
    flrT := 0, dstate := 0, cmse := false, cmbOct := 0, cmbBase := 0,
    shadow := false, others := [], changedNs := [], shnT := 0, psMp := [], cfg := FnCfg.initial, pba := [] }

/-- A port before its link has trained: PERST# asserted, sizes as the default entries give
them (R128). -/
def Port.initial (port : Nat) : Port :=
  { port := port, perst := true, link := 0, gen := 0, width := 0, trained := 0, rateWidth := 0,
    flit := false, mps := 128, clkreq := false, wake := false,
    pmeEn := false, pmeStatus := false, ltr := 0, doeError := false, spdmVersion := false, spdmAlgos := false,
    readyL23 := false, idleSince := 0, bar0 := 6, bar2 := 6, bar4 := 0, vfBar0 := 1,
    vfBar2 := 0, totalVfs := 511, subsysVendor := 0x1F3D, subsysId := 0, cfg := PfCfg.initial,
    sris := false, aerErrors := [], aerHeader := [], wantWide := false, drains := [], bar2Held := [] }

/-- A dictionary window with its selects, latch, stage and octet buffer clear (R380). -/
def Win.initial : Win :=
  { latchAddr := 0, latchValue := 0, latchTag := 0, stageAddr := 0, stage1 := none,
    stage2 := none, octBuf := 0, octLen := 0, octTag := 0, octWlen := 0, octWtag := 0,
    slotMap := [], status := 0, statusTag := 0, octSelect := 0 }

def Dict.initial : Dict :=
  { vals := [], tags := [], clamps := [], wins := [Win.initial, Win.initial], slotA := none,
    slotB := none, dirtySince := none, writing := false,
    snap := [] }

def Ev.initial : Ev :=
  { ring := [], written := [], suppressed := [], firsts := [], refusals := [], page := [],
    pageT := 0, pages := [], sec := 0 }

def Um.initial : Um :=
  { budgets := [], ledger := [], work := [], measSusp := 0, measTrSlc := 0, measTrQlc := 0,
    measProgSlc := 0, raBus := [], raInflight := [], inning := 0,
    supplyPrev := 1000 }

def Qs.initial : Qs :=
  { sqs := [], cqs := [], cache := [],
    arb := [{ fn := 0, left := 0, rounds := [] }, { fn := 0, left := 0, rounds := [] }] }

/-- A channel at power-up: untrained, WP# low (R172). -/
def Chan.initial (ch : Nat) : Chan :=
  { ch := ch, rate := 0, configured := 0, fails := 0, wp := true, outages := [], eye := 0, jobs := [], selected := [0, 0, 0, 0],
    set := { rateMax := 4800, floor := 800, odt := 2, drive := 1, ntemp := 0 } }

def Ft.initial : Ft :=
  { nss := [], map := [], streams := [], jpages := [], ckpts := [], loaded := [], loading := [],
    rotation := [], rotationT := 0, slots := [], dir := [], nextSlot := 0, order := [],
    sizeMib := 0, kept := false, target := 0, cmbMib := 0, sanitizeStep := 0,
    sanitizeKind := 0, sanitizePattern := 0, keyNext := 1, homes := [], copies := [] }

def Sbs.initial : Sbs :=
  { sbs := [], rows := [], nextRow := 1, layoutRow := 0, eligible := [], foldQ := [],
    victims := [], held := [], repls := [], replCounts := [], realloc := [], moveQ := [],
    rebuilding := [], patrolAt := none, pairMin := 0, pairMax := 0 }

def Md.initial : Md :=
  { chans := (List.range 32).map Chan.initial, tgts := [], dies := [], planes := 0, pagesPerBlock := 0, passes := 1,
    intents := [], ring := [], ringAt := 0, cleared := 0, clearSince := none, answering := [], geometry := none }

/-- No store sampled, no proof, no check, nothing debited (R271). -/
def Store9.initial : Store9 :=
  { present := false, chgDoneLow := false, qa := 0, settling := 0, peakI := 0,
    lowRun := 0, highRun := 0, overRun := 0, noChg := 0, chgOff := false, hold := false,
    atFull := false, prevOcv := none, prevOver := 0, suspects := [], lateRuns := [],
    missing := 0, lastE := 0, proof := false, proofDue := 0,
    tapCheck := 0, tapT := 0, tapOpen := 0, hibernate := false, lowCur := 0, estimate := false, dirty := 0,
    tapDue := 0, lastI := 0, waking := false }

def Book.initial : Book :=
  { cells := [], stash := [], next := false, page := [], full := [], flash := [], loaded := [],
    ckpts := [], created := false, placeholders := [], tried := [], rotation := [], rotationT := 0 }

def Pr.initial : Pr :=
  { strap := 0, lanes := 0, up := false, joined := false, sendNext := 0, recvNext := 0,
    acked := 0, window := [], credits := 256, nakFor := none, lastRx := 0, lastAckT := 0,
    replayT := none, slotsOut := 0, grant := 0, slotsIn := 0, slotsFreed := 0, xfers := [],
    nextXfer := 1, marks := [], peerMarks := [], diverged := [], unconfirmed := [],
    peerUnconf := [], mapDirty := none, savedMarks := [], savedUnconf := [], source := false, copying := none,
    pendingGr := [], startSeen := [], newer := [], remote := [], fences := [],
    partnerIndex := 0, partnerBoot := 0, partnerCtl := 0, partnerState := 0, pairKey := 0, joinWait := false, resyncT := 0,
    resyncBytes := 0, refused := false, helloSent := false,
    queue := [], back := 0, replays := [] }

/-- The always-on domain before VAON: slow oscillator, VR_EN low (R414, R434). -/
def Pm.initial : Pm :=
  { idleT := 0, enteredT := 0, wanted := none, requestIdle := false, clock := 3,
    holdoverT := none, vrEn := false, vrGood := false, vcoreFails := 0, avsStopped := false,
    avsT := 0, marginT := 0, refill := true, smbusHeld := false }

def Th.initial : Th :=
  { warnUp := 0, warnDown := 0, thrUp := 0, thrDown := 0, shutUp := 0, shutDown := 0,
    invalid := 0, valid := 0, lastValid := none, stepT := 0, hotT := 0,
    warnMs := 0, critMs := 0 }

def Image.empty : Image :=
  { present := false, magicOk := false, keyIndex := 0, length := 0, svn := 0, version := 0,
    variants := 0, bodyDigest := 0, bodySha := 0, keySha := 0, sigOk := false }

/-- Slot 1 holds the image a part leaves manufacture with (log entry 6): it carries every variant
bit and passes the checks of R440. -/
def Fw.initial : Fw :=
  { slots := [{ Image.empty with present := true, magicOk := true, length := 4096,
                                 variants := 7, keySha := 1, sigOk := true }, Image.empty, Image.empty],
    down := 0, downOct := 0, lastRan := 1, fwaH := none, fwaT := none, fwaSlot := 0, shn := 0,
    shnKind := 0, startT := 0, readyT := 0, startTimes := [] }

def Lg.initial : Lg :=
  { errs := [], errCount := 0, selfTests := [], stOwner := none, stFailing := 0, stLeft := [], stTotal := 0, mediaErrors := 0,
    unitsRead := 0, unitsWritten := 0, readCmds := 0, writeCmds := 0,
    telemAvail := false, telemHost := none, telemCtrl := none, badRecovery := false,
    sanLog := 0 }

/-- The fuses of the part the model stands for at reset: an S9632-DP (log entry 6). -/
def Fuse.initial : Fuse :=
  { variant := 0, deviceId := 0x9632, rev := 0xB0, serial := 0, mac := 0,
    keyDigests := [1, 0, 0, 0], keyRevoked := [false, false, false, false], svnFloor := 0,
    pubkey := 0, secret := 0 }

def Boot.initial : Boot :=
  { run := .dark, cfs := false, maint := false, maintT := 0, cause := 0, trained := false, hallmark := none,
    found := none, copies := [true, true], ddrGib := [0, 0, 0, 0], ddrRate := [0, 0, 0, 0],
    fetchHeld := false, retryT := 0, railsT := 0, step := 0,
    pairMode := 0, portMode := 0 }

/-- The chip before power is first applied (R114, R434): every dictionary entry at its default,
no command, no queue, no link, nothing on flash. -/
def Chip.initial : Chip :=
  { now := 0, fuse := Fuse.initial, boot := Boot.initial, dict := Dict.initial,
    ev := Ev.initial, un := { units := [], spreads := [], cores := [] }, fns := [],
    ports := [Port.initial 0, Port.initial 1], qs := Qs.initial, cmds := [], nextH := 1,
    lk := { main := [], held := [] }, um := Um.initial, ft := Ft.initial, sb := Sbs.initial,
    md := Md.initial, rd := { tasks := [], nextTask := 1, pins := [], counts := [], learnT := 0, saved := [] }, lost := [],
    st := Store9.initial, book := Book.initial, wins := [], pr := Pr.initial,
    mg := { sessions := [], key := none, sessNext := 1, smbAddr := 0x6A, smbSpeed := 2 },
    pm := Pm.initial, th := Th.initial, fw := Fw.initial, lg := Lg.initial, rnd := 0, free := 0,
    out := [] }

/-- The machine right after reset: the chip before power is first applied, and no command
waiting (log entries 1 and 2). -/
def State.reset : State := { chip := Chip.initial, pending := [] }

end Sys2Proof.Machine
end

