-- ==== Sys2Proof/Machine/Ops.lean ====
section
/-! DEFINITION. The named operations over the state that every family shares: sparse tables,
dictionary values and counters, time, events and what goes out. -/
namespace Sys2Proof.Machine

/-! ### Sparse tables -/

/-- The order of keys: by entry address, then by item. -/
def keyLt (a b : Nat × Nat) : Bool := decide (a.1 < b.1) || (decide (a.1 = b.1) && decide (a.2 < b.2))

/-- The value listed for a key, or the given default. -/
def Store.get (d : Nat) (k : Nat × Nat) : Store → Nat
  | [] => d
  | p :: r => if p.1 = k then p.2 else Store.get d k r

/-- A store without any entry for a key. -/
def Store.erase (k : Nat × Nat) : Store → Store
  | [] => []
  | p :: r => if p.1 = k then Store.erase k r else p :: Store.erase k r

/-- A store with an entry put at its place in the order. -/
def Store.insert (k : Nat × Nat) (v : Nat) : Store → Store
  | [] => [(k, v)]
  | p :: r => if keyLt k p.1 then (k, v) :: p :: r else p :: Store.insert k v r

/-- Writing a value; the default removes the entry, so that equal contents are equal data. -/
def Store.put (d : Nat) (k : Nat × Nat) (v : Nat) (s : Store) : Store :=
  if v = d then s.erase k else (s.erase k).insert k v

/-- The same four operations on a map of numbers. -/
def SMap.get (d k : Nat) : SMap → Nat
  | [] => d
  | p :: r => if p.1 = k then p.2 else SMap.get d k r

def SMap.erase (k : Nat) : SMap → SMap
  | [] => []
  | p :: r => if p.1 = k then SMap.erase k r else p :: SMap.erase k r

def SMap.insert (k v : Nat) : SMap → SMap
  | [] => [(k, v)]
  | p :: r => if k < p.1 then (k, v) :: p :: r else p :: SMap.insert k v r

def SMap.put (d k v : Nat) (m : SMap) : SMap :=
  if v = d then m.erase k else (m.erase k).insert k v

/-- A list of records with the first one that matches replaced, or one added at the end. -/
def upsert {α : Type} (p : α → Bool) (new : α) : List α → List α
  | [] => [new]
  | a :: r => if p a then new :: r else a :: upsert p new r

/-- A list of records with every one that matches changed. -/
def change {α : Type} (p : α → Bool) (f : α → α) (l : List α) : List α :=
  l.map fun a => if p a then f a else a

/-- A list without what matches. -/
def drop' {α : Type} (p : α → Bool) (l : List α) : List α := l.filter fun a => !p a

/-- Element k of a list of numbers, 0 past its end. -/
def nth (l : List Nat) (k : Nat) : Nat := l.getD k 0

/-! ### The dictionary's values (R365, R367, R458) -/

/-- The rows of the part of the dictionary that an address lies in. -/
def rowsFor (a : Nat) : List Desc :=
  if a < 0x300000 then dictRowsA
  else if a < 0x400000 then dictRowsB
  else if a < 0x600000 then dictRowsC
  else dictRowsD

/-- The properties of an entry; none where the index.sub is not defined. -/
def descOf (a : Nat) : Option Desc := (rowsFor a).find? fun d => decide (d.addr ≤ a) && decide (a ≤ d.last)

/-- Every row of the dictionary in index.sub order. -/
def allRows : List Desc := dictRowsA ++ dictRowsB ++ dictRowsC ++ dictRowsD

/-- The offsets of a slot at first format (R213, R215): zero in slot 0, the advertised read-retry sets in the others, of which the last is
repeated; octet 0 alone in a zone of the SLC table. A part that advertises no set leaves every slot at zero offsets (DESIGN CHOICE, log
entry 69). -/
def slotDefault (table s : Nat) : Nat :=
  let k := min s (Config.retrySets table)
  if k = 0 then 0 else Config.retrySet table k % if table = 0 then 2 ^ 120 else 2 ^ 8

/-- The default of slots 0 to 7 of a zone, all of them valid (R213, R215). -/
def zoneDefault (item : Nat) : Nat :=
  sumOf ((List.range 8).map fun s => at' (slotDefault (item / 512) s + at' 1 120) (128 * s))

/-- The default of an entry for an item: the VF default on a virtual function (R393). -/
def dflt (a item : Nat) : Nat :=
  if a = E.ZT_ENTRIES then zoneDefault item
  else match descOf a with
    | none => 0
    | some d => if d.scope = .fn ∧ item % 512 ≠ 0 then d.dfltVf else d.dflt

/-- The stored value of an entry for an item. -/
def Chip.getAt (c : Chip) (a item : Nat) : Nat := c.dict.vals.get (dflt a item) (a, item)

/-- The stored value of an entry of the whole device. -/
abbrev Chip.get (c : Chip) (a : Nat) : Nat := c.getAt a 0

/-- Storing a value of an entry. -/
def Chip.setAt (c : Chip) (a item v : Nat) : Chip :=
  { c with dict := { c.dict with vals := c.dict.vals.put (dflt a item) (a, item) v } }

abbrev Chip.set (c : Chip) (a v : Nat) : Chip := c.setAt a 0 v

/-- The largest value of a type (R366). -/
def DType.top : DType → Nat
  | .u20 | .s20 | .e20 | .b20 => max20
  | .u40 => max40
  | .u60 => max60
  | .oct => 0

/-- The largest value of an entry's counter. -/
def topOf (a : Nat) : Nat :=
  match descOf a with
  | none => max60
  | some d => d.type.top

/-- Whether an entry is kept across power cycles. -/
def persists (a : Nat) : Bool :=
  match descOf a with
  | none => false
  | some d => decide (d.persist ≠ 0)

/-- A counter of an entry goes from one value to another: reaching its largest value, it counts in
COUNTERS_SATURATED, and a persistent one also in COUNTERS_SATURATED_LIFE (R461). -/
def Chip.saturates (c : Chip) (a top old new : Nat) : Chip :=
  let more := fun (c : Chip) (e : Nat) => c.set e (min max20 (c.get e + 1))
  let c1 := more c E.COUNTERS_SATURATED
  let d := if old < top ∧ new = top then (if persists a then more c1 E.COUNTERS_SATURATED_LIFE else c1).dict else c.dict
  { c with dict := d }

/-- Counting: the counter saturates at its largest value (R458). -/
def Chip.countAt (c : Chip) (a item n : Nat) : Chip :=
  let old := c.getAt a item
  let new := min (topOf a) (old + n)
  (c.setAt a item new).saturates a (topOf a) old new

abbrev Chip.count (c : Chip) (a n : Nat) : Chip := c.countAt a 0 n

/-- Count k of an array of 40-bit counts held in an OCT entry; each saturates (R66, R458). -/
def Chip.countOct (c : Chip) (a item k : Nat) : Chip :=
  let old := c.getAt a item
  let v := bits old (40 * k + 39) (40 * k)
  (c.setAt a item (setBits old (40 * k + 39) (40 * k) (min max40 (v + 1)))).saturates a max40 v (min max40 (v + 1))

/-- Count k of an array of 64-bit counts held in an OCT entry, n more (R168). -/
def Chip.countOct64 (c : Chip) (a k n : Nat) : Chip :=
  let old := c.get a
  let v := bits old (64 * k + 63) (64 * k)
  let top := 2 ^ 64 - 1
  (c.set a (setBits old (64 * k + 63) (64 * k) (min top (v + n)))).saturates a top v (min top (v + n))

/-- The signed value of an S20 entry (R366). -/
def Chip.getS (c : Chip) (a : Nat) : Int := toInt 20 (c.get a)

/-! ### Time -/

/-- The present in picoseconds of fabric time. -/
def Chip.nowPs (c : Chip) : Ps := c.now * psPerCyc

/-- The inning in progress: inning boundaries follow the timestamp (R414). -/
def Chip.inning (c : Chip) : Nat := c.now / cycPerInning

/-- The command takes place at fabric timestamp t; time never runs back (log entry 4). What the
last command sent out is gone. -/
def Chip.atTime (c : Chip) (t : Nat) : Chip := { c with now := max c.now t, out := [] }

/-- Fabric cycles that the timestamp advances at one tick of the clock in use (R414): 1 on the root
PLL and in holdover, 4 on the fast oscillator, 800 on the slow one. -/
def clockStep (c : Chip) : Nat :=
  if c.pm.clock = 0 then 4 else if c.pm.clock = 3 then 800 else 1

/-- Sending something out. -/
def Chip.emit (c : Chip) (o : Out) : Chip := { c with out := c.out ++ [o] }

/-- The timestamp as it reads: 60 bits. -/
def Chip.stamp (c : Chip) : Nat := c.now % 2 ^ 60

/-! ### Draws and free values -/

/-- A value from the random source (R164, R307, R388). -/
def Chip.draw (c : Chip) : Nat × Chip := (Config.random c.rnd, { c with rnd := c.rnd + 1 })

/-! ### Unit names (R13) -/

/-- Kind and index of a unit as one number, without the controller bit. -/
abbrev mkUnit (kind idx : Nat) : Nat := kind * 2048 + idx

abbrev unitKind (u : Nat) : Nat := u / 2048 % 16
abbrev unitIdx (u : Nat) : Nat := u % 2048

abbrev kCTL : Nat := 0
abbrev kQUAD : Nat := 1
abbrev kCHAN : Nat := 2
abbrev kTGT : Nat := 3
abbrev kLUN : Nat := 4
abbrev kPORT : Nat := 5
abbrev kDDR : Nat := 6
abbrev kCLUS : Nat := 7
abbrev kLDPC : Nat := 8
abbrev kADC : Nat := 9
abbrev kSTORE : Nat := 10
abbrev kRALLY : Nat := 11
abbrev kPAIR : Nat := 15

/-- The controller's own index: PAIR_INDEX while PAIR_MODE is 1, and 0 otherwise (R13). -/
def Chip.ownIndex (c : Chip) : Nat := if c.boot.pairMode = 1 then c.pr.strap else 0

/-- The unit identifier that an event record carries (R13, R462): kind in [18:15], index in [10:0], the own index above them
except for the PAIR. -/
def Chip.unitIdent (c : Chip) (u : Nat) : Nat :=
  at' (if unitKind u = kPAIR then 0 else c.ownIndex) 19 + at' (unitKind u) 15 + unitIdx u

/-- No unit (R462). -/
abbrev noUnit : Nat := 0xFFFFF

/-! ### Events (R462 to R466) -/

/-- The second that a timestamp lies in (R464). -/
abbrev secOf (t : Nat) : Nat := t / cycPerSec

/-- The count of a source (and cause) in the current second. -/
def secCount (l : List SecCount) (src cause now : Nat) : Nat :=
  match l.find? fun s => decide (s.src = src ∧ s.cause = cause ∧ secOf s.firstT = secOf now) with
  | none => 0
  | some s => s.count

/-- One more of a source (and cause) in the current second. -/
def secAdd (l : List SecCount) (src cause now : Nat) : List SecCount :=
  match l.find? fun s => decide (s.src = src ∧ s.cause = cause ∧ secOf s.firstT = secOf now) with
  | none => l ++ [{ src := src, cause := cause, count := 1, firstT := now }]
  | some _ => change (fun s => decide (s.src = src ∧ s.cause = cause ∧ secOf s.firstT = secOf now))
      (fun s => { s with count := s.count + 1 }) l

/-- A record placed in the open excerpt page (R465). -/
def Ev.excerpt (e : Ev) (r : EvRec) (now : Nat) : Ev :=
  { e with page := e.page ++ [r], pageT := if e.page = [] then now else e.pageT }

/-- A record written to the ring under the next number: the ring keeps 65,536, the excerpt takes
it at EXCERPT_MIN_SEVERITY or above and start-up complete always (R462 to R465). A critical
record takes a controller-initiated telemetry capture, or counts in TELEM_SKIPPED (R466). -/
def Chip.record (c : Chip) (time src ev sev unit : Nat) (params : List Nat) : Chip :=
  let n := c.get E.EVT_NEXT
  let r : EvRec := { time := time, src := src, sev := sev, ev := ev, unit := unit, num := n,
                     params := params }
  let lapped := decide (65536 ≤ c.ev.ring.length)
  let ring := (c.ev.ring ++ [r]).drop (if lapped then 1 else 0)
  let e1 := { c.ev with ring := ring }
  let e2 := if c.get E.EXCERPT_MIN_SEVERITY ≤ sev ∨ (src = 0x586 ∧ ev = 0) then e1.excerpt r c.now else e1
  let c1 := ({ c with ev := e2 }).set E.EVT_NEXT ((n + 1) % 2 ^ 32)
  let c2 := c1.count E.EVT_TOTAL 1
  let c3 := if lapped then c2.count E.EVT_OVERWRITTEN 1 else c2
  if sev = 5 then
    if c3.lg.telemAvail then c3.count E.TELEM_SKIPPED 1
    else
      let g := (c3.get E.TELEM_CTRL_GEN + 1) % 256
      ({ c3 with lg := { c3.lg with telemAvail := true } }).set E.TELEM_CTRL_GEN g
  else c3

/-- An event with its time: filtered by severity, held to EVT_RATE_MAX records a second of one source, and
otherwise written (R464). -/
def Chip.eventAt (c : Chip) (time src ev sev unit : Nat) (params : List Nat) : Chip :=
  if sev < c.get E.EVT_MIN_SEVERITY then c.count E.EVT_FILTERED 1
  else if c.get E.EVT_RATE_MAX ≤ secCount c.ev.written src 0 c.now then
    ({ c with ev := { c.ev with suppressed := secAdd c.ev.suppressed src 0 c.now } }).count E.EVT_SUPPRESSED 1
  else
    ({ c with ev := { c.ev with written := secAdd c.ev.written src 0 c.now } }).record time src ev sev unit params

/-- An event of this moment. -/
def Chip.event (c : Chip) (src ev sev unit : Nat) (params : List Nat) : Chip := c.eventAt c.stamp src ev sev unit params

/-- An event that its row reports first in each second (R464). -/
def Chip.eventFirst (c : Chip) (src ev sev unit : Nat) (params : List Nat) : Chip :=
  if secCount c.ev.firsts src ev c.now = 0 then
    ({ c with ev := { c.ev with firsts := secAdd c.ev.firsts src ev c.now } }).event src ev sev unit params
  else { c with ev := { c.ev with firsts := secAdd c.ev.firsts src ev c.now } }

/-! ### Commands, functions, ports -/

def Chip.cmd (c : Chip) (h : Nat) : Option Cmd := c.cmds.find? fun x => decide (x.h = h)

def Chip.setCmd (c : Chip) (x : Cmd) : Chip :=
  { c with cmds := change (fun y => decide (y.h = x.h)) (fun _ => x) c.cmds }

def Chip.dropCmd (c : Chip) (h : Nat) : Chip :=
  { c with cmds := drop' (fun y => decide (y.h = h)) c.cmds }

/-- Functions and ports (R13, R102): a function is item port × 512 + fn. -/
abbrev fnItem (port fn : Nat) : Nat := port * 512 + fn

def Chip.fnOf (c : Chip) (port fn : Nat) : Fn :=
  match c.fns.find? fun f => decide (f.port = port ∧ f.fn = fn) with
  | some f => f
  | none => Fn.initial port fn

def Chip.setFn (c : Chip) (f : Fn) : Chip :=
  { c with fns := upsert (fun g => decide (g.port = f.port ∧ g.fn = f.fn)) f c.fns }

def Chip.portOf (c : Chip) (p : Nat) : Port :=
  match c.ports.find? fun q => decide (q.port = p) with
  | some q => q
  | none => Port.initial p

def Chip.setPort (c : Chip) (p : Port) : Chip :=
  { c with ports := upsert (fun q => decide (q.port = p.port)) p c.ports }

/-- The selects of a transport (R29): one set each, the two BAR4 windows of mode 1 apart. -/
def Xport.item : Xport → Nat
  | .nvme => 0
  | .bar4 0 => 1
  | .mctp => 2
  | .fliad => 3
  | .bar4 _ => 4
  | .internal => 5

/-- The code of a transport in a clamp report (R372). -/
def Xport.code : Xport → Nat
  | .nvme => 0
  | .bar4 _ => 1
  | .mctp => 2
  | .fliad => 3
  | .internal => 4

/-- The controller gives service: start-up has ended (R435). -/
def Chip.isReady (c : Chip) : Bool := decide (c.boot.run = .ready)

/-- A function is in D3hot, or is a VF of a PF that is (R118). -/
def Chip.inD3 (c : Chip) (port fn : Nat) : Bool := decide ((c.fnOf port fn).dstate = 3) || decide ((c.fnOf port 0).dstate = 3)

/-- A transport whose writes are enabled (R385, R390); a BAR4 window takes none while its function is in D3hot (R118). -/
def Chip.xportWrites (c : Chip) (x : Xport) : Bool :=
  match x with
  | .bar4 p => !c.inD3 p 0
  | .mctp => decide (c.get E.MCTP_WRITE_ENABLE = 1)
  | .fliad => decide (c.get E.FLIAD_WRITE_ENABLE = 1)
  | _ => true

/-- A transport has a fenced mailbox write outstanding (R356). -/
def Chip.fenced (c : Chip) (x : Xport) : Bool := c.pr.fences.any fun f => decide (f.2.1 = Xport.item x)

/-- Admin commands are served: in service, and the few of R441 in ROM recovery. -/
def Chip.serves (c : Chip) : Bool := c.isReady || decide (c.boot.run = .recovery)

/-- A command or event that finds its condition false changes nothing (log entry 5). -/
def Chip.when (c : Chip) (b : Bool) (f : Chip → Chip) : Chip := if b then f c else c

/-- Applying a change for each element of a list, in order. -/
def Chip.each {α : Type} (c : Chip) (l : List α) (f : Chip → α → Chip) : Chip := l.foldl f c

end Sys2Proof.Machine
end

