-- ==== Sys2Proof/Machine/Units.lean ====
section
/-! DEFINITION. The unit tree: own, derived and reported states, the fault policy and the events
of a state change (R13 to R22, R492). -/
namespace Sys2Proof.Machine

/-- The Device ID of the physical functions (R4): 0x9616 on the S9616-SP, 0x9632 on the other variants. -/
def Fuse.pfDevice (f : Fuse) : Nat := if f.variant = 2 then 0x9616 else 0x9632

/-- The S9616-SP has half of the quadrants, channels, DDR channels and engines fused off (R2). -/
def Chip.halved (c : Chip) : Bool := decide (c.fuse.variant = 2)

/-- An entry of the pair range on a part without a pair: it ignores writes without reports and reads as zero, but for
PAIR_STATE 4 (R3). -/
def Chip.noPair (c : Chip) (a : Nat) : Bool :=
  decide (c.fuse.variant ≠ 0) && decide (0x5800 ≤ a / 256 ∧ a / 256 ≤ 0x5BFF)

/-- Whether a unit is fused off on this part (R2, R3, R492). The manual names PORT1 and RALLY as fused off on the
single-controller variants; that the PAIR unit is fused off with them, and so ABSENT with cause 5 there, is the model's
choice (DESIGN CHOICE, log entry 15; unsafe where such a part reports the PAIR otherwise). -/
def fusedOff (variant u : Nat) : Bool :=
  let i := unitIdx u
  let k := unitKind u
  if variant = 0 then false
  else if k = kRALLY ∨ k = kPAIR then true
  else if k = kPORT then decide (i = 1)
  else if variant = 2 then
    if k = kQUAD then decide (2 ≤ i)
    else if k = kCHAN then decide (16 ≤ i)
    else if k = kTGT then decide (256 ≤ i)
    else if k = kLUN then decide (1024 ≤ i)
    else if k = kDDR then decide (2 ≤ i)
    else if k = kLDPC then decide (16 ≤ i ∧ i < 32) || decide (40 ≤ i)
    else false
  else false

/-- The greatest index of a unit kind (R7, R13). -/
def maxIdx (k : Nat) : Nat :=
  if k = kQUAD then 3 else if k = kCHAN then 31 else if k = kTGT then 511
  else if k = kLUN then 2047 else if k = kPORT then 1 else if k = kDDR then 3
  else if k = kCLUS then 5 else if k = kLDPC then 47 else 0

/-- A unit that nothing has changed: present units ONLINE; dies, targets and the store not fitted;
PORT1 and RALLY not in use by configuration; fused-off units ABSENT (R2, R176, R492). -/
def UnitRec.default (variant u : Nat) : UnitRec :=
  let k := unitKind u
  let own := if fusedOff variant u then 0
    else if k = kTGT ∨ k = kLUN ∨ k = kSTORE ∨ k = kRALLY then 0
    else if k = kPORT ∧ unitIdx u = 1 then 0 else 1
  let cause := if fusedOff variant u then 5
    else if k = kTGT ∨ k = kLUN ∨ k = kSTORE then 6
    else if k = kRALLY ∨ (k = kPORT ∧ unitIdx u = 1) then 7 else 0
  { unit := u, own := own, prior := own, cause := cause, faults := [], fences := [],
    fencesLife := 0, lastChange := 0, fenceEnd := 0, probe := 0, parked := 0 }

def Chip.unitRec (c : Chip) (u : Nat) : UnitRec :=
  match c.un.units.find? fun r => decide (r.unit = u) with
  | some r => r
  | none => UnitRec.default c.fuse.variant u

def Chip.setUnit (c : Chip) (r : UnitRec) : Chip :=
  { c with un := { c.un with units := upsert (fun q => decide (q.unit = r.unit)) r c.un.units } }

/-- A unit's own state (R14, R15). -/
abbrev Chip.own (c : Chip) (u : Nat) : Nat := (c.unitRec u).own

/-- A unit's parent (R7). -/
def parentOf (u : Nat) : Option Nat :=
  let i := unitIdx u
  let k := unitKind u
  if k = kLUN then some (mkUnit kTGT (i / 4))
  else if k = kTGT then some (mkUnit kCHAN (i / 16))
  else if k = kCHAN then some (mkUnit kQUAD (i / 8))
  else if k = kCTL then some (mkUnit kPAIR 0)
  else if k = kPAIR then none
  else some (mkUnit kCTL 0)

/-- A unit's ancestors, the nearest first. -/
def ancestorsOf (u : Nat) : List Nat :=
  let up := fun (o : Option Nat) => o.bind parentOf
  let p := parentOf u
  [p, up p, up (up p), up (up (up p)), up (up (up (up p)))].filterMap id

/-- The children of a group; dies and targets only where they are listed, because the others are
ABSENT. -/
def Chip.children (c : Chip) (u : Nat) : List Nat :=
  let k := unitKind u
  let i := unitIdx u
  if k = kTGT then (List.range 4).map fun l => mkUnit kLUN (4 * i + l)
  else if k = kCHAN then
    (c.un.units.filter fun r => decide (unitKind r.unit = kTGT ∧ unitIdx r.unit / 16 = i)).map UnitRec.unit
  else if k = kQUAD then (List.range 8).map fun j => mkUnit kCHAN (8 * i + j)
  else if k = kCTL then
    (List.range 4).map (mkUnit kQUAD) ++ (List.range 2).map (mkUnit kPORT)
      ++ (List.range 4).map (mkUnit kDDR) ++ (List.range 6).map (mkUnit kCLUS)
      ++ (List.range 48).map (mkUnit kLDPC)
      ++ [mkUnit kADC 0, mkUnit kSTORE 0, mkUnit kRALLY 0]
  else if k = kPAIR then [mkUnit kCTL 0]
  else []

/-- The most severe own state among the ancestors, counted only where it is FENCED or RETIRED
(R15). -/
def Chip.ancestorTerm (c : Chip) (u : Nat) : Nat :=
  maxOf ((ancestorsOf u).map fun a => if 3 ≤ c.own a then c.own a else 0)

/-- The state derived from the reported states of the children that are not ABSENT (R15); 0 for
none. -/
def derive (l : List Nat) : Nat :=
  let p := l.filter (· ≠ 0)
  if p = [] then 0
  else if p.all (· == 1) then 1
  else if p.all (· == 4) then 4
  else if p.all (fun s => decide (3 ≤ s)) then 3
  else 2

/-- The most severe of own, derived and ancestor state; an ABSENT unit reports ABSENT (R15). -/
def Chip.reportWith (c : Chip) (u derived : Nat) : Nat :=
  if c.own u = 0 then 0 else max (c.own u) (max derived (c.ancestorTerm u))

/-- The partner's reported CTL state, which is a child of the PAIR while the pair is joined (R7, R15); none otherwise. -/
def Chip.partnerStates (c : Chip) : List Nat := if c.boot.pairMode = 1 ∧ c.pr.joined then [c.pr.partnerCtl] else []

/-- The reported state over n levels of children. -/
def Chip.reportLevel (c : Chip) : Nat → Nat → Nat
  | 0, u => c.reportWith u 0
  | n + 1, u => c.reportWith u (derive ((c.children u).map (c.reportLevel n)))

/-- The reported state of a unit (R15). -/
def Chip.reported (c : Chip) (u : Nat) : Nat :=
  let k := unitKind u
  if k = kPAIR then c.reportWith u (derive ((c.children u).map (c.reportLevel 4) ++ c.partnerStates))
  else c.reportLevel (if k = kCTL then 4 else if k = kQUAD then 3
    else if k = kCHAN then 2 else if k = kTGT then 1 else 0) u

/-- Units whose reported state can change with a unit's own state: itself, its ancestors and its
listed descendants. -/
def Chip.related (c : Chip) (u : Nat) : List Nat :=
  u :: ancestorsOf u ++ (c.un.units.filter fun r => (ancestorsOf r.unit).contains u).map UnitRec.unit
    ++ (if unitKind u = kQUAD then (List.range 8).map fun j => mkUnit kCHAN (8 * unitIdx u + j) else [])

/-- The event source of a unit kind and the place of the state change in its row (R22). Sources 0x140 + q have no row: R260 names
their events in a sentence, known-answer failures, accumulator faults and changes of the unit's state, and the model numbers
them 0, 1 and 2 in that order (DESIGN CHOICE, log entry 69). -/
def unitSource (u : Nat) : Nat × Nat :=
  let i := unitIdx u
  let k := unitKind u
  if k = kLUN then (8 * (i / 64), 2)
  else if k = kTGT then (8 * (i / 16), 2)
  else if k = kCHAN then (8 * i, 2)
  else if k = kQUAD then (0x140 + i, 2)
  else if k = kLDPC then (0x100 + i, 0)
  else if k = kPORT then (0x280 + i, 0)
  else if k = kDDR then (0x310 + i, 0)
  else if k = kCLUS then (0x318 + i, 0)
  else if k = kADC then (0x506, 1)
  else if k = kSTORE then (0x380, 0)
  else if k = kRALLY then (0x481, 2)
  else if k = kCTL then (0x200, 0)
  else (0x480, 1)

/-- Severity by the new reported state (R22, R463). -/
def stateSeverity (s : Nat) : Nat :=
  if s = 4 then 4 else if s = 3 ∨ s = 2 then 3 else if s = 1 then 2 else 1

/-- The parameters of a unit's state change (R22): octets 20 to 23 hold the old and new own state and the old and new
reported state, octet 24 UNIT_CAUSE. -/
def stateParams (o0 o1 r0 r1 cause : Nat) : List Nat := [o0 + at' o1 8 + at' r0 16 + at' r1 24, cause]

/-- One event for each unit whose own or reported state differs from what it was (R22). -/
def Chip.unitEvents (before c : Chip) (us : List Nat) : Chip :=
  c.each us.eraseDups fun c u =>
    let o0 := before.own u
    let o1 := c.own u
    let r0 := before.reported u
    let r1 := c.reported u
    if o0 = o1 ∧ r0 = r1 then c
    else
      let s := unitSource u
      c.event s.1 s.2 (stateSeverity r1) (c.unitIdent u) (stateParams o0 o1 r0 r1 (c.unitRec u).cause)

/-- Units whose own state a command has changed. -/
def Chip.unitsChanged (before c : Chip) : List Nat :=
  (c.un.units.map UnitRec.unit).filter fun u => decide (before.own u ≠ c.own u)

/-- The events of the unit states that a command has changed: one for each unit, over the whole of the command (R22;
that one command is one fabric cycle of changes is a DESIGN CHOICE, log entry 17). -/
def Chip.unitNotices (before c : Chip) : Chip :=
  let own := before.unitsChanged c
  let pair := if before.partnerStates = c.partnerStates then [] else [mkUnit kPAIR 0]
  if own = [] ∧ pair = [] then c else before.unitEvents c (own.flatMap c.related ++ pair)

/-- A unit's own state changes: the moment and the cause are kept (R18); the command that changes it raises the events
(R22, `Chip.unitNotices`). -/
def Chip.setOwn (c : Chip) (u own cause : Nat) : Chip :=
  let r := c.unitRec u
  c.setUnit { r with own := own, cause := cause, lastChange := if r.own = own then r.lastChange else c.stamp }

/-- Descendants whose probe was postponed start it, for a full FENCE_TIME, once no ancestor is FENCED; when an
ancestor has retired the probe is dropped (R20). -/
def Chip.freeProbes (c : Chip) : Chip :=
  c.each (c.un.units.filter fun r => decide (r.own = 3 ∧ r.probe ≠ 0)) fun c r =>
    let over' := (ancestorsOf r.unit).map c.own
    if over'.contains 4 then c.setUnit { r with probe := 0 }
    else if over'.contains 3 ∨ r.probe ≠ 2 then c
    else c.setUnit { r with probe := 1, fenceEnd := c.now + c.get E.FENCE_TIME * cycPerMs }

/-- Retirement: permanent, with its cause (R18); the probes of its descendants are dropped (R20). -/
def Chip.retire (c : Chip) (u cause : Nat) : Chip :=
  let r := c.unitRec u
  ((c.setUnit { r with probe := 0 }).setOwn u 4 cause).freeProbes

/-- A permanent fault retires a unit that is ONLINE, DEGRADED or FENCED (R18). -/
def Chip.permanentFault (c : Chip) (u cause : Nat) : Chip :=
  if 1 ≤ c.own u ∧ c.own u ≤ 3 then c.retire u cause else c

/-- The fences of a unit in the last FENCE_WINDOW of powered-on time (R18). -/
def Chip.fenceCount (c : Chip) (u : Nat) : Nat :=
  let w := c.get E.FENCE_WINDOW * 3600
  ((c.unitRec u).fences.filter fun s => decide (c.get E.POWER_ON_TIME ≤ s + w)).length

/-- The transient faults of a unit in the last TRANSIENT_WINDOW of fabric time (R18). -/
def Chip.faultCount (c : Chip) (u : Nat) : Nat :=
  let w := c.get E.TRANSIENT_WINDOW * cycPerMs
  ((c.unitRec u).faults.filter fun t => decide (c.now < t + w)).length

/-- Whether an ancestor's own state is FENCED or RETIRED (R19, R20). -/
def Chip.ancestorOut (c : Chip) (u : Nat) : Bool := decide (c.ancestorTerm u ≠ 0)

/-- Withdrawal for FENCE_TIME: one fence, and the probe starts; while an ancestor is FENCED the
probe is postponed (R18, R20). -/
def Chip.fence (c : Chip) (u : Nat) : Chip :=
  let r := c.unitRec u
  let c1 := c.setUnit { r with prior := r.own, fences := c.get E.POWER_ON_TIME :: r.fences,
                               fencesLife := min max40 (r.fencesLife + 1),
                               fenceEnd := c.now + c.get E.FENCE_TIME * cycPerMs,
                               probe := if c.ancestorOut u then 2 else 1 }
  c1.setOwn u 3 r.cause

/-- One transient fault counted on a unit (R18). -/
def Chip.countFault (c : Chip) (u : Nat) : Chip :=
  let r := c.unitRec u
  if r.own = 1 ∨ r.own = 2 then
    let c1 := c.setUnit { r with faults := c.now :: r.faults }
    if c1.faultCount u < c.get E.TRANSIENT_LIMIT then c1
    else if c1.fenceCount u < c.get E.FENCE_LIMIT then c1.fence u
    else c1.retire u 2
  else c

/-- Whether faults spread over a parent's children are charged to it: it has own hardware and is
not the CTL or the PAIR (R19). -/
def spreads (p : Nat) : Bool := let k := unitKind p; k = kTGT || k = kCHAN || k = kQUAD

/-- The faults of a spread leave the children's windows (R19). -/
def Chip.withdraw (c : Chip) (l : List (Nat × Nat)) : Chip :=
  c.each l fun c p =>
    let r := c.unitRec p.1
    c.setUnit { r with faults := r.faults.erase p.2 }

/-- The faults of the last 1 ms charged to a parent's children, and the spread taken into one fault of the parent. -/
def Chip.spreadOf (c : Chip) (p : Nat) : Spread :=
  match c.un.spreads.find? fun s => decide (s.parent = p) with
  | none => { parent := p, first := c.now, children := [], taken := false }
  | some s =>
    if s.taken then (if c.now ≤ s.first + cycPerMs then s else { s with children := [], taken := false })
    else { s with children := s.children.filter fun x => decide (c.now ≤ x.2 + cycPerMs) }

def Chip.setSpread (c : Chip) (s : Spread) : Chip :=
  { c with un := { c.un with spreads := upsert (fun q => decide (q.parent = s.parent)) s c.un.spreads } }

/-- A transient fault charged to a unit, over at most n levels of parents (R19): PARENT_SPREAD distinct children within 1 ms
of the first of their faults make one fault of the parent, which takes in the children's further faults of that 1 ms. -/
def Chip.chargeN : Nat → Chip → Nat → Chip
  | 0, c, u => c.countFault u
  | n + 1, c, u =>
    if c.ancestorOut u then c
    else match parentOf u with
      | none => c.countFault u
      | some p =>
        if spreads p then
          let s := c.spreadOf p
          if s.taken then c
          else
            let kids := s.children ++ [(u, c.now)]
            let first := minOf c.now (kids.map Prod.snd)
            if c.get E.PARENT_SPREAD ≤ ((kids.map Prod.fst).eraseDups).length then
              chargeN n ((c.setSpread { s with first := first, children := kids, taken := true }).withdraw s.children) p
            else (c.setSpread { s with first := first, children := kids }).countFault u
        else c.countFault u

/-- Own capacity reduced or restored: ONLINE and DEGRADED change places; any other own state stays,
and a FENCED unit will return to the state that fits (R16, R18). -/
def Chip.setDegraded (c : Chip) (u : Nat) (degraded : Bool) : Chip :=
  let r := c.unitRec u
  let want := if degraded then 2 else 1
  if (r.own = 1 ∨ r.own = 2) ∧ r.own ≠ want then c.setOwn u want r.cause
  else if r.own = 3 then c.setUnit { r with prior := want }
  else c

/-- A probe ends: passed, the unit returns to the state held before the fence with its transient
count cleared; failed, it is RETIRED with cause 1 (R18). -/
def Chip.endProbe (c : Chip) (u : Nat) (pass : Bool) : Chip :=
  let r := c.unitRec u
  if r.own = 3 then
    if pass then (c.setUnit { r with faults := [], probe := 0 }).setOwn u r.prior 0
    else c.retire u 1
  else c

/-- A transient fault of a unit (R17 to R19). One that a FENCED unit shows during its own probe is a failure of the probe
(R19), and any other of a unit that is out is charged nowhere. -/
def Chip.chargeFault (c : Chip) (u : Nat) : Chip :=
  if c.own u = 3 then (if (c.unitRec u).probe = 1 ∧ !c.ancestorOut u then c.endProbe u false else c)
  else Chip.chargeN 3 c u

/-- A probe has passed: at the end of FENCE_TIME the unit returns, until then the pass is kept (R18). -/
def Chip.passProbe (c : Chip) (u : Nat) : Chip :=
  let r := c.unitRec u
  if r.own ≠ 3 then c
  else if r.fenceEnd ≤ c.now ∧ !c.ancestorOut u then c.endProbe u true else c.setUnit { r with probe := 3 }

/-- The unit identifier as R13 clamps it field by field: index above the kind's maximum to that
maximum, kinds 12 and 13 to 11, 14 to 15, the reserved field to 0, the controller field to the own
index, and to 0 for the PAIR. -/
def Chip.clampUnit (c : Chip) (v : Nat) : Nat :=
  let k0 := bits v 18 15
  let k := if k0 = 12 ∨ k0 = 13 then 11 else if k0 = 14 then 15 else k0
  let ctl := if k = kPAIR then 0 else c.ownIndex
  at' ctl 19 + at' k 15 + min (bits v 10 0) (maxIdx k)

/-- Kind and index of a unit identifier. -/
def unitOfIdent (v : Nat) : Nat := mkUnit (bits v 18 15) (bits v 10 0)

/-- A unit's octet in D1020 (R30). -/
def Chip.unitOctet (c : Chip) (u : Nat) : Nat :=
  let r := c.reported u
  at' (min 15 (c.fenceCount u)) 4 + (if c.own u = r then 0 else 8) + r

/-- A channel, target or die that new work can use: neither FENCED, RETIRED nor ABSENT as
reported. -/
def Chip.usable (c : Chip) (u : Nat) : Bool := let r := c.reported u; r == 1 || r == 2

end Sys2Proof.Machine
end

