-- ==== Sys2Proof/Machine/ConfigSpace.lean ====
section
/-! DEFINITION. What a port presents to the host: its functions and routing IDs, configuration space with its
capability lists, the BARs, and the NVM Express registers (R4, R68, R70, R99, R100, R102, R103, R105 to R110, R113, R115 to
R117). Registers are named by their fields; where PCI Express or NVM Express places a field in a dword is theirs. What the
host has written into configuration space comes with CC_ENABLE (DESIGN CHOICE, log entry 37). -/
namespace Sys2Proof.Machine

/-! ### Functions (R100, R102, R103) -/

/-- A port is in use (R100). -/
def Chip.portUsed (c : Chip) (port : Nat) : Bool := decide (port = 0) || decide (port = 1 ∧ c.boot.portMode = 1)

/-- The greatest width of a port: 16 lanes in mode 0, 8 in mode 1. -/
def Chip.portLanes (c : Chip) : Nat := if c.boot.portMode = 1 then 8 else 16

/-- NumVFs of a port (R103): a value above TotalVFs is taken as TotalVFs. -/
def Port.numVfs (p : Port) : Nat := min p.cfg.numVfs p.totalVfs

/-- A function that a port presents: the PF, and with VF Enable set the VFs 1 to NumVFs (R102, R103). -/
def Chip.fnExists (c : Chip) (port fn : Nat) : Bool :=
  let p := c.portOf port
  c.portUsed port && (decide (fn = 0) || (p.cfg.vfEnable && decide (fn ≤ p.numVfs)))

/-- First VF Offset and VF Stride (R103). -/
abbrev firstVfOffset : Nat := 1
abbrev vfStride : Nat := 1

/-- The routing ID of a function (R102), 16 bits: bus, device and function number as the host has given them to the PF,
and for VF n the PF's plus First VF Offset plus (n − 1) × VF Stride. -/
def Chip.routingId (c : Chip) (port fn : Nat) : Nat :=
  let pf := (c.portOf port).cfg.rid
  (if fn = 0 then pf else pf + firstVfOffset + (fn - 1) * vfStride) % 65536

/-- The VFs that the hierarchy routes: with ARI Capable Hierarchy clear, those whose routing ID keeps the PF's bus and, below
ARI, its device number (R102; which they are is the hierarchy's, and the S9632 does not check it). -/
def Chip.routed (c : Chip) (port fn : Nat) : Bool :=
  (c.portOf port).cfg.ari || decide (c.routingId port fn / 8 = c.routingId port 0 / 8)

/-! ### Capability lists (R105) -/

/-- The capabilities. -/
inductive Cap where
  | powerManagement | msix | pciExpress | aer | secondaryPcie | dataLinkFeature | phy16 | phy32 | phy64 | margining
  | l1Substates | ltr | ari | sriov | resizableBar | vfResizableBar | doe | serialNumber | device3
  deriving DecidableEq, Repr

/-- Offset of a capability, and whether a VF presents it (R105). -/
def Cap.place : Cap → Nat × Bool
  | .powerManagement => (0x40, false)
  | .msix => (0x50, true)
  | .pciExpress => (0x70, true)
  | .aer => (0x100, true)
  | .secondaryPcie => (0x150, false)
  | .dataLinkFeature => (0x180, false)
  | .phy16 => (0x190, false)
  | .phy32 => (0x1C0, false)
  | .phy64 => (0x1F0, false)
  | .margining => (0x210, false)
  | .l1Substates => (0x260, false)
  | .ltr => (0x270, false)
  | .ari => (0x278, true)
  | .sriov => (0x280, false)
  | .resizableBar => (0x2C0, false)
  | .vfResizableBar => (0x2E0, false)
  | .doe => (0x300, false)
  | .serialNumber => (0x320, false)
  | .device3 => (0x330, false)

/-- Every capability, in the order of its list. -/
def allCaps : List Cap :=
  [.powerManagement, .msix, .pciExpress, .aer, .secondaryPcie, .dataLinkFeature, .phy16, .phy32, .phy64, .margining,
   .l1Substates, .ltr, .ari, .sriov, .resizableBar, .vfResizableBar, .doe, .serialNumber, .device3]

/-- The capabilities that a function presents: those below 0x100 in the list of the header, the others in the extended
list (R105). -/
def capsOf (fn : Nat) : List Cap := allCaps.filter fun k => decide (fn = 0) || k.place.2

/-- The offset of the capability after one in its list, 0 at its end. -/
def nextCap (fn : Nat) (k : Cap) : Nat :=
  let same := (capsOf fn).filter fun j => decide (k.place.1 < j.place.1) && decide (j.place.1 < 0x100 ↔ k.place.1 < 0x100)
  ((same.head?).map fun j => j.place.1).getD 0

/-! ### BARs (R107 to R110) -/

/-- Octets of a System Page Size that a host has set: 4 KiB to 1 MiB, powers of two (R103). -/
def sysPageOctets (g : PfCfg) : Nat := 4096 * 2 ^ min 8 g.sysPage

/-- Size of BAR2 of a function in MiB that is set: the Resizable BAR control, or its reset value (R107, R108). -/
def Chip.bar2Ctrl (c : Chip) (port fn : Nat) : Nat :=
  let p := c.portOf port
  2 ^ (if fn = 0 then min 16 (p.cfg.bar2.getD p.bar2) else min 8 (p.cfg.vfBar2.getD p.vfBar2))

/-- Size of BAR2 of a function in MiB, as it stands: a resize written while its buffer is reserved takes effect at the next setting of
CMSE after release (R110). -/
def Chip.bar2Mib (c : Chip) (port fn : Nat) : Nat :=
  match (c.portOf port).bar2Held.find? fun q => decide (q.1 = fn) with
  | some q => q.2
  | none => c.bar2Ctrl port fn

/-- The doorbells' part of BAR0 of a function in octets, as its size entry gives it (R70, R107). -/
def Chip.bar0Octets (c : Chip) (port fn : Nat) : Nat :=
  let p := c.portOf port
  16384 * 2 ^ (if fn = 0 then p.bar0 else p.vfBar0)

/-- Size of a BAR of a function in octets (R107, R108): BAR0 of a VF is presented at the System Page Size when that is
larger. -/
def Chip.barOctets (c : Chip) (port fn bar : Nat) : Nat :=
  let p := c.portOf port
  if bar = 0 then (if fn = 0 then c.bar0Octets port fn else max (c.bar0Octets port fn) (sysPageOctets p.cfg))
  else if bar = 2 then c.bar2Mib port fn * 2 ^ 20
  else if bar = 4 then (if fn = 0 then 262144 * 2 ^ p.bar4 else 65536)
  else 0

/-- Every BAR is 64-bit, and BAR2 alone is prefetchable (R107). -/
def barPrefetchable (bar : Nat) : Bool := decide (bar = 2)

/-- The address at which a BAR of a function lies: those of a port's VFs follow one another from the VF BAR. -/
def Chip.barBase (c : Chip) (port fn bar : Nat) : Nat :=
  let g := (c.portOf port).cfg
  let k := bar / 2
  if fn = 0 then g.bases.getD k 0 / c.barOctets port 0 bar * c.barOctets port 0 bar
  else g.bases.getD (3 + k) 0 / c.barOctets port fn bar * c.barOctets port fn bar + (fn - 1) * c.barOctets port fn bar

/-- What an offset of a BAR holds (R70, R109, R110). -/
inductive Region where
  | registers
  | doorbells
  | memoryBuffer
  | msixTable
  | pendingBits
  | dictionaryWindow
  /-- Reads as zero, and a write is ignored. -/
  | zero
  deriving DecidableEq, Repr

/-- The region of an offset inside a BAR (R108, R109). The doorbells end where the size entry puts the end of BAR0, whatever
size it is presented at; the buffer answers while its DRAM is reserved. -/
def Chip.region (c : Chip) (port fn bar off : Nat) : Region :=
  if bar = 0 then
    if off < 0x1000 then .registers else if off < c.bar0Octets port fn then .doorbells else .zero
  else if bar = 2 then
    let f := c.fnOf port fn
    if f.cmse ∧ off < f.cmbOct * 2 ^ 20 then .memoryBuffer else .zero
  else if bar = 4 then
    if off < 0x8000 then .msixTable else if off < 0x8100 then .pendingBits
    else if 0x10000 ≤ off ∧ fn = 0 ∧ off < c.barOctets port fn 4 then .dictionaryWindow else .zero
  else .zero

/-! ### Configuration space (R4, R99, R103, R106) -/

/-- The fields of configuration space that the manual gives a value. -/
inductive CfgField where
  | vendorId | deviceId | classCode | revisionId | subsystemVendorId | subsystemId | interruptPin | capabilities
  | busMasterEnable | serialNumber
  | maxPayloadSupported | flrCapability | maxPayloadSize | maxReadRequestSize | relaxedOrdering | noSnoop | transactionsPending
  | timeoutRanges | timeoutDisableSupported | timeoutValue
  | tag10Completer | tag10Requester | tag14Completer | tag14Requester | extendedTag | tag10Enable | tag14Enable
  | maxLinkSpeed | maxLinkWidth | linkSpeed | linkWidth | aspmSupport | l1ExitLatency | clockPowerManagement
  | pmeSupport | d1Support | d2Support | noSoftReset | auxCurrent | powerState | pmeEnable | pmeStatus
  | l1PowerOnUs | l1CommonModeUs | l1Control | ltrThresholdUs
  | msixTableSize | msixTableBir | msixTableOffset | msixPbaBir | msixPbaOffset | msixEnable | msixFunctionMask
  | initialVfs | totalVfs | numVfs | vfEnable | ariHierarchy | vfOffset | vfStride' | vfDeviceId | supportedPageSizes
  | systemPageSize | vfMigration | functionDependency
  | bar2Sizes | bar2Size | vfBar2Sizes | vfBar2Size | doeError | aerErrors | aerHeader
  deriving DecidableEq, Repr

/-- The power of two of a width or a rate code, for fields that carry it. -/
def log2Of (l : List Nat) (v : Nat) : Nat := (l.findIdx? (· == v)).getD 0

/-- The value of a field of a function's configuration space (R4, R99, R103, R106 to R108, R113, R116 to R118, R123). Vendor
and Device ID of a VF are the PF's vendor and 0x9633; a VF's own header reads them through the SR-IOV capability. -/
def Chip.cfgField (c : Chip) (port fn : Nat) (k : CfgField) : Nat :=
  let p := c.portOf port
  let f := c.fnOf port fn
  let one := fun (b : Bool) => if b then 1 else 0
  match k with
  | .vendorId => 0x1F3D
  | .deviceId => if fn = 0 then c.fuse.pfDevice else 0x9633
  | .classCode => 0x010802
  | .revisionId => c.fuse.rev % 256
  | .subsystemVendorId => p.subsysVendor
  | .subsystemId => p.subsysId
  | .interruptPin => 0
  | .capabilities => ((capsOf fn).head?.map fun k => k.place.1).getD 0
  | .busMasterEnable => one f.cfg.busMaster
  | .serialNumber => c.fuse.serial
  | .maxPayloadSupported => 2
  | .flrCapability => 1
  | .maxPayloadSize => log2Of [128, 256, 512] p.mps
  | .maxReadRequestSize => log2Of [128, 256, 512, 1024, 2048, 4096] f.cfg.readRequest
  | .relaxedOrdering => one f.cfg.relaxed
  | .noSnoop => one f.cfg.noSnoop
  | .transactionsPending => one (decide (f.flr = 1))
  | .timeoutRanges => 1
  | .timeoutDisableSupported => 0
  | .timeoutValue => f.cfg.timeout
  | .tag10Completer => 1
  | .tag10Requester => 1
  | .tag14Completer => 1
  | .tag14Requester => 1
  | .extendedTag => one f.cfg.extTag
  | .tag10Enable => one f.cfg.tag10
  | .tag14Enable => one f.cfg.tag14
  | .maxLinkSpeed => 6
  | .maxLinkWidth => c.portLanes
  | .linkSpeed => p.gen
  | .linkWidth => p.width
  | .aspmSupport => 2
  | .l1ExitLatency => 4
  | .clockPowerManagement => 1
  | .pmeSupport => 0x19
  | .d1Support => 0
  | .d2Support => 0
  | .noSoftReset => 1
  | .auxCurrent => 1
  | .powerState => f.dstate
  | .pmeEnable => one p.pmeEn
  | .pmeStatus => one p.pmeStatus
  | .l1PowerOnUs => 40
  | .l1CommonModeUs => 30
  | .l1Control => p.cfg.l1pm
  | .ltrThresholdUs => p.cfg.ltrThreshold
  | .msixTableSize => 0x7FF
  | .msixTableBir => 4
  | .msixTableOffset => 0
  | .msixPbaBir => 4
  | .msixPbaOffset => 0x8000
  | .msixEnable => one f.cfg.msix
  | .msixFunctionMask => one f.cfg.msixMask
  | .initialVfs => p.totalVfs
  | .totalVfs => p.totalVfs
  | .numVfs => p.numVfs
  | .vfEnable => one p.cfg.vfEnable
  | .ariHierarchy => one p.cfg.ari
  | .vfOffset => firstVfOffset
  | .vfStride' => vfStride
  | .vfDeviceId => 0x9633
  | .supportedPageSizes => 0x1FF
  | .systemPageSize => min 8 p.cfg.sysPage
  | .vfMigration => 0
  | .functionDependency => 0
  | .bar2Sizes => 2 ^ 17 - 1
  | .bar2Size => log2Of ((List.range 17).map (2 ^ ·)) (c.bar2Mib port 0)
  | .vfBar2Sizes => 2 ^ 9 - 1
  | .vfBar2Size => log2Of ((List.range 9).map (2 ^ ·)) (c.bar2Mib port 1)
  | .doeError => one p.doeError
  | .aerErrors => (p.aerErrors.filter fun q => decide (q.1 = fn)).length
  | .aerHeader => ((p.aerHeader.find? fun q => decide (q.1 = fn)).map Prod.snd).getD 0

/-- The capability that a field belongs to, where not every function presents it (R105). -/
def CfgField.cap : CfgField → Option Cap
  | .pmeSupport | .d1Support | .d2Support | .noSoftReset | .auxCurrent | .powerState | .pmeEnable | .pmeStatus => some .powerManagement
  | .l1PowerOnUs | .l1CommonModeUs | .l1Control => some .l1Substates
  | .ltrThresholdUs => some .l1Substates
  | .initialVfs | .totalVfs | .numVfs | .vfEnable | .ariHierarchy | .vfOffset | .vfStride' | .vfDeviceId | .supportedPageSizes
  | .systemPageSize | .vfMigration | .functionDependency => some .sriov
  | .bar2Sizes | .bar2Size => some .resizableBar
  | .vfBar2Sizes | .vfBar2Size => some .vfResizableBar
  | .doeError => some .doe
  | .serialNumber => some .serialNumber
  | _ => none

/-- A function presents the capability of a field; the space of one that it does not present reads as zero (R105). -/
def presents (fn : Nat) (k : CfgField) : Bool := (k.cap.map fun a => (capsOf fn).contains a).getD true

/-- The answer to a configuration request. -/
inductive CfgAnswer where
  /-- The link is down or the port is not in use: nothing answers. -/
  | none
  /-- Request Retry Status, until the boot ROM has started the endpoint (R115). -/
  | retry
  /-- The function does not exist (R102, R103). -/
  | unsupported
  | value (v : Nat)
  deriving DecidableEq, Repr

/-- The boot ROM has started the endpoint: step 1 of a start has ended (R115, R435). -/
def Chip.endpointUp (c : Chip) : Bool :=
  match c.boot.run with
  | .ready => true
  | .recovery => true
  | .shut => true
  | .starting => decide (1 ≤ c.boot.step)
  | _ => false

/-- A configuration read of a field (R115). -/
def Chip.cfgRead (c : Chip) (port fn : Nat) (k : CfgField) : CfgAnswer :=
  if !c.portUsed port ∨ (c.portOf port).link < 2 then .none
  else if !c.endpointUp then .retry
  else if !c.fnExists port fn then .unsupported
  else .value (if presents fn k then c.cfgField port fn k else 0)

/-! ### NVM Express registers (R68, R110) -/

/-- The register fields of NVM Express that the manual gives a value. -/
inductive NvmeReg where
  | vs | mqes | cqr | capAms | capTo | dstrd | nssrs | css | mpsMin | mpsMax | cmbs
  | ccEn | ccAms | cstsRdy | cstsCfs | cstsShst | asqs | acqs
  | cmbBir | cmbOffset | cmbSqs | cmbCqs | cmbLists | cmbRds | cmbWds | cmbSizeMib | cmbEnable | cmbBase
  deriving DecidableEq, Repr

/-- The value of a register field of a function (R68, R110): sizes of the admin queues are zero-based. -/
def Chip.nvmeReg (c : Chip) (port fn : Nat) (k : NvmeReg) : Nat :=
  let f := c.fnOf port fn
  let one := fun (b : Bool) => if b then 1 else 0
  match k with
  | .vs => 0x00020000
  | .mqes => 0xFFFF
  | .cqr => 1
  | .capAms => 1
  | .capTo => 120
  | .dstrd => 0
  | .nssrs => 0
  | .css => 1
  | .mpsMin => 0
  | .mpsMax => 2
  | .cmbs => 1
  | .ccEn => one f.en
  | .ccAms => f.ams
  | .cstsRdy => one f.rdy
  | .cstsCfs => one c.boot.cfs
  | .cstsShst => f.shst
  | .asqs => f.asqs - 1
  | .acqs => f.acqs - 1
  | .cmbBir => 2
  | .cmbOffset => 0
  | .cmbSqs => 1
  | .cmbCqs => 0
  | .cmbLists => 0
  | .cmbRds => 0
  | .cmbWds => 0
  | .cmbSizeMib => c.bar2Mib port fn
  | .cmbEnable => one f.cmse
  | .cmbBase => f.cmbBase

/-! ### Requests on the link (R113, R117) -/

/-- The pieces in which an address range goes over the link: at most `size` octets each, none across a 4 KiB boundary
(R113). `fuel` bounds the number of pieces. -/
def tlpPieces (size : Nat) : Nat → Nat → Nat → List (Nat × Nat)
  | 0, _, _ => []
  | fuel + 1, addr, n =>
    if n = 0 then []
    else
      let k := min n (min (max 1 size) (4096 - addr % 4096))
      (addr, k) :: tlpPieces size fuel (addr + k) (n - k)

/-- The memory writes, and the completions, in which a port sends n octets: at the Max_Payload_Size of its PF (R113). -/
def Chip.writeTlps (c : Chip) (port addr n : Nat) : List (Nat × Nat) := tlpPieces (c.portOf port).mps (n + 1) addr n

/-- The read requests by which a function fetches n octets: at its Max_Read_Request_Size, of at most 4,096 (R99, R113). -/
def Chip.readTlps (c : Chip) (port fn addr n : Nat) : List (Nat × Nat) :=
  tlpPieces (min 4096 (c.fnOf port fn).cfg.readRequest) (n + 1) addr n

/-- The completion timeout of a function in ns (R117): 100 µs for the value 0001b, 10 ms for any other. -/
def Chip.timeoutNs (c : Chip) (port fn : Nat) : Nat := if (c.fnOf port fn).cfg.timeout = 1 then 100000 else 10000000

/-- An error that a function of a port reports through AER: it joins the errors that the function holds, and the first one held leaves the
header of its TLP in the header log, a free value (R99, R105, R117, log entry 38). -/
def Chip.aer (c : Chip) (port fn code : Nat) : Chip :=
  let p := c.portOf port
  let c1 := if p.aerErrors.contains (fn, code) then c
    else
      let errors := p.aerErrors ++ [(fn, code)]
      if p.aerErrors.any fun q => decide (q.1 = fn) then c.setPort { p with aerErrors := errors }
      else
        let headers := upsert (fun q => decide (q.1 = fn)) (fn, Config.tlpHeader c.free) p.aerHeader
        ({ c with free := c.free + 1 }).setPort { p with aerErrors := errors, aerHeader := headers }
  c1.emit (.aer port code)

/-- What kept a port from L1 has ended, by the end of a drain, a reset or a Passer delivery: its idle time starts anew (R121). -/
def Chip.portEnds (c : Chip) (port : Nat) : Chip := c.setPort { c.portOf port with idleSince := c.now }

/-- A memory request of the host to a function in D3hot is answered with Unsupported Request (R118). -/
def Chip.unsupported (c : Chip) (port fn : Nat) : Chip := if c.fnExists port fn && c.inD3 port fn then c.aer port fn 4 else c

end Sys2Proof.Machine
end

