-- ==== Sys2Proof/Machine/Memory.lean ====
section
/-! DEFINITION. Sizes and places: DRAM by R11 and R12, the Crucible by R140, the geometry by R132
to R134, R146, R156 and R267, and the namespaces by R133. -/
namespace Sys2Proof.Machine

/-- Good blocks at the first format over all recorded dies (R134). -/
def Chip.goodBlocks (c : Chip) : Nat := sumOf (c.md.dies.map Die.good)

/-- Pages of a member block in SLC mode: a QLC cell holds four bits. -/
def Chip.slcPages (c : Chip) : Nat := c.md.pagesPerBlock / 4

/-- The greatest user capacity of the variant in GiB (R1): 512 TiB, and 256 TiB on the S9616-SP. -/
def Chip.variantMax (c : Chip) : Nat := if c.halved then 262144 else 524288

/-- USER_CAPACITY_MAX in GiB (R1, R134). -/
def Chip.capacityMax (c : Chip) : Nat :=
  let f := 1000 - c.get E.SPARE_INIT_ACTIVE - c.get E.SLC_SHARE - c.get E.OP_MIN
  min c.variantMax (c.goodBlocks * c.md.pagesPerBlock * 16384 * f * 31 / (1000 * 32 * 2 ^ 30))

/-- One past the highest granule that a namespace holds. -/
def Chip.topGranule (c : Chip) : Nat := maxOf (c.ft.nss.flatMap fun n => n.granules.map (· + 1))

/-- Map slices: 64 granules each (R134, R135), with those of every granule that a namespace holds. -/
def Chip.mapSlices (c : Chip) : Nat := cdiv (max c.capacityMax c.topGranule) 64

/-- The Scorebook is in use: its state is loading or ready (R305). -/
def Chip.bookOn (c : Chip) : Bool := let s := c.get E.SB_STATE; s == 1 || s == 2

/-- The fixed set of R11 in MiB: map, Scorebook when enabled, 9 GiB of tables. -/
def Chip.fixedMib (c : Chip) (book : Bool) : Nat :=
  c.mapSlices * 20 + (if book then 16384 else 0) + 9216

/-- DDR capacity in MiB over the channels whose own state satisfies a test. -/
def Chip.ddrMib (c : Chip) (p : Nat → Bool) : Nat :=
  sumOf ((List.range 4).map fun d =>
    if p (c.own (mkUnit kDDR d)) then nth c.boot.ddrGib d * 1024 else 0)

/-- DDR channels ONLINE or DEGRADED. -/
def Chip.ddrGood (c : Chip) : Nat :=
  ((List.range 4).filter fun d => let o := c.own (mkUnit kDDR d); o == 1 || o == 2).length

/-- Data slots of one copy of a size in MiB: all but the reserved 256 MiB, 16 KiB each (R140). -/
def slotsOf (mib : Nat) : Nat := (mib - 256) * 64

/-- DDR channels ONLINE or DEGRADED, by number. -/
def Chip.ddrUsable (c : Chip) : List Nat := (List.range 4).filter fun d => let o := c.own (mkUnit kDDR d); o == 1 || o == 2

/-- The room of the DDR channels in use, with some MiB taken from one of them. -/
def takeRoom (room : SMap) (d mib : Nat) : SMap := change (fun p => decide (p.1 = d)) (fun p => (p.1, p.2 - mib)) room

/-- The channel with the most room, the first of those that have it. -/
def mostRoom (room : SMap) : Option (Nat × Nat) :=
  room.foldl (fun o p => match o with
    | none => some p
    | some q => if q.2 < p.2 then some p else some q) none

/-- The room that a placement of slices leaves on each channel. -/
def roomAfter (homes : List Nat) (room : SMap) : SMap := homes.foldl (fun r d => takeRoom r d 20) room

/-- Each map slice on one DDR channel (R11): a slice stays where it is while its channel is in use, and any other goes to
the channel in use with the most room, which has room for its 20 MiB, so that the copies of the Crucible find room on two
channels (DESIGN CHOICE, log entry 31); 4 for none. -/
def placeSlices (old : List Nat) (n : Nat) (room : SMap) : List Nat :=
  let stays := fun k => let d := old.getD k 4; room.any fun p => decide (p.1 = d)
  let left := (List.range n).foldl (fun r k => if stays k then takeRoom r (old.getD k 4) 20 else r) room
  ((List.range n).foldl (fun (p : List Nat × SMap) k =>
    if stays k then (old.getD k 4 :: p.1, p.2)
    else match (mostRoom p.2).filter fun x => decide (20 ≤ x.2) with
      | some x => (x.1 :: p.1, takeRoom p.2 x.1 20)
      | none => (4 :: p.1, p.2)) ([], left)).1.reverse

/-- The capacity of the DDR channels in use, in MiB. -/
def Chip.ddrRoom (c : Chip) : SMap := c.ddrUsable.map fun d => (d, nth c.boot.ddrGib d * 1024)

/-- The map placed again: slices whose channel is lost are not loaded any more, so that they are rebuilt from their
checkpoint and the journal (R11). -/
def Chip.placeMap (c : Chip) : Chip :=
  let homes := placeSlices c.ft.homes c.mapSlices c.ddrRoom
  let gone := (List.range c.ft.homes.length).filter fun k => decide (c.ft.homes.getD k 4 < 4) && !c.ddrUsable.contains (c.ft.homes.getD k 4)
  let map := if gone = [] then c.ft.map else c.ft.map.filter fun p => !gone.contains (p.1 / 2 ^ 22)
  { c with ft := { c.ft with homes := homes, map := map, loaded := c.ft.loaded.filter fun k => !gone.contains k } }

/-- The room that the map leaves on the channels in use. -/
def Chip.mapLeaves (c : Chip) : SMap := roomAfter c.ft.homes c.ddrRoom

/-- The room of the channel with the second most: a second copy must fit there (R11). -/
def secondRoom (room : SMap) : Nat :=
  match mostRoom room with
  | none => 0
  | some p => ((mostRoom (drop' (fun q => decide (q.1 = p.1)) room)).map Prod.snd).getD 0

/-- The size of one Crucible copy by R140, before R12 decides whether it is kept; the two copies are on different channels, so
that neither is greater than the room of the second of them (DEDUCED, log entry 31). -/
def Chip.crucibleFit (c : Chip) : Nat :=
  let rest := c.ddrMib (fun o => o == 1 || o == 2) - c.fixedMib c.bookOn - c.ft.cmbMib
  min (c.get E.CRU_SIZE) (min (rest / 2) (secondRoom c.mapLeaves)) / 256 * 256

/-- The DDR channels of the Crucible's copies: two of those in use with room for one, a copy where it stays if it can and
otherwise where the most room is; without the Crucible its reserved area and staging slots have one copy, on the
lowest-numbered channel not RETIRED (R11, R12). -/
def Chip.placeCopies (c : Chip) (keep : Bool) (mib : Nat) : List Nat :=
  if keep then
    let room := c.mapLeaves.filter fun p => decide (mib ≤ p.2)
    let stay := c.ft.copies.filter fun d => room.any fun p => decide (p.1 = d)
    let others := room.filter fun p => !stay.contains p.1
    let first := (mostRoom others).toList
    let next := (mostRoom (others.filter fun p => !first.contains p)).toList
    (stay ++ (first ++ next).map Prod.fst).take 2
  else ((List.range 4).filter fun d => let o := c.own (mkUnit kDDR d); decide (1 ≤ o ∧ o ≤ 3)).take 1

/-- DRAM placed again (R11, R12): the Crucible is kept with at least two good channels and 1,024
MiB a copy. It grows at once; a shrink waits until the dirty data fits, and credits are withheld
meanwhile. A change of size raises event 0x303. -/
def Chip.placeDram (c : Chip) : Chip :=
  let m := c.placeMap
  let fit := m.crucibleFit
  let keep := decide (2 ≤ c.ddrGood ∧ 1024 ≤ fit)
  let want := if keep then fit else 0
  let now := if c.ft.slots.length ≤ (if keep then slotsOf want else 1024) then want else max want c.ft.sizeMib
  let c1 := { m with ft := { m.ft with target := want, sizeMib := now, kept := keep, copies := m.placeCopies keep want } }
  if now = c.ft.sizeMib then c1 else c1.event 0x303 0 1 noUnit [c.ft.sizeMib, now]

/-- Once the dirty data fits the size that placement wants, the DRAM is released (R12). -/
def Chip.releaseDram (c : Chip) : Chip :=
  if c.ft.target < c.ft.sizeMib ∧ c.ft.slots.length ≤ (if c.ft.kept then slotsOf c.ft.target else 1024) then
    ({ c with ft := { c.ft with sizeMib := c.ft.target } }).event 0x303 0 1 noUnit [c.ft.sizeMib, c.ft.target]
  else c

/-- Slots set aside beyond host data: those granted to the partner and not in use by it, and the
two catalogue pages (R323, R344). -/
def Chip.slotsAside (c : Chip) : Nat :=
  (if c.pr.joined then c.pr.grant - c.pr.slotsIn else 0) + (if c.bookOn then 2 else 0)

/-- Free data slots (R141): of the size that placement wants, or the 1,024 staging slots. -/
def Chip.freeSlots (c : Chip) : Nat :=
  (if c.ft.kept then slotsOf (min c.ft.target c.ft.sizeMib) else 1024) - c.ft.slots.length - c.slotsAside
    - sumOf (c.cmds.map Cmd.credits)

/-- SLC data of one superblock in MiB: 31 data members (R146). -/
def Chip.slcDataMib (c : Chip) : Nat := 31 * c.slcPages / 64

/-- Superblocks of the whole module: 32 good blocks each (R134). -/
def Chip.allSbs (c : Chip) : Nat := c.goodBlocks / 32

/-- System superblocks reserved (R146). -/
def Chip.sysReserve (c : Chip) : Nat :=
  cdiv (2 * c.mapSlices * 20 + (if c.bookOn then 32768 else 0) + c.get E.JRN_FLASH_MAX * 1024) c.slcDataMib
    + c.get E.PATCH_SB_RESERVE

/-- The flush reserve in superblocks (R267). -/
def Chip.flushReserve (c : Chip) : Nat := cdiv (c.ft.sizeMib + 128) c.slcDataMib + 1

/-- SLC-mode superblocks that the share allows (R146). -/
def Chip.slcShare (c : Chip) : Nat := c.allSbs * c.get E.SLC_SHARE / 1000

/-- SLC-mode superblocks in use, whatever for. -/
def Chip.slcUsed (c : Chip) : Nat := (c.sb.sbs.filter fun s => !s.qlc).length

/-- Free superblocks: blocks of dies in no superblock and not scrapped, 32 to a superblock. -/
def Chip.freeSbs (c : Chip) : Nat :=
  let used := sumOf (c.md.dies.map fun d =>
    (d.blocks.filter fun b => b.scrapped || b.sb.isSome).length)
  (c.goodBlocks - used) / 32

/-- SLC superblocks still free for host data under the share (R146, R267). -/
def Chip.hostSlcFree (c : Chip) : Nat :=
  min c.freeSbs (c.slcShare - max c.slcUsed
    (c.sysReserve + c.flushReserve
      + (c.sb.sbs.filter fun s => !s.qlc && (s.kind == .host)).length))

/-- Spare blocks of a die (R156). -/
def Chip.spareOf (c : Chip) (d : Die) : Nat :=
  d.good * c.get E.SPARE_INIT_ACTIVE / 1000 - (d.blocks.filter Block.scrapped).length

/-- Scrapped blocks of all dies. -/
def Chip.scrapBlocks (c : Chip) : Nat :=
  sumOf (c.md.dies.map fun d => (d.blocks.filter Block.scrapped).length)

/-! ### Namespaces (R82, R86, R133) -/

def Chip.ns (c : Chip) (nsid : Nat) : Option Ns := c.ft.nss.find? fun n => decide (n.nsid = nsid)

/-- Octets of an LBA's data: formats 0 to 2 hold 4 KiB, 3 to 5 hold 16 KiB (R82). -/
def lbaOctets (lbaf : Nat) : Nat := if lbaf < 3 then 4096 else 16384

/-- Octets of an LBA's metadata (R82). -/
def metaOctets (lbaf : Nat) : Nat := nth [0, 8, 64, 0, 8, 64] lbaf

/-- LBAs in a 16 KiB unit. -/
def lbasPerUnit (lbaf : Nat) : Nat := 16384 / lbaOctets lbaf

/-- First and last unit of an LBA run of n blocks (R86). -/
def firstUnit (lbaf slba : Nat) : Nat := slba * lbaOctets lbaf / 16384
def lastUnit (lbaf slba n : Nat) : Nat := cdiv ((slba + n) * lbaOctets lbaf) 16384 - 1

/-- The global unit index of a unit of a namespace (R133); none past its granules. -/
def Ns.globalUnit (n : Ns) (u : Nat) : Option Nat :=
  (n.granules[u / 65536]?).map fun g => g * 65536 + u % 65536

/-- The namespace and namespace unit that a global unit belongs to. -/
def Chip.ownerOf (c : Chip) (g : Nat) : Option (Ns × Nat) :=
  c.ft.nss.findSome? fun n =>
    (n.granules.findIdx? (fun x => decide (x = g / 65536))).map fun i => (n, i * 65536 + g % 65536)

/-- Granules charged to a namespace (R133, R235). -/
def Ns.charge (n : Ns) : Nat := if n.p2 then cdiv (n.granules.length * 31) 30 else n.granules.length

/-- USER_CAPACITY: granules allocated, P2 charged 31/30 (R133, R166). -/
def Chip.granulesUsed (c : Chip) : Nat := sumOf (c.ft.nss.map Ns.charge)

/-- The map entry of a unit without flash data, deallocated (R130, R131). -/
abbrev entryDealloc : Nat := 0xFFFFF00000
abbrev entryZero : Nat := 0xFFFFF00001

def entrySb (e : Nat) : Nat := e / 2 ^ 20
def entrySlot (e : Nat) : Nat := e % 2 ^ 20
def onFlash (e : Nat) : Bool := decide (entrySb e ≠ 0xFFFFF)

/-- Slot field: page position and member (R132). -/
def slotPage (s : Nat) : Nat := s / 32
def slotMember (s : Nat) : Nat := s % 32
def mkEntry (sb p m : Nat) : Nat := sb * 2 ^ 20 + p * 32 + m

def Chip.mapOf (c : Chip) (u : Nat) : Nat := c.ft.map.get entryDealloc u

/-- The slice of a unit (R135) and whether it is loaded (R139). -/
def sliceOf (u : Nat) : Nat := u / 2 ^ 22
def Chip.sliceLoaded (c : Chip) (u : Nat) : Bool := c.ft.loaded.contains (sliceOf u)
def Chip.allLoaded (c : Chip) : Bool := decide (c.mapSlices ≤ c.ft.loaded.length)

/-- A namespace's key pair as the system area holds it (R164). -/
def Chip.wrap (c : Chip) (key : Nat) : Nat := Config.keyWrap c.fuse.secret key

/-- The newest Crucible version of a unit (R142). -/
def Chip.newest (c : Chip) (u : Nat) : Option Slot :=
  let id := c.ft.dir.get 0 u
  if id = 0 then none else c.ft.slots.find? fun s => decide (s.id = id)

/-- A unit is in the lost-range log (R257). -/
def Chip.isLost (c : Chip) (u : Nat) : Bool :=
  c.lost.any fun r => decide (r.first ≤ u ∧ u < r.first + r.count)

def Chip.sbOf (c : Chip) (i : Nat) : Option Sb := c.sb.sbs.find? fun s => decide (s.idx = i)

def Chip.setSb (c : Chip) (s : Sb) : Chip :=
  { c with sb := { c.sb with sbs := change (fun q => decide (q.idx = s.idx)) (fun _ => s) c.sb.sbs } }

def Chip.dieOf (c : Chip) (lun : Nat) : Option Die := c.md.dies.find? fun d => decide (d.lun = lun)

def Chip.setDie (c : Chip) (d : Die) : Chip :=
  { c with md := { c.md with dies := change (fun q => decide (q.lun = d.lun)) (fun _ => d) c.md.dies } }

/-- The die behind a map entry (R132). -/
def Chip.lunOf (c : Chip) (e : Nat) : Option Nat :=
  (c.sbOf (entrySb e)).bind fun s => (s.members[slotMember (entrySlot e)]?).map Member.lun

/-- Channel of a die. -/
def chanOf (lun : Nat) : Nat := lun / 64

/-- The parity positions of a row (R233). -/
def parityPos (sb row : Nat) (p2 : Bool) : List Nat :=
  if p2 then [(sb + row) % 32, (sb + row + 1) % 32] else [(sb + row) % 32]

/-- Data positions of a row in ascending member position (R233, R234). -/
def dataPos (sb row : Nat) (p2 : Bool) : List Nat :=
  (List.range 32).filter fun m => !(parityPos sb row p2).contains m

/-- Data slots of a superblock. -/
def Sb.dataSlots (s : Sb) : Nat := s.pages * (if s.p2 then 30 else 31)

/-- Units the map still names in a superblock: its valid units (R152). -/
def Chip.validUnits (c : Chip) (s : Sb) : List Placed :=
  s.placed.filter fun p => decide (c.mapOf p.unit = s.idx * 2 ^ 20 + p.slot)

/-- A unit is current at a slot: the map names it and no newer Crucible version exists (R249). -/
def Chip.currentUnits (c : Chip) (s : Sb) : List Placed :=
  (c.validUnits s).filter fun p => (c.newest p.unit).isNone

end Sys2Proof.Machine
end

