-- ==== Sys2Proof/Machine/Energy.lean ====
section
/-! DEFINITION. The store's energies and the credit books (R271, R272, R278 to R283), and the
write-through conditions of R25. Charge is in nanocoulombs, voltage in microvolts, energy in
millijoules. -/
namespace Sys2Proof.Machine

/-- The charge at the full anchor (R271): C × (STORE_V_FULL − STORE_V_CUT). -/
def Chip.fullCharge (c : Chip) : Nat :=
  c.get E.STORE_C * (c.get E.STORE_V_FULL - c.get E.STORE_V_CUT) * 1000

/-- V_q in microvolts for a charge (R272). -/
def Chip.vq (c : Chip) (qa : Nat) : Nat := c.get E.STORE_V_CUT * 1000 + qa / c.get E.STORE_C

/-- V_c in microvolts (R272). -/
def Chip.vc (c : Chip) : Nat :=
  c.get E.STORE_V_CUT * 1000 + c.get E.STORE_ESR * c.get E.FLUSH_POWER * 1000 / c.get E.STORE_V_CUT

/-- The energy above the effective cut-off at a stack voltage in microvolts (R272), 0 when the
voltage does not exceed it. -/
def Chip.energyAt (c : Chip) (v : Nat) : Nat :=
  c.get E.HOLDUP_EFF * c.get E.STORE_C * (v * v - c.vc * c.vc) / (2 * 10 ^ 15)

/-- E_USABLE (R272); none without a store. -/
def Chip.eUsable (c : Chip) : Nat := if c.st.present then c.energyAt (c.vq c.st.qa) else 0

/-- E_FULL: E_USABLE at STORE_V_FULL (R272). -/
def Chip.eFull (c : Chip) : Nat := c.energyAt (c.get E.STORE_V_FULL * 1000)

/-- FLUSH_COST: the larger of the minimum and the learned cost plus a tenth, rounded up (R278). -/
def Chip.flushCost (c : Chip) : Nat :=
  max (c.get E.FLUSH_COST_MIN) (cdiv (c.get E.FLUSH_COST_LEARNED * 1100) 1000)

/-- E_RESERVE (R280): each energy rounded up to whole millijoules. -/
def Chip.eReserve (c : Chip) : Nat :=
  cdiv (c.get E.JRN_TAIL_PAGES * c.flushCost) 1000 + c.get E.MARK_COST
    + cdiv (c.eFull * c.get E.STORE_AGE_MARGIN) 1000

/-- E_OBLIGED (R281); the two catalogue pages are debited for as long as the Scorebook is enabled (R323). -/
def Chip.eObliged (c : Chip) : Nat := c.get E.FLUSH_FIXED + cdiv ((c.st.dirty + if c.bookOn then 2 else 0) * c.flushCost) 1000

/-- E_MIN (R283). -/
def Chip.eMin (c : Chip) : Nat :=
  c.eReserve + c.get E.FLUSH_FIXED + cdiv (c.get E.CRU_MIN_BACKED * c.flushCost) 1000

/-- Store aging in per mille (R279). -/
def Chip.aging (c : Chip) : Nat :=
  let f := c.get E.STORE_C_FIRST
  let n := c.get E.STORE_C
  if f = 0 ∨ f ≤ n then 0 else 1000000 * (f - n) / (f * c.get E.STORE_EOL_LOSS)

/-- The check of the books at an inning (R281): the spare uses the smaller of the last and the new
E_USABLE. Entering BOOKS_SHORT counts and raises event 0x382. -/
def Chip.booksCheck (c : Chip) : Chip :=
  let e := c.eUsable
  let spare : Int := (min c.st.lastE e : Nat) - (c.eReserve : Int) - (c.eObliged : Int)
  let was := c.get E.BOOKS_SHORT
  let short := if spare < 0 then 1 else if was = 1 ∧ spare ≥ c.get E.BOOKS_HYST then 0 else was
  let pool := if short = 1 then 0 else min max20 (spare.toNat * 1000 / c.flushCost)
  let c1 := ((({ c with st := { c.st with lastE := e } }).set E.BOOKS_SHORT short).set E.CREDIT_POOL pool)
  if short = 1 ∧ was = 0 then (c1.count E.BOOKS_SHORT_EVENTS 1).event 0x382 0 4 noUnit [1]
  else if short = 0 ∧ was = 1 then c1.event 0x382 0 2 noUnit [0]
  else c1

/-- The store unit takes DEGRADED while E_FULL is below nominal (R16, R272). -/
def Chip.storeState (c : Chip) : Chip :=
  c.setDegraded (mkUnit kSTORE 0) (decide (c.eFull < c.get E.STORE_E_NOMINAL))

/-- The gauge is unavailable: a store slot failed, or the ADC FENCED or RETIRED (R25, R418). -/
def Chip.gaugeOut (c : Chip) : Bool :=
  let f := c.get E.ADC_SLOT_FAILS
  let cells := (List.range (c.get E.STORE_CELLS)).map (· + 2)
  (1 :: 10 :: cells).any (fun s => bit f s == 1) || decide (3 ≤ c.own (mkUnit kADC 0))

/-- The causes of write-through that hold (R25, R27, R283, R288): [4] R12 not met, [3] usable
energy below minimum or a removal being prepared, [2] gauge unavailable, [1] store RETIRED or
FENCED, [0] store ABSENT. Cause [3] stays until E_MIN + BOOKS_HYST is reached. -/
def Chip.wtCauses (c : Chip) : Nat :=
  let o := c.own (mkUnit kSTORE 0)
  let low := if bit (c.get E.WT_CAUSE) 3 = 1 then decide (c.eUsable < c.eMin + c.get E.BOOKS_HYST)
    else decide (c.eUsable < c.eMin)
  (if o = 0 then 1 else 0) + (if 3 ≤ o then 2 else 0) + (if c.gaugeOut then 4 else 0)
    + (if low || decide (c.get E.PREPARE_STATE ≠ 0) then 8 else 0) + (if c.ft.kept then 0 else 16)

/-- The controller runs in write-through mode (R25). -/
def Chip.writeThrough (c : Chip) : Bool := decide (c.get E.WT_CAUSE ≠ 0)

/-- Write-through is entered as soon as a cause arises and left only at an inning boundary in
which none holds (R25); each change raises event 0x383, and a change of SERVICE_LEVEL event
0x200. -/
def Chip.setWt (c : Chip) (atInning : Bool) : Chip :=
  let w := c.wtCauses
  let old := c.get E.WT_CAUSE
  if w = old then c
  else if w = 0 ∧ !atInning then c
  else
    let c1 := c.set E.WT_CAUSE w
    if old = 0 ∨ w = 0 then
      let sev := if w = 0 then 2 else 3
      let c2 := c1.event 0x383 0 sev noUnit [w]
      if c.boot.maint then c2 else c2.event 0x200 1 sev noUnit [c.get E.FLOOR_FAULTS, w]
    else c1

/-- SERVICE_LEVEL (R27). -/
def Chip.serviceLevel (c : Chip) : Nat :=
  if c.boot.maint then 2 else if c.writeThrough then 1 else 0

/-- FLUSH_RATE in MB/s: 937.5 for each channel ONLINE or DEGRADED, rounded down (R291, R304). -/
def Chip.flushRate (c : Chip) : Nat :=
  let n := ((List.range 32).filter fun k => c.usable (mkUnit kCHAN k)).length
  9375 * n / 10

end Sys2Proof.Machine
end

