-- ==== Sys2Proof/Machine/Umpire.lean ====
section
/-! DEFINITION. The Umpire and the admission arithmetic: rates, worst-case times, bounds, tokens,
slack and refusal causes (R33 to R60, R113, R174, R337, R493). Times are picoseconds. -/
namespace Sys2Proof.Machine

/-! ### Rates and worst-case times -/

/-- Payload rate of a link in units of 10 MB/s, by generation and width (R60). -/
def tableRate (gen width : Nat) : Nat :=
  let col := [12100, 6050, 3020, 1510, 760, 380, 190, 95, 48, 24]
  let w := if width = 16 then 0 else if width = 8 then 1 else if width = 4 then 2
    else if width = 2 then 3 else 4
  if gen = 0 ∨ width = 0 then 0 else nth col (w + (6 - gen))

/-- The rate at a Max_Payload_Size: 95 % at 256 B and 88 % at 128 B, down to 0.1 GB/s (R113). -/
def mpsRate (rate mps : Nat) : Nat :=
  if 512 ≤ mps then rate else if mps = 256 then rate * 95 / 1000 * 10 else rate * 88 / 1000 * 10

/-- The payload rate admission uses on a port: the trained rate at the width that L0p leaves
(R43, R113, R120). -/
def Chip.portRate (c : Chip) (p : Nat) : Nat :=
  let q := c.portOf p
  mpsRate (tableRate q.gen q.rateWidth) q.mps

/-- Picoseconds for octets at a rate in units of 10 MB/s, rounded up (log entry 13). -/
def octetsPs (rate octets : Nat) : Nat := cdiv (octets * 100000) rate

/-- One codeword's bus time on a channel (R174): 4,608 octets at the trained rate. -/
def Chip.cwPs (c : Chip) (ch : Nat) : Nat :=
  match c.md.chans.find? fun x => decide (x.ch = ch) with
  | some x => cdiv 4608000000 x.rate
  | none => 0

/-- The larger of an entry in ns and the largest time measured for it, in ps (R45). -/
def worst (entryNs measPs : Nat) : Nat := max (entryNs * 1000) measPs

def Chip.tSusp (c : Chip) : Ps := worst (c.get E.T_SUSP_WORST) c.um.measSusp
def Chip.tSense (c : Chip) (qlc : Bool) : Ps :=
  if qlc then worst (c.get E.TR_WORST_QLC) c.um.measTrQlc else worst (c.get E.TR_WORST_SLC) c.um.measTrSlc
def Chip.tProg (c : Chip) : Ps := worst (c.get E.TPROG_WORST_SLC) c.um.measProgSlc

/-- Hard and soft engines ONLINE in a quadrant (R208). -/
def Chip.hardOnline (c : Chip) (q : Nat) : Nat :=
  ((List.range 8).filter fun k => decide (c.reported (mkUnit kLDPC (8 * q + k)) = 1)).length
def Chip.softOnline (c : Chip) (q : Nat) : Nat :=
  ((List.range 4).filter fun k => decide (c.reported (mkUnit kLDPC (32 + 4 * q + k)) = 1)).length

/-- Quadrants not ABSENT. -/
def Chip.quads (c : Chip) : Nat := if c.halved then 2 else 4

/-- The quadrant that decodes a channel's codewords: its own, or the next one with an ONLINE
engine of the kind (R209); none where no quadrant has one. -/
def Chip.decodeQuad (c : Chip) (ch : Nat) (hard : Bool) : Option Nat :=
  let n := c.quads
  ((List.range n).map fun k => (ch / 8 + k) % n).find? fun q =>
    decide (0 < if hard then c.hardOnline q else c.softOnline q)

/-- Payload rate of the Rally link in units of 10 MB/s (R337). -/
def rallyRate (lanes : Nat) : Nat :=
  if lanes = 8 then 2960 else if lanes = 4 then 1480 else if lanes = 2 then 740 else 370

/-! ### Supply and budgets -/

/-- The supply of the power state scaled by THROTTLE_FACTOR (R56). -/
def Chip.supplyNow (c : Chip) : Nat :=
  let ps := c.get E.PS_LAST_OP
  let s := if ps = 0 then c.get E.SUPPLY_PS0 else if ps = 1 then c.get E.SUPPLY_PS1 else c.get E.SUPPLY_PS2
  s * c.get E.THROTTLE_FACTOR / 1000

/-- SUPPLY_EFFECTIVE (R56): a fall acts at once, a rise at the next inning boundary; `supplyPrev` is the
supply that the last boundary took, or the lower one that it has fallen to since. -/
def Chip.supply (c : Chip) : Nat := min c.supplyNow c.um.supplyPrev

/-- Full capacity of a budget per inning (R51); a channel in a booked outage has none (R182). -/
def Chip.fullCap (c : Chip) (r : Res) (inning : Nat) : Nat :=
  match r with
  | .die lun => match c.dieOf lun with
    | some d => 250 * d.planes
    | none => 0
  | .chan ch => match c.md.chans.find? fun x => decide (x.ch = ch) with
    | some x => if x.outages.contains inning then 0 else 1000
    | none => 0
  | .hard q => 125 * c.hardOnline q
  | .soft q => 250 * c.softOnline q
  | .portOut _ => 1000
  | .portIn _ => 1000
  | .rally => 1000

/-- The dictionary index of a budget's guarantees and ceilings (R63, R64). -/
def budgetBase (r : Res) : Nat :=
  match r with
  | .die _ => E.DIE_HR
  | .chan _ => E.BUS_HR
  | .hard _ => E.LDH_HR
  | _ => E.LDS_HR

/-- Guarantee and ceiling of class k (0 HR to 8 ST) in per mille; the ceilings HW, GC and FD read
1,000 during a Sanitize and HW while the books are short (R162, R282). -/
def Chip.guarantee (c : Chip) (r : Res) (k : Nat) : Nat := bits (c.get (budgetBase r + k)) 19 10
def Chip.ceiling (c : Chip) (r : Res) (k : Nat) : Nat :=
  if (k = 2 ∧ (c.get E.BOOKS_SHORT = 1 ∨ c.writeThrough)) ∨ (c.get E.SANITIZE_STATE = 1 ∧ (k = 2 ∨ k = 5 ∨ k = 6)) then 1000
  else bits (c.get (budgetBase r + k)) 9 0

/-- HR tokens the ledger holds on a resource in an inning (R54). -/
def Chip.ledgerSum (c : Chip) (r : Res) (inning : Nat) : Nat :=
  sumOf ((c.um.ledger.filter fun i => decide (i.res = r ∧ i.inning = inning)).map LedgerItem.tokens)

def isPort : Res → Bool
  | .portOut _ => true
  | .portIn _ => true
  | .rally => true
  | _ => false

/-- The die tokens of an operation of a die that is queued or runs: its worst case (R51), less what it has run. -/
def Chip.opLeft (c : Chip) (d : Die) (o : Op) : Nat :=
  let planes := max 1 d.planes
  let ran := if o.confirmed then cdiv ((c.now - o.issueT) * psPerCyc) 500000 else 0
  match o.kind with
  | .read => o.senses * cdiv (c.tSense o.qlc) 500000 - ran
  | .program => 2 * (c.get E.TIMEOUT_PROGRAM) - ran
  | .erase => (2 * (c.get E.TIMEOUT_ERASE) - ran) * planes

/-- The codewords of a class still to be read on a channel. -/
def Chip.tasksOn (c : Chip) (k : Nat) (p : Task → Bool) : Nat :=
  (c.rd.tasks.filter fun t => t.word.isNone && decide (t.cls = k) && p t).length

/-- The channel of a map entry's member. -/
def Chip.chanAt (c : Chip) (e : Nat) : Option Nat :=
  ((c.sbOf (entrySb e)).bind fun s => s.members[slotMember (entrySlot e)]?).map fun m => chanOf m.lun

/-- The superblock that has gone longest without patrol, of those that are patrolled (R247). -/
def Chip.patrolDue (c : Chip) : Option Sb :=
  (c.sb.sbs.filter fun s => s.state == .closed && !c.sb.foldQ.contains s.idx && !c.sb.victims.contains s.idx && !s.exposed).foldl
    (fun (o : Option Sb) s => match o with
      | some b => if s.patrolT < b.patrolT then some s else some b
      | none => some s) none

/-- The pages that the engine of a background class still has to read, by their place (R52): what Recast folds, collects or rebuilds of exposed
superblocks, what relocation and the reallocation queue move, the victims, the fold queue, the Assayer's next row, and what is left of
a self-test. -/
def Chip.queuedPages (c : Chip) (k : Nat) : List Nat :=
  let units := fun (s : Sb) => ((c.validUnits s).filter fun p => !c.isLost p.unit && !(c.sb.held.any fun x => decide (x.unit = p.unit))).map
    fun p => s.idx * 2 ^ 20 + p.slot
  let of := fun (p : Sb → Bool) => (c.sb.sbs.filter p).flatMap units
  let out := fun (m : Member) => decide (c.reported (mkUnit kLUN m.lun) = 4)
  let rows := fun (s : Sb) => (List.range s.rows).flatMap fun row =>
    ((List.range s.members.length).filter fun m => !((s.members[m]?).any out)).map fun m => mkEntry s.idx row m
  let whole := fun (s : Sb) => decide (s.kind ≠ .host ∧ s.state = .closed ∧ (s.members.filter out).length ≤ if s.p2 then 2 else 1)
  let waiting := (c.sb.moveQ.filter fun q => decide (q.2.2.1 = k)).map fun q => q.2.1
  let due := fun (s : Sb) => s.firstMark || s.marked.isSome || decide (10 ^ 9 ≤ s.stress)
  waiting ++ match k with
  | 3 => of (fun s => s.exposed && !whole s) ++ (c.sb.sbs.filter fun s => s.exposed && whole s).flatMap rows
  | 4 => (c.sb.realloc.filter fun q => !(c.sb.held.any fun x => decide (x.unit = q.1))).map (fun q => q.2.1)
      ++ of (fun s => s.state == .relocating || (s.state == .closed && s.qlc && !s.exposed && due s))
  | 5 => of fun s => (s.state == .collecting && !s.inWork) || (s.state == .closed && c.sb.victims.contains s.idx)
  | 6 => of fun s => !s.exposed && (s.state == .folding || (s.state == .closed && c.sb.foldQ.contains s.idx))
  | 7 => if c.get E.PATROL_ENABLE = 0 then [] else match c.patrolDue with
    | some s => (List.range s.members.length).map fun m => mkEntry s.idx s.patrolRow m
    | none => []
  | 8 => c.lg.stLeft.map Prod.snd
  | _ => []

/-- Die tokens of the senses of some pages that lie on a die. -/
def Chip.senseDemand (c : Chip) (lun : Nat) (l : List Nat) : Nat :=
  sumOf ((l.filter fun e => decide (c.lunOf e = some lun)).map fun e => cdiv (c.tSense (((c.sbOf (entrySb e)).map Sb.qlc).getD true)) 500000)

/-- The work that a class has queued on a budget, in tokens (R52): operations on dies with the blocks waiting for an erase
intent, codewords to be transferred and decoded, pages to be programmed, and the pages that its engine still has to read. -/
def Chip.demand (c : Chip) (r : Res) (k : Nat) : Nat :=
  match r with
  | .die lun => match c.dieOf lun with
    | none => 0
    | some d => sumOf ((d.ops.filter fun o => decide (o.cls = k)).map (c.opLeft d))
        + c.senseDemand lun (c.queuedPages k)
        + (if k = 1 then (c.md.intents.filter fun i => !i.written && decide (i.lun = lun)).length * (2 * c.get E.TIMEOUT_ERASE * max 1 d.planes) else 0)
  | .chan ch =>
    let cw := cdiv (c.cwPs ch) 125000
    let progs := sumOf ((c.md.dies.filter fun d => decide (chanOf d.lun = ch)).map fun d =>
      (d.ops.filter fun o => o.kind == .program && !o.confirmed && decide (o.cls = k)).length)
    c.tasksOn k (fun t => c.chanAt t.entry == some ch) * cw + progs * 4 * cw
      + ((c.queuedPages k).filter fun e => decide (c.chanAt e = some ch)).length * 4 * cw
  | .hard q => c.tasksOn k (fun t => decide (t.step ≠ 3 ∧ t.quad = q))
      + 4 * ((c.queuedPages k).filter fun e => decide ((c.chanAt e).map (· / 8) = some q)).length
  | .soft q => c.tasksOn k (fun t => decide (t.step = 3 ∧ t.quad = q)) * 10
  | _ => 0

/-- The allocation of one budget (R52): guarantees, then donation, both in the donation order. -/
def allocate (cap committed : Nat) (guar ceil demand : List Nat) : List Nat × Nat :=
  let g := (List.range 9).foldl (fun (a : List Nat × Nat) k =>
    let want := if k = 0 then max (nth guar 0) committed else min (nth guar k) (nth demand k)
    let x := min want a.2
    (a.1 ++ [x], a.2 - x)) ([], cap)
  (List.range 9).foldl (fun (a : List Nat × Nat) k =>
    let cur := nth a.1 k
    let extra := min a.2 (min (nth ceil k - cur) (nth demand k - cur))
    (a.1.set k (cur + extra), a.2 - extra)) g

/-- The budget of a resource for an inning (R51, R52): the debt of each class joins its demand, and
is met from its allocation. A supply hold keeps the capacity that commitments made before the
fall need (R56). -/
def Chip.newBudget (c : Chip) (r : Res) (inning : Nat) : Budget :=
  let full := c.fullCap r inning
  let committed := c.ledgerSum r inning
  let scaled := full * c.supply / 1000
  let cap := if c.nowPs < c.get E.SUPPLY_HOLD_UNTIL * psPerCyc then max scaled (min full committed) else scaled
  let old := match c.um.budgets.find? fun b => decide (b.res = r) with
    | some b => b.debt
    | none => []
  let demand := (List.range 9).map fun k => c.demand r k + nth old k
  let guar := (List.range 9).map fun k => full * c.guarantee r k / 1000
  let ceil := (List.range 9).map fun k => full * c.ceiling r k / 1000
  let a := allocate cap committed guar ceil (demand.set 0 (max (nth demand 0) committed))
  let paid := (List.range 9).map fun k => min (nth old k) (nth a.1 k)
  { res := r, cap := cap, alloc := a.1, used := paid,
    debt := (List.range 9).map fun k => nth old k - nth paid k, pool := a.2 }

/-- What a new placement may still take of a resource in an inning (R54): the HR ceiling of the
capacity at the effective supply, less what stands in the ledger; until a refill has landed, no
more than the smaller of what the old inning leaves and the new allocation (R55). -/
def Chip.room (c : Chip) (r : Res) (inning : Nat) : Nat :=
  let cap := if isPort r then 1000 else c.fullCap r inning * c.supply / 1000 * c.ceiling r 0 / 1000
  let lim := if inning = c.inning ∧ c.um.inning < inning ∧ !isPort r then
      match c.um.budgets.find? fun b => decide (b.res = r) with
      | some b => min cap (min (nth b.alloc 0 - nth b.used 0) (nth (c.newBudget r inning).alloc 0))
      | none => cap
    else cap
  lim - c.ledgerSum r inning

/-- The innings a placement may use: from the present one, over the ledger's 64, ending no later
than the due time; 0 stands for no due time (R46, R54). -/
def Chip.innings (c : Chip) (duePs : Nat) : List Nat :=
  ((List.range (c.get E.LEDGER_INNINGS)).map (c.inning + ·)).filter fun i =>
    decide (duePs = 0) || decide ((i + 1) * psPerInning ≤ duePs)

/-- Tokens placed first fit, earliest inning first (log entry 12); none where they do not fit. -/
def Chip.placeOne (c : Chip) (h : Nat) (r : Res) (tokens : Nat) (innings : List Nat) : Option (List LedgerItem) :=
  let p := innings.foldl (fun (a : Nat × List LedgerItem) i =>
    let t := min a.1 (c.room r i)
    if t = 0 then a else (a.1 - t, a.2 ++ [{ h := h, res := r, inning := i, tokens := t }])) (tokens, [])
  if p.1 = 0 then some p.2 else none

/-- All of a command's tokens placed, or none (R46). -/
def Chip.placeAll (c : Chip) (h : Nat) (need : List (Res × Nat)) (duePs : Nat) : Option (List LedgerItem) :=
  (need.foldl (fun (a : Option Chip × List LedgerItem) n =>
    match a.1 with
    | none => a
    | some k => match k.placeOne h n.1 n.2 (k.innings duePs) with
      | none => (none, [])
      | some l => (some { k with um := { k.um with ledger := k.um.ledger ++ l } }, a.2 ++ l))
    (some c, [])) |> fun a => a.1.map fun _ => a.2

/-! ### What a command needs of the media -/

/-- One unit a read touches on flash: unit, map entry, die, plane, mode, codewords wanted, and the quadrant to which admission has
routed them (R209), and the position in the stripe. -/
structure Touch where
  unit : Nat
  entry : Nat
  lun : Nat
  plane : Nat
  qlc : Bool
  cws : Nat
  quad : Option Nat
  pos : Nat
  deriving DecidableEq, Repr

/-- Where the map places a unit; none where it has no flash data. -/
def Chip.touchOf (c : Chip) (unit cws : Nat) : Option Touch :=
  let e := c.mapOf unit
  if onFlash e then
    (c.sbOf (entrySb e)).bind fun s =>
      (s.members[slotMember (entrySlot e)]?).map fun m =>
        { unit := unit, entry := e, lun := m.lun,
          plane := slotPage (entrySlot e) % max 1 c.md.planes, qlc := s.qlc, cws := cws, quad := none,
          pos := slotMember (entrySlot e) }
  else none

/-- Earlier-due work on a resource (R43): of commands due at or before this one; plane 99 takes
every plane. -/
def Chip.earlier (c : Chip) (r : Res) (plane duePs : Nat) : Nat :=
  sumOf ((c.um.work.filter fun w => decide (w.res = r) && (decide (plane = 99) || decide (w.plane = plane))
    && (decide (duePs = 0) || (decide (w.duePs ≠ 0) && decide (w.duePs ≤ duePs)))).map WorkItem.amount)

/-- The suspend allowance of an operation (R188); 0 for NAND without a suspend command (R177). -/
def Chip.allowance (c : Chip) (lun : Nat) (k : OpKind) : Nat :=
  let ok := match c.md.tgts.find? fun x => decide (x.tgt = lun / 4) with
    | some x => x.suspend
    | none => false
  if ok then (if k = .erase then c.get E.SUSP_ALLOW_ERASE else c.get E.SUSP_ALLOW_PROGRAM) else 0

/-- Least run after a Resume (R189), in cycles. -/
def Chip.minResume (c : Chip) (k : OpKind) : Nat :=
  (if k = .erase then c.get E.MIN_RESUME_ERASE else c.get E.MIN_RESUME_PROGRAM) * cycPerUs

/-- An operation's timeout in cycles (R185). -/
def Chip.opTimeout (c : Chip) (k : OpKind) : Nat :=
  (match k with
   | .read => c.get E.TIMEOUT_READ
   | .program => c.get E.TIMEOUT_PROGRAM
   | .erase => c.get E.TIMEOUT_ERASE) * cycPerUs

/-- Execution progress of an operation in cycles (R189). -/
def Op.progress (o : Op) (now : Nat) : Nat :=
  if o.suspended then o.doneProg else o.doneProg + (now - o.resumeT)

/-- The erase or program a die is executing. -/
def Die.current (d : Die) : Option Op := d.ops.find? fun o => o.kind != .read && o.confirmed

/-- Die wait of a plane of a die (R43). -/
def Chip.dieWait (c : Chip) (lun plane duePs : Nat) : Ps :=
  match c.dieOf lun with
  | none => 0
  | some d =>
    let cur := match d.current with
      | none => 0
      | some o =>
        if o.suspended then 0
        else
          let resume := if o.suspends = 0 then 0 else c.minResume o.kind - (c.now - o.resumeT)
          let t := if o.suspends < o.allow then c.tSusp
            else (c.opTimeout o.kind - o.progress c.now) * psPerCyc
          resume * psPerCyc + t
    let others := sumOf ((d.ops.filter fun o => o.kind == .read && decide (o.cls ≠ 0) && decide (o.plane = plane)).map
      fun o => c.tSense o.qlc * o.senses - (c.now - o.issueT) * psPerCyc)
    cur + others + c.earlier (.die lun) plane duePs

/-- The die wait of a die counts an erase or program with no suspend left (R42 cause 0x02). -/
def Chip.spent (c : Chip) (lun : Nat) : Bool :=
  match (c.dieOf lun).bind Die.current with
  | none => false
  | some o => !o.suspended && decide (o.allow ≤ o.suspends)

/-- Decode times of a hard and of a soft engine, in ps (R208). -/
abbrev hardPs : Ps := 920000
abbrev softPs : Ps := 4610000

/-- The quadrant whose hard engines decode a touch: that of its route, or of its channel (R209). -/
def Chip.hardQuad (c : Chip) (t : Touch) : Option Nat :=
  match t.quad with
  | some q => some q
  | none => c.decodeQuad (chanOf t.lun) true

/-- LDPC wait of a touch's codewords (R43, R209). -/

def Chip.ldpcWait (c : Chip) (t : Touch) (duePs : Nat) : Ps :=
  let ch := chanOf t.lun
  match c.hardQuad t with
  | some q => cdiv (c.earlier (.hard q) 99 duePs) (c.hardOnline q) * hardPs
      + (if q = ch / 8 then 0 else c.get E.ROUTE_TIME * 1000)
  | none => match c.decodeQuad ch false with
    | some q => cdiv (c.earlier (.soft q) 99 duePs) (c.softOnline q) * softPs
    | none => 0

/-- Decode time of one codeword of a channel: hard, or soft where no hard engine is left. -/
def Chip.decodePs (c : Chip) (ch : Nat) : Ps := if (c.decodeQuad ch true).isSome then hardPs else softPs

/-- The parts of a die path after the die wait (R43): sense times of this command's units on the
plane, bus wait, transfer, LDPC wait and decode of this command's codewords on the die. -/
def Chip.afterWait (c : Chip) (t : Touch) (all : List Touch) (duePs : Nat) : Ps :=
  let mine := all.filter fun x => decide (x.lun = t.lun)
  let n := (mine.filter fun x => decide (x.plane = t.plane)).length
  let cws := sumOf (mine.map Touch.cws)
  let ch := chanOf t.lun
  n * c.tSense t.qlc + c.earlier (.chan ch) 99 duePs * c.cwPs ch + cws * c.cwPs ch
    + c.ldpcWait t duePs + cws * c.decodePs ch

def Chip.diePath (c : Chip) (t : Touch) (all : List Touch) (duePs : Nat) : Ps :=
  c.dieWait t.lun t.plane duePs + c.afterWait t all duePs

def Chip.retryCost (c : Chip) (t : Touch) (all : List Touch) (duePs : Nat) : Ps :=
  c.tSusp + c.afterWait t all duePs

/-- RECOVERY_ALLOW of a class (R44); class 3 may make the ladder's seven. -/
def Chip.allow (c : Chip) (cls : Nat) : Nat :=
  if 3 ≤ cls then 7 else bits (c.get E.RECOVERY_ALLOW) (4 * cls + 3) (4 * cls)

/-- The promised time of a class in ps (R33); 0 for class 3. -/
def Chip.classPs (c : Chip) (cls : Nat) : Ps :=
  (if cls = 0 then c.get E.CLASS0_TIME else if cls = 1 then c.get E.CLASS1_TIME
   else if cls = 2 then c.get E.CLASS2_TIME else 0) * 1000000

/-- A command's due time: its promised time after fetch, extended by host and peer time (R36, R37);
0 where it has no promise. -/
def Cmd.duePs (x : Cmd) : Nat :=
  if x.promisePs = 0 then 0 else x.fetchT * psPerCyc + x.promisePs + x.extraPs

/-- Die tokens of a sense (R51, R178): 0.5 µs of one plane each, on every plane where the NAND
does not read planes independently. -/
def Chip.senseTokens (c : Chip) (lun : Nat) (ps : Nat) : Nat :=
  let ind := match c.md.tgts.find? fun x => decide (x.tgt = lun / 4) with
    | some x => x.independent
    | none => false
  cdiv ps 500000 * (if ind then 1 else max 1 c.md.planes)

/-- The HR tokens of a hard read of touches, each made n times (R51). -/
def Chip.readTokens (c : Chip) (ts : List Touch) (n : Nat) : List (Res × Nat) :=
  ts.flatMap fun t =>
    let ch := chanOf t.lun
    [(.die t.lun, n * c.senseTokens t.lun (c.tSense t.qlc)),
     (.chan ch, n * t.cws * cdiv (c.cwPs ch) 125000),
     match c.hardQuad t with
      | some q => (.hard q, n * t.cws)
      | none => (.soft ((c.decodeQuad ch false).getD 0), n * t.cws * 10)]

/-- The work a command adds on each resource (R43). -/
def Chip.readWork (c : Chip) (h duePs : Nat) (ts : List Touch) : List WorkItem :=
  ts.flatMap fun t =>
    let ch := chanOf t.lun
    [{ h := h, res := .die t.lun, plane := t.plane, duePs := duePs, amount := c.tSense t.qlc },
     { h := h, res := .chan ch, plane := 0, duePs := duePs, amount := t.cws },
     { h := h, res := match c.hardQuad t with
         | some q => .hard q
         | none => .soft ((c.decodeQuad ch false).getD 0), plane := 0, duePs := duePs, amount := t.cws }]

/-- Quadrants with ONLINE hard engines, a channel's own first and the others in the order of R209. -/
def Chip.hardQuads (c : Chip) (ch : Nat) : List Nat :=
  ((List.range c.quads).map fun k => (ch / 8 + k) % c.quads).filter fun q => decide (0 < c.hardOnline q)

/-- With LDPC_ROUTE_ENABLE, touches whose hard decodes, each made n times, find no tokens in their quadrant before the due time are
routed to the next quadrant in which they do (R209). -/
def Chip.reroute (c : Chip) (h duePs n : Nat) (ts : List Touch) : List Touch :=
  if c.get E.LDPC_ROUTE_ENABLE = 0 then ts
  else ts.map fun t =>
    let l := c.hardQuads (chanOf t.lun)
    let cws := sumOf ((ts.filter fun x => decide (c.hardQuad x = c.hardQuad t)).map Touch.cws)
    match l.find? fun q => (c.placeOne h (.hard q) (n * cws) (c.innings duePs)).isSome with
    | some q => if l.head? = some q then t else { t with quad := some q }
    | none => t

/-- Picoseconds of work on a resource. -/
def Chip.workPs (c : Chip) (w : WorkItem) : Ps :=
  match w.res with
  | .die _ => w.amount
  | .chan ch => w.amount * c.cwPs ch
  | .hard _ => w.amount * hardPs
  | .soft _ => w.amount * softPs
  | .portOut p => octetsPs (c.portRate p) w.amount
  | .portIn p => octetsPs (c.portRate p) w.amount
  | .rally => octetsPs (rallyRate c.pr.lanes) w.amount

/-- The slack test (R46). A class 3 command has no due time: every command that has one is later due than it (DESIGN
CHOICE, log entry 41). On every resource used, the work does not exceed the least slack of the
commands admitted with a later due time. -/
def Chip.slackOk (c : Chip) (duePs : Nat) (ws : List WorkItem) : Bool :=
  ws.all fun w =>
    let mine := sumOf ((ws.filter fun v => decide (v.res = w.res)).map c.workPs)
    (c.um.work.filter fun v => decide (v.res = w.res) && decide (v.duePs ≠ 0) && (decide (duePs = 0) || decide (duePs < v.duePs))).all
      fun v => match c.cmd v.h with
        | none => true
        | some x => decide (mine + x.boundPs ≤ x.promisePs + x.extraPs)

/-! ### Stripe members and read-around (R48, R49, R235, R245) -/

/-- The patch entry of a row in force. -/
def Sb.patchOf (s : Sb) (row : Nat) : Option Patch := (s.patches.filter fun p => decide (p.row = row)).getLast?

/-- A member position is void in a row (R243, R245). -/
def Sb.isVoid (s : Sb) (row m : Nat) : Bool := ((s.patchOf row).map fun p => p.voids.contains m).getD false

/-- Where the page of a member position of a row stands: relocated parity on its patch page, everything else on the member
(R233, R243, R245). -/
def Sb.pageAt (s : Sb) (row k : Nat) : Nat :=
  let own := mkEntry s.idx row k
  match s.patchOf row with
  | none => own
  | some p =>
    if k = (s.idx + row) % 32 then p.pReloc.getD own
    else if s.p2 ∧ k = (s.idx + row + 1) % 32 then p.qReloc.getD own
    else own

/-- The unit placed at a member position of a row. -/
def Sb.unitAt (s : Sb) (row m : Nat) : Option Nat :=
  (s.placed.find? fun p => decide (p.slot = row * 32 + m)).map Placed.unit

/-- A member cannot be read: the die of its page, for relocated parity that of its patch page, is FENCED, RETIRED or ABSENT, or its unit is
lost (R48, R245). A member whose page failed without a free patch place counts so too (R246). -/
def Chip.unreadable (c : Chip) (s : Sb) (row m : Nat) : Bool :=
  match c.lunOf (s.pageAt row m) with
  | none => true
  | some l => !c.usable (mkUnit kLUN l) || ((s.unitAt row m).map c.isLost).getD false || s.spoilt.contains (row, m)

/-- The tolerance of a layout (R235). -/
def tolerance (p2 : Bool) : Nat := if p2 then 2 else 1

/-- A stripe row that is open, with its parity still in an SRAM accumulator (R48, R240). -/
def Chip.openRowOf (c : Chip) (s : Sb) (row : Nat) : Option Row :=
  c.sb.rows.find? fun r => decide (r.sb = s.idx ∧ r.row = row) && !r.parityIssued

/-- A page of a member replacement that is already safe: its die and block (R252). -/
def Chip.safeRepl (c : Chip) (s : Sb) (row m : Nat) : Option Repl :=
  c.sb.repls.find? fun r => decide (r.sb = s.idx ∧ r.pos = m ∧ row < r.row) && c.usable (mkUnit kLUN r.lun)

/-- The other members of a row that are not void, with the ones that cannot be read apart. Of an open stripe they are the
members already programmed: the accumulator stands for its parity (R48). For Recast a page of a replacement that is safe counts as
readable (R252). -/
def Chip.others (c : Chip) (recast : Bool) (s : Sb) (row m : Nat) : List Nat × List Nat :=
  let l := (List.range 32).filter fun k => decide (k ≠ m) && !s.isVoid row k && match c.openRowOf s row with
    | some r => r.passed.contains k && !(parityPos s.idx row s.p2).contains k
    | none => true
  let out := fun (k : Nat) => c.unreadable s row k && !(recast && (c.safeRepl s row k).isSome)
  (l.filter fun k => !out k, l.filter out)

/-- The die and the block of a member's page of a row, for Recast those of its replacement where the page there is safe (R252). -/
def Chip.placeAt (c : Chip) (recast : Bool) (s : Sb) (row m : Nat) : Option (Nat × Nat) :=
  match (if recast then c.safeRepl s row m else none) with
  | some r => some (r.lun, r.block)
  | none =>
    let e := s.pageAt row m
    (c.sbOf (entrySb e)).bind fun q => (q.members[slotMember (entrySlot e)]?).map fun x => (x.lun, x.block)

/-- The touches of the members that a read-around of one touch reads (R48): all others under P1;
under P2 all but the unreadable one, or else all but the one with the largest die path, the
lowest position on a tie. None where too many are unreadable. -/
def Chip.raMembersOf (c : Chip) (recast : Bool) (t : Touch) (duePs : Nat) : Option (List Touch) :=
  match c.sbOf (entrySb t.entry) with
  | none => none
  | some s =>
    let row := slotPage (entrySlot t.entry)
    let om := c.others recast s row t.pos
    let mk := fun k => { t with lun := ((c.placeAt recast s row k).map Prod.fst).getD 0, entry := s.pageAt row k, quad := none, pos := k }
    let ts := om.1.map mk
    if tolerance s.p2 < om.2.length + 1 then none
    else if s.p2 ∧ om.2 = [] then
      let worst := maxOf (ts.map fun x => c.diePath x [x] duePs)
      match ts.findIdx? fun x => decide (c.diePath x [x] duePs = worst) with
      | some i => some (ts.eraseIdx i)
      | none => some ts
    else some ts

def Chip.raMembers (c : Chip) (t : Touch) (duePs : Nat) : Option (List Touch) := c.raMembersOf false t duePs

/-! ### Locks (R43, R85 to R88) -/

/-- Two runs of units of one namespace overlap. -/
def Lock.overlaps (l : Lock) (nsid first last : Nat) : Bool :=
  decide (l.nsid = nsid) && decide (l.first ≤ last) && decide (first ≤ l.last)

/-- The release moment of a holder (R43). -/
def Chip.releasePs (c : Chip) (l : Lock) : Nat :=
  match c.cmd l.h with
  | none => c.nowPs
  | some x =>
    if l.excl then (if x.promisePs = 0 then x.fetchT * psPerCyc + x.boundPs else x.duePs)
    else if x.resolved then x.resolvedPs
    else x.admitT * psPerCyc + c.get E.RESOLVE_BOUND * 1000

/-- The lock term of a command for one run of units (R43). -/
def Chip.lockTerm (c : Chip) (fetchT nsid first last : Nat) (excl : Bool) : Ps :=
  maxOf (((c.lk.held ++ c.lk.main).filter fun l => l.overlaps nsid first last && (excl || l.excl)).map c.releasePs)
    - fetchT * psPerCyc

/-! ### The terms of the pair -/

/-- The pair mirrors writes: SYNCED or RESYNC (R343), and in DIVERGED those of granules that are not diverged (R353). -/
def Chip.mirrors (c : Chip) : Bool := let s := c.get E.PAIR_STATE; s == 0 || s == 2 || s == 3

/-- The mirror term of a mirrored command (R43, R60, R344): the mirror bound in SYNCED and RESYNC; in write-through mode in
SOLO and DIVERGED the program of a new mark or unconfirmed entry. -/
def Chip.mirrorTerm (c : Chip) (octets duePs : Nat) (newMark : Bool) : Ps :=
  if c.get E.PAIR_STATE = 0 ∨ c.get E.PAIR_STATE = 2 then
    octetsPs (rallyRate c.pr.lanes) (c.earlier .rally 99 duePs + octets) + c.get E.MIRROR_ACK_BOUND * 1000
  else if (c.get E.PAIR_STATE = 1 ∨ c.get E.PAIR_STATE = 3) ∧ c.writeThrough ∧ newMark then c.tProg
  else 0

/-! ### Charges (R51, R53, R54) -/

/-- What a class that needs tokens takes of one lender after another, the last in donation order first (DESIGN CHOICE, log
entry 42): the lenders' allocations with what was taken, and what is still wanted (R53). -/
def borrow (k : Nat) (used : List Nat) (alloc : List Nat) (want : Nat) : List Nat × Nat :=
  (List.range 9).reverse.foldl (fun (a : List Nat × Nat) j =>
    let x := if j = k then 0 else min a.2 (nth a.1 j - nth used j)
    (a.1.set j (nth a.1 j - x), a.2 - x)) (alloc, want)

/-- Tokens that a class can still draw in the inning, within its ceiling (R53). -/
def Budget.left (b : Budget) (k ceil : Nat) : Nat :=
  let others := sumOf ((List.range 9).map fun j => if j = k then 0 else nth b.alloc j - nth b.used j)
  min (nth b.alloc k - nth b.used k + b.pool + others) (ceil - nth b.used k)

/-- An operation's charge on a budget (R51, R53): its class's own allocation, then the pool, then what other classes have not
consumed, which leaves their allocations, each within the class's ceiling; the rest is a debt. -/
def Budget.charge (b : Budget) (k tokens ceil : Nat) : Budget :=
  let u0 := nth b.used k
  let own := min tokens (min (nth b.alloc k - u0) (ceil - u0))
  let pool := min (tokens - own) (min b.pool (ceil - (u0 + own)))
  let want := min (tokens - own - pool) (ceil - (u0 + own + pool))
  let r := borrow k b.used b.alloc want
  let lent := want - r.2
  { b with alloc := r.1.set k (nth r.1 k + pool + lent), used := b.used.set k (u0 + own + pool + lent), pool := b.pool - pool,
           debt := b.debt.set k (nth b.debt k + (tokens - own - pool - lent)) }

def Chip.ceilingOf (c : Chip) (r : Res) (k : Nat) : Nat := c.fullCap r c.inning * c.ceiling r k / 1000

def Chip.chargeRes (c : Chip) (r : Res) (k tokens : Nat) : Chip :=
  let f := fun (b : Budget) => b.charge k tokens (c.ceilingOf r k)
  { c with um := { c.um with budgets := change (fun b => decide (b.res = r)) f c.um.budgets } }

/-- A class has tokens to draw on a budget: HR always goes on, by the ledger, and so does everything before the first inning
(R53, R54). -/
def Chip.mayDraw (c : Chip) (r : Res) (k : Nat) : Bool :=
  decide (k = 0) || match c.um.budgets.find? fun b => decide (b.res = r) with
    | some b => decide (0 < b.left k (c.ceilingOf r k))
    | none => true

/-- A class has tokens of its own left on a budget. -/
def Chip.ownsLeft (c : Chip) (r : Res) (k : Nat) : Bool :=
  match c.um.budgets.find? fun b => decide (b.res = r) with
  | some b => decide (nth b.used k < nth b.alloc k)
  | none => false

/-- The background classes that may draw on a budget, in the order in which they are served when they wait together: those
with tokens of their own first, each group in donation order (R53). -/
def Chip.classOrder (c : Chip) (r : Res) : List Nat :=
  let l := (List.range 9).filter fun k => decide (k ≠ 0) && c.mayDraw r k
  (l.filter fun k => c.ownsLeft r k) ++ l.filter fun k => !c.ownsLeft r k

/-- Tokens of a command on a resource are consumed, the earliest inning's first (R54). -/
def Chip.consume (c : Chip) (h : Nat) (r : Res) (tokens : Nat) : Chip :=
  let mine := (c.um.ledger.filter fun i => decide (i.h = h ∧ i.res = r)).mergeSort fun a b => decide (a.inning ≤ b.inning)
  let l := mine.foldl (fun (a : Nat × List LedgerItem) i =>
    let x := min a.1 i.tokens
    (a.1 - x, a.2 ++ (if x < i.tokens then [{ i with tokens := i.tokens - x }] else []))) (tokens, [])
  let all := drop' (fun (i : LedgerItem) => decide (i.h = h ∧ i.res = r)) c.um.ledger ++ l.2
  { c with um := { c.um with ledger := all } }

/-- Tokens returned or consumed when a command's work on a resource ends (R46, R54). -/
def Chip.releaseWork (c : Chip) (h : Nat) : Chip :=
  { c with um := { c.um with
      ledger := drop' (fun i => decide (i.h = h)) c.um.ledger,
      work := drop' (fun w => decide (w.h = h)) c.um.work,
      raInflight := c.um.raInflight.erase h } }

end Sys2Proof.Machine
end

