-- ==== Sys2Proof/Machine/Commands.lean ====
section
/-! DEFINITION. The life of a command: its fields, status codes, completion and posting, range
locks, asynchronous events and what a reset does to it (R36 to R42, R78, R79, R85 to R92). A
status holds the status code in [7:0], its type in [10:8] and DNR in [14]. The code of a name that
the manual does not number is that of NVM Express (log entry 14). -/
namespace Sys2Proof.Machine

abbrev stOk : Nat := 0
abbrev stInvalidOpcode : Nat := 0x01
abbrev stInvalidField : Nat := 0x02
abbrev stDataTransfer : Nat := 0x04
abbrev stPowerLoss : Nat := 0x05
abbrev stSqDeletion : Nat := 0x08
abbrev stInvalidNs : Nat := 0x0B
abbrev stSequence : Nat := 0x0C
abbrev stSanitizeFailed : Nat := 0x1C
abbrev stSanitizing : Nat := 0x1D
abbrev stLbaRange : Nat := 0x80
abbrev stCapacity : Nat := 0x81
abbrev stNsNotReady : Nat := 0x82
abbrev stFormatting : Nat := 0x84
abbrev stCqInvalid : Nat := 0x100
abbrev stInvalidQid : Nat := 0x101
abbrev stQueueSize : Nat := 0x102
abbrev stAerLimit : Nat := 0x105
abbrev stFwSlot : Nat := 0x106
abbrev stFwImage : Nat := 0x107
abbrev stInvalidVector : Nat := 0x108
abbrev stInvalidLog : Nat := 0x109
abbrev stInvalidFormat : Nat := 0x10A
abbrev stQueueDeletion : Nat := 0x10C
abbrev stFwMaxTime : Nat := 0x113
abbrev stFwProhibited : Nat := 0x113
abbrev stOverlap : Nat := 0x114
abbrev stNsCapacity : Nat := 0x115
abbrev stNsIdUnavailable : Nat := 0x116
abbrev stNsAttached : Nat := 0x118
abbrev stNsNotAttached : Nat := 0x11A
abbrev stCtrlList : Nat := 0x11C
abbrev stSelfTest : Nat := 0x11D
abbrev stCompare : Nat := 0x285
abbrev stRefused : Nat := 0x7C0
abbrev stExpired : Nat := 0x7C1
abbrev stKeyAbsent : Nat := 0x7C2
abbrev stPassFault : Nat := 0x7C3
abbrev stLost : Nat := 0x7C4
abbrev stDiverged : Nat := 0x7C5
/-- A status with DNR set. -/
abbrev dnr (s : Nat) : Nat := s + 0x4000

/-- Dword k of the submission entry. -/
def Cmd.dw (x : Cmd) (k : Nat) : Nat := nth x.sqe k

/-! ### Ending a command -/

/-- The place after the completions that wait to be posted (R78). -/
def Chip.nextOrder (c : Chip) : Nat := 1 + maxOf (c.cmds.map Cmd.order)

/-- The command has its status; its completion waits to be posted, or, where a reset discarded its
completion, the command is gone (R36, R91). Its work leaves the ledger and its credits return. -/
def Chip.finish (c : Chip) (h status dw0 dw1 : Nat) : Chip :=
  match c.cmd h with
  | none => c
  | some x =>
    let c1 := c.releaseWork h
    if x.silent ∨ x.posted then c1.dropCmd h
    else c1.setCmd { x with phase := .ended, status := status, dw0 := dw0, dw1 := dw1, credits := 0, order := c1.nextOrder }

/-- Completion with a status and no result. -/
abbrev Chip.fail (c : Chip) (h status : Nat) : Chip := c.finish h status 0 0

/-! ### Range locks (R85 to R89) -/

/-- Entry a comes before entry b of the main table (R88); the entry of a granule's owner counts as earlier than a write of
another origin, though not than a reader that was granted (R346). -/
def Lock.before (a b : Lock) : Bool :=
  if a.owner = b.owner then serialLt 20 a.seq b.seq else a.owner || (a.granted && !a.excl)

/-- Two entries conflict: exclusive with both modes (R87). -/
def Lock.conflicts (a b : Lock) : Bool :=
  (a.excl || b.excl) && a.overlaps b.nsid b.first b.last && decide (a.h ≠ b.h)

/-- An entry can be granted: no live conflicting entry comes before it; a holdover entry comes
before every main entry, and before the holdover entries after it in the list (R87, R88). -/
def Lk.grantable (k : Lk) (l : Lock) : Bool :=
  let inHeld := k.held.contains l
  let heldBefore := if inHeld then k.held.takeWhile (fun x => decide (x ≠ l)) else k.held
  !(heldBefore.any fun x => x.conflicts l) && (inHeld || !(k.main.any fun x => x.before l && x.conflicts l))

/-- All of a command's entries can be granted, or still could. -/
def Lk.ready (k : Lk) (h : Nat) : Bool :=
  ((k.held ++ k.main).filter fun l => decide (l.h = h)).all k.grantable

/-- Each of a command's entries that can be granted is (R87). -/
def Lk.grantAll (k : Lk) (h : Nat) : Lk :=
  let g := change (fun (l : Lock) => decide (l.h = h) && k.grantable l) (fun l => { l with granted := true })
  { main := g k.main, held := g k.held }

def Lk.release (k : Lk) (h : Nat) : Lk :=
  { main := drop' (fun l => decide (l.h = h)) k.main, held := drop' (fun l => decide (l.h = h)) k.held }

/-- Commands that wait on a range lock of one. -/
def Chip.waitersOn (c : Chip) (h : Nat) : List Nat :=
  let all := c.lk.held ++ c.lk.main
  let mine := all.filter fun l => decide (l.h = h)
  ((all.filter fun l => !l.granted && mine.any fun m => m.conflicts l).map Lock.h).eraseDups

/-- Time the host takes is added to the promised time of a command and of those that wait on its range lock (R37),
and is counted in ns; HOST_DELAY counts a delay once, whatever the number of commands that it is added to (R66; DESIGN CHOICE, log entry
69). -/
def Chip.hostTime (c : Chip) (h ps : Nat) : Chip :=
  if ps = 0 then c
  else
    (c.each (h :: c.waitersOn h) fun c k => match c.cmd k with
      | some x => c.setCmd { x with extraPs := x.extraPs + ps }
      | none => c).count E.HOST_DELAY (ps / 1000)

def Chip.unlock (c : Chip) (h : Nat) : Chip := { c with lk := c.lk.release h }

/-- Live entries (RL_LIVE): holdover entries count against the 65,536 (R88). -/
def Chip.liveLocks (c : Chip) : Nat := c.lk.main.length + c.lk.held.length

/-- A command's entries move to the holdover list when the next number would be 458,752 or more
ahead of theirs and the list has room for all of them (R88). -/
def Chip.moveHeld (c : Chip) : Chip :=
  let next := c.get E.RL_NEXT_SEQ
  let due := (c.lk.main.filter fun l => decide (458752 ≤ serialDist 20 l.seq next)).map Lock.h
  c.each due.eraseDups fun c h =>
    let ls := c.lk.main.filter fun l => decide (l.h = h)
    if c.lk.held.length + ls.length ≤ 1024 then
      { c with lk := { main := drop' (fun l => decide (l.h = h)) c.lk.main, held := c.lk.held ++ ls } }
    else c

/-- Numbers are withheld while a command that must move cannot (R88). -/
def Chip.seqHeld (c : Chip) : Bool :=
  let next := c.get E.RL_NEXT_SEQ
  c.lk.main.any fun l => decide (458752 ≤ serialDist 20 l.seq next)

/-- Entries for so many runs can be taken now (R88, R89). -/
def Chip.locksFree (c : Chip) (n : Nat) : Bool :=
  decide (c.liveLocks + n ≤ c.get E.RL_CAPACITY) && (n == 0 || !c.moveHeld.seqHeld)

/-- Taking a command's entries under the next sequence number (R85, R88); entries that cannot be
granted at once count in RL_WAITS, and RL_PEAK follows (R97). -/
def Chip.lockRunsOf (c : Chip) (h : Nat) (runs : List (Nat × Nat × Nat)) (excl owner : Bool) : Chip :=
  if runs = [] then c
  else
    let c0 := c.moveHeld
    let seq := c0.get E.RL_NEXT_SEQ
    let ls := runs.map fun r => ({ h := h, seq := seq, nsid := r.1, first := r.2.1, last := r.2.2,
                                   excl := excl, granted := false, owner := owner } : Lock)
    let k : Lk := { c0.lk with main := c0.lk.main ++ ls }
    let late := (ls.filter fun l => !k.grantable l).length
    let c1 := ({ c0 with lk := k.grantAll h }).set E.RL_NEXT_SEQ ((seq + 1) % 2 ^ 20)
    let c2 := if seq = max20 then c1.count E.RL_SEQ_EPOCH 1 else c1
    let c3 := c2.count E.RL_WAITS late
    c3.set E.RL_PEAK (max (c3.get E.RL_PEAK) c3.liveLocks)

/-- The entries of a command of this controller. -/
abbrev Chip.lockRuns (c : Chip) (h : Nat) (runs : List (Nat × Nat × Nat)) (excl : Bool) : Chip := c.lockRunsOf h runs excl false

/-- An entry that covers no units (R315, R317). -/
def noUnits (nsid : Nat) : Nat × Nat × Nat := (nsid, 2 ^ 64, 0)

/-- A command holds its locks: every entry is granted, or it has none. -/
def Chip.locked (c : Chip) (h : Nat) : Bool :=
  ((c.lk.held ++ c.lk.main).filter fun l => decide (l.h = h)).all Lock.granted

/-! ### Resolve and commit points -/

/-- The resolve point: the shared lock is released (R43, R87). -/
def Chip.resolve (c : Chip) (h : Nat) : Chip :=
  match c.cmd h with
  | none => c
  | some x => (c.setCmd { x with resolved := true, resolvedPs := c.nowPs }).unlock h

/-! ### Freeing Crucible slots and credits (R142, R144, R281) -/

/-- A slot of the partner's is free: it is granted again and reported back, unless the grant no longer fits half the Crucible
(R344). -/
def Chip.guestGone (c : Chip) : Chip :=
  if slotsOf c.ft.sizeMib / 2 < c.pr.grant then
    { c with pr := { c.pr with slotsIn := c.pr.slotsIn - 1, grant := c.pr.grant - 1 }, st := { c.st with dirty := c.st.dirty - 1 } }
  else { c with pr := { c.pr with slotsIn := c.pr.slotsIn - 1, slotsFreed := c.pr.slotsFreed + 1 } }

/-- A data slot is freed; a slot that was debited returns its energy credit (R281), and one
granted to the partner is reported back (R344). -/
def Chip.freeSlot (c : Chip) (id : Nat) : Chip :=
  match c.ft.slots.find? fun s => decide (s.id = id) with
  | none => c
  | some s =>
    let c1 := { c with ft := { c.ft with slots := drop' (fun s => decide (s.id = id)) c.ft.slots } }
    let c2 := if s.guest then c1.guestGone else c1
    if s.energy then { c2 with st := { c2.st with dirty := c2.st.dirty - 1 } } else c2

/-- The pending bit and the placeholder that a Put or Drop set go (R315). -/
def Chip.clearPending (c : Chip) (h : Nat) : Chip :=
  let clear := change (fun (p : Nat × SbEntry) => decide (p.2.pending = h)) fun p => (p.1, { p.2 with pending := 0 })
  let cells := clear c.book.cells
  let stash := clear c.book.stash
  let ph := drop' (fun (p : Nat × SbEntry) => decide (p.2.pending = h)) c.book.placeholders
  { c with book := { c.book with cells := cells, stash := stash, placeholders := ph } }

/-- A command that ends without effect gives back its uncommitted slots, its credits and the slots of the partner's grant; its
pending key is as it was, and its entries are released (R91, R141, R315, R344). -/
def Chip.giveBack (c : Chip) (h : Nat) : Chip :=
  let ids := (c.ft.slots.filter fun s => decide (s.h = h) && s.wseq.isNone).map Slot.id
  let c1 := c.each ids Chip.freeSlot
  let c2 := match c1.cmd h with
    | none => c1
    | some x => ({ c1 with st := { c1.st with dirty := c1.st.dirty - x.energy }, pr := { c1.pr with slotsOut := c1.pr.slotsOut - x.guests } }).setCmd
        { x with credits := 0, energy := 0, guests := 0, recs := [], slots := [] }
  let c3 := if h = 0 then c2 else c2.clearPending h
  (c3.unlock h).releaseWork h

/-! ### Posting (R36, R78, R79) -/

def Chip.sqOf (c : Chip) (port fn qid : Nat) : Option Sq :=
  c.qs.sqs.find? fun q => decide (q.port = port ∧ q.fn = fn ∧ q.qid = qid)

def Chip.cqOf (c : Chip) (port fn qid : Nat) : Option Cq :=
  c.qs.cqs.find? fun q => decide (q.port = port ∧ q.fn = fn ∧ q.qid = qid)

def Chip.setSq (c : Chip) (q : Sq) : Chip :=
  let l := upsert (fun r => decide (r.port = q.port ∧ r.fn = q.fn ∧ r.qid = q.qid)) q c.qs.sqs
  { c with qs := { c.qs with sqs := l } }

def Chip.setCq (c : Chip) (q : Cq) : Chip :=
  let l := upsert (fun r => decide (r.port = q.port ∧ r.fn = q.fn ∧ r.qid = q.qid)) q c.qs.cqs
  { c with qs := { c.qs with cqs := l } }

/-- The queue word of D1F10.01. -/
def qWord (port fn qid : Nat) : Nat := at' port 35 + at' fn 26 + qid

/-- The hot context of a queue is used: a hit moves it to the front of the cache; a miss loads it
and evicts the least recently used of 16,384 (R73). -/
def Chip.useContext (c : Chip) (port fn qid : Nat) : Chip :=
  let k := (fnItem port fn, qid)
  if c.qs.cache.contains k then
    let l := k :: c.qs.cache.erase k
    ({ c with qs := { c.qs with cache := l } }).count E.CTX_HITS 1
  else
    let l := (k :: c.qs.cache).take 16384
    ({ c with qs := { c.qs with cache := l } }).count E.CTX_MISSES 1

/-- A completion queue is full: its tail would meet its head. -/
def Cq.isFull (q : Cq) : Bool := decide ((q.tail + 1) % q.size = q.head % q.size)

/-- The port leaves L1, with CLKREQ# driven low (R121, R123). -/
def Chip.leaveL1 (c : Chip) (port : Nat) : Chip :=
  let p := c.portOf port
  if 4 ≤ p.link ∧ p.link ≤ 6 then
    c.setPort { p with link := if p.width < p.trained then 3 else 2, clkreq := true, idleSince := c.now }
  else c

/-- An MSI-X message of a vector; while the function or the vector is masked its pending bit is set instead, and without
MSI-X enabled there is none (R99, R109). -/
def Chip.message (c : Chip) (port fn vector : Nat) : Chip :=
  let f := c.fnOf port fn
  if !f.cfg.msix then c
  else if f.cfg.msixMask || f.cfg.vectors.any fun v => decide (v.vector = vector) && v.masked then
    c.setFn { f with pba := if f.pba.contains vector then f.pba else f.pba ++ [vector] }
  else c.emit (.msix port fn vector)

/-- Vectors that are pending and masked no more send their message. -/
def Chip.unmasked (c : Chip) (port fn : Nat) : Chip :=
  let f := c.fnOf port fn
  (c.setFn { f with pba := [] }).each f.pba fun c v => c.message port fn v

/-- The interrupt of a completion: an MSI-X message at once, or coalesced on its vector until more
than the threshold have gathered or the time ends (R79). -/
def Chip.interrupt (c : Chip) (port fn vector : Nat) (admin : Bool) : Chip :=
  let f := c.fnOf port fn
  if admin ∨ f.coalTime = 0 ∨ f.coalThr = 0 ∨ f.vecNoCoal.contains vector then c.message port fn vector
  else
    let k := match f.coal.find? fun p => decide (p.vector = vector) with
      | some p => { p with count := p.count + 1 }
      | none => { vector := vector, count := 1, since := c.now }
    if f.coalThr < k.count then
      (c.setFn { f with coal := drop' (fun p => decide (p.vector = vector)) f.coal }).message port fn vector
    else c.setFn { f with coal := upsert (fun p => decide (p.vector = vector)) k f.coal }

/-- An expiry or late completion is reported first in each second (R61). -/
def Chip.lateEvent (c : Chip) (cause step : Nat) : Chip := c.eventFirst 0x203 0 1 noUnit [cause, step]

/-- The cause of an expiry or a late completion: that of the trouble met, or OVERRUN (R39, R42). -/
def Cmd.expiry (x : Cmd) : Nat := if x.cause = 0 then 0x24 else x.cause

/-- A completion of class 2 after the promised time is late: it is counted, and, unless its expiry has been, reported (R39,
R61, R66). -/
def Chip.noteLate (c : Chip) (x : Cmd) : Chip :=
  if x.cls = 2 ∧ x.promisePs ≠ 0 ∧ x.duePs < c.nowPs then
    let c1 := c.count E.LATE 1
    if x.status = stExpired then c1 else c1.lateEvent x.expiry x.step
  else c

/-- A completion finds its queue full: the host's time begins (R37). -/
def Chip.stall (c : Chip) (h : Nat) : Chip :=
  match c.cmd h with
  | none => c
  | some x => if x.stallT.isSome then c else c.setCmd { x with stallT := some c.now }

/-- A completion queue has room again: the time for which completions waited on it is host time (R37). -/
def Chip.unstall (c : Chip) (port fn cq : Nat) : Chip :=
  let sqs := (c.qs.sqs.filter fun q => decide (q.port = port ∧ q.fn = fn ∧ q.cq = cq)).map Sq.qid
  c.each (c.cmds.filter fun x => decide (x.port = port ∧ x.fn = fn) && sqs.contains x.qid) fun c x => match x.stallT with
    | none => c
    | some t => (c.setCmd { x with stallT := none }).hostTime x.h ((c.now - t) * psPerCyc)

/-- The completion entry is written at the tail of its queue, the tail and phase advance, and the
interrupt follows (R36, R78, R111); a port in L1 leaves it for the entry (R121); the idle timers start anew (R400). An unsuccessful completion enters the Error Information log
(R466, log entry 22). -/
def Chip.post (c : Chip) (x : Cmd) : Chip :=
  match c.sqOf x.port x.fn x.qid with
  | none => c.dropCmd x.h
  | some s =>
    match c.cqOf x.port x.fn s.cq with
    | none => c.dropCmd x.h
    | some q =>
      if q.isFull then c.stall x.h
      else
        let wrap := decide (q.tail + 1 = q.size)
        let c1 := (((c.noteLate x).leaveL1 x.port).useContext x.port x.fn x.qid).emit
          (.cqe x.port x.fn q.qid x.qid x.cid s.head q.phase x.status x.dw0 x.dw1)
        let c2 := c1.setCq { q with tail := (q.tail + 1) % q.size, phase := if wrap then 1 - q.phase else q.phase }
        let refused := if x.status = stRefused then (s.refused + 1) % 2 ^ 40 else s.refused
        let c3 := c2.setSq { s with completed := (s.completed + 1) % 2 ^ 40, refused := refused }
        let n := c3.lg.errCount + 1
        let e : ErrRec := { count := n, sqid := x.qid, cid := x.cid, status := x.status,
                            lba := x.first, nsid := x.nsid }
        let l := (e :: c3.lg.errs).take 64
        let c4 := if x.status = 0 then c3
          else { c3 with lg := { c3.lg with errCount := n, errs := l } }
        let c5' := if q.ien then c4.interrupt x.port x.fn q.vector (decide (x.qid = 0)) else c4
        let c5a := { c5' with pm := { c5'.pm with idleT := c5'.now } }
        let c5 := c5a.setPort { c5a.portOf x.port with idleSince := c5a.now }
        c5.dropCmd x.h

/-! ### Asynchronous events (R74, R80) -/

/-- The Asynchronous Event Configuration lets an event through: bits 0 to 2 the SMART warnings, 8 to 11 the
notices (NVM Express, PRESUMED, log entry 14). -/
def Fn.wants (f : Fn) (type info : Nat) : Bool :=
  if type = 1 then decide (bit f.aeConfig (nth [2, 1, 0] info) = 1)
  else if type = 2 then decide (bit f.aeConfig (8 + info) = 1)
  else true

/-- An Asynchronous Event: the oldest outstanding request completes with it, or it waits. -/
def Chip.raiseAe (c : Chip) (port fn type info page : Nat) : Chip :=
  let f := c.fnOf port fn
  if !f.rdy ∨ f.aeMasked.contains (type * 256 + page) ∨ !f.wants type info then c
  else match f.aers with
    | [] => c.setFn { f with aesPending := f.aesPending ++ [(type, info, page)] }
    | h :: r => (c.setFn { f with aers := r, aeMasked := (type * 256 + page) :: f.aeMasked }).finish h stOk
        (type + at' info 8 + at' page 16) 0

/-- An Asynchronous Event on every ready function. -/
def Chip.raiseAeAll (c : Chip) (type info page : Nat) : Chip :=
  c.each (c.fns.filter Fn.rdy) fun c f => c.raiseAe f.port f.fn type info page

/-! ### Ending commands by queue deletion and reset (R91) -/

/-- A write-type opcode (R84, R315). -/
def Cmd.writeType (x : Cmd) : Bool :=
  !x.admin && (x.opcode == 0x01 || x.opcode == 0x08 || x.opcode == 0x09 || x.opcode == 0x85 || x.opcode == 0x89)

/-- The command has reached its commit point. -/
def Cmd.committed (x : Cmd) : Bool := decide (x.phase = .committed ∨ x.phase = .ended ∨ x.phase = .inside)

/-- Read tasks, pins and window use of a stopped command end; media operations already issued run
on and their results are discarded (R91). -/
def Chip.dropTasks (c : Chip) (h : Nat) : Chip :=
  { c with rd := { c.rd with tasks := drop' (fun t => decide (t.h = h)) c.rd.tasks,
                             pins := drop' (fun p => decide (p.1 = h)) c.rd.pins },
           wins := c.wins.map fun w => { w with users := w.users.erase h, reading := w.reading.erase h } }

/-- Class 0 to 2 commands that await their decision, which step 3 of an activation without reset gives (R93). -/
def Chip.fwaDeciding (c : Chip) : Bool :=
  c.cmds.any fun x => !x.admin && decide (x.cls < 3) && decide (x.phase = .fetched ∨ x.phase = .waiting)

/-- Step 4 of an activation without reset starts once they are decided (R93). -/
def Chip.fwaDrains (c : Chip) : Chip :=
  if c.fw.fwaH.isSome ∧ c.fw.fwaT.isNone ∧ !c.fwaDeciding then { c with fw := { c.fw with fwaT := some c.now } } else c

/-- Every queue of a function goes with its turns in arbitration, and its reservation returns to the pool (R71, R75, R91). -/
def Chip.dropQueues (c : Chip) (port fn : Nat) : Chip :=
  let f := c.fnOf port fn
  let c := c.each (c.qs.sqs.filter fun q => decide (q.port = port ∧ q.fn = fn)) fun c q => c.setAt E.QB_CLASS (qWord port fn q.qid) 4
  ({ c with qs := { c.qs with
      sqs := drop' (fun q => decide (q.port = port ∧ q.fn = fn)) c.qs.sqs,
      cqs := drop' (fun q => decide (q.port = port ∧ q.fn = fn)) c.qs.cqs,
      arb := c.qs.arb.mapIdx fun p (a : Arb) => if p = port then { a with rounds := drop' (fun r => decide (r.1 = fn)) a.rounds } else a,
      cache := drop' (fun k => decide (k.1 = fnItem port fn)) c.qs.cache } }).setFn
    { f with granted := 0, ioCreated := false, coal := [], shadow := false }

/-- The controller memory buffer of a function is released (R110). -/
def Chip.releaseCmb (c : Chip) (port fn : Nat) : Chip :=
  let f := c.fnOf port fn
  if f.cmse then
    let c1 := c.setFn { f with cmse := false, cmbOct := 0 }
    ({ c1 with ft := { c1.ft with cmbMib := c1.ft.cmbMib - f.cmbOct } }).set E.CMB_RESERVED (c1.ft.cmbMib - f.cmbOct)
  else c

end Sys2Proof.Machine
end

