-- ==== Sys2Proof/Machine/Codeword.lean ====
section
/-! DEFINITION. Codewords and pages: the tag and its CRC, the LDPC parity, what a page holds, and the field arithmetic of stripe
parity with the rebuilding of a member from the others (R205 to R207, R234, R242, R243). A word is the 4,192 octets of data and tag
of a codeword as a little-endian number. -/
namespace Sys2Proof.Machine

/-! ### CRC-32C (R138, R206) -/

/-- One step of CRC-32C over a bit, reflected polynomial 0x82F63B78. -/
def crcBit (r : Nat) : Nat := if r % 2 = 1 then (r / 2) ^^^ 0x82F63B78 else r / 2

/-- CRC-32C over one octet. -/
def crcOctet (r o : Nat) : Nat :=
  crcBit (crcBit (crcBit (crcBit (crcBit (crcBit (crcBit (crcBit (r ^^^ o))))))))

/-- CRC-32C over octets from an initial register value; the result is inverted as the Castagnoli
CRC is (DEDUCED, log entry 24). -/
def crc32c (init : Nat) (l : List Nat) : Nat := (l.foldl crcOctet init) ^^^ 0xFFFFFFFF

/-! ### Tags (R205 to R207) -/

/-- Octets of a codeword under parity: data and tag. -/
abbrev cwOctets : Nat := 4192

/-- The data and the tag of a codeword's 4,192 octets. -/
def wordData (w : Nat) : Nat := w % 2 ^ 32768
def wordTag (w : Nat) : Nat := w / 2 ^ 32768

/-- Fields of the tag (R206). -/
def tagUnit (w : Nat) : Nat := bits (wordTag w) 546 512
def tagSeq (w : Nat) : Nat := bits (wordTag w) 583 552
def tagPos (w : Nat) : Nat := bits (wordTag w) 585 584
def tagKind (w : Nat) : Nat := bits (wordTag w) 587 586
def tagFmt (w : Nat) : Nat := bits (wordTag w) 591 588
def tagNs (w : Nat) : Nat := bits (wordTag w) 607 592

/-- The CRC-32C over the data and the first 92 tag octets (R206). -/
def wordCrc (w : Nat) : Nat := crc32c 0xFFFFFFFF (octetsOf 4188 w)

/-- It agrees with the one that the tag holds. -/
def wordCrcOk (w : Nat) : Bool := wordCrc w == bits (wordTag w) 767 736

/-- The tag names the unit and the position read (R207). -/
def wordTagOk (w unit cw : Nat) : Bool := tagUnit w == unit && tagPos w == cw && tagKind w == 0

/-- Metadata of one LBA from the tag of a codeword, in the low octets (R206). -/
def tagMeta (lbaf cw w : Nat) : Nat :=
  let t := wordTag w
  if lbaf = 1 then t % 2 ^ 64
  else if lbaf = 2 then t % 2 ^ 512
  else if lbaf = 4 then at' (t % 2 ^ 16) (16 * cw)
  else if lbaf = 5 then at' (t % 2 ^ 128) (128 * cw)
  else 0

/-- LBA k of a unit as stored, from codewords: one codeword of a 4 KiB LBA, four of a 16 KiB one. -/
def lbaOfWords (lbaf k : Nat) (ws : List (Nat × Nat)) : Blk :=
  let at1 := fun cw => ((ws.find? fun p => decide (p.1 = cw)).map Prod.snd).getD 0
  if lbaf < 3 then { data := wordData (at1 k), info := tagMeta lbaf k (at1 k) }
  else { data := sumOf ((List.range 4).map fun cw => at' (wordData (at1 cw)) (32768 * cw)),
         info := sumOf ((List.range 4).map fun cw => tagMeta lbaf cw (at1 cw)) }

/-- Codeword k of a unit from its LBAs as stored: its data and the 64 octets of metadata before the tag's fields (R206). -/
def wordOfLbas (lbaf k : Nat) (bs : List Blk) : Nat :=
  if lbaf < 3 then wordData (bs.getD k { data := 0, info := 0 }).data + at' ((bs.getD k { data := 0, info := 0 }).info % 2 ^ 512) 32768
  else
    let b := bs.headD { data := 0, info := 0 }
    let w := if lbaf = 4 then 16 else if lbaf = 5 then 128 else 0
    wordData (b.data / 2 ^ (32768 * k)) + at' (b.info / 2 ^ (w * k) % 2 ^ w) 32768

/-! ### What a page holds (R205, R206) -/

/-- A word with its CRC put into the last four octets of its tag. -/
def withCrc (w : Nat) : Nat := w + at' (wordCrc w) (32768 + 736)

/-- Codeword k of a unit version: data, metadata, unit index, write sequence, position, kind 0, LBA format and namespace. -/
def unitWord (unit wseq fmt nsid k : Nat) (bs : List Blk) : Nat :=
  withCrc (wordOfLbas fmt k bs + at' (at' (unit % 2 ^ 35) 512 + at' (wseq % 2 ^ 32) 552 + at' (k + 16 * fmt) 584 + at' nsid 592) 32768)

/-- The words of a Crucible slot's page. A staged slot of write-through mode has no write sequence of its own until its commit point
and is programmed before it: it carries the next value of the counter (R145; DESIGN CHOICE, log entry 70). -/
def Slot.words (next : Nat) (s : Slot) : List Nat :=
  (List.range 4).map fun k => unitWord s.unit (s.wseq.getD next) s.fmt s.nsid k s.blocks

/-- The words of a filler page: tag kind 1, write sequence and namespace 0; the data, the unit index and the format that the spec does not give
are free values. -/
def fillerWords : List Nat :=
  (List.range 4).map fun k => withCrc (wordData (Config.filler k) + at' (at' (Config.filler k / 2 ^ 32768 % 2 ^ 35) 512 + at' (k + 4) 584) 32768)

/-- The words of a system page of 16,384 octets: tag kind 2; the unit index of a system page is a free value. -/
def systemWords (data : Nat) : List Nat :=
  (List.range 4).map fun k =>
    withCrc (wordData (data / 2 ^ (32768 * k)) + at' (at' (Config.systemUnit data % 2 ^ 35) 512 + at' (k + 8) 584) 32768)

/-- A codeword: its 4,192 octets and 416 octets of LDPC parity over them (R205). -/
def codeword (w : Nat) : Nat := w % 2 ^ 33536 + at' (Config.ldpc (w % 2 ^ 33536) % 2 ^ 3328) 33536

/-- The 18,432 octets that a page takes: codeword c at octet c × 4,608 (R205). -/
def pageOctets (ws : List Nat) : Nat := sumOf ((ws.zip (List.range 4)).map fun p => at' (codeword p.1) (36864 * p.2))

/-! ### The field of the parity (R234) -/

/-- An octet times g = 0x02 over x^8 + x^4 + x^3 + x^2 + 1. -/
def gfDouble (a : Nat) : Nat := let b := 2 * a; if 256 ≤ b then Nat.xor b 0x11D else b

/-- An octet times g^j. -/
def gfPow (a : Nat) : Nat → Nat
  | 0 => a
  | j + 1 => gfDouble (gfPow a j)

def xorOctets (a b : List Nat) : List Nat := (a.zip b).map fun p => Nat.xor p.1 p.2

/-- S_P of a codeword position: the XOR of the data members and P (R248). -/
def syndromeP (data : List (List Nat)) (p : List Nat) : List Nat := data.foldl xorOctets p

/-- What the data member of index j contributes to Q: g^j · D_j. -/
def inQ (p : Nat × List Nat) : List Nat := p.2.map fun o => gfPow o p.1

/-- S_Q: the sum of g^j · D_j with Q. `data` holds the data positions in ascending order, j with each. -/
def syndromeQ (data : List (Nat × List Nat)) (q : List Nat) : List Nat :=
  data.foldl (fun (acc : List Nat) d => xorOctets acc (inQ d)) q

def isZero (l : List Nat) : Bool := l.all (· == 0)

/-- The octets of a zero word. -/
def noOctets : List Nat := List.replicate cwOctets 0

/-- The exponent e below 255 with g^e = g^a + g^b, for a and b that differ. -/
def gfLogSum (a b : Nat) : Nat := ((List.range 255).find? fun e => decide (gfPow 1 e = Nat.xor (gfPow 1 a) (gfPow 1 b))).getD 0

/-- Octets divided by g^j, for j below 255. -/
def gfOver (j : Nat) (l : List Nat) : List Nat := l.map fun o => gfPow o (255 - j)

/-- P and Q over data members, j with each (R234). -/
def parityP (data : List (Nat × List Nat)) : List Nat := syndromeP (data.map Prod.snd) noOctets
def parityQ (data : List (Nat × List Nat)) : List Nat := syndromeQ data noOctets

/-- The data members of a codeword position with those that were not read solved from P and Q: one from either, two from both (R242).
`known` and `gone` name data members by j; a parity that was not read is none. -/
def solveData (known : List (Nat × List Nat)) (gone : List Nat) (p q : Option (List Nat)) : List (Nat × List Nat) :=
  let sp := p.map fun p => syndromeP (known.map Prod.snd) p
  let sq := q.map fun q => syndromeQ known q
  match gone, sp, sq with
  | [a], some s, _ => known ++ [(a, s)]
  | [a], none, some s => known ++ [(a, gfOver a s)]
  | [a, b], some s, some t =>
    let da := gfOver (gfLogSum a b) (xorOctets t (s.map fun o => gfPow o b))
    known ++ [(a, da), (b, xorOctets s da)]
  | _, _, _ => known

/-- The index j of a data member among the data positions of a row (R234). -/
def dataIndex (s : Sb) (row m : Nat) : Nat := ((dataPos s.idx row s.p2).findIdx? (· == m)).getD 0

/-- Codeword cw of some members with the index of each. -/
def membersAt (s : Sb) (row cw : Nat) (ws : List (Nat × List Nat)) : List (Nat × List Nat) :=
  (ws.filter fun p => (dataPos s.idx row s.p2).contains p.1).map fun p => (dataIndex s row p.1, octetsOf cwOctets (nth p.2 cw))

/-- The words of parity page k (0 P, 1 Q) over the data pages of a row, by member; a position that is not among them contributes
zero (R234, R243). -/
def parityWords (s : Sb) (row k : Nat) (ws : List (Nat × List Nat)) : List Nat :=
  (List.range 4).map fun cw => let d := membersAt s row cw ws; ofOctets (if k = 0 then parityP d else parityQ d)

end Sys2Proof.Machine
end

