-- ==== Sys2Proof/Machine/Ftl.lean ====
section
/-! DEFINITION. The map and its journal, the slices, the Crucible's slots and the lost-range log
(R130 to R145, R257 to R259). -/
namespace Sys2Proof.Machine

/-! ### The journal (R136, R137) -/

/-- Records in one 256 KiB half of a stream's buffer: 16 octets each (R136, R137). -/
abbrev halfRecs : Nat := 16384

/-- The stream of a unit's records (R137). -/
def streamOf (unit : Nat) : Nat := sliceOf unit % 256

/-- The next value of the journal sequence counter, modulo 2^32 (R136). -/
def Chip.seqNext (c : Chip) : Nat := c.get E.JRN_NEXT_SEQ

/-- The counter advances; its wraps count in JRN_SEQ_EPOCH (R467). -/
def Chip.seqAdvance (c : Chip) : Chip :=
  let c1 := c.set E.JRN_NEXT_SEQ ((c.seqNext + 1) % 2 ^ 32)
  if c.seqNext + 1 = 2 ^ 32 then c1.count E.JRN_SEQ_EPOCH 1 else c1

def Chip.stream (c : Chip) (k : Nat) : JStream :=
  match c.ft.streams.find? fun s => decide (s.stream = k) with
  | some s => s
  | none => { stream := k, active := [], full := [] }

def Chip.setStream (c : Chip) (s : JStream) : Chip :=
  let l := upsert (fun q => decide (q.stream = s.stream)) s c.ft.streams
  { c with ft := { c.ft with streams := l } }

/-- The 16-octet record (R136). -/
def JRec.word (r : JRec) : Nat :=
  at' (r.kind % 16) 124 + at' (r.unit % 2 ^ 35) 89 + (if r.kind = 0 then at' (r.entry % 2 ^ 40) 49 else at' (r.count % 2 ^ 32) 57)
    + at' (r.seq % 2 ^ 32) 17

/-- The record that a word holds (R136). -/
def JRec.ofWord (w : Nat) : JRec :=
  let k := bits w 127 124
  { kind := k, unit := bits w 123 89, count := if k = 0 then 1 else bits w 88 57, entry := if k = 0 then bits w 88 49 else 0, seq := bits w 48 17 }

def JPage.recs (p : JPage) : List JRec := p.words.map JRec.ofWord

/-- System pages programmed (R168). -/
def Chip.countSystem (c : Chip) (n : Nat) : Chip := (c.count E.NAND_PAGES_PROGRAMMED n).countOct64 E.PROGRAM_SOURCES 4 n

/-! ### Accumulators and system pages (R137, R138, R146, R240) -/

/-- Accumulator slots in use by the rows of one kind of superblock (R240). -/
def Chip.accUsed (c : Chip) (k : SbKind → Bool) : Nat :=
  sumOf ((c.sb.rows.filter fun r => match c.sbOf r.sb with
    | some s => k s.kind
    | none => false).map Row.acc)

/-- A new row of a kind finds its accumulator slots: ACC_RESERVE_SY of ACC_SLOTS are held for system rows and ACC_RESERVE_HOST for
host SLC rows (R240, R262). -/
def Chip.accRoom (c : Chip) (k : SbKind) (n : Nat) : Bool :=
  let sys := c.accUsed (· == .system)
  let host := c.accUsed (· == .host)
  let held := (if k = .system then 0 else c.get E.ACC_RESERVE_SY - sys) + (if k = .host then 0 else c.get E.ACC_RESERVE_HOST - host)
  decide (c.accUsed (fun _ => true) + held + n ≤ c.get E.ACC_SLOTS)

/-- The quadrant with the fewest open rows (R240). -/
def Chip.rowQuad (c : Chip) : Nat :=
  let n := fun q => (c.sb.rows.filter fun r => decide (r.quad = q)).length
  let qs := List.range c.quads
  (qs.find? fun q => decide (n q = minOf (2 ^ 20) (qs.map n))).getD 0

def Chip.dropRow (c : Chip) (id : Nat) : Chip :=
  let l := drop' (fun q => decide (q.id = id)) c.sb.rows
  { c with sb := { c.sb with rows := l } }

/-- A page programmed under SY: the tokens of its die and of its channel (R51), of a program that has ended and so took no longer than
TPROG_WORST_SLC or the largest time measured (DESIGN CHOICE, log entry 70). -/
def Chip.chargePage (c : Chip) (lun : Nat) : Chip :=
  (c.chargeRes (.die lun) 1 (cdiv c.tProg 500000)).chargeRes (.chan (chanOf lun)) 1 (4 * cdiv (c.cwPs (chanOf lun)) 125000)

/-- A page of a member, as it goes over the channel. -/
def Chip.sendPage (c : Chip) (s : Sb) (row m : Nat) (ws : List Nat) : Chip :=
  match s.members[m]? with
  | none => c
  | some x => (c.chargePage x.lun).emit (.page x.lun x.block (row % max 1 c.md.planes) (pageOctets ws))

/-- The row of a system superblock that its next page joins: the one that is open, or a new one with its accumulator slot. -/
def Chip.systemRow (c : Chip) (s : Sb) : Row :=
  match c.sb.rows.find? fun r => decide (r.sb = s.idx) with
  | some r => r
  | none => { id := c.sb.nextRow, sb := s.idx, row := s.used / 31, entries := [], passed := [], failed := [], filler := [],
              quad := c.rowQuad, acc := 1, since := c.now, closing := false, parityIssued := false, spanWait := false, more := 0, folded := [] }

/-- The next page of a system superblock is programmed with these words. It is folded into the accumulator of its row; behind the last
data page of a row its parity page is programmed, and the row closes (R240). -/
def Chip.usePage (c : Chip) (idx : Nat) (ws : List Nat) : Chip :=
  match c.sbOf idx with
  | none => c
  | some s =>
    let row := s.used / 31
    let m := nth (dataPos s.idx row false) (s.used % 31)
    let r0 := c.systemRow s
    let r := { r0 with passed := r0.passed ++ [m], folded := r0.folded ++ [(m, ws)] }
    let next := max c.sb.nextRow (r.id + 1)
    let c1 := (c.setSb { s with used := s.used + 1, rows := max s.rows (row + 1) }).sendPage s row m ws
    if (s.used + 1) % 31 = 0 then
      (({ c1 with sb := { c1.sb with nextRow := next } }).dropRow r.id |>.sendPage s row ((s.idx + row) % 32) (parityWords s row 0 r.folded)).countSystem 1
    else
      let l := upsert (fun (q : Row) => decide (q.id = r.id)) r c1.sb.rows
      { c1 with sb := { c1.sb with rows := l, nextRow := next } }

/-- A run of pages, from the first-th of those to be programmed on. -/
def Chip.usePages (c : Chip) (data : Nat → Nat) (q : Nat × SysRun) : Chip :=
  c.each (List.range q.2.2.2) fun c i => c.usePage q.2.1 (systemWords (data (q.1 + i)))

/-- A system superblock takes pages: it is open, and its next row has its accumulator slot or finds one (R240). -/
def Chip.takesPages (c : Chip) (s : Sb) : Bool :=
  s.kind == .system && s.state == .open && !(c.sb.rows.any fun r => decide (r.sb = s.idx) && r.closing)
    && (decide (s.used % 31 ≠ 0) || c.accRoom .system 1)

/-- The runs with the number of the first page of each. -/
def numbered : Nat → List SysRun → List (Nat × SysRun)
  | _, [] => []
  | n, q :: l => (n, q) :: numbered (n + q.2.2) l

/-- The next n pages in the open system superblocks that have room, and their programming with the 16,384 octets that `data` gives for
each (R137, R138, R146); none where they do not suffice. -/
def Chip.systemRuns (c : Chip) (n : Nat) (data : Nat → Nat := fun _ => 0) : Option (List SysRun × Chip) :=
  let step := fun (a : List SysRun × Nat) (s : Sb) =>
    let k := min a.2 (s.dataSlots - s.used)
    if k = 0 then a else (a.1 ++ [(s.idx, s.used, k)], a.2 - k)
  let r := (c.sb.sbs.filter c.takesPages).foldl step ([], n)
  if r.2 ≠ 0 then none else some (r.1, (c.each (numbered 0 r.1) fun c q => c.usePages data q).countSystem n)

/-- 16-octet records as the pages of a half hold them: 1,024 in each. -/
def recordPage (l : List JRec) (i : Nat) : Nat :=
  sumOf (((l.drop (1024 * i)).take 1024).zip (List.range 1024) |>.map fun p => at' p.1.word (128 * p.2))

/-- Page i of some halves, 16 pages each. -/
def halvesPage (halves : List (List JRec)) (i : Nat) : Nat := recordPage (halves.getD (i / 16) []) (i % 16)

/-- MiB of journal pages on flash (JRN_FLASH_USED), catalogue pages among them (R138, R146); a
journal page is one half of 256 KiB, a catalogue page 16 KiB. -/
def Chip.journalMib (c : Chip) : Nat := cdiv (c.ft.jpages.length * 16 + c.book.flash.length) 64

/-- The journal pages on flash have reached JRN_FLASH_MAX (R138). -/
def Chip.journalFull (c : Chip) : Bool := decide (c.get E.JRN_FLASH_MAX * 1024 ≤ c.journalMib)

/-- Halves programmed as journal pages, 16 pages each, at places (R137); reaching JRN_FLASH_MAX is reported first in each
second (R165). -/
def Chip.addPages (c : Chip) (k : Nat) (halves : List (List JRec)) (place : List SysRun) : Chip :=
  let pages := c.ft.jpages ++ halves.map fun l => ({ stream := k, words := l.map JRec.word, place := place } : JPage)
  let c1 := { c with ft := { c.ft with jpages := pages } }
  if c1.journalFull && !c.journalFull then c1.eventFirst 0x302 0 1 noUnit [256] else c1

/-- A stream whose two halves are full takes no record (R137). -/
def Chip.streamFull (c : Chip) (k : Nat) : Bool :=
  let s := c.stream k
  decide (halfRecs ≤ s.active.length ∧ s.full ≠ [])

/-- The oldest checkpoint start, or the oldest record of a page on flash, has fallen 2^30 behind the counter (R460). -/
def Chip.spanHeld (c : Chip) : Bool :=
  (c.ft.ckpts.any fun k => decide (2 ^ 30 ≤ serialDist 32 k.start c.seqNext))
    || c.ft.jpages.any fun p => (p.recs.head?).any fun r => decide (2 ^ 30 ≤ serialDist 32 r.seq c.seqNext)

/-- Record spaces in a stream. -/
def Chip.recordRoom (c : Chip) (k : Nat) : Nat :=
  let s := c.stream k
  halfRecs - s.active.length + (if s.full = [] then halfRecs else 0)

/-- Record spaces of a stream that admitted commands have reserved (R141). -/
def Chip.recsHeld (c : Chip) (k : Nat) : Nat :=
  sumOf (c.cmds.map fun x => sumOf ((x.recs.filter fun p => decide (p.1 = k)).map Prod.snd))

/-- Record spaces of a stream that nothing has reserved. -/
def Chip.freeRecs (c : Chip) (k : Nat) : Nat := c.recordRoom k - c.recsHeld k

/-- Records of some units by stream, one for each. -/
def recsBy (units : List Nat) : List (Nat × Nat) :=
  let ks := units.map streamOf
  ks.eraseDups.map fun k => (k, (ks.filter fun j => decide (j = k)).length)

/-- Placements of some units find room for their records, so many in each stream; none does while the pages on flash have
reached JRN_FLASH_MAX (R137, R138). -/
def Chip.placesFit (c : Chip) (units : List Nat) : Bool :=
  !c.journalFull && !c.spanHeld && (recsBy units).all fun p => decide (p.2 ≤ c.freeRecs p.1)

def Chip.placeHeld (c : Chip) (unit : Nat) : Bool := !c.placesFit [unit]

/-- A command's reserved record spaces are given up, its records being appended or not needed. -/
def Chip.freeCmdRecs (c : Chip) (h : Nat) : Chip :=
  match c.cmd h with
  | none => c
  | some x => c.setCmd { x with recs := [] }

/-- One record appended under the next sequence (R136). A full half waits for its page; both
halves full are reported first in each second (R165). -/
def Chip.append (c : Chip) (kind unit count entry : Nat) : Chip :=
  let s := c.stream (streamOf unit)
  let r : JRec := { kind := kind, unit := unit, count := count, entry := entry, seq := c.seqNext }
  let a := s.active ++ [r]
  let s1 : JStream := if halfRecs ≤ a.length ∧ s.full = [] then { s with active := [], full := a }
    else { s with active := a }
  let c1 := (c.setStream s1).seqAdvance
  if c1.streamFull s.stream then c1.eventFirst 0x302 0 1 noUnit [s.stream] else c1

/-! ### The map (R130, R131) -/

/-- The map without the units of a run. -/
def SMap.dropRun (m : SMap) (first count : Nat) : SMap :=
  m.filter fun p => !(decide (first ≤ p.1) && decide (p.1 < first + count))

/-- What a record sets (R136). -/
def JRec.apply (m : SMap) (r : JRec) : SMap :=
  if r.kind = 0 then m.put entryDealloc r.unit r.entry
  else if r.kind = 1 then m.dropRun r.unit r.count
  else (List.range r.count).foldl (fun m i => m.put entryDealloc (r.unit + i) entryZero) m

/-- A change of the map and its record. -/
def Chip.mapChange (c : Chip) (kind unit count entry : Nat) : Chip :=
  let m := JRec.apply c.ft.map { kind := kind, unit := unit, count := count, entry := entry, seq := 0 }
  ({ c with ft := { c.ft with map := m } }).append kind unit count entry

/-! ### The lost-range log (R257 to R259) -/

/-- Runs that new losses may fill, and runs in all (R259). -/
abbrev lostEnterMax : Nat := 983039
abbrev lostMax : Nat := 1048575

/-- A run follows another one in the same granule with the same cause (R257, R258). -/
def Lost.joins (a b : Lost) : Bool :=
  decide (a.first + a.count = b.first) && decide (a.first / 65536 = b.first / 65536) && decide (a.cause = b.cause)

/-- The log with a run put in its place and merged with its neighbours. -/
def lostInsert (r : Lost) : List Lost → List Lost
  | [] => [r]
  | a :: l =>
    if a.joins r then
      match l with
      | b :: l' => if r.joins b then { a with count := a.count + r.count + b.count } :: l'
        else { a with count := a.count + r.count } :: b :: l'
      | [] => [{ a with count := a.count + r.count }]
    else if r.joins a then { r with count := r.count + a.count } :: l
    else if r.first < a.first then r :: a :: l
    else a :: lostInsert r l

/-- The service floor fails: maintenance mode until the next reset (R23, R24). Commands not yet
decided complete with Namespace Not Ready and DNR; they hold no lock and no credit. -/
def Chip.maintain (c : Chip) (faults : Nat) : Chip :=
  let old := c.get E.FLOOR_FAULTS
  let merged := sumOf ((List.range 6).map fun k => if bit old k = 1 ∨ bit faults k = 1 then 2 ^ k else 0)
  let c1 := c.set E.FLOOR_FAULTS merged
  if c.boot.maint ∨ merged = 0 then c1
  else
    let c1 := (({ c1 with boot := { c1.boot with maint := true, maintT := c1.now } }).set E.MAINT_SINCE c1.stamp).count E.MAINT_ENTRIES 1
    let c2 := (c1.event 0x589 0 5 noUnit [merged]).event 0x200 1 5 noUnit [merged, c1.get E.WT_CAUSE]
    c2.each (c2.cmds.filter fun x => !x.admin && decide (x.phase = .fetched ∨ x.phase = .waiting))
      fun c x => (c.giveBack x.h).fail x.h (dnr stNsNotReady)

/-- A unit enters the log before any read can meet it; with no run left for it the service floor
fails (R222, R257 to R259). -/
def Chip.enterLost (c : Chip) (unit cause : Nat) : Chip :=
  if c.isLost unit then c
  else
    let o := c.ownerOf unit
    let r : Lost := { first := unit, count := 1, cause := cause, nsid := (o.map fun p => p.1.nsid).getD 0,
                      nsUnit := (o.map Prod.snd).getD 0 }
    let l := lostInsert r c.lost
    if lostEnterMax < l.length ∧ c.lost.length < l.length then (c.event 0x186 0 5 noUnit []).maintain 32
    else (({ c with lost := l }).count E.LOST_ENTERED 1).event 0x185 0 5 noUnit [cause, unit % 2 ^ 20, unit / 2 ^ 20]

/-- The log without one unit: a run that holds it inside is split in two (R258). -/
def lostRemove (u : Nat) : List Lost → List Lost
  | [] => []
  | a :: l =>
    if a.first ≤ u ∧ u < a.first + a.count then
      let n := u - a.first
      let left := if n = 0 then [] else [{ a with count := n }]
      let right := if u + 1 = a.first + a.count then []
        else [{ a with first := u + 1, count := a.count - n - 1, nsUnit := a.nsUnit + n + 1 }]
      left ++ right ++ l
    else a :: lostRemove u l

def Chip.clearLost (c : Chip) (unit : Nat) : Chip :=
  if c.isLost unit then ({ c with lost := lostRemove unit c.lost }).count E.LOST_CLEARED 1 else c

/-- Removing the units would bring the log past LOST_MAX runs (R259). -/
def Chip.splitShort (c : Chip) (units : List Nat) : Bool :=
  decide (lostMax < (units.foldl (fun l u => lostRemove u l) c.lost).length)

/-! ### The Crucible (R140 to R144) -/

/-- The slot named by a number. -/
def Chip.slotOf (c : Chip) (id : Nat) : Option Slot := c.ft.slots.find? fun s => decide (s.id = id)

def Chip.setSlot (c : Chip) (s : Slot) : Chip :=
  let l := change (fun q => decide (q.id = s.id)) (fun _ => s) c.ft.slots
  { c with ft := { c.ft with slots := l } }

/-- A data slot taken by a command for a unit; in write-through it has no energy backing (R142,
R145). -/
def Chip.takeSlot (c : Chip) (h unit nsid fmt : Nat) (blocks : List Blk) (energy : Bool) : Chip :=
  let id := c.ft.nextSlot + 1
  let s : Slot := { id := id, unit := unit, wseq := none, fmt := fmt, nsid := nsid, blocks := blocks,
                    issued := false, row := none, energy := energy, h := h, guest := false }
  let l := c.ft.slots ++ [s]
  { c with ft := { c.ft with slots := l, nextSlot := id } }

/-- Commit of one slot (R142): it takes the next value of the sequence counter as its write
sequence, the directory names it, the unit leaves the lost-range log (R258), and the unit's
previous slot is freed unless it was issued to a channel. A staged slot that has gone to its row keeps its place there
(R145). -/
def Chip.commitSlot (c : Chip) (id : Nat) : Chip :=
  match c.slotOf id with
  | none => c
  | some s =>
    let old := c.ft.dir.get 0 s.unit
    let c1 := (c.setSlot { s with wseq := some c.seqNext }).seqAdvance
    let dir := c1.ft.dir.put 0 s.unit id
    let ord := if s.issued ∨ c1.ft.order.contains id then c1.ft.order else c1.ft.order ++ [id]
    let c2 := { c1 with ft := { c1.ft with dir := dir, order := ord } }
    let c3 := match c2.slotOf old with
      | none => c2
      | some o => if o.issued then c2
        else
          let ord2 := c2.ft.order.erase old
          ({ c2 with ft := { c2.ft with order := ord2 } }).freeSlot old
    (c3.clearLost s.unit).count E.HOST_UNITS_WRITTEN 1

/-- The directory entry of a unit goes, and its slot is freed unless it was issued (R159, R161). -/
def Chip.dropVersion (c : Chip) (unit : Nat) : Chip :=
  match c.newest unit with
  | none => c
  | some s =>
    let dir := c.ft.dir.put 0 unit 0
    let c1 := { c with ft := { c.ft with dir := dir } }
    if s.issued then c1
    else
      let ord := c1.ft.order.erase s.id
      ({ c1 with ft := { c1.ft with order := ord } }).freeSlot s.id

/-- Runs of consecutive units within one granule (R159). -/
def unitRuns : List Nat → List (Nat × Nat)
  | [] => []
  | u :: l => match unitRuns l with
    | (f, n) :: r => if u + 1 = f ∧ u / 65536 = f / 65536 then (u, n + 1) :: r else (u, 1) :: (f, n) :: r
    | [] => [(u, 1)]

/-- Whole units take a code: one record for each run of one granule; their Crucible versions and
log entries go (R159, R160, R258). -/
def Chip.codeUnits (c : Chip) (units : List Nat) (kind : Nat) : Chip :=
  let c1 := c.each units fun c u => (c.dropVersion u).clearLost u
  c1.each (unitRuns units) fun c r => c.mapChange kind r.1 r.2 0

/-- The records by which a namespace is deallocated find room: one for each granule (R136, R137). -/
def Chip.wipeFits (c : Chip) (l : List Ns) : Bool := l = [] || c.placesFit (l.flatMap fun n => n.granules.map (· * 65536))

/-- Every unit of a namespace becomes deallocated: versions, map entries and log entries go
(R161, R92). -/
def Chip.wipeNs (c : Chip) (n : Ns) : Chip :=
  let mine := fun u => n.granules.contains (u / 65536)
  let c1 := c.each ((c.ft.dir.map Prod.fst).filter mine) Chip.dropVersion
  let c2 := c1.each n.granules fun c g => c.mapChange 1 (g * 65536) 65536 0
  let gone := sumOf ((c2.lost.filter fun r => mine r.first).map Lost.count)
  let keep := c2.lost.filter fun r => !mine r.first
  ({ c2 with lost := keep }).count E.LOST_CLEARED gone

/-! ### Slices and checkpoints (R138, R139) -/

/-- The records of a slice at or after its checkpoint start, all without one, in order: journal pages first, then the halves
that are in the Crucible (R138, R139). -/
def Chip.sliceRecs (c : Chip) (slice : Nat) (start : Option Nat) : List JRec :=
  let mine := c.ft.jpages.filter fun p => decide (p.stream = slice % 256)
  let s := c.stream (slice % 256)
  (mine.flatMap JPage.recs ++ s.full ++ s.active).filter fun r =>
    decide (sliceOf r.unit = slice) && !((start.map (serialLt 32 r.seq)).getD false)

def Chip.ckptOf (c : Chip) (slice : Nat) : Option Ckpt :=
  (c.ft.ckpts.filter fun k => decide (k.slice = slice)).getLast?

/-- What a slice that is not loaded holds: its checkpoint with its records applied (R139). -/
def Chip.sliceMap (c : Chip) (slice : Nat) : SMap :=
  let k := c.ckptOf slice
  (c.sliceRecs slice (k.map Ckpt.start)).foldl JRec.apply ((k.map Ckpt.entries).getD [])

/-- A slice is loaded: its checkpoint, then the records of its stream at or after the checkpoint
start (R139), where a DDR channel has taken it (R11). Units whose entry holds a code that is never written enter the lost-range log with
cause 4 (R131). -/
def Chip.loadSlice (c : Chip) (slice : Nat) (bad : List Nat) : Chip :=
  if c.ft.loaded.contains slice ∨ c.mapSlices ≤ slice ∨ c.ft.homes.getD slice 4 = 4 then c
  else
    let k := c.ckptOf slice
    let base := ((k.map Ckpt.entries).getD []).foldl (fun m p => SMap.put entryDealloc p.1 p.2 m) c.ft.map
    let recs := c.sliceRecs slice (k.map Ckpt.start)
    let m := recs.foldl JRec.apply base
    let loaded := c.ft.loaded ++ [slice]
    let loading := c.ft.loading.erase slice
    let c1 := { c with ft := { c.ft with map := m, loaded := loaded, loading := loading } }
    let c2 := c1.each (bad.filter fun u => decide (sliceOf u = slice)) fun c u =>
      (c.enterLost u 4).event 0x300 0 5 noUnit [u % 2 ^ 20, u / 2 ^ 20]
    if c2.allLoaded then c2.event 0x301 1 1 noUnit [c2.mapSlices] else c2

/-- The pages of some runs are read under SY: each has taken its die and its channel (R51, R139). -/
def Chip.chargeRuns (c : Chip) (place : List SysRun) : Chip :=
  c.each place fun c q => c.each (List.range q.2.2) fun c i =>
    match (c.sbOf q.1).bind fun s => s.members[nth (dataPos q.1 ((q.2.1 + i) / 31) false) ((q.2.1 + i) % 31)]? with
    | none => c
    | some m => (c.chargeRes (.die m.lun) 1 (cdiv (c.tSense false) 500000)).chargeRes (.chan (chanOf m.lun)) 1 (4 * cdiv (c.cwPs (chanOf m.lun)) 125000)

/-- A first touch puts the slice in front of those that wait to be loaded (R139). -/
def Chip.touchSlice (c : Chip) (unit : Nat) : Chip :=
  if c.sliceLoaded unit then c
  else
    let k := sliceOf unit
    let was := c.ft.loading.contains k
    let l := k :: c.ft.loading.erase k
    let c1 := { c with ft := { c.ft with loading := l } }
    if was then c1 else c1.count E.SLICE_LOADS_ON_TOUCH 1

/-- When the latest checkpoint of a slice was taken, and 0 without one. -/
def Chip.ckptAge (c : Chip) (k : Nat) : Nat :=
  match c.ckptOf k with
  | some p => p.time + 1
  | none => 0

/-- The slice of all whose latest checkpoint is oldest; slices without one come first, and of several that are equally old the lowest
(R138; the order among equals is a DESIGN CHOICE, log entry 69). -/
def Chip.oldestAny (c : Chip) : Option Nat :=
  let ks := List.range c.mapSlices
  ks.find? fun k => decide (c.ckptAge k = minOf (2 ^ 64) (ks.map c.ckptAge))

/-- That slice, where it is loaded and so can be copied. -/
def Chip.oldestSlice (c : Chip) : Option Nat := c.oldestAny.filter fun k => c.ft.loaded.contains k

/-- A slice that is to be checkpointed is to be loaded first. -/
def Chip.askSlice (c : Chip) (k : Nat) : Chip :=
  let l := k :: c.ft.loading.erase k
  { c with ft := { c.ft with loading := l } }

/-- A journal page is released once its records are earlier than the checkpoint start of every slice in the stream (R138). -/
def Chip.pageDead (c : Chip) (p : JPage) : Bool :=
  ((List.range c.mapSlices).filter fun k => decide (k % 256 = p.stream)).all fun k => match c.ckptOf k with
    | some q => p.recs.all fun r => serialLt 32 r.seq q.start
    | none => false

/-- The packed entries of a slice, 5 octets each, in unit order (R135). -/
def Chip.sliceOctets (c : Chip) (slice : Nat) : List Nat :=
  (List.range (2 ^ 22)).flatMap fun i => octetsOf 5 (c.mapOf (slice * 2 ^ 22 + i))

/-- The octets of a page of a slice's copy. -/
def Chip.slicePage (c : Chip) (slice i : Nat) : Nat := ofOctets (((c.sliceOctets slice).drop (16384 * i)).take 16384)

/-- A checkpoint of a slice that counts: its 20 MiB are in 1,280 system pages and its index entry in both system-area copies;
dead journal pages are released, and a rotation ends when every slice has been taken (R138). Without room for it, it waits. -/
def Chip.checkpointSlice (c0 : Chip) (slice : Nat) : Chip := match c0.systemRuns 1280 (c0.slicePage slice) with
  | none => c0
  | some (place, c) =>
  let es := c.ft.map.filter fun p => decide (sliceOf p.1 = slice)
  let k : Ckpt := { slice := slice, start := c.seqNext, time := c.now, entries := es, place := place, crc := crc32c 0xFFFFFFFF (c.sliceOctets slice) }
  let ks := drop' (fun q => decide (q.slice = slice)) c.ft.ckpts ++ [k]
  let c1 := { c with ft := { c.ft with ckpts := ks } }
  let pages := drop' c1.pageDead c1.ft.jpages
  let rot := slice :: c1.ft.rotation.erase slice
  let c3 := ({ c1 with ft := { c1.ft with jpages := pages, rotation := rot } }).count E.CKPT_WRITTEN 1
  if c3.mapSlices ≤ rot.length then
    let s := (c3.now - c3.ft.rotationT) / cycPerSec
    let t := c3.now
    ((({ c3 with ft := { c3.ft with rotation := [], rotationT := t } }).set E.CKPT_ROTATION_LAST (min max20 s)).event
      0x301 0 1 noUnit [min max20 s])
  else c3

end Sys2Proof.Machine
end

