-- ==== Sys2Proof/Machine/Media.lean ====
section
/-! DEFINITION. The operations of a die: what is queued, what starts, suspend and resume, charges,
and the erase-intent ring (R184 to R192, R197, R51). -/
namespace Sys2Proof.Machine

/-- The parent of a die reads its planes independently (R178). -/
def Chip.readsApart (c : Chip) (lun : Nat) : Bool :=
  match c.md.tgts.find? fun x => decide (x.tgt = lun / 4) with
  | some x => x.independent
  | none => false

/-- An operation before it starts. -/
def Op.new (kind : OpKind) (cls : Nat) (qlc : Bool) (block plane : Nat) : Op :=
  { kind := kind, cls := cls, qlc := qlc, block := block, plane := plane, issueT := 0, resumeT := 0,
    doneProg := 0, suspends := 0, suspended := false, suspendT := none, task := 0, row := 0,
    member := 0, retries := 0, confirmed := false, senses := 1, levels := [], pollT := 0, allow := 0,
    page := [], bus := 0, charged := 0, chargedAt := 0 }

/-- Planes that an operation occupies (R51, R178). -/
def Chip.opPlanes (c : Chip) (lun : Nat) (o : Op) : Nat :=
  if o.kind == .erase || (o.kind == .read && !c.readsApart lun) then max 1 c.md.planes else 1

/-- Die tokens of the worst-case time of an operation (R51). -/
def Chip.opWorst (c : Chip) (lun : Nat) (o : Op) : Nat :=
  match o.kind with
  | .read => o.senses * c.senseTokens lun (c.tSense o.qlc)
  | .program => 2 * (c.opTimeout .program / cycPerUs)
  | .erase => 2 * (c.opTimeout .erase / cycPerUs) * max 1 c.md.planes

/-- Tokens of a time on the planes of an operation, rounded up. -/
def Chip.opSpan (c : Chip) (lun : Nat) (o : Op) (cycles : Nat) : Nat := cdiv (cycles * psPerCyc) 500000 * c.opPlanes lun o

/-- How long an operation has run: an erase or program by its execution progress, which stands while it is suspended. -/
def Op.ran (o : Op) (now : Nat) : Nat := if o.kind = .read then now - o.issueT else o.progress now

/-- What an operation is charged for the inning in which it starts, resumes or runs on: its worst case less what it has run,
at most what one inning holds of the die's planes (R51). -/
def Chip.opCharge (c : Chip) (lun : Nat) (o : Op) : Nat :=
  min (c.opWorst lun o - c.opSpan lun o (o.ran c.now)) (250 * max 1 c.md.planes)

/-- The operation as it starts or goes on, with its charge of this inning. -/
def Chip.withCharge (c : Chip) (lun : Nat) (o : Op) : Op := { o with charged := c.opCharge lun o, chargedAt := c.inning }

/-- What an operation's charge of this inning exceeds the time it took in it (R51). -/
def Chip.opBack (c : Chip) (lun : Nat) (o : Op) : Nat :=
  let start := max (if o.kind = .read then o.issueT else o.resumeT) (c.inning * cycPerInning)
  if o.chargedAt = c.inning then o.charged - c.opSpan lun o (c.now - start) else 0

/-- Tokens returned to a class: its debt falls first, then what it has used (R51). -/
def Budget.giveBack (b : Budget) (k tokens : Nat) : Budget :=
  let d := min tokens (nth b.debt k)
  { b with debt := b.debt.set k (nth b.debt k - d), used := b.used.set k (nth b.used k - (tokens - d)) }

def Chip.returnRes (c : Chip) (r : Res) (k tokens : Nat) : Chip :=
  let f := fun (b : Budget) => b.giveBack k tokens
  { c with um := { c.um with budgets := change (fun b => decide (b.res = r)) f c.um.budgets } }

/-- Reads of an activity class that can start on a die: one for each plane, or one at a time where the NAND
does not read its planes apart (R178). A read that waits for its retry starts no earlier than `resumeT`
(R17), and one for which `draws` fails waits for tokens (R53). -/
def Die.grantReads (d : Die) (now : Nat) (apart : Bool) (draws : Op → Bool) (k : Nat) : Die :=
  let step := fun (ops : List Op) (i : Nat) =>
    match ops[i]? with
    | none => ops
    | some o =>
      let clash := ops.any fun q => q.kind == .read && q.confirmed && (!apart || q.plane == o.plane)
      if o.kind == .read && !o.confirmed && decide (o.resumeT ≤ now ∧ o.cls = k) && !clash && draws o then
        ops.set i { o with confirmed := true, issueT := now }
      else ops
  { d with ops := (List.range d.ops.length).foldl step d.ops }

/-- The first erase or program of a class that waits. -/
def Die.nextArray (d : Die) (k : Nat) : Option Nat :=
  d.ops.findIdx? fun o => o.kind != .read && !o.confirmed && decide (o.cls = k)

/-- The classes in order (R53): each starts its reads and then its next erase or program, behind which the classes after it wait.
The answer is the die with the reads started and the erase or program that may start. -/
def Die.serve (now : Nat) (apart : Bool) (draws : Op → Bool) : List Nat → Die → Die × Option Nat
  | [], d => (d, none)
  | k :: ks, d =>
    let e := d.grantReads now apart draws k
    match e.nextArray k with
    | some i => (e, if (e.ops.any fun q => q.kind == .read && q.confirmed) || !((e.ops[i]?).any draws) then none else some i)
    | none => Die.serve now apart draws ks e

/-- The page that a program transfers is folded into the accumulator of its row, as the transfer begins (R240). -/
def Chip.foldIn (c : Chip) (o : Op) : Chip :=
  let data := fun (r : Row) => match c.sbOf r.sb with
    | some s => (dataPos s.idx r.row s.p2).contains o.member && !(r.folded.any fun p => decide (p.1 = o.member))
    | none => false
  let l := change (fun (r : Row) => decide (r.id = o.row) && data r) (fun r => { r with folded := r.folded ++ [(o.member, o.page)] }) c.sb.rows
  { c with sb := { c.sb with rows := l } }

/-- The transfers of an operation that starts: its channel tokens, and the page of a program (R51, R205). -/
def Chip.beginTransfer (c : Chip) (lun : Nat) (o : Op) : Chip :=
  let c1 := if o.bus = 0 then c else c.chargeRes (.chan (chanOf lun)) o.cls o.bus
  if o.kind = .program ∧ o.page ≠ [] then (c1.emit (.page lun o.block o.plane (pageOctets o.page))).foldIn o else c1

/-- The operations that a change of a die has started are charged to their classes (R51). -/
def Chip.chargeStarted (c : Chip) (before after : Die) : Chip :=
  c.each (after.ops.zip before.ops) fun c p =>
    if p.1.confirmed && !p.2.confirmed then (c.chargeRes (.die before.lun) p.1.cls p.1.charged).beginTransfer before.lun p.1 else c

/-- Before an operation on another target than the last of its CE pin, the pin's volume is selected (R175). -/
def Chip.selectVolume (c : Chip) (lun : Nat) : Chip :=
  let ch := chanOf lun
  let pin := lun / 16 % 4
  match c.md.chans.find? fun k => decide (k.ch = ch), (c.md.tgts.find? fun x => decide (x.tgt = lun / 4)).bind Tgt.volume with
  | some k, some v =>
    if nth k.selected pin = v then c
    else
      let l := change (fun (q : Chan) => decide (q.ch = ch)) (fun q => { q with selected := q.selected.set pin v }) c.md.chans
      ({ c with md := { c.md with chans := l } }).emit (.volume ch pin v)
  | _, _ => c

/-- Operations of a die start: its volume is selected where it is not, and they are charged. -/
def Chip.startDie (c : Chip) (before after : Die) : Chip :=
  let new := fun (p : Op × Op) => p.1.confirmed && !p.2.confirmed
  let pairs := after.ops.zip before.ops
  let d := { after with ops := pairs.map fun p => if new p then c.withCharge before.lun p.1 else p.1 }
  ((if pairs.any new then c.selectVolume before.lun else c).setDie d).chargeStarted before d

/-- An operation resumes: its volume is selected, Resume is issued, and it is charged for the rest of the inning (R51, R175). -/
def Chip.resumeOp (c : Chip) (d : Die) (o : Op) : Chip :=
  let o1 := { o with suspended := false, resumeT := c.now, suspendT := none }
  let o2 := c.withCharge d.lun { o1 with doneProg := o.doneProg }
  ((c.selectVolume d.lun).setDie { d with ops := d.ops.replace o o2 }).chargeRes (.die d.lun) o.cls o2.charged

/-- An admitted HR read waits for the die: it is queued there, or its command has work on it that
has not ended (R188). -/
def Chip.hrWaits (c : Chip) (d : Die) : Bool :=
  (d.ops.any fun o => o.kind == .read && decide (o.cls = 0)) || c.um.work.any fun w => decide (w.res = .die d.lun)

/-- A command's work on a resource is done: its first item there goes, and its tokens are consumed (R43, R54). -/
def Chip.doneOn (c : Chip) (h : Nat) (r : Res) (tokens : Nat) : Chip :=
  match c.um.work.find? fun w => decide (w.h = h ∧ w.res = r) with
  | none => c.consume h r tokens
  | some w =>
    let l := c.um.work.erase w
    ({ c with um := { c.um with work := l } }).consume h r tokens

/-- Codewords of a command have gone over a channel or through a decode: its work there falls by as many, and its tokens are
consumed (R43, R54). -/
def Chip.doneCws (c : Chip) (h : Nat) (r : Res) (cws tokens : Nat) : Chip :=
  match c.um.work.find? fun w => decide (w.h = h ∧ w.res = r) with
  | none => c.consume h r tokens
  | some w =>
    let l := if w.amount ≤ cws then c.um.work.erase w else c.um.work.replace w { w with amount := w.amount - cws }
    ({ c with um := { c.um with work := l } }).consume h r tokens

/-- The sense of a command's codewords on a die has ended, and they have been transferred. -/
def Chip.doneSense (c : Chip) (h lun cws : Nat) (qlc : Bool) : Chip :=
  (c.doneOn h (.die lun) (c.senseTokens lun (c.tSense qlc))).doneCws h (.chan (chanOf lun)) cws (cws * cdiv (c.cwPs (chanOf lun)) 125000)

/-- Suspend is issued; it counts when it takes effect (R188, R190). -/
def Chip.issueSuspend (c : Chip) (d : Die) (o : Op) : Chip :=
  (c.selectVolume d.lun).setDie { d with ops := d.ops.replace o { o with suspendT := some c.now } }

/-- An operation's class has the tokens that it draws beside those of its die: of the channel for a transfer, and for a read of the
engines that decode it (R53). -/
def Chip.opDraws (c : Chip) (lun : Nat) (o : Op) : Bool :=
  (o.kind == .erase || c.mayDraw (.chan (chanOf lun)) o.cls)
    && (o.kind != .read || match c.decodeQuad (chanOf lun) true with
      | some q => c.mayDraw (.hard q) o.cls
      | none => true)

/-- A suspend has taken effect: what its charge of the inning exceeds its run returns, it counts against the allowance, and an operation that has used its
whole allowance is counted and reported (R188 to R190, R198, R202). -/
def Chip.suspendTakes (c : Chip) (d : Die) (o : Op) (since : Nat) : Chip :=
  let o1 := { o with suspends := o.suspends + 1, suspended := true, suspendT := none, doneProg := o.progress c.now, charged := 0 }
  let meas := max c.um.measSusp ((c.now - since) * psPerCyc)
  let c0 := { c with um := { c.um with measSusp := meas } }
  let c1 := ((c0.returnRes (.die d.lun) o.cls (c.opBack d.lun o)).setDie { d with ops := d.ops.replace o o1 }).count E.SUSPENDS 1
  if o1.suspends = o.allow then
    (c1.count E.SUSP_SPENT 1).event (8 * chanOf d.lun + 6) 0 1 (c.unitIdent (mkUnit kLUN d.lun)) [o1.suspends]
  else c1

/-- What the channel engine does next for a die: with an erase or program running, Suspend for a
waiting HR read once its progress and allowance permit; suspended, the waiting HR reads, and
Resume when none waits; otherwise, of the classes that have tokens in their order, HR first, the waiting reads and the next erase or
program (R53). Nothing starts on a die that is FENCED, RETIRED or ABSENT, or in a non-operational power state (R188, R189,
R197, R399). -/
def Chip.kickDie (c : Chip) (lun : Nat) : Chip :=
  match c.dieOf lun with
  | none => c
  | some d =>
    if !c.usable (mkUnit kLUN lun) ∨ 3 ≤ c.get E.PS_CURRENT then c
    else
      let apart := c.readsApart lun
      match d.current with
      | some o =>
        if o.suspended then
          if c.hrWaits d then c.startDie d (d.grantReads c.now apart (c.opDraws lun) 0)
          else c.resumeOp d o
        else if o.suspendT.isSome then c
        else if c.hrWaits d ∧ o.suspends < o.allow
            ∧ (o.suspends = 0 ∨ o.resumeT + c.minResume o.kind ≤ c.now) then c.issueSuspend d o
        else c
      | none =>
        let r := d.serve c.now apart (c.opDraws lun) (0 :: c.classOrder (.die lun))
        match r.2.bind fun i => (d.ops[i]?).map fun o => (i, o) with
        | none => c.startDie d r.1
        | some (i, o) => c.startDie d
            { d with ops := d.ops.set i { o with confirmed := true, issueT := c.now, resumeT := c.now, allow := c.allowance lun o.kind } }

/-- An operation joins the queue of a die. -/
def Chip.queueOp (c : Chip) (lun : Nat) (o : Op) : Chip :=
  match c.dieOf lun with
  | none => c
  | some d => (c.setDie { d with ops := d.ops ++ [o] }).kickDie lun

/-- An operation of a die is gone; what its charge of this inning exceeds the time it took returns
(R51). -/
def Chip.endOp (c : Chip) (lun : Nat) (o : Op) : Chip :=
  match c.dieOf lun with
  | none => c
  | some d =>
    let back := if o.confirmed && !o.suspended then c.opBack lun o else 0
    (c.setDie { d with ops := d.ops.erase o }).returnRes (.die lun) o.cls back

/-- The operation that a poll with RDY ends: the running erase or program, or else the read issued
first (R184). -/
def Die.ending (d : Die) : Option Op :=
  match d.current with
  | some o => if o.suspended then d.ops.find? fun q => q.kind == .read && q.confirmed else some o
  | none => d.ops.find? fun q => q.kind == .read && q.confirmed

/-- At an inning boundary the operations that still run are charged again (R51). -/
def Chip.chargeRunning (c : Chip) : Chip :=
  c.each c.md.dies fun c d =>
    let d1 := { d with ops := d.ops.map fun o => if o.confirmed && !o.suspended then c.withCharge d.lun o else o }
    (c.setDie d1).each (d1.ops.filter fun o => o.confirmed && !o.suspended) fun c o => c.chargeRes (.die d.lun) o.cls o.charged

/-! ### Blocks (R153 to R156) -/

def Chip.blockOf (c : Chip) (lun block : Nat) : Block :=
  match (c.dieOf lun).bind fun d => d.blocks.find? fun b => decide (b.block = block) with
  | some b => b
  | none => { lun := lun, block := block, qlcErases := 0, slcErases := 0, scrapped := false,
              marks := 0, sb := none, mode := 0, fill := none }

def Chip.setBlock (c : Chip) (b : Block) : Chip :=
  match c.dieOf b.lun with
  | none => c
  | some d => c.setDie { d with blocks := upsert (fun q => decide (q.block = b.block)) b d.blocks }

/-- Erases of a block in both modes. -/
def Block.erases (b : Block) : Nat := b.qlcErases + b.slcErases

/-- The free good block of a die with the fewest erases, the lowest number on a tie (R153). A block
that is not listed has never been used. -/
def Die.freeBlock (d : Die) : Option Nat :=
  let fresh := (List.range d.good).find? fun i => !(d.blocks.any fun b => decide (b.block = i))
  let free := d.blocks.filter fun b => !b.scrapped && b.sb.isNone
  let least := minOf (2 ^ 60) (free.map Block.erases)
  match fresh with
  | some i => if least = 0 then some (minOf i ((free.filter fun b => decide (b.erases = 0)).map Block.block)) else some i
  | none => if free = [] then none
      else some (minOf (2 ^ 60) ((free.filter fun b => decide (b.erases = least)).map Block.block))

/-- The spare thresholds of a LUN: DEGRADED below 2 × B × DIE_SPARE_MIN ÷ 1,000, RETIRED below
B × DIE_SPARE_MIN ÷ 1,000 (R156). -/
def Chip.spareState (c : Chip) (lun : Nat) : Chip :=
  match c.dieOf lun with
  | none => c
  | some d =>
    let u := mkUnit kLUN lun
    let s := c.spareOf d
    let m := d.good * c.get E.DIE_SPARE_MIN
    let was := c.own u
    if s * 1000 < m then
      if 1 ≤ was ∧ was ≤ 3 then (c.permanentFault u 3).event 0x307 0 4 (c.unitIdent u) [s] else c
    else
      let low := decide (s * 1000 < 2 * m)
      let c1 := c.setDegraded u low
      if was = 1 ∧ low then c1.event 0x307 0 3 (c.unitIdent u) [s] else c1

/-- A block goes to the scrap pool (R154, R155, R226), and its die's spare is judged (R156). -/
def Chip.scrap (c : Chip) (lun block : Nat) : Chip :=
  let b := c.blockOf lun block
  if b.scrapped then c
  else ((c.setBlock { b with scrapped := true, sb := none }).count E.SCRAP_BLOCKS 1).spareState lun

/-! ### Erase intents (R192) -/

/-- Intent entries written and not yet cleared; `cleared` is the first sequence not cleared. -/
def Chip.eiPending (c : Chip) : Nat :=
  (c.md.intents.filter fun i => i.written && decide (c.md.cleared ≤ i.seq)).length

/-- A block to be erased is gathered (R192). -/
def Chip.gatherErase (c : Chip) (lun block kind sb : Nat) : Chip :=
  let seq := c.get E.EI_NEXT_SEQ
  let i : Intent := { lun := lun, block := block, planes := 2 ^ c.md.planes - 1, kind := kind, seq := seq, sb := sb, written := false, ended := false }
  let l := c.md.intents ++ [i]
  ({ c with md := { c.md with intents := l } }).set E.EI_NEXT_SEQ ((seq + 1) % 2 ^ 40)

/-- The erase of an intent entry: an operation of its die under SY (R192). -/
def Chip.issueErase (c : Chip) (i : Intent) : Chip :=
  let qlc := match c.sbOf i.sb with
    | some s => s.qlc
    | none => true
  c.queueOp i.lun (Op.new .erase 1 qlc i.block 0)

/-- The entry of a block has ended its erase; the pending clears wait for the next page (R192). -/
def Chip.endIntent (c : Chip) (lun block : Nat) : Chip :=
  let l := change (fun i => decide (i.lun = lun ∧ i.block = block) && i.written) (fun i => { i with ended := true }) c.md.intents
  let since := match c.md.clearSince with
    | some t => some t
    | none => some c.now
  { c with md := { c.md with intents := l, clearSince := since } }

/-- The first sequence not cleared: the first entry that has not ended its erase (R192). -/
def Chip.clearedTo (c : Chip) : Nat :=
  minOf (c.get E.EI_NEXT_SEQ) ((c.md.intents.filter fun i => !i.ended).map Intent.seq)

/-- The octets of an entry (R193). -/
def EiEntry.octets (i : EiEntry) : List Nat :=
  octetsOf 2 (i.lun % 2048) ++ octetsOf 4 i.block ++ [i.planes % 16, i.kind] ++ octetsOf 5 i.seq ++ octetsOf 3 (i.sb % 2 ^ 20)

/-- The octets 0 to 16,379 of a page (R193). -/
def EiPage.body (p : EiPage) : List Nat :=
  octetsOf 4 0x45490001 ++ octetsOf 5 p.first ++ octetsOf 5 p.cleared ++ octetsOf 2 p.entries.length
    ++ (p.entries.flatMap EiEntry.octets ++ List.replicate (16320 - 16 * p.entries.length) 0) ++ List.replicate 44 0

/-- The whole page, with its CRC-32C. -/
def EiPage.octets (p : EiPage) : List Nat := p.body ++ octetsOf 4 p.crc

/-- A page passes its CRC. -/
def EiPage.ok (p : EiPage) : Bool := decide (p.crc = crc32c 0xFFFFFFFF p.body)

/-- The copies of the system area, by channel, of which those whose channel is not RETIRED are written (R192). -/
def Chip.ringCopies (c : Chip) : List Nat :=
  [0, if c.halved then 15 else 31].filter fun ch => decide (c.reported (mkUnit kCHAN ch) ≠ 4)

/-- Pages programmed under SY in both system-area copies, as far as their channels are not RETIRED (R23). -/
def Chip.programCopies (c : Chip) (n : Nat) : Chip :=
  (c.each c.ringCopies fun c ch => c.chargeRes (.chan ch) 1 (n * (4 * cdiv (c.cwPs ch) 125000))).countSystem (n * c.ringCopies.length)

/-! ### The zone tables of the system area (R215) -/

/-- The octets of stored zone tables: entries and order of the 320 zones of each table. -/
def zoneOctets (t : Store) : List Nat :=
  (List.range 320 ++ (List.range 320).map (512 + ·)).flatMap fun i =>
    octetsOf 128 (t.get (dflt E.ZT_ENTRIES i) (E.ZT_ENTRIES, i)) ++ octetsOf 8 (t.get (dflt E.ZT_ORDER i) (E.ZT_ORDER, i))

def isZone (p : (Nat × Nat) × Nat) : Bool := decide (p.1.1 = E.ZT_ENTRIES ∨ p.1.1 = E.ZT_ORDER)

/-- The pages of one copy of the zone tables: 640 zones of 136 octets, the generation and the CRC. -/
abbrev zonePages : Nat := 6

/-- Both copies of the zone tables are written under SY, each with the generation and its CRC (R215, R216). -/
def Chip.saveZones (c : Chip) : Chip :=
  let t := c.dict.vals.filter isZone
  let new := c.ringCopies.map fun ch =>
    ({ copy := if ch = 0 then 0 else 1, gen := c.get E.ZT_GEN, crc := crc32c 0xFFFFFFFF (zoneOctets t), table := t } : ZtCopy)
  let old := c.rd.saved.filter fun k => !(new.any fun n => decide (n.copy = k.copy))
  ({ c with rd := { c.rd with saved := old ++ new } }).programCopies zonePages

/-- The newer copy that can be read and passes its CRC is loaded; where neither does, the tables are those of the first format, and
an event says so. -/
def Chip.loadZones (c : Chip) (readable : List Bool) : Chip :=
  let ok := c.rd.saved.filter fun k => readable.getD k.copy false && decide (k.crc = crc32c 0xFFFFFFFF (zoneOctets k.table))
  let rest := c.dict.vals.filter fun p => !isZone p
  match ok.find? fun k => ok.all fun j => !serialLt 20 k.gen j.gen with
  | some k =>
    let vals := k.table.foldl (fun (s : Store) p => s.put (dflt p.1.1 p.1.2) p.1 p.2) rest
    ({ c with dict := { c.dict with vals := vals } }).set E.ZT_GEN k.gen
  | none =>
    let c1 := { c with dict := { c.dict with vals := rest } }
    (if c.rd.saved = [] then c1 else c1.event 0x131 0 1 noUnit []).saveZones

/-- The ring's next page may be written: the first page of a block erases the block, and waits while an entry in it is not
cleared (R192). -/
def Chip.ringFree (c : Chip) : Bool :=
  let n := max 1 c.slcPages
  decide (c.md.ringAt % n ≠ 0) || (c.md.ring.filter fun p => decide (p.block = c.md.ringAt / n % 8)).all fun p =>
    p.entries.all fun i => decide (i.seq < c.md.cleared)

/-- A page of entries written to the ring of each copy, under SY (R192, R193). Cleared-through is the sequence before the first
one not cleared. -/
def Chip.ringWrite (c : Chip) (is : List Intent) : Chip :=
  let n := max 1 c.slcPages
  let block := c.md.ringAt / n % 8
  let page := c.md.ringAt % n
  let es := is.map fun i => ({ lun := i.lun, block := i.block, planes := i.planes, kind := i.kind, seq := i.seq, sb := i.sb } : EiEntry)
  let through := (c.md.cleared + 2 ^ 40 - 1) % 2 ^ 40
  let p0 : EiPage := { copy := 0, block := block, page := page, first := ((is.head?).map Intent.seq).getD (c.get E.EI_NEXT_SEQ), cleared := through,
                       entries := es, crc := 0 }
  let pages := c.ringCopies.map fun k => { p0 with copy := k, crc := crc32c 0xFFFFFFFF p0.body }
  let old := if page = 0 then c.md.ring.filter fun p => decide (p.block ≠ block) else c.md.ring
  let at1 := c.md.ringAt + 1
  ({ c with md := { c.md with ring := old ++ pages, ringAt := at1 } }).programCopies 1

/-- Cleared entries leave the list, and no clear waits any more. -/
def Chip.takeClears (c : Chip) : Chip :=
  let first := max c.md.cleared c.clearedTo
  let kept := c.md.intents.filter fun i => decide (first ≤ i.seq)
  { c with md := { c.md with intents := kept, cleared := first, clearSince := none } }

/-- An intent page has passed in every copy: it carries cleared-through, the entries it clears
leave the ring, and the erases of its entries are issued, at most 1,020 entries and no more than
EI_MAX_PENDING pending (R192). -/
def Chip.intentPage (c : Chip) : Chip :=
  let c1 := c.takeClears
  let room := min 1020 (c1.get E.EI_MAX_PENDING - c1.eiPending)
  let now := (c1.md.intents.filter fun i => !i.written).take room
  let l := change (fun i => now.contains i) (fun i => { i with written := true }) c1.md.intents
  let c2 := ({ c1 with md := { c1.md with intents := l } }).ringWrite now
  c2.each now Chip.issueErase

end Sys2Proof.Machine
end

