-- ==== Sys2Proof/Machine/Reads.lean ====
section
/-! DEFINITION. Reading flash: temperatures, zones, the order of entries, marks for early
relocation, and the start of a read of codewords (R195, R211 to R217, R225). -/
namespace Sys2Proof.Machine

/-! ### Temperature, band and zone (R195, R211, R212) -/

/-- A LUN's own current reading: the last one, until three intervals have passed without (R195). -/
def Die.reading (d : Die) : Option Int := if d.tempAge < 3 then d.temp else none

/-- The hottest of some readings. -/
def hottest (l : List Int) : Option Int :=
  match l with
  | [] => none
  | a :: r => some (r.foldl max a)

/-- The temperature in use for a LUN: its own, or the hottest current one of its target, of its
channel, or NTEMP_DEFAULT (R195). -/
def Chip.tempOf (c : Chip) (lun : Nat) : Int :=
  let own := (c.dieOf lun).bind Die.reading
  let among := fun (p : Die → Bool) => hottest ((c.md.dies.filter p).filterMap Die.reading)
  match own with
  | some t => t
  | none => match among fun d => decide (d.lun / 4 = lun / 4) with
    | some t => t
    | none => match among fun d => decide (d.lun / 64 = lun / 64) with
      | some t => t
      | none => c.getS E.NTEMP_DEFAULT

/-- The three limits of BAND_LIMITS in °C (R230). -/
def Chip.bandLimits (c : Chip) : List Int :=
  let v := c.get E.BAND_LIMITS
  let l0 : Int := 5 * (bits v 3 0 : Nat)
  let l1 : Int := l0 + (bits v 8 4 : Nat)
  [l0, l1, l1 + (bits v 13 9 : Nat)]

/-- The band of a temperature (R211). -/
def Chip.bandOf (c : Chip) (t : Int) : Nat := (c.bandLimits.filter fun l => decide (l ≤ t)).length

/-- The refresh interval of a band in seconds (R212). -/
def Chip.refreshSec (c : Chip) (band : Nat) : Nat := c.get (E.REFRESH_INT0 + band) * 86400

/-- The equivalent age of a superblock in hours (R212). -/
def Chip.equivAge (c : Chip) (s : Sb) : Nat := s.stress * (c.get E.REFRESH_INT0 * 24) / 10 ^ 9

/-- Bound i of BUCKET_BOUNDS in hours (R230). -/
def Chip.bucketBound (c : Chip) (i : Nat) : Nat := bits (c.get E.BUCKET_BOUNDS) (16 * i + 15) (16 * i)

/-- The retention bucket: the bounds that the equivalent age has reached (R211). -/
def Chip.bucketOf (c : Chip) (s : Sb) : Nat :=
  ((List.range 7).filter fun i => decide (c.bucketBound i ≤ c.equivAge s)).length

/-- The wear decile of a block in a mode (R211). -/
def Chip.decileOf (c : Chip) (b : Block) (qlc : Bool) : Nat :=
  min 9 (10 * b.erases / (if qlc then c.get E.PE_RATED_QLC else c.get E.PE_RATED_SLC))

/-- The zone of a member block (R211). -/
def Chip.zoneOf (c : Chip) (s : Sb) (m : Member) : Nat :=
  c.decileOf (c.blockOf m.lun m.block) s.qlc * 32 + c.bandOf (c.tempOf m.lun) * 8 + c.bucketOf s

/-- The item of a zone's entries: table 0 QLC, 1 SLC (R229). -/
def zoneItem (qlc : Bool) (zone : Nat) : Nat := (if qlc then 0 else 512) + zone

/-- An entry of a zone is valid (R213). -/
def Chip.slotValid (c : Chip) (item slot : Nat) : Bool := bit (c.getAt E.ZT_ENTRIES item) (128 * slot + 120) == 1

/-- The valid slots of a zone in its order (R213). -/
def Chip.zoneOrder (c : Chip) (item : Nat) : List Nat :=
  ((List.range 8).map fun i => octet (c.getAt E.ZT_ORDER item) i).filter (c.slotValid item)

/-- The sixteen octets of a zone's entry (R213). -/
def Chip.levelOf (c : Chip) (item slot : Nat) : Nat := bits (c.getAt E.ZT_ENTRIES item) (128 * slot + 127) (128 * slot)

/-- The entries a read tries: the hint when its zone is the current zone, else the first slot of
the order, then the alternates (R214). -/
def Chip.entryOrder (c : Chip) (s : Sb) (m : Member) : List Nat :=
  let z := c.zoneOf s m
  let o := c.zoneOrder (zoneItem s.qlc z)
  if m.hinted ∧ m.hintZone = z ∧ o.contains m.hintSlot then m.hintSlot :: o.erase m.hintSlot else o

/-! ### Members and marks (R214, R225, R226) -/

def Chip.setMember (c : Chip) (sb pos : Nat) (f : Member → Member) : Chip :=
  match c.sbOf sb with
  | none => c
  | some s => match s.members[pos]? with
    | none => c
    | some m => c.setSb { s with members := s.members.set pos (f m) }

/-- A superblock is marked for early relocation, with the cause of R225: 1 a deep recovery, 2 many
corrections, 3 read disturb, 4 an unresolved row, 5 a replacement with a filler codeword (R249, R255). A superblock that is marked keeps its mark. -/
def Chip.markSb (c : Chip) (sb cause : Nat) : Chip :=
  match c.sbOf sb with
  | none => c
  | some s => match s.marked with
    | some _ => c
    | none => ((c.setSb { s with marked := some c.now }).count E.EARLY_MARKS 1).event 0x134 0 1 noUnit [sb, cause]

/-- A mark raised by a recovery counts on the member block for life (R226). -/
def Chip.markRecovery (c : Chip) (e : Nat) : Chip :=
  match c.sbOf (entrySb e) with
  | none => c
  | some s => match s.members[slotMember (entrySlot e)]? with
    | none => c
    | some m =>
      let b := c.blockOf m.lun m.block
      (c.setBlock { b with marks := b.marks + 1 }).markSb s.idx 1

/-- Reads of a member block since the superblock closed; at the limit of its mode the superblock is
marked (R225). Before it closes none counts. -/
def Chip.countReads (c : Chip) (e n : Nat) : Chip :=
  match c.sbOf (entrySb e) with
  | none => c
  | some s =>
    if s.state == .open || s.state == .assembling then c else
    let c1 := c.setMember s.idx (slotMember (entrySlot e)) fun m => { m with reads := m.reads + n }
    let limit := if s.qlc then c.get E.READ_DISTURB_QLC else c.get E.READ_DISTURB_SLC
    match (c1.sbOf s.idx).bind fun s => s.members[slotMember (entrySlot e)]? with
    | some m => if limit ≤ m.reads then c1.markSb s.idx 3 else c1
    | none => c1

/-! ### Starting reads (R214, R217, R218) -/

/-- The levels of the first entry of a read of a page (R214). -/
def Chip.firstLevel (c : Chip) (e : Nat) : List (Nat × Int) :=
  match c.sbOf (entrySb e) with
  | none => []
  | some s => match s.members[slotMember (entrySlot e)]? with
    | none => []
    | some m => [(c.levelOf (zoneItem s.qlc (c.zoneOf s m)) (nth (c.entryOrder s m) 0), 0)]

/-- Engines of a kind in a quadrant (R208). -/
def enginesIn (quad : Nat) (hard : Bool) : List Nat :=
  if hard then (List.range 8).map (8 * quad + ·) else (List.range 4).map (32 + 4 * quad + ·)

/-- Codewords queued on an engine: those whose decode is still to end. A codeword without one is on engine 48. -/
def Chip.engineLoad (c : Chip) (e : Nat) : Nat :=
  sumOf ((c.rd.tasks.filter fun t => t.word.isNone).map fun t =>
    (if t.engine = e then 1 else 0) + (t.members.filter fun m => decide (m.engine = e)).length)

/-- The ONLINE engine of a kind with the least queued work in a quadrant, the lowest index on a tie, or else in the next quadrant
that has one; `skip` engines are passed over (R208, R210). -/
def Chip.engineOf (c : Chip) (quad : Nat) (hard : Bool) (skip : List Nat) : Option Nat :=
  (List.range c.quads).findSome? fun k =>
    let l := (enginesIn ((quad + k) % c.quads) hard).filter fun e => decide (c.reported (mkUnit kLDPC e) = 1) && !skip.contains e
    let least := minOf (2 ^ 40) (l.map c.engineLoad)
    l.find? fun e => decide (c.engineLoad e = least)

/-- The engine of a codeword: one of the kind or, where no hard engine is left, a soft one; 48 for none (R208, R209). -/
def Chip.engineFor (c : Chip) (quad : Nat) (hard : Bool) : Nat :=
  match c.engineOf quad hard [] with
  | some e => e
  | none => (c.engineOf quad false []).getD 48

/-- The quadrant that decodes codewords of a channel for a command (R209): the one to which admission routed them, which holds its
work, or else the channel's own, or the next one with an engine of the kind, or with a soft one. -/
def Chip.quadFor (c : Chip) (h ch : Nat) (hard : Bool) : Option Nat :=
  let mine := fun (q : Nat) => c.um.work.any fun w => decide (w.h = h ∧ w.res = .hard q)
  match (if hard ∧ h ≠ 0 then (c.hardQuads ch).find? mine else none) with
  | some q => some q
  | none => match c.decodeQuad ch hard with
    | some q => some q
    | none => c.decodeQuad ch false

/-- The quadrant that decodes n codewords of a channel (R209); each that is decoded outside
its own quadrant counts, and one that has no engine of the kind left there is reported (R227, R228). -/
def Chip.routeTo (c : Chip) (h ch : Nat) (hard : Bool) (n : Nat) : Nat × Chip :=
  match c.quadFor h ch hard with
  | none => (ch / 8, c)
  | some q =>
    let own := if hard then c.hardOnline (ch / 8) else c.softOnline (ch / 8)
    if q = ch / 8 then (q, c)
    else (q, if own = 0 then (c.count E.ROUTED n).event 0x137 0 1 noUnit [ch / 8, q] else c.count E.ROUTED n)

/-- A NAND that returns soft bits gives two pages, any other three (R218). -/
def Chip.softPages (c : Chip) (lun : Nat) : Nat :=
  match c.md.tgts.find? fun x => decide (x.tgt = lun / 4) with
  | some x => if x.softBit then 2 else 3
  | none => 3

/-- Senses of a page on a die and block for a group of codewords, one at each of some levels, and their transfers: one page, or for a soft
read those of R218. -/
def Chip.senseOn (c : Chip) (place : Nat × Nat) (e cls grp : Nat) (levels : List (Nat × Int)) (cws : Nat) : Chip :=
  let qlc := ((c.sbOf (entrySb e)).map Sb.qlc).getD true
  let xfers := if levels.length ≤ 1 then 1 else c.softPages place.1
  let o := { Op.new .read cls qlc place.2 (slotPage (entrySlot e) % max 1 c.md.planes) with
    task := grp, senses := max 1 levels.length, levels := levels, bus := xfers * cws * cdiv (c.cwPs (chanOf place.1)) 125000 }
  (c.queueOp place.1 o).countReads e cws

/-- Senses of the page that an entry names. -/
def Chip.sense (c : Chip) (e cls grp : Nat) (levels : List (Nat × Int)) (cws : Nat) : Chip :=
  match (c.sbOf (entrySb e)).bind fun s => s.members[slotMember (entrySlot e)]? with
  | none => c
  | some m => c.senseOn (m.lun, m.block) e cls grp levels cws

/-- The codewords of one unit enter the ladder: the entries and the order in force are taken now
(R214, R217). `step` is 1, or 4 for a read admitted as a read-around. -/
def Chip.addTasks (c : Chip) (h unit entry : Nat) (cws : List Nat) (cls own step : Nat) : Chip :=
  match c.sbOf (entrySb entry) with
  | none => c
  | some s => match s.members[slotMember (entrySlot entry)]? with
    | none => c
    | some m =>
      let grp := c.rd.nextTask
      let hard := decide (step ≠ 4)
      let r := if hard then c.routeTo h (chanOf m.lun) true cws.length else (chanOf m.lun / 8, c)
      let path : Touch := { unit := unit, entry := entry, lun := m.lun, plane := slotPage (entrySlot entry) % max 1 c.md.planes, qlc := s.qlc,
                            cws := cws.length, quad := none, pos := slotMember (entrySlot entry) }
      let due := ((c.cmd h).map Cmd.duePs).getD 0
      let zone := c.zoneOf s m
      let order := c.entryOrder s m
      let levels := order.map (c.levelOf (zoneItem s.qlc zone))
      let one := fun (c : Chip) (p : Nat × Nat) => { c with rd := { c.rd with tasks := c.rd.tasks ++ [({
        id := grp + p.2, h := h, unit := unit, cw := p.1, entry := entry, order := order, zone := zone, levels := levels, idx := 0,
        step := step, reached := 0, raTried := false, ran3 := false, cls := cls, own := own, word := none,
        quad := r.1, engine := if hard then c.engineFor r.1 true else 48, cont := false, skipped := false, grp := grp, members := [],
        pos := slotMember (entrySlot entry), parity := false, endPs := c.nowPs + c.diePath path [path] due } : Task)] } }
      let c1 := r.2.each (cws.zip (List.range cws.length)) one
      { c1 with rd := { c1.rd with nextTask := grp + cws.length } }

/-- Step 1 of a read of some codewords of one unit: one sense for all of them (R218). -/
def Chip.startRead (c : Chip) (h unit entry : Nat) (cws : List Nat) (cls own : Nat) : Chip :=
  (c.addTasks h unit entry cws cls own 1).sense entry cls c.rd.nextTask (c.firstLevel entry) cws.length

/-- A read pins the superblock it reads until its data has been transferred (R150). -/
def Chip.pin (c : Chip) (h sb : Nat) : Chip :=
  let l := (h, sb) :: c.rd.pins
  { c with rd := { c.rd with pins := l } }

def Chip.unpin (c : Chip) (h : Nat) : Chip :=
  let l := drop' (fun p => decide (p.1 = h)) c.rd.pins
  { c with rd := { c.rd with pins := l } }

/-- The reads of a self-test: their activity class ST, the number they carry in place of a command's, and their owner's code
(R94). -/
abbrev classST : Nat := 8
abbrev testH : Nat := 2 ^ 41
abbrev ownTest : Nat := 19

/-- The codewords of a member replacement: their owner's code, and the number they carry in place of a command's (R252). -/
abbrev ownRecast : Nat := 18
def recastH (sb pos : Nat) : Nat := 2 ^ 42 + 32 * sb + pos

/-- The codewords of a row that the Assayer checks: their owner's code, their number, and the superblock that they belong to (R248). -/
abbrev ownPatrol : Nat := 17
abbrev patrolH : Nat := 2 ^ 43

/-- A unit index that no unit has: what a reader gives for a page that holds no unit of the map, whose tag it does not check. -/
abbrev anyUnit : Nat := 2 ^ 36

/-- The page of a member of a row is read for a work that reads whole rows (Recast, the Assayer): the tasks know their position, and that
a codeword is one of parity (R234). For Recast it is the page of a replacement where that is safe (R252). -/
def Chip.readMember (c : Chip) (h cls own : Nat) (s : Sb) (row m : Nat) (sensed : Bool) : Chip :=
  let e := s.pageAt row m
  let grp := c.rd.nextTask
  let par := (parityPos s.idx row s.p2).contains m
  let c1 := c.addTasks h (if par then anyUnit else (s.unitAt row m).getD anyUnit) e [0, 1, 2, 3] cls own 1
  let l := change (fun (t : Task) => decide (t.grp = grp)) (fun t => { t with pos := m, parity := par }) c1.rd.tasks
  let c2 := { c1 with rd := { c1.rd with tasks := l } }
  if sensed then c2
  else match c2.placeAt (decide (own = ownRecast)) s row m with
    | none => c2
    | some p => c2.senseOn p e cls grp (c.firstLevel e) 4

/-- The next unit of a self-test's segment is read (R94). -/
def Chip.testNext (c : Chip) : Chip :=
  match c.lg.stLeft with
  | [] => c
  | u :: r => (({ c with lg := { c.lg with stLeft := r } }).pin testH (entrySb u.2)).startRead testH u.1 u.2 [0, 1, 2, 3] classST ownTest

def Chip.taskOf (c : Chip) (id : Nat) : Option Task := c.rd.tasks.find? fun t => decide (t.id = id)

def Chip.setTask (c : Chip) (t : Task) : Chip :=
  let l := change (fun q => decide (q.id = t.id)) (fun _ => t) c.rd.tasks
  { c with rd := { c.rd with tasks := l } }

/-- A die read of a group is still to end, so that no decode of it can end (R184). -/
def Chip.sensing (c : Chip) (grp : Nat) : Bool :=
  c.md.dies.any fun d => d.ops.any fun o => o.kind == .read && decide (o.task = grp)

end Sys2Proof.Machine
end

