-- ==== Sys2Proof/Machine/Stripes.lean ====
section
/-! DEFINITION. Stripe rows, parity, small writes and patches, the layout table, moves of units and
exposure (R144 to R150, R154, R233 to R252). -/
namespace Sys2Proof.Machine

/-! ### The layout table (R237 to R239) -/

/-- A number above 1 without a divisor from 2 to its root. -/
def isPrime (n : Nat) : Bool :=
  decide (2 ≤ n) && (List.range n).all fun d => decide (d < 2) || decide (n < d * d) || decide (n % d ≠ 0)

/-- The smallest prime that is at least n. -/
def primeFrom (n : Nat) : Nat := ((List.range (n + 2)).map (n + ·)).find? isPrime |>.getD 2

/-- The eligible set: LUNs ONLINE or DEGRADED in ascending index (R237). -/
def Chip.eligibleNow (c : Chip) : List Nat :=
  let l := (c.md.dies.filter fun d => c.usable (mkUnit kLUN d.lun)).map Die.lun
  (List.range 2048).filter fun i => l.contains i

/-- The first value below n in the sequence f(x), f(f(x)), … (R237). -/
def firstBelow (f : Nat → Nat) (n : Nat) : Nat → Nat → Nat
  | 0, x => x % n
  | k + 1, x => let y := f x; if y < n then y else firstBelow f n k y

/-- Permutation k of the layout family over n dies (R237). -/
def Chip.layoutPerm (c : Chip) (k n x : Nat) : Nat :=
  let p := primeFrom n
  let e := bits (c.get E.LAYOUT_FAMILY) (32 * k + 31) (32 * k)
  let a := if bits e 11 0 % p = 0 then 1 else bits e 11 0 % p
  let o := bits e 23 12 % p
  firstBelow (fun y => (a * y + o) % p) n p x

/-- Rows of the layout table over the eligible set in force (R237). -/
def Chip.layoutRows (c : Chip) : Nat := c.get E.LAYOUT_PERMS * (c.sb.eligible.length / 32)

/-- The dies of row r of the table (R237). -/
def Chip.layoutRow (c : Chip) (r : Nat) : List Nat :=
  let n := c.sb.eligible.length
  let g := n / 32
  (List.range 32).map fun i => nth c.sb.eligible (c.layoutPerm (r / g) n (32 * (r % g) + i))

/-- Fewest and most rows of one pass that two dies of the eligible set share (R239). -/
def Chip.pairFigures (c : Chip) : Nat × Nat :=
  let rows := (List.range c.layoutRows).map c.layoutRow
  let e := c.sb.eligible
  let counts := e.flatMap fun a => (e.filter fun b => decide (a < b)).map fun b =>
    (rows.filter fun r => r.contains a && r.contains b).length
  if rows = [] then (0, 0) else (minOf (2 ^ 20) counts, maxOf counts)

/-- The layout table is built again (R239). -/
def Chip.rebuildLayout (c : Chip) : Chip :=
  let g := (c.get E.LAYOUT_GEN + 1) % 2 ^ 20
  let e := c.eligibleNow
  let c1 := { c with sb := { c.sb with eligible := e, layoutRow := 0 } }
  let f := c1.pairFigures
  (({ c1 with sb := { c1.sb with pairMin := f.1, pairMax := f.2 } }).set E.LAYOUT_GEN g).event 0x18C 0 1 noUnit [g, e.length]

/-! ### Closing and fold queue -/

def Chip.setFoldQ (c : Chip) (q : List Nat) : Chip := { c with sb := { c.sb with foldQ := q } }
def Chip.setVictims (c : Chip) (q : List Nat) : Chip := { c with sb := { c.sb with victims := q } }

/-- A superblock goes to the head of the fold queue (SLC) or of the victims (QLC) (R154). -/
def Chip.headOfQueue (c : Chip) (s : Sb) : Chip :=
  if s.qlc then c.setVictims (s.idx :: c.sb.victims.erase s.idx)
  else if s.kind = .host then c.setFoldQ (s.idx :: c.sb.foldQ.erase s.idx)
  else c

/-- A superblock closes: its retention stress and its reads start at 0 (R212, R225), and closed host
SLC joins the fold queue (R147). -/
def Chip.closeSb (c : Chip) (idx : Nat) : Chip :=
  match c.sbOf idx with
  | none => c
  | some s =>
    if s.state ≠ .open then c
    else
      let ms := s.members.map fun m => { m with reads := 0 }
      let c1 := c.setSb { s with state := .closed, closeT := c.now, stress := 0, members := ms, patrolT := c.now }
      if !s.qlc ∧ s.kind = .host ∧ !c1.sb.foldQ.contains idx then c1.setFoldQ (c1.sb.foldQ ++ [idx]) else c1

/-! ### Rows (R144, R233, R240) -/

def Chip.rowOf (c : Chip) (id : Nat) : Option Row := c.sb.rows.find? fun r => decide (r.id = id)

def Chip.setRow (c : Chip) (r : Row) : Chip :=
  let l := change (fun q => decide (q.id = r.id)) (fun _ => r) c.sb.rows
  { c with sb := { c.sb with rows := l } }

/-- The next row of an open superblock is opened (R240). -/
def Chip.openRow (c : Chip) (s : Sb) : Option Chip :=
  let n := if s.p2 then 2 else 1
  if s.state = .open ∧ s.rows < s.pages ∧ c.accRoom s.kind n then
    let r : Row := { id := c.sb.nextRow, sb := s.idx, row := s.rows, entries := [], passed := [], failed := [],
                     filler := [], quad := c.rowQuad, acc := n, since := c.now, closing := false, parityIssued := false,
                     spanWait := false, more := if s.qlc then c.md.passes - 1 else 0, folded := [] }
    let l := c.sb.rows ++ [r]
    let next := c.sb.nextRow + 1
    some (({ c with sb := { c.sb with rows := l, nextRow := next } }).setSb { s with rows := s.rows + 1 })
  else none

/-- The next data position of a row that nothing holds. -/
def Row.next (r : Row) (s : Sb) : Option Nat :=
  (dataPos s.idx r.row s.p2).find? fun m =>
    !(r.entries.any fun e => decide (e.1 = m)) && !r.filler.contains m && !r.failed.contains m

/-- An open row of an open superblock with a free data position, by a test on the superblock. -/
def Chip.rowFor (c : Chip) (p : Sb → Bool) : Option (Row × Sb) :=
  c.sb.rows.findSome? fun r => match c.sbOf r.sb with
    | some s => if p s && s.state == .open && !r.closing && (r.next s).isSome then some (r, s) else none
    | none => none

/-- A row that can take a page now, opened if need be. -/
def Chip.rowReady (c : Chip) (p : Sb → Bool) : Option (Row × Sb × Chip) :=
  match c.rowFor p with
  | some (r, s) => some (r, s, c)
  | none =>
    match c.sb.sbs.findSome? fun s => if p s then c.openRow s else none with
    | none => none
    | some c1 => (c1.rowFor p).map fun x => (x.1, x.2, c1)

/-- The program of a page of a row in its present pass with these words: an operation of the member's die under an
activity class (R187, R241). -/
def Chip.programPage (c : Chip) (s : Sb) (r : Row) (m cls : Nat) (ws : List Nat) : Chip :=
  match s.members[m]? with
  | none => c
  | some x =>
    let o := { Op.new .program cls s.qlc x.block (r.row % max 1 c.md.planes) with
      row := r.id, member := m, page := ws, bus := 4 * cdiv (c.cwPs (chanOf x.lun)) 125000 }
    (c.setBlock { c.blockOf x.lun x.block with mode := 0 }).queueOp x.lun o

/-- The activity class of a superblock's pages: host data HW, otherwise the class of its stream:
1 fold FD, 2 collection GC, 3 refresh RF, 4 Recast RB, 5 and 6 system and reserve SY (R147, R225,
R250). -/
def streamClass (stream : Nat) : Nat := nth [2, 6, 5, 4, 3, 1, 1] stream

/-- The parity of a position goes, or has gone, to a patch page (R243, R244). -/
def Sb.moved (s : Sb) (row m : Nat) : Bool :=
  (s.patches ++ s.pend).any fun p => decide (p.row = row)
    && ((p.pReloc.isSome && decide (m = (s.idx + row) % 32)) || (p.qReloc.isSome && decide (m = (s.idx + row + 1) % 32)))

/-- Once every data page of a row has reported pass in a pass, its parity pages are issued, formed over what has been folded into its
accumulator (R240, R241). -/
def Chip.rowProgress (c : Chip) (id : Nat) : Chip :=
  match c.rowOf id with
  | none => c
  | some r => match c.sbOf r.sb with
    | none => c
    | some s =>
      let ready := (dataPos s.idx r.row s.p2).all fun m => r.passed.contains m || r.failed.contains m
      if ready ∧ !r.parityIssued then
        let c1 := c.setRow { r with parityIssued := true }
        let ps := parityPos s.idx r.row s.p2
        c1.each ((ps.zip (List.range ps.length)).filter fun p => !s.moved r.row p.1 && !r.passed.contains p.1) fun c p =>
          c.programPage s r p.1 (streamClass s.stream) (parityWords s r.row p.2 r.folded)
      else c

/-- Filler at every free data position of a row (R144); each counts as a filler page. -/
def Chip.padRow (c : Chip) (id : Nat) : Chip :=
  match c.rowOf id with
  | none => c
  | some r => match c.sbOf r.sb with
    | none => c
    | some s =>
      let free := (dataPos s.idx r.row s.p2).filter fun m =>
        !(r.entries.any fun e => decide (e.1 = m)) && !r.filler.contains m && !r.failed.contains m
      let r1 := { r with filler := r.filler ++ free, closing := true }
      let c1 := (c.setRow r1).count E.CRU_PAD_UNITS free.length
      (c1.each free fun c m => c.programPage s r1 m (streamClass s.stream) fillerWords).rowProgress id

/-! ### Small writes and patches (R243 to R246) -/

/-- Patch entries of a superblock record, in force and pending. -/
def Sb.patchCount (s : Sb) : Nat := s.patches.length + s.pend.length

/-- The 24 octets of a patch entry (R245): row, void mask, relocation flags and the two parity locations, all ones where the
parity is not relocated. -/
def Patch.octets (p : Patch) : Nat :=
  let mask := sumOf (p.voids.eraseDups.map fun m => 2 ^ m)
  let flags := (if p.pReloc.isSome then 1 else 0) + if p.qReloc.isSome then 2 else 0
  p.row + at' mask 16 + at' flags 48 + at' (p.pReloc.getD (2 ^ 40 - 1)) 64 + at' (p.qReloc.getD (2 ^ 40 - 1)) 104

/-- A patch page: the place of the next page in an open system superblock, programmed with these words (R146, R243). -/
def Chip.systemPage (c : Chip) (ws : List Nat) : Option (Nat × Chip) :=
  (c.sb.sbs.find? fun s => c.takesPages s && decide (s.used < s.dataSlots)).map fun s =>
    let row := s.used / 31
    (mkEntry s.idx row (nth (dataPos s.idx row false) (s.used % 31)), (c.usePage s.idx ws).countSystem 1)

/-- A small write that cannot be recorded: the row keeps its old parity, the members that would have become void count as
unreadable, and the superblock's units are moved ahead of every other relocation (R246). -/
def Chip.patchFull (c : Chip) (s : Sb) (row : Nat) (voids : List Nat) : Chip :=
  ((c.setSb { s with firstMark := true, marked := some c.now, spoilt := s.spoilt ++ voids.map (row, ·) }).count E.PATCH_FULL 1).event 0x187 0 3 noUnit [s.idx]

/-- Patch pages in use: those that patch entries name (R243, R245). -/
def Chip.patchPages (c : Chip) : Nat :=
  (c.sb.sbs.flatMap fun s => (s.patches ++ s.pend).flatMap fun p => p.pReloc.toList ++ p.qReloc.toList).length

/-- The PATCH_SB_RESERVE superblocks have room for so many more patch pages (R146). -/
def Chip.patchRoom (c : Chip) (n : Nat) : Bool := decide (c.patchPages + n ≤ c.get E.PATCH_SB_RESERVE * 31 * c.slcPages)

/-- A small write at a row: a set of void members, and the parity positions that go to patch pages
(R243 to R245). `data` are the pages of the data members that remain: the new parity is that over them, which is the old one less what the
void members contributed. The entry waits for PATCH_ENTRY_EFFECT. -/
def Chip.smallWrite (c : Chip) (idx row : Nat) (voids : List Nat) (pAway qAway : Bool) (data : List (Nat × List Nat)) : Chip :=
  match c.sbOf idx with
  | none => c
  | some s =>
    let pp := if pAway then c.systemPage (parityWords s row 0 data) else some (0, c)
    match pp with
    | none => c.patchFull s row voids
    | some (p, c1) =>
      let qq := if qAway then c1.systemPage (parityWords s row 1 data) else some (0, c1)
      match qq with
      | none => c.patchFull s row voids
      | some (q, c2) =>
        if c.get E.PATCH_MAX ≤ s.patchCount ∨ !c.patchRoom ((if pAway then 1 else 0) + (if qAway then 1 else 0)) then c.patchFull s row voids
        else
          let s1 := (c2.sbOf idx).getD s
          let e : Patch := { row := row, voids := voids, pReloc := if pAway then some p else none,
                             qReloc := if qAway then some q else none }
          (c2.setSb { s1 with pend := s1.pend ++ [e] }).count E.SMALL_WRITES 1

/-- Commits of a row that the row can no longer program return to the front of those that wait for
a row (R154, R197). -/
def Chip.unplace (c : Chip) (ids : List Nat) : Chip :=
  let back := change (fun (s : Slot) => ids.contains s.id) (fun s => { s with issued := false, row := none }) c.ft.slots
  let keep := ids.filter fun i => decide (i ≠ 0)
  let ord := keep ++ c.ft.order
  { c with ft := { c.ft with slots := back, order := ord } }

/-- A program of a member of a row is under way, or has reported pass in this pass or in an earlier one. -/
def Chip.pageBegun (c : Chip) (s : Sb) (r : Row) (m : Nat) : Bool :=
  r.passed.contains m || (s.qlc && decide (r.more + 1 < c.md.passes))
    || c.md.dies.any fun d => d.ops.any fun o => o.kind == .program && o.confirmed && decide (o.row = r.id ∧ o.member = m)

/-- A row closes at a failure or retirement: the given members and the data positions whose page has not begun its transfer
become void and are not programmed, the data on them goes to new rows (a copy starts again from its source), and
parity is formed over the rest, on a patch page where its own page is among the given ones or has been programmed already (R243,
R244). -/
def Chip.voidRow (c : Chip) (id : Nat) (bad : List Nat) : Chip :=
  match c.rowOf id with
  | none => c
  | some r => match c.sbOf r.sb with
    | none => c
    | some s =>
      let data := dataPos s.idx r.row s.p2
      let voids := data.filter fun m => bad.contains m || r.failed.contains m || !(r.folded.any fun p => decide (p.1 = m))
      let lost := (r.entries.filter fun e => voids.contains e.1).map Prod.snd
      let kept := r.folded.filter fun p => !voids.contains p.1
      let less := decide (kept.length < r.folded.length)
      let away := fun (m : Nat) => bad.contains m || (less && c.pageBegun s r m)
      let r1 := { r with entries := drop' (fun e => voids.contains e.1) r.entries, failed := voids, closing := true,
                         filler := drop' (fun m => voids.contains m) r.filler, folded := kept, parityIssued := false }
      let hs := drop' (fun (x : Held) => decide (entrySb x.dst = s.idx ∧ slotPage (entrySlot x.dst) = r.row)
        && voids.contains (slotMember (entrySlot x.dst))) c.sb.held
      let gone := fun (o : Op) => o.kind == .program && !o.confirmed && decide (o.row = r.id)
        && (voids.contains o.member || (parityPos s.idx r.row s.p2).contains o.member)
      let dies := c.md.dies.map fun d => { d with ops := drop' gone d.ops }
      let c1 := (({ c with md := { c.md with dies := dies } }).setRow r1).unplace lost
      (({ c1 with sb := { c1.sb with held := hs } }).smallWrite s.idx r.row voids (away ((s.idx + r.row) % 32))
        (s.p2 && away ((s.idx + r.row + 1) % 32)) kept).rowProgress id

/-! ### Placing host slots (R144, R145, R238) -/

/-- The layout of a unit's namespace. -/
def Chip.p2Of (c : Chip) (unit : Nat) : Bool := ((c.ownerOf unit).map fun o => o.1.p2).getD false

/-- One committed slot, oldest first, goes to an open host row of its layout. -/
def Chip.fillOne (c : Chip) : Option Chip :=
  match c.ft.order with
  | [] => none
  | id :: rest => match c.slotOf id with
    | none => some { c with ft := { c.ft with order := rest } }
    | some sl =>
      let p2 := c.p2Of sl.unit
      match c.rowReady fun s => s.kind == .host && (s.p2 == p2) with
      | none => none
      | some (r, s, c1) => match r.next s with
        | none => none
        | some m =>
          let r1 := { r with entries := r.entries ++ [(m, id)], since := if r.entries = [] then c1.now else r.since }
          let c2 := ({ c1 with ft := { c1.ft with order := rest } }).setSlot { sl with issued := true, row := some r.id }
          some ((c2.setRow r1).programPage s r1 m 2 (sl.words c2.seqNext))

/-- At most n slots are placed; when none can be and no host SLC superblock is free, host writes
wait for a fold (R146). -/
def Chip.fillN : Nat → Chip → Chip
  | 0, c => c
  | n + 1, c => match c.fillOne with
    | some c1 => fillN n c1
    | none => if c.ft.order ≠ [] ∧ c.hostSlcFree = 0 then c.eventFirst 0x305 0 1 noUnit [] else c

def Chip.fillRows (c : Chip) : Chip := Chip.fillN (c.ft.order.length + 1) c

/-- An uncommitted slot of this side that no energy credit backs: its write was admitted in write-through mode (R145, R266). -/
def Slot.unbacked (s : Slot) : Bool := s.wseq.isNone && !s.energy && !s.guest

/-- A row is to close at once: in write-through mode, and where it holds a slot that is to be programmed before its commit point (R145,
R266). -/
def Chip.closesNow (c : Chip) (r : Row) : Bool :=
  c.writeThrough || r.entries.any fun e => match c.slotOf e.2 with
    | some s => s.unbacked
    | none => false

/-- Committed or staged data goes to its rows; in write-through mode a write's rows are closed at
once with filler (R145). -/
def Chip.pour (c : Chip) : Chip :=
  let c1 := c.fillRows
  c1.each ((c1.sb.rows.filter fun r => decide (r.entries ≠ []) && !r.closing && c1.closesNow r && match c1.sbOf r.sb with
    | some s => s.kind == .host
    | none => false).map Row.id) Chip.padRow

/-- The open host rows close at once with filler, so that the Crucible drains (R282, R283, R288). -/
def Chip.drainCrucible (c : Chip) : Chip :=
  let c1 := c.fillRows
  c1.each ((c1.sb.rows.filter fun r => decide (r.entries ≠ []) && !r.closing && match c1.sbOf r.sb with
    | some s => s.kind == .host
    | none => false).map Row.id) Chip.padRow

/-! ### Row close (R144) -/

/-- A parity position that needs no page of its own: its parity stands on a patch page in force. -/
def Sb.away (s : Sb) (row m : Nat) : Bool :=
  match s.patchOf row with
  | none => false
  | some p => (p.pReloc.isSome && decide (m = (s.idx + row) % 32))
      || (p.qReloc.isSome && decide (m = (s.idx + row + 1) % 32))

/-- Every member of a row has been programmed with pass status in the present pass, or has its parity on a patch page
in force (R241). -/
def Row.passDone (r : Row) (s : Sb) : Bool :=
  r.parityIssued && (parityPos s.idx r.row s.p2).all (fun m => r.passed.contains m || s.away r.row m)
    && (dataPos s.idx r.row s.p2).all fun m => r.passed.contains m || r.failed.contains m

/-- Every member of a row has been programmed with pass status in every pass, or has its parity on a patch page
in force (R144). -/
def Row.passedAll (r : Row) (s : Sb) : Bool := decide (r.more = 0) && r.passDone s

/-- A unit is placed in a superblock's record of slots. -/
def Chip.placeUnit (c : Chip) (entry unit : Nat) : Chip :=
  match c.sbOf (entrySb entry) with
  | none => c
  | some s => c.setSb { s with placed := s.placed ++ [{ slot := entrySlot entry, unit := unit }] }

/-- The first write sequence placed in an open superblock (R460). -/
def Chip.noteSeq (c : Chip) (idx : Nat) (wseq : Option Nat) : Chip :=
  match c.sbOf idx with
  | some s => if s.seq0.isNone then c.setSb { s with seq0 := wseq } else c
  | none => c

/-- One slot of a closing row (R144). -/
def Chip.placeSlot (c : Chip) (s : Sb) (r : Row) (m id : Nat) : Chip :=
  match c.slotOf id with
  | none => c
  | some sl =>
    let e := mkEntry s.idx r.row m
    if c.ft.dir.get 0 sl.unit = id then
      let dir := c.ft.dir.put 0 sl.unit 0
      (((({ c with ft := { c.ft with dir := dir } }).mapChange 0 sl.unit 1 e).placeUnit e sl.unit).noteSeq s.idx sl.wseq).freeSlot id
    else c.freeSlot id

/-- A row closes: each slot the directory still names is placed, and every slot is freed with its
credits; the last row of a full superblock closes it (R144). A row that holds a staged slot of
write-through mode waits for its commit point (R145), and one whose placements find no room for their records for the journal
(R137, R138); placements held back by R460 count once in SEQ_SPAN_WAITS. -/
def Chip.closeRow (c : Chip) (id : Nat) : Chip :=
  match c.rowOf id with
  | none => c
  | some r => match c.sbOf r.sb with
    | none => c.dropRow id
    | some s =>
      let slots := r.entries.filterMap fun e => c.slotOf e.2
      let named := slots.filter fun sl => decide (c.ft.dir.get 0 sl.unit = sl.id)
      let held := (slots.any fun sl => sl.wseq.isNone) || (named ≠ [] && !c.placesFit (named.map Slot.unit))
      if r.passedAll s ∧ held ∧ c.spanHeld ∧ r.spanWait = false then (c.setRow { r with spanWait := true }).count E.SEQ_SPAN_WAITS named.length
      else if !r.passedAll s ∨ held then c
      else
        let c1 := c.each r.entries fun c e => c.placeSlot s r e.1 e.2
        let c2 := c1.dropRow id
        let last := decide (s.pages ≤ s.rows) && !(c2.sb.rows.any fun q => decide (q.sb = s.idx))
        (if last then c2.closeSb s.idx else c2).pour

/-! ### Moves (R147 to R150, R154, R224, R225) -/

/-- An open superblock of a stream and a layout: stream 0 is host SLC. -/
def Sb.takes (s : Sb) (stream : Nat) (p2 : Bool) : Bool := decide (s.stream = stream) && s.p2 == p2

/-- The source of a copy has been read, but for what staging holds: its page is programmed at the destination, with data and tags
unchanged (R142, R147, R206, R224). A copy that has no word for a codeword is programmed as filler. -/
def Chip.programMove (c : Chip) (unit src : Nat) (read : List (Nat × Nat)) : Chip :=
  match c.sb.held.find? fun x => decide (x.unit = unit ∧ x.src = src) with
  | none => c
  | some x => match c.sbOf (entrySb x.dst) with
    | none => c
    | some s => match c.sb.rows.find? fun r => decide (r.sb = s.idx ∧ r.row = slotPage (entrySlot x.dst)) with
      | none => c
      | some r =>
        let staged := (c.sb.realloc.filter fun q => decide (q.1 = unit ∧ q.2.1 = src)).flatMap fun q => q.2.2
        let ws := (List.range 4).filterMap fun k => ((read ++ staged).find? fun p => decide (p.1 = k)).map Prod.snd
        let page := if ws.length = 4 then ws else fillerWords
        let hs := c.sb.held.replace x { x with wseq := tagSeq (nth page 0) }
        ({ c with sb := { c.sb with held := hs } }).programPage s r (slotMember (entrySlot x.dst)) x.cls page

/-- A unit gets a place at the destination and its source is read under the class of the work
(R147, R221), but for the codewords that are in staging with their words (R224); none where no row can take it. -/
def Chip.startMove (c : Chip) (unit src cls stream : Nat) (staged : List (Nat × Nat)) : Option Chip :=
  match c.rowReady fun s => s.takes stream (c.p2Of unit) with
  | none => none
  | some (r, s, c1) => match r.next s with
    | none => none
    | some m =>
      let e := mkEntry s.idx r.row m
      let hd : Held := { unit := unit, src := src, dst := e, cls := cls, wseq := 0, queued := decide (staged ≠ []) }
      let c2 := c1.setRow { r with entries := r.entries ++ [(m, 0)] }
      let l := c2.sb.held ++ [hd]
      let c3 := { c2 with sb := { c2.sb with held := l } }
      let cws := [0, 1, 2, 3].filter fun k => !(staged.any fun p => decide (p.1 = k))
      some (if cws = [] then c3.programMove unit src [] else c3.startRead 0 unit src cws cls (cls + 1))

/-- Units of a superblock move in unit-index order as far as places last. Units on their way already,
dead or lost are not moved (R147, R222). -/
def Chip.moveList (c : Chip) (s : Sb) (ps : List Placed) (cls stream : Nat) : Chip :=
  let us := ps.filter fun p =>
    !c.isLost p.unit && !(c.sb.held.any fun x => decide (x.unit = p.unit ∧ x.src = s.idx * 2 ^ 20 + p.slot))
  let ordered := us.mergeSort fun a b => decide (a.unit ≤ b.unit)
  c.each ordered fun c p => (c.startMove p.unit (s.idx * 2 ^ 20 + p.slot) cls stream []).getD c

/-- A move that finds no row waits in the queue of R154. -/
def Chip.moveOrWait (c : Chip) (q : Nat × Nat × Nat × Nat) : Chip :=
  match c.startMove q.1 q.2.1 q.2.2.1 q.2.2.2 [] with
  | some c1 => c1
  | none => { c with sb := { c.sb with moveQ := c.sb.moveQ ++ [q] } }

/-- The moves that wait are tried again; one whose unit has gone elsewhere, is lost or is on its way is dropped (R154). -/
def Chip.retryMoves (c : Chip) : Chip :=
  let live := c.sb.moveQ.filter fun q =>
    decide (c.mapOf q.1 = q.2.1) && !c.isLost q.1 && !(c.sb.held.any fun x => decide (x.unit = q.1 ∧ x.src = q.2.1))
  ({ c with sb := { c.sb with moveQ := [] } }).each live Chip.moveOrWait

def Chip.moveUnits (c : Chip) (s : Sb) (cls stream : Nat) : Chip := c.moveList s (c.validUnits s) cls stream

/-- The word line of a page: four consecutive page indices of one plane in a QLC block (R132). -/
def Chip.wordLine (c : Chip) (p : Nat) : Nat := p / max 1 c.md.planes / 4

/-- A row of a superblock has been programmed: it was opened and no open row holds it. -/
def Chip.rowDone (c : Chip) (s : Sb) (p : Nat) : Bool :=
  decide (p < s.rows) && !(c.sb.rows.any fun r => decide (r.sb = s.idx ∧ r.row = p))

/-- A destination page is safe: its word line and the next PAIR_DEPTH of them are programmed, or the
block is, to its end; SLC pages have no paired pages (R148, R187). -/
def Chip.pageSafe (c : Chip) (s : Sb) (p : Nat) : Bool :=
  if !s.qlc then c.rowDone s p
  else
    let w := c.wordLine p
    c.rowDone s p && (List.range s.pages).all fun q =>
      decide (w + c.get E.PAIR_DEPTH < c.wordLine q) || decide (c.wordLine q < w) || c.rowDone s q

/-- Every row on a word line of a superblock has had its first pass; so has a line beyond its last row (R187). -/
def Chip.lineBegun (c : Chip) (s : Sb) (w : Nat) : Bool :=
  (List.range s.pages).all fun q => decide (c.wordLine q ≠ w) || c.rowDone s q
    || c.sb.rows.any fun r => decide (r.sb = s.idx ∧ r.row = q) && (decide (r.more + 1 < c.md.passes) || r.passDone s)

/-- The rows of a QLC superblock whose pass is complete over all members take their next one, once the next word line has had its first
(R187, R241). -/
def Chip.nextPasses (c : Chip) (idx : Nat) : Chip :=
  match c.sbOf idx with
  | none => c
  | some s =>
    c.each (c.sb.rows.filter fun r => decide (r.sb = idx ∧ r.more ≠ 0) && r.passDone s && c.lineBegun s (c.wordLine r.row + 1)) fun c r =>
      let r1 := { r with more := r.more - 1, passed := [], parityIssued := false }
      ((c.setRow r1).each r.folded fun c p => c.programPage s r1 p.1 (streamClass s.stream) p.2).rowProgress r.id

/-- Switching the copies of a safe page: the map follows if it still names the source (R149). -/
def Chip.switchAt (c : Chip) (e : Nat) : Chip :=
  c.each (c.sb.held.filter fun x => decide (x.dst = e)) fun c x =>
    let l := c.sb.held.erase x
    let c1 := { c with sb := { c.sb with held := l } }
    if c.mapOf x.unit = x.src then
      let c2 := ((c1.mapChange 0 x.unit 1 x.dst).placeUnit x.dst x.unit).noteSeq (entrySb x.dst) (some x.wseq)
      let q := drop' (fun (q : Nat × Nat × List (Nat × Nat)) => decide (q.1 = x.unit)) c2.sb.realloc
      let c3 := { c2 with sb := { c2.sb with realloc := q } }
      if x.queued then c3.count E.REALLOCATED 1 else c3
    else c1.count E.SWITCH_MISSES 1

/-! ### Exposure (R250) -/

/-- Member positions of a superblock that lie on RETIRED LUNs. -/
def Chip.missing (c : Chip) (s : Sb) : List Nat :=
  (List.range s.members.length).filter fun i => match s.members[i]? with
    | some m => decide (c.reported (mkUnit kLUN m.lun) = 4)
    | none => false

/-- The replacements of a superblock that is released go with it: their blocks are erased, and what is still read for them is dropped once it
has been read (`Chip.rowRead`). -/
def Chip.dropRepls (c : Chip) (idx : Nat) : Chip :=
  let mine := c.sb.repls.filter fun r => decide (r.sb = idx)
  let keep := drop' (fun (r : Repl) => decide (r.sb = idx)) c.sb.repls
  ({ c with sb := { c.sb with repls := keep } }).each mine fun c r =>
    if decide (c.reported (mkUnit kLUN r.lun) = 4) then c else c.gatherErase r.lun r.block 0 idx

/-- The superblock a block serves lets its blocks go: each is gathered for erase (R150, R192), a
block whose marks have reached MARK_RETIRE is scrapped (R226). -/
def Chip.releaseSb (c : Chip) (idx : Nat) : Chip :=
  match c.sbOf idx with
  | none => c
  | some s =>
    let c1 := (c.setSb { s with state := .awaitErase, exposed := false, inWork := false, dueT := none, stress := 0, marked := none, firstMark := false }).setFoldQ (c.sb.foldQ.erase idx)
    let c2 := ((c1.setVictims (c1.sb.victims.erase idx)).dropRepls idx)
    c2.each s.members fun c m =>
      if decide (c.reported (mkUnit kLUN m.lun) = 4) then c
      else if c.get E.MARK_RETIRE ≤ (c.blockOf m.lun m.block).marks then
        ((c.scrap m.lun m.block).count E.MARK_RETIRED_BLOCKS 1).event 0x135 0 1 (c.unitIdent (mkUnit kLUN m.lun)) [m.block]
      else c.gatherErase m.lun m.block 0 idx

/-- A superblock record goes once none of its blocks waits for an erase. -/
def Chip.dropErased (c : Chip) (idx : Nat) : Chip :=
  if c.md.intents.any fun i => decide (i.sb = idx) && !i.ended then c
  else
    let l := drop' (fun s => decide (s.idx = idx) && (s.state == .awaitErase)) c.sb.sbs
    { c with sb := { c.sb with sbs := l } }

end Sys2Proof.Machine
end

