-- ==== Sys2Proof/Machine/Scorebook.lean ====
section
/-! DEFINITION. The Scorebook: hash, lookup, insertion, records, stash moves, and what its commands
check (R305 to R324). -/
namespace Sys2Proof.Machine

/-! ### Hash and positions (R305, R307) -/

/-- The candidate buckets of a key (R307). -/
def Chip.buckets (c : Chip) (key : Nat) : Nat × Nat :=
  let s := c.get E.SB_SEEDS
  let h1 := crc32c (bits s 31 0) (octetsOf 16 key) % 2 ^ 28
  let h2 := crc32c (bits s 63 32) (octetsOf 16 key) % 2 ^ 28
  (h1, if h2 = h1 then h1 ^^^ 1 else h2)

/-- The four positions of a key, those of h1 first: bucket × 2 + slot. -/
def Chip.positions (c : Chip) (key : Nat) : List Nat :=
  let b := c.buckets key
  [2 * b.1, 2 * b.1 + 1, 2 * b.2, 2 * b.2 + 1]

/-- The entry at a position. -/
def Book.at (b : Book) (p : Nat) : Option SbEntry := (b.cells.find? fun x => decide (x.1 = p)).map Prod.snd

/-- The place of a record: a position, or a stash index with bit 31 set (R322). -/
abbrev stashPlace (i : Nat) : Nat := 2 ^ 31 + i

/-- The place and the entry of a key: in its buckets or in the stash (R308). -/
def Chip.findKey (c : Chip) (key : Nat) : Option (Nat × SbEntry) :=
  match (c.positions key).findSome? fun p => (c.book.at p).bind fun e => if e.key = key then some (p, e) else none with
  | some x => some x
  | none => c.book.stash.findSome? fun x => if x.2.key = key then some (stashPlace x.1, x.2) else none

/-- One lookup (R308, R333). -/
def Chip.lookup (c : Chip) (key : Nat) : Option SbEntry × Chip := ((c.findKey key).map Prod.snd, c.count E.SB_LOOKUPS 1)

/-- The Scorebook runs: its state is loading or ready (R305). -/
abbrev Chip.bookReady (c : Chip) : Bool := c.bookOn

/-- The catalogue slice of a position: 262,144 buckets each; slice 1,024 is the stash (R324). -/
def bookSlice (p : Nat) : Nat := if 2 ^ 31 ≤ p then 1024 else p / 2 / 262144

/-- Both slices of a key are loaded (R324). -/
def Chip.keyLoaded (c : Chip) (key : Nat) : Bool :=
  (c.positions key).all fun p => c.book.loaded.contains (bookSlice p)

/-! ### Records (R322, R323) -/

/-- Catalogue slices follow the map's in the list of slices that wait to be loaded: the number of the
first one. -/
def catBase : Nat := 8192

/-- A touch of a key puts its catalogue slices that are not loaded in front of those that wait (R324). -/
def Chip.touchCat (c : Chip) (key : Nat) : Chip :=
  c.each (((c.positions key).map bookSlice).eraseDups.filter fun k => !c.book.loaded.contains k) fun c k =>
    let l := (catBase + k) :: c.ft.loading.erase (catBase + k)
    { c with ft := { c.ft with loading := l } }

/-- Both catalogue pages are full and neither has been programmed (R323). -/
def Chip.bookHeld (c : Chip) : Bool := decide (256 ≤ c.book.page.length ∧ c.book.full ≠ [])

/-- A catalogue slice's checkpoint start, or the first record of a catalogue page on flash, has fallen 2^30 behind
SB_NEXT_SEQ (R460). -/
def Chip.bookSpanHeld (c : Chip) : Bool :=
  let far := fun (q : Nat) => decide (2 ^ 30 ≤ serialDist 32 q (c.get E.SB_NEXT_SEQ))
  (c.book.ckpts.any fun k => far k.start) || c.book.flash.any fun p => (p.words.head?).any fun w => far (bits w 79 48)

/-- Record spaces in the two catalogue pages (R323); none while R460 holds the catalogue sequence back. -/
def Chip.bookRoom (c : Chip) : Nat :=
  if c.bookSpanHeld then 0 else 256 - c.book.page.length + if c.book.full = [] then 256 else 0

/-- The 32 octets of an entry (R306): key, namespace, starting LBA, length, generation, occupied, host flags, pending. -/
def SbEntry.word (e : SbEntry) (pending : Bool) : Nat :=
  e.key + at' e.nsid 128 + at' e.slba 144 + at' e.length 192 + at' e.gen 232 + at' 1 252 + at' e.flags 253 + if pending then 2 ^ 255 else 0

/-- The entry that 32 octets hold. -/
def SbEntry.ofWord (w : Nat) : SbEntry :=
  { key := bits w 127 0, nsid := bits w 143 128, slba := bits w 191 144, length := bits w 231 192, gen := bits w 251 232,
    flags := bits w 254 253, pending := 0 }

/-- The 64 octets of a catalogue record (R322). -/
def CatRec.word (r : CatRec) : Nat :=
  (if r.set then 1 else 2) + at' r.place 16 + at' r.seq 48 + if r.set then at' (r.entry.word false) 80 else 0

/-- The record that 64 octets hold; none for an unknown type (R330). -/
def CatRec.ofWord (w : Nat) : Option CatRec :=
  let k := bits w 7 0
  if k = 1 ∨ k = 2 then some { set := decide (k = 1), place := bits w 47 16, seq := bits w 79 48, entry := SbEntry.ofWord (bits w 335 80) } else none

def CatPage.recs (p : CatPage) : List CatRec := p.words.filterMap CatRec.ofWord

/-- A record of one position under the next catalogue sequence; a wrap of the sequence counts in
SB_SEQ_EPOCH (R460). -/
def Chip.bookRecord (c : Chip) (set : Bool) (place : Nat) (e : SbEntry) : Chip :=
  let q := c.get E.SB_NEXT_SEQ
  let r : CatRec := { set := set, place := place, seq := q, entry := e }
  let p := c.book.page ++ [r]
  let b := if 256 ≤ p.length ∧ c.book.full = [] then { c.book with page := [], full := p } else { c.book with page := p }
  let c1 := ({ c with book := b }).set E.SB_NEXT_SEQ ((q + 1) % 2 ^ 32)
  if q + 1 = 2 ^ 32 then c1.count E.SB_SEQ_EPOCH 1 else c1

/-- An entry written to a position or to the stash. -/
def Book.write (b : Book) (place : Nat) (e : SbEntry) : Book :=
  if 2 ^ 31 ≤ place then
    let l := upsert (fun x => decide (x.1 = place - 2 ^ 31)) (place - 2 ^ 31, e) b.stash
    { b with stash := l }
  else
    let l := upsert (fun x => decide (x.1 = place)) (place, e) b.cells
    { b with cells := l }

/-- A position or a place of the stash emptied. -/
def Book.clear (b : Book) (place : Nat) : Book :=
  if 2 ^ 31 ≤ place then { b with stash := drop' (fun x => decide (x.1 = place - 2 ^ 31)) b.stash }
  else { b with cells := drop' (fun x => decide (x.1 = place)) b.cells }

def Chip.writeEntry (c : Chip) (place : Nat) (e : SbEntry) : Chip :=
  ({ c with book := c.book.write place e }).bookRecord true place e

/-- The content of a cleared position. -/
def SbEntry.empty : SbEntry := { key := 0, nsid := 0, slba := 0, length := 0, gen := 0, flags := 0, pending := 0 }

def Chip.clearEntry (c : Chip) (place : Nat) : Chip :=
  ({ c with book := c.book.clear place }).bookRecord false place SbEntry.empty

/-- A free index of the stash, placeholders taken into account (R305, R315). -/
def Book.freeStash (b : Book) : Option Nat :=
  if b.stash.length + b.placeholders.length < 4096 then
    (List.range 4096).find? fun i => !(b.stash.any fun x => decide (x.1 = i)) && !(b.placeholders.any fun x => decide (x.1 = i))
  else none

/-- Occupied positions, stash included (R331). -/
def Book.entries (b : Book) : Nat := b.cells.length + b.stash.length

/-! ### Insertion (R309, R315) -/

/-- Insertion: the position that the entry takes and whether one was replaced; none when FULL
(R309). The stashed placeholder of the key, if any, counts as a free place for it. -/
def Chip.insertPlace (c : Chip) (key : Nat) : Option (Nat × Bool) :=
  match c.findKey key with
  | some x => some (x.1, true)
  | none => match (c.positions key).find? fun p => (c.book.at p).isNone with
    | some p => some (p, false)
    | none => match c.book.placeholders.find? fun x => decide (x.2.key = key) with
      | some x => some (stashPlace x.1, false)
      | none => c.book.freeStash.map fun i => (stashPlace i, false)

/-- The placeholder of a key goes; replacing it elsewhere appends a CLEAR record (R322). -/
def Chip.dropPlaceholder (c : Chip) (key : Nat) (place : Nat) : Chip :=
  match c.book.placeholders.find? fun x => decide (x.2.key = key) with
  | none => c
  | some x =>
    let l := c.book.placeholders.erase x
    let c1 := { c with book := { c.book with placeholders := l } }
    if place = stashPlace x.1 ∨ place = 0 then c1 else c1.bookRecord false (stashPlace x.1) SbEntry.empty

/-- The stash reaching 3,584 entries is reported (R310). -/
def Chip.stashReport (before c : Chip) : Chip :=
  if before.book.stash.length < 3584 ∧ 3584 ≤ c.book.stash.length then c.event 0x401 0 1 noUnit [c.book.stash.length] else c

/-- The octets of a catalogue page: its records in order, 64 octets each. -/
def catOctets (l : List CatRec) : Nat := ofOctets (l.flatMap fun r => octetsOf 64 r.word)

/-- A full catalogue page has been programmed into a system superblock, and is free again (R323). -/
def Chip.cataloguePage (c : Chip) : Chip :=
  if c.book.full = [] then c
  else match c.systemRuns 1 (fun _ => catOctets c.book.full) with
    | none => c
    | some (place, c1) =>
      let b := { c1.book with flash := c1.book.flash ++ [{ words := c1.book.full.map CatRec.word, place := place }], full := [] }
      let b1 := if 256 ≤ b.page.length then { b with full := b.page, page := [] } else b
      let c2 := { c1 with book := b1 }
      if c2.journalFull && !c.journalFull then c2.eventFirst 0x302 0 1 noUnit [256] else c2

/-! ### Stash moves (R310) -/

/-- One chain of displacements of an entry: the book after it and the records, or none when
SB_MAX_KICKS is reached. `turn` chooses the position in turn, `from` the bucket the entry came
from. -/
def Chip.kickChain (c : Chip) : Nat → Book → SbEntry → Option Nat → Nat → Option (Book × List (Bool × Nat × SbEntry) × Nat)
  | fuel, b, x, came, turn =>
    match (c.positions x.key).find? fun p => (b.at p).isNone && decide (some (p / 2) ≠ came) with
    | some p => some (b.write p x, [(true, p, x)], 0)
    | none =>
      match fuel with
      | 0 => none
      | fuel + 1 =>
        let ps := (c.positions x.key).filter fun p => decide (some (p / 2) ≠ came)
        let p := nth ps (turn % max 1 ps.length)
        match b.at p with
        | none => none
        | some y => (c.kickChain fuel (b.write p x) y (some (p / 2)) (turn / 2)).map fun r =>
            (r.1, (true, p, x) :: r.2.1, r.2.2 + 1)

/-- The oldest stash entry not tried since the others were (R310). -/
def Book.nextStash (b : Book) : Option (Nat × SbEntry) :=
  match b.stash.find? fun x => !b.tried.contains x.1 with
  | some x => some x
  | none => b.stash.head?

/-- The Scorebook engine moves one stash entry (R310): placed, by displacements if need be, or
returned to the stash with the chain undone. A chain whose records the catalogue pages do not take waits (R322, R323). -/
def Chip.moveStash (c : Chip) : Chip :=
  match c.book.nextStash with
  | none => c
  | some x =>
    let c0 := if c.book.stash.all fun y => c.book.tried.contains y.1 then { c with book := { c.book with tried := [] } } else c
    match c0.kickChain (c0.get E.SB_MAX_KICKS) (c0.book.clear (stashPlace x.1)) x.2 none c0.now with
    | some r =>
      if c.bookRoom < r.2.1.length + 1 then c else
      let c1 := ({ c0 with book := { r.1 with tried := c0.book.tried.erase x.1 } }).bookRecord false (stashPlace x.1) SbEntry.empty
      (c1.each r.2.1 fun c q => c.bookRecord q.1 q.2.1 q.2.2).count E.SB_KICKS r.2.2
    | none =>
      let t := x.1 :: c0.book.tried
      (({ c0 with book := { c0.book with tried := t } }).count E.SB_KICKS (2 * c0.get E.SB_MAX_KICKS)).event 0x402 0 1 noUnit []

/-! ### What the commands read and check (R311 to R314, R319) -/

/-- The controller ID of a function: port × 512 + function, plus 1,024 on C1 of a pair (R102,
R355). -/
def Chip.cntlid (c : Chip) (port fn : Nat) : Nat := fnItem port fn + 1024 * c.ownIndex

/-- A namespace is attached to a function (R104, R133). -/
def Chip.attached (c : Chip) (port fn nsid : Nat) : Bool :=
  match c.ns nsid with
  | some n => n.attached.contains (c.cntlid port fn)
  | none => false

/-- The key of a Scorebook command: Dwords 2 to 5 (R312). -/
def Cmd.sbKey (x : Cmd) : Nat := x.dw 2 + at' (x.dw 3) 32 + at' (x.dw 4) 64 + at' (x.dw 5) 96

/-- The entry of the command's key that the function can see, and that its NSID matches (R311,
R312). -/
def Chip.seenKey (c : Chip) (x : Cmd) : Option SbEntry :=
  match c.findKey x.sbKey with
  | none => none
  | some e =>
    let n := x.dw 1
    if c.attached x.port x.fn e.2.nsid && (n == 0 || n == 0xFFFFFFFF || x.opcode == 0x85 || n == e.2.nsid) then some e.2
    else none

/-- LBAs of an extent (R306). -/
def extentLbas (lbaf length : Nat) : Nat := cdiv length (lbaOctets lbaf)

/-- The units of an extent: first and last (R86, R306). -/
def Chip.extentRun (c : Chip) (nsid slba length : Nat) : List (Nat × Nat × Nat) :=
  match c.ns nsid with
  | none => []
  | some n => [(nsid, firstUnit n.lbaf slba, lastUnit n.lbaf slba (extentLbas n.lbaf length))]

/-- The entry that a Put writes: the extent of Dwords 10 to 13 (R313). -/
def Cmd.putEntry (x : Cmd) (gen : Nat) : SbEntry :=
  { key := x.sbKey, nsid := x.dw 1, slba := x.dw 10 + at' (x.dw 11) 32,
    length := x.dw 12 + at' (bits (x.dw 13) 7 0) 32, gen := gen, flags := bits (x.dw 13) 9 8, pending := 0 }

/-- The generation after another one: 1 follows 0xFFFFF (R315). -/
def nextGen (g : Nat) : Nat := if g = max20 then 1 else g + 1

/-- Fields of a Segment Read (R313). -/
def Cmd.segOffset (x : Cmd) : Nat := x.dw 10 + at' (bits (x.dw 11) 7 0) 32
def Cmd.segLength (x : Cmd) : Nat := x.dw 12
def Cmd.segPasser (x : Cmd) : Bool := bit (x.dw 11) 8 == 1
def Cmd.segWin (x : Cmd) : Nat := bit (x.dw 11) 9 * 256 + bits (x.dw 11) 23 16

/-- Delivered bytes of a Segment Read of an entry (R319). -/
def Cmd.delivered (x : Cmd) (e : SbEntry) : Nat := min x.segLength (e.length - x.segOffset)

/-- First byte within the namespace and the delivered length, as an LBA run (R319). -/
def Chip.segLbas (c : Chip) (x : Cmd) (e : SbEntry) : Nat × Nat :=
  match c.ns e.nsid with
  | none => (0, 0)
  | some n =>
    let b := lbaOctets n.lbaf
    let d := x.delivered e
    if d = 0 then (e.slba, 0)
    else (e.slba + x.segOffset / b, (x.segOffset + d - 1) / b - x.segOffset / b + 1)

/-- Codewords (namespace unit, position) that hold the delivered bytes (R319). -/
def Chip.segCws (c : Chip) (x : Cmd) (e : SbEntry) : List (Nat × Nat) :=
  match c.ns e.nsid with
  | none => []
  | some n =>
    let base := e.slba * lbaOctets n.lbaf + x.segOffset
    let d := x.delivered e
    if d = 0 then []
    else (List.range ((base + d - 1) / 4096 - base / 4096 + 1)).map fun i =>
      ((base / 4096 + i) / 4, (base / 4096 + i) % 4)

/-! ### Peer windows (R325 to R329) -/

/-- The working state of a peer window; FREE when it is not listed. -/
def Chip.win5 (c : Chip) (port win : Nat) : Win5 :=
  match c.wins.find? fun w => decide (w.port = port ∧ w.win = win) with
  | some w => w
  | none => { port := port, win := win, state := 0, base := 0, size := 0, dbAddr := 0, dbSize := 0, template := 0,
              fieldA := 0, fieldB := 0, maxWork := 64, owner := 0x200, ordered := true, timeoutMs := 100,
              count := 0, accepted := 0, timers := [], users := [], reading := [] }

def Chip.setWin5 (c : Chip) (w : Win5) : Chip :=
  { c with wins := upsert (fun q => decide (q.port = w.port ∧ q.win = w.win)) w c.wins }

/-- The window's owner field lets a function use it (R334). -/
def Win5.lets (w : Win5) (port fn : Nat) : Bool :=
  let o := w.owner
  if bit o 9 = 1 then bit o 11 == 1 || bit o 10 == port
  else bit o 10 == port && bits o 8 0 == fn

/-- Outstanding work: doorbells written and not consumed, and the commands that still use the
window (R328). -/
def Win5.outstanding (w : Win5) : Nat := serialDist 20 w.accepted w.count + w.users.length

/-- The item of a window's entries (R335). -/
def winItem (port win : Nat) : Nat := port * 256 + win

/-- A window goes RETIRED: its commands complete with PASS_TARGET_FAULT, Dword 0 the bytes already
written, and their locks are released (R329). `skip` names the port whose commands a reset
discards. -/
def Chip.retireWin (c : Chip) (port win cause : Nat) (skip : Option Nat) : Chip :=
  let w := c.win5 port win
  if w.state ≠ 1 then c
  else
    let c1 := ((c.setWin5 { w with state := 2, users := [], timers := [], reading := [] }).setAt E.PW_RETIRE_CAUSE (winItem port win) cause).event
      (0x410 + cause) 0 4 (c.unitIdent (mkUnit kPORT port)) [port, win]
    c1.each (w.users ++ w.reading) fun c h => match c.cmd h with
      | none => c
      | some x => if skip = some x.port then c
          else ((c.giveBack h).dropTasks h).finish h stPassFault x.xfer cause

/-- A field of the doorbell value inserted (R326). -/
def insertField (cell value size cookie len off count : Nat) : Nat :=
  let src := bits cell 14 12
  let lsb := bits cell 11 6
  let w := min (bits cell 5 0 + 1) (8 * size - lsb)
  let v := nth [0, cookie, len, off, count] src
  if src = 0 ∨ 4 < src ∨ w = 0 then value else setBits value (lsb + w - 1) lsb v

/-- The doorbell value of a delivery: fields A, then B, in the template (R326). -/
def Win5.doorbell (w : Win5) (cookie len off : Nat) : Nat :=
  let size := if w.dbSize = 0 then 4 else 8
  let t := w.template % 2 ^ (8 * size)
  insertField w.fieldB (insertField w.fieldA t size cookie len off (w.count + 1)) size cookie len off (w.count + 1)

end Sys2Proof.Machine
end

