-- ==== Sys2Proof/Machine/Admission.lean ====
section
/-! DEFINITION. The admission test: what a command touches, its bound, its tokens and credits, and
the decision (R33 to R50, R59, R77, R85, R141, R281, R317 to R320, R439, R493). -/
namespace Sys2Proof.Machine

/-! ### What a command covers -/

/-- Starting LBA and number of LBAs of a block command. -/
def Cmd.slba (x : Cmd) : Nat := x.dw 10 + at' (x.dw 11) 32
def Cmd.nlb (x : Cmd) : Nat := bits (x.dw 12) 15 0 + 1

/-- The units of an LBA run, each with its first LBA inside the unit and the number of its LBAs
(R86). -/
def cover (lbaf slba n : Nat) : List (Nat × Nat × Nat) :=
  let k := lbasPerUnit lbaf
  if n = 0 then []
  else (List.range (lastUnit lbaf slba n + 1 - firstUnit lbaf slba)).map fun i =>
    let u := firstUnit lbaf slba + i
    let a := max slba (u * k)
    (u, a - u * k, min (slba + n) ((u + 1) * k) - a)

/-- The LBA runs of a Dataset Management command: its data follows the 16 Dwords of its entry, four
Dwords for each range (R81, log entry 10). -/
def Cmd.ranges (x : Cmd) : List (Nat × Nat) :=
  (List.range (bits (x.dw 10) 7 0 + 1)).map fun i =>
    (x.dw (16 + 4 * i + 2) + at' (x.dw (16 + 4 * i + 3)) 32, x.dw (16 + 4 * i + 1))

/-- The LBA runs of a block command. -/
def Cmd.runs (x : Cmd) : List (Nat × Nat) :=
  if x.opcode = 0x09 then (if bit (x.dw 11) 2 = 1 then x.ranges.filter fun r => decide (r.2 ≠ 0) else [])
  else [(x.slba, x.nlb)]

/-- A read-rule block command (R41). -/
def Cmd.readRule (x : Cmd) : Bool := x.opcode == 0x02 || x.opcode == 0x05 || x.opcode == 0x0C || x.opcode == 0x82

/-- A Scorebook command (R9, R312). -/
def Cmd.bookCmd (x : Cmd) : Bool := x.opcode == 0x82 || x.opcode == 0x85 || x.opcode == 0x89 || x.opcode == 0x8A

/-- A command that takes exclusive locks (R41, R85). -/
def Cmd.exclusive (x : Cmd) : Bool := x.writeType

/-- A command whose effect is mirrored (R343). -/
def Cmd.mirrored (x : Cmd) : Bool := x.writeType

/-- Codewords of an LBA run in a unit: (global unit, codeword positions). -/
def Chip.unitCws (n : Ns) (r : Nat × Nat) : List (Nat × List Nat) :=
  (cover n.lbaf r.1 r.2).filterMap fun u => (n.globalUnit u.1).map fun g =>
    (g, if n.lbaf < 3 then (List.range u.2.2).map (u.2.1 + ·) else [0, 1, 2, 3])

/-- Codewords of a Segment Read of an entry, by global unit. -/
def Chip.segUnits (c : Chip) (x : Cmd) (e : SbEntry) : List (Nat × List Nat) :=
  match c.ns e.nsid with
  | none => []
  | some n =>
    let l := c.segCws x e
    (l.map Prod.fst).eraseDups.filterMap fun u => (n.globalUnit u).map fun g =>
      (g, (l.filter fun p => decide (p.1 = u)).map Prod.snd)

/-- The flash reads a list of unit codewords needs: none for what the Crucible, a code or the
lost-range log answers (R43, R142, R222). -/
def Chip.touches (c : Chip) (us : List (Nat × List Nat)) : List Touch :=
  us.filterMap fun u => if (c.newest u.1).isSome || c.isLost u.1 then none else c.touchOf u.1 u.2.length

/-- Units that a write of 4 KiB LBAs covers in part, with the LBAs it leaves out (R43, R143). -/
def partialUnits (n : Ns) (r : Nat × Nat) : List (Nat × Nat × Nat) :=
  (cover n.lbaf r.1 r.2).filter fun u => decide (u.2.2 < lbasPerUnit n.lbaf)

/-- The codewords a merge reads from flash (R143). -/
def Chip.mergeCws (n : Ns) (r : Nat × Nat) : List (Nat × List Nat) :=
  (partialUnits n r).filterMap fun u => (n.globalUnit u.1).map fun g =>
    (g, (List.range 4).filter fun k => decide (k < u.2.1) || decide (u.2.1 + u.2.2 ≤ k))

/-- Units wholly covered. -/
def wholeUnits (n : Ns) (r : Nat × Nat) : List Nat :=
  ((cover n.lbaf r.1 r.2).filter fun u => decide (u.2.2 = lbasPerUnit n.lbaf)).filterMap fun u => n.globalUnit u.1

/-! ### Credits (R141, R281, R344) -/

/-- Data slots a command reserves (R141). -/
def Chip.needs (c : Chip) (x : Cmd) : Nat :=
  match c.ns x.nsid with
  | none => 0
  | some n =>
    if x.opcode = 0x01 then (cover n.lbaf x.slba x.nlb).length
    else if x.opcode = 0x08 then (partialUnits n (x.slba, x.nlb)).length
    else 0

/-- The whole units of a map update: of Write Zeroes, or of the ranges of a deallocate. -/
def Chip.wholeOf (c : Chip) (x : Cmd) : List Nat :=
  match c.ns x.nsid with
  | none => []
  | some n => if x.opcode = 0x08 ∨ x.opcode = 0x09 then (x.runs.flatMap fun r => wholeUnits n r).eraseDups else []

/-- The units that leave the lost-range log with a command: those that a write covers whole, and those of a map update (R258). -/
def Chip.clearsOf (c : Chip) (x : Cmd) : List Nat :=
  match c.ns x.nsid with
  | none => []
  | some n => if x.opcode = 0x01 then (wholeUnits n (x.slba, x.nlb)).eraseDups else c.wholeOf x

/-- Journal record spaces a command reserves, by stream: one for each record that it appends (R141). -/
def Chip.recNeeds (c : Chip) (x : Cmd) : List (Nat × Nat) := recsBy ((unitRuns (c.wholeOf x)).map Prod.fst)

/-- Journal records that a command appends. -/
def Chip.recCount (c : Chip) (x : Cmd) : Nat := sumOf ((c.recNeeds x).map Prod.snd)

/-- Buffer credits suffice: free slots, room in the streams of the records, the granted slots of
the partner while writes are mirrored, and, for Put and Drop, room in the catalogue pages (R141,
R137, R146, R323, R344). -/
def Chip.bufferOk (c : Chip) (x : Cmd) : Bool :=
  let n := c.needs x
  let need := c.recNeeds x
  decide (n ≤ c.freeSlots)
    && ((decide (need = [])) || (!c.journalFull && need.all fun p => decide (p.2 ≤ c.freeRecs p.1)))
    && (!(c.mirrors && x.mirrored) || decide (c.pr.slotsOut + n ≤ c.pr.grant))
    && (!(x.opcode == 0x85 || x.opcode == 0x89) || (!c.bookHeld && !c.journalFull))

/-- Energy credits suffice (R281). -/
def Chip.energyOk (c : Chip) (x : Cmd) : Bool :=
  let n := c.needs x
  c.writeThrough || decide (n = 0) || (decide (c.get E.BOOKS_SHORT = 0) && decide (n ≤ c.get E.CREDIT_POOL))

/-- The credits are taken: CREDIT_POOL falls and the dirty slots rise (R281), record spaces are reserved (R141); mirrored
writes take granted slots (R344). -/
def Chip.takeCredits (c : Chip) (x : Cmd) : Chip :=
  let n := c.needs x
  let e := if c.writeThrough then 0 else n
  let c1 := ({ c with st := { c.st with dirty := c.st.dirty + e } }).set E.CREDIT_POOL (c.get E.CREDIT_POOL - e)
  let m := if c.mirrors && x.mirrored then n else 0
  let c2 := c1.setCmd { x with credits := n, energy := e, guests := m, recs := c.recNeeds x }
  if c.mirrors && x.mirrored then { c2 with pr := { c2.pr with slotsOut := c2.pr.slotsOut + m } } else c2

/-! ### The bound (R43, R49, R493) -/

/-- The compared terms of a bound and the rest of it (R493). -/
structure Terms where
  lock : Nat
  die : Nat
  host : Nat
  mirror : Nat
  rest : Nat
  deriving DecidableEq, Repr

def Terms.total (b : Terms) : Nat := b.lock + b.die + b.host + b.mirror + b.rest

/-- The entries a Segment Read can meet: the one it sees and, behind a pending Put, the one that
the Put writes (R317). -/
def Chip.segEntries (c : Chip) (x : Cmd) : List SbEntry :=
  let cur := (c.seenKey x).toList
  let next := match (c.findKey x.sbKey).map fun p => p.2.pending with
    | some h => match c.cmd h with
      | some p => if p.opcode = 0x85 then [p.putEntry 0] else []
      | none => []
    | none => match c.book.placeholders.find? fun p => decide (p.2.key = x.sbKey) with
      | some p => match c.cmd p.2.pending with
        | some q => [q.putEntry 0]
        | none => []
      | none => []
  cur ++ next

/-- The handle of the Put or Drop that a command's key waits on, 0 for none (R317). -/
def Chip.pendingOn (c : Chip) (x : Cmd) : Nat :=
  if x.opcode = 0x82 ∨ x.opcode = 0x85 ∨ x.opcode = 0x89 then
    match c.findKey x.sbKey with
    | some p => p.2.pending
    | none => match c.book.placeholders.find? fun p => decide (p.2.key = x.sbKey) with
      | some p => p.2.pending
      | none => 0
  else 0

/-- The unit runs a command locks (R85, R86): (namespace, first, last). A Put of a new key has a second entry that covers no
units (R315), and so has a command that takes its units at its second lookup (R317). -/
def Chip.lockNeeds (c : Chip) (x : Cmd) : List (Nat × Nat × Nat) :=
  match x.opcode with
  | 0x82 => match c.seenKey x with
    | none => [noUnits x.nsid]
    | some e => match c.ns e.nsid with
      | none => [noUnits x.nsid]
      | some n =>
        let r := c.segLbas x e
        if r.2 = 0 then [noUnits x.nsid] else [(e.nsid, firstUnit n.lbaf r.1, lastUnit n.lbaf r.1 r.2)]
  | 0x85 =>
    let e := x.putEntry 0
    c.extentRun e.nsid e.slba e.length ++ (match c.seenKey x with
      | none => [noUnits x.nsid]
      | some o => c.extentRun o.nsid o.slba o.length)
  | 0x89 => match c.seenKey x with
    | none => [noUnits x.nsid]
    | some o => c.extentRun o.nsid o.slba o.length
  | 0x8A => []
  | _ => match c.ns x.nsid with
    | none => []
    | some n => x.runs.map fun r => (x.nsid, firstUnit n.lbaf r.1, lastUnit n.lbaf r.1 r.2)

/-- The flash reads of a command: read-rule data, or the merges of a write (R43). -/
def Chip.cmdTouches (c : Chip) (x : Cmd) : List Touch :=
  if x.opcode = 0x82 then
    let ls := (c.segEntries x).map fun e => c.touches (c.segUnits x e)
    let best := maxOf (ls.map List.length)
    (ls.find? fun l => decide (l.length = best)).getD []
  else match c.ns x.nsid with
    | none => []
    | some n =>
      if x.readRule then c.touches (Chip.unitCws n (x.slba, x.nlb))
      else if x.opcode = 0x01 ∨ x.opcode = 0x08 then c.touches (Chip.mergeCws n (x.slba, x.nlb))
      else []

/-- Octets of a command's LBAs, data and metadata. -/
def Chip.cmdOctets (c : Chip) (x : Cmd) : Nat :=
  match c.ns x.nsid with
  | none => 0
  | some n => x.nlb * (lbaOctets n.lbaf + metaOctets n.lbaf)

/-- Outbound octets and the port that carries them (R41, R320): data of a Read, the delivered bytes
of a Segment Read. A Look has its lookup only. -/
def Chip.outBytes (c : Chip) (x : Cmd) : Nat × Nat :=
  if x.opcode = 0x82 then
    (maxOf ((c.segEntries x).map x.delivered), if x.segPasser then x.segWin / 256 else x.port)
  else if x.opcode = 0x02 then (c.cmdOctets x, x.port)
  else (0, x.port)

/-- Inbound octets (R41, R43): data of a Write or a Compare. -/
def Chip.inBytes (c : Chip) (x : Cmd) : Nat := if x.opcode = 0x01 ∨ x.opcode = 0x05 then c.cmdOctets x else 0

/-- The host-transfer term (R43). -/
def Chip.hostTerm (c : Chip) (x : Cmd) (duePs : Nat) : Ps :=
  let o := c.outBytes x
  let i := c.inBytes x
  (if o.1 = 0 then 0 else octetsPs (c.portRate o.2) (c.earlier (.portOut o.2) 99 duePs) + octetsPs (c.portRate o.2) o.1)
    + (if i = 0 then 0 else octetsPs (c.portRate x.port) i + c.get E.HOST_LAT_LIMIT * 1000)

/-- The program path of a write in write-through mode: the data dies of the row it would take, then
the parity dies (R43, R145). -/
def Chip.programTerm (c : Chip) (p2 : Bool) (duePs : Nat) : Ps :=
  let at' := fun (s : Sb) (row : Nat) (ms : List Nat) => maxOf (ms.filterMap fun m => (s.members[m]?).map fun x =>
    c.dieWait x.lun (row % max 1 c.md.planes) duePs + 4 * c.cwPs (chanOf x.lun) + c.tProg)
  match c.sb.sbs.find? fun s => s.kind == .host && s.state == .open && s.p2 == p2 with
  | none => 2 * c.tProg
  | some s => at' s s.rows (dataPos s.idx s.rows p2) + at' s s.rows (parityPos s.idx s.rows p2)

/-- The resolve term: SLICE_LOAD_BOUND for a read of class 0 to 2 that touches an unloaded slice,
and SB_LOOKUP_BOUND for a Scorebook lookup (R43, R320, R439). -/
def Chip.unloaded (c : Chip) (x : Cmd) : Bool :=
  x.readRule && ((if x.opcode = 0x82 then
      !c.keyLoaded x.sbKey || ((c.segEntries x).flatMap fun e => c.segUnits x e).any fun u => (c.newest u.1).isNone && !c.sliceLoaded u.1
    else match c.ns x.nsid with
      | none => false
      | some n => (Chip.unitCws n (x.slba, x.nlb)).any fun u => (c.newest u.1).isNone && !c.sliceLoaded u.1))

/-- The promised time of a command (R33, R59, R320). -/
def Chip.promise (c : Chip) (x : Cmd) : Ps :=
  if 3 ≤ x.cls then 0
  else if c.unloaded x then max (c.classPs x.cls) (c.get E.WARMUP_BOUND * 1000000) else c.classPs x.cls

/-- The lock term: latest release among the conflicting holders of its runs, the pending key's
command, and, in an ordered window, the doorbells still to be written (R43, R317, R320). -/
def Chip.lockOf (c : Chip) (x : Cmd) : Ps :=
  let runs := maxOf ((c.lockNeeds x).map fun r => c.lockTerm x.fetchT r.1 r.2.1 r.2.2 x.exclusive)
  let due := fun (h : Nat) => match c.cmd h with
    | none => 0
    | some y => (if y.promisePs = 0 then y.fetchT * psPerCyc + y.boundPs else y.duePs) - x.fetchT * psPerCyc
  let key := due (c.pendingOn x)
  let win := if x.opcode = 0x82 ∧ x.segPasser then
      let w := c.win5 (x.segWin / 256) (x.segWin % 256)
      if w.ordered then maxOf (w.users.map due) else 0
    else 0
  max runs (max key win)

/-- Granules of a command's namespace units (R352). -/
def Chip.granulesOf (c : Chip) (x : Cmd) : List Nat :=
  match c.ns x.nsid with
  | none => []
  | some n => ((x.runs.flatMap fun r => (cover n.lbaf r.1 r.2).filterMap fun u => n.globalUnit u.1).map (· / 65536)).eraseDups

/-- The regions a mirrored command touches: its granules, or the catalogue, region 524,288. -/
def Chip.regionsOf (c : Chip) (x : Cmd) : List Nat := if x.bookCmd then [524288] else c.granulesOf x

/-- A mirrored command sets a new mark, which it does in SOLO alone (R60, R352). -/
def Chip.marksNew (c : Chip) (x : Cmd) : Bool :=
  decide (c.get E.PAIR_STATE = 1) && (c.regionsOf x).any fun g => !c.pr.marks.contains g

/-- The terms of the direct bound (R43). The up to two DRAM bursts that R41 adds for Put and Drop are counted as one more
SB_LOOKUP_BOUND (DESIGN CHOICE, log entry 43). -/
def Chip.directTerms (c : Chip) (x : Cmd) (duePs : Nat) (ts : List Touch) : Terms :=
  let k := c.allow x.cls
  let read := maxOf (ts.map fun t => c.diePath t ts duePs + k * c.retryCost t ts duePs)
  let p2 := ((c.ns x.nsid).map Ns.p2).getD false
  let prog := if c.writeThrough ∧ c.needs x ≠ 0 then c.programTerm p2 duePs else 0
  let lookup := if x.bookCmd then c.get E.SB_LOOKUP_BOUND * 1000 * (if x.opcode = 0x85 ∨ x.opcode = 0x89 then 2 else 1) else 0
  let buffer := (if c.needs x ≠ 0 then Config.copyWritePs (c.needs x * 16384) else 0)
    + (if x.exclusive ∧ (c.recCount x ≠ 0 ∨ x.bookCmd) then Config.journalPs (c.recCount x) else 0)
  let resolve := if x.opcode = 0x8A then 0
    else if c.unloaded x ∧ x.cls ≤ 2 then c.get E.SLICE_LOAD_BOUND * 1000000 else c.get E.RESOLVE_BOUND * 1000
  { lock := c.lockOf x,
    die := read + prog,
    host := c.hostTerm x duePs,
    mirror := if x.mirrored then c.mirrorTerm (if x.opcode = 0x01 then c.cmdOctets x else 64) duePs (c.marksNew x) else 0,
    rest := (c.nowPs - x.fetchT * psPerCyc) + resolve + lookup + buffer + c.get E.POST_MARGIN * 1000 }

/-! ### Read-around (R48, R49) -/

/-- A touch whose die or channel is FENCED or RETIRED. -/
def Chip.touchOut (c : Chip) (t : Touch) : Bool := !c.usable (mkUnit kLUN t.lun)

/-- A touch whose die is RETIRED has no direct attempt (R48). -/
def Chip.touchGone (c : Chip) (t : Touch) : Bool := decide (c.reported (mkUnit kLUN t.lun) = 4)

/-- The touches of a command that are read around: those whose die is out, whose die path with its
recovery allowance exceeds the promise, or whose die tokens cannot be placed; all of them when none
stands out (log entry 19). -/
def Chip.raTouches (c : Chip) (x : Cmd) (p duePs : Nat) (ts : List Touch) : List Touch :=
  let k := c.allow x.cls
  let bad := ts.filter fun t => c.touchOut t || decide (p < c.diePath t ts duePs + k * c.retryCost t ts duePs)
    || (c.placeOne x.h (.die t.lun) ((1 + k) * c.senseTokens t.lun (c.tSense t.qlc)) (c.innings duePs)).isNone
  if bad = [] then ts else bad

/-- The outcome of a read-around test: the bound, the touches read around, the members read; or
the cause of its refusal (R49): 0x0F members, 0x11 limits. -/
def Chip.readAround (c : Chip) (x : Cmd) (p duePs : Nat) (ts : List Touch) : Nat × Nat × List Touch × List Touch :=
  let ra := c.raTouches x p duePs ts
  let ms := ra.map fun t => c.raMembers t duePs
  if ms.any Option.isNone then (0, 0x0F, ra, [])
  else
    let members := ms.flatMap fun m => m.getD []
    let direct := ts.filter fun t => !ra.contains t
    let b := c.directTerms x duePs direct
    let path := maxOf (members.map fun t => c.diePath t [t] duePs) + c.get E.PARITY_BOUND * 1000
    let total := b.lock + max b.die path + b.host + b.mirror + b.rest
    let bus := fun ch => sumOf ((members.filter fun t => decide (chanOf t.lun = ch)).map fun t => t.cws * cdiv (c.cwPs ch) 125000)
    let chans := (members.map fun t => chanOf t.lun).eraseDups
    let past := chans.any fun ch => decide (c.get E.RA_BUS_CEIL < c.um.raBus.get 0 ch + bus ch)
    if c.get E.RA_MAX_INFLIGHT ≤ c.um.raInflight.length ∨ past then (total, 0x11, ra, members)
    else (total, 0, ra, members)

/-! ### Deciding (R42, R46 to R48, R493) -/

/-- What admission decides: admission with the bound and the places, or wait, or refuse with the causes
that hold, or complete with a status. -/
inductive Verdict where
  | admitAs (boundPs : Nat) (items : List LedgerItem) (work : List WorkItem) (ra : Bool) (raUnits : List Nat) (members : List Touch)
  | wait (cause : Nat)
  | refuse (causes : List Nat)
  | status (st dw0 dw1 : Nat)
  deriving DecidableEq, Repr

/-- The cause of a bound that exceeds the promise: the largest compared term, the first in table
order on a tie (R42, R493). Table order: die path, port time, lock, program path, mirror. -/
def boundCause (b : Terms) (dieCause : Nat) (program : Bool) : Nat :=
  let m := max b.lock (max b.die (max b.host b.mirror))
  if !program ∧ b.die = m then dieCause
  else if b.host = m then 0x07
  else if b.lock = m then 0x08
  else if b.die = m then 0x0C
  else 0x0D

/-- Tokens of a command's port time, 0.125 µs each (R54). -/
def Chip.portTokens (c : Chip) (x : Cmd) : List (Res × Nat) :=
  let o := c.outBytes x
  let i := c.inBytes x
  (if o.1 = 0 then [] else [(Res.portOut o.2, cdiv (octetsPs (c.portRate o.2) o.1) 125000)])
    ++ (if i = 0 then [] else [(Res.portIn x.port, cdiv (octetsPs (c.portRate x.port) i) 125000)])

/-- Port work of a command (R43). -/
def Chip.portWork (c : Chip) (x : Cmd) (duePs : Nat) : List WorkItem :=
  let o := c.outBytes x
  let i := c.inBytes x
  (if o.1 = 0 then [] else [{ h := x.h, res := .portOut o.2, plane := 0, duePs := duePs, amount := o.1 }])
    ++ (if i = 0 then [] else [{ h := x.h, res := .portIn x.port, plane := 0, duePs := duePs, amount := i }])
    ++ (if c.mirrors && x.mirrored then
          [{ h := x.h, res := .rally, plane := 0, duePs := duePs, amount := if x.opcode = 0x01 then c.cmdOctets x else 64 }]
        else [])

/-- The causes of tokens that cannot be placed, by budget (R42): die 0x04, channel 0x05, LDPC 0x06. The table has none for
the tokens of a port's ledger: they take PORT_TIME, 0x07 (DESIGN CHOICE, log entry 53). -/
def Chip.tokenCauses (c : Chip) (h : Nat) (need : List (Res × Nat)) (duePs : Nat) : List Nat :=
  (need.filterMap fun n => match c.placeOne h n.1 n.2 (c.innings duePs) with
    | some _ => none
    | none => some (match n.1 with
      | .die _ => 0x04
      | .chan _ => 0x05
      | .hard _ => 0x06
      | .soft _ => 0x06
      | _ => 0x07)).eraseDups

/-- Tokens of one resource summed over a command. -/
def mergeNeeds (l : List (Res × Nat)) : List (Res × Nat) :=
  (l.map Prod.fst).eraseDups.map fun r => (r, sumOf ((l.filter fun p => decide (p.1 = r)).map Prod.snd))

/-- No ONLINE engine of either kind remains anywhere (R209). -/
def Chip.noEngines (c : Chip) : Bool :=
  (c.decodeQuad 0 true).isNone && (c.decodeQuad 0 false).isNone

/-- The touch with the largest die path, retries included. -/
def Chip.worstTouch (c : Chip) (x : Cmd) (duePs : Nat) (ts : List Touch) : Option Touch :=
  let cost := fun t => c.diePath t ts duePs + c.allow x.cls * c.retryCost t ts duePs
  ts.find? fun t => decide (cost t = maxOf (ts.map cost))

/-- Dies, channels and times of the programs of a write in write-through mode: the row it would take (R43, R145). -/
def Chip.programWork (c : Chip) (x : Cmd) (duePs : Nat) : List WorkItem :=
  let n := c.needs x
  let p2 := ((c.ns x.nsid).map Ns.p2).getD false
  if !c.writeThrough ∨ n = 0 then []
  else match c.sb.sbs.find? fun s => s.kind == .host && s.state == .open && s.p2 == p2 with
    | none => []
    | some s => ((dataPos s.idx s.rows p2).take n ++ parityPos s.idx s.rows p2).flatMap fun m => match s.members[m]? with
      | none => []
      | some y => [{ h := x.h, res := .die y.lun, plane := s.rows % max 1 c.md.planes, duePs := duePs, amount := c.tProg },
                   { h := x.h, res := .chan (chanOf y.lun), plane := 0, duePs := duePs, amount := 4 }]

/-- The direct attempt: the causes for which it fails, and what it places (R46, R47). DIE_WAIT and SUSPEND_SPENT name the die
whose path is the largest, where it is in service (R42). A class 3 read whose die is FENCED or RETIRED, for which R48 has no read-around, is
admitted and goes to reconstruction by its ladder (DESIGN CHOICE, log entry 69). -/
def Chip.tryDirect (c : Chip) (x : Cmd) (p duePs : Nat) (ts : List Touch) : List Nat × Terms × List LedgerItem × List WorkItem :=
  let b := c.directTerms x duePs ts
  let worst := c.worstTouch x duePs ts
  let dieCause := if worst.any c.touchOut then 0x03 else if worst.any fun t => c.spent t.lun then 0x02 else 0x01
  let program := c.writeThrough && !x.readRule && decide (c.needs x ≠ 0)
  let past := decide (x.cls ≤ 2) && decide (p < b.total)
  let need := mergeNeeds (c.readTokens ts (1 + c.allow x.cls) ++ c.portTokens x)
  let items := c.placeAll x.h need duePs
  let work := c.readWork x.h duePs ts ++ c.portWork x duePs ++ c.programWork x duePs
  let toks := if items.isNone then c.tokenCauses x.h need duePs else []
  let causes := (if past then [boundCause b dieCause program] else [])
    ++ (if items.isNone ∧ toks = [] then [0x05] else toks)
    ++ (if ts ≠ [] ∧ c.noEngines then [0x06] else [])
    ++ (if c.slackOk duePs work then [] else [0x10])
    ++ (if x.cls ≤ 2 ∧ ts.any c.touchOut then [0x03] else [])
  (causes, b, items.getD [], work)

/-- Read-around serves Read and Segment Read (R48). Verify and Compare, which follow the read rule (R41) and which R48 does not name, are
not read around at admission (DESIGN CHOICE, log entry 69). -/
def Cmd.raKind (x : Cmd) : Bool := x.opcode == 0x02 || x.opcode == 0x82

/-- A bound in µs, rounded up and saturating (R42). -/
def boundUs (ps : Nat) : Nat := min 0xFFFF (cdiv ps 1000000)

/-- The test of read-around after a direct attempt that failed for `causes` with a bound of `direct`, none where it was not
made (R47 to R49, R493). Refused for its members or its limits it takes that cause in place of the die's; so it does for its
bound where the target is out of service. -/
def Chip.tryAround (c : Chip) (x : Cmd) (p duePs : Nat) (ts : List Touch) (causes : List Nat) (direct : Option Nat) : Verdict × Nat :=
  let r := c.readAround x p duePs ts
  let members := c.reroute x.h duePs 1 r.2.2.2
  let rest := ts.filter fun t => !r.2.2.1.contains t
  let need := mergeNeeds (c.readTokens members 1 ++ c.readTokens rest (1 + c.allow x.cls) ++ c.portTokens x)
  let items := c.placeAll x.h need duePs
  let work := c.readWork x.h duePs (members ++ rest) ++ c.portWork x duePs
  let ok := decide (r.2.1 = 0) && decide (r.1 ≤ p) && items.isSome && c.slackOk duePs work
  let least := if r.2.1 = 0x0F then (direct.map boundUs).getD 0 else min ((direct.map boundUs).getD 0xFFFF) (boundUs r.1)
  if ok then (.admitAs r.1 (items.getD []) work true (r.2.2.1.map Touch.unit) members, least)
  else
    let out := ts.any c.touchOut
    let first := (if r.2.1 = 0 then causes else causes.filter fun k => decide (k ≠ 0x01 ∧ k ≠ 0x02)).filter fun k => decide (k ≠ 0x03)
    let more := (if out ∧ r.2.1 = 0 ∧ p < r.1 then [0x03] else []) ++ (if r.2.1 = 0 then [] else [r.2.1])
      ++ (if items.isNone then c.tokenCauses x.h need duePs else []) ++ (if c.slackOk duePs work then [] else [0x10])
    (.refuse (first ++ more), least)

/-- The decision on the bound and the tokens (R47, R48): the direct attempt, and where it fails read-around, for a command of
class 0 to 2; a read of a RETIRED die has no direct attempt. -/
def Chip.decideOn (c : Chip) (x : Cmd) : Verdict × Nat :=
  let p := c.promise x
  let duePs := if 3 ≤ x.cls then 0 else x.fetchT * psPerCyc + p + x.extraPs
  let ts := if c.unloaded x then [] else c.cmdTouches x
  let around := decide (x.cls ≤ 2 ∧ c.get E.RA_ENABLE = 1 ∧ ts ≠ []) && x.raKind
  if around ∧ ts.any c.touchGone then c.tryAround x p duePs ts [] none
  else
    let d := c.tryDirect x p duePs (c.reroute x.h duePs (1 + c.allow x.cls) ts)
    if d.1 = [] then (.admitAs d.2.1.total d.2.2.1 d.2.2.2 false [] [], boundUs d.2.1.total)
    else if around then c.tryAround x p duePs ts d.1 (some d.2.1.total)
    else if 3 ≤ x.cls then (.wait (minOf 0xFF d.1), boundUs d.2.1.total)
    else (.refuse d.1, boundUs d.2.1.total)

def Verdict.admits : Verdict → Bool
  | .admitAs .. => true
  | _ => false

/-- A command that only the pending refill of the inning keeps from admission waits for it (R42, R47, R55). -/
def Chip.decideBound (c : Chip) (x : Cmd) : Verdict × Nat :=
  let v := c.decideOn x
  if c.um.inning < c.inning ∧ c.pm.refill ∧ !v.1.admits ∧ (({ c with um := { c.um with inning := c.inning } }).decideOn x).1.admits then (.wait 0x09, v.2)
  else v

/-- The checks of the Scorebook commands at admission (R314): a status, or none to go on. Commands
that must wait on a pending key are not checked until the wait ends (R317). -/
def Chip.bookCheck (c : Chip) (x : Cmd) : Option (Nat × Nat × Nat) :=
  let seen := c.seenKey x
  let g := bits (if x.opcode = 0x82 then x.dw 13 else x.dw 14) 19 0
  let have' := (seen.map SbEntry.gen).getD 0
  if x.opcode = 0x82 then
    let w := c.win5 (x.segWin / 256) (x.segWin % 256)
    if x.segPasser ∧ w.state ≠ 1 then some (stPassFault, 0, c.getAt E.PW_RETIRE_CAUSE (winItem w.port w.win))
    else if !c.keyLoaded x.sbKey then none
    else if seen.isNone ∨ (g ≠ 0 ∧ g ≠ have') then some (stKeyAbsent, have', 0)
    else none
  else if x.opcode = 0x8A then (if seen.isNone then some (stKeyAbsent, 0, 0) else none)
  else if x.opcode = 0x89 then
    if seen.isNone then some (stKeyAbsent, 0, 0)
    else if g ≠ 0 ∧ g ≠ have' then some (stCompare, have', 0) else none
  else if x.opcode = 0x85 then
    let hidden := (c.findKey x.sbKey).isSome && seen.isNone
    if hidden ∨ (g ≠ 0 ∧ g ≠ have') ∨ (bit (x.dw 13) 10 = 1 ∧ seen.isSome) then some (stCompare, have', 0) else none
  else none

/-- The admission test in full (R47): locks and refill first, then the command's own checks, its
credits, and its bound and tokens. A Segment Read behind a pending key is decided for both
entries (R317). A key whose catalogue slices are not loaded waits for them, but for a Segment Read that is promised
by R59; at most 256 touch loads run (R324, R439). -/
def Chip.decide' (c : Chip) (x : Cmd) : Verdict × Nat :=
  if x.bookCmd ∧ !c.keyLoaded x.sbKey ∧ (x.opcode ≠ 0x82 ∨ 3 ≤ x.cls) then (.wait 0, 0)
  else if c.unloaded x ∧ x.cls ≤ 2 ∧ 256 ≤ c.ft.loading.length then (.wait 0, 0)
  else
  let chk := if c.pendingOn x ≠ 0 ∧ x.opcode ≠ 0x8A then
      (if x.opcode = 0x82 ∧ x.segPasser ∧ (c.win5 (x.segWin / 256) (x.segWin % 256)).state ≠ 1 then c.bookCheck x else none)
    else if x.bookCmd then c.bookCheck x else none
  match chk with
  | some s => (.status s.1 s.2.1 s.2.2, 0)
  | none =>
    if !c.locksFree (c.lockNeeds x).length then (.wait 0x09, 0)
    else
      let v := c.decideBound x
      let full := x.opcode == 0x82 && x.segPasser &&
        (let w := c.win5 (x.segWin / 256) (x.segWin % 256); decide (w.maxWork ≤ w.outstanding))
      let more := (if c.bufferOk x then [] else [0x0A]) ++ (if c.energyOk x then [] else [0x0B]) ++ (if full then [0x0E] else [])
      if more = [] then v
      else if 3 ≤ x.cls then (.wait (minOf 0xFF more), v.2)
      else match v.1 with
        | .refuse l => (.refuse (l ++ more), v.2)
        | _ => (.refuse more, v.2)

/-- The port whose time a resource is. -/
def resPort : Res → Option Nat
  | .portOut p => some p
  | .portIn p => some p
  | _ => none

/-- Where a placement needs more of a port's time than its width gives, wider is asked for (R120): of each port whose time is short, and,
for a bound that the port's rate alone makes too long, of each port that the command uses. -/
def Chip.wantWide (c : Chip) (x : Cmd) (past : Bool) : Chip :=
  let duePs := if 3 ≤ x.cls then 0 else x.fetchT * psPerCyc + c.promise x + x.extraPs
  let need := mergeNeeds (c.portTokens x)
  let short := need.filter fun n => (c.placeOne x.h n.1 n.2 (c.innings duePs)).isNone
  let ask := if short = [] ∧ past then need else short
  c.each (ask.filterMap fun n => resPort n.1) fun c p => c.setPort { c.portOf p with wantWide := true }

/-- A refusal (R38, R42): DEADLINE_REFUSED with the first failing cause in table order; counted for
the device, the queue, and the second (R61, R66). -/
def Chip.refuse (c : Chip) (x : Cmd) (causes : List Nat) (smallest : Nat) : Chip :=
  let k := minOf 0x11 causes
  let l := secAdd c.ev.refusals 0x202 k c.now
  let c1 := (({ c with ev := { c.ev with refusals := l } }).count E.REFUSED 1).countOct E.REFUSE_CAUSES 0 (k - 1)
  let c2 := if causes.contains 0x07 then c1.wantWide x true else c1
  (c2.unlock x.h).finish x.h stRefused (at' smallest 16 + k) 0

/-- The map and the list have been programmed to both system-area copies (R352). -/
def Pr.saved (p : Pr) : Pr := { p with mapDirty := none, savedMarks := p.marks, savedUnconf := p.unconfirmed }

/-- Regions marked in the dirty map (R352); the map is to be programmed within 1 s. -/
def Chip.markRegions (c : Chip) (gs : List Nat) : Chip :=
  let l := gs.eraseDups.filter fun g => !c.pr.marks.contains g
  let d := if l = [] then c.pr.mapDirty else some (c.pr.mapDirty.getD c.now)
  let all := c.pr.marks ++ l
  { c with pr := { c.pr with marks := all, mapDirty := d } }

/-- In SOLO an admitted write marks its granules; Put and Drop mark the catalogue (R352). -/
def Chip.markAdmitted (c : Chip) (x : Cmd) : Chip :=
  if x.mirrored ∧ c.get E.PAIR_STATE = 1 then c.markRegions (c.regionsOf x) else c

/-- The pending bit of a Put's or Drop's key, or a stashed placeholder for a new key (R315). -/
def Chip.setPending (c : Chip) (x : Cmd) : Chip :=
  match c.findKey x.sbKey with
  | some p => { c with book := c.book.write p.1 { p.2 with pending := x.h } }
  | none => match c.book.freeStash with
    | none => c
    | some i =>
      let e := { x.putEntry 0 with pending := x.h }
      let l := c.book.placeholders ++ [(i, e)]
      { c with book := { c.book with placeholders := l } }

/-- The read-around's bus tokens of the inning, and the place in flight of its command (R49, R66). -/
def Chip.takeRa (c : Chip) (h : Nat) (ms : List Touch) : Chip :=
  let bus := ms.foldl (fun m t =>
    let ch := chanOf t.lun
    SMap.put 0 ch (SMap.get 0 ch m + t.cws * cdiv (c.cwPs ch) 125000) m) c.um.raBus
  let c1 := { c with um := { c.um with raBus := bus } }
  if c.um.raInflight.contains h then c1
  else
    let l := h :: c.um.raInflight
    ({ c1 with um := { c1.um with raInflight := l } }).count E.READAROUND 1

/-- Admission (R47, R85): tokens, work, credits and locks are taken under the next sequence
number. -/
def Chip.admitAs (c : Chip) (x : Cmd) (boundPs : Nat) (items : List LedgerItem) (work : List WorkItem) (ra : Bool)
    (raUnits : List Nat) (members : List Touch) (smallest : Nat) : Chip :=
  let wait := c.pendingOn x
  let kept := if x.opcode = 0x82 ∧ wait = 0 then (match c.seenKey x with
    | some e => [e.key, e.nsid, e.slba, e.length, e.gen, e.flags]
    | none => []) else []
  let x1 := { x with phase := .admitted, taken := true, cause := 0, key := kept, admitT := c.now, promisePs := c.promise x, boundPs := boundPs, ra := ra,
                     raUnits := raUnits, smallestUs := smallest, waitH := if wait = 0 then none else some wait }
  let ledger := c.um.ledger ++ items
  let ws := c.um.work ++ work
  let c1 := (({ c with um := { c.um with ledger := ledger, work := ws } }).setCmd x1).count E.ADMITTED 1
  let c2 := (c1.takeCredits x1).lockRuns x.h (c.lockNeeds x) x.exclusive
  let c3 := if ra then c2.takeRa x.h members else c2
  let c4 := if (x.opcode = 0x85 ∨ x.opcode = 0x89) ∧ wait = 0 then c3.setPending x1 else c3
  let c5 := if x.opcode = 0x82 ∧ x.segPasser then
      let w := c4.win5 (x.segWin / 256) (x.segWin % 256)
      let us := w.users ++ [x.h]
      c4.setWin5 { w with users := us }
    else c4
  let c6 := if c.unloaded x ∧ x.cls ≤ 2 then
      let us := if x.opcode = 0x82 then (c.segEntries x).flatMap fun e => (c.segUnits x e).map Prod.fst
        else match c.ns x.nsid with
          | none => []
          | some n => (Chip.unitCws n (x.slba, x.nlb)).map Prod.fst
      (c5.each us Chip.touchSlice).count E.WARMUP_ADMITS 1
    else c5
  (c6.markAdmitted x).each ((c.cmdTouches x).map Touch.lun) Chip.kickDie

/-- The entry that a Segment Read delivers from, kept from its lookup (R319). -/
def Cmd.seg (x : Cmd) : Option SbEntry :=
  match x.key with
  | [k, n, s, l, g, f] => some { key := k, nsid := n, slba := s, length := l, gen := g, flags := f, pending := 0 }
  | _ => none

def SbEntry.kept (e : SbEntry) : List Nat := [e.key, e.nsid, e.slba, e.length, e.gen, e.flags]

/-- The due time by which undecided commands are ordered (R77). -/
def Chip.dueOf (c : Chip) (x : Cmd) : Nat := x.fetchT * psPerCyc + c.promise x + x.extraPs

/-- A command's turn (R77): classes 0 to 2 by due time, ties in fetch order, before class 3 in fetch order. A command that
waits holds up those whose turn comes after its own (log entry 18). -/
def Chip.turn (c : Chip) (x : Cmd) : Bool :=
  c.cmds.all fun y =>
    decide (y.h = x.h) || y.admin || decide (y.opcode = 0) || decide (y.phase ≠ .fetched ∧ y.phase ≠ .waiting)
      || (if x.cls ≤ 2 then decide (3 ≤ y.cls) || decide (c.dueOf x < c.dueOf y) || (decide (c.dueOf x = c.dueOf y) && decide (x.h < y.h))
          else decide (3 ≤ y.cls) && decide (x.h < y.h))

/-- Why a command waits on the lock table, as it is held while it waits: 9 a full table, 10 a full holdover list, 0 neither (R88, R97). -/
def Chip.stallOf (c : Chip) (x : Cmd) (k : Nat) : Nat :=
  if k = 0x09 ∧ !c.locksFree (c.lockNeeds x).length then (if c.moveHeld.seqHeld then 10 else 9) else 0

/-- The decision carried out (R38, R47, R89). A wait on a full table or holdover list counts as it begins (R97). A command whose admission
would lead to a split that the lost-range log has no run for brings maintenance mode instead, and ends with the commands not decided (R24,
R259). -/
def Chip.decideCmd (c : Chip) (x : Cmd) : Chip :=
  let c0' := if x.bookCmd then c.count E.SB_LOOKUPS 1 else c
  let c0 := if x.bookCmd ∧ !c.keyLoaded x.sbKey then c0'.touchCat x.sbKey else c0'
  let v := c.decide' x
  match v.1 with
  | .admitAs b items work ra raUnits members => if c.splitShort (c.clearsOf x) then c0.maintain 32 else c0.admitAs x b items work ra raUnits members v.2
  | .status st dw0 dw1 =>
    let c1 := if st = stKeyAbsent then c0.count E.SB_ABSENT 1 else c0
    c1.finish x.h st dw0 dw1
  | .refuse causes => c0.refuse x causes v.2
  | .wait k =>
    let stall := c.stallOf x k
    let c1 := (c0.setCmd { x with phase := .waiting, smallestUs := v.2, cause := stall }).wantWide x false
    if stall ≠ 0 ∧ stall ≠ x.cause then
      (c1.count (if stall = 10 then E.RL_HOLDOVER_STALLS else E.RL_FULL_STALLS) 1).eventFirst 0x204 0 1 noUnit [stall - 9]
    else c1

/-! ### What a command has of its data -/

/-- The LBAs of a run in order: (LBA, global unit, place in the unit). -/
def lbasOf (n : Ns) (r : Nat × Nat) : List (Nat × Nat × Nat) :=
  (List.range r.2).filterMap fun i =>
    let lba := r.1 + i
    (n.globalUnit (lba / lbasPerUnit n.lbaf)).map fun g => (lba, g, lba % lbasPerUnit n.lbaf)

/-- The tasks, the pins and the die work of a command end. -/
def Chip.dropReads (c : Chip) (h : Nat) : Chip :=
  let l := drop' (fun t => decide (t.h = h)) c.rd.tasks
  ({ c with rd := { c.rd with tasks := l } }).unpin h

end Sys2Proof.Machine
end

