-- ==== Sys2Proof/Machine/Rally.lean ====
section
/-! DEFINITION. The Rally link: frames sent, received and replayed, what a mirrored command sends,
dirty regions and the unconfirmed list, and the loss of the partner (R338 to R356). -/
namespace Sys2Proof.Machine

/-! ### Sending (R338 to R340) -/

/-- MIRROR_DATA, MIRROR_META and RESYNC_DATA share their type fields (R339). -/
def isDataFrame (kind : Nat) : Bool := kind == 0x10 || kind == 0x11 || kind == 0x21

/-- The type fields of a frame, octets 24 to 55, as one little-endian number (R339). -/
def typeFields (kind : Nat) (fs : List Nat) : Nat :=
  let f := fun (k width shift : Nat) => at' (nth fs k % 2 ^ width) shift
  if kind = 0x01 then f 0 32 0 + f 1 8 32 + f 2 8 40 + f 3 8 48 + f 4 8 56 + f 5 64 64 + f 6 32 128 + f 7 32 160 + f 8 32 192
  else if isDataFrame kind then f 0 35 0 + f 1 8 40 + f 2 16 48 + f 3 48 64 + f 4 32 112 + f 5 32 144
  else if kind = 0x12 then f 0 35 0 + f 1 8 40 + f 2 16 48 + f 3 32 64
  else if kind = 0x20 then f 0 8 0 + f 1 32 8
  else if kind = 0x22 then f 0 35 0 + f 1 4 40 + f 2 16 48 + f 3 32 64
  else if kind = 0x30 then f 0 6 0 + f 1 1 8 + f 2 20 32
  else if kind = 0x40 then f 0 8 0 + f 1 8 8
  else f 0 32 0

/-- The 16 octets of an unconfirmed entry (R352). -/
def unconfWord (e : UnconfEntry) : Nat := e.unit + at' e.count 40 + at' e.kind 64 + at' e.key 80

/-- The payload of a frame (R339): its share of the data or metadata of its LBAs, filled to a multiple of 16 octets; the entry of
a Put or Drop; a chunk of the map, 1,024 octets, or 16 for the catalogue region; the entries; or a share of the codewords read. -/
def Sent.payload (f : Sent) : List Nat :=
  let fs := f.fields.drop 1
  let data := (f.blocks.headD { data := 0, info := 0 }).data
  if isDataFrame f.kind then
    let lba := if f.kind = 0x11 ∨ (f.blocks.headD { data := 0, info := 0 }).info = 1 then metaOctets (nth fs 1 % 16) else lbaOctets (nth fs 1 % 16)
    if f.blocks = [] then [] else octetsOf (16 * cdiv (min 1024 (lba * nth fs 4 - nth fs 5)) 16) data
  else if f.kind = 0x12 then f.blocks.flatMap fun b => octetsOf 32 b.data
  else if f.kind = 0x20 ∧ nth fs 0 = 1 then octetsOf (if nth fs 1 = 64 then 16 else 1024) (sumOf ((fs.drop 2).map fun g => 2 ^ (g % 8192)))
  else if f.kind = 0x20 then f.blocks.flatMap fun b => octetsOf 16 b.data
  else if f.kind = 0x23 ∧ f.blocks ≠ [] then octetsOf (nth fs 1) data
  else []

/-- A frame as octets (R338): header, type fields, payload, and the trailer with the CRC over what comes before it. -/
def frameOctets (kind flags seq acked credits slots xfer fields : Nat) (payload : List Nat) : List Nat :=
  let head := kind + at' flags 8 + at' payload.length 16 + at' seq 32 + at' acked 64 + at' (credits % 65536) 96 + at' (slots % 2 ^ 20) 112
    + at' xfer 144
  let body := octetsOf 24 head ++ octetsOf 32 fields ++ payload
  body ++ octetsOf 4 (crc32c 0xFFFFFFFF body) ++ octetsOf 4 0

/-- A sequenced frame with what its header reports at the moment at which it leaves. -/
def Sent.out (f : Sent) (acked credits slots : Nat) : Out :=
  .rally f.kind f.seq f.xfer (frameOctets f.kind (nth f.fields 0) f.seq acked credits slots f.xfer (typeFields f.kind (f.fields.drop 1)) f.payload)

/-- One sequenced frame leaves: it takes a credit, carries the acknowledged value, the credits and
the mirror slots returned, and stays in the window of the last 512 for replay. -/
def Chip.transmit (c : Chip) (f : Sent) : Chip :=
  let p := c.pr
  let ack := (p.recvNext + 2 ^ 32 - 1) % 2 ^ 32
  let g := { f with seq := p.sendNext }
  let w := (p.window ++ [g]).drop (if 512 ≤ p.window.length then 1 else 0)
  let t := match p.replayT with
    | some t => some t
    | none => some c.now
  let next := (p.sendNext + 1) % 2 ^ 32
  let c1 := ({ c with pr := { p with window := w, sendNext := next, credits := p.credits - 1, back := 0, slotsFreed := 0,
                                     lastAckT := c.now, replayT := t } }).emit (g.out ack p.back p.slotsFreed)
  let c2 := c1.count E.RALLY_FRAMES_TX 1
  let c3 := if f.kind = 0x10 ∨ f.kind = 0x11 ∨ f.kind = 0x12 then c2.count E.MIRRORED_BYTES f.payload.length
    else if f.kind = 0x21 then c2.count E.RESYNC_BYTES f.payload.length else c2
  if next = 0 then c3.count E.RALLY_SEQ_EPOCH 1 else c3

/-- A sequenced frame is sent at once, or waits in order for a credit (R340). `last` is flag [0]. -/
def Chip.sendFrame (c : Chip) (kind xfer : Nat) (last : Bool) (fields : List Nat) (blocks : List Blk) : Chip :=
  let f : Sent := { seq := 0, kind := kind, xfer := xfer, fields := (if last then 1 else 0) :: fields, blocks := blocks }
  if !c.pr.up then c
  else if c.pr.queue = [] ∧ 0 < c.pr.credits then c.transmit f
  else
    let q := c.pr.queue ++ [f]
    { c with pr := { c.pr with queue := q } }

/-- Waiting frames leave while credits last. -/
def Chip.drainN : Nat → Chip → Chip
  | 0, c => c
  | n + 1, c => match c.pr.queue with
    | [] => c
    | f :: r => if c.pr.credits = 0 then c else drainN n (({ c with pr := { c.pr with queue := r } }).transmit f)

def Chip.drainRally (c : Chip) : Chip := Chip.drainN c.pr.queue.length c

/-- An unsequenced frame repeats the next value (R338); flag [1]. -/
def Chip.sendPlain (c : Chip) (kind : Nat) (fields : List Nat) : Chip :=
  let p := c.pr
  let ack := (p.recvNext + 2 ^ 32 - 1) % 2 ^ 32
  if !p.up then c
  else ({ c with pr := { p with back := 0, slotsFreed := 0, lastAckT := c.now } }).emit
    (.rally kind p.sendNext 0 (frameOctets kind 2 p.sendNext ack p.back p.slotsFreed 0 (typeFields kind fields) []))

/-- One NAK for each expected value until it arrives (R340). -/
def Chip.nakOnce (c : Chip) : Chip :=
  if c.pr.nakFor = some c.pr.recvNext then c
  else (({ c with pr := { c.pr with nakFor := some c.pr.recvNext } }).sendPlain 3 [c.pr.recvNext]).count E.RALLY_NAKS 1

/-- A replay starts from a sequence (R340): the frames from there are sent again. The replays
started within 1 ms are one transient fault of the RALLY unit (R17). -/
def Chip.replayFrom (c : Chip) (seq : Nat) : Chip :=
  let l := c.pr.window.filter fun f => !serialLt 32 f.seq seq
  let burst := match c.pr.replayT with
    | some t => decide (t + cycPerMs ≤ c.now)
    | none => true
  let c1 := c.each l fun c f =>
    c.emit (f.out ((c.pr.recvNext + 2 ^ 32 - 1) % 2 ^ 32) 0 0)
  let c2 := ({ c1 with pr := { c1.pr with lastAckT := c.now } }).count E.RALLY_REPLAYS l.length
  if l = [] then c2
  else if burst then ((c2.chargeFault (mkUnit kRALLY 0)).event 0x484 0 1 (c2.unitIdent (mkUnit kRALLY 0)) [l.length] |> fun c =>
    { c with pr := { c.pr with replayT := some c.now } })
  else c2

/-! ### Host view (R355) -/

/-- A write is refused by the pair's state (R349, R350): the detach decides before
PAIR_SOLO_WRITES. -/
def Chip.soloRefuses (c : Chip) : Bool :=
  let s := c.get E.PAIR_STATE
  let d := c.get E.DETACHED
  let w := c.get E.PAIR_SOLO_WRITES
  s == 1 && (if d = 1 then false else if d = 2 then true
    else w == 3 || (w == 1 && c.ownIndex == 1) || (w == 2 && c.ownIndex == 0))

/-- The ANA state of group 1: 1 optimized, 2 non-optimized, 3 inaccessible (R355). -/
def Chip.anaState (c : Chip) : Nat :=
  let s := c.get E.PAIR_STATE
  if c.boot.maint then 3
  else if s = 1 then (if c.soloRefuses then 2 else 1)
  else if s = 2 then (if c.pr.source then 1 else 2)
  else if s = 3 then 2 else 1

/-- The pair state changes (R349): SOLO_SINCE, the event with its cause, and NOTICE of it to a partner that is joined (R339; that
every change is told is a DESIGN CHOICE, log entry 67). -/
def Chip.setPairState (c : Chip) (s cause : Nat) : Chip :=
  let old := c.get E.PAIR_STATE
  if old = s then c
  else
    let c1 := ((c.set E.PAIR_STATE s).set E.SOLO_SINCE (if s = 1 then c.stamp else 0)).event 0x480 0 (if s = 3 then 4 else if s = 0 ∨ s = 2 then 2 else 1) noUnit [s, cause]
    if c.pr.joined then c1.sendFrame 0x40 0 true [5, s] [] else c1

/-! ### The unconfirmed list (R352) -/

/-- An entry joins the list; one that does not fit, or that finds the list full, marks its regions
instead. -/
def Chip.enterUnconfirmed (c : Chip) (e : UnconfEntry) : Chip :=
  let gs := if e.kind = 0 then (List.range (e.count / 65536 + 2)).map (fun i => e.unit / 65536 + i) |>.filter
      fun g => decide (g * 65536 < e.unit + e.count) else [524288]
  if 512 < e.count then c.markRegions gs
  else if 8192 ≤ c.pr.unconfirmed.length then (c.markRegions gs).event 0x485 0 1 noUnit []
  else
    let l := c.pr.unconfirmed ++ [e]
    let d := some (c.pr.mapDirty.getD c.now)
    { c with pr := { c.pr with unconfirmed := l, mapDirty := d } }

/-- The entries of a command (R352): its runs of global units, or its key. -/
def Chip.unconfOf (c : Chip) (x : Cmd) : List UnconfEntry :=
  if x.bookCmd then [{ unit := 0, count := 1, kind := if x.opcode = 0x85 then 1 else 2, key := x.sbKey % 2 ^ 48 }]
  else match c.ns x.nsid with
    | none => []
    | some n => (unitRuns (x.runs.flatMap fun r => (cover n.lbaf r.1 r.2).filterMap fun u => n.globalUnit u.1)).map
        fun p => { unit := p.1, count := p.2, kind := 0, key := 0 }

/-! ### A mirrored command's transfer (R343, R344, R354) -/

/-- The 1,024-octet chunks of some octets. -/
def chunks (octets v : Nat) : List Nat := (List.range (cdiv octets 1024)).map fun j => v / 2 ^ (8192 * j) % 2 ^ 8192

/-- The octets of LBAs, one after another. -/
def joinOctets (octets : Nat) (l : List Nat) : Nat := l.foldr (fun b acc => b + acc * 2 ^ (8 * octets)) 0

/-- The frames of a data transfer, all but the last flag: its data, then its metadata. A data chunk
has 0 in `info`, a metadata chunk 1. -/
def mirrorFrames (n : Ns) (kind xid unit slba count state : Nat) (whole : Bool) (bs : List Blk) : List Sent :=
  let o := lbaOctets n.lbaf
  let m := metaOctets n.lbaf
  let data := chunks (o * count) (joinOctets o (bs.map Blk.data))
  let info := if m = 0 then [] else chunks (m * count) (joinOctets m (bs.map Blk.info))
  let fs := fun (k : Nat) => [0, unit, n.lbaf + (if whole then 16 else 0) + 32 * state, n.nsid, slba, count, 1024 * k]
  let mk := fun (ty mark : Nat) (p : Nat × Nat) =>
    ({ seq := 0, kind := ty, xfer := xid, fields := fs p.2, blocks := [{ data := p.1, info := mark }] } : Sent)
  (data.zip (List.range data.length)).map (mk kind 0) ++ (info.zip (List.range info.length)).map (mk 0x11 1)

/-- A namespace LBA run touches a granule that is pending on the partner (R354). -/
def Chip.pendingThere (c : Chip) (us : List Nat) : Bool :=
  c.get E.PAIR_STATE == 2 && us.any fun u => c.pr.marks.contains (u / 65536)

/-- The transfer of a command, opened when its effect is known (R343). -/
def Chip.openXfer (c : Chip) (x : Cmd) : Chip :=
  if c.pr.xfers.any fun f => f.origin && decide (f.h = x.h) then c
  else
    let id := c.pr.nextXfer
    let f : Xfer := { id := id, h := x.h, origin := true, slots := x.credits, mirror := false, done := false, nsid := x.nsid,
                      first := 0, count := 0, fmt := 0, whole := false, slba := 0, blocks := [], kind := 0, sent := false }
    let l := c.pr.xfers ++ [f]
    { c with pr := { c.pr with xfers := l, nextXfer := (id + 1) % 2 ^ 32 } }

/-- The LBA runs that a command's slots hold, by unit: where its own data goes out as it is, only
the LBAs it wrote; into a granule pending on the partner, the whole merged unit (R354). -/
def Chip.cmdFrames (c : Chip) (x : Cmd) (xid : Nat) : List Sent :=
  match c.ns x.nsid with
  | none => []
  | some n =>
    let o := lbasPerUnit n.lbaf
    let mine := c.ft.slots.filter fun s => x.slots.contains s.id
    if x.opcode = 0x85 ∨ x.opcode = 0x89 then
      let e := x.putEntry (((c.findKey x.sbKey).map fun p => nextGen p.2.gen).getD 1)
      [{ seq := 0, kind := 0x12, xfer := xid, fields := [0, 0, if x.opcode = 0x85 then 3 else 4, e.nsid, 0], blocks :=
          [{ data := e.word false, info := 0 }] }]
    else
      let whole := c.pendingThere (mine.map Slot.unit)
      let data := if x.opcode = 0x01 ∧ !whole then
          let cut := mine.flatMap fun s =>
            ((lbasOf n (x.slba, x.nlb)).filter fun l => decide (l.2.1 = s.unit)).map fun l => s.blocks.getD l.2.2 { data := 0, info := 0 }
          mirrorFrames n 0x10 xid ((mine.map Slot.unit).headD 0) x.slba x.nlb 0 false cut
        else mine.flatMap fun s =>
          let lba := ((c.ownerOf s.unit).map Prod.snd).getD 0 * o
          mirrorFrames n 0x10 xid s.unit lba o 0 true s.blocks
      let codes := if x.opcode = 0x08 ∨ x.opcode = 0x09 then
          (unitRuns (x.runs.flatMap fun r => wholeUnits n r)).map fun r =>
            ({ seq := 0, kind := 0x12, xfer := xid, fields := [0, r.1, if x.opcode = 0x09 ∨ bit (x.dw 12) 25 = 1 then 1 else 2,
                x.nsid, r.2], blocks := [] } : Sent)
        else []
      data ++ codes

/-- Frames handed to the link, the last of them with its flag. -/
def Chip.sendAll (c : Chip) (fs : List Sent) (last : Bool) : Chip :=
  c.each (fs.zip (List.range fs.length)) fun c p =>
    c.sendFrame p.1.kind p.1.xfer (last && decide (p.2 + 1 = fs.length)) (p.1.fields.drop 1) p.1.blocks

/-- A command ends without effect before its mirror point: ABORT is sent (R343). -/
def Chip.abortXfer (c : Chip) (h : Nat) : Chip :=
  match c.pr.xfers.find? fun f => f.origin && decide (f.h = h) && !f.mirror with
  | none => c
  | some f =>
    let l := c.pr.xfers.erase f
    let q := drop' (fun (s : Sent) => decide (s.xfer = f.id)) c.pr.queue
    let c1 := match c.cmd h with
      | some x => if f.sent then c.setCmd { x with guests := 0 } else c
      | none => c
    ({ c1 with pr := { c1.pr with xfers := l, queue := q } }).sendFrame 0x14 f.id true [] []

/-- A command ends without effect (R91, R141, R315, R343): its transfer is called off, and what it holds returns. The partner
returns the granted slots of a transfer that had begun. -/
def Chip.undo (c : Chip) (h : Nat) : Chip := (c.abortXfer h).giveBack h

/-- The mirror point of a command (R343): every frame but the last has been handed to the link and
has left; the last one leaves now. The answer says whether the point has been reached. -/
def Chip.mirrorPoint (c : Chip) (x : Cmd) : Chip × Bool :=
  if !(c.mirrors && x.mirrored) then (c, true)
  else
    let c0 := c.openXfer x
    match c0.pr.xfers.find? fun f => f.origin && decide (f.h = x.h) with
    | none => (c0, true)
    | some f =>
      let fs := c0.cmdFrames x f.id
      if fs = [] then
        let l := c0.pr.xfers.erase f
        ({ c0 with pr := { c0.pr with xfers := l } }, true)
      else
        let all := fs.take (fs.length - 1)
        let g := { f with sent := true }
        let l := change (fun q => decide (q = f)) (fun _ => g) c0.pr.xfers
        let c1 := if f.sent then c0 else ({ c0 with pr := { c0.pr with xfers := l } }).sendAll all false
        if c1.pr.credits = 0 ∨ c1.pr.queue ≠ [] then (c1, false)
        else
          let l2 := change (fun q => decide (q.id = f.id) && q.origin) (fun q => { q with mirror := true }) c1.pr.xfers
          (({ c1 with pr := { c1.pr with xfers := l2 } }).sendAll (fs.drop (fs.length - 1)) true, true)

/-- A command's transfer still waits for DONE (R343). -/
def Chip.awaitsDone (c : Chip) (h : Nat) : Bool := c.pr.xfers.any fun f => f.origin && decide (f.h = h) && !f.done

/-- DONE has come for a mirrored command, or no longer will: one that has ended completes now (R78, R343, R351), and is gone where its
completion has been posted. -/
def Chip.mirrorEnds (c : Chip) (h : Nat) : Chip :=
  match c.cmd h with
  | none => c
  | some x => if x.phase ≠ .ended then c else if x.posted then c.dropCmd h else c.setCmd { x with order := c.nextOrder }

/-! ### Transfers staged for the partner (R344 to R346) -/

/-- Staged slots that have not been applied are freed, and the entry is released. -/
def Chip.discardXfer (c : Chip) (f : Xfer) : Chip :=
  let l := c.pr.xfers.erase f
  (({ c with pr := { c.pr with xfers := l } }).giveBack f.h).dropReads f.h |>.unlock f.h

/-- LBA i of a staged transfer, from its chunks (R339). -/
def Xfer.lba (f : Xfer) (i : Nat) : Blk :=
  let o := lbaOctets f.fmt
  let m := metaOctets f.fmt
  let data := joinOctets 1024 ((f.blocks.filter fun b => decide (b.info = 0)).map Blk.data)
  let info := joinOctets 1024 ((f.blocks.filter fun b => decide (b.info = 1)).map Blk.data)
  { data := data / 2 ^ (8 * o * i) % 2 ^ (8 * o), info := info / 2 ^ (8 * m * i) % 2 ^ (8 * m) }

/-- The units of a transfer that have no slot of it yet, with their global units. A partly covered one that is lost here takes none, so that
the transfer leaves it as it is (R143; that its other units are applied, and that DONE goes out, is a DESIGN CHOICE, log entry 73). -/
def Chip.unstaged (c : Chip) (f : Xfer) : List ((Nat × Nat × Nat) × Nat) :=
  match c.ns f.nsid with
  | none => []
  | some n =>
    let us := (cover n.lbaf f.slba f.count).filterMap fun u => (n.globalUnit u.1).map fun g => (u, g)
    us.filter fun p => !(c.ft.slots.any fun s => decide (s.h = f.h ∧ s.unit = p.2))
      && !(decide (p.1.2.2 < lbasPerUnit n.lbaf) && (c.newest p.2).isNone && c.isLost p.2)

/-- The data of a unit of a transfer is written into a granted slot, the LBAs that it leaves out coming from the own copy: from the newest
version, as zeros, or by a merge that reads flash and counts (R143, R345). One whose map slice is not loaded waits for it (R139). -/
def Chip.stageUnit (c : Chip) (f : Xfer) (n : Ns) (u : Nat × Nat × Nat) (g : Nat) : Chip :=
  let k := lbasPerUnit n.lbaf
  let old := c.newest g
  if u.2.2 < k ∧ old.isNone ∧ !c.sliceLoaded g then c.touchSlice g
  else
    let bs := (List.range k).map fun i =>
      let lba := u.1 * k + i
      if u.2.1 ≤ i ∧ i < u.2.1 + u.2.2 then f.lba (lba - f.slba)
      else match old with
        | some s => s.blocks.getD i { data := 0, info := 0 }
        | none => { data := Config.xts n.key lba 0, info := 0 }
    let c1 := c.takeSlot f.h g n.nsid n.lbaf bs false
    let guest := change (fun (s : Slot) => decide (s.h = f.h ∧ s.unit = g)) (fun s => { s with guest := true }) c1.ft.slots
    let c2 := { c1 with ft := { c1.ft with slots := guest }, pr := { c1.pr with slotsIn := c1.pr.slotsIn + 1 } }
    if u.2.2 < k ∧ old.isNone ∧ onFlash (c.mapOf g) then
      (c2.count E.CRU_RMW_UNITS 1).startRead f.h g (c.mapOf g) ((List.range 4).filter fun i => decide (i < u.2.1) || decide (u.2.1 + u.2.2 ≤ i)) 2 0
    else c2

/-- The units of a transfer that are still to be staged are, as far as their slices are loaded. -/
def Chip.stageXfer (c : Chip) (f : Xfer) : Chip :=
  match c.ns f.nsid with
  | none => c
  | some n => c.each (c.unstaged f) fun c p => c.stageUnit f n p.1 p.2

/-- A merge of a transfer that ends in a loss leaves its unit out of the transfer (R143, log entry 73). -/
def Chip.unstage (c : Chip) (h unit : Nat) : Chip :=
  c.each ((c.ft.slots.filter fun s => decide (s.h = h ∧ s.unit = unit) && s.wseq.isNone).map Slot.id) Chip.freeSlot

/-- The owner of a granule writes the older version: its entry counts as earlier (R346). The
partner is the owner of even granules when it is C0. -/
def Chip.partnerOwns (c : Chip) (unit : Nat) : Bool := decide (unit / 65536 % 2 = c.pr.partnerIndex)

/-- The exclusive entry of a transfer, taken when its first frame arrives, or as soon as the table gives out entries and
numbers (R88, R345). -/
def Chip.lockXfer (c : Chip) (f : Xfer) : Chip :=
  if c.locksFree 1 then c.lockRunsOf f.h [(f.nsid, firstUnit f.fmt f.slba, lastUnit f.fmt f.slba f.count)] true (c.partnerOwns f.first) else c

/-- A transfer has its range-lock entry. -/
def Chip.holdsEntry (c : Chip) (h : Nat) : Bool := (c.lk.held ++ c.lk.main).any fun l => decide (l.h = h)

/-- A complete transfer whose entry is granted and whose merges have been read is applied: its
versions are committed, the units count as newer than a copy in progress, DONE is sent and the
entry is released (R345, R354). -/
def Chip.applyXfer (c0 : Chip) (f : Xfer) : Chip :=
  let c := if f.mirror ∧ f.kind = 0 then c0.stageXfer f else c0
  let waits := (c.rd.tasks.any fun t => decide (t.h = f.h) && t.word.isNone) || (decide (f.kind = 0) && decide (c.unstaged f ≠ []))
  if !f.mirror ∨ !c.holdsEntry f.h ∨ !c.locked f.h ∨ waits then c
  else
    let mine := c.ft.slots.filter fun s => decide (s.h = f.h) && s.wseq.isNone
    let seen := c.pr.newer ++ mine.map Slot.unit
    let peer := drop' (fun (e : UnconfEntry) => mine.any fun s => decide (s.unit = e.unit)) c.pr.peerUnconf
    let l := c.pr.xfers.erase f
    let c1 := { c with pr := { c.pr with newer := seen, peerUnconf := peer, xfers := l } }
    let c2 := c1.each (mine.map Slot.id) Chip.commitSlot
    ((c2.unlock f.h).sendFrame 0x13 f.id true [] []).pour

/-! ### The loss of the partner (R341, R351) -/

/-- Slots granted to the partner become ordinary ones, with their energy credits; the grant ends
(R344, R351). -/
def Chip.endGrant (c : Chip) : Chip :=
  let own := change Slot.guest (fun (s : Slot) => { s with guest := false, energy := true }) c.ft.slots
  let back := c.pr.grant - c.pr.slotsIn
  { c with ft := { c.ft with slots := own }, st := { c.st with dirty := c.st.dirty - back },
           pr := { c.pr with grant := 0, slotsIn := 0, slotsOut := 0, slotsFreed := 0 } }

/-- Fenced writes end with one result and `left` stay outstanding (R356); Dictionary Sets that waited
complete when none from that transport is left. -/
def Chip.endFences (c : Chip) (left : List (Nat × Nat × Nat)) (result : Nat) : Chip :=
  let c1 := ({ c with pr := { c.pr with fences := left } }).set E.MBOX_FENCE_RESULT result
  c1.when (!c1.fenced .nvme) fun c =>
    c.each (c.cmds.filter fun x => x.admin && decide (x.opcode = 0xC5 ∧ x.phase = .working ∧ x.step = 1)) fun c x =>
      let c' := c.setCmd { x with step := 0 }
      if x.work = 0 then c'.finish x.h stOk x.dw0 x.dw1 else c'

/-- The partner is lost (R351), with the trigger of R341: 0 link down, 1 no frame, 2 NOTICE, 3 RALLY
unit. Origin transfers before their mirror point go on in SOLO with their regions marked; those
past it enter the unconfirmed list and complete; staged transfers are applied if complete and
discarded otherwise. -/
def Chip.losePartner (c : Chip) (trigger : Nat) : Chip :=
  if !c.pr.joined then c
  else
    let own := c.pr.xfers.filter fun f => f.origin && !f.done
    let theirs := c.pr.xfers.filter fun f => !f.origin
    let c1 := (c.count E.PARTNER_LOSSES 1).event 0x483 0 4 noUnit [trigger]
    let c2 := c1.each theirs fun c f => if f.mirror then c.applyXfer f else if f.kind = 0 then c.discardXfer f else c
    let c3 := c2.each own fun c f => match c.cmd f.h with
      | none => c
      | some x =>
        let c' := if f.mirror then c.each (c.unconfOf x) Chip.enterUnconfirmed else c.markRegions (c.regionsOf x)
        (if x.cls ≤ 1 ∧ x.duePs < c.nowPs then c'.setCmd { x with cause := 0x21 } else c').mirrorEnds f.h
    let c4 := ({ c3 with pr := { c3.pr with joined := false } }).setPairState 1 (16 + trigger)
    let left := c4.pr.xfers.filter fun f => !f.origin && f.mirror
    let held := c4.pr.copying.isSome
    let c5 := { c4 with pr := { c4.pr with replays := [], xfers := left, window := [], queue := [], credits := 256, nakFor := none,
                                           replayT := none, copying := none, startSeen := [],
                                           newer := [], remote := [], diverged := [], peerMarks := [], peerUnconf := [],
                                           source := false, helloSent := false } }
    let c6 := if c5.pr.fences.isEmpty then c5 else c5.endFences [] 2
    let c7 := if held then c6.unlock 0 else c6
    c7.endGrant

/-! ### Receiving (R340) -/

/-- What every valid frame's header brings (R338): the acknowledged value, credits and slots. A
granule whose granule done has been acknowledged is clear on this side (R354). -/
def Chip.heard (c : Chip) (hd : RHdr) : Chip :=
  let p := c.pr
  let gone := p.window.filter fun f => !serialLt 32 hd.acked f.seq
  let keep := p.window.filter fun f => serialLt 32 hd.acked f.seq
  let clear := (gone.filter fun f => decide (f.kind = 0x20 ∧ nth f.fields 1 = 4)).map fun f => nth f.fields 2
  let marks := p.marks.filter fun g => !clear.contains g
  let dirty := if clear = [] then p.mapDirty else some (p.mapDirty.getD c.now)
  let moved := !gone.isEmpty
  ({ c with pr := { p with window := keep, acked := hd.acked, credits := p.credits + hd.credits, slotsOut := p.slotsOut - hd.slots,
                           lastRx := c.now, marks := marks, mapDirty := dirty,
                           replayT := if keep = [] then none else p.replayT,
                           lastAckT := if moved then c.now else p.lastAckT } }).drainRally

/-- Whether the link takes frames: it is up in paired mode (R342). -/
def Chip.rallyOn (c : Chip) : Bool := c.pr.up && decide (c.boot.pairMode = 1)

/-- An unsequenced frame that arrives. -/
def Chip.takePlain (c : Chip) (hd : RHdr) (f : Chip → Chip) : Chip :=
  if !c.rallyOn then c
  else if !hd.crcOk then c.nakOnce
  else f (c.heard hd)

/-- A sequenced frame is taken only with a good CRC and the next expected sequence; any other one is
discarded, with one NAK for each expected value (R340). -/
def Chip.takeSeq (c : Chip) (hd : RHdr) (f : Chip → Chip) : Chip :=
  if !c.rallyOn ∨ !c.pr.joined then c
  else if !hd.crcOk then c.nakOnce
  else if hd.seq ≠ c.pr.recvNext then (c.heard hd).nakOnce
  else
    let c1 := c.heard hd
    let next := (hd.seq + 1) % 2 ^ 32
    f (({ c1 with pr := { c1.pr with recvNext := next, nakFor := none, back := c1.pr.back + 1 } }).count E.RALLY_FRAMES_RX 1)

/-! ### Resynchronisation (R353, R354) -/

/-- The regions an unconfirmed entry touches. -/
def unconfRegions (e : UnconfEntry) : List Nat :=
  if e.kind = 0 then (List.range (e.count / 65536 + 2)).map (fun i => e.unit / 65536 + i) |>.filter
    fun g => decide (g * 65536 < e.unit + e.count)
  else [524288]

/-- Diverged regions (R353 step 1). -/
def Chip.divergedNow (c : Chip) : List Nat :=
  let p := c.pr
  let touchP := p.peerUnconf.flatMap unconfRegions
  let touchO := p.unconfirmed.flatMap unconfRegions
  (p.marks.filter fun g => p.peerMarks.contains g || touchP.contains g) ++ (p.peerMarks.filter fun g => !p.marks.contains g && touchO.contains g)

/-- The blocks of a unit that need no flash read, as ciphertext (R131, R142). -/
def Chip.unitNow (c : Chip) (n : Ns) (g : Nat) : Option (List Blk) :=
  let k := lbasPerUnit n.lbaf
  match c.newest g with
  | some s => some s.blocks
  | none => if onFlash (c.mapOf g) then none
    else some ((List.range k).map fun i => { data := Config.xts n.key (((c.ownerOf g).map Prod.snd).getD 0 * k + i) 0, info := 0 })

/-- A unit sent to the partner as a frame type: RESYNC_DATA of a copy, or MIRROR_DATA of a replayed
entry, with its whole-unit flag (R353, R354). State 1 is deallocated, 2 written zero. -/
def Chip.sendUnit (c : Chip) (n : Ns) (g kind state : Nat) (bs : List Blk) : Chip :=
  let k := lbasPerUnit n.lbaf
  let id := c.pr.nextXfer
  let lba := ((c.ownerOf g).map Prod.snd).getD 0 * k
  let fs := if state = 0 then mirrorFrames n kind id g lba k 0 true bs
    else [{ seq := 0, kind := kind, xfer := id, fields := [0, g, n.lbaf + 16 + 32 * state, n.nsid, lba, k, 0], blocks := [] }]
  let next := (id + 1) % 2 ^ 32
  let f : Xfer := { id := id, h := 0, origin := true, slots := 0, mirror := true, done := false, nsid := n.nsid, first := g,
                    count := 1, fmt := n.lbaf, whole := true, slba := lba, blocks := [], kind := 0, sent := true }
  let l := if kind = 0x10 then c.pr.xfers ++ [f] else c.pr.xfers
  ({ c with pr := { c.pr with nextXfer := next, xfers := l } }).sendAll fs true

/-- The readers of the pair, as `own` marks of their tasks: a copied unit, a replayed one, and an
answer to the partner. -/
abbrev ownCopy : Nat := 20
abbrev ownReplay : Nat := 21
abbrev ownAnswer : Nat := 22

/-- One unit of a granule or an entry goes out at once, or is read first under RB (R354). -/
def Chip.pairUnit (c : Chip) (g : Nat) (replay : Bool) : Chip :=
  match c.ownerOf g with
  | none => c
  | some (n, _) =>
    let e := c.mapOf g
    let kind := if replay then 0x10 else 0x21
    match c.newest g with
    | some s => c.sendUnit n g kind 0 s.blocks
    | none =>
      if c.isLost g then c
      else if onFlash e then c.startRead 0 g e [0, 1, 2, 3] 3 (if replay then ownReplay else ownCopy)
      else if replay then c.sendUnit n g kind 0 ((c.unitNow n g).getD [])
      else c.sendUnit n g kind (if e = entryZero then 2 else 1) []

/-- A replayed entry of the unconfirmed list: its units as data, its key as the entry or its absence
(R353 step 2). A transfer of its own is opened for the DONE of each. -/
def Chip.replayEntry (c : Chip) (e : UnconfEntry) : Chip :=
  if e.kind = 0 then c.each ((List.range e.count).map (e.unit + ·)) fun c g => c.pairUnit g true
  else
    let hit := (c.book.cells ++ c.book.stash).find? fun p => decide (p.2.key % 2 ^ 48 = e.key)
    let id := c.pr.nextXfer
    let f : Xfer := { id := id, h := 0, origin := true, slots := 0, mirror := true, done := false, nsid := 0, first := 0,
                      count := 0, fmt := 0, whole := false, slba := 0, blocks := [], kind := e.kind, sent := true }
    let l := c.pr.xfers ++ [f]
    let c1 := { c with pr := { c.pr with nextXfer := (id + 1) % 2 ^ 32, xfers := l } }
    match hit with
    | some p => c1.sendFrame 0x12 id true [0, 3, p.2.nsid, 0] [{ data := p.2.word false, info := 0 }]
    | none => c1.sendFrame 0x12 id true [0, 4, 0, 0] [{ data := e.key, info := 0 }]

/-- The units of an unconfirmed entry whose map slices are not loaded (R139). -/
def Chip.entryWaits (c : Chip) (e : UnconfEntry) : List Nat :=
  if e.kind = 0 then [e.unit, e.unit + e.count - 1].filter fun u => !c.sliceLoaded u else []

/-- The entries still to be replayed whose map slices are loaded are replayed; the slices of the others are loaded (R139, R353). -/
def Chip.replayReady (c : Chip) : Chip :=
  let ready := c.pr.replays.filter fun e => decide (c.entryWaits e = [])
  let rest := c.pr.replays.filter fun e => decide (c.entryWaits e ≠ [])
  let c1 := ({ c with pr := { c.pr with replays := rest } }).each ready Chip.replayEntry
  c1.each (rest.flatMap c.entryWaits) Chip.touchSlice

/-- Resynchronisation ends when every marked granule has been copied and every unconfirmed entry
replayed: the list goes once DONE has come for every replay (R349). -/
def Chip.resyncDone (c : Chip) : Chip :=
  let open' := (c.pr.xfers.any fun f => f.origin && decide (f.h = 0)) || (c.rd.tasks.any fun t => decide (t.own = ownReplay)) || !c.pr.replays.isEmpty
  if c.get E.PAIR_STATE ≠ 2 ∨ open' then c
  else
    let p := c.pr
    let dirty := if p.unconfirmed = [] then p.mapDirty else some (p.mapDirty.getD c.now)
    let c1 := { c with pr := { p with unconfirmed := [], mapDirty := dirty } }
    if p.marks = [] ∧ p.pendingGr = [] then
      let s := (c.now - p.resyncT) / cycPerSec
      (({ c1 with pr := { c1.pr with source := false, peerMarks := [], peerUnconf := [], newer := [], startSeen := [] } }).setPairState
        0 2).event 0x487 0 2 noUnit [s, c.get E.RESYNC_BYTES - p.resyncBytes]
    else c1

/-- Step 2 of R353: RESYNC, the own entries replayed, and the partner's marks pending here. -/
def Chip.beginResync (c : Chip) : Chip :=
  let p := c.pr
  let bytes := c.get E.RESYNC_BYTES
  let c1 := ({ c with pr := { p with pendingGr := p.peerMarks, source := decide (p.marks ≠ []), diverged := [], resyncT := c.now,
                                     resyncBytes := bytes, replays := p.unconfirmed } }).setPairState 2 1
  c1.replayReady.resyncDone

/-- The decision of R353 once both maps and lists are known; while a detach is in force nothing is
decided. -/
def Chip.decidePair (c : Chip) : Chip :=
  if c.get E.DETACHED ≠ 0 then c
  else
    let d := c.divergedNow
    let c1 := ({ c with pr := { c.pr with joinWait := false } }).event 0x486 0 1 noUnit [d.length]
    if d = [] then c1.beginResync else ({ c1 with pr := { c1.pr with diverged := d } }).setPairState 3 3

/-- Step 4 of R353: one side is the source for the diverged granules: its marks stay, the other
side's marks and entries in them go. -/
def Chip.chooseSource (c : Chip) (ctl : Nat) : Chip :=
  let p := c.pr
  let mine := decide (ctl = c.ownIndex)
  let out := fun (e : UnconfEntry) => (unconfRegions e).any fun g => p.diverged.contains g
  let marks := if mine then p.marks ++ p.diverged.filter (fun g => !p.marks.contains g) else p.marks.filter fun g => !p.diverged.contains g
  let peer := if mine then p.peerMarks.filter (fun g => !p.diverged.contains g)
    else p.peerMarks ++ p.diverged.filter fun g => !p.peerMarks.contains g
  let own := if mine then p.unconfirmed else p.unconfirmed.filter fun e => !out e
  let theirs := if mine then p.peerUnconf.filter (fun e => !out e) else p.peerUnconf
  let dirty := some (p.mapDirty.getD c.now)
  ((({ c with pr := { p with marks := marks, peerMarks := peer, unconfirmed := own, peerUnconf := theirs, mapDirty := dirty } }).event
    0x488 0 3 noUnit [ctl])).beginResync

/-- The maps and lists go to the partner (R353): 65 chunks of 8,192 regions, the entries in frames of
64, then the decision frame, which ends the exchange. -/
def Chip.sendMaps (c : Chip) : Chip :=
  let c1 := c.each (List.range 65) fun c k => c.sendFrame 0x20 0 true ([1, k] ++ c.pr.marks.filter fun g => decide (g / 8192 = k)) []
  let us := c.pr.unconfirmed
  let c2 := c1.each (List.range (cdiv us.length 64)) fun c k =>
    c.sendFrame 0x20 0 true [2, k] (((us.drop (64 * k)).take 64).map fun e => { data := unconfWord e, info := 0 })
  c2.sendFrame 0x20 0 true [5, 0] []

/-! ### Remote reads (R348, R354) -/

/-- The answer to a REMOTE_READ with data, in frames of 1,024 octets: of each codeword read its 4,096 octets of data and 64 of
metadata, one codeword after another (the layout of the payload is a DESIGN CHOICE, log entry 67). -/
def Chip.sendAnswer (c : Chip) (xfer : Nat) (ws : List Nat) : Chip :=
  let total := 4160 * ws.length
  let cs := chunks total (joinOctets 4160 (ws.map fun w => w % 2 ^ 33280))
  c.sendAll ((cs.zip (List.range cs.length)).map fun p =>
    ({ seq := 0, kind := 0x23, xfer := xfer, fields := [0, 0, min 1024 (total - 1024 * p.2)], blocks := [{ data := p.1, info := 0 }] } : Sent)) true

/-- REMOTE_READ of codewords of a unit, with the time left in ns; the tasks wait for the answer. -/
def Chip.askPartner (c : Chip) (unit nsid : Nat) (cws tasks : List Nat) (leftNs : Nat) : Chip :=
  let id := c.pr.nextXfer
  let l := c.pr.remote ++ tasks.map fun t => (id, t)
  let mask := sumOf (cws.map fun k => 2 ^ k)
  (({ c with pr := { c.pr with nextXfer := (id + 1) % 2 ^ 32, remote := l } }).sendFrame 0x22 id true [unit, mask, nsid, leftNs] []).count
    E.REMOTE_READS 1

/-- Time left for a command before the completion must be sent, in ns. -/
def Chip.leftNs (c : Chip) (x : Cmd) : Nat :=
  if 3 ≤ x.cls then 2 ^ 32 - 1 else (x.duePs - c.nowPs - c.get E.POST_MARGIN * 1000) / 1000

end Sys2Proof.Machine
end

