-- ==== Sys2Proof/Machine/Rows.lean ====
section
/-! DEFINITION. What a recovery leaves to do, a member rebuilt from the others, and the rows that the Assayer and Recast read whole
(R222, R224, R225, R234, R242, R248, R249, R252, R255, R256). -/
namespace Sys2Proof.Machine

/-! ### After recovery (R222, R224, R225) -/

/-- A unit recovered at step 3 or 4 is queued for reallocation, once, while its map entry names the
recovered location, with the codewords recovered, which stay in staging; a full queue is reported (R224). -/
def Chip.queueRealloc (c : Chip) (unit entry cw word : Nat) : Chip :=
  if c.mapOf unit ≠ entry then c
  else if c.sb.realloc.any fun q => decide (q.1 = unit) then
    let l := change (fun (q : Nat × Nat × List (Nat × Nat)) => decide (q.1 = unit) && !(q.2.2.any fun p => decide (p.1 = cw)))
      (fun q => (q.1, q.2.1, q.2.2 ++ [(cw, word)])) c.sb.realloc
    { c with sb := { c.sb with realloc := l } }
  else if c.get E.REALLOC_QUEUE_MAX ≤ c.sb.realloc.length then c.event 0x136 0 1 noUnit []
  else
    let l := c.sb.realloc ++ [(unit, entry, [(cw, word)])]
    { c with sb := { c.sb with realloc := l } }

/-- The superblock and codeword of a page position. -/
def Chip.memberUnit (c : Chip) (entry : Nat) : Nat :=
  match c.lunOf entry with
  | some l => c.unitIdent (mkUnit kLUN l)
  | none => noUnit

/-- A codeword is lost at step 5: its unit enters the log (R222). -/
def Chip.loseUnit (c : Chip) (unit cause : Nat) : Chip :=
  ((c.enterLost unit cause).count E.LOST_CODEWORDS 1).event 0x133 0 5 noUnit [unit % 2 ^ 20, unit / 2 ^ 20]

/-- The codeword at a position of a row from those of other members (R234, R242): the data members read, those folded into the accumulator
of an open row without having been read, P and Q as read or as the accumulator holds them, and what is left solved from them. `ws` are
words by member position. -/
def Chip.rebuilt (c : Chip) (s : Sb) (row cw pos : Nat) (ws : List (Nat × Nat)) : Nat :=
  let data := (dataPos s.idx row s.p2).filter fun m => !s.isVoid row m
  let opened := c.openRowOf s row
  let folded := (opened.map Row.folded).getD []
  let live := match opened with
    | some _ => data.filter fun m => folded.any fun p => decide (p.1 = m)
    | none => data
  let known := ((live.filter fun m => decide (m ≠ pos)).filterMap fun m => (ws.find? fun p => decide (p.1 = m)).map fun p => (dataIndex s row m, octetsOf cwOctets p.2))
  let gone := (live.filter fun m => !(known.any fun k => decide (k.1 = dataIndex s row m))).map (dataIndex s row)
  let par := fun (k : Nat) => match opened with
    | some r => if k = 0 ∨ s.p2 then some (octetsOf cwOctets (nth (parityWords s row k r.folded) cw)) else none
    | none => ((parityPos s.idx row s.p2)[k]?).bind fun m => if m = pos then none else (ws.find? fun p => decide (p.1 = m)).map fun p => octetsOf cwOctets p.2
  let all := solveData known gone (par 0) (par 1)
  if (parityPos s.idx row s.p2).head? = some pos then ofOctets (parityP all)
  else if (parityPos s.idx row s.p2).contains pos then ofOctets (parityQ all)
  else ((all.find? fun p => decide (p.1 = dataIndex s row pos)).map fun p => ofOctets p.2).getD 0

/-! ### The Assayer's check (R248, R249) -/

/-- What the check of one codeword position gives (R248): 0 agrees, 1 P wrong, 2 Q wrong, 3 a data member, with its
position j and corrected codeword, 4 unresolved. -/
def checkWord (p2 : Bool) (cw : Nat) (data : List (Nat × List Nat)) (p q : List Nat) : Nat × Nat × Nat :=
  let sp := syndromeP (data.map Prod.snd) p
  if !p2 then (if isZero sp then (0, 0, 0) else (1, 0, 0))
  else
    let sq := syndromeQ data q
    if isZero sp then (if isZero sq then (0, 0, 0) else (2, 0, 0))
    else if isZero sq then (1, 0, 0)
    else match data.find? fun d => decide (sp.map (fun o => gfPow o d.1) = sq) with
      | none => (4, 0, 0)
      | some d =>
        let w := ofOctets (xorOctets d.2 sp)
        if wordCrcOk w && wordTagOk w (tagUnit w) cw then (3, d.1, w) else (4, 0, 0)

/-- Rows of a superblock that hold a unit the map names, from a row on. -/
def Chip.patrolRows (c : Chip) (s : Sb) (from' : Nat) : List Nat :=
  let held := (c.validUnits s).map fun p => slotPage p.slot
  (List.range s.rows).filter fun r => decide (from' ≤ r) && held.contains r

/-- Octets of codeword cw of the members of a row: data positions that are not void, with j. -/
def dataOctets (s : Sb) (row cw : Nat) (members : List (Option (List Nat))) : List (Nat × List Nat) :=
  let pos := dataPos s.idx row s.p2
  (pos.zip (List.range pos.length)).filterMap fun m =>
    if s.isVoid row m.1 then none else ((members.getD m.1 none).map fun ws => (m.2, octetsOf cwOctets (nth ws cw)))

def parityOctets (s : Sb) (row cw k : Nat) (members : List (Option (List Nat))) : List Nat :=
  octetsOf cwOctets (nth ((members.getD (nth (parityPos s.idx row s.p2) k) none).getD []) cw)

/-- The pages of the data members as they were read, by position. -/
def dataPages (s : Sb) (row : Nat) (members : List (Option (List Nat))) : List (Nat × List Nat) :=
  ((dataPos s.idx row s.p2).filter fun m => !s.isVoid row m).filterMap fun m => (members.getD m none).map fun ws => (m, ws)

/-- A data repair (R249): a unit current at the slot is queued with the corrected codeword, and the member is made
void. -/
def Chip.repairData (c : Chip) (s : Sb) (row cw j word : Nat) (data : List (Nat × List Nat)) : Chip :=
  let m := nth (dataPos s.idx row s.p2) j
  let e := mkEntry s.idx row m
  let u := tagUnit word
  let c1 := if c.mapOf u = e ∧ (c.newest u).isNone then c.queueRealloc u e cw word else c
  let seen := match c1.sbOf s.idx with
    | some q => q.isVoid row m || q.pend.any fun p => decide (p.row = row) && p.voids.contains m
    | none => true
  if seen then c1
  else ((c1.smallWrite s.idx row [m] true s.p2 (data.filter fun p => decide (p.1 ≠ m))).count E.DATA_REPAIRS 1).event 0x189 0 1 noUnit [s.idx, row, m]

/-- The check of one row (R248). -/
def Chip.checkRow (c : Chip) (s : Sb) (row : Nat) (members : List (Option (List Nat))) : Chip :=
  let rs := (List.range 4).map fun cw =>
    (cw, checkWord s.p2 cw (dataOctets s row cw members) (parityOctets s row cw 0 members) (parityOctets s row cw 1 members))
  let pBad := rs.any fun r => decide (r.2.1 = 1)
  let qBad := rs.any fun r => decide (r.2.1 = 2)
  let data := dataPages s row members
  let c1 := c.count E.ROWS_CHECKED 1
  let c2 := if pBad ∨ qBad then ((c1.smallWrite s.idx row [] pBad qBad data).count E.PARITY_REPAIRS 1).event 0x188 0 1 noUnit [s.idx, row] else c1
  let c3 := c2.each (rs.filter fun r => decide (r.2.1 = 3)) fun c r => c.repairData s row r.1 r.2.2.1 r.2.2.2 data
  if rs.any fun r => decide (r.2.1 = 4) then ((c3.markSb s.idx 4).count E.UNRESOLVED_ROWS 1).event 0x18A 0 1 noUnit [s.idx, row] else c3

/-- A superblock whose last row has been checked has been patrolled now; otherwise the next row is kept. -/
def Chip.patrolOn (c : Chip) (sb row : Nat) : Chip :=
  match c.sbOf sb with
  | none => { c with sb := { c.sb with patrolAt := none } }
  | some s =>
    let c := { c with sb := { c.sb with patrolAt := none } }
    if c.patrolRows s (row + 1) = [] then c.setSb { s with patrolT := c.now, patrolRow := 0, overdue := false }
    else c.setSb { s with patrolRow := row + 1 }

/-- The superblock and the row that the Assayer reads. -/
def Chip.patrolling (c : Chip) : Option (Sb × Nat) := c.sb.patrolAt.bind fun p => (c.sbOf p.1).map fun s => (s, p.2)

/-- The words that the Assayer's reads of a row have given, by member and codeword. -/
def rowMembers (ts : List Task) : List (Option (List Nat)) :=
  (List.range 32).map fun m =>
    let mine := ts.filter fun t => decide (t.h = patrolH ∧ t.pos = m)
    if mine = [] then none else some ((List.range 4).map fun cw => ((mine.find? fun t => decide (t.cw = cw)).bind Task.word).getD 0)

/-! ### Rows read by Recast and the Assayer (R248, R252, R255) -/

/-- Where the page of a task stands for its reader: its die and block. -/
def Chip.taskPlace (c : Chip) (t : Task) : Option (Nat × Nat) :=
  if t.own = ownRecast then (c.sbOf (entrySb t.entry)).bind fun s => c.placeAt true s (slotPage (entrySlot t.entry)) t.pos
  else (c.sbOf (entrySb t.entry)).bind fun s => (s.members[slotMember (entrySlot t.entry)]?).map fun m => (m.lun, m.block)

/-- The words that have been read of a row, as octets of each member at codeword position cw. -/
def Chip.rowWords (c : Chip) (h cw : Nat) : List (Nat × Nat) :=
  (c.rd.tasks.filter fun t => decide (t.h = h ∧ t.cw = cw)).filterMap fun t => t.word.map fun w => (t.pos, w)

/-- The tasks of a row that is read go. -/
def Chip.dropRowTasks (c : Chip) (h : Nat) : Chip :=
  let l := drop' (fun (t : Task) => decide (t.h = h)) c.rd.tasks
  { c with rd := { c.rd with tasks := l } }

/-- A page of a member replacement is programmed under RB. -/
def Chip.programRepl (c : Chip) (s : Sb) (r : Repl) (row : Nat) (ws : List Nat) : Chip :=
  c.queueOp r.lun { Op.new .program 3 s.qlc r.block (row % max 1 c.md.planes) with
    member := r.pos, page := ws, bus := 4 * cdiv (c.cwPs (chanOf r.lun)) 125000 }

def Chip.setRepl (c : Chip) (r : Repl) : Chip :=
  let rs := change (fun (q : Repl) => decide (q.sb = r.sb ∧ q.pos = r.pos)) (fun _ => r) c.sb.repls
  { c with sb := { c.sb with repls := rs } }

/-- The replacement works on its present row. -/
def Chip.replBusy (c : Chip) (r : Repl) : Bool :=
  (c.rd.tasks.any fun t => decide (t.own = ownRecast ∧ t.h = recastH r.sb r.pos))
    || ((c.dieOf r.lun).map fun d => d.ops.any fun o => o.kind == .program && decide (o.block = r.block)).getD false

/-- The passes of a superblock's pages. -/
def Chip.passesOf (c : Chip) (s : Sb) : Nat := if s.qlc then max 1 c.md.passes else 1

/-- The second pass of the next row of a replacement comes now: the first of the next word line has been made, or there is none (R187). -/
def Chip.replSecond (c : Chip) (s : Sb) (r : Repl) : Bool :=
  decide (1 < c.passesOf s ∧ r.fin < r.prog) && (decide (s.rows ≤ r.prog) || decide (c.wordLine r.fin + 1 < c.wordLine r.prog))

/-- The next page of a member replacement (R252 step 2): filler where its row holds no current unit and is not void at the position;
otherwise the other members are read under the ladder, from which it is rebuilt. On NAND with two passes a row's second pass comes behind the first of
the next word line. A row whose die or members are out of service waits (R253). -/
def Chip.replRow (c : Chip) (r : Repl) : Chip :=
  match c.sbOf r.sb with
  | none => c
  | some s =>
    let ready := decide ((c.blockOf r.lun r.block).mode = (if s.qlc then 2 else 1) ∨ 0 < r.prog) && c.usable (mkUnit kLUN r.lun)
    let empty := s.kind != .system && !(c.currentUnits s).any fun p => decide (slotPage p.slot = r.prog)
    if !ready || c.replBusy r then c
    else if c.replSecond s r then c.programRepl s r r.fin (((r.words.find? fun p => decide (p.1 = r.fin)).map Prod.snd).getD fillerWords)
    else if s.rows ≤ r.prog then c
    else if empty && !s.isVoid r.prog r.pos then
      (c.setRepl { r with words := r.words ++ [(r.prog, fillerWords)] }).programRepl s r r.prog fillerWords
    else
      let om := c.others true s r.prog r.pos
      if tolerance s.p2 < om.2.length + 1 then c
      else c.each om.1 fun c m => c.readMember (recastH r.sb r.pos) 3 ownRecast s r.prog m false

/-- A member codeword failed the ladder in a reconstruction of Recast: the member and the position lose their units at the row, where
current, and the page carries a filler codeword there (R255). -/
def Chip.loseRecast (c : Chip) (t : Task) : Chip :=
  match c.sb.repls.find? fun q => decide (recastH q.sb q.pos = t.h), c.sbOf (entrySb t.entry) with
  | some q, some s =>
    let gone := (c.currentUnits s).filter fun p => decide (slotPage p.slot = q.prog ∧ (slotMember p.slot = t.pos ∨ slotMember p.slot = q.pos))
    ((c.each gone fun c p => c.enterLost p.unit 3).setRepl { q with filler := true, bad := q.bad ++ [t.cw] }).setTask
      { t with word := some 0, engine := 48, members := [] }
  | _, _ => c

/-- The row of a replacement has been read: the position is rebuilt codeword by codeword (R234, R242) and its page programmed. One that
cannot be rebuilt, or that does not pass R207, is filler, and its unit is lost (R255). A row solved for two erasures counts, and is reported (R256). -/
def Chip.rebuildRow (c : Chip) (s : Sb) (q : Repl) : Chip :=
  let par := (parityPos s.idx q.prog s.p2).contains q.pos
  let unit := (s.unitAt q.prog q.pos).getD anyUnit
  let ok := fun (cw w : Nat) => !q.bad.contains cw && (par || (wordCrcOk w && (decide (unit = anyUnit) || wordTagOk w unit cw)))
  let ws := (List.range 4).map fun cw => (cw, c.rebuilt s q.prog cw q.pos (c.rowWords (recastH q.sb q.pos) cw))
  let page := ws.map fun p => if ok p.1 p.2 then p.2 else nth fillerWords p.1
  let badOnes := ws.filter fun p => !ok p.1 p.2
  let gone := (c.currentUnits s).filter fun p => decide (p.slot = q.prog * 32 + q.pos)
  let c1 := if badOnes = [] then c else c.each gone fun c p => c.enterLost p.unit 3
  let two := s.p2 && decide ((c.others true s q.prog q.pos).2 ≠ [])
  let q1 := { q with words := q.words ++ [(q.prog, page)], bad := [], filler := q.filler || decide (badOnes ≠ []) }
  let c2 := if two then (c1.count E.RB_DOUBLE_ROWS 1).event 0x184 0 1 noUnit [s.idx, q.prog] else c1
  ((c2.setRepl q1).dropRowTasks (recastH q.sb q.pos)).programRepl s q1 q.prog page

/-- A work that reads whole rows goes on once every codeword of the row has been read, or for Recast is known to be lost. -/
def Chip.rowRead (c : Chip) (h : Nat) : Chip :=
  if c.rd.tasks.any fun t => decide (t.h = h) && t.word.isNone then c
  else if h = patrolH then match c.patrolling with
    | none => c.dropRowTasks h
    | some (s, row) => ((c.checkRow s row (rowMembers c.rd.tasks)).patrolOn s.idx row).dropRowTasks h
  else match c.sb.repls.find? fun q => decide (recastH q.sb q.pos = h) with
    | none => c.dropRowTasks h
    | some q => match c.sbOf q.sb with
      | none => c.dropRowTasks h
      | some s => c.rebuildRow s q

/-- A codeword that the Assayer cannot recover is lost where its unit is current at the page (R222), and its row is not checked. -/
def Chip.patrolLoses (c : Chip) (t : Task) : Chip :=
  let c1 := if c.mapOf t.unit = t.entry then c.loseUnit t.unit 1 else c
  (match c.patrolling with
    | none => c1
    | some (s, row) => c1.patrolOn s.idx row).dropRowTasks patrolH

end Sys2Proof.Machine
end

