-- ==== Sys2Proof/Machine/Recovery.lean ====
section
/-! DEFINITION. What a decode gives, the recovery ladder, and what a command does with
its data (R164, R207 to R210, R216 to R223, R39, R58). -/
namespace Sys2Proof.Machine

/-! ### Data of a command (R142, R164, R319) -/

/-- One LBA as stored, decrypted for the host: ciphertext data, metadata in the clear (R164). -/
def Ns.plain (n : Ns) (lba : Nat) (b : Blk) : Blk := { b with data := (Config.xts n.key lba).symm b.data }

/-- One LBA of the host, encrypted (R164). -/
def Ns.cipher (n : Ns) (lba : Nat) (b : Blk) : Blk := { b with data := Config.xts n.key lba b.data }

/-- The codeword words that a command has read of a unit, by position. -/
def Chip.wordsOf (c : Chip) (h unit : Nat) : List (Nat × Nat) :=
  (c.rd.tasks.filter fun t => decide (t.h = h ∧ t.unit = unit)).filterMap fun t => t.word.map fun w => (t.cw, w)

/-- LBA k of a unit as it stands: from a Crucible version (ciphertext), or zero for a unit without
data, or nothing when it is on flash (R131, R142). -/
def Chip.lbaNow (c : Chip) (n : Ns) (g lba k : Nat) : Option Blk :=
  match c.newest g with
  | some s => some (s.blocks.getD k { data := 0, info := 0 })
  | none => if onFlash (c.mapOf g) then none else some (n.cipher lba { data := 0, info := 0 })

/-- The data a command gathered, decrypted: what was read from flash, and what `blocks` captured at
its resolve point. -/
def Chip.gathered (c : Chip) (x : Cmd) (n : Ns) (r : Nat × Nat) : List Blk :=
  let ls := lbasOf n r
  (ls.zip (List.range ls.length)).map fun p =>
    let ws := c.wordsOf x.h p.1.2.1
    if ws = [] then x.blocks.getD p.2 { data := 0, info := 0 }
    else n.plain p.1.1 (lbaOfWords n.lbaf p.1.2.2 ws)

/-- Every codeword the command reads has passed. -/
def Chip.allRead (c : Chip) (h : Nat) : Bool :=
  (c.rd.tasks.filter fun t => decide (t.h = h)).all fun t => t.word.isSome

/-- Octets written into a peer window, in the memory writes that its port sends (R113, R327). -/
def Chip.toPeer (c : Chip) (port win base octets n : Nat) : Chip :=
  c.each (c.writeTlps port base n) fun c q =>
    c.emit (.peerData port win q.1 [{ data := octets / 2 ^ (8 * (q.1 - base)) % 2 ^ (8 * q.2), info := q.2 }])

/-- The delivery of a Segment Read (R319, R327): the clipped bytes go to host memory, or to the
window in posted writes; the doorbell follows as PEER_DOORBELL. -/
def Chip.deliverSegment (c : Chip) (x : Cmd) (n : Ns) (e : SbEntry) : Chip :=
  let r := c.segLbas x e
  let d := x.delivered e
  let bytes := (c.gathered x n r).foldr (fun b acc => b.data + acc * 2 ^ (8 * lbaOctets n.lbaf)) 0
  let cut := bytes / 2 ^ (8 * (x.segOffset % lbaOctets n.lbaf)) % 2 ^ (8 * d)
  let clipped := (if d < x.segLength then c.count E.SB_CLIPPED 1 else c).count E.HOST_UNITS_READ (c.segUnits x e).length
  let dw1 := e.gen + at' e.flags 20
  if x.segPasser ∧ d ≠ 0 then
    let p := x.segWin / 256
    let w := x.segWin % 256
    let it := winItem p w
    let c1 := (clipped.toPeer p w ((c.win5 p w).base + x.dw 14) cut d).dropReads x.h
    let bytes' := min max60 (c1.getAt E.PW_BYTES it + d)
    (c1.setAt E.PW_BYTES it bytes').setCmd { x with phase := .committed, xfer := d, dw0 := d, dw1 := dw1 }
  else
    let c1 := if d = 0 then clipped else clipped.emit (.data x.h [{ data := cut, info := d }])
    (((c1.dropReads x.h).dropTasks x.h).count E.SB_SEG_READS 1).finish x.h stOk d dw1

/-- A read-rule command whose codewords have all passed ends (R36, R41): a Read delivers its
blocks, a Compare compares them, a Verify only ends, a Segment Read delivers its bytes. -/
def Chip.endRead (c : Chip) (h : Nat) : Chip :=
  match c.cmd h with
  | none => c
  | some x =>
    if x.paused.isSome then c
    else if x.opcode = 0x82 then
      match x.seg with
      | none => c
      | some e => match c.ns e.nsid with
        | none => c
        | some n => c.deliverSegment x n e
    else match c.ns x.nsid with
      | none => c
      | some n =>
        let got := c.gathered x n (x.slba, x.nlb)
        let c1 := c.dropReads h
        if x.opcode = 0x05 then c1.finish h (if got = x.host then stOk else stCompare) 0 0
        else if x.opcode = 0x0C then c1.finish h stOk 0 0
        else
          let lg := { c1.lg with unitsRead := c1.lg.unitsRead + x.nlb * lbaOctets n.lbaf / 512, readCmds := c1.lg.readCmds + 1 }
          let units := lastUnit n.lbaf x.slba x.nlb + 1 - firstUnit n.lbaf x.slba
          ((({ c1 with lg := lg }).count E.HOST_UNITS_READ units).emit (.data h got)).finish h stOk 0 0

/-! ### Running late and expiring (R39, R42, R66, R78) -/

/-- The completion of a command can be posted: it has ended, for a mirrored one DONE has come, and in write-through mode its dirty-map
mark is programmed, for which an expired one does not wait (R39, R118, R343, R352). -/
def Chip.postable (c : Chip) (x : Cmd) : Bool :=
  decide (x.phase = .ended) && !x.posted && !c.inD3 x.port x.fn && !c.awaitsDone x.h
    && !(x.mirrored && decide (x.status ≠ stExpired) && c.writeThrough && c.pr.mapDirty.isSome && decide (c.get E.PAIR_STATE ≠ 4))

/-- The completion queue of a command. -/
def Chip.cqIdOf (c : Chip) (x : Cmd) : Nat := ((c.sqOf x.port x.fn x.qid).map Sq.cq).getD 0

/-- The completions of a command's completion queue that come before its own (R78). -/
def Chip.earlierPosts (c : Chip) (x : Cmd) : List Cmd :=
  c.cmds.filter fun y => decide (y.h ≠ x.h ∧ y.port = x.port ∧ y.fn = x.fn ∧ y.order < x.order) && decide (c.cqIdOf y = c.cqIdOf x)
    && !y.silent && c.postable y

/-- A command meets recovery trouble (R39, R44, R58): the cause of its expiry is held, the latest trouble's. -/
def Chip.trouble (c : Chip) (h cause : Nat) : Chip :=
  match c.cmd h with
  | none => c
  | some x => c.setCmd { x with cause := cause }

/-- A command that its path can no longer serve (R39, R58): a class 2 command expires from its promised time on. -/
def Chip.giveUp (c : Chip) (h cause : Nat) : Chip :=
  match c.cmd h with
  | none => c
  | some x => c.setCmd { x with cause := cause, fault := true }

/-- The highest recovery step of a command (R42). -/
def Chip.noteStep (c : Chip) (h step : Nat) : Chip :=
  match c.cmd h with
  | none => c
  | some x => c.setCmd { x with step := max x.step step }

/-- A command ends with LOST_RANGE: a write has no effect, a read's buffer is undefined; counted as
a media error (R143, R222, R258). -/
def Chip.endLost (c : Chip) (h : Nat) : Chip :=
  let lg := { c.lg with mediaErrors := c.lg.mediaErrors + 1 }
  ((({ c with lg := lg }).undo h).dropTasks h).finish h (dnr stLost) 0 0

/-! ### Merges (R143) -/

/-- The untouched LBAs of a merged slot are filled from the codewords read (R143). -/
def Chip.fillMerge (c : Chip) (h unit : Nat) : Chip :=
  match c.ft.slots.find? fun s => decide (s.h = h ∧ s.unit = unit) && s.wseq.isNone with
  | none => c
  | some s =>
    let ws := c.wordsOf h unit
    let bs := (List.range s.blocks.length).map fun k =>
      if ws.any fun p => decide (p.1 = k) then lbaOfWords s.fmt k ws else s.blocks.getD k { data := 0, info := 0 }
    c.setSlot { s with blocks := bs }

/-- The blocks of a unit as read, as they are stored. -/
def Chip.readBlocks (c : Chip) (h unit : Nat) : List Blk :=
  match c.ownerOf unit with
  | none => []
  | some (n, _) => (List.range (lbasPerUnit n.lbaf)).map fun k => lbaOfWords n.lbaf k (c.wordsOf h unit)

/-- A granule whose last unit has gone out is done (R354). -/
def Chip.copyEnds (c : Chip) : Chip :=
  match c.pr.copying with
  | none => c
  | some g =>
    if c.rd.tasks.any fun t => decide (t.own = ownCopy) then c
    else (({ c with pr := { c.pr with copying := none } }).unlock 0).sendFrame 0x20 0 true [4, g] []

/-- A unit read for the partner has all its codewords: a copied or replayed unit goes out, a
REMOTE_READ is answered (R353, R354). -/
def Chip.pairRead (c : Chip) (t : Task) (without : Chip → Chip) : Chip :=
  match c.ownerOf t.unit with
  | none => without c
  | some (n, _) =>
    let bs := c.readBlocks t.h t.unit
    if t.own = ownCopy then ((without c).sendUnit n t.unit 0x21 0 bs).copyEnds
    else if t.own = ownReplay then (without c).sendUnit n t.unit 0x10 0 bs
    else
      (without c).sendAnswer (t.h - 2 ^ 40) ((c.wordsOf t.h t.unit).map fun p => wordData p.2 + at' (wordTag p.2 % 2 ^ 512) 32768)

/-! ### A unit has been read -/

/-- The codewords of one unit for one reader have all passed: a move's page is programmed, a merge
is filled, a continuation ends with its event, and a host read whose last codeword this was ends
(R147, R219, R220). A work that reads whole rows goes on once the whole row has been read (`Chip.rowRead`). -/
def Chip.unitRead (c : Chip) (t : Task) : Chip :=
  if t.own = ownRecast ∨ t.own = ownPatrol then c.rowRead t.h else
  let mine := c.rd.tasks.filter fun q => decide (q.h = t.h ∧ q.unit = t.unit ∧ q.own = t.own ∧ q.entry = t.entry)
  if mine.any fun q => q.word.isNone then c
  else
    let without := fun (c : Chip) =>
      let l := drop' (fun q => mine.contains q) c.rd.tasks
      { c with rd := { c.rd with tasks := l } }
    if t.cont then ((without c).count E.CONTINUATIONS 1).event 0x130 0 1 noUnit [t.reached]
    else if t.own = ownTest then ((without c).unpin testH).testNext
    else if ownCopy ≤ t.own then c.pairRead t without
    else if t.own ≠ 0 then (without c).programMove t.unit t.entry (mine.filterMap fun q => q.word.map fun w => (q.cw, w))
    else match c.cmd t.h with
      | none => if c.pr.xfers.any fun f => decide (f.h = t.h) then without (c.fillMerge t.h t.unit) else without c
      | some x =>
        if x.writeType then without (c.fillMerge t.h t.unit)
        else if c.allRead t.h then c.endRead t.h else c

/-! ### The ladder (R218, R219) -/

/-- The touch of a task: its die, plane and mode. -/
def Chip.taskTouch (c : Chip) (t : Task) : Touch :=
  let qlc := ((c.sbOf (entrySb t.entry)).map Sb.qlc).getD true
  let lun := ((c.taskPlace t).map Prod.fst).getD 0
  { unit := t.unit, entry := t.entry, lun := lun, plane := slotPage (entrySlot t.entry) % max 1 c.md.planes, qlc := qlc, cws := 1, quad := none,
    pos := t.pos }

/-- The command whose promise a codeword serves: not a continuation's, and none for the S9632's own reads. -/
def Chip.reader (c : Chip) (t : Task) : Option Cmd := if t.cont ∨ t.own ≠ 0 then none else c.cmd t.h

/-- The due moment that a step must fit (R219): the due time of classes 0 and 1, the late limit of
class 2, none for class 3 and internal readers, for the merges of a write, which take class 3 rules (R221), and once the command has
expired (R39). -/
def Chip.stepLimit (c : Chip) (t : Task) : Option (Cmd × Nat) :=
  match c.reader t with
  | none => none
  | some x =>
    if x.writeType || x.posted then none
    else if x.cls ≤ 1 then some (x, x.duePs)
    else if x.cls = 2 then some (x, x.fetchT * psPerCyc + c.get E.CLASS2_LATE_LIMIT * 1000000000) else none

/-- A step of a cost fits before a limit and its tokens can be placed (R219). -/
def Chip.fitsBy (c : Chip) (x : Cmd) (lim : Nat) (cost : Ps) (need : List (Res × Nat)) : Bool :=
  decide (c.nowPs + cost + c.hostTerm x x.duePs + c.get E.POST_MARGIN * 1000 ≤ lim) && (c.placeAll x.h (mergeNeeds need) lim).isSome

def Chip.fits (c : Chip) (t : Task) (cost : Ps) (need : List (Res × Nat)) : Bool :=
  match c.stepLimit t with
  | none => true
  | some (x, lim) => c.fitsBy x lim cost need

/-- The due time that orders a task's work: its command's, 0 where there is none (R43). -/
def Chip.taskDue (c : Chip) (t : Task) : Nat :=
  match c.reader t with
  | some x => x.duePs
  | none => 0

/-- The cost of one alternate (R43, R218). -/
def Chip.alternateCost (c : Chip) (t : Task) : Ps := let x := c.taskTouch t; c.retryCost x [x] (c.taskDue t)

/-- The cost of a soft read, with ROUTE_TIME where another quadrant decodes it (R209, R218). -/
def Chip.softCost (c : Chip) (t : Task) : Ps :=
  let x := c.taskTouch t
  let due := c.taskDue t
  let ch := chanOf x.lun
  let wait := match c.decodeQuad ch false with
    | some q => cdiv (c.earlier (.soft q) 99 due) (c.softOnline q) * softPs + (if q = ch / 8 then 0 else c.get E.ROUTE_TIME * 1000)
    | none => 0
  c.tSusp + 3 * c.tSense x.qlc + c.earlier (.chan ch) 99 due * c.cwPs ch + c.softPages x.lun * c.cwPs ch + wait + softPs

/-- The tokens of a soft read (R51, R218). -/
def Chip.softNeed (c : Chip) (t : Task) : List (Res × Nat) :=
  let x := c.taskTouch t
  let ch := chanOf x.lun
  [(.die x.lun, 3 * c.senseTokens x.lun (c.tSense x.qlc)), (.chan ch, c.softPages x.lun * cdiv (c.cwPs ch) 125000),
   (.soft ((c.decodeQuad ch false).getD (ch / 8)), 10)]

/-- Members of the reconstruction of a task, or none where too few are readable (R48, R219). -/
def Chip.taskMembers (c : Chip) (t : Task) : Option (List Touch) := c.raMembersOf (decide (t.own = ownRecast)) (c.taskTouch t) (c.taskDue t)

/-- The cost of a reconstruction from some members begun now, behind the work due before the command (R49, R50). -/
def Chip.membersCost (c : Chip) (t : Task) (ms : List Touch) : Ps :=
  maxOf (ms.map fun m => c.diePath m [m] (c.taskDue t)) + c.get E.PARITY_BOUND * 1000

def Chip.raCost (c : Chip) (t : Task) : Ps :=
  match c.taskMembers t with
  | none => 0
  | some ms => c.membersCost t ms

/-- A codeword's read may turn to read-around (R49, R50): members, the limits of R49, and the bound and tokens before a moment. -/
def Chip.raOkBy (c : Chip) (t : Task) (lim : Nat) : Bool :=
  match c.taskMembers t, c.cmd t.h with
  | some ms, some x =>
    let chans := (ms.map fun m => chanOf m.lun).eraseDups
    decide (c.um.raInflight.length < c.get E.RA_MAX_INFLIGHT ∨ c.um.raInflight.contains t.h)
      && chans.all (fun ch => decide (c.um.raBus.get 0 ch + (ms.filter fun m => decide (chanOf m.lun = ch)).length * cdiv (c.cwPs ch) 125000
            ≤ c.get E.RA_BUS_CEIL))
      && c.fitsBy x lim (c.raCost t) (c.readTokens ms 1)
  | _, _ => false

/-- Before the promise of its command. -/
def Chip.raOk (c : Chip) (t : Task) : Bool := c.raOkBy t (c.taskDue t)

/-- Tokens placed as a step begins (R219). -/
def Chip.placeStep (c : Chip) (t : Task) (need : List (Res × Nat)) : Chip :=
  match c.stepLimit t with
  | none => c
  | some (_, lim) => match c.placeAll t.h (mergeNeeds need) lim with
    | none => c
    | some l =>
      let all := c.um.ledger ++ l
      { c with um := { c.um with ledger := all } }

/-- A number for the die reads of a step of one codeword, and the task that carries it. -/
def Chip.regroup (c : Chip) (t : Task) : Chip × Task :=
  ({ c with rd := { c.rd with nextTask := c.rd.nextTask + 1 } }, { t with grp := c.rd.nextTask })

/-- The sense of a step of a codeword, where its page stands for its reader. -/
def Chip.senseTask (c : Chip) (t : Task) (levels : List (Nat × Int)) : Chip :=
  match c.taskPlace t with
  | none => c
  | some p => c.senseOn p t.entry t.cls t.grp levels 1

/-- A hard read with alternate i (R218 step 2). -/
def Chip.stepHard (c : Chip) (t : Task) (i : Nat) : Chip :=
  let r := c.regroup t
  let q := r.1.routeTo t.h (chanOf (c.taskTouch t).lun) true 1
  let t1 := { r.2 with idx := i, step := 2, reached := max t.reached 2, quad := q.1, engine := q.2.engineFor q.1 true, members := [],
                       endPs := c.nowPs + c.alternateCost t }
  ((q.2.setTask t1).noteStep t.h 2).senseTask t1 [(nth t.levels i, 0)]

/-- A soft read (R218 step 3). -/
def Chip.stepSoft (c : Chip) (t : Task) : Chip :=
  let g := c.regroup t
  let r := g.1.routeTo t.h (chanOf (c.taskTouch t).lun) false 1
  let t1 := { g.2 with step := 3, ran3 := true, quad := r.1, engine := r.2.engineFor r.1 false, reached := max t.reached 3, members := [],
                       endPs := c.nowPs + c.softCost t }
  let e := nth t.levels 0
  let d := (c.get E.SOFT_DELTA : Int)
  (((r.2.setTask t1).placeStep t (c.softNeed t)).noteStep t.h 3).senseTask t1 [(e, 0), (e, d), (e, -d)]

/-- A read admitted as a read-around has its members' tokens and its place in flight already (R49). -/
def Chip.admittedRa (c : Chip) (t : Task) : Bool :=
  !t.raTried && match c.reader t with
    | some x => x.ra && x.raUnits.contains t.unit
    | none => false

/-- A command's read that turns to read-around after admission joins its limits (R49, R50). The merges of a write and the reads of a
class 3 command are no read-arounds (R221). -/
def Chip.joinRa (c : Chip) (t : Task) (ms : List Touch) : Chip :=
  match c.reader t with
  | none => c
  | some x => if 3 ≤ x.cls ∨ x.writeType ∨ c.admittedRa t then c else c.takeRa t.h ms

/-- A reconstruction: a hard read of each member, decoded by an engine of its own (R48, R208, R218 step 4). -/
def Chip.stepMembers (c : Chip) (t : Task) (ms : List Touch) : Chip :=
  let c0 := if c.admittedRa t then c else (c.joinRa t ms).placeStep t (c.readTokens ms 1)
  let g := c0.regroup t
  let t0 := { g.2 with step := 4, raTried := true, reached := max t.reached 4, engine := 48, members := [], endPs := c.nowPs + c.membersCost t ms }
  let r := ms.foldl (fun (a : Chip × Task) m =>
    let q := a.1.routeTo t.h (chanOf m.lun) true 1
    let t1 := { a.2 with members := a.2.members ++ [{ pos := m.pos, entry := m.entry, quad := q.1, engine := q.2.engineFor q.1 true }] }
    (q.2.setTask t1, t1)) (g.1, t0)
  ((r.1.setTask r.2).noteStep t.h 4).each ms fun c m =>
    match (c.sbOf (entrySb t.entry)).bind fun s => c.placeAt (decide (t.own = ownRecast)) s (slotPage (entrySlot t.entry)) m.pos with
    | none => c
    | some p => c.senseOn p m.entry t.cls r.2.grp (c.firstLevel m.entry) 1

/-- Every step of the ladder has been run and has failed, the reconstruction unless too few members
are readable (R219). -/
def Chip.lostKnown (c : Chip) (t : Task) : Bool :=
  decide (t.order.length ≤ t.idx + 1) && t.ran3 && (t.raTried || (c.taskMembers t).isNone)

/-- The partner may still be asked for a codeword that would be lost (R348): in a SYNCED pair, once,
while its answer can come before the limit of the read. -/
def Chip.mayAsk (c : Chip) (t : Task) : Bool :=
  decide (c.get E.PAIR_STATE = 0) && c.pr.joined && decide (t.step ≠ 6) && decide (t.own < ownCopy ∧ t.unit ≠ anyUnit)
    && (match c.stepLimit t with
      | none => true
      | some (x, lim) => decide (c.nowPs + c.get E.MIRROR_ACK_BOUND * 1000 + octetsPs (rallyRate c.pr.lanes) 4096
            + c.hostTerm x x.duePs + c.get E.POST_MARGIN * 1000 ≤ lim))

/-- A codeword is lost (R222): its unit enters the log, and its reader ends. -/
def Chip.loseTask (c : Chip) (t : Task) : Chip :=
  if t.own = ownRecast then (c.loseRecast t).rowRead t.h
  else if t.own = ownPatrol then c.patrolLoses t
  else
  let c1 := if t.own = ownTest ∧ c.mapOf t.unit ≠ t.entry then c else c.loseUnit t.unit 1
  let mine := fun (q : Task) => decide (q.h = t.h ∧ q.unit = t.unit ∧ q.own = t.own ∧ q.entry = t.entry)
  let l := if t.cont then drop' (fun q => decide (q.id = t.id)) c1.rd.tasks else drop' mine c1.rd.tasks
  let c2 := { c1 with rd := { c1.rd with tasks := l } }
  if t.cont then (c2.count E.CONTINUATIONS 1).event 0x130 0 1 noUnit [5]
  else if t.own = ownTest then
    (({ c2 with lg := { c2.lg with stFailing := if c2.lg.stFailing = 0 then c2.get E.ST_SEGMENT else c2.lg.stFailing } }).unpin testH).testNext
  else if t.own = ownAnswer then c2.sendFrame 0x23 (t.h - 2 ^ 40) true [2] []
  else if ownCopy ≤ t.own then c2.copyEnds
  else if t.own ≠ 0 then
    let hs := fun (c : Chip) => drop' (fun (x : Held) => decide (x.unit = t.unit ∧ x.src = t.entry)) c.sb.held
    (c2.programMove t.unit t.entry []) |> fun c => { c with sb := { c.sb with held := hs c } }
  else if (c.cmd t.h).isNone then c2.unstage t.h t.unit
  else (c1.noteStep t.h 5).endLost t.h

/-- A codeword with no decode to come stands until its command ends (R39). -/
def Chip.stand (c : Chip) (t : Task) : Chip := c.setTask { t with engine := 48, members := [] }

/-- A codeword that has no step left (R219): the partner is asked, or it is lost, or the read waits
for the end of its promise. -/
def Chip.exhausted (c : Chip) (t : Task) : Chip :=
  if c.lostKnown t then
    if c.mayAsk t then
      let left := match c.cmd t.h with
        | some x => c.leftNs x
        | none => 2 ^ 32 - 1
      let nsid := ((c.ownerOf t.unit).map fun o => o.1.nsid).getD 0
      (c.setTask { t with step := 6, engine := 48, members := [] }).askPartner t.unit nsid [t.cw] [t.id] left
    else match c.stepLimit t with
      | some (x, _) => if x.cls ≤ 1 ∧ c.get E.PAIR_STATE = 0 ∧ t.step ≠ 6 then (c.stand t).giveUp t.h 0x20 else c.loseTask t
      | none => c.loseTask t
  else match c.stepLimit t with
    | none => c.stand t
    | some _ => (c.stand t).giveUp t.h 0x20

/-- A command's recovery goes past the allowance of its class, which is recovery trouble unless it completes in time (R44); so it is for the
merges of a write. -/
def Chip.pastAllowance (c : Chip) (t : Task) : Chip :=
  match c.reader t with
  | some x => if x.cls ≤ 2 ∧ (c.allow x.cls ≤ t.idx ∨ t.order.length ≤ t.idx + 1 ∨ 3 ≤ t.step) then c.trouble t.h 0x20 else c
  | none => c

/-- The ladder past the allowance (R218, R219): the other alternates, the soft read, reconstruction, and the end. -/
def Chip.climb (c : Chip) (t : Task) : Chip :=
  let i := t.idx + 1
  let more := decide (i < t.order.length)
  let hardNeed := c.readTokens [c.taskTouch t] 1
  if t.step ≤ 2 ∧ more ∧ c.fits t (c.alternateCost t) hardNeed then (c.placeStep t hardNeed).stepHard t i
  else if !t.ran3 ∧ c.fits t (c.softCost t) (c.softNeed t) then c.stepSoft t
  else if !t.raTried ∧ (c.taskMembers t).isSome ∧ c.fits t (c.raCost t) (c.readTokens ((c.taskMembers t).getD []) 1) then
    c.stepMembers { t with raTried := true } ((c.taskMembers t).getD [])
  else c.exhausted t

/-- The next step of a codeword whose last try failed (R219): alternates within the allowance, once they are spent
read-around where it serves, and then the ladder. The step that failed counts as reached. -/
def Chip.advance (c0 : Chip) (t : Task) : Chip :=
  let c := if t.step ≤ 4 then c0.noteStep t.h t.step else c0
  let cls := match c.stepLimit t with
    | some (x, _) => x.cls
    | none => 3
  let k := c.allow cls
  let i := t.idx + 1
  let more := decide (i < t.order.length)
  let early := decide (t.step ≤ 2) && more && decide (i ≤ k)
  let atEdge := decide (t.step ≤ 2) && decide (t.idx = min k (t.order.length - 1))
  let nextCost := if more then c.alternateCost t else c.softCost t
  let first := decide (cls ≤ 1) || decide (c.raCost t < nextCost)
  let c1 := c.pastAllowance t
  if early then c1.stepHard t i
  else if atEdge ∧ cls ≤ 2 ∧ c.get E.RA_ENABLE = 1 ∧ !t.raTried ∧ c.raOk t ∧ first then
    c1.stepMembers { t with raTried := true } ((c.taskMembers t).getD [])
  else c1.climb t

/-! ### Running late and expiring (R39, R42, R66, R78) -/

/-- A completion that its promised time forces comes after those that wait in its queue before it (R36, R78). -/
def Chip.postNow (c : Chip) (x : Cmd) : Chip :=
  let l := (c.earlierPosts x).mergeSort fun a b => decide (a.order ≤ b.order)
  (c.each l Chip.post).post x

/-- A codeword that has not passed and waits for no read and no decode. -/
def Chip.stands (c : Chip) (t : Task) : Bool := t.word.isNone && decide (t.step ≤ 4 ∧ t.engine = 48) && t.members.isEmpty && !c.sensing t.grp

/-- The codewords of a command that has its completion are carried on in staging under RF
with no deadline (R220): those that have passed are done. -/
def Chip.continueReads (c : Chip) (h : Nat) : Chip :=
  let left := drop' (fun (t : Task) => decide (t.h = h) && t.word.isSome) c.rd.tasks
  let l := change (fun (t : Task) => decide (t.h = h)) (fun t => { t with h := 0, cls := 4, own := 5, cont := true }) left
  { c with rd := { c.rd with tasks := l } }

/-- Codewords that are carried on and stand without a step, as after a recovery that their promise cut short, take their next one (R220).
They do so at an inning boundary (DESIGN CHOICE, log entry 71). -/
def Chip.carryOn (c : Chip) : Chip :=
  c.each (c.rd.tasks.filter fun t => t.cont && c.stands t) fun c t => match c.taskOf t.id with
    | some u => if c.stands u then c.advance u else c
    | none => c

/-- The completion of a command that goes on inside without it (R39): an entry of its own with DEADLINE_EXPIRED, which is posted now, or waits
for its queue, which may be full, in the order of completions. -/
def Chip.expireInside (c : Chip) (x : Cmd) (cause : Nat) : Chip :=
  let y : Cmd := { x with h := c.nextH, phase := .ended, status := stExpired, dw0 := at' (min 5 x.step) 8 + cause, dw1 := 0, order := c.nextOrder,
                          credits := 0, energy := 0, guests := 0, slots := [], recs := [], waitH := none, stallT := none }
  let c1 := c.setCmd { x with posted := true }
  let cs := c1.cmds ++ [y]
  ({ c1 with cmds := cs, nextH := c1.nextH + 1 }).postNow y

/-- DEADLINE_EXPIRED with its cause and the highest step reached (R39, R42), once. A read leaves its host
buffer undefined and its codewords continue; a write-type command runs to its end inside with its
lock. After a reset that discarded its completion there is none (R91). -/
def Chip.expireCmd (c : Chip) (h cause : Nat) : Chip :=
  match c.cmd h with
  | none => c
  | some x =>
    if x.silent ∨ x.posted then c
    else
      let c1 := (c.count E.EXPIRED 1).lateEvent cause x.step
      if x.writeType then c1.expireInside x cause
      else ((((c1.continueReads h).unpin h).dropTasks h).unlock h).finish h stExpired (at' (min 5 x.step) 8 + cause) 0

/-! ### A decode ends (R207 to R210, R214, R216, R225) -/

/-- Counting the pass of a slot while the zone learns (R216). -/
def Chip.learn (c : Chip) (item slot : Nat) : Chip :=
  if c.get E.ZT_LEARN = 0 then c
  else
    let old := match c.rd.counts.find? fun z => decide (z.key = item) with
      | some z => z.counts
      | none => List.replicate 8 0
    let z : ZoneCount := { key := item, counts := old.set slot (min 0xFFFF (nth old slot + 1)) }
    let l := upsert (fun q => decide (q.key = item)) z c.rd.counts
    { c with rd := { c.rd with counts := l } }

/-- A step 1 or 2 decode passed: the slot is counted and becomes the member's hint (R214, R216), and
many corrections mark the superblock (R225). -/
def Chip.passHard (c : Chip) (t : Task) (corrected : Nat) : Chip :=
  match c.sbOf (entrySb t.entry) with
  | none => c
  | some s => match s.members[slotMember (entrySlot t.entry)]? with
    | none => c
    | some _ =>
      let z := t.zone
      let slot := nth t.order t.idx
      let c1 := (c.learn (zoneItem s.qlc z) slot).setMember s.idx (slotMember (entrySlot t.entry)) fun m =>
        { m with hintZone := z, hintSlot := slot, hinted := true }
      if c.get E.ERR_REFRESH_BITS < corrected then c1.markSb s.idx 2 else c1

/-- A codeword passes at its step (R219, R224, R225, R232). -/
def Chip.passTask (c : Chip) (t : Task) (w corrected : Nat) : Chip :=
  let counter := if t.step = 1 then E.STEP1_PASS else if t.step = 2 then E.STEP2_PASS
    else if t.step = 3 then E.STEP3_PASS else E.STEP4_PASS
  let t1 := { t with word := some w, reached := max t.reached t.step }
  let c2 := ((c.count counter 1).setTask t1).noteStep t.h t.step
  let c3 := if t.step ≤ 2 then c2.passHard t corrected
    else ((c2.markRecovery t.entry).queueRealloc t.unit t.entry t.cw w)
  c3.unitRead t1

/-- The die and block that a member of a reconstruction is read on. -/
def Chip.memberPlace (c : Chip) (t : Task) (m : MRead) : Option (Nat × Nat) :=
  (c.sbOf (entrySb t.entry)).bind fun s => c.placeAt (decide (t.own = ownRecast)) s (slotPage (entrySlot t.entry)) m.pos

/-- A reconstruction failed with some members failing (R50, R219, R255): under P2 the one member left out is read in place of the one that failed, once and if that
still fits; otherwise a class 0 or 1 read stands with MEMBER_FAULT, and the ladder of the others goes on. -/
def Chip.failMembers (c : Chip) (t : Task) (fails : List Nat) : Chip :=
  let s? := c.sbOf (entrySb t.entry)
  let recast := decide (t.own = ownRecast)
  let spare : List Touch := match s? with
    | some s =>
      let row := slotPage (entrySlot t.entry)
      ((c.others recast s row t.pos).1.filter fun m => !(t.members.any fun q => decide (q.pos = m))).map fun m =>
        { c.taskTouch t with lun := ((c.placeAt recast s row m).map Prod.fst).getD 0, entry := s.pageAt row m, pos := m }
    | none => []
  let kept := t.members.filter fun q => !fails.contains q.pos
  let again : List Touch := spare ++ kept.map fun q =>
    { c.taskTouch t with lun := ((s?.bind fun s => c.placeAt recast s (slotPage (entrySlot t.entry)) q.pos).map Prod.fst).getD 0, entry := q.entry, pos := q.pos }
  let p2 := (s?.map Sb.p2).getD false
  if p2 && !t.skipped && decide (spare.length = 1 ∧ fails.length ≤ 1) && c.fits t (c.membersCost t again) (c.readTokens again 1) then
    c.stepMembers { t with skipped := true } again
  else match c.stepLimit t with
    | some (x, _) => if x.cls ≤ 1 then (c.stand { t with raTried := true }).trouble t.h 0x22 else c.advance { t with raTried := true }
    | none => c.advance { t with raTried := true }

/-- A codeword that is decoded: its task, the page and the unit and position that its tag is to name, whether it is of parity, and the quadrant and engine that decode it. -/
structure Judged where
  task : Task
  entry : Nat
  unit : Nat
  parity : Bool
  quad : Nat
  engine : Nat

/-- The tag and the CRC of a word agree with the codeword read (R207); one of parity passes on its zero syndrome alone (R234). -/
def Judged.ok (k : Judged) (w : Nat) : Bool :=
  k.parity || (wordCrcOk w && (decide (k.unit = anyUnit) || wordTagOk w k.unit k.task.cw))

/-- A zero syndrome with a CRC or tag that disagrees: it counts, and is reported (R207). -/
def Chip.disagrees (c : Chip) (k : Judged) (w : Nat) : Chip :=
  (c.count (if wordCrcOk w then E.TAG_MISMATCHES else E.MISCORRECTIONS) 1).event 0x132 0 1 (c.memberUnit k.entry) [c.memberUnit k.entry, k.unit % 2 ^ 20]

/-- The tokens of a decode in a quadrant by an engine, consumed from those of its command (R51, R54). -/
def Chip.chargeDecode (c : Chip) (t : Task) (quad engine : Nat) : Chip :=
  let r := if engine < 32 then Res.hard quad else Res.soft quad
  let n := if engine < 32 then 1 else 10
  (c.chargeRes r t.cls n).doneCws t.h r 1 n

/-- The quadrant of an engine. -/
def engineQuad (e : Nat) : Nat := if e < 32 then e / 8 else (e - 32) / 4

/-- A decode of a codeword (R207, R208, R210): the word that passes, if any. A miscorrection is decoded again on another
engine of the kind; when that passes, the first engine is charged one transient fault. A second decode that ends past the bound of its step is recovery trouble. -/
def Chip.judge (c : Chip) (k : Judged) (d : CwDecode) : Chip × Option Nat :=
  let c0 := (c.chargeDecode k.task k.quad k.engine)
  let pass := fun (c : Chip) (w bits : Nat) => (c.count E.CORRECTED_BITS bits, some w)
  if !d.syndrome then (c0, none)
  else if k.ok d.word then pass c0 d.word d.corrected
  else
    let c1 := c0.disagrees k d.word
    match (if wordCrcOk d.word then none else c1.engineOf k.quad (decide (k.engine < 32)) [k.engine]) with
    | none => (c1, none)
    | some e2 =>
      let q2 := engineQuad e2
      let c2 := (if q2 = k.quad then c1 else c1.count E.ROUTED 1).chargeDecode k.task q2 e2
      let c3 := if k.task.endPs < c.nowPs ∧ (c2.reader k.task).isSome then c2.trouble k.task.h 0x20 else c2
      match d.second with
      | none => (c3, none)
      | some (w, bits) =>
        if k.ok w then
          let u := mkUnit kLDPC k.engine
          pass ((c3.chargeFault u).event (0x100 + k.engine) 1 1 (c3.unitIdent u) [k.engine]) w bits
        else (c3.disagrees k w, none)

/-- The decodes of the members of a reconstruction (R208, R210): what each gave, by position. -/
def Chip.judgeMembers (c : Chip) (t : Task) (l : List (Nat × CwDecode)) : Chip × List (Nat × Option Nat) :=
  t.members.foldl (fun (a : Chip × List (Nat × Option Nat)) m =>
    let s? := a.1.sbOf (entrySb t.entry)
    let row := slotPage (entrySlot t.entry)
    let par := (s?.map fun s => (parityPos s.idx row s.p2).contains m.pos).getD false
    let unit := (s?.bind fun s => s.unitAt row m.pos).getD anyUnit
    let k : Judged := { task := t, entry := m.entry, unit := unit, parity := par, quad := m.quad, engine := m.engine }
    match l.find? fun p => decide (p.1 = m.pos) with
    | none => ((a.1.chargeDecode t m.quad m.engine), a.2 ++ [(m.pos, none)])
    | some p => let r := a.1.judge k p.2; (r.1, a.2 ++ [(m.pos, r.2)])) (c, [])

/-- The step of a codeword ends with its decode, or, for a reconstruction, with those of its members, from which the parity engine forms the
codeword (R207, R208, R210, R242). -/
def Chip.decoded (c : Chip) (t : Task) (r : Decode) : Chip :=
  let me : Judged := { task := t, entry := t.entry, unit := t.unit, parity := t.parity, quad := t.quad, engine := t.engine }
  if t.step = 4 then
    let j := c.judgeMembers t r.members
    let fails := (j.2.filter fun p => p.2.isNone).map Prod.fst
    if fails ≠ [] then j.1.failMembers t fails
    else match c.sbOf (entrySb t.entry) with
      | none => j.1.failMembers t []
      | some s =>
        let w := j.1.rebuilt s (slotPage (entrySlot t.entry)) t.cw t.pos (j.2.filterMap fun p => p.2.map fun w => (p.1, w))
        if me.ok w then j.1.passTask t w 0 else (j.1.disagrees me w).failMembers t []
  else
    let j := c.judge me r.own
    match j.2 with
    | some w => j.1.passTask t w (if w = r.own.word then r.own.corrected else ((r.own.second.map Prod.snd).getD 0))
    | none => j.1.advance t

/-! ### A unit on the path goes away (R58, R223) -/

/-- A codeword read on a die that is out of service turns to reconstruction (R50, R58, R223): at its first step where read-around serves, past it
where step 4 fits, and by a reader without a promise always. Otherwise its
command meets recovery trouble with cause UNIT_FAULT; one whose die is RETIRED with too few members readable can be served no
more, and without a promise is lost. At an inning boundary a class 2 command may take until its late limit. -/
def Chip.retestTask (c : Chip) (lun : Nat) (late : Bool) (t : Task) : Chip :=
  match c.taskMembers t with
  | none =>
    if (c.stepLimit t).isNone then
      (if c.reported (mkUnit kLUN lun) = 4 then c.exhausted { t with idx := t.order.length, ran3 := true } else c)
    else if c.reported (mkUnit kLUN lun) = 4 then c.giveUp t.h 0x21 else c.trouble t.h 0x21
  | some ms =>
    let turn := c.stepMembers { t with raTried := true } ms
    match c.stepLimit t with
    | none => turn
    | some (x, lim) =>
      let ok := if t.step ≤ 1 then decide (c.get E.RA_ENABLE = 1) && c.raOkBy t (if late && decide (x.cls = 2) then lim else x.duePs)
        else c.fits t (c.raCost t) (c.readTokens ms 1)
      if ok then turn else c.trouble t.h 0x21

/-- Codewords that are read from a die and have not passed, those of a reconstruction with a member there among them. -/
def Chip.readingOn (c : Chip) (lun : Nat) : List Task :=
  c.rd.tasks.filter fun t => t.word.isNone && (if t.step ≤ 3 then decide (((c.taskPlace t).map Prod.fst) = some lun)
    else decide (t.step = 4) && c.sensing t.grp && t.members.any fun m => decide (c.lunOf m.entry = some lun))

/-- Admitted reads that have not resolved and touch a die: each is tested as a read-around, which it becomes where that serves (R50, R58). -/
def Chip.retestCmd (c : Chip) (lun : Nat) (late : Bool) (x : Cmd) : Chip :=
  let p := if late ∧ x.cls = 2 then c.get E.CLASS2_LATE_LIMIT * 1000000000 else x.promisePs + x.extraPs
  let due := x.fetchT * psPerCyc + p
  let r := c.readAround x p due (c.cmdTouches x)
  let members := c.reroute x.h due 1 r.2.2.2
  match (if c.get E.RA_ENABLE = 1 ∧ r.2.1 = 0 ∧ r.1 ≤ p then c.placeAll x.h (mergeNeeds (c.readTokens members 1)) due else none) with
  | none => if r.2.1 = 0x0F ∧ c.reported (mkUnit kLUN lun) = 4 then c.giveUp x.h 0x21 else c.trouble x.h 0x21
  | some l =>
    let ledger := c.um.ledger ++ l
    let work := c.um.work ++ c.readWork x.h due members
    let us := x.raUnits ++ r.2.2.1.map Touch.unit
    (({ c with um := { c.um with ledger := ledger, work := work } }).setCmd { x with ra := true, raUnits := us }).takeRa x.h members

/-- Commands admitted and not resolved that touch a die and are not read around it. -/
def Chip.unresolvedOn (c : Chip) (lun : Nat) : List Cmd :=
  c.cmds.filter fun x => x.raKind && decide (x.phase = .admitted ∧ x.cls ≤ 2) && !x.resolved && !c.unloaded x
    && (c.cmdTouches x).any fun t => decide (t.lun = lun) && !x.raUnits.contains t.unit

/-- A die went FENCED or RETIRED: what is being read from it is tested again (R58). -/
def Chip.retest (c : Chip) (lun : Nat) : Chip :=
  (c.each (c.readingOn lun) fun c t => c.retestTask lun false t).each (c.unresolvedOn lun) fun c x => c.retestCmd lun false x

/-- At each inning boundary the class 2 commands on a die out of service, and the reads there without a promise, are tested again
(R58, R223). -/
def Chip.retestAll (c : Chip) : Chip :=
  c.each ((c.md.dies.map Die.lun).filter fun l => !c.usable (mkUnit kLUN l)) fun c l =>
    (c.each ((c.readingOn l).filter fun t => match c.stepLimit t with
      | some (x, _) => decide (x.cls = 2)
      | none => decide (t.step ≤ 3)) fun c t => c.retestTask l true t).each ((c.unresolvedOn l).filter fun x => decide (x.cls = 2)) fun c x => c.retestCmd l true x

end Sys2Proof.Machine
end

