-- ==== Sys2Proof/Machine/Settle.lean ====
section
/-! DEFINITION. What follows from a change of units within the step that makes it: rows closed on a
retired die, reads tested again, exposure and losses, the layout table, DRAM placed again, the
service floor, write-through mode and the pair (R11, R12, R16, R23 to R25, R58, R197, R239, R250,
R254, R256, R341). -/
namespace Sys2Proof.Machine

/-! ### The service floor (R23) -/

/-- A unit that is not RETIRED or ABSENT. -/
def Chip.present (c : Chip) (u : Nat) : Bool := let r := c.reported u; decide (1 ≤ r ∧ r ≤ 3)

/-- The system area is readable on one of its channels: CH0, or CH31 (CH15 on the S9616-SP). -/
def Chip.sysAreaOk (c : Chip) : Bool :=
  let last := if c.halved then 15 else 31
  (c.boot.copies.getD 0 false && c.present (mkUnit kCHAN 0)) || (c.boot.copies.getD 1 false && c.present (mkUnit kCHAN last))

/-- FLOOR_FAULTS over the present state of the units (R23). A stripe without enough members is in the
lost-range log once its die has retired, so that bit [5] follows from the dies and the log. -/
def Chip.floorFaults (c : Chip) : Nat :=
  let p0 := !c.present (mkUnit kPORT 0) && !c.present (mkUnit kPORT 1)
  let clus := fun k => decide (c.reported (mkUnit kCLUS k) = 4)
  let ddr := decide (c.ddrMib (fun o => decide (1 ≤ o ∧ o ≤ 3)) < c.fixedMib c.bookOn)
  let luns := (c.md.dies.filter fun d => c.present (mkUnit kLUN d.lun)).length
  (if p0 then 1 else 0) + (if clus 0 then 2 else 0) + (if clus 1 then 4 else 0) + (if ddr then 8 else 0)
    + (if c.sysAreaOk then 0 else 16) + (if luns < 32 then 32 else 0)

/-- Class 3 I/O commands that were admitted and have not ended. -/
def Chip.admitted3 (c : Chip) : List Cmd :=
  c.cmds.filter fun x => decide (3 ≤ x.cls) && !x.admin && decide (x.phase = .admitted ∨ x.phase = .working)

/-- Commands end with Namespace Not Ready and DNR, without effect (R24). -/
def Chip.endNotReady (c : Chip) (l : List Cmd) : Chip :=
  c.each l fun c x => ((c.undo x.h).dropTasks x.h).fail x.h (dnr stNsNotReady)

/-- A command's path no longer serves it: a codeword still to be read is on a RETIRED die and can't be reconstructed. -/
def Chip.pathGone (c : Chip) (x : Cmd) : Bool :=
  c.rd.tasks.any fun t => decide (t.h = x.h) && t.word.isNone && (match c.lunOf t.entry with
    | some l => decide (c.reported (mkUnit kLUN l) = 4)
    | none => true) && (c.taskMembers t).isNone

/-- Maintenance mode in force: class 3 commands admitted before the floor failed whose path no longer serves them end at
once; with no cluster left CSTS.CFS is set (R24). -/
def Chip.enterMaintenance (c : Chip) (faults : Nat) : Chip :=
  let c1 := if faults = 0 then c else c.maintain faults
  if !c1.boot.maint then c1
  else
    let c2 := c1.endNotReady (c1.admitted3.filter c1.pathGone)
    let dead := (List.range 6).all fun k => decide (c2.reported (mkUnit kCLUS k) = 4)
    if dead then { c2 with boot := { c2.boot with cfs := true } } else c2

/-- Within 100 ms of entry every class 3 command admitted before it ends (R24): those still open end at the last inning boundary of
that time, which is the one with less than an inning left of it (DESIGN CHOICE, log entry 32). -/
def Chip.maintenanceLimit (c : Chip) : Chip :=
  if c.boot.maint ∧ c.boot.maintT + 100 * cycPerMs < c.now + cycPerInning then c.endNotReady c.admitted3 else c

/-! ### A die goes away (R197, R250, R254, R256) -/

/-- Rows of a superblock lost with its missing members: those for which more members are missing,
and not yet safe on a replacement, than its parity tolerates (R254, R256). -/
def Chip.missingAt (c : Chip) (s : Sb) (row : Nat) : List Nat :=
  (c.missing s).filter fun i => !(c.sb.repls.any fun r => decide (r.sb = s.idx ∧ r.pos = i ∧ row < r.row))

/-- The units lost with the missing members of a superblock enter the log (R254, R256). -/
def Chip.loseRows (c : Chip) (s : Sb) : Chip :=
  if (c.missing s).length ≤ tolerance s.p2 then c
  else
    let gone := (c.currentUnits s).filter fun p =>
      let ms := c.missingAt s (slotPage p.slot)
      ms.contains (slotMember p.slot) && decide (tolerance s.p2 < ms.length)
    c.each gone fun c p => c.enterLost p.unit (if s.p2 then 5 else 2)

/-- An open superblock on a retired die takes no further row and closes once its open rows have
(R244, R250). The pages on its last PAIR_DEPTH word lines are then taken as programmed to the end of the block, and so as safe
(DESIGN CHOICE, log entry 59). -/
def Chip.stopRows (c : Chip) (idx : Nat) : Chip :=
  match c.sbOf idx with
  | none => c
  | some s =>
    if s.state ≠ .open then c
    else
      let c1 := c.setSb { s with pages := s.rows }
      if c1.sb.rows.any fun r => decide (r.sb = idx) then c1.nextPasses idx else c1.closeSb idx

/-- An open superblock that holds a write sequence 2^30 behind the counter is closed with filler (R460). -/
def Chip.spanCloses (c : Chip) : Chip :=
  let old := c.sb.sbs.filter fun s => s.state == .open && (match s.seq0 with
    | some q => decide (2 ^ 30 ≤ serialDist 32 q c.seqNext)
    | none => false)
  c.each old fun c s =>
    let rows := (c.sb.rows.filter fun r => decide (r.sb = s.idx) && !r.closing).map Row.id
    ((c.each rows Chip.padRow).stopRows s.idx).count E.SEQ_SPAN_CLOSES 1

/-- Rows that Recast reads of a superblock that has now lost more members than its parity tolerates are read no further: they are lost
where no replacement page is safe (R253, R254). -/
def Chip.stopRebuild (c : Chip) (s : Sb) : Chip :=
  if (c.missing s).length ≤ tolerance s.p2 then c
  else
    let mine := c.sb.repls.filter fun r => decide (r.sb = s.idx)
    let l := change (fun (r : Repl) => decide (r.sb = s.idx)) (fun r => { r with bad := [] }) c.sb.repls
    ({ c with sb := { c.sb with repls := l } }).each mine fun c r => c.dropRowTasks (recastH r.sb r.pos)

/-- A LUN has gone RETIRED: its open rows close without it, programs not confirmed are not issued,
its superblocks are exposed, to be ordered again by R251, and their losses entered, its replacement blocks are abandoned, and
its rebuild starts (R197, R250, R253, R254). -/
def Chip.lunRetired (c : Chip) (lun : Nat) : Chip :=
  let posOf := fun (s : Sb) => (List.range s.members.length).filter fun i => match s.members[i]? with
    | some m => decide (m.lun = lun)
    | none => false
  let cut := fun (d : Die) => { d with ops := d.ops.filter fun o => o.confirmed || o.kind == .read }
  let c1 := { c with md := { c.md with dies := change (fun d => decide (d.lun = lun)) cut c.md.dies } }
  let rows := c1.sb.rows.filterMap fun r => match c1.sbOf r.sb with
    | some s => if posOf s = [] then none else some (r.id, posOf s)
    | none => none
  let c2 := c1.each rows fun c r => c.voidRow r.1 r.2
  let hit := c2.sb.sbs.filter fun s => decide (posOf s ≠ []) && decide (s.state ≠ .awaitErase)
  let c3 := c2.each hit fun c s => match c.sbOf s.idx with
    | none => c
    | some s' =>
      let m := (c.missing s').length
      let c' := (((c.setSb { s' with exposed := true, inWork := s'.inWork && s'.state != .closed }).stopRebuild s').event 0x180 0 1 noUnit [s.idx, m]).stopRows s.idx
      c'.loseRows s'
  let back := c3.sb.repls.filter fun r => decide (r.lun = lun)
  let keep := c3.sb.repls.filter fun r => decide (r.lun ≠ lun)
  let hs := back.map fun r => recastH r.sb r.pos
  let ts := drop' (fun (k : Task) => hs.contains k.h) c3.rd.tasks
  let c4 := ({ c3 with sb := { c3.sb with repls := keep }, rd := { c3.rd with tasks := ts } }).count E.RB_RESTARTS back.length
  let c5 := c4.each back fun c r => c.event 0x183 0 1 noUnit [r.sb, r.pos]
  let rebuild := if c5.sb.rebuilding.any fun p => decide (p.1 = lun) then c5.sb.rebuilding else (lun, c5.now) :: c5.sb.rebuilding
  if hit.isEmpty then c5
  else ({ c5 with sb := { c5.sb with rebuilding := rebuild } }).event 0x181 0 2 (c5.unitIdent (mkUnit kLUN lun)) [0]

/-- A check of every tap starts (R286): none runs, no proof, and a store is fitted. -/
def Chip.startTaps (c : Chip) : Chip :=
  if c.st.tapCheck ≠ 0 ∨ c.st.proof ∨ !c.st.present then c
  else { c with st := { c.st with tapCheck := 1, tapT := c.now, tapOpen := 0 } }

/-! ### Everything that follows -/

/-- Dies whose reported state left 1 or 2, and those that came back. -/
def Chip.diesOut (before c : Chip) : List Nat :=
  (c.md.dies.map Die.lun).filter fun l => before.usable (mkUnit kLUN l) && !c.usable (mkUnit kLUN l)

def Chip.diesBack (before c : Chip) : List Nat :=
  (c.md.dies.map Die.lun).filter fun l => !before.usable (mkUnit kLUN l) && c.usable (mkUnit kLUN l)

def Chip.diesRetired (before c : Chip) : List Nat :=
  (c.md.dies.map Die.lun).filter fun l =>
    decide (before.reported (mkUnit kLUN l) ≠ 4) && decide (c.reported (mkUnit kLUN l) = 4)

/-- The grant to the partner fits half the Crucible's slots; slots in use are kept (R344). -/
def Chip.fitGrant (c : Chip) : Chip :=
  let fit := max c.pr.slotsIn (min c.pr.grant (slotsOf c.ft.sizeMib / 2))
  let less := c.pr.grant - fit
  if less = 0 then c else { c with pr := { c.pr with grant := fit }, st := { c.st with dirty := c.st.dirty - less } }

/-- What follows from a change of units reaches data, maps and accounts; units, functions, ports, queues, power,
temperature, firmware and sessions stay as the command made them. -/
def Chip.follows (c after : Chip) : Chip :=
  { after with un := c.un, fns := c.fns, ports := c.ports, qs := c.qs, pm := c.pm, mg := c.mg, fw := c.fw, th := c.th,
               nextH := c.nextH, rnd := c.rnd, free := c.free, now := c.now, fuse := c.fuse }

/-- The consequences of a change of units, in the step that makes it. A store that is FENCED is probed by a tap check (R276, R286),
and on entry to write-through mode the Crucible drains (R283). -/
def Chip.settle (before c : Chip) : Chip :=
  if !c.isReady then c
  else
    let c1 := c.each (before.diesRetired c) Chip.lunRetired
    let c2 := c1.each (before.diesOut c) Chip.retest
    let c3 := c2.each (before.diesBack c) Chip.kickDie
    let c4 := if c3.eligibleNow = c3.sb.eligible then c3 else c3.rebuildLayout
    let ddr := (List.range 4).any fun d => decide (before.own (mkUnit kDDR d) ≠ c4.own (mkUnit kDDR d))
    let d := (if ddr then c4.placeDram else c4).releaseDram
    let c5 := if ddr || decide (d.ft.sizeMib ≠ c4.ft.sizeMib) then d.fitGrant else d
    let f := c5.floorFaults
    let c6 := if f = 0 ∧ before.boot.maint = c5.boot.maint then c5 else c5.enterMaintenance f
    let gone := decide (before.own (mkUnit kRALLY 0) < 3) && decide (3 ≤ c6.own (mkUnit kRALLY 0))
    let c7 := if gone then c6.losePartner 3 else c6
    let probe := decide (before.own (mkUnit kSTORE 0) ≠ 3) && decide (c7.own (mkUnit kSTORE 0) = 3)
    let c8 := if probe then c7.startTaps else c7
    let c9 := c8.setWt false
    c.follows (if !c8.writeThrough && c9.writeThrough then c9.drainCrucible else c9)

/-- The consequences of a command that can change units, where it has changed any. -/
def Chip.settleChanged (before c : Chip) : Chip := if before.un = c.un then c else before.settle c

end Sys2Proof.Machine
end

