-- ==== Sys2Proof/Machine/Views.lean ====
section
/-! DEFINITION. What reading a dictionary entry answers: the stored value, or what the state says
for an entry that shows a part of the machine (R28, R393). The selects of the transport say which
item an entry shows (R29). -/
namespace Sys2Proof.Machine

/-! ### The item an entry shows (R29) -/

/-- The index of an entry address. -/
abbrev idxOf (a : Nat) : Nat := a / 256

/-- A select as its transport holds it. -/
def Chip.sel (c : Chip) (x : Xport) (a : Nat) : Nat := c.getAt a (Xport.item x)

/-- The function that a function select names. -/
def fnSel (v : Nat) : Nat := fnItem (bit v 9) (bits v 8 0)

/-- The unit that UNIT_SELECT names. -/
def Chip.unitSel (c : Chip) (x : Xport) : Nat := unitOfIdent (c.sel x E.UNIT_SELECT)

/-- The item under which an entry's value is stored, as a transport sees it. -/
def Chip.itemOf (c : Chip) (x : Xport) (a : Nat) : Nat :=
  match descOf a with
  | none => 0
  | some d =>
    if d.scope = .device then 0
    else if d.scope = .transport then Xport.item x
    else if idxOf a = 0x2100 then c.sel x E.QB_SELECT
    else if idxOf a = 0x2110 then fnSel (c.sel x E.FN_SELECT)
    else if idxOf a = 0x2210 then fnSel (c.sel x E.FQ_SELECT)
    else if idxOf a = 0x2280 then c.sel x E.QC_SELECT
    else if idxOf a = 0x2410 then c.sel x E.PORT_SELECT
    else if idxOf a = 0x2450 then fnSel (c.sel x E.FLR_SELECT)
    else if idxOf a = 0x3420 then c.sel x E.LUN_SELECT
    else if idxOf a = 0x3810 then c.sel x E.CH_SELECT
    else if idxOf a = 0x3C10 then c.sel x E.ZT_SELECT
    else if idxOf a = 0x5010 then fnSel (c.sel x E.SB_FN_SELECT)
    else if idxOf a = 0x5100 then c.sel x E.PW_SELECT
    else 0

/-! ### Units and the architecture entries -/

/-- The octets of a range of units of one kind (R30). -/
def Chip.unitOctets (c : Chip) (kind n : Nat) : List Nat := (List.range n).map fun i => c.unitOctet (mkUnit kind i)

/-- D1000 to D1030. -/
def Chip.viewUnits (c : Chip) (x : Xport) (a : Nat) : Option Nat :=
  let u := c.unitSel x
  if a = E.PF_DEVICE_ID then some c.fuse.pfDevice
  else if a = E.SILICON_REV then some (c.fuse.rev % 256)
  else if a = E.VARIANT then some c.fuse.variant
  else if a = E.UNIT_OWN_STATE then some (c.own u)
  else if a = E.UNIT_STATE then some (c.reported u)
  else if a = E.UNIT_TRANSIENTS then some (c.faultCount u)
  else if a = E.UNIT_FENCES then some (c.fenceCount u)
  else if a = E.UNIT_FENCES_LIFE then some (c.unitRec u).fencesLife
  else if a = E.UNIT_LAST_CHANGE then some (c.unitRec u).lastChange
  else if a = E.UNIT_CAUSE then some (c.unitRec u).cause
  else if a = E.LUN_STATES then some (ofOctets (c.unitOctets kLUN 2048))
  else if a = E.TGT_STATES then some (ofOctets (c.unitOctets kTGT 512))
  else if a = E.CHAN_STATES then some (ofOctets (c.unitOctets kCHAN 32))
  else if a = E.QUAD_STATES then some (ofOctets (c.unitOctets kQUAD 4))
  else if a = E.OTHER_STATES then
    some (ofOctets (c.unitOctets kPAIR 1 ++ c.unitOctets kCTL 1 ++ c.unitOctets kPORT 2 ++ c.unitOctets kDDR 4
      ++ c.unitOctets kCLUS 6 ++ c.unitOctets kLDPC 48 ++ c.unitOctets kADC 1 ++ c.unitOctets kSTORE 1 ++ c.unitOctets kRALLY 1))
  else if a = E.SERVICE_LEVEL then some c.serviceLevel
  else none

/-! ### Queues, functions and ports -/

/-- Functions that can hold a reservation: the PF and the TotalVFs VFs of each port in use (R69). -/
def Chip.fnCount (c : Chip) : Nat :=
  sumOf ((List.range (if c.boot.portMode = 1 then 2 else 1)).map fun p => 1 + (c.portOf p).totalVfs)

/-- Pairs reserved by all functions (POOL_RESERVED). -/
def Chip.pairsHeld (c : Chip) : Nat := sumOf (c.fns.map Fn.granted)

/-- Functions that hold a reservation. -/
def Chip.holders (c : Chip) : Nat := (c.fns.filter fun f => decide (f.granted ≠ 0)).length

/-- POOL_FREE: pairs free after setting one aside for every function without a reservation (R69). -/
def Chip.poolFree (c : Chip) : Nat := 1048576 - c.pairsHeld - min 1024 (c.fnCount - c.holders)

/-- Pairs of a function that are in use: a pair is taken with the first of its queues, which share its identifier (R71). -/
def Chip.pairsUsed (c : Chip) (port fn : Nat) : Nat :=
  let sq := c.qs.sqs.filterMap fun q => if q.port = port ∧ q.fn = fn ∧ q.qid ≠ 0 then some q.qid else none
  let cq := c.qs.cqs.filterMap fun q => if q.port = port ∧ q.fn = fn ∧ q.qid ≠ 0 then some q.qid else none
  (sq ++ cq).eraseDups.length

/-- Doorbell limit of a function (R70): from the size of BAR0 as latched at the last port reset; sizes
are 16 KiB × 2^n. -/
def Chip.doorbellLimit (c : Chip) (port fn : Nat) : Nat :=
  let p := c.portOf port
  let octets := 16384 * 2 ^ (if fn = 0 then p.bar0 else p.vfBar0)
  min 65535 ((octets - 4096) / 8 - 1)

/-- The queue that a queue word names. -/
def Chip.sqAt (c : Chip) (w : Nat) : Option Sq := c.sqOf (bit w 35) (bits w 34 26) (bits w 15 0)

/-- The class in force of a queue (R35, R67): a queue that exists has its own; otherwise its binding raised
to the floor. -/
def Chip.classInForce (c : Chip) (w : Nat) : Nat :=
  let b := c.getAt E.QB_CLASS w
  match c.sqAt w with
  | some q => q.cls
  | none => max (if b < 4 then b else 0) (c.getAt E.FN_CLASS_FLOOR (fnItem (bit w 35) (bits w 34 26)))

/-- D2050 to D2460. -/
def Chip.viewQueues (c : Chip) (x : Xport) (a : Nat) : Option Nat :=
  let it := c.itemOf x a
  let p := it / 512
  let f := it % 512
  let q := c.sqAt it
  if a = E.SUPPLY_EFFECTIVE then some c.supply
  else if a = E.SUPPLY_HOLD_UNTIL then
    some (if c.now < c.get E.SUPPLY_HOLD_UNTIL then c.get E.SUPPLY_HOLD_UNTIL else 0)
  else if a = E.QB_EFFECTIVE then some (c.classInForce it)
  else if a = E.POOL_FREE then some c.poolFree
  else if a = E.POOL_RESERVED then some c.pairsHeld
  else if a = E.FQ_GRANTED then some (c.fnOf p f).granted
  else if a = E.FQ_CREATED then some (c.pairsUsed p f)
  else if a = E.FQ_DOORBELL_LIMIT then some (c.doorbellLimit p f)
  else if a = E.RL_LIVE then some c.liveLocks
  else if a = E.RL_HOLDOVER then some c.lk.held.length
  else if a = E.QC_FETCHED then some ((q.map Sq.fetched).getD 0)
  else if a = E.QC_COMPLETED then some ((q.map Sq.completed).getD 0)
  else if a = E.QC_REFUSED then some ((q.map Sq.refused).getD 0)
  else if a = E.LINK_STATE then some (c.portOf it).link
  else if a = E.LINK_GEN then some (c.portOf it).gen
  else if a = E.LINK_WIDTH then some (c.portOf it).width
  else if a = E.LINK_TRAINED_WIDTH then some (c.portOf it).trained
  else if a = E.LINK_FLIT then some (if (c.portOf it).flit then 1 else 0)
  else if a = E.FLR_STATE then some (c.fnOf p f).flr
  else none

/-! ### The map, the Crucible, wear and superblocks -/

/-- Good blocks in use of a LUN. -/
def Die.goodNow (d : Die) : List Block := d.blocks.filter fun b => !b.scrapped

/-- LIFE_WEAR in per mille (R157): the mean over good blocks of LUNs neither ABSENT nor RETIRED. -/
def Chip.lifeWear (c : Chip) : Nat :=
  let ds := c.md.dies.filter fun d => let s := c.reported (mkUnit kLUN d.lun); decide (1 ≤ s ∧ s ≤ 3)
  let n := sumOf (ds.map fun d => d.good - (d.blocks.filter Block.scrapped).length)
  let q := sumOf (ds.flatMap fun d => d.goodNow.map Block.qlcErases)
  let s := sumOf (ds.flatMap fun d => d.goodNow.map Block.slcErases)
  let pq := c.get E.PE_RATED_QLC
  let ps := c.get E.PE_RATED_SLC
  if n = 0 then 0 else min max20 (1000 * (q * ps + s * pq) / (n * pq * ps))

/-- LIFE_SPARE in per mille (R157). The initial spare, the retirement threshold and the term of each LUN are rounded down; R157 gives a
rounding for LIFE_PCT alone (DESIGN CHOICE, log entry 69). -/
def Chip.lifeSpare (c : Chip) : Nat :=
  let ds := c.md.dies.filter fun d => decide (c.reported (mkUnit kLUN d.lun) ≠ 0)
  let one := fun (d : Die) =>
    if c.reported (mkUnit kLUN d.lun) = 4 then 1000
    else
      let room := d.good * c.get E.SPARE_INIT_ACTIVE / 1000 - d.good * c.get E.DIE_SPARE_MIN / 1000
      if room = 0 then 1000 else min 1000 (1000 * (d.blocks.filter Block.scrapped).length / room)
  if ds.isEmpty then 0 else sumOf (ds.map one) / ds.length

/-- LIFE_PCT (R157). -/
def Chip.lifePct (c : Chip) : Nat := min 255 (max c.lifeWear (max c.lifeSpare c.aging) / 10)

/-- WRITE_AMP (R168): pages programmed per unit written, in per mille. -/
def Chip.writeAmp (c : Chip) : Nat :=
  let w := c.get E.HOST_UNITS_WRITTEN
  if w = 0 then 0 else min max20 (c.get E.NAND_PAGES_PROGRAMMED * 1000 / w)

/-- Dirty units: newest versions that are only in the Crucible. -/
def Chip.dirtyUnits (c : Chip) : Nat := c.ft.dir.length

/-- The LUN record of a select. The mean of LUN_ERASES_MEAN is rounded down, which R171 leaves open (DESIGN CHOICE, log entry 69). -/
def Chip.lunView (c : Chip) (a lun : Nat) : Nat :=
  match c.dieOf lun with
  | none => 0
  | some d =>
    let es := d.goodNow.map Block.erases
    if a = E.LUN_GOOD_BLOCKS then d.good
    else if a = E.LUN_SPARE then c.spareOf d
    else if a = E.LUN_ERASES_MAX then min max20 (maxOf es)
    else
      let n := d.good - (d.blocks.filter Block.scrapped).length
      if n = 0 then 0 else min max20 (sumOf es / n)

/-- D3000 to D3420. SLC_SB_TOTAL, which R169 calls the SLC-mode superblocks and bounds SLC_SB_FREE by, reads the number that the share allows
(DESIGN CHOICE, log entry 69). -/
def Chip.viewFlash (c : Chip) (x : Xport) (a : Nat) : Option Nat :=
  if a = E.USER_CAPACITY then some c.granulesUsed
  else if a = E.USER_CAPACITY_MAX then some c.capacityMax
  else if a = E.MAP_UNITS then some (c.capacityMax * 65536)
  else if a = E.MAP_SLICES then some c.mapSlices
  else if a = E.SUPERBLOCKS then some c.allSbs
  else if a = E.SLOTS_PER_SB then some (32 * c.md.pagesPerBlock)
  else if a = E.GRANULES_FREE then some (c.capacityMax - c.granulesUsed)
  else if a = E.JRN_FLASH_USED then some c.journalMib
  else if a = E.SLICES_LOADED then some c.ft.loaded.length
  else if a = E.CRU_SIZE_EFFECTIVE then some c.ft.sizeMib
  else if a = E.CRU_SLOTS_FREE then some c.freeSlots
  else if a = E.CRU_DIRTY_UNITS then some c.dirtyUnits
  else if a = E.LIFE_PCT then some c.lifePct
  else if a = E.LIFE_WEAR then some c.lifeWear
  else if a = E.LIFE_SPARE then some c.lifeSpare
  else if a = E.AVAIL_SPARE then some (100 - c.lifeSpare / 10)
  else if a = E.WRITE_AMP then some c.writeAmp
  else if a = E.XTS_KEYS_ACTIVE then some c.ft.nss.length
  else if a = E.SLC_SB_TOTAL then some (min max20 c.slcShare)
  else if a = E.SLC_SB_FREE then some (min max20 c.hostSlcFree)
  else if a = E.SYS_SB_RESERVED then some c.sysReserve
  else if a = E.FOLD_QUEUE then some c.sb.foldQ.length
  else if a = E.FOLD_HELD_UNITS then some c.sb.held.length
  else if a = E.FREE_SB then some (min max20 c.freeSbs)
  else if idxOf a = 0x3420 ∧ E.LUN_SELECT < a then some (c.lunView a (c.sel x E.LUN_SELECT))
  else none

/-! ### Channels, dies, engines, zones -/

/-- The octet of a LUN in NTEMP_MAP (R204): its reading, or, after three intervals without one, its substitute, NTEMP_DEFAULT the last
(R195). -/
def Chip.tempOctet (c : Chip) (lun : Nat) : Nat :=
  match c.dieOf lun with
  | none => 0x80
  | some d => match d.reading with
    | some t => ofInt 8 t
    | none => if 3 ≤ d.tempAge then ofInt 8 (c.tempOf lun) else 0x80

/-- The coolest of some readings. -/
def coolest (l : List Int) : Int :=
  match l with
  | [] => 0
  | a :: r => r.foldl min a

/-- LDPC engines of a range that are ONLINE. -/
def Chip.enginesOn (c : Chip) (first n : Nat) : Nat :=
  ((List.range n).filter fun k => decide (c.reported (mkUnit kLDPC (first + k)) = 1)).length

/-- The record of a channel (R200): untrained, WP# low since its cores halted, it shows no rate and no eye. -/
def Chip.chanView (c : Chip) (a ch : Nat) : Option Nat :=
  match c.md.chans.find? fun k => decide (k.ch = ch) with
  | none => none
  | some k =>
    if a = E.CH_RATE then some (if k.wp then 0 else k.rate)
    else if a = E.CH_TARGETS then some (c.md.tgts.filter fun t => t.fitted && decide (t.tgt / 16 = ch)).length
    else if a = E.CH_TRAIN_FAILS then some k.fails
    else if a = E.CH_EYE_MIN then some (if k.wp then 0 else k.eye)
    else if a = E.CH_TRIMS then
      some (sumOf ((List.range 16).map fun i => match c.md.tgts.find? fun t => t.fitted && decide (t.tgt = 16 * ch + i ∧ c.own (mkUnit kTGT t.tgt) ≠ 0) with
        | some t => at' (t.trims % 2 ^ 176 + at' (ofInt 8 t.trainTemp) 176) (192 * i)
        | none => at' 0xFF (192 * i + 184)))
    else none

/-- Superblocks due for refresh, and those due for 24 h (R231). -/
def Chip.refreshDue (c : Chip) : Nat := (c.sb.sbs.filter fun s => decide (10 ^ 9 ≤ s.stress)).length
def Chip.refreshOverdue (c : Chip) : Nat :=
  (c.sb.sbs.filter fun s => match s.dueT with
    | some t => decide (t + cycPerDay ≤ c.now)
    | none => false).length

/-- D3800 to D3C30. -/
def Chip.viewMedia (c : Chip) (x : Xport) (a : Nat) : Option Nat :=
  if idxOf a = 0x3810 then c.chanView a (c.sel x E.CH_SELECT)
  else if a = E.SUSP_MEASURED_MAX then some (min max20 (cdiv c.um.measSusp 1000))
  else if a = E.EI_PENDING then some c.eiPending
  else if a = E.NTEMP_MAX then some (ofInt 20 ((hottest (c.md.dies.filterMap Die.reading)).getD 0))
  else if a = E.NTEMP_MIN then some (ofInt 20 (coolest (c.md.dies.filterMap Die.reading)))
  else if a = E.NTEMP_MAP then some (ofOctets ((List.range 2048).map c.tempOctet))
  else if a = E.HARD_ONLINE then some (c.enginesOn 0 32)
  else if a = E.SOFT_ONLINE then some (c.enginesOn 32 16)
  else if a = E.ZT_COUNTS then
    some (match c.rd.counts.find? fun z => decide (z.key = c.sel x E.ZT_SELECT) with
      | some z => sumOf ((List.range 8).map fun i => at' (min 65535 (nth z.counts i)) (16 * i))
      | none => 0)
  else if a = E.REFRESH_DUE then some c.refreshDue
  else if a = E.REFRESH_OVERDUE then some c.refreshOverdue
  else none

/-! ### Stripes, the lost-range log, patrol, Recast -/

/-- A run of the log as its 16 octets (R257). -/
def Lost.octets (r : Lost) : Nat :=
  r.first + at' (r.count % 2 ^ 24) 40 + at' r.cause 64 + at' r.nsid 72 + at' r.nsUnit 88

/-- A closed superblock that the Assayer patrols (R247). -/
def Chip.patrolled (c : Chip) (s : Sb) : Bool :=
  s.state == .closed && !c.sb.foldQ.contains s.idx && !c.sb.victims.contains s.idx && !s.exposed

/-- The longest time since patrol or close, in hours (PATROL_OLDEST, R264). -/
def Chip.patrolOldest (c : Chip) : Nat :=
  min max20 (maxOf ((c.sb.sbs.filter c.patrolled).map fun s => (c.now - s.patrolT) / (3600 * cycPerSec)))

/-- D4000 to D4050. -/
def Chip.viewStripes (c : Chip) (x : Xport) (a : Nat) : Option Nat :=
  if a = E.NS_LAYOUT then some (match c.ns (c.sel x E.NS_SELECT) with
    | some n => if n.p2 then 1 else 0
    | none => 0)
  else if a = E.SB_P2 then some (c.sb.sbs.filter Sb.p2).length
  else if a = E.LAYOUT_ELIGIBLE then some c.sb.eligible.length
  else if a = E.LAYOUT_PAIR_MIN then some c.sb.pairMin
  else if a = E.LAYOUT_PAIR_MAX then some c.sb.pairMax
  else if a = E.ACC_FREE then some (c.get E.ACC_SLOTS - c.accUsed fun _ => true)
  else if a = E.LOST_RUNS then some c.lost.length
  else if a = E.LOST_UNITS then some (sumOf (c.lost.map Lost.count))
  else if a = E.LOST_ENTRY then some ((c.lost[c.sel x E.LOST_SELECT]?.map Lost.octets).getD 0)
  else if a = E.PATROL_OVERDUE then some (c.sb.sbs.filter Sb.overdue).length
  else if a = E.PATROL_OLDEST then some c.patrolOldest
  else if a = E.RB_STATE then some (if c.sb.sbs.any Sb.exposed then 1 else 0)
  else if a = E.RB_EXPOSED then some (c.sb.sbs.filter Sb.exposed).length
  else if a = E.RB_OVER_TOLERANCE then
    some (c.sb.sbs.filter fun s => s.exposed && decide (tolerance s.p2 < (c.missing s).length)).length
  else none

/-! ### The store and the Scorebook -/

/-- Occupied Scorebook positions, the stash included. -/
def Chip.bookEntries (c : Chip) : Nat := c.book.cells.length + c.book.stash.length

/-- D4800 to D5010. -/
def Chip.viewStore (c : Chip) (a : Nat) : Option Nat :=
  if a = E.STORE_Q_A then some (min max40 (c.st.qa / 10 ^ 6))
  else if a = E.E_USABLE then some (min max40 c.eUsable)
  else if a = E.E_FULL then some (min max40 c.eFull)
  else if a = E.E_RESERVE then some c.eReserve
  else if a = E.E_OBLIGED then some c.eObliged
  else if a = E.E_MIN then some c.eMin
  else if a = E.STORE_AGING then some (min max20 c.aging)
  else if a = E.PROOF_AGE then some (min max20 ((c.get E.POWER_ON_TIME - c.get E.PROOF_AGE) / 3600))
  else if a = E.FLUSH_COST then some c.flushCost
  else if a = E.FLUSH_RESERVE_SB then some c.flushReserve
  else if a = E.FLUSH_RATE then some c.flushRate
  else if a = E.SB_ENTRIES then some c.bookEntries
  else if a = E.SB_LOAD then some (c.bookEntries * 1000 / c.get E.SB_CAPACITY)
  else if a = E.SB_STASH then some c.book.stash.length
  else if a = E.SB_SLICES_LOADED then some c.book.loaded.length
  else none

/-! ### The pair -/

/-- A bitmap chunk of regions (R362). -/
def regionChunk (l : List Nat) (k : Nat) : Nat :=
  sumOf ((l.filter fun g => decide (g / 32768 = k)).eraseDups.map fun g => 2 ^ (g % 32768))

/-- D5100 to D5830. -/
def Chip.viewPair (c : Chip) (x : Xport) (a : Nat) : Option Nat :=
  if c.noPair a then some (if a = E.PAIR_STATE then 4 else 0)
  else if idxOf a = 0x5100 then
    let it := c.sel x E.PW_SELECT
    let w := c.wins.find? fun w => decide (w.port = it / 256 ∧ w.win = it % 256)
    if a = E.PW_STATE then some ((w.map Win5.state).getD 0)
    else if a = E.PW_OUTSTANDING then some ((w.map Win5.outstanding).getD 0)
    else none
  else if a = E.PAIR_INDEX then some c.pr.strap
  else if a = E.RALLY_LANES then some c.pr.lanes
  else if a = E.MIRROR_SLOTS_HELD then some (c.pr.grant - c.pr.slotsOut)
  else if a = E.MIRROR_INFLIGHT then some (c.pr.xfers.filter fun f => f.origin && !f.done).length
  else if a = E.MARKED_GRANULES then some c.pr.marks.length
  else if a = E.UNCONFIRMED then some c.pr.unconfirmed.length
  else if a = E.DIVERGED_GRANULES then some c.pr.diverged.length
  else if a = E.RESYNC_LEFT then
    some (if c.get E.PAIR_STATE = 2 then min max20 (c.pr.marks.length + c.pr.pendingGr.length) else 0)
  else if a = E.DIRTY_MAP then some (regionChunk c.pr.marks (c.sel x E.MAP_SELECT))
  else if a = E.DIVERGED_MAP then some (regionChunk c.pr.diverged (c.sel x E.MAP_SELECT))
  else none

/-! ### Power, descriptors, the image, events and clamp reports -/

/-- The value as 60-bit two's complement (R393). -/
def desc60 (i : Int) : Nat := ofInt 60 i

/-- An S20 value as DESC_DEFAULT shows it. -/
def Desc.signed (d : Desc) (v : Nat) : Nat := if d.type = .s20 then ofInt 60 (toInt 20 v) else v % 2 ^ 60

def DType.code : DType → Nat
  | .u20 => 0 | .s20 => 1 | .e20 => 2 | .b20 => 3 | .u40 => 4 | .u60 => 5 | .oct => 6

def Access.code : Access → Nat
  | .ro => 0 | .rw => 1 | .wo => 2 | .rwp => 3 | .x => 4

def Scope.code : Scope → Nat
  | .device => 0 | .port => 1 | .fn => 2 | .transport => 3 | .item => 4

/-- One field record of DESC_FIELDS: 12 octets. -/
def Field.octets (f : Field) : Nat := f.hi + at' f.lo 8 + at' f.kind 16 + at' (f.min % 2 ^ 32) 32 + at' (f.max % 2 ^ 32) 64

/-- DESC_ENUM: 64 codes of 32 bits, unused ones all ones. -/
def Desc.enumOctets (d : Desc) : Nat :=
  sumOf ((List.range 64).map fun i => at' ((d.enum[i]?).getD 0xFFFFFFFF) (32 * i))

/-- DESC_NAME: 32 octets of ASCII, zero-padded. -/
def Desc.nameOctets (d : Desc) : Nat := ofOctets ((d.name.toList.take 32).map Char.toNat)

/-- The defined entry after an address, in index.sub order; none past the last one. -/
def nextEntry (a : Nat) : Nat :=
  match (allRows.find? fun d => decide (a < d.last)) with
  | some d => if d.addr ≤ a then a + 1 else d.addr
  | none => max40

/-- Defined entries. -/
def entryCount : Nat := sumOf (allRows.map fun d => d.last + 1 - d.addr)

/-- D6800 for the selected entry (R393). -/
def Chip.viewDesc (c : Chip) (x : Xport) (a : Nat) : Option Nat :=
  let sel := c.sel x E.DESC_SELECT
  let d := descOf sel
  if a = E.DESC_TYPE then some ((d.map fun d => d.type.code).getD 7)
  else if a = E.DESC_ACCESS then some ((d.map fun d => d.access.code).getD 0)
  else if a = E.DESC_PERSIST then some ((d.map Desc.persist).getD 0)
  else if a = E.DESC_SCOPE then some ((d.map fun d => d.scope.code).getD 0)
  else if a = E.DESC_DEFAULT then some ((d.map fun d => d.signed d.dflt).getD 0)
  else if a = E.DESC_DEFAULT_VF then some ((d.map fun d => d.signed d.dfltVf).getD 0)
  else if a = E.DESC_MIN then some ((d.map fun d => desc60 d.min).getD 0)
  else if a = E.DESC_MAX then some ((d.map fun d => desc60 d.max).getD 0)
  else if a = E.DESC_FIELDS then
    some ((d.map fun d => sumOf ((List.range d.fields.length).map fun i => at' (((d.fields[i]?).map Field.octets).getD 0) (96 * i))).getD 0)
  else if a = E.DESC_ENUM then some ((d.map Desc.enumOctets).getD 0)
  else if a = E.DESC_NAME then some ((d.map Desc.nameOctets).getD 0)
  else if a = E.DESC_NEXT then some (nextEntry sel)
  else if a = E.DICT_ENTRIES then some entryCount
  else none

/-- A clamp report as its 40 octets (R372). -/
def ClampRec.octets (r : ClampRec) : Nat :=
  r.addr / 256 + at' (r.addr % 256) 16 + at' r.transport 24 + at' r.kind 32 + at' r.fn 40 + at' (r.written % 2 ^ 64) 64
    + at' (r.stored % 2 ^ 64) 128 + at' (r.time % 2 ^ 60) 192 + at' r.num 256

/-- The parameters of a record in octets 20 to 31: four octets each up to three of them, two each up
to six, one each otherwise (log entry 16). -/
def EvRec.paramOctets (r : EvRec) : Nat :=
  let n := r.params.length
  let w := if n ≤ 3 then 32 else if n ≤ 6 then 16 else 8
  sumOf (((r.params.take 12).zip (List.range 12)).map fun p => at' (p.1 % 2 ^ w) (w * p.2))

/-- An event record as its 32 octets (R462). -/
def EvRec.octets (r : EvRec) : Nat :=
  r.time % 2 ^ 60 + at' r.src 64 + at' r.sev 80 + at' r.ev 88 + at' r.unit 96 + at' r.num 128 + at' (r.paramOctets % 2 ^ 96) 160

/-- The records of the excerpt, oldest first (R465). -/
def Ev.kept (e : Ev) : List EvRec := e.pages.flatten ++ e.page

def evByNum (l : List EvRec) (n : Nat) : Nat :=
  match l.find? fun r => decide (r.num = n) with
  | some r => r.octets
  | none => 0

/-- The state of the persistent image (R394). -/
def Chip.imageState (c : Chip) : Nat := if c.dict.writing then 2 else if c.dict.dirtySince.isSome then 1 else 0

/-- The function field of a record or a report (R372): the function, or the port, of an entry that is kept for each. -/
def Desc.fnField (d : Desc) (item : Nat) : Nat := if d.scope = .fn then item else if d.scope = .port then at' item 9 else 0xFFFF

/-- A stored value as the value field of R378 shows it. -/
def Desc.field64 (d : Desc) (v : Nat) : Nat := if d.type = .s20 then ofInt 64 (toInt 20 v) else v

/-- The octets of a record of the image (R375). -/
def recOfImage (r : ImgRec) : List Nat :=
  match descOf r.addr with
  | none => []
  | some d =>
    let n := if d.type = .oct then d.octets else 8
    octetsOf 8 (r.addr / 256 + at' (r.addr % 256) 16 + at' d.type.code 24 + at' (d.fnField r.item) 32 + at' n 48)
      ++ octetsOf (8 * cdiv n 8) (d.field64 r.value % 2 ^ (8 * n))

/-- The octets of an image but for its CRC (R375). -/
def ImgSlot.body (s : ImgSlot) : List Nat :=
  let recs := s.recs.flatMap recOfImage
  octetsOf 32 ((if s.valid then 0x44494301 else 0) + at' s.seq 32 + at' s.recs.length 64 + at' (36 + recs.length) 96 + at' s.variant 128
    + at' 1 136 + at' (s.fw % 2 ^ 64) 192) ++ recs

/-- The octets of an image. -/
def ImgSlot.octets (s : ImgSlot) : List Nat := s.body ++ octetsOf 4 s.crc

/-- The image with its CRC over what comes before it. -/
def ImgSlot.sealed (s : ImgSlot) : ImgSlot := { s with crc := crc32c 0xFFFFFFFF s.body }

/-- A slot is valid (R376): its signature and its CRC pass. -/
def ImgSlot.ok (s : ImgSlot) : Bool := s.valid && s.crc == crc32c 0xFFFFFFFF s.body

/-- The newer valid slot (R376). -/
def Dict.newer (d : Dict) : Option ImgSlot :=
  let v := fun (s : Option ImgSlot) => s.filter ImgSlot.ok
  match v d.slotA, v d.slotB with
  | some a, some b => if serialLt 32 a.seq b.seq then some b else some a
  | some a, none => some a
  | none, o => o

/-- A firmware slot's version, 8 octets each (D7C00.03). -/
def Chip.slotVersions (c : Chip) : Nat :=
  sumOf ((c.fw.slots.zip (List.range 3)).map fun p => at' (if p.1.present then p.1.version % 2 ^ 64 else 0) (64 * p.2))

/-- The security version of the running image; none runs in ROM recovery (D7D10.01). -/
def Chip.runningSvn (c : Chip) : Nat :=
  let k := c.get E.FW_RUNNING_SLOT
  if k = 0 then 0 else (c.fw.slots[k - 1]?.map Image.svn).getD 0

/-- ROOT_KEYS (D7D10.05). -/
def Chip.rootKeys (c : Chip) : Nat :=
  sumOf ((List.range 4).map fun k => (if nth c.fuse.keyDigests k ≠ 0 then 2 ^ k else 0)
    + (if c.fuse.keyRevoked.getD k false then 2 ^ (k + 4) else 0))

/-- D6000 to D7F00. -/
def Chip.viewRest (c : Chip) (x : Xport) (a : Nat) : Option Nat :=
  if idxOf a = 0x6800 then c.viewDesc x a
  else if a = E.CLK_SOURCE then some c.pm.clock
  else if a = E.IMAGE_STATE then some c.imageState
  else if a = E.IMAGE_SEQ then some ((c.dict.newer.map ImgSlot.seq).getD 0)
  else if a = E.IMAGE_RECORDS then some ((c.dict.newer.map fun s => s.recs.length).getD 0)
  else if a = E.MGMT_MAC then some c.fuse.mac
  else if a = E.FLIAD_KEY_STATE then some (if c.mg.key.isSome then 1 else 0)
  else if a = E.FLIAD_SESSIONS then some c.mg.sessions.length
  else if a = E.FABRIC_NOW then some c.stamp
  else if a = E.EVT_RECORD then some (evByNum c.ev.ring (c.sel x E.EVT_SELECT))
  else if a = E.EXCERPT_RECORD then some (evByNum c.ev.kept (c.sel x E.EXCERPT_SELECT))
  else if a = E.EXCERPT_OLDEST then some ((c.ev.kept.head?.map EvRec.num).getD 0)
  else if a = E.EXCERPT_NEWEST then some ((c.ev.kept.getLast?.map EvRec.num).getD 0)
  else if a = E.FW_SLOT_VERSIONS then some c.slotVersions
  else if a = E.FW_DOWNLOADED then some c.fw.downOct
  else if a = E.START_STEP then some (if c.isReady then 9 else min 8 (c.boot.step + 1))
  else if a = E.START_CAUSE then some c.boot.cause
  else if a = E.START_TIMES then some (sumOf ((c.fw.startTimes.zip (List.range 8)).map fun p => at' (p.1 % 2 ^ 32) (32 * p.2)))
  else if a = E.WARMUP_ACTIVE then some (if c.isReady && !c.allLoaded then 1 else 0)
  else if a = E.SHN_STATE then some c.fw.shn
  else if a = E.DEV_PUBKEY then some c.fuse.pubkey
  else if a = E.SVN_RUNNING then some c.runningSvn
  else if a = E.SVN_FLOOR then some c.fuse.svnFloor
  else if a = E.ROOT_KEYS then some c.rootKeys
  else if a = E.CLAMP_RECORD then
    some ((c.dict.clamps.find? fun r => decide (r.num = c.sel x E.CLAMP_SELECT)).map ClampRec.octets |>.getD 0)
  else none

/-- The value an entry reads as, through a transport (R28). -/
def Chip.readEntry (c : Chip) (x : Xport) (a : Nat) : Nat :=
  let v := if a < 0x200000 then c.viewUnits x a
    else if a < 0x300000 then c.viewQueues x a
    else if a < 0x380000 then c.viewFlash x a
    else if a < 0x400000 then c.viewMedia x a
    else if a < 0x480000 then c.viewStripes x a
    else if a < 0x510000 then c.viewStore a
    else if a < 0x600000 then c.viewPair x a
    else c.viewRest x a
  v.getD (c.getAt a (c.itemOf x a))

end Sys2Proof.Machine
end

