-- ==== Sys2Proof/Machine/Run.lean ====
section
/-! DEFINITION. The frame of every command: the time at which it takes place, its effect, and the
generation tags of the dictionary entries it changed. -/
namespace Sys2Proof.Machine

/-- The transports whose selects an item-scoped entry is read through. -/
def allXports : List Xport := [.nvme, .bar4 0, .mctp, .fliad, .bar4 1, .internal]

/-- The tag after another one: 12 bits, never 0 (R382). -/
def nextTag (t : Nat) : Nat := if t = 0xFFF then 1 else t + 1

/-- The tag of an entry as a transport sees it. -/
def Chip.tagOf (c : Chip) (item a : Nat) : Nat := c.dict.tags.get 1 (a, item)

/-- The addresses of a row. -/
def Desc.subs (d : Desc) : List Nat := (List.range (d.last + 1 - d.addr)).map (d.addr + ·)

/-- The items under which a row has a tag: one for the device, one for each transport else. -/
def Desc.views (d : Desc) : List (Nat × Xport) :=
  if d.scope = .device then [(0, .nvme)] else allXports.map fun x => (Xport.item x, x)

/-- The tag of an entry advances when a command changed what it reads as. -/
def Chip.retag (before c : Chip) (d : Desc) : Chip :=
  c.each (d.subs.flatMap fun a => d.views.map fun v => (a, v)) fun c p =>
    if before.readEntry p.2.2 p.1 = c.readEntry p.2.2 p.1 then c
    else
      let t := c.dict.tags.put 1 (p.1, p.2.1) (nextTag (c.tagOf p.2.1 p.1))
      { c with dict := { c.dict with tags := t } }

/-- One-time fuses: one that is blown stays blown, and no command changes the others (R5, R442, R457). -/
def Fuse.blown (before after : Fuse) : Fuse :=
  let revoked := (before.keyRevoked.zip (List.range before.keyRevoked.length)).map fun p => p.1 || after.keyRevoked.getD p.2 false
  { before with svnFloor := max before.svnFloor after.svnFloor, keyRevoked := revoked }

/-- A fused-off unit stays as it is: no write, command or reset changes it (R2). -/
def Un.hold (variant : Nat) (before after : Un) : Un :=
  let off := fun (l : List UnitRec) => l.filter fun r => fusedOff variant r.unit
  if off after.units = off before.units then after
  else { after with units := off before.units ++ after.units.filter fun r => !fusedOff variant r.unit }

/-- What a command leaves as it is: the moment of fabric time, fuses that are blown, and units that are fused off. -/
def Chip.keep (before c : Chip) : Chip :=
  { c with now := before.now, fuse := before.fuse.blown c.fuse, un := Un.hold before.fuse.variant before.un c.un }

/-- The generation tags that follow from a command's effect. -/
def Chip.newTags (before c : Chip) : Store :=
  let c1 := { c with dict := { c.dict with tags := before.dict.tags } }
  (c1.each allRows (Chip.retag before)).dict.tags

/-- A chip with other tags. -/
def Chip.withTags (c : Chip) (tags : Store) : Chip := { c with dict := { c.dict with tags := tags } }

/-- The end of a command: time and fuses are kept, and the tags follow. -/
def Chip.seal (before c : Chip) : Chip := (before.keep c).withTags (before.newTags c)

/-! ### Telemetry (R466) -/

/-- A Dictionary Get record of an entry as 16 octets, with the octets of an OCT entry behind it (R378). -/
def Chip.recOctets (c : Chip) (d : Desc) (a : Nat) : List Nat :=
  let v := c.readEntry .nvme a
  let head := a / 256 + at' (a % 256) 16 + at' d.type.code 24 + at' d.access.code 32 + at' (c.tagOf (if d.scope = .device then 0 else Xport.item .nvme) a) 48
  if d.type = .oct then octetsOf 16 (head + at' d.octets 64) ++ octetsOf (16 * cdiv d.octets 16) v
  else octetsOf 16 (head + at' (v % 2 ^ 64) 64)

/-- Commands admitted and not completed (SNAP_ADMITTED, R31): one refused, or failed at fetch, was never admitted. -/
def Chip.admittedOpen (c : Chip) : Nat := (c.cmds.filter fun y => y.taken && !y.admin && !y.posted).length

/-- The snapshot set of R31 at this moment: D1F00.03 to .0A, 8 octets each (log entry 14). -/
def Chip.snapOctets (c : Chip) : List Nat :=
  [c.stamp, c.serviceLevel, c.reported (mkUnit kCTL 0), c.get E.FLOOR_FAULTS, (c.fns.filter Fn.en).length, c.pairsHeld, c.admittedOpen,
    c.dirtyUnits * 16384].flatMap (octetsOf 8)

/-- Data Area 1: the snapshot set, the octets of D1020 and the records of 0x7000 to 0x73FF. -/
def Chip.area1 (c : Chip) : List Nat :=
  let of := fun (lo hi : Nat) => allRows.filter fun d => decide (lo ≤ idxOf d.addr ∧ idxOf d.addr ≤ hi)
  c.snapOctets
    ++ (of 0x1020 0x1020).flatMap (fun (d : Desc) => d.subs.flatMap fun a => octetsOf d.octets (c.readEntry .nvme a))
    ++ (of 0x7000 0x73FF).flatMap fun (d : Desc) => d.subs.flatMap fun a => c.recOctets d a

def Chip.capture (c : Chip) : Telem :=
  { area1 := c.area1, ring := c.ev.ring, kept := c.ev.kept }

/-- Free superblocks per mille of all superblocks (R151). -/
def Chip.freeRatio (c : Chip) : Nat := if c.allSbs = 0 then 1000 else c.freeSbs * 1000 / c.allSbs

/-- What a command's effect makes known beside it: each unit whose state has changed raises its event (R22), a controller-initiated telemetry capture raises an
Asynchronous Event (R466), a change of the ANA state another (R355), and the free-superblock ratio has gone below
GC_URGENT or back (R165). -/
def Chip.notices (before c : Chip) : Chip :=
  let c := before.unitNotices c
  let c0 := if before.get E.TELEM_CTRL_GEN = c.get E.TELEM_CTRL_GEN then c
    else
      let cap := some c.capture
      ({ c with lg := { c.lg with telemCtrl := cap } }).raiseAeAll 2 2 8
  let c1 := if before.anaState = c0.anaState then c0 else c0.raiseAeAll 2 3 0x0C
  let low := fun (c : Chip) => decide (c.freeRatio < c.get E.GC_URGENT)
  if c.isReady && before.isReady && low before != low c1 then c1.event 0x304 0 1 noUnit [if low c1 then 1 else 0, c1.freeRatio] else c1

/-- A command at time t with its effect. -/
def run (s : State) (t : Nat) (f : Chip → Chip) : Host.Outcome State Fault Refusal :=
  let c0 := s.chip.atTime t
  .next { s with chip := c0.seal (c0.notices (f c0)) }

/-- A command whose effect can change units: what follows from the change belongs to the step. -/
def runUnits (s : State) (t : Nat) (f : Chip → Chip) : Host.Outcome State Fault Refusal :=
  run s t fun c => c.settle (f c)

end Sys2Proof.Machine
end

