-- ==== Sys2Proof/Machine/PowerOps.lean ====
section
/-! DEFINITION. Power states: requests, refusers, entry and exit, the throttle step, the supply hold and
PMBus requests (R56, R398 to R411, R423). -/
namespace Sys2Proof.Machine

/-- Namespace commands and a Sanitize are turned away in a pair that is not SYNCED (R347). -/
def Chip.pairBlocks (c : Chip) : Bool := decide (c.boot.pairMode = 1) && decide (c.get E.PAIR_STATE ≠ 0)

/-- The controller gives service and is in an operational state. -/
def Chip.awake (c : Chip) : Bool := c.isReady && decide (c.get E.PS_CURRENT < 3)

/-! ### The supply hold (R56) -/

/-- The latest due time among class 0 to 2 commands admitted and not ended, in fabric cycles. -/
def Chip.latestDue (c : Chip) : Nat :=
  maxOf ((c.cmds.filter fun x => decide (x.cls < 3) && decide (x.phase = .admitted ∨ x.phase = .working ∨ x.phase = .committed)).map
    fun x => cdiv (x.fetchT * psPerCyc + x.promisePs + x.extraPs) psPerCyc)

/-- A fall of the effective supply starts a hold, or moves it forward, and is reported (R56, R61); a rise within the
inning does not undo it. -/
def Chip.holdSupply (before c : Chip) : Chip :=
  if c.supply < before.supply then
    let old := c.get E.SUPPLY_HOLD_UNTIL
    let until' := max old c.latestDue
    let c1 := ({ c with um := { c.um with supplyPrev := min c.um.supplyPrev c.supplyNow } }).set E.SUPPLY_HOLD_UNTIL until'
    if until' = 0 then c1 else c1.event 0x201 (if old = 0 then 0 else 1) 1 noUnit [c.supply, until']
  else c

/-! ### Refusers (R401) -/

/-- A command fetched and not completed. Asynchronous Event Requests that are held do not count (DEDUCED,
log entry 29). -/
def Chip.hostBusy (c : Chip) : Bool :=
  (c.qs.sqs.any fun q => decide (q.head ≠ q.tail)) || c.cmds.any fun x => !x.posted && !(x.admin && decide (x.opcode = 0x0C ∧ x.phase = .working))

/-- A number made of octets of a little-endian one. -/
def octField (v lo len : Nat) : Nat := v / 256 ^ lo % 256 ^ len

/-- The download holds the whole image that its header announces (R440, R444). -/
def Fw.complete (f : Fw) : Bool := decide (f.downOct ≠ 0 ∧ 512 + octField f.down 8 4 ≤ f.downOct)

/-- Each refuser holds. The check of an Assayer row is one step, so that refuser 2 never stands between steps. -/
def Chip.refuser (c : Chip) (k : Nat) : Bool :=
  if k = 0 then c.hostBusy
  else if k = 1 then decide (c.sb.foldQ ≠ []) && c.um.budgets.any fun b => decide (nth b.used 6 < nth b.alloc 6)
  else if k = 2 then false
  else if k = 3 then (c.sb.sbs.any Sb.exposed) || c.pr.copying.isSome
  else if k = 4 then (c.st.present && !c.st.atFull && decide (c.get E.BOOKS_SHORT = 1)) || c.st.proof || decide (c.st.tapCheck ≠ 0)
  else if k = 5 then decide (c.pr.window ≠ []) || decide (c.get E.PAIR_STATE = 2)
  else if k = 6 then (c.mg.sessions.any fun s => decide (s.stageEnd ≠ 0)) || c.dict.writing
  else if k = 7 then decide (c.get E.THERM_STATE = 2) || decide (c.get E.THROTTLE_STEP ≠ 0)
  else if k = 8 then (c.ft.streams.any fun s => decide (s.full ≠ [])) || decide (c.book.full ≠ [])
  else (decide (c.fw.downOct ≠ 0) && !c.fw.complete) || c.fw.fwaH.isSome

/-- The lowest-numbered refuser that holds (DEDUCED, log entry 29). -/
def Chip.firstRefuser (c : Chip) : Option Nat := (List.range 10).find? c.refuser

/-- A refusal or an abort counts under its refuser and is reported (R401). -/
def Chip.refuseEntry (c : Chip) (k : Nat) : Chip :=
  ((c.countOct E.PS_REFUSALS 0 k).set E.PS_LAST_REFUSER k).event 0x501 0 1 noUnit [k]

/-- The refuser that stands for an activity class (R402). -/
def classRefuser (k : Nat) : Nat := nth [0, 8, 0, 3, 1, 1, 1, 2, 2] k

/-- The refuser under which a wake source counts (R401). -/
def wakeRefuser (w : Nat) : Option Nat :=
  if w = 0 then some 0 else if w = 2 ∨ w = 3 then some 6 else if w = 4 then some 5 else if w = 5 then some 4 else none

/-! ### A port at rest (R121, R122) -/

/-- Nothing keeps a port from L1 (R121): no doorbell with unfetched entries, no admitted command, no outstanding non-posted
request (a drain of R116, or the read behind a peer doorbell), no Passer work. -/
def Chip.portIdle (c : Chip) (port : Nat) : Bool :=
  !(c.qs.sqs.any fun q => decide (q.port = port ∧ q.head ≠ q.tail))
    && !(c.cmds.any fun x => decide (x.port = port) && !x.admin && !x.posted && decide (x.phase ≠ .fetched ∧ x.phase ≠ .waiting))
    && !(c.wins.any fun w => decide (w.port = port) && decide (w.users ≠ [] ∨ w.reading ≠ []))
    && !(c.fns.any fun f => decide (f.port = port ∧ f.flr = 1))

/-- The conditions of L1 have held on a port for ASPM_L1_IDLE. -/
def Chip.portRested (c : Chip) (port : Nat) : Bool :=
  c.portIdle port && decide ((c.portOf port).idleSince + c.get E.ASPM_L1_IDLE * cycPerUs ≤ c.now)

/-- A function of a port has a doorbell with unfetched entries or an admitted command (R122). -/
def Chip.portActive (c : Chip) (port : Nat) : Bool :=
  (c.qs.sqs.any fun q => decide (q.port = port ∧ q.head ≠ q.tail))
    || (c.cmds.any fun x => decide (x.port = port) && !x.admin && !x.posted && decide (x.phase ≠ .fetched ∧ x.phase ≠ .waiting))

/-- LTR_IDLE is sent once the conditions of L1 have held for ASPM_L1_IDLE, leaving L1 for it where it has to, and LTR_ACTIVE, as it then
stands, while there is work (R121, R122; found at an inning boundary, log entry 39). -/
def Chip.ltrIdle (c : Chip) (port : Nat) : Chip :=
  let rested := c.portRested port
  let v := if rested then c.get E.LTR_IDLE else c.get E.LTR_ACTIVE
  if c.portUsed port ∧ 2 ≤ (c.portOf port).link ∧ (c.portOf port).link ≤ 6 ∧ (rested ∨ c.portActive port) ∧ (c.portOf port).ltr ≠ v then
    let c1 := c.leaveL1 port
    (c1.setPort { c1.portOf port with ltr := v, idleSince := (c.portOf port).idleSince }).emit (.signal 2 port v)
  else c

/-! ### Exit and requests (R400, R403) -/

/-- The gauge wakes from hibernation with any wake source; its count is limited at the next scan (R275). -/
def Chip.wakeStore (c : Chip) : Chip :=
  if !c.st.hibernate then c
  else
    let st := { c.st with hibernate := false, waking := true, prevOcv := none, lowCur := 0 }
    (({ c with st := st }).set E.GAUGE_STATE (if c.st.estimate then 1 else 2)).event 0x389 0 1 noUnit []

/-- One ZQ short calibration per channel, of its first target (R403). -/
def Chip.calibrateAll (c : Chip) : Chip :=
  let first := fun (x : Tgt) => x.fitted && !(c.md.tgts.any fun y => y.fitted && decide (y.tgt / 16 = x.tgt / 16 ∧ y.tgt < x.tgt))
  { c with md := { c.md with tgts := change first (fun x => { x with zqT := c.now }) c.md.tgts } }

/-- A non-operational state is left for the last operational one (R403). The code of no source is 7. -/
def Chip.leavePs (c : Chip) (source : Nat) : Chip :=
  if c.get E.PS_CURRENT < 3 then c
  else
    let op := c.get E.PS_LAST_OP
    let locks := if c.pm.clock = 3 then c.count E.PLL_LOCKS 1 else c
    let pm := { c.pm with refill := true, clock := 1, idleT := c.now, wanted := none, requestIdle := false }
    let c1 := ((({ locks with pm := pm, boot := { locks.boot with fetchHeld := false } }).set E.PS_CURRENT op).set E.PS_REQUESTED op).event
      0x500 0 1 noUnit [op, source]
    ((c1.md.dies.map Die.lun).foldl Chip.kickDie c1.calibrateAll).wakeStore

/-- A wake source is recorded and counted, and one that is set in WAKE_PME sets PME_Status on the
physical function of each port (R123, R404): signalled in band with main power present, by WAKE# with the always-on domain
alone. -/
def Chip.noteWake (c : Chip) (w : Nat) : Chip :=
  let c1 := (c.wakeStore.set E.WAKE_LAST w).countOct E.WAKE_COUNTS 0 w
  if bit (c.get E.WAKE_PME) w = 1 then
    c1.each [0, 1] fun c p =>
      let f := c.portOf p
      if c.own (mkUnit kPORT p) = 0 then c
      else if c.boot.run = .standby then c.setPort { f with pmeStatus := true, wake := f.wake || f.pmeEn }
      else if f.perst then c
      else
        let c' := c.setPort { f with pmeStatus := true }
        if f.pmeEn then c'.emit (.signal 1 p 1) else c'
  else c1

/-- A power state is requested (R400): an operational one takes force at the next inning boundary, and
ends a non-operational one at once; a non-operational one waits for the sequencer, which tries at
once and at each inning boundary. In mode 0 firmware writes the target to PM_TARGET for it. -/
def Chip.requestPs (c : Chip) (target : Nat) (idle : Bool) : Chip :=
  let c0 := if target < 3 then c.leavePs 7 else c
  let pm := { c0.pm with wanted := some target, requestIdle := idle }
  let c1 := ({ c0 with pm := pm }).set E.PS_REQUESTED target
  if c.get E.PM_MODE = 0 then c1.set E.PM_TARGET target else c1

/-- At an inning boundary an operational request takes force (R398). -/
def Chip.takeOperational (c : Chip) : Chip :=
  match c.pm.wanted with
  | some p =>
    if p < 3 then
      let c1 := ({ c with pm := { c.pm with wanted := none } }).set E.PS_LAST_OP p
      if c.get E.PS_CURRENT < 3 then c1.set E.PS_CURRENT p else c1
    else c
  | none => c

/-- A submission queue doorbell restarts the idle timers, with which an idle-timer request lapses, and
ends a non-operational state (R400, R401, R403). -/
def Chip.doorbellWakes (c : Chip) : Chip :=
  let lapse := c.pm.requestIdle
  let pm := { c.pm with idleT := c.now, wanted := if lapse then none else c.pm.wanted, requestIdle := false }
  let c1 := { c with pm := pm }
  let c2 := if lapse then c1.set E.PS_REQUESTED (c.get E.PS_CURRENT) else c1
  c2.leavePs 0

/-! ### The throttle step (R423) -/

/-- The factor of a step. -/
def Chip.stepFactor (c : Chip) (n : Nat) : Nat :=
  if n = 0 then 1000 else bits (c.get E.THROTTLE_FACTORS) (16 * n - 1) (16 * n - 16)

/-- The step changes, with its factor, its event and, on a fall of the supply, a hold. -/
def Chip.setStep (c : Chip) (n : Nat) : Chip :=
  if n = c.get E.THROTTLE_STEP then c
  else
    let c1 := ((c.set E.THROTTLE_STEP n).set E.THROTTLE_FACTOR (c.stepFactor n)).event 0x503 0 1 noUnit [n, c.stepFactor n]
    c.holdSupply { c1 with th := { c1.th with stepT := c1.now } }

/-! ### PMBus (R409) -/

/-- The codes of VOUT_COMMAND and CLEAR_FAULTS, PMBus's own (PRESUMED, log entry 14). -/
abbrev pmbVout : Nat := 0x21
abbrev pmbClear : Nat := 0x03

/-- A write to the regulator that PMB_ADDR selects. -/
def Chip.pmbWrite (c : Chip) (code v : Nat) : Chip := c.emit (.pmbus (c.get E.PMB_ADDR) code v)

/-- A voltage request on VDD_CORE (R409): written once for each attempt up to its first successful one among four, whose result, or
that of the last, it has. One that fails writes the previous value once more and leaves the rail there. The answer says whether it
held. -/
def Chip.pmbus (c : Chip) (mv : Nat) (attempts : List Nat) : Chip × Bool :=
  let tried := attempts.take 4
  let fails := (tried.takeWhile fun r => decide (r ≠ 0)).length
  let ok := decide (fails < tried.length)
  let sent := c.each (tried.take (fails + 1)) fun c _ => c.pmbWrite pmbVout mv
  let c1 := (sent.count E.PMB_RETRIES (if ok then fails else fails - 1))
  if ok then ((c1.set E.VCORE_TARGET mv).set E.PMB_LAST_RESULT 0, true)
  else
    let r := tried.getLast?.getD 1
    ((((c1.pmbWrite pmbVout (c.get E.VCORE_TARGET)).count E.PMB_FAILS 1).set E.PMB_LAST_RESULT (min 4 r)).event 0x508 0 4 noUnit [0, r], false)

end Sys2Proof.Machine
end

