-- ==== Sys2Proof/Machine/Queues.lean ====
section
/-! DEFINITION. Doorbells, fetch and the creation and deletion of I/O queues (R34, R35, R68 to R76, R81,
R83, R91, R92, R314, R350). -/
namespace Sys2Proof.Machine

/-! ### Doorbells (R74) -/

/-- An invalid doorbell write raises an event, and, while CSTS.RDY is 1, an Asynchronous Event of type
Error (R74, R125). -/
def Chip.badDoorbell (c : Chip) (port fn qid info : Nat) : Chip :=
  let c1 := c.eventFirst 0x288 0 1 noUnit [fnItem port fn, qid]
  if (c.fnOf port fn).rdy then c1.raiseAe port fn 0 info 1 else c1

/-- Work for a port: its idle time starts anew, and LTR_ACTIVE is sent where it is not in force (R121, R122). -/
def Chip.portWorks (c : Chip) (port : Nat) : Chip :=
  let p := c.portOf port
  let v := c.get E.LTR_ACTIVE
  let c1 := c.setPort { p with idleSince := c.now, ltr := v }
  if p.ltr = v then c1 else c1.emit (.signal 2 port v)

/-- A submission tail: a value below the queue size is taken, backwards as a wrap; it wakes the
controller (R403). -/
def Chip.ringSq (c : Chip) (q : Sq) (value : Nat) : Chip :=
  if q.size ≤ value then c.badDoorbell q.port q.fn q.qid 1
  else ((c.useContext q.port q.fn q.qid).setSq { q with tail := value }).doorbellWakes.portWorks q.port

/-- A completion head: a value below the queue size that does not pass the tail is taken. -/
def Chip.ringCq (c : Chip) (q : Cq) (value : Nat) : Chip :=
  let used := (q.tail + q.size - q.head) % q.size
  let moved := (value + q.size - q.head) % q.size
  if q.size ≤ value ∨ used < moved then c.badDoorbell q.port q.fn q.qid 1
  else ((c.useContext q.port q.fn q.qid).setCq { q with head := value, eventIdx := value }).unstall q.port q.fn q.qid

/-- A doorbell write (R70, R74): a complete, aligned 32-bit write to the doorbell of a queue that
exists. With shadow doorbells configured the value is the shadow's. The space that a System Page Size adds to the BAR0 of a VF ignores
writes (R108). -/
def Chip.doorbell (c : Chip) (port fn off size value : Nat) (shadow : Option Nat) : Chip :=
  let f := c.fnOf port fn
  let v := if f.shadow then shadow.getD value else value
  let idx := (off - 0x1000) / 4
  let bad := if c.region port fn 0 off = .zero then c else c.badDoorbell port fn (idx / 2) 0
  if !f.rdy ∨ off < 0x1000 ∨ off % 4 ≠ 0 ∨ size ≠ 4 then bad
  else if idx % 2 = 0 then
    match c.sqOf port fn (idx / 2) with
    | some q => if q.deleting then bad else c.ringSq q v
    | none => bad
  else match c.cqOf port fn (idx / 2) with
    | some q => c.ringCq q v
    | none => bad

/-- Doorbells are written from the moment that the endpoint is up: one that comes while a start still runs finds CSTS.RDY 0 (R74). -/

def execDoorbellWrite (t port fn off size value : Nat) (shadow : Option Nat) (s : State) : Host.Outcome State Fault Refusal :=
  run s t fun c => c.when (c.serves || c.endpointUp) fun c =>
    if c.inD3 port fn then c.unsupported port fn else c.doorbell port fn off size value shadow

/-! ### The class of a command (R34, R35) -/

/-- The class floor of a function. -/
def Chip.floorOf (c : Chip) (port fn : Nat) : Nat := c.getAt E.FN_CLASS_FLOOR (fnItem port fn)

/-- The class of a queue from its binding, its function's map or the device map, before the floor:
priority 0 urgent to 3 low. -/
def Chip.unraised (c : Chip) (port fn qid prio : Nat) : Nat :=
  let b := c.getAt E.QB_CLASS (qWord port fn qid)
  let m := c.getAt E.FN_CLASS_MAP (fnItem port fn)
  let map := if bit m 8 = 1 then c.get E.CLASS_FOR_PRIORITY else m
  if b < 4 then b else bits map (2 * (3 - prio % 4) + 1) (2 * (3 - prio % 4))

/-- The class of a queue, raised to the floor of its function. -/
def Chip.classFor (c : Chip) (port fn qid prio : Nat) : Nat := max (c.unraised port fn qid prio) (c.floorOf port fn)

/-- The class that a Segment Read gives itself (R34). -/
def ownClass (q : Sq) (sqe : List Nat) : Option Nat :=
  if q.qid ≠ 0 ∧ nth sqe 0 % 256 = 0x82 ∧ bit (nth sqe 11) 10 = 1 then some (bits (nth sqe 11) 12 11) else none

/-- The class of a fetched command: its queue's, or, for a Segment Read, the class that it gives, raised to the floor with
which the queue was created (R35, R67). -/
def cmdClass (q : Sq) (sqe : List Nat) : Nat :=
  match ownClass q sqe with
  | some k => max k q.floor
  | none => q.cls

/-- A Segment Read's own class lies below the floor and is raised to it (R35, R61). -/
def classRaised (q : Sq) (sqe : List Nat) : Bool :=
  match ownClass q sqe with
  | some k => decide (k < q.floor)
  | none => false

/-! ### Checks at fetch (R9, R24, R80 to R83, R92, R161, R314, R350) -/

/-- The admin opcodes served (R9, R80). -/
def adminOpcodes : List Nat :=
  [0x00, 0x01, 0x02, 0x04, 0x05, 0x06, 0x08, 0x09, 0x0A, 0x0C, 0x0D, 0x10, 0x11, 0x14, 0x15, 0x7C, 0x80, 0x84, 0xC5, 0xC6, 0xC9]

/-- The admin commands that a virtual function does not have (R104). -/
def pfOpcodes : List Nat := [0x0D, 0x15, 0x10, 0x11, 0x80, 0x84, 0xC5, 0xC6]

/-- The admin commands that ROM recovery answers (R441): Identify of the controller, the Firmware Slot log,
download, commit with actions 000b to 010b, Dictionary Get of D1000 and D7C00. -/
def Cmd.recoveryServes (x : Cmd) : Bool :=
  (x.opcode == 0x06 && x.dw 10 % 256 == 1) || (x.opcode == 0x02 && x.dw 10 % 256 == 3) || x.opcode == 0x11
    || (x.opcode == 0x10 && decide (bits (x.dw 10) 5 3 ≤ 2))
    || (x.opcode == 0xC6 && (bits (x.dw 10) 31 16 == 0x1000 || bits (x.dw 10) 31 16 == 0x7C00))

/-- A check at fetch of an admin command: its status, or none to go on. Pair Control exists on the
physical functions of an S9632-DP (R358). In the Sanitize failure state Format NVM and the namespace commands do not run (R163). -/
def Chip.adminCheck (c : Chip) (x : Cmd) : Option Nat :=
  if !adminOpcodes.contains x.opcode then some stInvalidOpcode
  else if x.fn ≠ 0 ∧ pfOpcodes.contains x.opcode then some stInvalidOpcode
  else if c.boot.run = .recovery ∧ !x.recoveryServes then some stInvalidOpcode
  else if x.opcode = 0xC9 ∧ (x.fn ≠ 0 ∨ c.fuse.variant ≠ 0) then some stInvalidOpcode
  else if bits (x.dw 0) 9 8 ≠ 0 then some stInvalidField
  else if c.boot.maint ∧ (x.opcode = 0x80 ∨ x.opcode = 0x84) then some (dnr stNsNotReady)
  else if c.get E.SANITIZE_STATE = 2 ∧ (x.opcode = 0x80 ∨ x.opcode = 0x0D ∨ x.opcode = 0x15) then some (dnr stSanitizeFailed)
  else none

/-- I/O opcodes served: those of R81, and the vendor commands while the Scorebook is in use. -/
def Chip.ioOpcode (c : Chip) (op : Nat) : Bool :=
  [0x00, 0x01, 0x02, 0x05, 0x08, 0x09, 0x0C].contains op || ([0x82, 0x85, 0x89, 0x8A].contains op && c.bookOn)

/-- The function has the right to a Scorebook command (R311): Look and Segment Read need 1, Put and Drop 2. -/
def Chip.bookRight (c : Chip) (x : Cmd) : Bool :=
  let r := c.getAt E.SB_FN_RIGHTS (fnItem x.port x.fn)
  if x.opcode = 0x82 ∨ x.opcode = 0x8A then decide (1 ≤ r) else if x.opcode = 0x85 ∨ x.opcode = 0x89 then decide (2 ≤ r) else true

/-- Reserved fields of the Scorebook commands (R313): those that are not listed are zero. -/
def Cmd.bookReserved (x : Cmd) : Bool :=
  let z := fun (l : List Nat) => l.any fun k => decide (x.dw k ≠ 0)
  if x.opcode = 0x85 then decide (bits (x.dw 11) 31 16 ≠ 0) || decide (bits (x.dw 13) 31 11 ≠ 0) || decide (bits (x.dw 14) 31 20 ≠ 0) || z [15]
  else if x.opcode = 0x89 then decide (bits (x.dw 14) 31 20 ≠ 0) || z [10, 11, 12, 13, 15]
  else if x.opcode = 0x8A then z [10, 11, 12, 13, 14, 15]
  else decide (bits (x.dw 11) 15 13 ≠ 0) || decide (bits (x.dw 11) 31 24 ≠ 0) || decide (bits (x.dw 13) 31 20 ≠ 0)

/-- The Scorebook checks at fetch (R312, R314). -/
def Chip.bookFetch (c : Chip) (x : Cmd) : Option Nat :=
  let w := c.win5 (x.segWin / 256) (x.segWin % 256)
  if x.bookReserved then some stInvalidField
  else if x.opcode = 0x82 then
    if x.segLength = 0 ∨ 8388608 < x.segLength ∨ (x.segPasser ∧ w.size < x.dw 14 + x.segLength) then some stInvalidField
    else if x.segPasser ∧ !w.lets x.port x.fn then some stInvalidField
    else none
  else if x.opcode = 0x85 then
    let e := x.putEntry 0
    match c.ns e.nsid with
    | none => some (dnr stInvalidNs)
    | some n =>
      if e.length = 0 then some stInvalidField
      else if n.nsze < e.slba + extentLbas n.lbaf e.length then some stLbaRange
      else none
  else none

/-- A write refused by the pair's state or aimed at a diverged granule (R350). -/
def Chip.pairRefuses (c : Chip) (x : Cmd) : Bool :=
  x.writeType && (c.soloRefuses || (decide (c.get E.PAIR_STATE = 3) && (c.regionsOf x).any fun g => c.pr.diverged.contains g))

/-- The range and the transfer of a block command in its namespace (R83). Metadata that is transferred interleaved with
the data does not count in the 8 MiB (DESIGN CHOICE, log entry 56). -/
def Chip.blockFetch (c : Chip) (x : Cmd) : Option Nat :=
  match c.ns x.nsid with
  | none => some (dnr stInvalidNs)
  | some n =>
    if [0x01, 0x02, 0x05].contains x.opcode ∧ 8388608 < x.nlb * lbaOctets n.lbaf then some stInvalidField
    else if x.opcode = 0x09 then (if x.ranges.any fun r => decide (n.nsze < r.1 + r.2) then some stLbaRange else none)
    else if n.nsze < x.slba + x.nlb then some stLbaRange
    else none

/-- The namespace of a command: valid and attached to its function, not going away and not being formatted (R92, R161). -/
def Chip.nsFetch (c : Chip) (x : Cmd) : Option Nat :=
  match c.ns x.nsid with
  | none => some (dnr stInvalidNs)
  | some n =>
    if n.deleting ∨ n.detaching.contains (c.cntlid x.port x.fn) ∨ !c.attached x.port x.fn x.nsid then some (dnr stInvalidNs)
    else if n.formatting then some stFormatting
    else none

/-- A command that names no single namespace: a Flush of all of them, or a Scorebook command other than Put with NSID 0 or
FFFFFFFFh (R312). -/
def Cmd.anyNs (x : Cmd) : Bool :=
  (x.opcode == 0x00 && x.nsid == 0xFFFFFFFF) || ((x.opcode == 0x82 || x.opcode == 0x89 || x.opcode == 0x8A) && (x.nsid == 0 || x.nsid == 0xFFFFFFFF))

/-- The status with which an I/O command ends at fetch, or none. -/
def Chip.ioCheck (c : Chip) (x : Cmd) : Option Nat :=
  if c.boot.maint then some (dnr stNsNotReady)
  else if !c.ioOpcode x.opcode ∨ !c.bookRight x ∨ c.boot.run = .recovery then some stInvalidOpcode
  else if bits (x.dw 0) 9 8 ≠ 0 then some stInvalidField
  else if c.ft.sanitizeStep ≠ 0 then some stSanitizing
  else if c.get E.SANITIZE_STATE = 2 then some (dnr stSanitizeFailed)
  else
    let own := if x.opcode = 0x00 then none else if x.bookCmd then c.bookFetch x else c.blockFetch x
    match (if x.anyNs then none else c.nsFetch x), own with
    | some s, _ => some s
    | none, some s => some s
    | none, none => if c.pairRefuses x then some (dnr stDiverged) else none

/-! ### Fetch (R73, R75, R76) -/

/-- Commands of a queue between fetch and decision. -/
def Chip.awaiting (c : Chip) (q : Sq) : Nat :=
  (c.cmds.filter fun x => decide (x.port = q.port ∧ x.fn = q.fn ∧ x.qid = q.qid) && decide (x.phase = .fetched ∨ x.phase = .waiting)).length

/-- Commands of a port between fetch and decision, against the 4,096 of its admission input. -/
def Chip.inputOf (c : Chip) (port : Nat) : Nat :=
  (c.cmds.filter fun x => decide (x.port = port) && decide (x.phase = .fetched ∨ x.phase = .waiting)).length

/-- A function's queues are fetched: enabled, ready, in D0, with bus mastering, and no reset of it
running (R79, R116, R118). -/
def Fn.fetches (f : Fn) : Bool := f.en && f.rdy && f.cfg.busMaster && decide (f.dstate = 0) && decide (f.flr = 0) && decide (f.shst = 0)

/-- A queue with entries to fetch. I/O queues stand still while an activation without reset drains (R93). -/
def Chip.canFetch (c : Chip) (q : Sq) : Bool :=
  decide (q.head ≠ q.tail) && !q.deleting && !c.inD3 q.port q.fn && decide (c.awaiting q < c.get E.FETCH_LIMIT) && (c.fnOf q.port q.fn).fetches
    && (q.qid == 0 || c.fw.fwaH.isNone)

/-- The next function in turn after one that has a queue to fetch. -/
def Chip.nextFn (c : Chip) (port after : Nat) : Option Nat :=
  let fs := ((c.qs.sqs.filter fun q => decide (q.port = port) && c.canFetch q).map Sq.fn).eraseDups.mergeSort
  match fs.find? fun f => decide (after < f) with
  | some f => some f
  | none => fs.head?

/-- Round robin: the next queue after the last one served. -/
def nextQueue (qs : List Sq) (last : Nat) : Option Sq :=
  let l := qs.mergeSort fun a b => decide (a.qid ≤ b.qid)
  match l.find? fun q => decide (last < q.qid) with
  | some q => some q
  | none => l.head?

/-- The arbitration of a function that has fetched nothing in its round: the weights of high, medium and low, and the last
queue served in round robin and of the urgent, high, medium and low priority. -/
def Fn.freshRound (f : Fn) : List Nat := [f.hpw + 1, f.mpw + 1, f.lpw + 1, 0, 0, 0, 0, 0]

/-- The queue of a function that is visited, with its arbitration, and for a weighted class its place among the weights:
admin, urgent, then high, medium and low by their weights, or round robin (R75). Weights count commands, and queues of one
priority take turns. -/
def Chip.pickQueue (c : Chip) (f : Fn) (w : List Nat) : Option (Sq × List Nat × Option Nat) :=
  let mine := c.qs.sqs.filter fun q => decide (q.port = f.port ∧ q.fn = f.fn) && c.canFetch q
  if f.ams = 1 then
    match mine.find? fun q => decide (q.qid = 0) with
    | some q => some (q, w, none)
    | none =>
      let of := fun p => nextQueue (mine.filter fun q => decide (q.qid ≠ 0 ∧ q.prio = p)) (nth w (4 + p))
      match of 0 with
      | some q => some (q, w.set 4 q.qid, none)
      | none =>
        let fresh := f.freshRound.take 3 ++ w.drop 3
        let try1 := fun (w : List Nat) => (List.range 3).findSome? fun k =>
          if nth w k = 0 then none else (of (k + 1)).map fun q => (q, w.set (5 + k) q.qid, some k)
        match try1 w with
        | some r => some r
        | none => try1 fresh
  else (nextQueue mine (nth w 3)).map fun q => (q, w.set 3 q.qid, none)

/-! ### Namespaces that go (R92, R161, R347) -/

/-- Why a namespace command does not run: a pair that is not SYNCED, or a Sanitize that runs. -/
def Chip.nsBlocked (c : Chip) : Option Nat :=
  if c.pairBlocks then some stSequence else if c.ft.sanitizeStep ≠ 0 then some stSanitizing else none

/-- The namespaces that a command names; FFFFFFFFh names all. -/
def Chip.namedNs (c : Chip) (nsid : Nat) : List Ns := if nsid = 0xFFFFFFFF then c.ft.nss else (c.ns nsid).toList

/-- A command works on a namespace: it names it, a Segment Read reads an entry there, or a Put or Drop replaces or removes
one. -/
def Chip.onNs (c : Chip) (x : Cmd) (nsid : Nat) : Bool :=
  !x.admin && ((!x.anyNs && x.nsid == nsid) || (x.seg.any fun e => e.nsid == nsid)
    || ((x.opcode == 0x85 || x.opcode == 0x89) && (c.findKey x.sbKey).any fun p => p.2.nsid == nsid))

/-- Commands for a namespace that still wait in admission, on some functions, end with a status (R92, R161). -/
def Chip.endWaiting (c : Chip) (nsid : Nat) (on : Cmd → Bool) (status : Nat) : Chip :=
  c.each (c.cmds.filter fun x => !x.admin && !x.anyNs && x.nsid == nsid && on x && decide (x.phase = .fetched ∨ x.phase = .waiting)) fun c x =>
    (c.undo x.h).fail x.h status

def Chip.setNs (c : Chip) (n : Ns) : Chip :=
  let nss := change (fun (q : Ns) => decide (q.nsid = n.nsid)) (fun _ => n) c.ft.nss
  { c with ft := { c.ft with nss := nss } }

/-- A setting of a Format NVM that is not supported, with its status (R161). -/
def Cmd.formatRefused (x : Cmd) : Option Nat :=
  if 5 < bits (x.dw 10) 3 0 then some stInvalidFormat
  else if 2 < bits (x.dw 10) 11 9 ∨ bits (x.dw 10) 8 5 ≠ 0 then some stInvalidField
  else none

/-- The controllers of a Namespace Attachment: its list follows the 16 Dwords of its entry, a 16-bit count and identifiers of 16 bits
(R92, log entry 10). -/
def Cmd.ctrlList (x : Cmd) : List Nat :=
  (List.range (min 2047 (bits (x.dw 16) 15 0))).map fun i => x.dw (16 + (i + 1) / 2) / 2 ^ (16 * ((i + 1) % 2)) % 2 ^ 16

/-- From the fetch of a deletion, a detachment or a Format NVM that can run, commands for its namespaces end (R92, R161). -/
def Chip.markNs (c : Chip) (x : Cmd) : Chip :=
  if c.nsBlocked.isSome then c
  else if x.opcode = 0x0D ∧ bits (x.dw 10) 3 0 = 1 then
    c.each (c.namedNs x.nsid) fun c n => (c.setNs { n with deleting := true }).endWaiting n.nsid (fun _ => true) (dnr stInvalidNs)
  else if x.opcode = 0x15 ∧ bits (x.dw 10) 3 0 = 1 then
    match c.ns x.nsid with
    | none => c
    | some n =>
      if x.ctrlList.all n.attached.contains then
        (c.setNs { n with detaching := (n.detaching ++ x.ctrlList).eraseDups }).endWaiting n.nsid
          (fun y => x.ctrlList.contains (c.cntlid y.port y.fn)) (dnr stInvalidNs)
      else c
  else if x.opcode = 0x80 ∧ x.formatRefused.isNone then
    c.each (c.namedNs x.nsid) fun c n => (c.setNs { n with formatting := true }).endWaiting n.nsid (fun _ => true) stFormatting
  else c

/-- The command that an entry of a queue becomes at its fetch: its fields, its class (R34, R35) and the time. -/
def Chip.newCmd (c : Chip) (q : Sq) (sqe : List Nat) : Cmd :=
  { h := c.nextH, port := q.port, fn := q.fn, qid := q.qid, cid := bits (nth sqe 0) 31 16, admin := decide (q.qid = 0), opcode := nth sqe 0 % 256,
    sqe := sqe, fetchT := c.now, cls := if q.qid = 0 then 3 else cmdClass q sqe, phase := .fetched, admitT := 0, promisePs := 0, boundPs := 0,
    extraPs := 0, guests := 0, recs := [], smallestUs := 0, ra := false, fault := false, step := 0, status := 0, dw0 := 0, dw1 := 0, nsid := nth sqe 1,
    first := nth sqe 10 + at' (nth sqe 11) 32, last := 0, resolved := false, resolvedPs := 0, blocks := [], key := [], slots := [],
    credits := 0, energy := 0, win := none, work := 0, fenced := false, silent := false, posted := false, xfer := 0, peerPs := 0,
    paused := none, raUnits := [], host := [], waitH := none, cause := 0, stallT := none, order := 0, taken := false }

/-- The check at fetch of a command: the status with which it ends at once, or none. -/
def Chip.fetchCheck (c : Chip) (x : Cmd) : Option Nat := if x.admin then c.adminCheck x else c.ioCheck x

/-- A fetched entry becomes a command; one that fails a check at fetch ends at once with its status. -/
def Chip.takeEntry (c : Chip) (q : Sq) (sqe : List Nat) : Chip :=
  let x := c.newCmd q sqe
  let next := c.nextH + 1
  let l := c.cmds ++ [x]
  let c0 := { c with cmds := l, nextH := next }
  let c1 := if classRaised q sqe then c0.event 0x205 0 1 noUnit [fnItem q.port q.fn, q.qid] else c0
  match c.fetchCheck x with
  | none => if x.admin then c1.markNs x else c1
  | some st => (if st = dnr stDiverged then c1.eventFirst 0x489 0 1 noUnit [] else c1).finish x.h st 0 0

/-- One fetch visit of a port (R75, R76): at most 2^AB entries, 8, the queue's room, the function's turn, the weight left of
a weighted priority and the port's input; the head advances, and EventIdx follows it. Every FETCH that finds the port's input
full counts as one pause (DESIGN CHOICE, log entry 55). -/
def Chip.fetch (c : Chip) (port : Nat) (entries : List (List Nat)) (shadow : Option Nat) : Chip :=
  let a := c.qs.arb.getD port { fn := 0, left := 0, rounds := [] }
  let here := c.qs.sqs.any fun q => decide (q.port = port ∧ q.fn = a.fn) && c.canFetch q
  let turn := if here ∧ a.left ≠ 0 then some (a.fn, a.left)
    else (c.nextFn port a.fn).map fun f => (f, c.getAt E.FQ_FETCH_WEIGHT (fnItem port f))
  match turn with
  | none => c
  | some (fn, left) =>
    if 4096 ≤ c.inputOf port then c.count E.FETCH_PAUSES 1
    else
      let f := c.fnOf port fn
      let w := ((a.rounds.find? fun r => decide (r.1 = fn)).map Prod.snd).getD f.freshRound
      match c.pickQueue f w with
      | none => c
      | some (q0, w', k) =>
        let q := match f.shadow, shadow with
          | true, some v => if v < q0.size then { q0 with tail := v } else q0
          | _, _ => q0
        let c0 := if f.shadow && (match shadow with
          | some v => decide (q0.size ≤ v)
          | none => false) then c.badDoorbell port fn q0.qid 1 else c
        let burst := if f.ab = 7 then 8 else min 8 (2 ^ f.ab)
        let avail := (q.tail + q.size - q.head) % q.size
        let weight := (k.map fun k => nth w' k).getD 8
        let n := min (min (min burst left) (min (c.get E.FETCH_LIMIT - c.awaiting q) avail))
          (min (min entries.length weight) (4096 - c.inputOf port))
        let w'' := match k with
          | some k => w'.set k (nth w' k - n)
          | none => w'
        let taken := entries.take n
        let q1 := { q with head := (q.head + n) % q.size, fetched := (q.fetched + n) % 2 ^ 40, eventIdx := q.tail }
        let rounds := upsert (fun r => decide (r.1 = fn)) (fn, w'') a.rounds
        let arb := c.qs.arb.set port { fn := fn, left := left - n, rounds := rounds }
        let c1 := (c0.useContext port fn q.qid).setSq q1
        let c2 := { c1 with qs := { c1.qs with arb := arb } }
        c2.each taken fun c e => c.takeEntry q1 e

def execFetch (t port : Nat) (entries : List (List Nat)) (shadow : Option Nat) (s : State) : Host.Outcome State Fault Refusal :=
  run s t fun c => c.when (c.serves && !c.boot.fetchHeld) fun c => c.fetch port entries shadow

/-! ### Commands of a queue or a function that goes (R91) -/

/-- One command of a deleted queue (post = true) or of a reset function (post = false): R91. -/
def Chip.endCmd (c : Chip) (x : Cmd) (post : Bool) : Chip :=
  if x.writeType && x.committed then
    if post then c else if x.phase = .ended && !c.awaitsDone x.h then c.dropCmd x.h else c.setCmd { x with silent := true }
  else
    let c1 := (c.undo x.h).dropTasks x.h
    if post then
      if x.posted then c1.dropCmd x.h
      else if x.phase = .ended then c1
      else ((c1.dropTasks x.h).finish x.h stSqDeletion 0 0).count E.SQ_DEL_ABORTS 1
    else c1.dropCmd x.h

/-- Every command of a function ends as a reset ends it (R91). -/
def Chip.endFn (c : Chip) (port fn : Nat) : Chip :=
  c.each (c.cmds.filter fun x => decide (x.port = port ∧ x.fn = fn)) fun c x => c.endCmd x false

/-! ### Queues created and deleted (R71, R72, R91) -/

/-- An admin command that a row serves: fetched, on the admin queue, with its opcode; the others wait while an
activation without reset runs (R93 step 1). -/
def Chip.adminCmd (c : Chip) (h opcode : Nat) (f : Chip → Cmd → Chip) : Chip :=
  match c.cmd h with
  | none => c
  | some x => if x.admin ∧ x.opcode = opcode ∧ x.phase = .fetched ∧ c.serves ∧ (c.fw.fwaH = none ∨ c.fw.fwaH = some h) then f c x else c

/-- An I/O queue number that a function may create (R71). -/
def Chip.qidOk (c : Chip) (x : Cmd) (qid : Nat) : Bool :=
  decide (1 ≤ qid ∧ qid ≤ (c.fnOf x.port x.fn).granted) && decide (qid ≤ c.doorbellLimit x.port x.fn)

/-- A base address that lies in the controller memory buffer of the function (R72). -/
def Chip.inCmb (c : Chip) (x : Cmd) (addr : Nat) : Bool :=
  let f := c.fnOf x.port x.fn
  f.cmse && decide (f.cmbBase ≤ addr ∧ addr < f.cmbBase + f.cmbOct * 2 ^ 20)

/-- Create I/O Completion Queue (R71, R72); a function has 2,048 vectors (R99, R106). -/
def Chip.createCq (c : Chip) (x : Cmd) : Chip :=
  let qid := bits (x.dw 10) 15 0
  let size := bits (x.dw 10) 31 16 + 1
  let base := x.dw 6 + at' (x.dw 7) 32
  let vector := bits (x.dw 11) 31 16
  if !c.qidOk x qid ∨ (c.cqOf x.port x.fn qid).isSome then c.fail x.h stInvalidQid
  else if size < 2 then c.fail x.h stQueueSize
  else if bit (x.dw 11) 0 = 0 ∨ c.inCmb x base then c.fail x.h stInvalidField
  else if 2048 ≤ vector then c.fail x.h stInvalidVector
  else
    let q : Cq := { port := x.port, fn := x.fn, qid := qid, size := size, head := 0, tail := 0, phase := 1, base := base, vector := vector,
                    ien := decide (bit (x.dw 11) 1 = 1), eventIdx := 0 }
    let f := c.fnOf x.port x.fn
    ((c.setCq q).setFn { f with ioCreated := true }).finish x.h stOk 0 0

def execCreateIoCompletionQueue (t h : Nat) (s : State) : Host.Outcome State Fault Refusal :=
  run s t fun c => c.adminCmd h 0x05 Chip.createCq

/-- Create I/O Submission Queue (R34, R71): QPRIO maps to the class. -/
def Chip.createSq (c : Chip) (x : Cmd) : Chip :=
  let qid := bits (x.dw 10) 15 0
  let size := bits (x.dw 10) 31 16 + 1
  let base := x.dw 6 + at' (x.dw 7) 32
  let cq := bits (x.dw 11) 31 16
  let prio := bits (x.dw 11) 2 1
  if !c.qidOk x qid ∨ (c.sqOf x.port x.fn qid).isSome then c.fail x.h stInvalidQid
  else if size < 2 then c.fail x.h stQueueSize
  else if cq = 0 ∨ (c.cqOf x.port x.fn cq).isNone then c.fail x.h stCqInvalid
  else if bit (x.dw 11) 0 = 0 then c.fail x.h stInvalidField
  else
    let q : Sq := { port := x.port, fn := x.fn, qid := qid, size := size, head := 0, tail := 0, base := base, prio := prio, cq := cq,
                    cls := c.classFor x.port x.fn qid prio, floor := c.floorOf x.port x.fn, deleting := false, fetched := 0, completed := 0, refused := 0,
                    eventIdx := 0, drain := false }
    let f := c.fnOf x.port x.fn
    let raised := decide (q.cls ≠ c.unraised x.port x.fn qid prio)
    let c1 := if raised then c.event 0x205 0 1 noUnit [fnItem x.port x.fn, qid] else c
    ((c1.setSq q).setFn { f with ioCreated := true }).finish x.h stOk 0 0

def execCreateIoSubmissionQueue (t h : Nat) (s : State) : Host.Outcome State Fault Refusal :=
  run s t fun c => c.adminCmd h 0x01 Chip.createSq

/-- Commands of a queue that still have a completion to post. -/
def Chip.queueBusy (c : Chip) (q : Sq) : Bool :=
  c.cmds.any fun x => decide (x.port = q.port ∧ x.fn = q.fn ∧ x.qid = q.qid) && !x.posted && !x.silent

/-- Delete I/O Submission Queue (R91): entries not fetched are discarded, its commands end as the table
sets out, and the command completes, and the queue goes, once every completion has been posted;
until then it stays with the row to be tried again. Its cached context stays in the cache until it is evicted or its function
is reset (DESIGN CHOICE, log entry 61). -/
def Chip.deleteSq (c : Chip) (x : Cmd) : Chip :=
  let qid := bits (x.dw 10) 15 0
  match (if qid = 0 then none else c.sqOf x.port x.fn qid) with
  | none => c.fail x.h stInvalidQid
  | some q =>
    let mine := c.cmds.filter fun y => decide (y.port = x.port ∧ y.fn = x.fn ∧ y.qid = qid)
    let c1 := if q.deleting then c else (c.each mine fun c y => c.endCmd y true).setSq { q with deleting := true, head := q.tail }
    if c1.queueBusy q then c1
    else
      let sqs := drop' (fun (r : Sq) => decide (r.port = x.port ∧ r.fn = x.fn ∧ r.qid = qid)) c1.qs.sqs
      (({ c1 with qs := { c1.qs with sqs := sqs } }).setAt E.QB_CLASS (qWord x.port x.fn qid) 4).finish x.h stOk 0 0

def execDeleteIoSubmissionQueue (t h : Nat) (s : State) : Host.Outcome State Fault Refusal :=
  run s t fun c => c.adminCmd h 0x00 Chip.deleteSq

/-- Delete I/O Completion Queue (R71); a message that its vector holds back stays while another queue uses the vector (R79). -/
def Chip.deleteCq (c : Chip) (x : Cmd) : Chip :=
  let qid := bits (x.dw 10) 15 0
  if qid = 0 ∨ (c.cqOf x.port x.fn qid).isNone then c.fail x.h stInvalidQid
  else if c.qs.sqs.any fun q => decide (q.port = x.port ∧ q.fn = x.fn ∧ q.cq = qid ∧ q.qid ≠ 0) then c.fail x.h stQueueDeletion
  else
    let cqs := drop' (fun (r : Cq) => decide (r.port = x.port ∧ r.fn = x.fn ∧ r.qid = qid)) c.qs.cqs
    let f := c.fnOf x.port x.fn
    let coal := match c.cqOf x.port x.fn qid with
      | some q => if cqs.any fun r => decide (r.port = x.port ∧ r.fn = x.fn ∧ r.vector = q.vector) then f.coal
        else drop' (fun (k : Coal) => decide (k.vector = q.vector)) f.coal
      | none => f.coal
    (({ c with qs := { c.qs with cqs := cqs } }).setFn { f with coal := coal }).finish x.h stOk 0 0

def execDeleteIoCompletionQueue (t h : Nat) (s : State) : Host.Outcome State Fault Refusal :=
  run s t fun c => c.adminCmd h 0x04 Chip.deleteCq

end Sys2Proof.Machine
end

