-- ==== Sys2Proof/Machine/Intake.lean ====
section
/-! DEFINITION. I/O commands from decision to completion: admission, locks, reads, writes, map updates,
Scorebook commands, the commit point, completions and expiry (R36 to R43, R47, R84, R87, R117, R142,
R143, R159, R160, R315 to R319, R343). -/
namespace Sys2Proof.Machine

/-! ### Decision (R38, R47, R77) -/

/-- An I/O command that waits for its decision. -/
def Cmd.undecided (x : Cmd) : Bool := !x.admin && decide (x.opcode ≠ 0) && decide (x.phase = .fetched ∨ x.phase = .waiting)

/-- The admission unit decides a command in its turn; during a drain for activation class 3 commands
stay waiting (R77, R93). -/
def Chip.admission (c : Chip) (h : Nat) : Chip :=
  match c.cmd h with
  | none => c
  | some x => if x.undecided && c.isReady && c.turn x && !(decide (3 ≤ x.cls) && c.fw.fwaH.isSome) then (c.moveHeld.decideCmd x).fwaDrains else c

def execAdmission (t h : Nat) (s : State) : Host.Outcome State Fault Refusal :=
  run s t fun c => c.admission h

/-- A class 0 to 2 command undecided at ADMIT_WAIT after fetch is refused (R47). -/
def Chip.admitExpiry (c : Chip) (h : Nat) : Chip :=
  match c.cmd h with
  | none => c
  | some x => if x.undecided ∧ x.cls ≤ 2 ∧ x.fetchT * psPerCyc + c.get E.ADMIT_WAIT * 1000 ≤ c.nowPs then (c.refuse x [0x09] x.smallestUs).fwaDrains else c

def execAdmitWaitExpiry (t h : Nat) (s : State) : Host.Outcome State Fault Refusal :=
  run s t fun c => c.admitExpiry h

/-- The waiting entries of a command that no conflicting one lies before are granted (R87); a transfer staged for the
partner that waited for its entry is applied (R345). -/
def Chip.grantLock (c : Chip) (h : Nat) : Chip :=
  let c0 := c.moveHeld
  match c0.pr.xfers.find? fun f => !f.origin && decide (f.h = h) with
  | some f =>
    let c1 := if c0.holdsEntry h then { c0 with lk := c0.lk.grantAll h } else c0.lockXfer f
    c1.applyXfer f
  | none => { c0 with lk := c0.lk.grantAll h }

def execRangeLockGrant (t h : Nat) (s : State) : Host.Outcome State Fault Refusal :=
  run s t fun c => c.grantLock h

/-! ### The second lookup of a command that waited on a key (R317) -/

/-- The entries of a command's locks changed to other runs, under the number they hold; without one they
take the next, and in the holdover list the place they hold (R88, R317). -/
def Chip.relock (c : Chip) (x : Cmd) : Chip :=
  let runs := c.lockNeeds { x with waitH := none }
  match (c.lk.main ++ c.lk.held).find? fun l => decide (l.h = x.h) with
  | none => if c.locksFree runs.length then c.lockRuns x.h runs x.exclusive else c
  | some l0 =>
    let ls := runs.map fun r => ({ h := x.h, seq := l0.seq, nsid := r.1, first := r.2.1, last := r.2.2, excl := x.exclusive,
                                   granted := false, owner := l0.owner } : Lock)
    let inHeld := c.lk.held.any fun l => decide (l.h = x.h)
    let k := c.lk.release x.h
    let before := c.lk.held.takeWhile fun l => decide (l.h ≠ x.h)
    let k1 : Lk := if inHeld then { k with held := before ++ ls ++ k.held.drop before.length } else { k with main := k.main ++ ls }
    { c with lk := k1.grantAll x.h }

/-- A command whose awaited Put or Drop has ended looks its key up again: it takes the entry left, or
completes with the status that the lookup gives. -/
def Chip.wakeKey (c : Chip) (x : Cmd) : Chip :=
  let x1 := { x with waitH := none }
  let c0 := c.count E.SB_LOOKUPS 1
  match c0.bookCheck x1 with
  | some s =>
    let c1 := if s.1 = stKeyAbsent then c0.count E.SB_ABSENT 1 else c0
    ((c1.undo x.h).dropTasks x.h).finish x.h s.1 s.2.1 s.2.2
  | none =>
    let kept := match c0.seenKey x1 with
      | some e => e.kept
      | none => []
    let x2 := if x.opcode = 0x82 then { x1 with key := kept } else x1
    let c1 := (c0.setCmd x2).relock x2
    if x.opcode = 0x82 then c1 else c1.setPending x2

/-- Every command that waited on a Put or Drop (R317). -/
def Chip.wakeWaiters (c : Chip) (h : Nat) : Chip :=
  c.each ((c.cmds.filter fun x => decide (x.waitH = some h)).map Cmd.h) fun c k => match c.cmd k with
    | some x => if x.waitH = some h then c.wakeKey x else c
    | none => c

/-- The wait of a command whose awaited Put or Drop is gone ends too. -/
def Chip.endWait (c : Chip) (h : Nat) : Chip :=
  match c.cmd h with
  | none => c
  | some x => match x.waitH with
    | none => c
    | some k => if (c.cmd k).any fun y => decide (y.phase ≠ .ended) then c else c.wakeKey x

/-- An admitted command of one of some opcodes that holds its locks and waits on no key. -/
def Chip.ioCmd (c : Chip) (h : Nat) (ops : List Nat) (f : Chip → Cmd → Chip) : Chip :=
  let c0 := c.endWait h
  match c0.cmd h with
  | none => c0
  | some x =>
    if !x.admin ∧ ops.contains x.opcode ∧ x.phase = .admitted ∧ c0.locked h ∧ x.waitH.isNone ∧ x.paused.isNone ∧ c0.isReady then f c0 x else c0

/-! ### Reads (R41, R43, R142, R222, R319, R354) -/

/-- A unit is served through the source: it lies in a granule pending here, and no newer version is in the
Crucible (R354). -/
def Chip.throughSource (c : Chip) (g : Nat) : Bool :=
  decide (c.get E.PAIR_STATE = 2) && c.pr.pendingGr.contains (g / 65536) && (c.newest g).isNone && !c.pr.newer.contains g

/-- The read of one unit's codewords from flash: direct, or, for a unit that is read around, as a
reconstruction from the first step on (R48, R218); so is a class 3 read of a die that is out of service, by its ladder, where its members
are readable (R223). -/
def Chip.readUnit (c : Chip) (x : Cmd) (g : Nat) (cws : List Nat) : Chip :=
  let e := c.mapOf g
  let c0 := c.pin x.h (entrySb e)
  let lun := ((c.touchOf g 1).map Touch.lun).getD 0
  let dead := decide (3 ≤ x.cls) && !c.usable (mkUnit kLUN lun)
  if x.raUnits.contains g || (dead && ((c.touchOf g 1).bind fun t => c.raMembersOf false t 0).isSome) then
    let from' := c0.rd.nextTask
    let c1 := c0.addTasks x.h g e cws 0 0 4
    let ts := c1.rd.tasks.filter fun t => decide (from' ≤ t.id)
    c1.each ts fun c t => match c.taskMembers t with
      | some ms => c.stepMembers t ms
      | none => c.trouble x.h 0x21
  else c0.startRead x.h g e cws 0 0

/-- Codewords asked of the source of a pending granule (R354). -/
def Chip.readRemote (c : Chip) (x : Cmd) (g : Nat) (cws : List Nat) : Chip :=
  let first := c.rd.nextTask
  let ts := (cws.zip (List.range cws.length)).map fun p => ({
    id := first + p.2, h := x.h, unit := g, cw := p.1, entry := c.mapOf g, order := [], zone := 0, levels := [], idx := 0, step := 7, reached := 0, raTried := true,
    ran3 := true, cls := 0, own := 0, word := none, quad := 0, engine := 48, cont := false, skipped := false, grp := first, members := [], pos := 0,
    parity := false, endPs := c.nowPs } : Task)
  let all := c.rd.tasks ++ ts
  let next := first + cws.length
  let nsid := ((c.ownerOf g).map fun o => o.1.nsid).getD 0
  ({ c with rd := { c.rd with tasks := all, nextTask := next } }).askPartner g nsid cws (ts.map Task.id) (c.leftNs x)

/-- The resolve of a read-rule command: its Crucible versions and zeros are captured, its flash reads
issued and its shared entry released; a lost unit ends it; a slice that is not loaded makes it wait, unless the Crucible
serves its units (R43, R87, R139, R142, R222). -/
def Chip.resolveRead (c : Chip) (x : Cmd) (n : Ns) (r : Nat × Nat) (us : List (Nat × List Nat)) : Chip :=
  let late := us.filter fun u => (c.newest u.1).isNone && !c.sliceLoaded u.1
  if late ≠ [] then c.each late fun c u => c.touchSlice u.1
  else if us.any fun u => c.isLost u.1 then c.endLost x.h
  else
    let blocks := (lbasOf n r).map fun l => match c.lbaNow n l.2.1 l.1 l.2.2 with
      | some b => n.plain l.1 b
      | none => { data := 0, info := 0 }
    let remote := us.filter fun u => c.throughSource u.1
    let flash := us.filter fun u => !c.throughSource u.1 && (c.newest u.1).isNone && onFlash (c.mapOf u.1)
    let c1 := c.setCmd { x with phase := .working, blocks := blocks }
    let c2 := c1.each flash fun c u => c.readUnit x u.1 u.2
    let c3 := (c2.each remote fun c u => c.readRemote x u.1 u.2).resolve x.h
    if flash = [] ∧ remote = [] then c3.endRead x.h else c3

/-- Host data has come by memory reads of which the slowest took `latNs`: what that exceeds HOST_LAT_LIMIT is host time
(R37). -/
def Chip.hostRead (c : Chip) (h latNs : Nat) : Chip := c.hostTime h ((latNs - c.get E.HOST_LAT_LIMIT) * 1000)

/-- Read, Compare and Verify: `host` is the data that came from the host (R41). -/
def Chip.readCmd (c : Chip) (h op latNs : Nat) (host : List Blk) : Chip :=
  (c.ioCmd h [op] fun c _ => c.hostRead h latNs).ioCmd h [op] fun c x => match c.ns x.nsid with
    | none => c
    | some n => c.resolveRead { x with host := host } n (x.slba, x.nlb) (Chip.unitCws n (x.slba, x.nlb))

def execRead (t h : Nat) (s : State) : Host.Outcome State Fault Refusal :=
  run s t fun c => c.readCmd h 0x02 0 []

def execCompare (t : Nat) (x : Served) (blocks : List Blk) (s : State) : Host.Outcome State Fault Refusal :=
  run s t fun c => c.readCmd x.h 0x05 x.hostNs blocks

def execVerify (t h : Nat) (s : State) : Host.Outcome State Fault Refusal :=
  run s t fun c => c.readCmd h 0x0C 0 []

/-- Segment Read (R319): the bytes of the kept entry. -/
def execSegmentRead (t h : Nat) (s : State) : Host.Outcome State Fault Refusal :=
  run s t fun c => c.ioCmd h [0x82] fun c x => match x.seg with
    | none => c
    | some e => match c.ns e.nsid with
      | none => c
      | some n => c.resolveRead x n (c.segLbas x e) (c.segUnits x e)

/-- Scorebook Look (R318): the 32-octet entry of the key, without a lock. -/
def execScorebookLook (t h : Nat) (s : State) : Host.Outcome State Fault Refusal :=
  run s t fun c => c.ioCmd h [0x8A] fun c x => match c.seenKey x with
    | none => c.finish h stKeyAbsent 0 0
    | some e =>
      (c.emit (.octets h (octetsOf 32 (e.word false)))).finish h stOk e.gen 0

/-- Flush completes at once (R41). -/
def execFlush (t h : Nat) (s : State) : Host.Outcome State Fault Refusal :=
  run s t fun c => match c.cmd h with
    | none => c
    | some x => if !x.admin ∧ x.opcode = 0 ∧ x.phase = .fetched then c.finish h stOk 0 0 else c

/-! ### Writes and map updates (R84, R142, R143, R159, R160) -/

/-- One unit of a write takes a slot: the host's LBAs as ciphertext, the others from the newest version or
as zeros, or read from flash under the write (R143). -/
def Chip.takeUnit (c : Chip) (x : Cmd) (n : Ns) (host : Nat → Blk) (u : Nat × Nat × Nat) (g : Nat) : Chip :=
  let k := lbasPerUnit n.lbaf
  let bs := (List.range k).map fun i =>
    let lba := u.1 * k + i
    if u.2.1 ≤ i ∧ i < u.2.1 + u.2.2 then n.cipher lba (host lba) else (c.lbaNow n g lba i).getD { data := 0, info := 0 }
  let c1 := c.takeSlot x.h g n.nsid n.lbaf bs (decide (x.energy ≠ 0))
  let c2 := match c1.cmd x.h with
    | none => c1
    | some y => c1.setCmd { y with slots := y.slots ++ [c1.ft.nextSlot] }
  let cws := (List.range 4).filter fun i => decide (i < u.2.1) || decide (u.2.1 + u.2.2 ≤ i)
  if u.2.2 = k ∨ (c.newest g).isSome ∨ !onFlash (c.mapOf g) then c2
  else if c.throughSource g then c2.readRemote x g cws
  else (c2.count E.CRU_RMW_UNITS 1).readUnit { x with raUnits := [] } g cws

/-- The data of a write arrives (R43, R142): every unit takes its slot, and touches its slice (R139). A partly covered unit that is lost
ends the command without effect (R143, R258), and one whose slice is not loaded makes it wait. -/
def Chip.takeData (c : Chip) (x : Cmd) (n : Ns) (units : List (Nat × Nat × Nat)) (host : Nat → Blk) : Chip :=
  let part := (units.filter fun u => decide (u.2.2 < lbasPerUnit n.lbaf)).filterMap fun u => n.globalUnit u.1
  if part.any fun g => (c.newest g).isNone && !c.sliceLoaded g then c.each part Chip.touchSlice
  else if part.any c.isLost then c.endLost x.h
  else
    let c1 := (c.each (units.filterMap fun u => n.globalUnit u.1) Chip.touchSlice).setCmd { x with phase := .working, credits := 0, slots := [] }
    let c2 := c1.each units fun c u => match n.globalUnit u.1 with
      | none => c
      | some g => c.takeUnit x n host u g
    match c2.cmd x.h with
    | none => c2
    | some y => c2.setCmd { y with energy := 0 }

def execWrite (t : Nat) (w : Served) (blocks : List Blk) (s : State) : Host.Outcome State Fault Refusal :=
  run s t fun c => (c.ioCmd w.h [0x01] fun c _ => c.hostRead w.h w.hostNs).ioCmd w.h [0x01] fun c x => match c.ns x.nsid with
    | none => c
    | some n => c.takeData { x with host := blocks } n (cover n.lbaf x.slba x.nlb) fun lba => blocks.getD (lba - x.slba) { data := 0, info := 0 }

/-- Write Zeroes: its partly covered units are merged with zeros; the whole ones take their code at the
commit point (R160). -/
def execWriteZeroes (t h : Nat) (s : State) : Host.Outcome State Fault Refusal :=
  run s t fun c => c.ioCmd h [0x08] fun c x => match c.ns x.nsid with
    | none => c
    | some n => c.takeData x n (partialUnits n (x.slba, x.nlb)) fun _ => { data := 0, info := 0 }

/-- A deallocate (R159), Scorebook Put and Drop (R315, R316) hold their locks; their effect comes at the
commit point. -/
def Chip.ready (c : Chip) (h op : Nat) : Chip := c.ioCmd h [op] fun c x => c.setCmd { x with phase := .working }

def execDatasetManagement (t h : Nat) (s : State) : Host.Outcome State Fault Refusal :=
  run s t fun c => c.ready h 0x09

def execScorebookPut (t h : Nat) (s : State) : Host.Outcome State Fault Refusal :=
  run s t fun c => c.ready h 0x85

def execScorebookDrop (t h : Nat) (s : State) : Host.Outcome State Fault Refusal :=
  run s t fun c => c.ready h 0x89

/-! ### The commit point (R84, R145, R266, R315, R316, R343) -/

/-- The code a map update sets: record kind 1 deallocated, 2 written zero (R136, R160). -/
def Cmd.codeKind (x : Cmd) : Nat := if x.opcode = 0x08 ∧ bit (x.dw 12) 25 = 0 then 2 else 1

/-- The command's data is power-safe only once it has been programmed: the mode is write-through, or one of its slots has no energy credit,
because the command was admitted in that mode (R266). -/
def Chip.mustProgram (c : Chip) (x : Cmd) : Bool :=
  decide (x.slots ≠ []) && (c.writeThrough || c.ft.slots.any fun s => x.slots.contains s.id && s.unbacked)

/-- In write-through mode a command's slots go to rows that are closed at once; the answer says whether
every one of them has been programmed with the parity of its row (R145). -/
def Chip.programmed (c : Chip) (x : Cmd) : Chip × Bool :=
  let mine := c.ft.slots.filter fun s => x.slots.contains s.id
  let waiting := (mine.filter fun s => !s.issued && !c.ft.order.contains s.id).map Slot.id
  let order := c.ft.order ++ waiting
  let c1 := ({ c with ft := { c.ft with order := order } }).pour
  let done := fun (s : Slot) => match (c1.slotOf s.id).bind Slot.row with
    | none => false
    | some id => match c1.rowOf id with
      | none => false
      | some r => match c1.sbOf r.sb with
        | none => false
        | some sb => r.passedAll sb
  (c1, mine.all done)

/-- The records of a write-through map update are programmed at once: the halves that hold them (R266). -/
def Chip.programHalves (c : Chip) (units : List Nat) : Chip :=
  let ks := (units.map streamOf).eraseDups
  c.each ks fun c k =>
    let s := c.stream k
    let halves := [s.full, s.active].filter fun l => decide (l ≠ [])
    match c.systemRuns (16 * halves.length) (halvesPage halves) with
    | none => c
    | some (place, c1) => (c1.addPages k halves place).setStream { s with active := [], full := [] }

/-- Dword 0 and Dword 1 of a Put, and its effect on the catalogue (R309, R315, R322). -/
def Chip.commitPut (c : Chip) (x : Cmd) : Chip × Option (Nat × Nat) :=
  match c.insertPlace x.sbKey with
  | none => ((c.count E.SB_FULL 1), none)
  | some (place, replaced) =>
    let old := ((c.findKey x.sbKey).map fun p => p.2.gen).getD 0
    let gen := if replaced then nextGen old else 1
    let c1 := ((c.writeEntry place (x.putEntry gen)).dropPlaceholder x.sbKey place).count E.SB_PUTS 1
    (c.stashReport c1, some (gen + (if replaced then 2 ^ 20 else 0), if replaced then old else 0))

/-- Units written on this side while a copy runs count as newer than the copy (R354). -/
def Chip.noteNewer (c : Chip) (us : List Nat) : Chip :=
  if c.get E.PAIR_STATE = 2 then { c with pr := { c.pr with newer := c.pr.newer ++ us } } else c

/-- The effect of a write-type command at its commit point, with the results of its completion; none
where a Put finds no place. -/
def Chip.commitEffect (c : Chip) (x : Cmd) : Chip × Option (Nat × Nat) :=
  if x.opcode = 0x85 then c.commitPut x
  else if x.opcode = 0x89 then match c.findKey x.sbKey with
    | none => (c, some (0, 0))
    | some p => ((c.clearEntry p.1).count E.SB_DROPS 1, some (p.2.gen, 0))
  else
    let us := c.wholeOf x
    let c1 := ((c.freeCmdRecs x.h).each x.slots Chip.commitSlot).codeUnits us x.codeKind
    let c2 := if c.writeThrough then c1.programHalves us else c1
    let c3 := { c2 with lg := { c2.lg with
      unitsWritten := c2.lg.unitsWritten + (if x.opcode = 0x01 then x.nlb * lbaOctets (((c.ns x.nsid).map Ns.lbaf).getD 0) / 512 else 0),
      writeCmds := c2.lg.writeCmds + (if x.opcode = 0x01 then 1 else 0) } }
    let written := (c.ft.slots.filter fun s => x.slots.contains s.id).map Slot.unit
    ((c3.noteNewer (written ++ us)).pour, some (0, 0))

/-- The catalogue records of a Put or Drop: a second one where a Put replaces a stashed placeholder (R322). -/
def Chip.bookNeeds (c : Chip) (x : Cmd) : Nat :=
  if x.opcode = 0x85 ∧ (c.book.placeholders.any fun p => decide (p.2.key = x.sbKey)) then 2 else 1

/-- Its journal records have room (R137, R138), in write-through mode with the pages that they are programmed to (R266), and
its catalogue record (R146, R323). -/
def Chip.recordsFit (c : Chip) (x : Cmd) : Bool :=
  let need := c.recNeeds x
  (need = [] || (!c.journalFull && (need.all fun p => decide (p.2 ≤ c.recordRoom p.1))
      && (!c.writeThrough || (c.systemRuns (32 * need.length)).isSome)))
    && (!(x.opcode == 0x85 || x.opcode == 0x89) || (decide (c.bookNeeds x ≤ c.bookRoom) && !c.journalFull))

/-- The commit point (R84): the data is in both Crucible copies with every merge read, or, in
write-through mode, programmed; the mirror point has been reached (R343); the whole effect comes about,
the exclusive entries are released, and the command only has its completion to post. -/
def Chip.commit (c : Chip) (x : Cmd) : Chip :=
  let merging := c.rd.tasks.any fun t => decide (t.h = x.h) && t.word.isNone
  if x.phase ≠ .working ∨ x.paused.isSome ∨ !x.writeType ∨ merging ∨ !c.locked x.h ∨ !c.lk.ready x.h ∨ !c.recordsFit x then c
  else if c.splitShort (c.clearsOf x) then (c.undo x.h).enterMaintenance 32 |> fun c => c.fail x.h (dnr stNsNotReady)
  else
    let w := if c.mustProgram x then c.programmed x else (c, true)
    if !w.2 then w.1
    else
      let m := w.1.mirrorPoint x
      if !m.2 then m.1
      else
        let e := m.1.commitEffect x
        match e.2 with
        | none => ((e.1.undo x.h).finish x.h stCapacity 0 0).wakeWaiters x.h
        | some (dw0, dw1) =>
          let c1 := ((e.1.dropReads x.h).clearPending x.h).unlock x.h
          (c1.finish x.h stOk dw0 dw1).wakeWaiters x.h

/-- COMMIT_POINT of a command, or of a transfer staged for the partner, which is applied (R84, R345). -/
def execCommitPoint (t h : Nat) (s : State) : Host.Outcome State Fault Refusal :=
  run s t fun c => match c.cmd h with
    | some x => c.commit x
    | none => match c.pr.xfers.find? fun f => !f.origin && decide (f.h = h) with
      | some f => c.applyXfer f
      | none => c

/-! ### Completion (R36, R78, R343, R352) -/

/-- A completion entry is posted in its turn among those of its queue (R78). A command whose completion a reset has discarded
ends without one (R91). -/
def Chip.complete (c : Chip) (x : Cmd) : Chip :=
  if !c.postable x then c
  else if x.silent then c.dropCmd x.h
  else if (c.earlierPosts x).isEmpty then c.post x
  else c

/-- Its host time is that for which its memory writes stalled for lack of posted-write credit (R37). -/
def execCompletionPost (t : Nat) (p : Served) (s : State) : Host.Outcome State Fault Refusal :=
  run s t fun c => match c.cmd p.h with
    | none => c
    | some x =>
      if !c.postable x then c
      else
        let c1 := c.hostTime p.h (p.hostNs * 1000)
        match c1.cmd p.h with
        | none => c1
        | some y => c1.complete y

/-- The command is past admission and has not ended, and is not paused (R118). -/
def Cmd.running (x : Cmd) : Bool :=
  !x.admin && x.paused.isNone && !x.posted && !x.silent && decide (x.phase = .admitted ∨ x.phase = .working ∨ x.phase = .committed)

/-- DEADLINE_EXPIRED at the promised time (R39): classes 0 and 1 with the cause of their trouble or
OVERRUN; a class 2 command that its path can no longer serve expires from that time on (R58). -/
def Chip.expireAt (c : Chip) (x : Cmd) : Chip :=
  if !x.running ∨ c.nowPs < x.duePs then c
  else if x.cls ≤ 1 then c.expireCmd x.h x.expiry
  else if x.cls = 2 ∧ x.fault then c.expireCmd x.h x.expiry
  else c

/-- A mirrored write past its mirror point whose DONE has not come by its promised time (R351); one whose completion a reset discarded has
none (R91). -/
def Chip.expireMirror (c : Chip) (x : Cmd) : Chip :=
  if x.phase = .ended ∧ x.writeType ∧ c.awaitsDone x.h ∧ x.cls ≤ 1 ∧ x.duePs ≤ c.nowPs ∧ !x.posted ∧ !x.silent then
    ((c.count E.EXPIRED 1).lateEvent 0x21 x.step).expireInside x 0x21
  else c.expireAt x

def execDeadlineExpired (t h : Nat) (s : State) : Host.Outcome State Fault Refusal :=
  run s t fun c => match c.cmd h with
    | none => c
    | some x => c.expireMirror x

/-- A class 2 command still running at CLASS2_LATE_LIMIT (R39). -/
def execClass2LateLimit (t h : Nat) (s : State) : Host.Outcome State Fault Refusal :=
  run s t fun c => match c.cmd h with
    | none => c
    | some x =>
      if x.running ∧ x.cls = 2 ∧ x.fetchT + c.get E.CLASS2_LATE_LIMIT * cycPerMs ≤ c.now then
        c.expireCmd h x.expiry
      else c

/-! ### Link errors of a command (R37, R117) -/

/-- An admin command with data from the host: those whose opcode says so, but for the queue creations, the deletion and the queries, which
carry none. -/
def Cmd.adminData (x : Cmd) : Bool :=
  x.admin && decide (x.opcode % 4 = 1 ∧ x.opcode ≠ 0x01 ∧ x.opcode ≠ 0x05 ∧ (x.opcode ≠ 0x0D ∨ bits (x.dw 10) 3 0 = 0))

/-- The command has memory reads of its data under way: an I/O command admitted, before its commit point, paused or not, and an admin
command with data. -/
def Cmd.dmaOpen (x : Cmd) : Bool :=
  !x.posted && !x.silent && (if x.admin then x.adminData && decide (x.phase = .fetched ∨ x.phase = .working) else decide (x.phase = .admitted ∨ x.phase = .working))

/-- A failed memory read ends the command with Data Transfer Error, charges the port and is reported
through AER; the delay is host time (R37, R117). -/
def Chip.linkError (c : Chip) (h code : Nat) (delayNs : Nat) : Chip :=
  match c.cmd h with
  | none => c
  | some x =>
    if !x.dmaOpen then c
    else
      let c0 := (c.hostTime h (delayNs * 1000)).eventFirst 0x285 0 1 noUnit [fnItem x.port x.fn]
      let c1 := ((c0.undo h).dropReads h).dropTasks h
      let c2 := c1.finish h stDataTransfer 0 0
      ((c2.aer x.port x.fn code).chargeFault (mkUnit kPORT x.port)).wakeWaiters h

/-- A memory read that a function-level reset left open fails in its drain: no command is left to complete, and it is reported and charges
the port as any other (R116, R117). -/
def Chip.drainError (c : Chip) (h code : Nat) (counter : Option Nat) : Chip :=
  match c.ports.find? fun p => p.drains.any fun d => decide (d.2 = h ∧ (c.fnOf p.port d.1).flr = 1) with
  | none => c
  | some p =>
    let fn := ((p.drains.find? fun d => decide (d.2 = h)).map Prod.fst).getD 0
    let left := p.drains.filter fun d => decide (d.2 ≠ h)
    let c1 := match counter with
      | some e => c.countAt e p.port 1
      | none => c
    (((c1.setPort { p with drains := left }).eventFirst 0x285 0 1 noUnit [fnItem p.port fn]).aer p.port fn code).chargeFault (mkUnit kPORT p.port)

/-- AER codes: 0 completion timeout, 1 Unsupported Request received, 2 Completer Abort, 3 poison received, 4 a request
of the host answered with Unsupported Request. -/
def execCompletionTimeout (t h : Nat) (s : State) : Host.Outcome State Fault Refusal :=
  runUnits s t fun c => match c.cmd h with
    | none => c.drainError h 0 (some E.CPL_TIMEOUTS)
    | some x =>
      if x.dmaOpen then (c.countAt E.CPL_TIMEOUTS x.port 1).linkError h 0 (c.timeoutNs x.port x.fn - c.get E.HOST_LAT_LIMIT)
      else c

def execErrorCompletionReceived (t h kind : Nat) (s : State) : Host.Outcome State Fault Refusal :=
  runUnits s t fun c => match c.cmd h with
    | none => c.drainError h (1 + kind % 3) (if kind % 3 = 2 then some E.POISONED_RX else none)
    | some x =>
      if !x.dmaOpen then c
      else (if kind % 3 = 2 then c.countAt E.POISONED_RX x.port 1 else c).linkError h (1 + kind % 3) 0

/-- A poisoned write is dropped and reported through AER (R117). -/
def execPoisonedWriteReceived (t port : Nat) (bar : BarOf) (s : State) : Host.Outcome State Fault Refusal :=
  run s t fun c => ((c.countAt E.POISONED_RX port 1).eventFirst 0x285 0 1 noUnit [fnItem port bar.fn]).aer port bar.fn 3

end Sys2Proof.Machine
end

