-- ==== Sys2Proof/Machine/Pair.lean ====
section
/-! DEFINITION. The pair: link, frames, joining, resynchronisation and mailboxes (R336 to R358). -/
namespace Sys2Proof.Machine

/-! ### The link (R336, R341) -/

/-- The widest set that has trained, not below RALLY_MIN_LANES (R336). -/
def Chip.lanesUp (c : Chip) (lanes : Nat) : Nat :=
  let w := if 8 ≤ lanes then 8 else if 4 ≤ lanes then 4 else if 2 ≤ lanes then 2 else lanes
  if w < c.get E.RALLY_MIN_LANES then 0 else w

/-- The link trains (R336): its lanes and the unit's state. In single mode it is not used (R342). -/
def Chip.trainRally (c : Chip) (lanes : Nat) : Chip :=
  if c.boot.pairMode = 0 ∨ c.own (mkUnit kRALLY 0) = 0 ∨ c.own (mkUnit kRALLY 0) = 4 then c
  else
    let w := c.lanesUp lanes
    if w = 0 then c
    else
      let p := { c.pr with up := true, lanes := w, lastRx := c.now, lastAckT := c.now, helloSent := false, refused := false }
      (({ c with pr := p }).setDegraded (mkUnit kRALLY 0) (decide (w < 8))).event 0x481 0 1 (c.unitIdent (mkUnit kRALLY 0)) [w]

def execRallyLinkTraining (t lanes : Nat) (s : State) : Host.Outcome State Fault Refusal :=
  runUnits s t fun c => c.trainRally lanes

/-- The physical link goes down: the partner is lost, and no frame passes. -/
def Chip.rallyDown (c : Chip) : Chip :=
  if !c.pr.up then c
  else
    let c1 := c.losePartner 0
    ({ c1 with pr := { c1.pr with up := false, lanes := 0 } }).event 0x481 1 1 (c.unitIdent (mkUnit kRALLY 0)) []

def execRallyLinkDown (t : Nat) (s : State) : Host.Outcome State Fault Refusal :=
  runUnits s t Chip.rallyDown

/-- No valid frame for RALLY_LOSS_TIME (R341). -/
def Chip.rallySilent (c : Chip) : Chip :=
  if c.pr.joined ∧ c.pr.lastRx + c.get E.RALLY_LOSS_TIME * cycPerUs ≤ c.now then c.losePartner 1 else c

def execRallyLossTime (t : Nat) (s : State) : Host.Outcome State Fault Refusal :=
  run s t Chip.rallySilent

/-- No advance of the acknowledged value for RALLY_ACK_TIMEOUT: replay from the oldest (R340). -/
def Chip.ackTimeout (c : Chip) : Chip :=
  match c.pr.window with
  | [] => c
  | f :: _ => if c.rallyOn ∧ c.pr.lastAckT + c.get E.RALLY_ACK_TIMEOUT * cycPerUs ≤ c.now then c.replayFrom f.seq else c

def execRallyAckTimeout (t : Nat) (s : State) : Host.Outcome State Fault Refusal :=
  runUnits s t Chip.ackTimeout

/-- A joined side with nothing to send for 1 µs sends an ACK (R340). -/
def execAckIdle (t : Nat) (s : State) : Host.Outcome State Fault Refusal :=
  run s t fun c => c.when (c.pr.joined && decide (c.pr.queue = []) && decide (c.pr.lastAckT + cycPerUs ≤ c.now)) fun c => c.sendPlain 2 []

/-- A frame whose CRC fails is discarded, with one NAK for the expected sequence (R340). -/
def execRallyFrameDiscard (t : Nat) (s : State) : Host.Outcome State Fault Refusal :=
  run s t fun c => c.when c.rallyOn Chip.nakOnce

/-! ### HELLO and joining (R339, R342) -/

/-- The HELLO of this side. -/
def Chip.sendHello (c : Chip) : Chip :=
  ({ c with pr := { c.pr with helloSent := true } }).sendPlain 1
    [0x10000, c.pr.strap, c.fuse.variant, c.pr.lanes, c.get E.PAIR_STATE, c.get E.PAIR_IDENTITY, c.get E.BOOT_COUNT,
     c.pr.marks.length, c.pr.unconfirmed.length]

/-- HELLO is sent every 1 ms until the partner's arrives. -/
def execHelloTimer (t : Nat) (s : State) : Host.Outcome State Fault Refusal :=
  run s t fun c => c.when (c.rallyOn && !c.pr.joined && !c.pr.refused) Chip.sendHello

/-- The reasons for which a HELLO is refused, and, at the first join, a C1 that holds a namespace. -/
def Chip.helloBad (c : Chip) (f : HelloFrame) : Bool :=
  let own := c.get E.PAIR_IDENTITY
  decide (f.index = c.pr.strap) || decide (f.variant ≠ 0) || decide (f.protocol ≠ 0x10000)
    || (decide (f.identity ≠ own) && decide (f.identity ≠ 0) && decide (own ≠ 0))
    || (decide (own = 0 ∧ f.identity = 0 ∧ c.pr.strap = 1) && !c.ft.nss.isEmpty)

/-- The pair identity after a join: the serial number of C0, or the one a side holds already. -/
def Chip.joinIdentity (c : Chip) (f : HelloFrame) : Nat :=
  let own := c.get E.PAIR_IDENTITY
  if own ≠ 0 then own else if f.identity ≠ 0 then f.identity else if c.pr.strap = 0 then c.fuse.serial else 0

/-- The slots granted at a join: MIRROR_SLOTS, at most half of one copy, with their energy credits
(R344). -/
def Chip.grantSlots (c : Chip) : Chip :=
  let g := min (c.get E.MIRROR_SLOTS) (slotsOf c.ft.sizeMib / 2)
  { c with pr := { c.pr with grant := g, slotsIn := 0, slotsOut := 0 }, st := { c.st with dirty := c.st.dirty + g } }

/-- A granule list's namespace k of the partner at a first join (R342). -/
def partnerNs (n k : Nat) : Option Ns :=
  if Config.pairNs n k 0 % 2 = 0 then none
  else
    let lbaf := Config.pairNs n k 1 % 6
    let perG := 2 ^ 30 / lbaOctets lbaf
    some { nsid := k + 1, nsze := Config.pairNs n k 5 * perG, ncap := Config.pairNs n k 6 * perG, lbaf := lbaf,
           ext := decide (Config.pairNs n k 2 % 2 = 1), p2 := decide (Config.pairNs n k 3 % 2 = 1), granules := Config.pairNsList n k 0,
           attached := Config.pairNsList n k 1, key := Config.pairNs n k 4, wrapped := 0, formatting := false, deleting := false, detaching := [] }

/-- At the first join C1 takes C0's namespaces with their keys and configuration; no frame of R339 carries them, so that they are
free values (R342, R347, log entry 23). -/
def Chip.takePartnerNss (c : Chip) : Chip :=
  let nss := ((List.range 1024).filterMap (partnerNs c.free)).map fun n => { n with wrapped := c.wrap n.key }
  { c with ft := { c.ft with nss := nss }, free := c.free + 1 }

/-- After a join: the own mailbox cells go to the partner, a controller that was not paired yet is
SOLO, and the maps and lists are exchanged unless a detach is in force (R353, R356). -/
def Chip.afterJoin (c : Chip) : Chip :=
  let own := 32 * c.ownIndex
  let c1 := c.each (List.range 32) fun c k => c.sendFrame 0x30 0 true [own + k, 0, c.getAt (E.MBOX + own + k) 0] []
  let state := c.get E.PAIR_STATE
  let c2 := if state = 4 then c1.setPairState 1 0 else c1
  if c.get E.DETACHED = 0 then c2.sendMaps else c2

/-- A HELLO arrives (R342): refused with an event, or the pair joins: at the first join every
allocated granule of C0 is marked. The partner's reported CTL state, which no frame of R339 carries, is a free value
from then on (R15, log entry 23). -/
def Chip.takeHello (c : Chip) (hd : RHdr) (f : HelloFrame) : Chip :=
  if c.pr.joined then c
  else if c.helloBad f then ({ c with pr := { c.pr with refused := true } }).event 0x482 0 1 noUnit [f.index, f.variant]
  else
    let first := decide (c.get E.PAIR_IDENTITY = 0 ∧ f.identity = 0)
    let c0 := if c.pr.helloSent then c else c.sendHello
    let c1 := c0.set E.PAIR_IDENTITY (c.joinIdentity f)
    let c2 := if !first then c1
      else if c.pr.strap = 0 then c1.markRegions (c1.ft.nss.flatMap Ns.granules)
      else c1.takePartnerNss
    let key := if first then Config.pairKey 0 (c2.get E.PAIR_IDENTITY) else c2.pr.pairKey
    let p := { c2.pr with joined := true, joinWait := c2.pr.joinWait && decide (c2.get E.DETACHED = 0), recvNext := hd.seq, acked := 0, window := [],
                          queue := [], credits := 256, back := 0, nakFor := none, partnerIndex := f.index, partnerCtl := 1 + Config.partnerCtl c2.free % 4,
                          partnerState := f.state, partnerBoot := f.boot, pairKey := key, peerMarks := [], peerUnconf := [] }
    let c3 := ({ c2 with pr := p, free := c2.free + 1 }).grantSlots
    c3.afterJoin

def execHello (t : Nat) (hd : RHdr) (hello : HelloFrame) (s : State) : Host.Outcome State Fault Refusal :=
  run s t fun c => c.takePlain hd fun c => c.takeHello hd hello

/-- At start-up, with no decision by PAIR_JOIN_WAIT from the end of step 3, the controller goes SOLO (R342, R435). -/
def execPairJoinWait (t : Nat) (s : State) : Host.Outcome State Fault Refusal :=
  run s t fun c =>
    let from3 := c.fw.startT + maxOf (c.fw.startTimes.take 3) * cycPerUs
    c.when (c.pr.joinWait && !c.pr.joined && decide (from3 + c.get E.PAIR_JOIN_WAIT * cycPerSec ≤ c.now)) fun c =>
    ({ c with pr := { c.pr with joinWait := false } }).setPairState 1 4

/-! ### Acknowledgement and replay (R340) -/

def execAck (t : Nat) (hd : RHdr) (s : State) : Host.Outcome State Fault Refusal :=
  run s t fun c => c.takePlain hd Chip.resyncDone

def execNak (t : Nat) (hd : RHdr) (expected : Nat) (s : State) : Host.Outcome State Fault Refusal :=
  runUnits s t fun c => c.takePlain hd fun c => c.replayFrom expected

/-! ### Mirrored transfers (R345) -/


/-- A copied unit (R354): applied unless a mirrored write of it has been applied since the granule
start. Its frames, data (mark 0) and metadata (mark 1), are gathered until the last one. -/
def Chip.takeCopy (c : Chip) (hd : RHdr) (m : MirrorFrame) (mark state : Nat) : Chip :=
  let bs := m.blocks.map fun b => { b with info := mark }
  let f0 : Xfer := { id := hd.xfer, h := 0, origin := false, slots := 0, mirror := false, done := false, nsid := m.nsid, first := m.unit,
                     count := m.count, fmt := m.fmt, whole := true, slba := m.slba, blocks := [], kind := 0x21, sent := false }
  let f := (c.pr.xfers.find? fun f => !f.origin && decide (f.id = hd.xfer)).getD f0
  let g := { f with blocks := f.blocks ++ bs }
  let rest := drop' (fun (q : Xfer) => !q.origin && decide (q.id = hd.xfer)) c.pr.xfers
  if !hd.last ∧ state = 0 then
    let l := rest ++ [g]
    { c with pr := { c.pr with xfers := l } }
  else
    let c1 := { c with pr := { c.pr with xfers := rest } }
    if c1.pr.newer.contains m.unit then c1
    else if state ≠ 0 then c1.codeUnits [m.unit] state
    else
      let blocks := (List.range (lbasPerUnit m.fmt)).map g.lba
      let c2 := c1.takeSlot 0 m.unit m.nsid m.fmt blocks false
      (c2.commitSlot c2.ft.nextSlot).pour

/-- A data or metadata frame: the first one opens the staged transfer and takes its entry, the last
one completes it, and a complete transfer is applied when it can be. Metadata of a copied unit belongs to its copy. -/
def Chip.takeMirror (c : Chip) (hd : RHdr) (m : MirrorFrame) (mark : Nat) : Chip :=
  if c.pr.xfers.any fun f => !f.origin && decide (f.id = hd.xfer ∧ f.kind = 0x21) then c.takeCopy hd m mark 0 else
  let bs := m.blocks.map fun b => { b with info := mark }
  let c1 := if c.pr.xfers.any fun f => !f.origin && decide (f.id = hd.xfer) then c
    else
      let f : Xfer := { id := hd.xfer, h := c.nextH, origin := false, slots := 0, mirror := false, done := false, nsid := m.nsid,
                        first := m.unit, count := m.count, fmt := m.fmt, whole := m.whole, slba := m.slba, blocks := [], kind := 0,
                        sent := false }
      let l := c.pr.xfers ++ [f]
      ({ c with pr := { c.pr with xfers := l }, nextH := c.nextH + 1 }).lockXfer f
  match c1.pr.xfers.find? fun f => !f.origin && decide (f.id = hd.xfer) with
  | none => c1
  | some f =>
    let g := { f with blocks := f.blocks ++ bs, mirror := hd.last }
    let l := change (fun q => decide (q = f)) (fun _ => g) c1.pr.xfers
    let c2 := { c1 with pr := { c1.pr with xfers := l } }
    if hd.last then c2.applyXfer g else c2

def execMirrorData (t : Nat) (hd : RHdr) (m : MirrorFrame) (s : State) : Host.Outcome State Fault Refusal :=
  run s t fun c => c.takeSeq hd fun c => c.takeMirror hd m 0

def execMirrorMeta (t : Nat) (hd : RHdr) (m : MirrorFrame) (s : State) : Host.Outcome State Fault Refusal :=
  run s t fun c => c.takeSeq hd fun c => c.takeMirror hd m 1

/-- A mirrored catalogue change (R345, R347): Put by insertion with the partner's entry, whose fields are key, namespace, starting
LBA, length, flags and generation; Drop clears the entry. -/
def Chip.mirrorBook (c : Chip) (op : Nat) (entry : List Nat) : Chip :=
  let key := nth entry 0
  if op = 3 then
    let e : SbEntry := { key := key, nsid := nth entry 1, slba := nth entry 2, length := nth entry 3, gen := nth entry 5,
                         flags := nth entry 4, pending := 0 }
    match c.insertPlace key with
    | some p => c.stashReport (c.writeEntry p.1 e)
    | none => c
  else match c.findKey key with
    | some p => c.clearEntry p.1
    | none => c

/-- A map operation applies at its single frame (R345): 1 deallocate, 2 write zero, 3 Put, 4 Drop. -/
def Chip.takeMap (c : Chip) (hd : RHdr) (op unit count : Nat) (entry : List Nat) : Chip :=
  let us := (List.range count).map (unit + ·)
  let c1 := if op = 1 ∨ op = 2 then
      let c' := c.codeUnits us op
      let seen := c'.pr.newer ++ us
      { c' with pr := { c'.pr with newer := seen } }
    else if c.bookOn then c.mirrorBook op entry else c
  c1.sendFrame 0x13 hd.xfer true [] []

def execMirrorMap (t : Nat) (hd : RHdr) (op unit _nsid count : Nat) (entry : List Nat) (s : State) : Host.Outcome State Fault Refusal :=
  run s t fun c => c.takeSeq hd fun c => c.takeMap hd op unit count entry

/-- DONE for a transfer (R343): the origin may post its completion; a replay is complete. -/
def Chip.takeDone (c : Chip) (hd : RHdr) : Chip :=
  match c.pr.xfers.find? fun f => f.origin && decide (f.id = hd.xfer) with
  | none => c
  | some f =>
    let l := c.pr.xfers.erase f
    (({ c with pr := { c.pr with xfers := l } }).mirrorEnds f.h).resyncDone

def execDone (t : Nat) (hd : RHdr) (s : State) : Host.Outcome State Fault Refusal :=
  run s t fun c => c.takeSeq hd fun c => c.takeDone hd

/-- ABORT discards the staged transfer (R345). -/
def execAbortFrame (t : Nat) (hd : RHdr) (s : State) : Host.Outcome State Fault Refusal :=
  run s t fun c => c.takeSeq hd fun c => match c.pr.xfers.find? fun f => !f.origin && decide (f.id = hd.xfer) with
    | none => c
    | some f => c.discardXfer f

/-! ### Resynchronisation (R353, R354) -/

/-- A control frame: a map chunk, entries, granule start, granule done, or the end of the exchange,
at which a side that is SOLO, or that has not decided since it started, decides. -/
def Chip.takeCtrl (c : Chip) (op index : Nat) (granules : List Nat) (entries : List UnconfEntry) : Chip :=
  if op = 1 then
    let l := c.pr.peerMarks ++ granules.filter fun g => !c.pr.peerMarks.contains g
    { c with pr := { c.pr with peerMarks := l } }
  else if op = 2 then
    let l := c.pr.peerUnconf ++ entries
    { c with pr := { c.pr with peerUnconf := l } }
  else if op = 3 then
    let l := drop' (fun u => decide (u / 65536 = index)) c.pr.newer
    { c with pr := { c.pr with newer := l, startSeen := index :: c.pr.startSeen } }
  else if op = 4 then
    let p := c.pr.pendingGr.erase index
    let m := c.pr.peerMarks.erase index
    let st := c.pr.startSeen.erase index
    ({ c with pr := { c.pr with pendingGr := p, peerMarks := m, startSeen := st } }).resyncDone
  else if c.get E.PAIR_STATE = 1 ∨ c.pr.joinWait then c.decidePair else c

def execResyncCtrl (t : Nat) (hd : RHdr) (op index : Nat) (granules : List Nat) (entries : List UnconfEntry) (s : State) :
    Host.Outcome State Fault Refusal :=
  run s t fun c => c.takeSeq hd fun c => c.takeCtrl op index granules entries

def execResyncData (t : Nat) (hd : RHdr) (m : MirrorFrame) (unitState : Nat) (s : State) : Host.Outcome State Fault Refusal :=
  run s t fun c => c.takeSeq hd fun c => c.takeCopy hd m 0 unitState

/-- The source replays what has waited for its maps, and copies a marked granule under RB, held to RESYNC_RATE_MAX (R354): granule start, its
units under a shared lock, and granule done once the last of them has gone out. A granule with a
write on its way waits. -/
def Chip.copyGranule (c0 : Chip) : Chip :=
  let c := if c0.get E.PAIR_STATE = 2 then c0.replayReady else c0
  let paced := decide (c.pr.resyncT + (c.get E.RESYNC_BYTES - c.pr.resyncBytes) * 800 / c.get E.RESYNC_RATE_MAX ≤ c.now)
  let sent := c.pr.window.filterMap fun f => if f.kind = 0x20 ∧ nth f.fields 1 = 4 then some (nth f.fields 2) else none
  match (c.pr.marks.filter fun g => decide (g < 524288) && !sent.contains g).head? with
  | none =>
    if c.pr.marks.contains 524288 ∧ c.get E.PAIR_STATE = 2 ∧ c.pr.copying = none ∧ !sent.contains 524288 then
      -- the catalogue region: every entry goes as a Put
      let c1 := c.sendFrame 0x20 0 true [3, 524288] []
      let c2 := c1.each (c.book.cells ++ c.book.stash) fun c p =>
        let id := c.pr.nextXfer
        ({ c with pr := { c.pr with nextXfer := (id + 1) % 2 ^ 32 } }).sendFrame 0x12 id true [0, 3, p.2.nsid, 0]
          [{ data := p.2.word false, info := 0 }]
      c2.sendFrame 0x20 0 true [4, 524288] []
    else c.resyncDone
  | some g =>
    if c.get E.PAIR_STATE ≠ 2 ∨ c.pr.copying ≠ none ∨ !paced ∨ !c.locksFree 1 then c
    else if !c.sliceLoaded (g * 65536) then c.touchSlice (g * 65536)
    else
      let busy := match c.ownerOf (g * 65536) with
        | none => false
        | some (n, u) => c.lk.main.any fun l => l.excl && l.overlaps n.nsid u (u + 65535)
      if busy then c
      else
        let c1 := ({ c with pr := { c.pr with copying := some g } }).sendFrame 0x20 0 true [3, g] []
        let c2 := match c.ownerOf (g * 65536) with
          | none => c1
          | some (n, u) => c1.lockRuns 0 [(n.nsid, u, u + 65535)] false
        (c2.each ((List.range 65536).map (g * 65536 + ·)) fun c u => c.pairUnit u false).copyEnds

def execResyncCopy (t : Nat) (s : State) : Host.Outcome State Fault Refusal :=
  run s t Chip.copyGranule

/-! ### Remote reads (R348, R354) -/

/-- A REMOTE_READ is admitted by this side's own test and answered (R354): data at once from the
Crucible or a code, loss, a refusal, or the data of a flash read. A unit whose map slice is not loaded is refused, and its
slice is loaded (R139). -/
def Chip.takeRemote (c : Chip) (hd : RHdr) (unit mask left : Nat) : Chip :=
  let cws := (List.range 4).filter fun k => bit mask k == 1
  match c.ownerOf unit with
  | none => c.sendFrame 0x23 hd.xfer true [1] []
  | some (n, _) =>
    if (c.newest unit).isNone && !c.sliceLoaded unit then (c.touchSlice unit).sendFrame 0x23 hd.xfer true [1] []
    else if c.isLost unit then c.sendFrame 0x23 hd.xfer true [2] []
    else match c.unitNow n unit with
      | some bs => c.sendAnswer hd.xfer (cws.map fun k => wordOfLbas n.lbaf k bs)
      | none =>
        let ts := c.touches [(unit, cws)]
        let duePs := c.nowPs + left * 1000
        let fits := ts.all fun t => decide (c.nowPs + c.diePath t ts duePs ≤ duePs) && !c.touchOut t
        let id := 2 ^ 40 + hd.xfer
        match fits, c.placeAll id (mergeNeeds (c.readTokens ts 1)) duePs with
        | true, some items =>
          let l := c.um.ledger ++ items
          ({ c with um := { c.um with ledger := l } }).startRead id unit (c.mapOf unit) cws 0 ownAnswer
        | _, _ => c.sendFrame 0x23 hd.xfer true [1] []

def execRemoteRead (t : Nat) (hd : RHdr) (unit mask _nsid left : Nat) (s : State) : Host.Outcome State Fault Refusal :=
  run s t fun c => c.takeSeq hd fun c => c.takeRemote hd unit mask left

/-- The answer to a REMOTE_READ comes in frames, gathered until the last one (R338, R348). -/
def Chip.gatherAnswer (c : Chip) (hd : RHdr) (blocks : List Blk) : Chip × List Blk :=
  let isIt := fun (f : Xfer) => !f.origin && decide (f.id = hd.xfer ∧ f.kind = 0x23)
  let all := (((c.pr.xfers.find? isIt).map Xfer.blocks).getD []) ++ blocks
  let rest := drop' isIt c.pr.xfers
  let f : Xfer := { id := hd.xfer, h := 0, origin := false, slots := 0, mirror := false, done := false, nsid := 0, first := 0, count := 0,
                    fmt := 0, whole := false, slba := 0, blocks := all, kind := 0x23, sent := false }
  let l := if hd.last then rest else rest ++ [f]
  ({ c with pr := { c.pr with xfers := l } }, all)

/-- The answer to a REMOTE_READ (R348, R354): each waiting codeword takes its data; a codeword asked
for at step 5 is queued for reallocation, or is lost; a read of a pending granule is refused with
cause MIRROR, or its unit is lost. -/
def Chip.takeAnswer (c : Chip) (hd : RHdr) (result : Nat) (blocks : List Blk) : Chip :=
  let octets := joinOctets 1024 (blocks.map Blk.data)
  let mine := c.pr.remote.filter fun p => decide (p.1 = hd.xfer)
  let rest := drop' (fun (p : Nat × Nat) => decide (p.1 = hd.xfer)) c.pr.remote
  let c1 := { c with pr := { c.pr with remote := rest } }
  let ids := mine.map Prod.snd
  c1.each (ids.zip (List.range ids.length)) fun c p => match c.taskOf p.1 with
    | none => c
    | some t =>
      let w := octets / 2 ^ (33280 * p.2) % 2 ^ 33280
      if result = 0 then
        if t.step = 6 then
          ((((c.setTask { t with word := some w }).queueRealloc t.unit t.entry t.cw w).event 0x48B 0 1 noUnit
            [t.unit % 2 ^ 20, t.unit / 2 ^ 20])).unitRead { t with word := some w }
        else (c.setTask { t with word := some w }).unitRead { t with word := some w }
      else if t.step = 6 then c.loseTask t
      else if result = 2 then c.endLost t.h
      else match c.cmd t.h with
        | none => c
        | some x => if 3 ≤ x.cls then c.setTask { t with raTried := true } else (c.dropTasks t.h).refuse x [0x0D] x.smallestUs

def Chip.takeRemoteData (c : Chip) (hd : RHdr) (result : Nat) (blocks : List Blk) : Chip :=
  let g := c.gatherAnswer hd blocks
  if hd.last then g.1.takeAnswer hd result g.2 else g.1

def execRemoteData (t : Nat) (hd : RHdr) (result : Nat) (blocks : List Blk) (s : State) : Host.Outcome State Fault Refusal :=
  run s t fun c => c.takeSeq hd fun c => c.takeRemoteData hd result blocks

/-! ### Mailboxes (R356) -/

/-- A cell can be written by C0 below 32 and by C1 from 32 on. -/
def Chip.ownCell (c : Chip) (cell : Nat) : Bool := decide (cell / 32 % 2 = c.ownIndex)

/-- The replica of a cell: D5840 and D5841 read alike. -/
def Chip.setCell (c : Chip) (cell v : Nat) : Chip :=
  if cell < 64 then (c.set (E.MBOX + cell) v).set (E.MBOX_FENCED + cell) v else c

/-- A write of a cell of this controller updates the replica and sends MBOX; one of the other
controller's cells is ignored and counted. -/
def Chip.writeCell (c : Chip) (cell v : Nat) (fenced : Bool) : Chip :=
  if c.get E.PAIR_STATE = 4 ∧ c.boot.pairMode = 0 ∧ c.fuse.variant ≠ 0 then c
  else if !c.ownCell cell then (c.count E.MBOX_FOREIGN_WRITES 1).event 0x48A 0 1 noUnit [cell]
  else (c.setCell cell v).sendFrame 0x30 0 true [cell, if fenced then 1 else 0, v] []

def execMboxWrite (t : Nat) (x : Xport) (cell value : Nat) (s : State) : Host.Outcome State Fault Refusal :=
  run s t fun c => c.when (c.isReady && c.xportWrites x && !c.noPair E.MBOX) fun c => c.writeCell cell value false

/-- A fenced write waits for its acknowledgement; with the partner lost it completes with result 2. -/
def Chip.fencedWrite (c : Chip) (x : Xport) (cell v : Nat) : Chip :=
  if !c.ownCell cell then c.writeCell cell v true
  else
    let c1 := c.writeCell cell v true
    if c.pr.joined then
      let l := c1.pr.fences ++ [(cell, Xport.item x, c.now)]
      { c1 with pr := { c1.pr with fences := l } }
    else c1.set E.MBOX_FENCE_RESULT 2

def execMboxFencedWrite (t : Nat) (x : Xport) (cell value : Nat) (s : State) : Host.Outcome State Fault Refusal :=
  run s t fun c => c.when (c.isReady && c.xportWrites x && !c.noPair E.MBOX_FENCED) fun c => c.fencedWrite x cell value

/-- Fenced writes whose acknowledgement has not come within 100 µs complete with result 2 (R356). -/
def Chip.fenceTimeout (c : Chip) : Chip :=
  if c.pr.fences.any fun f => decide (f.2.2 + 100 * cycPerUs ≤ c.now) then
    c.endFences (c.pr.fences.filter fun f => decide (c.now < f.2.2 + 100 * cycPerUs)) 2
  else c

def execMboxFenceTimeout (t : Nat) (s : State) : Host.Outcome State Fault Refusal :=
  run s t Chip.fenceTimeout

/-- A mailbox frame updates the replica of the partner's cell and is acknowledged if fenced. -/
def execMbox (t : Nat) (hd : RHdr) (cell value : Nat) (fenced : Bool) (s : State) : Host.Outcome State Fault Refusal :=
  run s t fun c => c.takeSeq hd fun c =>
    let c1 := c.setCell cell value
    if fenced then c1.sendFrame 0x31 0 true [cell] [] else c1

def execMboxAck (t : Nat) (hd : RHdr) (cell : Nat) (s : State) : Host.Outcome State Fault Refusal :=
  run s t fun c => c.takeSeq hd fun c =>
    c.when (c.pr.fences.any fun f => decide (f.1 = cell)) fun c =>
      c.endFences (c.pr.fences.eraseP fun f => decide (f.1 = cell)) 1

/-! ### NOTICE and Pair Control (R341, R349, R358) -/

/-- A NOTICE (R339), which reports the partner's state: 1 power fail and 2 shutdown lose the partner, 3 detach and 4 rejoin set
what is in force. -/
def Chip.takeNotice (c0 : Chip) (kind state : Nat) : Chip :=
  let c := { c0 with pr := { c0.pr with partnerState := state } }
  if kind = 1 ∨ kind = 2 then c.losePartner 2
  else if kind = 3 then (c.set E.DETACHED 2).setPairState 1 5
  else if kind = 4 then
    let c1 := c.set E.DETACHED 0
    if c1.get E.PAIR_STATE = 1 then c1.sendMaps else c1
  else c

def execNotice (t : Nat) (hd : RHdr) (kind state : Nat) (s : State) : Host.Outcome State Fault Refusal :=
  run s t fun c => c.takeSeq hd fun c => c.takeNotice kind state

/-- Dword 0 of a Pair Control completion. -/
def Chip.pairDword (c : Chip) : Nat :=
  c.get E.PAIR_STATE + (if c.pr.up then 16 else 0) + (if c.get E.DETACHED ≠ 0 then 32 else 0)
    + (if c.pr.source then 64 else 0) + at' (min 0xFFFFFF c.pr.diverged.length) 8

def Chip.pairReply (c : Chip) (h : Nat) : Chip := c.finish h stOk c.pairDword c.pr.marks.length

/-- A Pair Control command that this row serves: fetched, on the admin queue, with its action; the
status row takes the reserved actions, which complete with Invalid Field, as a field that is not zero where R358 has zero does
(DESIGN CHOICE, log entry 67). -/
def Chip.pairCmd (c : Chip) (h action : Nat) (f : Chip → Cmd → Chip) : Chip :=
  c.adminCmd h 0xC9 fun c x =>
    if action = 0 ∧ 3 < bits (x.dw 10) 3 0 then c.fail x.h stInvalidField
    else if bits (x.dw 10) 3 0 ≠ action then c
    else if bits (x.dw 10) 31 4 ≠ 0 ∨ bits (x.dw 11) 31 1 ≠ 0 then c.fail x.h stInvalidField
    else if action ≠ 0 ∧ c.boot.pairMode = 0 then c.fail h stSequence
    else f c x

def execPairControlStatus (t h : Nat) (s : State) : Host.Outcome State Fault Refusal :=
  run s t fun c => c.pairCmd h 0 fun c _ => c.pairReply h

def execPairControlChooseSource (t h : Nat) (s : State) : Host.Outcome State Fault Refusal :=
  run s t fun c => c.pairCmd h 1 fun c x =>
    if c.get E.PAIR_STATE ≠ 3 then c.fail h stSequence else (c.chooseSource (bit (x.dw 11) 0)).pairReply h

def execPairControlDetach (t h : Nat) (s : State) : Host.Outcome State Fault Refusal :=
  run s t fun c => c.pairCmd h 2 fun c _ =>
    if c.get E.PAIR_STATE = 3 ∨ c.get E.DETACHED ≠ 0 then c.fail h stSequence
    else (((c.sendFrame 0x40 0 true [3, 1] []).set E.DETACHED 1).setPairState 1 5).pairReply h

def execPairControlRejoin (t h : Nat) (s : State) : Host.Outcome State Fault Refusal :=
  run s t fun c => c.pairCmd h 3 fun c _ =>
    if c.get E.DETACHED = 0 then c.fail h stSequence
    else
      let c1 := (c.set E.DETACHED 0).sendFrame 0x40 0 true [4, c.get E.PAIR_STATE] []
      (if c1.pr.joined then c1.sendMaps else c1).pairReply h

/-! ### The dirty map (R352) -/

/-- The map and the list are programmed under SY to both system-area copies: four 16 KiB pages of
bitmap and eight of entries, on the copies whose channels are not RETIRED. -/
def execDirtyMapProgram (t : Nat) (s : State) : Host.Outcome State Fault Refusal :=
  run s t fun c => c.when c.pr.mapDirty.isSome fun c =>
    ({ c with pr := c.pr.saved }).programCopies 12

end Sys2Proof.Machine
end

