-- ==== Sys2Proof/Machine/PowerFail.lean ====
section
/-! DEFINITION. The steps of the power-fail sequence, which also run for a full fundamental reset and a
shutdown, and the Hallmark (R288 to R295, R437). -/
namespace Sys2Proof.Machine

/-- Dirty slots: committed newest versions, in commit order (R281, R291 step 3). -/
def Chip.dirtySlots (c : Chip) : List Slot :=
  let l := c.ft.slots.filter fun s => s.wseq.isSome && decide (c.ft.dir.get 0 s.unit = s.id)
  l.mergeSort fun a b => decide (a.wseq.getD 0 = b.wseq.getD 0) || serialLt 32 (a.wseq.getD 0) (b.wseq.getD 0)

/-- The slots that step 3 programs: all of them, or those issued before the usable energy fell to the
reserve, on to the next command boundary (R292). -/
def flushed (dirty : List Slot) (issued : Option Nat) : List Slot :=
  match issued with
  | none => dirty
  | some n =>
    match dirty[n - 1]? with
    | none => if n = 0 then [] else dirty
    | some s => if n = 0 then [] else dirty.take n ++ (dirty.drop n).takeWhile fun q => decide (q.h = s.h)

/-- A place in the flush reserve, programmed with the words of a page and folded into the parity of its row (R267, R291). The pages count as
system pages, host slots among them (DESIGN CHOICE, log entry 69). -/
def Chip.reservePlace (c : Chip) (ws : List Nat) : Option (Nat × Chip) :=
  (c.sb.sbs.find? fun s => s.kind == .reserve && s.state == .open && decide (s.used < s.dataSlots)).map fun s =>
    let row := s.used / 31
    (mkEntry s.idx row (nth (dataPos s.idx row false) (s.used % 31)), (c.usePage s.idx ws).countSystem 1)

/-- One dirty slot programmed into the flush reserve, with its PLACE record; none where the reserve
has no place. -/
def Chip.flushSlot (c : Chip) (s : Slot) : Chip :=
  match c.reservePlace (s.words c.seqNext) with
  | none => c
  | some (e, c1) =>
    let dir := c1.ft.dir.put 0 s.unit 0
    (({ c1 with ft := { c1.ft with dir := dir } }).mapChange 0 s.unit 1 e).placeUnit e s.unit

/-- Step 1 of R291: fetch stops; commands before their commit point end without effect, and no
completion entry is posted. -/
def Chip.stopCommands (c : Chip) : Chip :=
  let c1 := c.each c.cmds fun c x => (if x.committed then c else c.undo x.h).dropTasks x.h
  { c1 with cmds := [], lk := { main := [], held := [] }, um := { c1.um with ledger := [], work := [], raInflight := [] },
            boot := { c1.boot with fetchHeld := true } }

/-- An open row closes where it stands by a small write: the data positions not yet programmed are void, and its parity, over the pages that
are, is programmed at its own positions (R243, R244). The next page of a system superblock goes to its next row. -/
def Chip.cutRow (c : Chip) (id : Nat) : Chip :=
  match c.rowOf id with
  | none => c
  | some r => match c.sbOf r.sb with
    | none => c.dropRow id
    | some s =>
      let voids := (dataPos s.idx r.row s.p2).filter fun m => !r.passed.contains m
      let kept := r.folded.filter fun p => !voids.contains p.1
      let used := if s.kind = .system ∨ s.kind = .reserve then 31 * (r.row + 1) else s.used
      let ps := parityPos s.idx r.row s.p2
      let c1 := ((c.setSb { s with used := used }).smallWrite s.idx r.row voids false false kept).dropRow id
      c1.each ((ps.zip (List.range ps.length)).filter fun p => !r.passed.contains p.1) fun c p => c.sendPage s r.row p.1 (parityWords s r.row p.2 kept)

/-- Step 2 of R291: reads are discarded, SLC programs have run to their end, and everything else on
the dies ends with Reset LUN; open rows close by small writes (R244), and a QLC destination that was
being written is taken as empty (R150, R191). Replacement blocks that were not complete are to be erased, which is reported, and
their superblocks are taken again (R253, R260). -/
def Chip.stopMedia (c : Chip) : Chip :=
  let quiet := c.md.dies.map fun d => { d with ops := [] }
  let c1 := { c with md := { c.md with dies := quiet }, rd := { c.rd with tasks := [], pins := [] }, sb := { c.sb with patrolAt := none } }
  let c2 := c1.each (c1.sb.rows.map Row.id) Chip.cutRow
  let c3 := c2.each (c2.sb.sbs.filter fun s => s.state == .open && (s.kind == .host)) fun c s => c.stopRows s.idx
  let c4 := c3.each (c3.sb.sbs.filter fun s => s.state == .open && s.qlc) fun c s => c.releaseSb s.idx
  let c5 := c4.each c4.sb.repls fun c r =>
    (((c.setBlock { c.blockOf r.lun r.block with sb := none }).gatherErase r.lun r.block 0 max20).count E.RB_RESTARTS 1).event 0x183 0 1 noUnit [r.sb, r.pos]
  let idle := c5.sb.sbs.map fun s => if s.state == .closed then { s with inWork := false } else s
  { c5 with sb := { c5.sb with held := [], repls := [], sbs := idle }, st := { c5.st with proof := false, tapCheck := 0 } }

/-- Every half of a stream that holds records is programmed, padded (R291 step 4). -/
def Chip.flushStream (c : Chip) (s : JStream) : Chip :=
  let halves := [s.full, s.active].filter fun l => decide (l ≠ [])
  let r := (c.systemRuns (16 * halves.length) (halvesPage halves)).getD ([], c.countSystem (16 * halves.length))
  (r.2.addPages s.stream halves r.1).setStream { s with active := [], full := [] }

/-- The open catalogue pages are programmed after the last data slot (R323). -/
def Chip.flushBook (c : Chip) : Chip :=
  let cat := [c.book.full, c.book.page].filter fun l => decide (l ≠ [])
  let r := (c.systemRuns cat.length (fun i => catOctets (cat.getD i []))).getD ([], c.countSystem cat.length)
  let pages := cat.map fun l => ({ words := l.map CatRec.word, place := r.1 } : CatPage)
  { r.2 with book := { r.2.book with page := [], full := [], flash := r.2.book.flash ++ pages } }

/-- The page that holds the last of a run of system pages, in the format of R130. -/
def lastPage (place : List SysRun) : Nat :=
  match place.getLast? with
  | none => max40
  | some q =>
    let k := q.2.1 + q.2.2 - 1
    mkEntry q.1 (k / 31) (nth (dataPos q.1 (k / 31) false) (k % 31))

/-- The stream ends that the Hallmark names: the location of the stream's last journal page and the sequence of its last
record (R294). -/
def Chip.streamEnds (c : Chip) : List StreamEnd :=
  (List.range 256).map fun k =>
    match (c.ft.jpages.filter fun p => decide (p.stream = k)).getLast? with
    | none => { stream := k, loc := max40, seq := 0 }
    | some p => { stream := k, loc := lastPage p.place, seq := (p.recs.getLast?.map JRec.seq).getD 0 }

/-- The Hallmark page before its CRC-32C (R294): multi-octet fields little-endian. -/
def Hallmark.body (h : Hallmark) : List Nat :=
  octetsOf 4 0x484D4B01 ++ octetsOf 4 h.session ++ [h.reason, h.result, h.flags, 0] ++ octetsOf 4 h.jseq ++ octetsOf 4 h.lastSeq
    ++ octetsOf 4 h.slots ++ octetsOf 4 h.pages ++ octetsOf 4 h.energy ++ octetsOf 4 h.micros ++ octetsOf 8 h.time
    ++ (h.ends.flatMap fun e => octetsOf 5 e.loc ++ octetsOf 4 e.seq ++ List.replicate 7 0) ++ octetsOf 4 h.evNext
    ++ octetsOf 4 h.excerptLost ++ List.replicate (16380 - 4148) 0

/-- A Hallmark as it is programmed, with its CRC-32C. -/
def Hallmark.sealed (h : Hallmark) : Hallmark := { h with crc := crc32c 0xFFFFFFFF h.body }

/-- A Hallmark page passes its CRC (R295). -/
def Hallmark.ok (h : Hallmark) : Bool := decide (h.crc = crc32c 0xFFFFFFFF h.body)

/-- Step 4 takes the flush reserve for the journal: open system superblocks take no further page, and the reserve superblocks that
hold no slot become system superblocks (R291). -/
def Chip.reserveTurns (c : Chip) : Chip :=
  let turn := fun (s : Sb) =>
    if s.kind == .system && s.state == .open && decide (s.used ≠ 0) then { s with state := .closed, closeT := c.now }
    else if s.kind == .reserve && s.state == .open && decide (s.used = 0) then { s with kind := .system, stream := 5 }
    else s
  { c with sb := { c.sb with sbs := c.sb.sbs.map turn } }

/-- Steps 1 to 5 of R291 for a reason of R294. `returned` says that main power returned while they
ran. -/
def Chip.flushSteps (c : Chip) (reason : Nat) (returned : Bool) (f : FlushInput) : Chip :=
  let trigger := c.stamp
  let flags := (if c.writeThrough then 1 else 0) + (if c.get E.BOOKS_SHORT = 1 then 2 else 0) + (if c.st.proof then 4 else 0)
    + (if returned then 8 else 0)
  let lost := c.ev.page.length
  let proof := c.st.proof
  let told := decide (reason = 4 ∧ c.fw.shn ≠ 0)
  let c0 := if c.pr.joined ∧ told = false then c.sendFrame 0x40 0 true [if reason = 4 ∨ reason = 5 then 2 else 1, 1] [] else c
  let c1 := c0.stopCommands
  let c2 := if f.reached < 2 then c1 else (if proof then (c1.set E.PROOF_RESULT 3).set E.GAUGE_STATE 2 else c1).stopMedia
  let dirty := c2.dirtySlots
  let now := if f.reached < 3 then [] else flushed dirty f.issued
  let c3 := if f.reached < 3 then c2 else (c2.each now Chip.flushSlot).flushBook
  let c4 := if f.reached < 4 then c3 else
    let c' := c3.reserveTurns.each c3.ft.streams Chip.flushStream
    let c'' := c'.each (c'.sb.rows.map Row.id) Chip.cutRow
    { c'' with pr := c''.pr.saved }
  let result := if now.length < dirty.length then 1 else 0
  let last := match now.getLast? with
    | some s => s.wseq.getD 0
    | none => (c.seqNext + 2 ^ 32 - 1) % 2 ^ 32
  let h : Hallmark := { session := c.get E.BOOT_COUNT, reason := reason, result := result, flags := flags, jseq := c4.seqNext,
                        lastSeq := last, slots := now.length, pages := f.pages, energy := f.energy, micros := f.micros,
                        time := trigger, ends := c4.streamEnds, evNext := c.get E.EVT_NEXT, excerptLost := lost, crc := 0 }
  let ft := { c4.ft with slots := [], dir := [], order := [], loaded := [], loading := [], map := [], rotation := [] }
  let c5 := { c4 with ft := ft, st := { c4.st with dirty := 0 } }
  if f.reached < 5 then { c5 with boot := { c5.boot with hallmark := none } }
  else { c5 with boot := { c5.boot with hallmark := some h.sealed } }

/-- A function as the cores find it when they restart: disabled, with the configuration space, MSI-X table among it, that its
host has written (R446). -/
def Fn.restarted (f : Fn) : Fn := { Fn.initial f.port f.fn with cfg := f.cfg, dstate := f.dstate }

/-- A port whose link is down (R127). -/
def Port.down (p : Port) : Port := { p with link := 0, gen := 0, width := 0, trained := 0, rateWidth := 0, flit := false }

/-- Step 6: WP# low on every channel, STORE_HOLD# released, and the cores halt; the Rally link is down. With the rails
up the boot ROM runs on the fast oscillator, and configuration space stays; with the always-on domain alone VR_EN is low, the slow
oscillator runs, and WAKE# is driven low where PME_Status calls for it (R123, R414). -/
def Chip.haltCores (c : Chip) (to' : Run) : Chip :=
  let chans := c.md.chans.map fun k => { k with wp := true }
  let halt := fun (p : Port) =>
    let wake := decide (to' = .standby) && p.pmeEn && p.pmeStatus && c.portUsed p.port
    let q := if to'.railsOff then { p.down with cfg := PfCfg.initial } else p
    { q with wake := wake, clkreq := p.clkreq && decide (to' ≠ .rails) }
  let ports := c.ports.map halt
  let pm := match to' with
    | .rails => { c.pm with clock := 0 }
    | .standby => { c.pm with clock := 3, vrEn := false, vrGood := false }
    | _ => c.pm
  { c with ports := ports, boot := { c.boot with run := to', step := 0 }, md := { c.md with chans := chans }, pm := pm,
           st := { c.st with hold := false },
           pr := { c.pr with up := false, joined := false, lanes := 0, queue := [], window := [] }, cmds := [], qs := Qs.initial,
           fns := if to'.railsOff then [] else c.fns.map Fn.restarted }

/-- The Hallmark that an interrupted start carries over: a new session, reason and trigger time, the
rest as it was found (R437). -/
def Chip.carriedMark (c : Chip) (h : Hallmark) (reason : Nat) : Hallmark :=
  { h with session := c.get E.BOOT_COUNT, reason := reason, time := c.stamp, slots := 0, pages := 0, energy := 0, micros := 0,
           evNext := c.get E.EVT_NEXT, excerptLost := h.excerptLost + c.ev.page.length }

/-- A start is interrupted before it ended, in the step after the last one that has ended (R437): in step 8, which waits, the
power-fail sequence runs. A start without a valid Hallmark counts in UNCLEAN_STARTS once, in step 6 or here. -/
def Chip.interruptStart (c : Chip) (reason : Nat) (returned : Bool) (f : FlushInput) : Chip :=
  let c1 := (c.count E.START_INTERRUPTED 1).event 0x58D 0 1 noUnit [c.boot.step + 1]
  if c.boot.step < 4 then c1
  else if 7 ≤ c.boot.step then c1.flushSteps reason returned f
  else match c.boot.found with
    | some h => { c1 with boot := { c1.boot with hallmark := some (c1.carriedMark h reason).sealed } }
    | none => if c.boot.step < 6 then c1.count E.UNCLEAN_STARTS 1 else c1

/-- The PCIe PHYs are powered down (R291 step 2): every link is down, and its port is as reset. -/
def Chip.physOff (c : Chip) : Chip :=
  let ports := c.ports.map fun p => { p.down with cfg := PfCfg.initial }
  { c with ports := ports, fns := [] }

/-- A power-fail trigger (R290): in service the whole sequence, during a start what R437 says; with main power
present the controller restarts from the boot ROM, otherwise the rails fall and only VAON is left. The Hallmark of a shutdown that
has begun keeps reason 4 (R450). -/
def Chip.powerFail (c : Chip) (reason : Nat) (returns : Bool) (f : FlushInput) : Chip :=
  let after := fun (c : Chip) =>
    let c1 := (c.haltCores (if returns then .rails else .standby)).physOff
    { c1 with boot := { c1.boot with cause := if returns then 3 else 0, trained := false, railsT := c1.now } }
  match c.boot.run with
  | .ready => after (c.flushSteps (if c.fw.shn = 0 then reason else 4) returns f)
  | .starting => after (c.interruptStart reason returns f)
  | .rails => after c
  | .recovery => after c
  | .shut => after c
  | .halted => after c
  | .thermalHold => c
  | .dark => c
  | .standby => c

end Sys2Proof.Machine
end

