-- ==== Sys2Proof/Machine/Store.lean ====
section
/-! DEFINITION. The housekeeping scan, the Touchstone gauge, tap checks, hold-up proofs, removal and
insertion, and the power-fail trigger (R268 to R293, R416 to R419). -/
namespace Sys2Proof.Machine

/-! ### The scan (R416 to R418) -/

/-- One slot's sample: its code less the offset of slot 15, whether it may be used, whether it is
marked SETTLING. -/
structure Sample where
  code : Int
  ok : Bool
  settling : Bool
  deriving DecidableEq, Repr

/-- The marks of one scan (R417): each over-range conversion marks the next three SETTLING, from one scan
into the next; the answer is the samples and the marks left. -/
def markScan (fails : Nat) (offset : Int) : List AdcCode → Nat → Nat → List Sample × Nat
  | [], _, settle => ([], settle)
  | a :: r, k, settle =>
    let ok := !a.overRange && decide (settle = 0) && !a.late && bit fails k == 0
    let r' := markScan fails offset r (k + 1) (if a.overRange then 3 else settle - 1)
    ({ code := a.code - offset, ok := ok, settling := decide (settle ≠ 0) } :: r'.1, r'.2)

/-- Slots that fail at this scan (R418): late for 8 scans in a row, or, for every slot, the reference or
the shorted inputs out of their limits. -/
def newFails (codes : List AdcCode) (late : List Nat) : Nat :=
  let runs := sumOf ((List.range 16).map fun k => if 8 ≤ nth late k then 2 ^ k else 0)
  let at1 := fun k => codes.getD k { code := 0, overRange := false, late := true }
  let ref := at1 14
  let zero := at1 15
  let adj := ref.code - zero.code
  let bad := (!zero.late && decide (zero.code < -2000 ∨ 2000 < zero.code))
    || (!ref.late && !zero.late && decide (adj * 1000 < 419430 * 995 ∨ 419430 * 1005 < adj * 1000))
  if bad then 65535 else if bit runs 14 = 1 ∨ bit runs 15 = 1 then 65535 else runs

/-- Stack voltage in µV: 78.125 µV to the code; tap voltages alike (R416). -/
def tapUv (code : Int) : Int := code * 625 / 8

/-- Store current in nA: 50 mV over 2^19 codes, over STORE_SHUNT in µΩ (R416). -/
def Chip.currentNa (c : Chip) (code : Int) : Int := code * 50000000000000 / (524288 * (c.get E.STORE_SHUNT : Int))

/-- The store's charger is enabled, STORE_CHG_EN (R270); it keeps its state through a controller reset while the rails are up, and
is low without them (R475; DEDUCED, log entry 68). -/
def Chip.chargeOn (c : Chip) : Bool :=
  decide (c.get E.CHARGE_ENABLE = 1) && !(decide (c.own (mkUnit kSTORE 0) = 0)) && !(decide (c.own (mkUnit kSTORE 0) = 4))
    && !c.st.proof && !c.st.chgOff && !(decide (c.boot.run = .dark)) && !c.boot.run.railsOff

/-- Open-circuit voltage in µV: the stack less the current's fall over the ESR (R273). -/
def Chip.ocv (c : Chip) (uv : Int) (na : Int) : Int := uv - na * (c.get E.STORE_ESR : Int) / 1000000

/-- The gauge counts the current over one scan of 125 µs and clamps (R271). -/
def Chip.countCharge (c : Chip) (na : Int) : Chip :=
  let q : Int := (c.st.qa : Int) + na * 125 / 1000000
  { c with st := { c.st with qa := min c.fullCharge q.toNat, lastI := na } }

/-- A store fault (R276, R17). -/
def Chip.storeFault (c : Chip) : Chip := c.chargeFault (mkUnit kSTORE 0)

/-- The full anchor (R273, R274): Q_a is the full charge; the first one ends the first estimate and makes the
first proof due. -/
def Chip.fullAnchor (c : Chip) : Chip :=
  let q := c.fullCharge
  let first := decide (c.get E.GAUGE_STATE = 1)
  let due := if first then c.now else c.st.proofDue
  let c1 := { c with st := { c.st with qa := q, atFull := true, proofDue := due } }
  let c2 := if first then c1.set E.GAUGE_STATE 2 else c1
  if c.st.atFull then c2 else c2.event 0x381 1 1 noUnit [q / 10 ^ 6]

/-- The anchors (R273): charger termination, or a current below 1 % of its peak for 1 s within 50 mV of full; and
the empty anchor. -/
def Chip.anchors (c : Chip) (uv na : Int) (done : Bool) : Chip :=
  let full : Int := (c.get E.STORE_V_FULL : Int) * 1000
  let peak := if na ≤ 0 ∧ uv + 50000 < full then 0 else max c.st.peakI na
  let low := if 0 < peak ∧ na * 100 < peak ∧ full ≤ uv + 50000 then c.st.lowRun + 1 else 0
  let fell := done && !c.st.chgDoneLow
  let c1 := { c with st := { c.st with peakI := peak, lowRun := low, chgDoneLow := done } }
  let c2 := if fell ∨ 8000 ≤ low then c1.fullAnchor
    else if c.ocv uv na * 100 < full * 98 then { c1 with st := { c1.st with atFull := false } } else c1
  let o := c2.ocv uv na
  if o ≤ (c.get E.STORE_V_CUT : Int) * 1000 ∧ c2.st.qa ≠ 0 then
    ({ c2 with st := { c2.st with qa := 0 } }).event 0x381 1 1 noUnit []
  else c2

/-- The correction (R273): V_q above the open-circuit voltage by more than 2 % of full for 8 scans. -/
def Chip.correctDown (c : Chip) (o : Int) : Chip :=
  let full : Int := (c.get E.STORE_V_FULL : Int) * 1000
  let high := if full * 2 < ((c.vq c.st.qa : Int) - o) * 100 then c.st.highRun + 1 else 0
  if 8 ≤ high then
    let q := (o - (c.get E.STORE_V_CUT : Int) * 1000).toNat * c.get E.STORE_C
    let size := (c.st.qa - q) / 10 ^ 6
    ({ c with st := { c.st with highRun := 0, qa := min c.st.qa q } }).event 0x381 2 1 noUnit [size]
  else { c with st := { c.st with highRun := high } }

/-- The transient faults of the store (R276): a step of the open-circuit voltage, no charge current for
10 s with the charger on, a current over-range in both directions within one scan pair. -/
def Chip.storeFaults (c : Chip) (o na : Int) : Chip :=
  let full : Int := (c.get E.STORE_V_FULL : Int) * 1000
  let step := match c.st.prevOcv with
    | some p => decide (full * 5 < (o - p) * 100 ∨ full * 5 < (p - o) * 100)
    | none => false
  let none' := if c.chargeOn ∧ !c.st.atFull ∧ na ≤ 0 then c.st.noChg + 1 else 0
  let c1 := { c with st := { c.st with prevOcv := some o, noChg := if 80000 ≤ none' then 0 else none' } }
  let c2 := if step then c1.storeFault else c1
  if 80000 ≤ none' then c2.storeFault else c2

/-! ### Cells and taps (R284, R285) -/

/-- A tap whose sense wire is open (TAP_OPEN). -/
def Chip.tapIsOpen (c : Chip) (k : Nat) : Bool := decide (1 ≤ k) && bit (c.get E.TAP_OPEN) (k - 1) == 1

/-- Cell voltages in µV from the taps, cell 1 first. -/
def cellUvs (n : Nat) (tap : Nat → Int) : List Int :=
  (List.range n).map fun i => tap (i + 1) - (if i = 0 then 0 else tap i)

/-- CELL_V (R301): eight 16-bit numbers in mV; a cell above STORE_CELLS or joined into a pair reads
0xFFFF. -/
def Chip.cellOctets (c : Chip) (cells : List Int) : Nat :=
  let n := c.get E.STORE_CELLS
  sumOf ((List.range 8).map fun i =>
    let v := if n ≤ i ∨ c.tapIsOpen i ∨ (i + 1 < n ∧ c.tapIsOpen (i + 1)) then 0xFFFF else min 0xFFFE ((cells.getD i 0).toNat / 1000)
    v * 65536 ^ i)

/-- Deviation of each cell from its share of the stack; a joined pair is checked as one. -/
def Chip.deviations (c : Chip) (uv : Int) (cells : List Int) : List Int :=
  let n := c.get E.STORE_CELLS
  (List.range n).map fun i =>
    let one := cells.getD i 0 - uv / (n : Int)
    if i + 1 < n ∧ c.tapIsOpen (i + 1) then (cells.getD i 0 + cells.getD (i + 1) 0) - 2 * uv / (n : Int)
    else if 1 ≤ i ∧ c.tapIsOpen i then 0
    else one

/-- Every scan forms the cells: over CELL_V_MAX for 4 scans removes charge enable (R270), and a cell that
deviates for 8 scans is suspect, which starts a check (R284). -/
def Chip.scanCells (c : Chip) (uv : Int) (cells : List Int) : Chip :=
  let vmax : Int := (c.get E.CELL_V_MAX : Int) * 1000
  let lim : Int := (c.get E.CELL_DEV : Int) * 1000
  let above := cells.any fun v => decide (vmax < v)
  let run := if above then c.st.overRun + 1 else 0
  let off := if above then c.st.chgOff || decide (4 ≤ run) else false
  let devs := c.deviations uv cells
  let runs := (List.range cells.length).map fun i =>
    let d := devs.getD i 0
    if lim < d ∨ lim < -d then nth c.st.suspects i + 1 else 0
  let c1 := ({ c with st := { c.st with overRun := run, chgOff := off, suspects := runs } }).set E.CELL_V (c.cellOctets cells)
  let c2 := if off ∧ !c.st.chgOff then c1.event 0x385 0 1 noUnit [] else c1
  if runs.any fun r => decide (r = 8) then c2.startTaps else c2

/-- The first scan after a wake: Q_a is at most what the open-circuit voltage holds (R275). -/
def Chip.limitWoken (c : Chip) (o : Int) : Chip :=
  if !c.st.waking then c
  else
    let q := (o - (c.get E.STORE_V_CUT : Int) * 1000).toNat * c.get E.STORE_C
    { c with st := { c.st with waking := false, qa := min c.st.qa q } }

/-- The gauge's part of a scan. -/
def Chip.gaugeScan (c : Chip) (ss : List Sample) (codes : List AdcCode) (done : Bool) : Chip :=
  let at1 := fun k => ss.getD k { code := 0, ok := false, settling := false }
  if !c.st.present ∨ c.st.hibernate then c
  else
    let raw := codes.getD 10 { code := 0, overRange := false, late := true }
    let na := if (at1 10).ok then c.currentNa (at1 10).code else min c.st.lastI 0
    let uv := tapUv (at1 1).code
    let side := if raw.overRange then (if 0 < raw.code then 1 else 2) else 0
    let both := decide (side ≠ 0 ∧ c.st.prevOver ≠ 0 ∧ side ≠ c.st.prevOver)
    let low := if na.natAbs < 50000000 then c.st.lowCur + 1 else 0
    let c1 := ({ c with st := { c.st with prevOver := side, lowCur := low } }).countCharge na
    let c2 := if both then c1.storeFault else c1
    let c3 := (c2.set E.STORE_I (ofInt 20 (na / 1000000)))
    if (at1 1).ok ∧ (at1 10).ok then
      let o := c3.ocv uv na
      let c4 := ((c3.limitWoken o).set E.STORE_V_STACK (uv / 1000).toNat).anchors uv na done
      let c5 := (c4.correctDown o).storeFaults o na
      let n := c5.get E.STORE_CELLS
      if (List.range n).all fun k => (at1 (k + 2)).ok then c5.scanCells uv (cellUvs n fun k => tapUv (at1 (k + 1)).code) else c5
    else c3

/-- The Crucible has been drained for a removal (R288). -/
def Chip.prepared (c : Chip) : Chip :=
  if c.get E.PREPARE_STATE = 1 ∧ c.st.dirty = 0 then c.set E.PREPARE_STATE 2 else c

/-- The record of a slot in ADC_SAMPLES (R433): its last code and its three flags. -/
def sampleRecord (old : Nat) (a : AdcCode) (m : Sample) (failed : Nat) : Nat :=
  (if a.late then old % 2 ^ 20 else ofInt 20 a.code) + (if a.overRange then 2 ^ 20 else 0)
    + (if m.settling then 2 ^ 21 else 0) + failed * 2 ^ 22

/-- The supply monitors (R433) in mV, from slots 11 to 13: 39.0625, 9.765625 and 2.44140625 µV to the code. -/
def Chip.supplyMonitors (c : Chip) (m : List Sample) : Chip :=
  [(11, E.V12_MAIN, 128), (12, E.V3V3_AUX, 512), (13, E.VCORE_SENSE, 2048)].foldl (fun c p =>
    match m[p.1]? with
    | some x => if x.ok then c.set p.2.1 (ofInt 20 (x.code * 5 / (p.2.2 : Nat))) else c
    | none => c) c

/-- One scan of the 16 slots (R416). A slot is failed while a condition of R418 holds, and a failed one, or an open tap, degrades
the ADC unit (R16, R285, R427). -/
def Chip.scan (c : Chip) (codes : List AdcCode) (done : Bool) : Chip :=
  let at1 := fun k => codes.getD k { code := 0, overRange := false, late := true }
  let late := (List.range 16).map fun k => if (at1 k).late then nth c.st.lateRuns k + 1 else 0
  let old := c.get E.ADC_SLOT_FAILS
  let fails := newFails codes late
  let m := markScan fails (at1 15).code ((List.range 16).map at1) 0 c.st.settling
  let overs := (codes.filter AdcCode.overRange).length
  let was := c.get E.ADC_SAMPLES
  let raw := sumOf ((List.range 16).map fun k =>
    sampleRecord (bits was (32 * k + 31) (32 * k)) (at1 k) (m.1.getD k { code := 0, ok := false, settling := false }) (bit fails k) * 2 ^ (32 * k))
  let c1 := { c with st := { c.st with settling := m.2, lateRuns := late } }
  let c2' := (((c1.set E.ADC_SAMPLES raw).count E.ADC_SCANS 1).count E.ADC_OVERRANGE overs).supplyMonitors m.1
  let c2 := match codes.findIdx? AdcCode.overRange with
    | some k => c2'.eventFirst 0x507 0 1 noUnit [k]
    | none => c2'
  let c3 := if fails = old then c2
    else ((c2.set E.ADC_SLOT_FAILS fails).event 0x506 (if fails = 0 then 1 else 0) 1 (c2.unitIdent (mkUnit kADC 0)) [fails]).setDegraded
      (mkUnit kADC 0) (decide (fails ≠ 0 ∨ c.get E.TAP_OPEN ≠ 0))
  ((c3.gaugeScan m.1 codes done).prepared).storeState

def execAdcScan (t : Nat) (codes : List AdcCode) (chgDone : Bool) (s : State) : Host.Outcome State Fault Refusal :=
  runUnits s t fun c => c.scan codes chgDone

/-! ### Insertion and removal (R274, R287, R289) -/

/-- The first estimate of an inserted store, and its tap check (R274, R289). A store unit is ABSENT
until then. -/
def Chip.insertStore (c : Chip) (vstk : Nat) : Chip :=
  if c.st.present ∨ vstk ≤ 500 ∨ c.own (mkUnit kSTORE 0) = 4 then c
  else
    let cr := c.get E.STORE_C_RATED
    let c1 := ((c.set E.STORE_C cr).set E.STORE_ESR (c.get E.STORE_ESR_RATED)).set E.STORE_C_FIRST 0
    let q := min c1.fullCharge ((vstk - c1.get E.STORE_V_CUT) * cr * 1000)
    let c2 := { c1 with st := { Store9.initial with present := true, qa := q, dirty := c.st.dirty, lateRuns := c.st.lateRuns } }
    let c3 := (((c2.set E.GAUGE_STATE 1).set E.PREPARE_STATE 0).set E.STORE_V_STACK vstk).set E.CELL_FAULT_CELL 0
    (c3.event 0x381 0 1 noUnit [q / 10 ^ 6]).startTaps

def execStoreInserted (t vstk : Nat) (s : State) : Host.Outcome State Fault Refusal :=
  run s t fun c => c.insertStore vstk

/-- A removed store is RETIRED if it was in use, then ABSENT; the gauge has none, and what the Crucible
holds drains (R283, R287). -/
def Chip.removeStore (c : Chip) : Chip :=
  if !c.st.present then c
  else
    let u := mkUnit kSTORE 0
    let c1 := if 1 ≤ c.own u ∧ c.own u ≤ 3 then c.retire u 6 else c
    let c2 := c1.setOwn u 0 6
    let c3 := { c2 with st := { Store9.initial with dirty := c.st.dirty, lateRuns := c.st.lateRuns } }
    (c3.set E.GAUGE_STATE 0)

def execStoreRemoved (t : Nat) (s : State) : Host.Outcome State Fault Refusal :=
  runUnits s t fun c => c.removeStore.drainCrucible

/-! ### Hibernation (R275) -/

/-- The gauge may sleep: only the always-on domain is powered, or PS4 (R275). -/
def Chip.gaugeMaySleep (c : Chip) : Bool :=
  decide (c.boot.run = .standby) || decide (c.get E.PS_CURRENT = 4)

/-- The store current has stayed below 50 mA for 1 s: 8,000 scans. -/
def Chip.currentLow (c : Chip) : Bool := decide (8000 ≤ c.st.lowCur)

def execGaugeHibernate (t : Nat) (s : State) : Host.Outcome State Fault Refusal :=
  run s t fun c => c.when (c.st.present && !c.st.hibernate && c.gaugeMaySleep && c.currentLow) fun c =>
    (({ c with st := { c.st with hibernate := true, estimate := decide (c.get E.GAUGE_STATE = 1) } }).set E.GAUGE_STATE 3).event 0x389 0 1 noUnit []

/-- On waking, Q_a is the smaller of the counted value and that of the open-circuit voltage (R275);
`amps` is the store current in nA. -/
def Chip.wakeGauge (c : Chip) (vstk : Nat) (na : Int) : Chip :=
  if !c.st.hibernate then c
  else
    let o := c.ocv ((vstk : Int) * 1000) na
    let q := (o - (c.get E.STORE_V_CUT : Int) * 1000).toNat * c.get E.STORE_C
    let st := { c.st with hibernate := false, qa := min c.st.qa q, lastI := na, prevOcv := none, lowCur := 0 }
    ((({ c with st := st }).set E.GAUGE_STATE (if c.st.estimate then 1 else 2)).set E.STORE_V_STACK vstk).event 0x389 0 1 noUnit []

def execGaugeWake (t vstk : Nat) (amps : Int) (s : State) : Host.Outcome State Fault Refusal :=
  run s t fun c => c.wakeGauge vstk amps

/-! ### Tap checks (R284 to R286) -/

/-- An open tap: marked, its two cells joined, and one slot failure of the ADC unit (R16, R285). -/
def Chip.openTap (c : Chip) (k : Nat) : Chip :=
  let v := c.get E.TAP_OPEN
  let c1 := if bit v (k - 1) = 1 then c else c.set E.TAP_OPEN (v + 2 ^ (k - 1))
  (c1.event 0x386 0 1 noUnit [k]).setDegraded (mkUnit kADC 0) true

/-- A bad cell: a permanent fault of the store (R285). -/
def Chip.badCell (c : Chip) (k : Nat) : Chip :=
  ((c.set E.CELL_FAULT_CELL k).event 0x386 0 4 noUnit [k]).permanentFault (mkUnit kSTORE 0) 4

/-- Two bad cells, k and the next one: a permanent fault of the store (R285). -/
def Chip.badPair (c : Chip) (k : Nat) : Chip := (c.event 0x386 0 4 noUnit [k]).permanentFault (mkUnit kSTORE 0) 4

/-- The suspect cells, from 1. -/
def Chip.suspectCells (c : Chip) : List Nat :=
  (List.range c.st.suspects.length).filterMap fun i => if 8 ≤ nth c.st.suspects i then some (i + 1) else none

/-- The deviation of a cell, from CELL_V as last scanned. -/
def Chip.cellDev (c : Chip) (k : Nat) : Int :=
  let v := bits (c.get E.CELL_V) (16 * (k - 1) + 15) (16 * (k - 1))
  (v : Int) - (c.get E.STORE_V_STACK : Int) / (c.get E.STORE_CELLS : Int)

/-- One suspect cell classified with the taps found open (R285). -/
def Chip.classify (c : Chip) (opened : Nat → Bool) (sus : List Nat) (k : Nat) : Chip :=
  let lim : Int := (c.get E.CELL_DEV : Int)
  let d := c.cellDev k
  let pairWith := fun (j : Nat) =>
    let e := c.cellDev j
    sus.contains j && decide (d * e < 0) && decide ((d + e) * 4 ≤ lim ∧ -(d + e) * 4 ≤ lim)
  if pairWith (k + 1) then (if opened k then c.openTap k else c.badPair k)
  else if 1 < k ∧ pairWith (k - 1) then c
  else if 1 < k ∧ opened (k - 1) then c.openTap (k - 1)
  else if opened k then c.openTap k
  else c.badCell k

/-- A check of every tap has ended: suspects are classified, the result is reported, and an inserted
store that passed comes ONLINE or DEGRADED (R285, R286, R289). -/
def Chip.endTaps (c : Chip) : Chip :=
  let opened := fun (k : Nat) => decide (1 ≤ k) && bit c.st.tapOpen (k - 1) == 1
  let sus := c.suspectCells
  let taps := (List.range (c.get E.STORE_CELLS)).map (· + 1)
  let c1 := c.each sus fun c k => c.classify opened sus k
  let c2 := c1.each (taps.filter opened) Chip.openTap
  let bad := decide (c2.own (mkUnit kSTORE 0) = 4) || decide (c2.get E.CELL_FAULT_CELL ≠ c.get E.CELL_FAULT_CELL)
  let res := if bad then 3 else if c.st.tapOpen = 0 then 1 else 2
  let due := c.now + c.get E.TAP_CHECK_INTERVAL * cycPerHour
  let c3 := ({ c2 with st := { c2.st with tapCheck := 0, tapDue := due, suspects := c2.st.suspects.map fun _ => 0 } }).set E.TAP_CHECK_RESULT res
  if c3.own (mkUnit kSTORE 0) = 0 ∧ !bad ∧ c3.st.present then
    (c3.setOwn (mkUnit kSTORE 0) (if c3.eFull < c3.get E.STORE_E_NOMINAL then 2 else 1) 0)
  else c3

/-- The current of one tap has run for 2 ms: the tap moved by so many mV (R284). -/
def Chip.tapEnds (c : Chip) (tap moved : Nat) : Chip :=
  if c.st.tapCheck ≠ tap ∨ tap = 0 ∨ c.now < c.st.tapT + 2 * cycPerMs then c
  else
    let open' := if c.get E.TAP_OPEN_MV < moved then c.st.tapOpen + 2 ^ (tap - 1) else c.st.tapOpen
    let c1 := { c with st := { c.st with tapOpen := open', tapCheck := tap + 1, tapT := c.now } }
    if c.get E.STORE_CELLS ≤ tap then c1.endTaps else c1

def execTapCheck (t tap moved : Nat) (s : State) : Host.Outcome State Fault Refusal :=
  runUnits s t fun c => c.tapEnds tap moved

def execTapCheckInterval (t : Nat) (s : State) : Host.Outcome State Fault Refusal :=
  run s t fun c => c.when (c.isReady && decide (c.st.tapDue ≤ c.now)) Chip.startTaps

/-! ### Proofs (R277, R278) -/

/-- A proof starts at the full anchor (R277): the module runs from the store, and the dirty slots drain
when there are enough of them. -/
def Chip.startProof (c : Chip) : Chip :=
  let c1 := ({ c with st := { c.st with proof := true, hold := true, tapCheck := 0 } }).set E.GAUGE_STATE 4
  if c.get E.PROOF_MIN_SLOTS ≤ c.st.dirty then c1.drainCrucible else c1

/-- A proof may run: the gauge at its full anchor, a store in use, none running. -/
def Chip.proofReady (c : Chip) : Bool :=
  c.isReady && c.st.present && c.st.atFull && !c.st.proof && decide (1 ≤ c.own (mkUnit kSTORE 0) ∧ c.own (mkUnit kSTORE 0) ≤ 2)

/-- Powered-on hours since the last completed proof (R302); the entry's cell holds POWER_ON_TIME at its end. -/
def Chip.proofAge (c : Chip) : Nat := min max20 ((c.get E.POWER_ON_TIME - c.get E.PROOF_AGE) / 3600)

def execProofInterval (t : Nat) (s : State) : Host.Outcome State Fault Refusal :=
  run s t fun c => c.when (c.proofReady && (decide (c.get E.PROOF_INTERVAL ≤ c.proofAge)
    || decide (c.get E.STORE_C_FIRST = 0 ∧ c.get E.GAUGE_STATE = 2))) Chip.startProof

/-- A proof ends (R277, R278): by a store fault (5), at PROOF_DV (1), or at the margin (2). One that completed
sets ESR, C and the learned flush cost, and clears the warning of R297. -/
def Chip.endProof (c : Chip) (p : ProofInput) : Chip :=
  if !c.st.proof then c
  else
    let res := if p.result = 5 ∨ 3 ≤ c.own (mkUnit kSTORE 0) then 5 else if c.get E.PROOF_DV ≤ p.fall then 1 else 2
    let c1 := (({ c with st := { c.st with proof := false, hold := false, atFull := false } }).set E.GAUGE_STATE 2).set
      E.PROOF_RESULT res
    let tell := fun (c : Chip) => c.event 0x384 0 1 noUnit [res, c.get E.STORE_C, c.get E.STORE_ESR, c.get E.FLUSH_COST_LEARNED]
    if res ≠ 1 then tell c1
    else tell <|
      let c2 := if p.dI = 0 then c1 else c1.set E.STORE_ESR (min max20 (p.dV * 1000 / p.dI))
      let c3 := if p.fall = 0 then c2 else c2.set E.STORE_C (min max40 (p.charge * 1000 / p.fall))
      let c4 := if c3.get E.STORE_C_FIRST = 0 then c3.set E.STORE_C_FIRST (c3.get E.STORE_C) else c3
      let c5 := if c4.get E.PROOF_MIN_SLOTS ≤ p.drained then
          c4.set E.FLUSH_COST_LEARNED (min max20 ((p.energyDrain - p.energyIdle) * 1000 / p.drained)) else c4
      let c6 := (c5.count E.PROOFS 1).set E.PROOF_AGE (c5.get E.POWER_ON_TIME)
      ({ c6 with lg := { c6.lg with badRecovery := false }, st := { c6.st with qa := min c6.st.qa c6.fullCharge } }).storeState

def execProofEnd (t : Nat) (p : ProofInput) (s : State) : Host.Outcome State Fault Refusal :=
  runUnits s t fun c => c.endProof p

/-! ### The power-fail trigger (R290) -/

/-- A trigger: PWR_FAIL# (reason 1), or the 12 V comparator with the input below PF_12V_THRESH (reason 2), low for PF_FILTER. -/
def Chip.failTriggers (c : Chip) (l : LowInput) : Bool :=
  decide (c.get E.PF_FILTER ≤ l.lowNs) && (l.reason == 1 || (l.reason == 2 && decide (l.mv < c.get E.PF_12V_THRESH)))

def execPowerFailTrigger (t : Nat) (low : LowInput) (mainReturns : Bool) (flush : FlushInput) (s : State) :
    Host.Outcome State Fault Refusal :=
  run s t fun c => c.when (c.failTriggers low) fun c => c.powerFail low.reason mainReturns flush

end Sys2Proof.Machine
end

