-- ==== Sys2Proof/Machine/DictOps.lean ====
section
/-! DEFINITION. Checking and storing what is written to the dictionary: refusals, the checks of R369 and
the entries' own, bounds between entries, clamp reports, and the persistent image (R366 to R376). -/
namespace Sys2Proof.Machine

/-! ### Clamp reports (R372, R397) -/

/-- A report joins the ring of 1,024 under the next number; the first one of a second raises an event. -/
def Chip.report (c : Chip) (x : Xport) (kind a fn written stored : Nat) : Chip :=
  let n := c.get E.CLAMP_NEXT
  let r : ClampRec := { addr := a, transport := Xport.code x, kind := kind, fn := fn, written := written,
                        stored := stored, time := c.stamp, num := n }
  let keep := if 1024 ≤ c.dict.clamps.length then c.dict.clamps.drop 1 else c.dict.clamps
  let ring := keep ++ [r]
  let c1 := ({ c with dict := { c.dict with clamps := ring } }).set E.CLAMP_NEXT ((n + 1) % 2 ^ 32)
  let c2 := if 3 ≤ kind ∧ kind ≤ 5 then c1.count E.CLAMP_REFUSALS 1 else c1.count E.CLAMP_TOTAL 1
  c2.eventFirst 0x581 0 3 noUnit [n]

/-- The offset of the first octet in which two values differ. -/
def firstDiff (n a b : Nat) : Nat := ((List.range n).find? fun k => decide (octet a k ≠ octet b k)).getD 0

/-! ### The checks of one entry (R369) -/

/-- The rates of R174, highest first. -/
def ladder : List Nat := [4800, 4400, 4000, 3600, 3200, 2400, 1600, 1200, 800]

/-- The highest ladder rate that is no greater than a rate. -/
def ladderDown (v : Nat) : Nat := (ladder.find? fun r => decide (r ≤ v)).getD 800

/-- The difference of two numbers. -/
def apart (a b : Nat) : Nat := a - b + (b - a)

/-- The numerically nearest listed code, the lower one on a tie (R369 step 3). -/
def nearestCode (l : List Nat) (v : Nat) : Nat :=
  l.foldl (fun b k => if apart k v < apart b v ∨ (apart k v = apart b v ∧ k < b) then k else b) (l.headD 0)

/-- A number held between two bounds. -/
def within (lo hi v : Nat) : Nat := max lo (min hi v)

/-- Steps 1 and 2 of R369 for the fields of an entry: reserved fields first. -/
def Desc.fieldChecks (d : Desc) : List (Nat → Nat) :=
  let w := if d.type = .u40 then 40 else 20
  let zero := (d.fields.filter fun f => decide (f.kind = 0)).map fun f => fun v => setBits v f.hi f.lo 0
  let range := (d.fields.filter fun f => decide (f.kind ≠ 0)).map fun f => fun v =>
    setBits v f.hi f.lo (within f.min f.max (bits v f.hi f.lo))
  [fun v => v % 2 ^ w] ++ zero ++ range

/-- Steps 1 to 4 of R369 as the entry's properties give them. -/
def Desc.checks (d : Desc) : List (Nat → Nat) :=
  let main := match d.type with
    | .oct => []
    | .s20 => []
    | .e20 => [nearestCode d.enum]
    | .b20 => d.fieldChecks
    | .u20 | .u40 | .u60 => if d.fields.isEmpty then [within d.min.toNat d.max.toNat] else d.fieldChecks
  main ++ (if d.step = 0 then [] else [fun v => v / d.step * d.step])

/-- The four fields of a unit identifier (R13). -/
def Chip.unitChecks (c : Chip) : List (Nat → Nat) :=
  [fun v => setBits v 14 11 0,
   fun v => let k := bits v 18 15; setBits v 18 15 (if k = 12 ∨ k = 13 then 11 else if k = 14 then 15 else k),
   fun v => setBits v 19 19 (if bits v 18 15 = 15 then 0 else c.ownIndex),
   fun v => setBits v 10 0 (min (bits v 10 0) (maxIdx (bits v 18 15)))]

/-- A budget entry and its sub (R63, R64). -/
def isBudget (a : Nat) : Bool :=
  decide (0x2010 ≤ idxOf a ∧ idxOf a ≤ 0x2040 ∧ idxOf a % 16 = 0) && decide (1 ≤ a % 256 ∧ a % 256 ≤ 9)

/-- Guarantee and ceiling of a budget entry (R63): a ceiling that leaves HR no room for its least
guarantee is raised to it (DEDUCED, log entry 27); the guarantee is at most the ceiling, and the nine of one index sum to
at most 1,000. -/
def Chip.budgetChecks (c : Chip) (a : Nat) : List (Nat → Nat) :=
  let base := a / 256 * 256
  let others := sumOf ((List.range 9).map fun k => if base + k + 1 = a then 0 else bits (c.get (base + k + 1)) 19 10)
  let hr := decide (a % 256 = 1)
  (if hr then [fun v => setBits v 9 0 (max 100 (bits v 9 0))] else [])
    ++ [fun v => setBits v 19 10 (min (bits v 19 10) (bits v 9 0)),
        fun v => setBits v 19 10 (min (bits v 19 10) (1000 - others))]

/-- One octet offset of a zone entry held inside the advertised range; 0 and 0 stand for none (R229). -/
def zoneOffset (o : Nat) : Nat :=
  let r := Config.offsetRange
  if r.1 = 0 ∧ r.2 = 0 then o else ofInt 8 (max (toInt 8 r.1) (min (toInt 8 r.2) (toInt 8 o)))

/-- The checks of D3C10.02: flags, octets unused in an SLC zone, and offsets (R229). -/
def zoneChecks (slc : Bool) : List (Nat → Nat) :=
  ((List.range 8).map fun s => fun v => setBits v (128 * s + 127) (128 * s + 121) 0)
    ++ (if slc then (List.range 8).map fun s => fun v => setBits v (128 * s + 119) (128 * s + 8) 0 else [])
    ++ (List.range 8).map fun s => fun v =>
      (List.range (if slc then 1 else 15)).foldl (fun v i => setBits v (128 * s + 8 * i + 7) (128 * s + 8 * i)
        (zoneOffset (octet v (16 * s + i)))) v

/-- The order of a zone without duplicates or values above 7: the missing slots follow in their place in
ascending order (R229). -/
def orderFixed (v : Nat) : Nat :=
  let l := octetsOf 8 v
  let missing := (List.range 8).filter fun s => !l.contains s
  let r := l.foldl (fun (p : List Nat × List Nat) s =>
    if s ≤ 7 ∧ !p.1.contains s then (p.1 ++ [s], p.2) else (p.1 ++ p.2.take 1, p.2.drop 1)) ([], missing)
  ofOctets r.1

/-- The checks of D4010.02: multipliers are not zero and bits [31:24] are (R261). -/
def familyChecks : List (Nat → Nat) :=
  ((List.range 256).map fun k => fun v => setBits v (32 * k + 31) (32 * k + 24) 0)
    ++ (List.range 256).map fun k => fun v => setBits v (32 * k + 11) (32 * k) (max 1 (bits v (32 * k + 11) (32 * k)))

/-- The bounds of BUCKET_BOUNDS: each at least the one before, at most REFRESH_INT[0] in hours (R230). -/
def Chip.bucketChecks (c : Chip) : List (Nat → Nat) :=
  (List.range 7).map fun i => fun v =>
    let before := if i = 0 then 0 else bits v (16 * i - 1) (16 * i - 16)
    setBits v (16 * i + 15) (16 * i) (min (c.get E.REFRESH_INT0 * 24) (max before (bits v (16 * i + 15) (16 * i))))

/-- The factors of THROTTLE_FACTORS: 100 to 1,000, each at most the one before (R432). -/
def factorChecks : List (Nat → Nat) :=
  (List.range 8).map fun i => fun v =>
    let before := if i = 0 then 1000 else bits v (16 * i - 1) (16 * i - 16)
    setBits v (16 * i + 15) (16 * i) (min before (within 100 1000 (bits v (16 * i + 15) (16 * i))))

/-- What a part with one port does not have (R2, R3). -/
def Chip.singlePort (c : Chip) : Bool := decide (c.fuse.variant ≠ 0)

/-- The checks that an entry's own rule adds. -/
def Chip.ownChecks (c : Chip) (a item : Nat) : List (Nat → Nat) :=
  if a = E.UNIT_SELECT ∨ a = E.UNIT_RETIRE then c.unitChecks
  else if isBudget a then c.budgetChecks a
  else if a = E.NAND_RATE_MAX ∨ a = E.NAND_RATE_FLOOR then [ladderDown]
  else if a = E.PORT_MODE ∧ c.singlePort then [fun _ => 0]
  else if a = E.PW_SELECT ∧ c.singlePort then [fun v => setBits v 8 8 0]
  else if a = E.PW_OWNER then [fun v => if bit v 9 = 0 then setBits v 11 11 0 else v]
  else if a = E.LAYOUT_FAMILY then familyChecks
  else if a = E.ZT_ORDER then [orderFixed]
  else if a = E.ZT_ENTRIES then zoneChecks (decide (512 ≤ item))
  else if a = E.HOUSEKEEPING_WAKE then [fun v => if 10 ≤ v then v else nearestCode [0, 10] v]
  else if a = E.BUCKET_BOUNDS then c.bucketChecks
  else if a = E.THROTTLE_FACTORS then factorChecks
  else []

/-! ### Bounds between entries (R371) -/

/-- An entry's value held to the bound that other entries set on it now. -/
def Chip.bound (c : Chip) (a v : Nat) : Nat :=
  if a = E.DIE_SPARE_MIN then min v (min (c.get E.SPARE_INIT) (c.get E.SPARE_INIT_ACTIVE) - 10)
  else if a = E.GC_URGENT then min v (c.get E.GC_START)
  else if a = E.NAND_RATE_FLOOR then min v (c.get E.NAND_RATE_MAX)
  else if a = E.TIMEOUT_READ then max v (cdiv (2 * max (c.get E.TR_WORST_SLC) (c.get E.TR_WORST_QLC)) 1000)
  else if a = E.TIMEOUT_PROGRAM then max v (cdiv (4 * c.get E.TPROG_WORST_SLC) 1000)
  else if a = E.REFRESH_INT1 then min v (c.get E.REFRESH_INT0)
  else if a = E.REFRESH_INT2 then min v (c.get E.REFRESH_INT1)
  else if a = E.REFRESH_INT3 then min v (c.get E.REFRESH_INT2)
  else if a = E.BUCKET_BOUNDS then c.bucketChecks.foldl (fun v f => f v) v
  else if a = E.STORE_V_CUT then
    let low := min v (c.get E.STORE_V_FULL - 1000)
    if c.get E.STORE_KIND = 1 then max low (2200 * c.get E.STORE_CELLS) else low
  else if a = E.MIRROR_SLOTS then min v (slotsOf c.ft.sizeMib / 2)
  else if a = E.PS1_MP then min v (c.get E.PS0_MP)
  else if a = E.PS2_MP then min v (c.get E.PS1_MP)
  else if a = E.PS4_MP then min v (c.get E.PS3_MP)
  else if a = E.IDLE_PS4 then max v (c.get E.IDLE_PS3)
  else if a = E.VCORE_MAX then max v (c.get E.VCORE_MIN)
  else if a = E.THERM_THROTTLE then max v (c.get E.THERM_WARN + 5)
  else if a = E.THERM_SHUTDOWN then max v (c.get E.THERM_THROTTLE + 5)
  else v

/-- The entries that a written entry bounds, in the order in which their bounds follow. -/
def dependents (a : Nat) : List Nat :=
  if a = E.SPARE_INIT then [E.DIE_SPARE_MIN]
  else if a = E.GC_START then [E.GC_URGENT]
  else if a = E.NAND_RATE_MAX then [E.NAND_RATE_FLOOR]
  else if a = E.TR_WORST_SLC ∨ a = E.TR_WORST_QLC then [E.TIMEOUT_READ]
  else if a = E.TPROG_WORST_SLC then [E.TIMEOUT_PROGRAM]
  else if a = E.REFRESH_INT0 then [E.REFRESH_INT1, E.REFRESH_INT2, E.REFRESH_INT3, E.BUCKET_BOUNDS]
  else if a = E.REFRESH_INT1 then [E.REFRESH_INT2, E.REFRESH_INT3]
  else if a = E.REFRESH_INT2 then [E.REFRESH_INT3]
  else if a = E.STORE_V_FULL ∨ a = E.STORE_KIND ∨ a = E.STORE_CELLS then [E.STORE_V_CUT]
  else if a = E.CRU_SIZE then [E.MIRROR_SLOTS]
  else if a = E.PS0_MP then [E.PS1_MP, E.PS2_MP]
  else if a = E.PS1_MP then [E.PS2_MP]
  else if a = E.PS3_MP then [E.PS4_MP]
  else if a = E.IDLE_PS3 then [E.IDLE_PS4]
  else if a = E.VCORE_MIN then [E.VCORE_MAX]
  else if a = E.THERM_WARN then [E.THERM_THROTTLE, E.THERM_SHUTDOWN]
  else if a = E.THERM_THROTTLE then [E.THERM_SHUTDOWN]
  else []

/-- A stored value whose bound has moved follows it, with a report of kind 2 (R371); the pair range of a part without a pair has
neither values nor reports (R3). -/
def Chip.reclamp (c : Chip) (x : Xport) (a : Nat) : Chip :=
  let v := c.get a
  let w := c.bound a v
  let d := (descOf a).map Desc.type
  let off := if d = some .oct then firstDiff 14 v w else v
  if w = v ∨ c.noPair a then c
  else (c.set a w).report x 2 a 0xFFFF off (if d = some .oct then off else w)

/-! ### Storing a value -/

/-- Successive checks of a value, with the number of them that changed it. -/
def runChecks (fs : List (Nat → Nat)) (v : Nat) : Nat × Nat :=
  fs.foldl (fun p f => (f p.1, if f p.1 = p.1 then p.2 else p.2 + 1)) (v, 0)

/-- The value before any check: the octets written over the current ones, a signed value held to its
range, anything else as written. -/
def enteredValue (d : Desc) (cur v len : Nat) : Nat :=
  match d.type with
  | .oct => let n := min len d.octets; v % 2 ^ (8 * n) + cur / 2 ^ (8 * n) * 2 ^ (8 * n)
  | .s20 => ofInt 20 (max d.min (min d.max (toInt 64 (v % 2 ^ 64))))
  | _ => v

/-- A write checked and stored, with one report of a kind for each change that a check made; the answer
says whether one did (R369, R371). `v` is the value field of R378, for an OCT entry the octets, `len`
their number. -/
def Chip.storeWrite (c : Chip) (x : Xport) (d : Desc) (a item v len kind : Nat) : Chip × Bool :=
  let v0 := enteredValue d (c.getAt a item) v len
  let own := if d.scope = .device then [c.bound a] else []
  let r := runChecks (d.checks ++ c.ownChecks a item ++ own) v0
  let signed := decide (d.type = .s20) && decide (d.field64 v0 ≠ v % 2 ^ 64)
  let n := r.2 + (if signed then 1 else 0)
  let off := firstDiff d.octets v0 r.1
  let written := if d.type = .oct then off else v
  let stored := if d.type = .oct then off else d.field64 r.1
  let c1 := c.setAt a item r.1
  let c2 := c1.each (List.range n) fun c _ => c.report x kind a (d.fnField item) written stored
  ((dependents a).foldl (fun c b => c.reclamp x b) c2, decide (n ≠ 0))

/-! ### Refusals (R3, R370) -/

/-- An X entry whose previous action still runs. -/
def Chip.actionBusy (c : Chip) (a : Nat) : Bool :=
  if a = E.TAP_CHECK_RUN then decide (c.st.tapCheck ≠ 0)
  else if a = E.PROOF_RUN then c.st.proof
  else if a = E.IMAGE_FLUSH then c.dict.writing
  else false

/-- The item under which an entry keeps its tag for a transport. -/
def tagItem (x : Xport) (a : Nat) : Nat :=
  match descOf a with
  | some d => if d.scope = .device then 0 else Xport.item x
  | none => 0

/-- The tag of an entry as a transport reads it (R382). -/
def Chip.tagSeen (c : Chip) (x : Xport) (a : Nat) : Nat := c.tagOf (tagItem x a) a

/-- The status of R378 with which a write is refused, and the kind of its report. -/
def Chip.refusal (c : Chip) (x : Xport) (a tag : Nat) : Option (Nat × Nat) :=
  match descOf a with
  | none => some (1, 3)
  | some d =>
    if d.access = .ro then some (2, 3)
    else if tag ≠ 0 ∧ tag ≠ c.tagSeen x a then some (3, 4)
    else if d.access = .x ∧ c.actionBusy a then some (4, 5)
    else none

/-- A refused write changes nothing but its report and its count. -/
def Chip.refuseWrite (c : Chip) (x : Xport) (a v kind : Nat) : Chip :=
  let d := descOf a
  let item := c.itemOf x a
  let fn := (d.map fun d => d.fnField item).getD 0xFFFF
  let oct := decide (d.map Desc.type = some .oct)
  let cur := if oct then 0 else (d.map fun d => d.field64 (c.readEntry x a)).getD 0
  (c.report x kind a fn (if oct then 0 else v) cur).count E.DICT_REFUSED 1

/-! ### The persistent image (R373 to R376) -/

/-- Rows that the image holds: the zone tables have their own copies in the system area (R215). -/
def imageRow (d : Desc) : Bool := decide (d.access = .rwp) && decide (d.addr ≠ E.ZT_ENTRIES ∧ d.addr ≠ E.ZT_ORDER)

/-- The records of an image: the values of RWP entries that differ from their defaults (log entry 28). -/
def Chip.imageRecs (c : Chip) : List ImgRec :=
  (c.dict.vals.filter fun p => match descOf p.1.1 with
    | some d => imageRow d
    | none => false).map fun p => { addr := p.1.1, item := p.1.2, value := p.2 }

/-- The version octets of the running image. -/
def Chip.runningVersion (c : Chip) : Nat := (c.fw.slots[c.get E.FW_RUNNING_SLOT - 1]?.map Image.version).getD 0

/-- A slot valid on this part. -/
def Chip.slotOk (c : Chip) (s : Option ImgSlot) : Option ImgSlot := s.filter fun s => s.ok && decide (s.variant = c.fuse.variant)

/-- The image takes its records as they stand: the write begins. -/
def Chip.beginImage (c : Chip) : Chip :=
  let recs := c.imageRecs
  { c with dict := { c.dict with writing := true, snap := recs, dirtySince := none } }

/-- The slot that the next image write goes to is A: the one with the older sequence, or one that is not valid (R373). -/
def Chip.intoA (c : Chip) : Bool :=
  match c.slotOk c.dict.slotA, c.slotOk c.dict.slotB with
  | some p, some q => serialLt 32 p.seq q.seq
  | some _, none => false
  | none, _ => true

/-- The image in work has been programmed into its slot, in both system-area copies. -/
def Chip.endImage (c : Chip) : Chip :=
  let seq := match (if c.intoA then c.slotOk c.dict.slotB else c.slotOk c.dict.slotA) with
    | some p => (p.seq + 1) % 2 ^ 32
    | none => 1
  let s0 : ImgSlot := { valid := true, seq := seq, variant := c.fuse.variant, fw := c.runningVersion, recs := c.dict.snap, crc := 0 }
  let s := s0.sealed
  let d1 := { c.dict with writing := false, snap := [] }
  let d2 := if c.intoA then { d1 with slotA := some s } else { d1 with slotB := some s }
  (({ c with dict := d2 }).count E.IMAGE_WRITES 1).programCopies (cdiv s.octets.length 16384)

/-- An image write that a start finds unfinished has left its slot half written (R376). -/
def Chip.halfWritten (c : Chip) : Chip :=
  let bad : ImgSlot := { valid := false, seq := 0, variant := 0, fw := 0, recs := [], crc := 0 }
  if !c.dict.writing then c
  else if c.intoA then { c with dict := { c.dict with slotA := some bad } }
  else { c with dict := { c.dict with slotB := some bad } }

/-- A change of an RWP entry waits to be written (R373). -/
def Chip.markImage (c : Chip) : Chip :=
  match c.dict.dirtySince with
  | some _ => c
  | none => { c with dict := { c.dict with dirtySince := some c.now } }

/-- The image with a change waiting, written at once: in the flush steps on main power (R374) and by
IMAGE_FLUSH. -/
def Chip.flushImage (c : Chip) : Chip :=
  let c1 := if c.dict.writing then c.endImage else c
  if c1.dict.dirtySince.isSome then c1.beginImage.endImage else c1

/-- An image write is due at once. -/
def Chip.imageDue (c : Chip) : Chip := { c with dict := { c.dict with dirtySince := some 0 } }

/-- MCTP_SMB_ADDR and MCTP_SMB_SPEED take effect at the next bus idle (R395): after a message, and at a start. -/
def Chip.takeSmb (c : Chip) : Chip :=
  { c with mg := { c.mg with smbAddr := c.get E.MCTP_SMB_ADDR, smbSpeed := c.get E.MCTP_SMB_SPEED } }

/-- Loading the image at a start (R376): the valid slot with the later sequence; each record is checked
against the running descriptors. After a load that passed a slot over, clamped, ignored or found
none, the image waits to be written at once. -/
def Chip.loadImage (c : Chip) : Chip :=
  let a := c.slotOk c.dict.slotA
  let b := c.slotOk c.dict.slotB
  let chosen := match a, b with
    | some p, some q => if serialLt 32 p.seq q.seq then some q else some p
    | some p, none => some p
    | none, q => q
  let both := decide (c.dict.slotA.isSome = a.isSome ∧ c.dict.slotB.isSome = b.isSome)
  let kept := c.dict.vals.filter fun p => match descOf p.1.1 with
    | some d => !imageRow d
    | none => true
  let c0 := { c with dict := { c.dict with vals := kept } }
  match chosen with
  | none => (((c0.set E.IMAGE_SOURCE 2).set E.IMAGE_LOAD_CLAMPS 0).event 0x580 0 1 noUnit []).imageDue
  | some s =>
    let r := s.recs.foldl (fun (p : Chip × Nat) r =>
      match descOf r.addr with
      | none => (p.1.report .internal 7 r.addr 0xFFFF r.value 0, p.2 + 1)
      | some d =>
        if !imageRow d then (p.1.report .internal 7 r.addr 0xFFFF r.value 0, p.2 + 1)
        else
          let w := p.1.storeWrite .internal d r.addr r.item (if d.type = .oct then r.value else d.field64 r.value) d.octets 6
          (w.1, if w.2 then p.2 + 1 else p.2)) (c0, 0)
    let src := if both then 0 else 1
    let c0' := (r.1.set E.IMAGE_SOURCE src).set E.IMAGE_LOAD_CLAMPS (min max20 r.2)
    let c1' := if src = 1 then c0'.event 0x580 0 1 noUnit [] else c0'
    let c1 := if r.2 = 0 then c1' else c1'.event 0x580 1 1 noUnit [r.2]
    if src = 1 ∨ r.2 ≠ 0 then c1.imageDue else c1

end Sys2Proof.Machine
end

