-- ==== Sys2Proof/Machine/Actions.lean ====
section
/-! DEFINITION. What a write to a dictionary entry does beyond storing its value: snapshots, actions,
entries that act at once, peer-window cells, and writes of one or more records (R18, R31, R277, R286,
R288, R325, R328, R329, R368, R374, R379, R442, R443, R457). -/
namespace Sys2Proof.Machine

/-! ### Snapshots (R31) -/

/-- Storing the value of an entry as a transport sees it. -/
def Chip.put (c : Chip) (x : Xport) (a v : Nat) : Chip := c.setAt a (c.itemOf x a) v

/-- The controller snapshot at one fabric timestamp. -/
def Chip.takeSnap (c : Chip) (x : Xport) : Chip :=
  let gen := (c.getAt E.SNAP_GEN (c.itemOf x E.SNAP_GEN) + 1) % 2 ^ 20
  [(E.SNAP_GEN, gen), (E.SNAP_TIME, c.stamp), (E.SNAP_SERVICE, c.serviceLevel), (E.SNAP_CTL_STATE, c.reported (mkUnit kCTL 0)),
   (E.SNAP_FLOOR, c.get E.FLOOR_FAULTS), (E.SNAP_FUNCS, (c.fns.filter Fn.en).length), (E.SNAP_QPAIRS, c.pairsHeld),
   (E.SNAP_ADMITTED, c.admittedOpen), (E.SNAP_DIRTY, c.dirtyUnits * 16384)].foldl (fun c p => c.put x p.1 p.2) c

/-- The number that orders a queue by port, function and queue ID. -/
def Sq.word (q : Sq) : Nat := qWord q.port q.fn q.qid

/-- QSEL captures the queue it names. -/
def Chip.captureQueue (c : Chip) (x : Xport) : Chip :=
  let w := c.sel x E.QSEL
  let port := bit w 35
  let fn := bits w 34 26
  let q := c.sqAt w
  let k := q.bind fun q => c.cqOf port fn q.cq
  let mine := c.cmds.filter fun y => decide (y.port = port ∧ y.fn = fn ∧ y.qid = bits w 15 0) && !y.posted
  let promised := mine.filter fun y => decide (y.promisePs ≠ 0)
  let oldest := promised.find? fun y => decide (y.admitT = minOf y.admitT (promised.map Cmd.admitT))
  let due := oldest.map fun y => cdiv (y.fetchT * psPerCyc + y.promisePs + y.extraPs) psPerCyc
  let state := match q with
    | none => 0
    | some q => if q.deleting then 2 else if (c.fnOf port fn).flr ≠ 0 then 3 else 1
  let active := c.qs.sqs.filter fun q => !q.deleting && decide ((c.fnOf q.port q.fn).flr = 0)
  let next := minOf max40 ((active.map Sq.word).filter fun v => decide (w < v))
  let cq := fun (f : Cq → Nat) => (k.map f).getD 0
  let sq := fun (f : Sq → Nat) => (q.map f).getD 0
  [(E.Q_STATE, state), (E.Q_SQ_HEAD, sq Sq.head), (E.Q_SQ_TAIL, sq Sq.tail), (E.Q_CQ_HEAD, cq Cq.head), (E.Q_CQ_TAIL, cq Cq.tail),
   (E.Q_CQ_PHASE, cq Cq.phase), (E.Q_INFLIGHT, mine.length), (E.Q_CLASS, if q.isSome then c.classInForce w else 0),
   (E.Q_OLDEST_DUE, min max60 (due.getD 0)), (E.Q_BASES, sq Sq.base % 2 ^ 64 + at' (cq Cq.base % 2 ^ 64) 64),
   (E.Q_NEXT, next)].foldl (fun c p => c.put x p.1 p.2) c

/-! ### Actions -/

/-- UNIT_RETIRE (R18): refused for CTL and PAIR, for a unit ABSENT or RETIRED, and where the service
floor would fail. -/
def Chip.retireAsked (c : Chip) (v : Nat) : Chip :=
  let u := unitOfIdent v
  let out := fun (c : Chip) r => c.set E.UNIT_RETIRE_RESULT r
  if unitKind u = kCTL ∨ unitKind u = kPAIR then out c 3
  else if c.own u = 0 ∨ c.own u = 4 then out c 2
  else
    let c1 := c.retire u 4
    if c1.floorFaults ≠ 0 then out c 1 else out c1 0

/-- TAP_CHECK_RUN (R286). -/
def Chip.tapsAsked (c : Chip) : Chip :=
  if !c.st.present ∨ c.st.proof then c.set E.TAP_CHECK_RESULT 4 else c.startTaps

/-- PROOF_RUN (R277). -/
def Chip.proofAsked (c : Chip) : Chip := if c.proofReady then c.startProof else c.set E.PROOF_RESULT 4

/-- STORE_PREPARE (R288): 1 enters write-through mode and drains the Crucible, 0 ends the state. -/
def Chip.prepareAsked (c : Chip) (v : Nat) : Chip :=
  if v = 0 then c.set E.PREPARE_STATE 0
  else if c.get E.PREPARE_STATE ≠ 0 then c
  else (((c.set E.PREPARE_STATE 1).setWt false).drainCrucible).prepared

/-- A write through MCTP or a BAR4 window while SEC_LOCK is 1 (R443). -/
def Chip.secLocked (c : Chip) (x : Xport) : Bool :=
  decide (c.get E.SEC_LOCK = 1) && match x with
    | .mctp => true
    | .bar4 _ => true
    | _ => false

/-- MGMT_KEY_WRAP (R443). -/
def Chip.keyWrapped (c : Chip) (x : Xport) (v : Nat) : Chip :=
  if c.secLocked x then c.set E.MGMT_KEY_RESULT 2
  else match Config.keyUnwrap c.fuse.secret v with
    | none => c.set E.MGMT_KEY_RESULT 3
    | some k => (({ c with mg := { c.mg with key := some k } }).set E.MGMT_KEY_RESULT 1).event 0x58C 0 1 noUnit []

/-- SEC_LOCK_SET (R443). -/
def Chip.lockSet (c : Chip) : Chip := (c.set E.SEC_LOCK 1).event 0x58C 3 1 noUnit []

/-- SVN_COMMIT (R442): the floor rises to the smaller of the running version and 64. -/
def Chip.svnAsked (c : Chip) (x : Xport) : Chip :=
  let v := min 64 c.runningSvn
  if c.secLocked x then c.set E.SVN_RESULT 3
  else if c.fuse.svnFloor = 64 ∧ 64 < c.runningSvn then c.set E.SVN_RESULT 4
  else if c.fuse.svnFloor < v then
    (({ c with fuse := { c.fuse with svnFloor := v } }).set E.SVN_RESULT 1).event 0x58C 1 1 noUnit [v]
  else c.set E.SVN_RESULT 2

/-- A root key index is present and not revoked. -/
def Chip.keyValid (c : Chip) (k : Nat) : Bool := decide (nth c.fuse.keyDigests k ≠ 0) && !(c.fuse.keyRevoked.getD k false)

/-- KEY_REVOKE (R457). -/
def Chip.revokeAsked (c : Chip) (x : Xport) (k : Nat) : Chip :=
  let running := match c.fw.slots[c.get E.FW_RUNNING_SLOT - 1]? with
    | some i => decide (c.get E.FW_RUNNING_SLOT ≠ 0) && decide (i.keyIndex = k)
    | none => false
  let last := c.keyValid k && decide (((List.range 4).filter c.keyValid).length ≤ 1)
  if c.secLocked x then c.set E.KEY_REVOKE_RESULT 3
  else if running || last then c.set E.KEY_REVOKE_RESULT 2
  else
    let l := c.fuse.keyRevoked.set k true
    (({ c with fuse := { c.fuse with keyRevoked := l } }).set E.KEY_REVOKE_RESULT 1).event 0x58C 2 1 noUnit [k]

/-! ### Peer windows (R325, R328, R329) -/

/-- The window that a transport has selected: port and number. -/
def Chip.winSel (c : Chip) (x : Xport) : Nat × Nat := let i := c.itemOf x E.PW_CMD; (i / 256, i % 256)

/-- The fields of a window can be armed (R325, R326). -/
def Chip.winFieldsOk (c : Chip) (it : Nat) : Bool :=
  let g := fun a => c.getAt a it
  let size := if g E.PW_DB_SIZE = 0 then 4 else 8
  let field := fun v => decide (bits v 14 12 ≤ 4) && (decide (bits v 14 12 = 0) || decide (bits v 11 6 < 8 * size))
  decide (g E.PW_BASE % 4096 = 0) && decide (g E.PW_SIZE % 4096 = 0) && decide (4096 ≤ g E.PW_SIZE ∧ g E.PW_SIZE ≤ 2 ^ 32)
    && decide (g E.PW_DB_ADDR % size = 0) && field (g E.PW_DB_FIELD_A) && field (g E.PW_DB_FIELD_B)

/-- PW_CMD 1: the fields take effect, and the counts and cells are 0. -/
def Chip.armWin (c : Chip) (p w : Nat) : Chip :=
  let it := winItem p w
  let g := fun a => c.getAt a it
  if (c.win5 p w).state ≠ 0 then c.setAt E.PW_CMD_RESULT it 1
  else if !c.winFieldsOk it then c.setAt E.PW_CMD_RESULT it 2
  else
    let n : Win5 := { port := p, win := w, state := 1, base := g E.PW_BASE, size := g E.PW_SIZE, dbAddr := g E.PW_DB_ADDR,
                      dbSize := g E.PW_DB_SIZE, template := g E.PW_DB_TEMPLATE, fieldA := g E.PW_DB_FIELD_A,
                      fieldB := g E.PW_DB_FIELD_B, maxWork := g E.PW_MAX_WORK, owner := g E.PW_OWNER,
                      ordered := decide (g E.PW_ORDERED = 1), timeoutMs := g E.PW_TIMEOUT, count := 0, accepted := 0,
                      timers := [], users := [], reading := [] }
    let c1 := (c.setWin5 n).setAt E.PW_CMD_RESULT it 0
    let c2 := (c1.setAt E.PW_DOORBELLS it 0).setAt E.PW_BYTES it 0
    (c2.set (E.PW_CONSUMED0 + it) 0).set (E.PW_FAULT0 + it) 0

/-- PW_CMD 2: retired with cause 2. -/
def Chip.removeWin (c : Chip) (p w : Nat) : Chip :=
  if (c.win5 p w).state ≠ 1 then c.setAt E.PW_CMD_RESULT (winItem p w) 1
  else (c.retireWin p w 2 none).setAt E.PW_CMD_RESULT (winItem p w) 0

/-- PW_CMD 3: a retired window that no command uses is free again. -/
def Chip.clearWin (c : Chip) (p w : Nat) : Chip :=
  let v := c.win5 p w
  if v.state ≠ 2 ∨ v.users ≠ [] ∨ v.reading ≠ [] then c.setAt E.PW_CMD_RESULT (winItem p w) 1
  else (c.setWin5 { v with state := 0 }).setAt E.PW_CMD_RESULT (winItem p w) 0

/-- A consumed count (R328): taken as the doorbells consumed since the last one accepted, and ignored
when they exceed those written and not consumed. -/
def Chip.consumed (c : Chip) (p w v : Nat) : Chip :=
  let x := c.win5 p w
  let n := serialDist 20 x.accepted v
  if serialDist 20 x.accepted x.count < n then c.countAt E.PW_BAD_CONSUMED (winItem p w) 1
  else (c.setWin5 { x with accepted := v % 2 ^ 20, timers := x.timers.drop n }).set (E.PW_CONSUMED0 + winItem p w) (v % 2 ^ 20)

/-- A write to PW_FAULT (R329). -/
def Chip.faulted (c : Chip) (p w v : Nat) : Chip :=
  let c1 := c.set (E.PW_FAULT0 + winItem p w) v
  if v = 0 then c1 else c1.retireWin p w 3 none

/-! ### Starting an action -/

/-- The action of an X entry starts with the value stored for it (R367). -/
def Chip.startAction (c : Chip) (x : Xport) (a : Nat) : Chip :=
  let v := c.getAt a (c.itemOf x a)
  let w := c.winSel x
  if a = E.UNIT_RETIRE then c.retireAsked v
  else if a = E.SNAP_TAKE then c.takeSnap x
  else if a = E.TAP_CHECK_RUN then c.tapsAsked
  else if a = E.PROOF_RUN then c.proofAsked
  else if a = E.STORE_PREPARE then c.prepareAsked v
  else if a = E.PW_CMD then (if v = 1 then c.armWin w.1 w.2 else if v = 2 then c.removeWin w.1 w.2 else c.clearWin w.1 w.2)
  else if a = E.IMAGE_FLUSH then c.beginImage
  else if a = E.MGMT_KEY_WRAP then c.keyWrapped x v
  else if a = E.SEC_LOCK_SET then c.lockSet
  else if a = E.SVN_COMMIT then c.svnAsked x
  else if a = E.KEY_REVOKE then c.revokeAsked x v
  else c

/-! ### Entries that act when written -/

/-- SPARE_INIT comes into force at once while no namespace exists, and the dies' spares are judged by
the thresholds in force (R156, R166). -/
def Chip.spareChanged (c : Chip) : Chip :=
  let c1 := if c.ft.nss.isEmpty then c.set E.SPARE_INIT_ACTIVE (c.get E.SPARE_INIT) else c
  c1.each (c1.md.dies.map Die.lun) Chip.spareState

/-- A new binding of an existing queue: its class follows, raised to the floor that it was created under (R34, R35, R67).
QB_CLASS 4 names no class and leaves the class in force (DESIGN CHOICE, log entry 40). -/
def Chip.rebind (c : Chip) (w : Nat) : Chip :=
  match c.sqAt w with
  | none => c
  | some q =>
    let b := c.getAt E.QB_CLASS w
    if 4 ≤ b then c
    else
      let c1 := c.setSq { q with cls := max b q.floor }
      if b < q.floor then c1.event 0x205 0 1 noUnit [fnItem q.port q.fn, q.qid] else c1

/-- A changed FQ_FETCH_WEIGHT applies from the next fetch visit: to what is left of the turn of its function (R75, R96). -/
def Chip.reweigh (c : Chip) (item old new : Nat) : Chip :=
  let arb := c.qs.arb.mapIdx fun p (a : Arb) => if fnItem p a.fn = item ∧ a.left ≠ 0 then { a with left := new - (old - a.left) } else a
  { c with qs := { c.qs with arb := arb } }

/-- The consequences of a stored value that belong to the write itself. -/
def Chip.effect (before c : Chip) (x : Xport) (a item : Nat) : Chip :=
  if a = E.QSEL then c.captureQueue x
  else if a = E.ZT_ENTRIES ∨ a = E.ZT_ORDER then (c.set E.ZT_GEN ((c.get E.ZT_GEN + 1) % 2 ^ 20)).saveZones
  else if a = E.SPARE_INIT ∨ a = E.DIE_SPARE_MIN then c.spareChanged
  else if a = E.CRU_SIZE then c.placeDram.fitGrant
  else if a = E.LAYOUT_PERMS ∨ a = E.LAYOUT_FAMILY then c.rebuildLayout
  else if a = E.QB_CLASS then c.rebind item
  else if a = E.PM_TARGET then c.requestPs (c.getAt a item) false
  else if a = E.FQ_FETCH_WEIGHT then c.reweigh item (before.getAt a item) (c.getAt a item)
  else if a = E.PAIR_SOLO_WRITES then c
  else if a = E.MGMT_ENABLE then (if c.getAt a item = 0 then c.set E.MGMT_LINK 0 else c)
  else if a = E.AVS_ENABLE then
    (if c.getAt a item = 1 then { c with pm := { c.pm with avsStopped := false, vcoreFails := 0 } } else c)
  else if a = E.THROTTLE_FACTORS then before.holdSupply (c.set E.THROTTLE_FACTOR (c.stepFactor (c.get E.THROTTLE_STEP)))
  else if a = E.SUPPLY_PS0 ∨ a = E.SUPPLY_PS1 ∨ a = E.SUPPLY_PS2 then before.holdSupply c
  else c

/-! ### Writes -/

/-- A write of the pair range or of PORT1's window cells on a part that has neither: it is ignored without
a report (R3, R335). -/
def Chip.ignored (c : Chip) (a : Nat) : Bool := c.noPair a || (c.singlePort && (idxOf a == 0x5181 || idxOf a == 0x5191))

/-- One record applied (R368, R369): its value checked and stored, with its effect; the answer says
whether it was clamped. An action is not started here. -/
def Chip.applyWrite (c : Chip) (x : Xport) (a v len : Nat) : Chip × Bool :=
  match descOf a with
  | none => (c, false)
  | some d =>
    if c.ignored a then (c, false)
    else
      let item := c.itemOf x a
      let n := c.count E.DICT_WRITES 1
      let r := n.storeWrite x d a item v len 1
      let w := r.1.getAt a item
      if idxOf a = 0x5840 then ((r.1.setAt a item (n.getAt a item)).writeCell (a - E.MBOX) w false, r.2)
      else if idxOf a = 0x5841 then ((r.1.setAt a item (n.getAt a item)).fencedWrite x (a - E.MBOX_FENCED) w, r.2)
      else if idxOf a = 0x5180 ∨ idxOf a = 0x5181 then ((r.1.setAt a 0 (n.getAt a 0)).consumed (idxOf a - 0x5180) (a % 256) w, r.2)
      else if idxOf a = 0x5190 ∨ idxOf a = 0x5191 then (r.1.faulted (idxOf a - 0x5190) (a % 256) w, r.2)
      else
        let c1 := if d.access = .rwp then r.1.markImage else r.1
        (c.effect c1 x a item, r.2)

/-- Access of an entry. -/
def isAction (a : Nat) : Bool :=
  match descOf a with
  | some d => decide (d.access = .x)
  | none => false

/-- One write that arrives by itself (R368, R370): refused, or applied and, for an action, started. The
answer is the status of R378. -/
def Chip.writeOne (c : Chip) (x : Xport) (a v len tag : Nat) : Chip × Nat :=
  if c.ignored a then (c, 0)
  else match c.refusal x a tag with
    | some r => (c.refuseWrite x a v r.2, r.1)
    | none =>
      let r := c.applyWrite x a v len
      (if isAction a then r.1.startAction x a else r.1, if r.2 then 5 else 0)

/-- The status with which a record of a Set fails, before any record is applied (R379). -/
def Chip.recordFails (c : Chip) (x : Xport) (r : DictRec) : Option (Nat × Nat) :=
  if c.ignored r.addr then none
  else match c.refusal x r.addr r.tag with
    | some k => some (k.2, if k.2 = 4 then stCompare else if k.2 = 5 then stSequence else stInvalidField)
    | none => match descOf r.addr with
      | none => some (3, stInvalidField)
      | some d => if d.type.code = r.type then none else some (0, stInvalidField)

/-- Octets and value of a record as a write takes them: an OCT record gives the number of octets in its
value. -/
def recValue (r : DictRec) : Nat × Nat := if r.type = 6 then (r.octets, r.value) else (r.value, 0)

/-- Several records as one write (R368, R379): the first failure in record order with its status and
position, or the records that are not actions, then the actions in order, with the number clamped. -/
def Chip.writeRecords (c : Chip) (x : Xport) (rs : List DictRec) : Chip × Option (Nat × Nat) × Nat :=
  match (rs.zip (List.range rs.length)).findSome? fun p => (c.recordFails x p.1).map fun f => (f, p.2, p.1) with
  | some (f, i, r) =>
    (if f.1 = 0 then c else c.refuseWrite x r.addr (recValue r).1 f.1, some (f.2, i), 0)
  | none =>
    let one := fun (p : Chip × Nat) (r : DictRec) =>
      let w := p.1.applyWrite x r.addr (recValue r).1 (recValue r).2
      (if isAction r.addr then w.1.startAction x r.addr else w.1, if w.2 then p.2 + 1 else p.2)
    let plain := (rs.filter fun r => !isAction r.addr).foldl one (c, 0)
    let all := (rs.filter fun r => isAction r.addr).foldl one plain
    (all.1, none, all.2)

end Sys2Proof.Machine
end

