-- ==== Sys2Proof/Machine/DictRows.lean ====
section
/-! DEFINITION. The dictionary by command: the BAR4 window, single writes, actions, peer windows,
Dictionary Get and Set, and the persistent image (R325 to R329, R366 to R383). -/
namespace Sys2Proof.Machine

/-! ### Single writes and actions -/

/-- A write of one entry, through a transport whose writes are enabled; the status goes back. -/
def Chip.writeBy (c : Chip) (x : Xport) (a v len tag : Nat) : Chip :=
  c.when (c.isReady && c.xportWrites x) fun c =>
    let r := c.writeOne x a v len tag
    r.1.emit (.reply x 2 r.2 [])

/-- A row that writes an entry whose effect can change units. -/
def writeEntryRow (s : State) (t : Nat) (x : Xport) (a v len tag : Nat) : Host.Outcome State Fault Refusal :=
  runUnits s t fun c => c.writeBy x a v len tag

/-- A row that writes an entry whose effect changes no unit. -/
def writeActionRow (s : State) (t : Nat) (x : Xport) (a v len : Nat) : Host.Outcome State Fault Refusal :=
  run s t fun c => c.writeBy x a v len 0

/-- A write to any entry (R368); the octets of an OCT entry are written whole. -/
def execDictionaryWrite (t : Nat) (x : Xport) (addr value tag : Nat) (s : State) : Host.Outcome State Fault Refusal :=
  writeEntryRow s t x addr value (((descOf addr).map Desc.octets).getD 0) tag

def execSnapTake (t : Nat) (x : Xport) (value : Nat) (s : State) : Host.Outcome State Fault Refusal :=
  writeActionRow s t x E.SNAP_TAKE value 0

def execQsel (t : Nat) (x : Xport) (value : Nat) (s : State) : Host.Outcome State Fault Refusal :=
  writeActionRow s t x E.QSEL value 0

def execUnitRetire (t : Nat) (x : Xport) (value : Nat) (s : State) : Host.Outcome State Fault Refusal :=
  writeEntryRow s t x E.UNIT_RETIRE value 0 0

def execTapCheckRun (t : Nat) (x : Xport) (value : Nat) (s : State) : Host.Outcome State Fault Refusal :=
  writeActionRow s t x E.TAP_CHECK_RUN value 0

def execProofRun (t : Nat) (x : Xport) (value : Nat) (s : State) : Host.Outcome State Fault Refusal :=
  writeActionRow s t x E.PROOF_RUN value 0

def execStorePrepare (t : Nat) (x : Xport) (value : Nat) (s : State) : Host.Outcome State Fault Refusal :=
  writeActionRow s t x E.STORE_PREPARE value 0

def execImageFlush (t : Nat) (x : Xport) (value : Nat) (s : State) : Host.Outcome State Fault Refusal :=
  writeActionRow s t x E.IMAGE_FLUSH value 0

/-- The 144 octets of MGMT_KEY_WRAP (R443). -/
def execMgmtKeyWrap (t : Nat) (x : Xport) (value : Nat) (s : State) : Host.Outcome State Fault Refusal :=
  writeActionRow s t x E.MGMT_KEY_WRAP value 144

def execSecLockSet (t : Nat) (x : Xport) (value : Nat) (s : State) : Host.Outcome State Fault Refusal :=
  writeActionRow s t x E.SEC_LOCK_SET value 0

def execSvnCommit (t : Nat) (x : Xport) (value : Nat) (s : State) : Host.Outcome State Fault Refusal :=
  writeActionRow s t x E.SVN_COMMIT value 0

def execKeyRevoke (t : Nat) (x : Xport) (value : Nat) (s : State) : Host.Outcome State Fault Refusal :=
  writeActionRow s t x E.KEY_REVOKE value 0

def execPmTarget (t : Nat) (x : Xport) (value : Nat) (s : State) : Host.Outcome State Fault Refusal :=
  writeActionRow s t x E.PM_TARGET value 0

/-! ### Peer windows (R325 to R329) -/

def execPwArm (t : Nat) (x : Xport) (s : State) : Host.Outcome State Fault Refusal := writeActionRow s t x E.PW_CMD 1 0

def execPwRemove (t : Nat) (x : Xport) (s : State) : Host.Outcome State Fault Refusal := writeActionRow s t x E.PW_CMD 2 0

def execPwClear (t : Nat) (x : Xport) (s : State) : Host.Outcome State Fault Refusal := writeActionRow s t x E.PW_CMD 3 0

/-- The cell of a window of a port: port 0 at D5180 and D5190, port 1 at D5181 and D5191 (R335). -/
def execPwConsumedWrite (t : Nat) (x : Xport) (port win value : Nat) (s : State) : Host.Outcome State Fault Refusal :=
  writeActionRow s t x (E.PW_CONSUMED0 + winItem (port % 2) (win % 256)) value 0

def execPwFaultWrite (t : Nat) (x : Xport) (port win value : Nat) (s : State) : Host.Outcome State Fault Refusal :=
  writeActionRow s t x (E.PW_FAULT0 + winItem (port % 2) (win % 256)) value 0

/-- The oldest doorbell not consumed has stood for PW_TIMEOUT (R329). -/
def Chip.winTimeout (c : Chip) (port win : Nat) : Chip :=
  let w := c.win5 port win
  match w.timers with
  | [] => c
  | t0 :: _ => if w.state = 1 ∧ t0 + w.timeoutMs * cycPerMs ≤ c.now then c.retireWin port win 1 none else c

def execPwTimeout (t port win : Nat) (s : State) : Host.Outcome State Fault Refusal :=
  run s t fun c => c.when c.isReady fun c => c.winTimeout port win

/-- A delivery that has ended its data writes and whose doorbell stands next (R327): in an ordered window
the first of its commands in admission order. -/
def Win5.next (w : Win5) (h : Nat) : Bool := w.users.contains h && (!w.ordered || decide (w.users.head? = some h))

/-- The doorbell of a delivery (R326, R327): one posted write, after which the command ends, or, when
another port fetched it, waits for the read behind the doorbell. -/
def Chip.ringPeer (c : Chip) (x : Cmd) : Chip :=
  let p := x.segWin / 256
  let win := x.segWin % 256
  let w := c.win5 p win
  let size := if w.dbSize = 0 then 4 else 8
  let v := w.doorbell (x.dw 15) x.dw0 (x.dw 14)
  let n := (w.count + 1) % 2 ^ 20
  let timers := w.timers ++ [c.now]
  let away := decide (p ≠ x.port)
  let users := w.users.erase x.h
  let reading := if away then x.h :: w.reading else w.reading
  let c1 := (c.setWin5 { w with count := n, timers := timers, users := users, reading := reading }).emit
    (.peer p win w.dbAddr size v)
  let it := winItem p win
  let c2 := c1.setAt E.PW_DOORBELLS it (min max60 (c1.getAt E.PW_DOORBELLS it + 1))
  if away then c2.setCmd { x with work := 1, resolvedPs := c.nowPs }
  else (c2.count E.SB_SEG_READS 1).finish x.h stOk x.dw0 x.dw1

def execPeerDoorbell (t h : Nat) (s : State) : Host.Outcome State Fault Refusal :=
  run s t fun c => match c.cmd h with
    | none => c
    | some x =>
      let w := c.win5 (x.segWin / 256) (x.segWin % 256)
      c.when (c.isReady && !x.admin && decide (x.opcode = 0x82 ∧ x.phase = .committed ∧ w.state = 1) && w.next h) fun c => c.ringPeer x

/-- The read behind a cross-port doorbell has ended (R327): its time beyond HOST_LAT_LIMIT is peer time
(R37); a failed one retires the window with cause 5. -/
def Chip.readBehind (c : Chip) (x : Cmd) (ok : Bool) : Chip :=
  let p := x.segWin / 256
  let win := x.segWin % 256
  let w := c.win5 p win
  let late := (c.nowPs - x.resolvedPs) - c.get E.HOST_LAT_LIMIT * 1000
  if ok then
    let c1 := (c.setWin5 { w with reading := w.reading.erase x.h }).portEnds p
    (((c1.setCmd { x with peerPs := x.peerPs + late }).hostTime x.h late).count E.SB_SEG_READS 1).finish x.h stOk x.dw0 x.dw1
  else c.retireWin p win 5 none

def execDoorbellReadCompletion (t h : Nat) (ok : Bool) (s : State) : Host.Outcome State Fault Refusal :=
  run s t fun c => match c.cmd h with
    | none => c
    | some x => c.when (c.isReady && !x.admin && decide (x.opcode = 0x82 ∧ x.phase = .committed ∧ x.work = 1)) fun c => c.readBehind x ok

/-! ### The BAR4 window (R380 to R383) -/

/-- The window of a physical function; port 1 has one in port mode 1 only. -/
def Chip.winOf (c : Chip) (port : Nat) : Option Win :=
  if c.isReady && c.portUsed port && !c.inD3 port 0 then c.dict.wins[port]? else none

def Chip.setWin (c : Chip) (port : Nat) (w : Win) : Chip :=
  let l := c.dict.wins.set port w
  { c with dict := { c.dict with wins := l } }

/-- SLOT_COUNT, from the size of BAR4 as latched: 256 KiB × 2^n. -/
def Chip.slotCount (c : Chip) (port : Nat) : Nat := (262144 * 2 ^ (c.portOf port).bar4 - 73728) / 4096

/-- An access to a slot that maps an index (log entry 30), with the window; none where it has no effect. -/
def Chip.slotAccess (c : Chip) (port slot index : Nat) : Option Win :=
  if c.slotCount port ≤ slot ∨ index = 0 then none
  else (c.winOf port).map fun w => { w with slotMap := w.slotMap.put 0 slot index }

/-- Cells of a type in the window (R366); none for OCT. -/
def DType.cells : DType → Nat
  | .u40 => 2
  | .u60 => 3
  | .oct => 0
  | _ => 1

/-- Dword 0 of an entry: its low cell and its tag; a multi-cell entry latches its other cells (R382). -/
def Chip.readDword0 (c : Chip) (port : Nat) (w : Win) (a : Nat) : Chip :=
  let x := Xport.bar4 port
  match descOf a with
  | none => (c.setWin port w).emit (.reply x 0 0 [0])
  | some d =>
    let n := d.type.cells
    if n = 0 then (c.setWin port w).emit (.reply x 0 0 [0])
    else
      let v := c.readEntry x a
      let tag := c.tagSeen x a
      let w1 := if n = 1 then w else { w with latchAddr := a, latchValue := v, latchTag := tag }
      ((c.setWin port w1).count E.DICT_READS 1).emit (.reply x 0 0 [v % 2 ^ 20 + at' tag 20])

/-- A cell dword of an entry as the window shows it (R381, R382): a cell with its tag, upper cells of the entry that the latch
holds from the latch. -/
def Chip.cellDword (c : Chip) (port : Nat) (w : Win) (a dword : Nat) : Nat :=
  let x := Xport.bar4 port
  match descOf a with
  | none => 0
  | some d =>
    let held := decide (dword ≠ 0 ∧ w.latchAddr = a)
    let v := if held then w.latchValue else c.readEntry x a
    if d.type.cells ≤ dword then 0 else bits v (20 * dword + 19) (20 * dword) + at' (if held then w.latchTag else c.tagSeen x a) 20

/-- What an aligned dword of the window reads as, by its offset in BAR4 (R380). -/
def Chip.windowDword (c : Chip) (port off : Nat) : Nat :=
  match c.winOf port with
  | none => 0
  | some w =>
    let r := off - 0x10000
    if off < 0x10000 ∨ off % 4 ≠ 0 then 0
    else if r = 0 then 0x44570001
    else if r = 4 then c.slotCount port
    else if r = 8 then w.octSelect
    else if r = 0xC then w.octLen + at' w.octTag 20
    else if r = 0x10 then w.octWlen + at' w.octWtag 20
    else if r = 0x18 then w.status + at' w.statusTag 20
    else if 0x800 ≤ r ∧ r < 0x800 + 4 * c.slotCount port then w.slotMap.get 0 ((r - 0x800) / 4)
    else if 0x1000 ≤ r ∧ r < 0x2000 then bits w.octBuf (8 * (r - 0x1000) + 31) (8 * (r - 0x1000))
    else if 0x2000 ≤ r ∧ (r - 0x2000) / 4096 < c.slotCount port then
      c.cellDword port w (w.slotMap.get 0 ((r - 0x2000) / 4096) * 256 + r % 4096 / 16) (r / 4 % 4)
    else 0

/-- A mailbox read that waits: this window has a fenced write outstanding (R356). -/
def Chip.stalledRead (c : Chip) (port index : Nat) : Bool :=
  decide (index = 0x5840 ∨ index = 0x5841) && c.fenced (.bar4 port)

def execCellDword0Read (t port slot index sub : Nat) (s : State) : Host.Outcome State Fault Refusal :=
  run s t fun c => match c.slotAccess port slot index with
    | none => c.unsupported port 0
    | some w => c.when (!c.stalledRead port index) fun c => c.readDword0 port w (index * 256 + sub % 256)

/-- Writing dword 1 or 2 of a multi-cell entry stages those bits (R382). -/
def Chip.stageCell (c : Chip) (port : Nat) (w : Win) (a dword v : Nat) : Chip :=
  let n := ((descOf a).map fun d => d.type.cells).getD 0
  if dword = 0 ∨ n ≤ dword then c.setWin port w
  else
    let w1 := if w.stageAddr = a then w else { w with stageAddr := a, stage1 := none, stage2 := none }
    c.setWin port (if dword = 1 then { w1 with stage1 := some (v % 2 ^ 20) } else { w1 with stage2 := some (v % 2 ^ 20) })

def execCellUpperWrite (t port slot index sub dword value : Nat) (s : State) : Host.Outcome State Fault Refusal :=
  run s t fun c => match c.slotAccess port slot index with
    | none => c.unsupported port 0
    | some w => c.stageCell port w (index * 256 + sub % 256) dword value

/-- WIN_STATUS after a write: its status and the tag the entry has then. -/
def Chip.winStatus (before c : Chip) (port a status : Nat) : Chip :=
  let x := Xport.bar4 port
  match c.dict.wins[port]? with
  | none => c
  | some w =>
    let t := before.tagSeen x a
    c.setWin port { w with status := status, statusTag := if before.readEntry x a = c.readEntry x a then t else nextTag t }

/-- The value that a dword-0 write commits: the staged upper cells, or the current ones (R382). -/
def Win.joined (w : Win) (d : Desc) (a cur cell : Nat) : Nat :=
  let mine := decide (w.stageAddr = a)
  let c1 := if mine then w.stage1.getD (bits cur 39 20) else bits cur 39 20
  let c2 := if mine then w.stage2.getD (bits cur 59 40) else bits cur 59 40
  match d.type with
  | .u40 => cell + at' c1 20
  | .u60 => cell + at' c1 20 + at' c2 40
  | .s20 => ofInt 64 (toInt 20 cell)
  | _ => cell

/-- Writing dword 0 commits the value under its tag condition, and clears the stage (R382). -/
def Chip.commitCell (c : Chip) (port : Nat) (w : Win) (a value : Nat) : Chip :=
  let x := Xport.bar4 port
  match descOf a with
  | none => c.setWin port w
  | some d =>
    if d.type = .oct then c.setWin port w
    else
      let v := w.joined d a (c.readEntry x a) (value % 2 ^ 20)
      let c1 := c.setWin port { w with stageAddr := 0, stage1 := none, stage2 := none }
      let r := c1.writeOne x a v 0 (bits value 31 20)
      c.winStatus r.1 port a r.2

def execCellDword0Write (t port slot index sub value : Nat) (s : State) : Host.Outcome State Fault Refusal :=
  runUnits s t fun c => match c.slotAccess port slot index with
    | none => c.unsupported port 0
    | some w => c.commitCell port w (index * 256 + sub % 256) value

/-- OCT_SELECT latches an OCT entry into the octet buffer (R383). -/
def Chip.selectOct (c : Chip) (port a : Nat) (w : Win) : Chip :=
  let x := Xport.bar4 port
  match descOf a with
  | none => c.setWin port { w with octSelect := a, octBuf := 0, octLen := 0, octTag := 0 }
  | some d =>
    if d.type = .oct then
      (c.setWin port { w with octSelect := a, octBuf := c.readEntry x a, octLen := d.octets, octTag := c.tagSeen x a }).count E.DICT_READS 1
    else c.setWin port { w with octSelect := a, octBuf := 0, octLen := 0, octTag := 0 }

def execOctSelect (t port addr : Nat) (s : State) : Host.Outcome State Fault Refusal :=
  run s t fun c => match c.winOf port with
    | none => c.unsupported port 0
    | some w => c.selectOct port addr w

/-- OCT_COMMIT: the first OCT_WLEN octets of the buffer as one write (R383); `octets` is the buffer as the
host filled it. -/
def Chip.commitOct (c : Chip) (port a wlen tag octets : Nat) (w : Win) : Chip :=
  let x := Xport.bar4 port
  let n := min 4096 wlen
  let c1 := c.setWin port { w with octBuf := octets % 2 ^ 32768, octWlen := n, octWtag := tag % 4096 }
  match descOf a with
  | none => let r := c1.writeOne x a 0 0 0; c.winStatus r.1 port a r.2
  | some d =>
    if d.type = .oct then let r := c1.writeOne x a (octets % 2 ^ 32768) n (tag % 4096); c.winStatus r.1 port a r.2
    else c.winStatus c1 port a 1

def execOctCommit (t port addr wlen tag octets : Nat) (s : State) : Host.Outcome State Fault Refusal :=
  runUnits s t fun c => match c.winOf port with
    | none => c.unsupported port 0
    | some w => c.commitOct port addr wlen tag octets w

/-! ### Dictionary Get and Set (R374, R377 to R379) -/

/-- The record of one sub (R378): address, type, access, status, tag, value; an OCT entry gives its length,
and its octets when it is read alone. -/
def Chip.getRecord (c : Chip) (x : Xport) (a : Nat) (alone : Bool) : List Nat :=
  match descOf a with
  | none => [a, 0, 0, 1, 0, 0]
  | some d =>
    let v := c.readEntry x a
    let head := [a, d.type.code, d.access.code, 0, c.tagSeen x a]
    if d.type = .oct then (if alone then head ++ [d.octets, v] else head ++ [d.octets]) else head ++ [d.field64 v]

/-- The records of a run of subs; each counts as a read. -/
def Chip.getRecords (c : Chip) (x : Xport) (a n : Nat) : List (List Nat) × Chip :=
  ((List.range n).map fun i => c.getRecord x (a + i) (decide (n = 1)), c.count E.DICT_READS n)

/-- The octets of a record (R378): address, type, access, status, tag and value, and the octets of an OCT entry read alone. -/
def recordBytes (r : List Nat) : List Nat :=
  let head := octetsOf 16 (nth r 0 / 256 + at' (nth r 0 % 256) 16 + at' (nth r 1) 24 + at' (nth r 2) 32 + at' (nth r 3) 40 + at' (nth r 4) 48
    + at' (nth r 5 % 2 ^ 64) 64)
  if r.length = 7 then head ++ octetsOf (16 * cdiv (nth r 5) 16) (nth r 6) else head

/-- The number of octets of a record. -/
def recordOctets (r : List Nat) : Nat := if r.length = 7 then 16 + cdiv (nth r 5) 16 * 16 else 16

def Chip.dictGet (c : Chip) (x : Cmd) : Chip :=
  let a := bits (x.dw 10) 31 8
  let n := bits (x.dw 11) 8 0
  let r := c.getRecords .nvme a n
  if x.fn ≠ 0 then c.fail x.h stInvalidOpcode
  else if bits (x.dw 10) 7 0 ≠ 0 ∨ bits (x.dw 11) 31 9 ≠ 0 ∨ n = 0 ∨ 256 < n ∨ 256 < a % 256 + n ∨ 1052672 < x.dw 12
      ∨ x.dw 12 < sumOf (r.1.map recordOctets) then c.fail x.h stInvalidField
  else (r.2.emit (.recs x.h r.1)).finish x.h stOk 0 0

def execDictionaryGet (t h : Nat) (s : State) : Host.Outcome State Fault Refusal :=
  run s t fun c => c.adminCmd h 0xC6 Chip.dictGet

/-- A record of an entry kept in the image. -/
def recKept (r : DictRec) : Bool :=
  match descOf r.addr with
  | some d => imageRow d
  | none => false

/-- A Set with RWP records starts an image write, or waits for the next one when one is running; one with
a fenced mailbox cell waits for its acknowledgement (R356, R374). -/
def Chip.dictSet (c : Chip) (x : Cmd) (rs : List DictRec) : Chip :=
  let n := bits (x.dw 11) 8 0
  if x.fn ≠ 0 then c.fail x.h stInvalidOpcode
  else if bits (x.dw 10) 7 0 ≠ 0 ∨ bits (x.dw 11) 31 9 ≠ 0 ∨ n = 0 ∨ 256 < n ∨ rs.length ≠ n ∨ 1052672 < x.dw 12 then
    c.fail x.h stInvalidField
  else
    let w := c.writeRecords .nvme rs
    match w.2.1 with
    | some f => w.1.finish x.h f.1 0 f.2
    | none =>
      let dw0 := rs.length + at' w.2.2 16
      let fence := (rs.any fun r => decide (idxOf r.addr = 0x5841)) && w.1.fenced .nvme
      let image := rs.any recKept
      let work := if !image then 0 else if c.dict.writing then 2 else 1
      let c1 := if image ∧ !w.1.dict.writing then w.1.beginImage else w.1
      if work = 0 ∧ !fence then c1.finish x.h stOk dw0 0
      else c1.setCmd { x with phase := .working, dw0 := dw0, dw1 := 0, work := work, step := if fence then 1 else 0 }

def execDictionarySet (t h : Nat) (records : List DictRec) (s : State) : Host.Outcome State Fault Refusal :=
  runUnits s t fun c => c.adminCmd h 0xC5 fun c x => c.dictSet x records

/-- An image write ends: Sets that waited for it complete, and the next one starts when one still waits
(R373, R374). -/
def Chip.imageEnds (c : Chip) : Chip :=
  let c1 := c.endImage
  let waiting := c1.cmds.filter fun x => x.admin && decide (x.opcode = 0xC5 ∧ x.phase = .working ∧ x.work ≠ 0)
  let c2 := c1.each waiting fun c x =>
    let x1 := { x with work := x.work - 1 }
    let c' := c.setCmd x1
    if x1.work = 0 ∧ x1.step = 0 then c'.finish x.h stOk x.dw0 x.dw1 else c'
  if waiting.any fun x => decide (1 < x.work) then c2.beginImage else c2

/-- IMAGE_WRITE (R373): the write in progress ends, or, IMAGE_DELAY after the first unwritten change, one
is made. -/
def Chip.imageStep (c : Chip) : Chip :=
  if c.dict.writing then c.imageEnds
  else match c.dict.dirtySince with
    | none => c
    | some t0 => if t0 + c.get E.IMAGE_DELAY * cycPerMs ≤ c.now ∨ t0 = 0 then c.beginImage.imageEnds else c

def execImageWrite (t : Nat) (s : State) : Host.Outcome State Fault Refusal :=
  run s t fun c => c.when c.isReady Chip.imageStep

end Sys2Proof.Machine
end

