-- ==== Sys2Proof/Machine/Management.lean ====
section
/-! DEFINITION. The management transports: MCTP over SMBus, Fliad over management Ethernet, and the port
itself (R384 to R390). -/
namespace Sys2Proof.Machine

/-! ### MCTP (R384, R385) -/

/-- A row of the SMBus: service in an operational state, and the held bus of a wake is released. -/
def mctpRow (s : State) (t : Nat) (pecOk : Bool) (f : Chip → Chip) : Host.Outcome State Fault Refusal :=
  runUnits s t fun c => c.when c.awake fun c =>
    let c1 := { c with pm := { c.pm with smbusHeld := false } }
    (if pecOk then f c1 else (c1.count E.MCTP_ERRORS 1).event 0x584 1 1 noUnit []).takeSmb

/-- The body of a 0x7E response after the message type octet (R385): the vendor ID most significant octet first, the rest
little-endian; the address, the count and the position of a failing record where the command has them. -/
def mctpBody (op status a n failing : Nat) (recs : List (List Nat)) : List Nat :=
  octetsOf 12 (0x3D1F + at' (op + 128) 16 + at' status 24 + at' (a / 256) 32 + at' (a % 256) 48 + at' n 56 + at' failing 80) ++ recs.flatMap recordBytes

/-- A response to a 0x7E message: command with bit 7 set, status, and its fields. -/
def Chip.mctpReply (c : Chip) (op status : Nat) (fields : List Nat) (octets : List Nat) : Chip :=
  ((c.count E.MCTP_MSGS 1).emit (.frame .mctp octets)).emit (.reply .mctp (op + 128) status fields)

def Chip.mctpReads (c : Chip) (a n : Nat) : Chip :=
  if n = 0 ∨ 256 < n ∨ 256 < a % 256 + n then c.mctpReply 1 1 [] (mctpBody 1 1 a n 0 [])
  else
    let r := c.getRecords .mctp a n
    (r.2.emit (.recs 0 r.1)).mctpReply 1 0 [a, n] (mctpBody 1 0 a n 0 r.1)

def execMctpGet (t addr count : Nat) (pecOk : Bool) (s : State) : Host.Outcome State Fault Refusal :=
  mctpRow s t pecOk fun c => c.mctpReads addr count

/-- SET writes as Dictionary Set does, and reports the first record that fails (R379, R385). -/
def Chip.mctpWrites (c : Chip) (rs : List DictRec) : Chip :=
  if !c.xportWrites .mctp then c.mctpReply 2 3 [] (mctpBody 2 3 0 0 0 [])
  else if rs.isEmpty ∨ 256 < rs.length then c.mctpReply 2 1 [] (mctpBody 2 1 0 0 0 [])
  else
    let w := c.writeRecords .mctp rs
    let c1 := if w.2.1.isNone ∧ rs.any recKept then w.1.imageDue else w.1
    match w.2.1 with
    | some f => c1.mctpReply 2 2 [f.2] (mctpBody 2 2 0 rs.length f.2 [])
    | none => c1.mctpReply 2 0 [rs.length] (mctpBody 2 0 0 rs.length 0 [])

def execMctpSet (t : Nat) (records : List DictRec) (pecOk : Bool) (s : State) : Host.Outcome State Fault Refusal :=
  mctpRow s t pecOk fun c => c.mctpWrites records

/-- The control messages (R384): Set Endpoint ID takes 8 to 254, every command that is not served is
unsupported. The completion codes 2 and 5 are those of DSP0236 (PRESUMED, log entry 14). -/
def Chip.mctpControl (c : Chip) (code eid : Nat) : Chip :=
  let answer := fun (c : Chip) (status : Nat) (fields : List Nat) =>
    (c.count E.MCTP_MSGS 1).emit (.reply .mctp code status fields)
  if code = 1 then
    if 8 ≤ eid ∧ eid ≤ 254 then answer ((c.set E.MCTP_EID eid).event 0x584 0 1 noUnit [eid]) 0 [eid] else answer c 2 []
  else if code = 2 then answer c 0 [c.get E.MCTP_EID]
  else if code = 3 then answer c 0 [c.fuse.serial]
  else if code = 4 then answer c 0 [0xF1F3F100]
  else if code = 5 then answer c 0 [0x7E]
  else if code = 6 then answer c 0 [0x1F3D]
  else answer c 5 []

def execMctpControlMessage (t code eid : Nat) (pecOk : Bool) (s : State) : Host.Outcome State Fault Refusal :=
  mctpRow s t pecOk fun c => c.mctpControl code eid

/-- A message not complete 100 ms after its start is dropped (R384); the row stands for the end of that
time. -/
def execMctpReassemblyTimeout (t : Nat) (s : State) : Host.Outcome State Fault Refusal :=
  run s t fun c => c.when c.awake fun c => (c.count E.MCTP_ERRORS 1).event 0x584 1 1 noUnit []

/-! ### Fliad (R387 to R390) -/

/-- The 16-octet tag of a frame under a key. -/
def fliadTag (key : Nat) (octets : List Nat) : Nat := Config.hmacSha256 key octets % 2 ^ 128

/-- The ASCII octets of FLIAD1. -/
def fliadLabel : List Nat := [0x46, 0x4C, 0x49, 0x41, 0x44, 0x31]

/-- The session key of two nonces and a session number. -/
def fliadKey (key nc nd session : Nat) : Nat :=
  Config.hmacSha256 key (fliadLabel ++ octetsOf 16 nc ++ octetsOf 16 nd ++ octetsOf 4 session)

/-- The Fliad port takes frames: a key is provisioned, the management port is on and its link is up. -/
def Chip.fliadOn (c : Chip) : Bool :=
  c.awake && c.mg.key.isSome && decide (c.get E.MGMT_ENABLE = 1 ∧ c.get E.MGMT_LINK ≠ 0)

/-- A frame whose tag fails is dropped (R388). -/
def Chip.fliadForged (c : Chip) : Chip := (c.count E.FLIAD_AUTH_FAILS 1).eventFirst 0x582 0 1 noUnit []

/-- What an answer holds beside its status: its fields, the octets of its payload, and the header fields that its command fills
(R387). -/
structure FliadAnswer where
  fields : List Nat
  payload : List Nat
  tag : Nat
  failing : Nat
  last : Bool
  deriving DecidableEq, Repr

/-- An answer whose payload and fields are empty. -/
def FliadAnswer.plain (fields : List Nat) : FliadAnswer := { fields := fields, payload := [], tag := 0, failing := 0, last := false }

/-- The octets of a response under a key (R387, R388). It repeats the sequence of its request, and the address, count and block
offset as well (DESIGN CHOICE, log entry 67). -/
def fliadOctets (key : Nat) (f : FliadFrame) (op status session : Nat) (r : FliadAnswer) : List Nat :=
  let head := octetsOf 32 (0x4C46 + at' 1 16 + at' op 24 + at' (session % 2 ^ 32) 32 + at' (f.seq % 2 ^ 32) 64 + at' r.payload.length 96
    + at' status 112 + at' (if r.last then 1 else 0) 120 + at' (f.offset % 2 ^ 32) 128 + at' (f.addr / 256 % 65536) 160 + at' (f.addr % 256) 176
    + at' (f.count % 256) 184 + at' (r.tag % 4096) 192 + at' r.failing 208)
  head ++ r.payload ++ octetsOf 16 (fliadTag key (head ++ r.payload))

/-- A response that goes out, as fields and as octets. -/
def Chip.fliadSend (c : Chip) (l octets : List Nat) : Chip :=
  match l with
  | op :: status :: fields => (c.emit (.frame .fliad octets)).emit (.reply .fliad op status fields)
  | _ => c

/-- A response under a key: op, status, session and the answer's fields behind the sequence. -/
def Chip.fliadReply (c : Chip) (key : Nat) (f : FliadFrame) (op status session : Nat) (r : FliadAnswer) : Chip :=
  c.fliadSend (op :: status :: session :: f.seq :: r.fields) (fliadOctets key f op status session r)

/-- A session ends: its cause is 1 CLOSE, 2 idle, 3 reset (R388). -/
def Chip.endSession (c : Chip) (id cause : Nat) : Chip :=
  ({ c with mg := { c.mg with sessions := drop' (fun s => decide (s.id = id)) c.mg.sessions } }).event 0x583 0 1 noUnit [id, cause]

/-- A new session. -/
def Sess.opened (id key now : Nat) : Sess :=
  { id := id, key := key, last := 0, reply := [], frame := [], lastT := now, block := 0, blockLen := 0, blockTag := 0, blockAddr := 0,
    stage := 0, stageEnd := 0 }

/-- OPEN (R388): a response that opens no session is tagged by the management key. The nonce of the answer is drawn, and the session number is the next one that is not
zero. -/
def Chip.openSession (c : Chip) (f : FliadFrame) (key : Nat) : Chip :=
  if fliadTag key f.octets ≠ f.tag then c.fliadForged
  else if f.version ≠ 1 ∨ f.session ≠ 0 ∨ f.length ≠ 16 then c.fliadReply key f 129 1 0 (.plain [])
  else if c.get E.FLIAD_SESSIONS_MAX ≤ c.mg.sessions.length then c.fliadReply key f 129 6 0 (.plain [])
  else
    let id := c.mg.sessNext
    let d := c.draw
    let nd := d.1 % 2 ^ 128
    let s := Sess.opened id (fliadKey key (f.payload % 2 ^ 128) nd id) c.now
    let after := if id + 1 = 2 ^ 32 then 1 else id + 1
    let mg := { d.2.mg with sessions := d.2.mg.sessions ++ [s], sessNext := after }
    (({ d.2 with mg := mg }).event 0x583 0 1 noUnit [id, 0]).fliadReply s.key f 129 0 id
      { FliadAnswer.plain [nd] with payload := octetsOf 16 nd }

def execFliadOpen (t : Nat) (f : FliadFrame) (s : State) : Host.Outcome State Fault Refusal :=
  run s t fun c => match c.mg.key with
    | none => c
    | some k => c.when c.fliadOn fun c => c.openSession f k

/-- The session with a number. -/
def Chip.session (c : Chip) (id : Nat) : Option Sess := c.mg.sessions.find? fun s => decide (s.id = id)

def Chip.setSession (c : Chip) (s : Sess) : Chip :=
  { c with mg := { c.mg with sessions := change (fun r => decide (r.id = s.id)) (fun _ => s) c.mg.sessions } }

/-- A request of a session (R388, R389): executed once by its sequence, answered again when it is the last
one, and stale otherwise. `exec` gives the status and fields of its answer. -/
def Chip.fliadRequest (c : Chip) (f : FliadFrame) (op : Nat) (exec : Chip → Sess → Chip × Sess × Nat × FliadAnswer) : Chip :=
  match c.session f.session with
  | none => c.fliadReply (c.mg.key.getD 0) f (op + 128) 3 f.session (.plain [])
  | some s =>
    if fliadTag s.key f.octets ≠ f.tag then c.fliadForged
    else
      let s0 := { s with lastT := c.now }
      let c0 := c.setSession s0
      if f.version ≠ 1 ∨ 1024 < f.length then c0.fliadReply s.key f (op + 128) 1 f.session (.plain [])
      else if serialLt 32 s.last f.seq then
        let r := (c0.count E.FLIAD_REQUESTS 1)
        let w := exec r s0
        let reply := (op + 128) :: w.2.2.1 :: f.session :: f.seq :: w.2.2.2.fields
        let frame := fliadOctets s.key f (op + 128) w.2.2.1 f.session w.2.2.2
        (w.1.setSession { w.2.1 with last := f.seq, reply := reply, frame := frame }).fliadSend reply frame
      else if f.seq = s.last ∧ s.last ≠ 0 then c0.fliadSend s.reply s.frame
      else (c0.count E.FLIAD_STALE_SEQ 1).fliadReply s.key f (op + 128) 4 f.session (.plain [])

/-- A row of the Fliad port. -/
def fliadRow (s : State) (t : Nat) (f : Chip → Chip) : Host.Outcome State Fault Refusal :=
  runUnits s t fun c => c.when c.fliadOn f

/-- CLOSE is answered, and its session ends. -/
def Chip.closeSession (c : Chip) (f : FliadFrame) : Chip :=
  let c1 := c.fliadRequest f 2 fun c s => (c, s, 0, .plain [])
  match c.session f.session, c1.session f.session with
  | some s, some s1 => if s.last ≠ s1.last then c1.endSession f.session 1 else c1
  | _, _ => c1

def execFliadClose (t : Nat) (f : FliadFrame) (s : State) : Host.Outcome State Fault Refusal :=
  fliadRow s t fun c => c.closeSession f

/-- GET: the count field plus one records, at most 64 (R387, R390). The records are part of the answer. -/
def Chip.fliadReads (c : Chip) (f : FliadFrame) : Chip :=
  c.fliadRequest f 3 fun c s =>
    let n := f.count + 1
    if 64 < n ∨ 256 < f.addr % 256 + n then (c, s, 1, .plain [])
    else
      let r := c.getRecords .fliad f.addr n
      (r.2, s, 0, { FliadAnswer.plain r.1.flatten with payload := r.1.flatMap recordBytes })

def execFliadGet (t : Nat) (f : FliadFrame) (s : State) : Host.Outcome State Fault Refusal :=
  fliadRow s t fun c => c.fliadReads f

/-- SET writes as Dictionary Set does (R390). -/
def Chip.fliadWrites (c : Chip) (f : FliadFrame) (rs : List DictRec) : Chip :=
  c.fliadRequest f 4 fun c s =>
    if !c.xportWrites .fliad then (c, s, 5, .plain [])
    else if rs.isEmpty ∨ 64 < rs.length ∨ rs.length ≠ f.count + 1 then (c, s, 1, .plain [])
    else
      let w := c.writeRecords .fliad rs
      match w.2.1 with
      | some p => (w.1, s, 2, { FliadAnswer.plain [p.2] with failing := p.2 })
      | none => (if rs.any recKept then w.1.imageDue else w.1, s, 0, .plain [])

def execFliadSet (t : Nat) (f : FliadFrame) (records : List DictRec) (s : State) : Host.Outcome State Fault Refusal :=
  fliadRow s t fun c => c.fliadWrites f records

/-- GET_BLOCK (R390): offset 0 latches an OCT entry; every block comes from the latch. -/
def Chip.fliadBlock (c : Chip) (f : FliadFrame) : Chip :=
  c.fliadRequest f 5 fun c s =>
    match descOf f.addr with
    | none => (c, s, 1, .plain [])
    | some d =>
      if d.type ≠ .oct then (c, s, 1, .plain [])
      else
        let s1 := if f.offset = 0 then { s with block := c.readEntry .fliad f.addr, blockLen := d.octets, blockTag := c.tagSeen .fliad f.addr,
                                                  blockAddr := f.addr }
          else s
        let c1 := if f.offset = 0 then c.count E.DICT_READS 1 else c
        if s1.blockAddr ≠ f.addr ∨ s1.blockLen < f.offset then (c1, s1, 1, .plain [])
        else
          let n := min 1024 (s1.blockLen - f.offset)
          let last := if f.offset + n = s1.blockLen then 1 else 0
          let v := s1.block / 2 ^ (8 * f.offset) % 2 ^ (8 * n)
          (c1, s1, 0, { fields := [s1.blockTag, last, n, v], payload := octetsOf n v, tag := s1.blockTag, failing := 0, last := decide (last = 1) })

def execFliadGetBlock (t : Nat) (f : FliadFrame) (s : State) : Host.Outcome State Fault Refusal :=
  fliadRow s t fun c => c.fliadBlock f

/-- SET_BLOCK (R390): blocks are placed in the staging, which offset 0 clears; the last block commits the
octets up to its end as one write under its condition, and clears the staging. -/
def Chip.fliadStage (c : Chip) (f : FliadFrame) : Chip :=
  c.fliadRequest f 6 fun c s =>
    if !c.xportWrites .fliad then (c, s, 5, .plain [])
    else match descOf f.addr with
      | none => (c, s, 1, .plain [])
      | some d =>
        let stopAt := f.offset + f.length
        if d.type ≠ .oct ∨ d.octets < stopAt then (c, s, 1, .plain [])
        else
          let old := if f.offset = 0 then 0 else s.stage
          let v := setBits old (8 * stopAt - 1) (8 * f.offset) f.payload
          let joined := if f.length = 0 then old else v
          if f.last then
            let w := c.writeOne .fliad f.addr (joined % 2 ^ (8 * stopAt)) stopAt f.octTag
            let s1 := { s with stage := 0, stageEnd := 0 }
            if w.2 = 0 ∨ w.2 = 5 then (if imageRow d then w.1.imageDue else w.1, s1, 0, .plain []) else (w.1, s1, 2, .plain [0])
          else (c, { s with stage := joined, stageEnd := stopAt }, 0, .plain [])

def execFliadSetBlock (t : Nat) (f : FliadFrame) (s : State) : Host.Outcome State Fault Refusal :=
  fliadRow s t fun c => c.fliadStage f

/-- A session ends after FLIAD_IDLE seconds without a valid frame (R388). -/
def execFliadIdle (t session : Nat) (s : State) : Host.Outcome State Fault Refusal :=
  run s t fun c => match c.session session with
    | none => c
    | some x => c.when (c.isReady && decide (x.lastT + c.get E.FLIAD_IDLE * cycPerSec ≤ c.now)) fun c => c.endSession session 2

/-! ### The management port (R386) -/

/-- The link-local address formed from MGMT_MAC in modified EUI-64 form, octet 0 least significant. -/
def linkLocal (mac : Nat) : Nat :=
  let m := octetsOf 6 mac
  let first := if bit (nth m 0) 1 = 1 then nth m 0 - 2 else nth m 0 + 2
  ofOctets ([0xFE, 0x80, 0, 0, 0, 0, 0, 0, first, nth m 1, nth m 2, 0xFF, 0xFE] ++ m.drop 3)

/-- The addresses the port holds: its link-local one, and a further one that is not zero. -/
def Chip.ownAddress (c : Chip) (a : Nat) : Bool :=
  decide (a = linkLocal c.fuse.mac) || decide (a ≠ 0 ∧ a = c.get E.MGMT_IPV6_ADDR)

/-- Two addresses agree in their first n bits; octet 0 holds the most significant ones. -/
def samePrefix (n a b : Nat) : Bool :=
  (List.range n).all fun k => bit (octet a (k / 8)) (7 - k % 8) == bit (octet b (k / 8)) (7 - k % 8)

/-- The next hop of a frame to an address (R386): MGMT_GATEWAY for one off the prefix of the further address; a link-local one
is always on the link. -/
def Chip.nextHop (c : Chip) (dest : Nat) : Nat :=
  if samePrefix 64 dest (linkLocal c.fuse.mac) ∨ samePrefix (c.get E.MGMT_IPV6_PREFIX) dest (c.get E.MGMT_IPV6_ADDR) ∨ c.get E.MGMT_GATEWAY = 0 then dest
  else c.get E.MGMT_GATEWAY

/-- The port takes frames. -/
def Chip.mgmtUp (c : Chip) : Bool := c.awake && decide (c.get E.MGMT_ENABLE = 1 ∧ c.get E.MGMT_LINK ≠ 0)

/-- A solicitation of an own address is answered with an advertisement (signal 10). -/
def execNeighborSolicitation (t target : Nat) (s : State) : Host.Outcome State Fault Refusal :=
  run s t fun c => c.when (c.mgmtUp && c.ownAddress target) fun c => c.emit (.signal 10 0 target)

/-- An echo request to an own address is answered (signal 11). -/
def execIcmpv6Echo (t target ident : Nat) (s : State) : Host.Outcome State Fault Refusal :=
  run s t fun c => c.when (c.mgmtUp && c.ownAddress target) fun c => c.emit (.signal 11 0 ident)

/-- Duplicate address detection (R386): a solicitation of each own address goes out (signal 12). -/
def Chip.detectDuplicates (c : Chip) : Chip :=
  let c1 := c.emit (.signal 12 0 (linkLocal c.fuse.mac))
  if c.get E.MGMT_IPV6_ADDR = 0 then c1 else c1.emit (.signal 12 0 (c.get E.MGMT_IPV6_ADDR))

/-- The link comes up at a speed, or goes down (0). -/
def execMgmtLinkChange (t speed : Nat) (s : State) : Host.Outcome State Fault Refusal :=
  run s t fun c => c.when (c.isReady && decide (c.get E.MGMT_ENABLE = 1 ∧ speed ≤ 3 ∧ speed ≠ c.get E.MGMT_LINK)) fun c =>
    let c1 := (c.set E.MGMT_LINK speed).event 0x585 0 1 noUnit [speed]
    if c.get E.MGMT_LINK = 0 then c1.detectDuplicates else c1

/-- A datagram to another port than FLIAD_PORT is dropped and counted. -/
def execMgmtRxDrop (t udpPort : Nat) (s : State) : Host.Outcome State Fault Refusal :=
  run s t fun c => c.when (c.mgmtUp && decide (udpPort ≠ c.get E.FLIAD_PORT)) fun c => c.count E.MGMT_RX_DROPS 1

end Sys2Proof.Machine
end

