-- ==== Sys2Proof/Machine/Upkeep.lean ====
section
/-! DEFINITION. The fitted set of NAND targets (R175 to R178), Sanitize (R162, R163) and the device self-test
(R94, R95). -/
namespace Sys2Proof.Machine

/-! ### The fitted set (R176, R177) -/

/-- The number of a target, and of its first LUN. -/
def tgtIndex (i : TgtInfo) : Nat := 16 * i.ch + i.t

/-- The table of R177 over a target's parameter page, and an interface that R173 lists. -/
def meetsTable (i : TgtInfo) : Bool :=
  decide (1 ≤ i.luns ∧ i.luns ≤ 4) && [1, 2, 4].contains i.planes && decide (i.pageData = 16384 ∧ 2048 ≤ i.spare)
    && decide (i.pages ≤ 32768) && i.slcMode && i.qlcNative && i.commands && [1, 2, 3].contains i.iface && decide (1 ≤ i.passes ∧ i.passes ≤ 2)

/-- The first of some targets. -/
def firstTarget (l : List TgtInfo) : Option TgtInfo :=
  l.find? fun i => decide (i.t = minOf 16 (l.map TgtInfo.t))

/-- A target answers where it can be reached: its CE pin without volume addressing serves target 4c alone, and one whose volume appointment
failed cannot be selected (R175). -/
def reachable (l : List TgtInfo) (i : TgtInfo) : Bool :=
  i.answers && (decide (i.t % 4 = 0)
    || (i.appointed && !(l.any fun j => j.answers && decide (j.ch = i.ch ∧ j.t / 4 = i.t / 4) && !j.volumes)))

/-- The reference geometry: that of the first target found on CH0 (R177). -/
def reference (l : List TgtInfo) : Option TgtInfo := firstTarget (l.filter fun i => decide (i.ch = 0) && reachable l i)

/-- A target meets the table, the reference geometry and the interface of its channel, which is the one of NAND_IFACE where that
names one (R173, R177). -/
def suits (ref : Option TgtInfo) (iface : Nat) (l : List TgtInfo) (i : TgtInfo) : Bool :=
  match ref, firstTarget (l.filter fun j => decide (j.ch = i.ch) && reachable l j) with
  | some r, some k => meetsTable i && decide (i.pageData = r.pageData ∧ i.planes = r.planes ∧ i.pages = r.pages ∧ i.passes = r.passes)
      && decide (i.iface = if iface = 0 then k.iface else iface)
  | _, _ => false

/-- One fitted target with its LUNs: it and they are ONLINE, one that was ABSENT again. -/
def Chip.fitTarget (c : Chip) (i : TgtInfo) : Chip :=
  let x := tgtIndex i
  let units := mkUnit kTGT x :: (List.range i.luns).map fun l => mkUnit kLUN (4 * x + l)
  let online := fun (c : Chip) => units.foldl (fun c u => if c.own u = 0 then c.setOwn u 1 0 else c) c
  match c.md.tgts.find? fun q => decide (q.tgt = x) with
  | some q => online { c with md := { c.md with tgts := change (fun y => decide (y.tgt = x)) (fun _ => { q with fitted := true }) c.md.tgts } }
  | none =>
    let tgt : Tgt := { tgt := x, fitted := true, maxRate := i.maxRate, iface := i.iface, luns := i.luns, suspend := i.suspend,
                       independent := i.independent, softBit := i.softBit, trims := 0, trainTemp := 0, trainT := 0, zqT := c.now,
                       volume := none, odt := 0, drive := 0, eye := 0 }
    let dies := (List.range i.luns).map fun l => ({ lun := 4 * x + l, planes := i.planes, good := nth i.good l, blocks := [], ops := [],
                                                    temp := none, tempAge := 0, tempT := 0, times := [] } : Die)
    let tgts := c.md.tgts ++ [tgt]
    let all := (c.md.dies ++ dies).mergeSort fun a b => decide (a.lun ≤ b.lun)
    online { c with md := { c.md with tgts := tgts, dies := all } }

/-- A target leaves the fitted set: it is ABSENT with cause 6, unless it is RETIRED. -/
def Chip.unfit (c : Chip) (x : Nat) : Chip :=
  let u := mkUnit kTGT x
  let c1 := { c with md := { c.md with tgts := change (fun (y : Tgt) => decide (y.tgt = x)) (fun y => { y with fitted := false }) c.md.tgts } }
  if 1 ≤ c.own u ∧ c.own u ≤ 3 then c1.setOwn u 0 6 else c1

/-- The fitted set is recorded anew, with the reference geometry: every target that answers and suits, and no other. One that answers and
does not suit is ABSENT and is reported; fused-off channels hold no target (R1, R2, R176, R177). -/
def Chip.recordFitted (c : Chip) : Chip :=
  let l := c.md.answering
  let ref := (reference l).orElse fun _ => c.md.geometry
  let md := match ref with
    | some r => { c.md with geometry := some r, planes := r.planes, pagesPerBlock := r.pages }
    | none => c.md
  let c0 := { c with md := md }
  let here := l.filter fun i => reachable l i && !fusedOff c.fuse.variant (mkUnit kTGT (tgtIndex i))
  let good := here.filter (suits ref (c.get E.NAND_IFACE) l)
  let c1 := c0.each (c0.md.tgts.filter fun q => q.fitted && !(good.any fun i => decide (tgtIndex i = q.tgt))) fun c q => c.unfit q.tgt
  c1.each here fun c i =>
    if good.contains i then c.fitTarget i else c.event (8 * i.ch + 2) 2 1 (c.unitIdent (mkUnit kTGT (tgtIndex i))) [i.t]

/-! ### Sanitize (R162, R163) -/

/-- A namespace takes a new key pair, which the system area keeps wrapped under the device key (R164). -/
def Chip.replaceKey (c : Chip) (nsid : Nat) : Chip :=
  let key := c.ft.keyNext
  let nss := change (fun (n : Ns) => decide (n.nsid = nsid)) (fun n => { n with key := key, wrapped := c.wrap key }) c.ft.nss
  ({ c with ft := { c.ft with nss := nss, keyNext := key + 1 } }).count E.KEY_REPLACEMENTS 1

/-- I/O commands past admission that have not completed: those that run, and those that have ended and have their completion still to post,
as a mirrored write that awaits DONE (R92, R93, R343). -/
def Chip.ioAdmitted (c : Chip) (p : Cmd → Bool) : Bool :=
  c.cmds.any fun x => !x.admin && !x.posted && (decide (x.phase = .admitted ∨ x.phase = .working ∨ x.phase = .committed)
    || (x.taken && decide (x.phase = .ended))) && p x

/-- The seeds of a new catalogue (R307). -/
def Chip.drawSeeds (c : Chip) : Chip :=
  let p := c.draw
  ({ p.2 with book := { p.2.book with created := true } }).set E.SB_SEEDS (p.1 % 2 ^ 64)

/-- Every namespace key is replaced and every map entry deallocated; Crucible contents, Scorebook entries,
the lost-range log and the journal are discarded (R162; a transfer of the partner that is not complete keeps its staged slots, which hold
no contents yet), the catalogue takes new seeds, and SEC_LOCK is cleared
(R443). -/
def Chip.sanitizeWipe (c : Chip) : Chip :=
  let c1 := c.each c.ft.nss fun c n => (c.wipeNs n).replaceKey n.nsid
  let theirs := (c1.pr.xfers.filter fun f => !f.origin).map Xfer.h
  let c2 := c1.each ((c1.ft.slots.filter fun s => !(s.guest && s.wseq.isNone && theirs.contains s.h)).map Slot.id) Chip.freeSlot
  let streams := c2.ft.streams.map fun s => { s with active := [], full := [] }
  let c3 := { c2 with ft := { c2.ft with streams := streams, jpages := [], ckpts := [], map := [], dir := [] }, lost := [] }
  let c4 := { c3 with book := { c3.book with cells := [], stash := [], page := [], full := [], flash := [], ckpts := [],
                                             placeholders := [], tried := [] } }
  (if c4.book.created then c4.drawSeeds else c4).set E.SEC_LOCK 0

/-- The pages of every block that is not scrapped. -/
def Chip.allPages (c : Chip) : Nat :=
  sumOf (c.md.dies.map fun d => d.good - (d.blocks.filter Block.scrapped).length) * c.md.pagesPerBlock

/-- The pattern of the last of some passes of an overwrite: Dword 11, inverted between the passes where Dword 10 says so (R162; NVM Express,
PRESUMED, log entry 14). -/
def overwritten (kind pattern passes : Nat) : Nat :=
  if bit kind 8 = 1 ∧ passes % 2 = 0 then 2 ^ 32 - 1 - pattern else pattern

/-- An overwrite programs every block with the pattern, once for each pass: the pages count, the work is charged to HW, and each block
holds the pattern of the last pass until it is erased (R162). The pages count as system pages, which R168 does not say (DESIGN CHOICE, log
entry 69). -/
def Chip.overwrite (c : Chip) (passes : Nat) : Chip :=
  if passes = 0 then c
  else
    let n := passes * c.allPages
    let v := overwritten c.ft.sanitizeKind c.ft.sanitizePattern passes
    let fill := fun (d : Die) => { d with blocks := (((List.range d.good ++ d.blocks.map Block.block).eraseDups).map fun b =>
      let k := (d.blocks.find? fun q => decide (q.block = b)).getD (c.blockOf d.lun b)
      if k.scrapped then k else { k with fill := some v }) }
    let c1 := { c with md := { c.md with dies := c.md.dies.map fill } }
    let c2 := (c1.count E.NAND_PAGES_PROGRAMMED n).countOct64 E.PROGRAM_SOURCES 4 n
    c2.each c.md.dies fun c d =>
      let pages := passes * ((d.good - (d.blocks.filter Block.scrapped).length) * c.md.pagesPerBlock)
      (c.chargeRes (.die d.lun) 2 (pages * cdiv c.tProg 500000)).chargeRes (.chan (chanOf d.lun)) 2 (pages * (4 * cdiv (c.cwPs (chanOf d.lun)) 125000))

/-- Every block is to be erased, system superblocks and scrap pool included, under intent entries of kind 2
(R162, R193); what ran on the media ends, and no superblock remains. An overwrite has programmed every
block first, once for each pass. -/
def Chip.sanitizeErase (c : Chip) (passes : Nat) : Chip :=
  let c0 := c.overwrite passes
  let dies := c0.md.dies.map fun d => { d with ops := [], blocks := d.blocks.map fun b => { b with sb := none, mode := 0 } }
  let ints := c0.md.intents.map fun i => { i with ended := true }
  let c1 := { c0 with md := { c0.md with dies := dies, intents := ints }, rd := { c0.rd with tasks := [], pins := [] } }
  let c2 := { c1 with sb := { c1.sb with sbs := [], rows := [], foldQ := [], victims := [], held := [], repls := [], realloc := [],
                                         rebuilding := [], patrolAt := none } }
  let live := c2.md.dies.filter fun d => let r := c2.reported (mkUnit kLUN d.lun); decide (1 ≤ r ∧ r ≤ 3)
  c2.each (live.flatMap fun d => ((List.range d.good ++ d.blocks.map Block.block).eraseDups).map fun b => (d.lun, b))
    fun c p => c.gatherErase p.1 p.2 2 max20

/-- A Sanitize ends: the fitted set is recorded again (R176) and SPARE_INIT comes into force (R166); a failed
one leaves the failure state (R163). -/
def Chip.finishSanitize (c : Chip) (failed : Bool) : Chip :=
  let c1 := if failed then c else
    let c' := (c.set E.SPARE_INIT_ACTIVE (c.get E.SPARE_INIT)).recordFitted
    (c'.each (c'.md.dies.map Die.lun) Chip.spareState).rebuildLayout
  let c2 := (({ c1 with ft := { c1.ft with sanitizeStep := 0 } }).set E.SANITIZE_STATE (if failed then 2 else 0)).event
    0x308 0 1 noUnit [1, if failed then 2 else 1]
  let c3 := c2.each (c2.cmds.filter fun x => x.admin && decide (x.opcode = 0x84 ∧ x.phase = .working)) fun c x =>
    c.fail x.h (if failed then dnr stSanitizeFailed else stOk)
  c3.raiseAeAll 6 1 0x81

/-- The erases of a Sanitize have all ended. -/
def Chip.sanitizeEnds (c : Chip) : Chip :=
  let left := c.md.intents.any fun i => decide (i.kind = 2) && !i.ended && decide (c.reported (mkUnit kLUN i.lun) ≠ 4)
  if c.ft.sanitizeStep = 2 ∧ !left then c.finishSanitize false else c

/-- The work of a Sanitize, once no admitted I/O remains: `kind` is its Dword 10. -/
def Chip.sanitizeWork (c : Chip) (failed : Bool) : Chip :=
  let kind := c.ft.sanitizeKind
  let action := kind % 8
  let passes := if action = 3 then (if bits kind 7 4 = 0 then 16 else bits kind 7 4) else 0
  if c.ft.sanitizeStep ≠ 1 ∨ c.ioAdmitted (fun _ => true) then c
  else
    let c1 := c.sanitizeWipe
    if failed then c1.finishSanitize true
    else if action = 4 then c1.finishSanitize false
    else
      let c2 := c1.sanitizeErase passes
      ({ c2 with ft := { c2.ft with sanitizeStep := 2 } }).sanitizeEnds

/-! ### Device self-test (R94, R95) -/

/-- The self-test that runs ends with a result: 0 passed, 1 aborted by Device Self-test, 2 by a reset, 4 by
Format NVM, 7 failed at a segment, 9 by Sanitize (NVM Express, PRESUMED, log entry 14). -/
def Chip.endSelfTest (c : Chip) (result segment : Nat) : Chip :=
  let code := c.get E.ST_STATE
  if code = 0 then c
  else
    let l := ((code, result, segment) :: c.lg.selfTests).take 20
    ((({ c with lg := { c.lg with selfTests := l, stOwner := none, stFailing := 0, stLeft := [], stTotal := 0 } }).dropTasks testH).set E.ST_STATE 0).set
      E.ST_SEGMENT 0

/-- The last segment of the test that runs (R94). -/
def Chip.lastSegment (c : Chip) : Nat := if c.get E.ST_STATE = 1 then 4 else 5

/-- The units that a segment reads, with their map entries (R94): one of each ONLINE LUN, or one of every programmed block of
every ONLINE LUN. Of a block whose pages hold no unit of the map, as one of a system superblock, it is a page programmed without its unit
being checked. -/
def Chip.testUnits (c : Chip) (segment : Nat) : List (Nat × Nat) :=
  let ofBlock := fun (s : Sb) (p : Member × Nat) =>
    if c.reported (mkUnit kLUN p.1.lun) = 1 then
      match s.placed.find? fun u => decide (slotMember u.slot = p.2) with
      | some u => some (p.1.lun, u.unit, s.idx * 2 ^ 20 + u.slot)
      | none => ((List.range s.rows).find? fun r => c.rowDone s r && (dataPos s.idx r s.p2).contains p.2).map fun r => (p.1.lun, anyUnit, mkEntry s.idx r p.2)
    else none
  let all := c.sb.sbs.flatMap fun s => (s.members.zip (List.range s.members.length)).filterMap (ofBlock s)
  let one := fun (lun : Nat) => all.find? fun u => decide (u.1 = lun)
  let l := if segment = 4 then (all.map Prod.fst).eraseDups.filterMap one else if segment = 5 then all else []
  l.map Prod.snd

/-- The work of a segment beside its units, under ST (R51, R94): segment 1 gives every ONLINE LDPC engine one codeword, segment 3 reads the
zone tables and the intent pages of both copies of the system area. Known answers of the other engines, and the test of the DDR regions, take
no budget of R51. -/
def Chip.segmentWork (c : Chip) (segment : Nat) : Chip :=
  if segment = 1 then c.each (List.range c.quads) fun c q =>
    (c.chargeRes (.hard q) classST (c.hardOnline q)).chargeRes (.soft q) classST (c.softOnline q * 10)
  else if segment = 3 then c.each c.ringCopies fun c ch =>
    let tables := c.rd.saved.filter fun k => decide (k.copy = if ch = 0 then 0 else 1)
    c.chargeRes (.chan ch) classST ((tables.length + (c.md.ring.filter fun p => decide (p.copy = ch)).length) * (4 * cdiv (c.cwPs ch) 125000))
  else c

/-- The self-test at an inning boundary (R94, R95): while a segment has reads to do they go on, one unit at a time; a segment
without any, or with none left, ends there (DESIGN CHOICE, log entry 60), and the next one starts with its work, or the test ends and reports
its first failing segment. -/
def Chip.selfTestStep (c : Chip) : Chip :=
  let seg := c.get E.ST_SEGMENT
  if c.get E.ST_STATE = 0 ∨ c.rd.tasks.any fun t => decide (t.own = ownTest) then c
  else if c.lg.stLeft ≠ [] then c.testNext
  else if seg < c.lastSegment then
    let l := c.testUnits (seg + 1)
    ((({ c with lg := { c.lg with stLeft := l, stTotal := l.length } }).set E.ST_SEGMENT (seg + 1)).segmentWork (seg + 1)).testNext
  else c.endSelfTest (if c.lg.stFailing = 0 then 0 else 7) c.lg.stFailing

end Sys2Proof.Machine
end

