-- ==== Sys2Proof/Machine/Power.lean ====
section
/-! DEFINITION. Power states, wake, supplies, clocks, junction temperature and the Umpire's inning boundary
(R51 to R56, R398 to R426). -/
namespace Sys2Proof.Machine

/-! ### The inning boundary (R52, R55, R56) -/

/-- The budgets there are: dies, channels, and the hard and soft engines of each quadrant. -/
def Chip.budgetRes (c : Chip) : List Res :=
  (c.md.dies.map fun d => Res.die d.lun) ++ (c.md.chans.map fun k => Res.chan k.ch)
    ++ ((List.range c.quads).map Res.hard) ++ ((List.range c.quads).map Res.soft)

/-- Every budget is allocated for the inning now begun, by the work that the classes have queued; the operations that still
run are charged. -/
def Chip.refill (c : Chip) : Chip :=
  let new := c.budgetRes.map fun r => c.newBudget r c.inning
  ({ c with um := { c.um with budgets := new } }).chargeRunning

/-- An inning boundary: an operational state requested takes force, the supply of the new inning is taken,
every budget is allocated anew unless refill is suspended, the store's account is judged, the Crucible drains while the books are short
or in write-through mode (R282, R283), and superblocks too far behind the journal are closed. The limit of R24 on class 3 in maintenance mode is met at the last boundary before
it (log entry 32). -/
def Chip.boundary (c : Chip) : Chip :=
  let c1 := c.holdSupply c.takeOperational
  let ledger := c1.um.ledger.filter fun l => decide (c1.inning ≤ l.inning)
  let c2 := { c1 with um := { c1.um with supplyPrev := c1.supplyNow, ledger := ledger, raBus := [] } }
  let c3 := if c.pm.refill then c2.refill else c2
  let c4 := (({ c3 with um := { c3.um with inning := c.inning } }.each [0, 1] Chip.ltrIdle).retestAll).each (c3.md.dies.map Die.lun) Chip.kickDie
  let c5 : Chip := ((c4.storeState).booksCheck).setWt true
  let c6 : Chip := if c5.get E.BOOKS_SHORT = 1 ∨ c5.writeThrough = true then c5.drainCrucible else c5
  (c6.prepared).spanCloses.retryMoves.carryOn.selfTestStep.maintenanceLimit

/-- One boundary for each inning, while that inning runs. -/
def execInningBoundary (t inning : Nat) (s : State) : Host.Outcome State Fault Refusal :=
  runUnits s t fun c => c.when (c.isReady && decide (c.inning = inning ∧ c.um.inning < inning)) Chip.boundary

def execSupplyHoldEnd (t : Nat) (s : State) : Host.Outcome State Fault Refusal :=
  run s t fun c => c.when (decide (c.get E.SUPPLY_HOLD_UNTIL ≠ 0 ∧ c.get E.SUPPLY_HOLD_UNTIL ≤ c.now)) fun c =>
    (c.set E.SUPPLY_HOLD_UNTIL 0).event 0x201 2 1 noUnit [c.supply, c.get E.SUPPLY_HOLD_UNTIL]

/-! ### Power states (R400 to R406) -/

/-- The idle time after which a target is requested, in ms: the Autonomous Power State Transition entry of
the state in force on a physical function that has it enabled, else IDLE_PS3 or IDLE_PS4. -/
def Chip.idleMs (c : Chip) (target : Nat) : Option Nat :=
  match c.fns.find? fun f => decide (f.fn = 0) && f.apste with
  | some f => match f.apst[c.get E.PS_CURRENT]? with
    | some e => if e.itps = target ∧ e.itptMs ≠ 0 then some e.itptMs else none
    | none => none
  | none => if target = 3 then some (c.get E.IDLE_PS3) else if target = 4 then some (c.get E.IDLE_PS4) else none

def Chip.idleEnds (c : Chip) (target : Nat) : Chip :=
  match c.idleMs target with
  | none => c
  | some ms =>
    if 3 ≤ target ∧ c.get E.PS_CURRENT < target ∧ !c.hostBusy ∧ c.pm.idleT + ms * cycPerMs ≤ c.now then c.requestPs target true else c

def execIdleTimer (t target : Nat) (s : State) : Host.Outcome State Fault Refusal :=
  run s t fun c => c.when c.isReady fun c => c.idleEnds target

/-- ENLAT of a state in µs. -/
def enlatUs (target : Nat) : Nat := if target = 4 then 10000 else 1000

/-- The activity class of an array operation already issued. -/
def Chip.issuedClass (c : Chip) : Option Nat := (c.md.dies.flatMap fun d => (d.ops.filter Op.confirmed).map Op.cls).head?

/-- The entry itself (R402): fetch is held, the refill suspended, and in PS4 the fabric runs on the slow
oscillator. -/
def Chip.enterPs (c : Chip) (target : Nat) : Chip :=
  let clock := if target = 4 then 3 else c.pm.clock
  let pm := { c.pm with wanted := none, requestIdle := false, enteredT := c.now, refill := false, clock := clock }
  let c1 := { c with pm := pm, boot := { c.boot with fetchHeld := true } }
  ((c1.set E.PS_CURRENT target).count E.PS_ENTRIES 1).event 0x500 0 1 noUnit [target, 7]

/-- An attempt of the sequencer (R401, R402): a refuser, an operation that cannot end in time (`longest`, in
µs), or a wake source that fires refuses or aborts it, and the request stands. -/
def Chip.tryPs (c : Chip) (longest : Nat) (wake : Option Nat) : Chip :=
  match c.pm.wanted with
  | none => c
  | some target =>
    if target < 3 ∨ target ≤ c.get E.PS_CURRENT then c
    else match c.firstRefuser with
      | some k => c.refuseEntry k
      | none => match wake with
        | some w =>
          if bit (c.get E.WAKE_ENABLE) w = 1 ∨ w = 1 then
            let c1 := c.noteWake w
            match wakeRefuser w with
            | some k => c1.refuseEntry k
            | none => c1
          else c.enterPs target
        | none => match c.issuedClass with
          | some k =>
            if min (c.opTimeout .erase / cycPerUs) (enlatUs target) < longest then c.refuseEntry (classRefuser k) else c.enterPs target
          | none => c.enterPs target

def execPsEntry (t longest : Nat) (wake : Option Nat) (s : State) : Host.Outcome State Fault Refusal :=
  run s t fun c => c.when c.isReady fun c => c.tryPs longest wake

/-- A frame goes to MGMT_MAC, to all nodes, or to a solicited-node address of the port (R405). -/
def Chip.wakeDest (c : Chip) (frame : List Nat) : Bool :=
  let d := frame.take 6
  let mac := octetsOf 6 c.fuse.mac
  let further := octetsOf 16 (c.get E.MGMT_IPV6_ADDR)
  decide (d = mac) || decide (d = [0x33, 0x33, 0, 0, 0, 1]) || decide (d = [0x33, 0x33, 0xFF] ++ mac.drop 3)
    || (decide (c.get E.MGMT_IPV6_ADDR ≠ 0) && decide (d = [0x33, 0x33, 0xFF] ++ further.drop 13))

/-- The pattern of WAKE_PATTERN under WAKE_MASK; with WAKE_LEN 0 a UDP datagram over IPv6 to FLIAD_PORT
that begins with the Fliad magic (R405). -/
def Chip.wakeMatch (c : Chip) (frame : List Nat) : Bool :=
  let n := c.get E.WAKE_LEN
  c.wakeDest frame &&
    (if n = 0 then
      decide (nth frame 12 = 0x86 ∧ nth frame 13 = 0xDD ∧ nth frame 20 = 17 ∧ nth frame 56 * 256 + nth frame 57 = c.get E.FLIAD_PORT
        ∧ nth frame 62 = 0x46 ∧ nth frame 63 = 0x4C)
    else decide (n ≤ frame.length) &&
      (List.range n).all fun i => decide (bit (c.get E.WAKE_MASK) i = 0 ∨ nth frame i = octet (c.get E.WAKE_PATTERN) i))

/-- A wake source fires (R403, R404): 2, 3, 4 and 6 leave the state, 0 when a doorbell follows, 1 and 5 do
not leave it. An SMBus match holds the bus until the message is answered. -/
def Chip.wakes (c : Chip) (w : Nat) (frame : List Nat) : Chip :=
  let seen := decide (w = 1) || (decide (w < 7 ∧ bit (c.get E.WAKE_ENABLE) w = 1) && (decide (w ≠ 2) || c.wakeMatch frame))
  if !seen then c
  else if w = 2 ∨ w = 4 ∨ w = 6 then (c.noteWake w).leavePs w
  else if w = 3 then
    let c1 := c.noteWake w
    ({ c1 with pm := { c1.pm with smbusHeld := true } }).leavePs w
  else c.noteWake w

/-- With the always-on domain alone, SMBus and the store current are still wake sources (R404). -/
def Chip.wakesAsleep (c : Chip) (source : Nat) : Chip :=
  if (source = 3 ∨ source = 5) ∧ bit (c.get E.WAKE_ENABLE) source = 1 then c.noteWake source else c

/-- Source 5 is detected in PS4 and with the always-on domain alone; source 6 is the housekeeping timer's own row. -/
def execWakeExit (t source : Nat) (frame : List Nat) (s : State) : Host.Outcome State Fault Refusal :=
  run s t fun c => if c.boot.run = .standby then c.wakesAsleep source else c.when (c.isReady && decide (3 ≤ c.get E.PS_CURRENT ∧ source ≠ 6 ∧ (source ≠ 5 ∨ c.get E.PS_CURRENT = 4))) fun c =>
    c.wakes source frame

/-- HOUSEKEEPING_WAKE minutes after entry (R406). -/
def Chip.housekeeping (c : Chip) : Chip :=
  let m := c.get E.HOUSEKEEPING_WAKE
  if 3 ≤ c.get E.PS_CURRENT ∧ m ≠ 0 ∧ c.pm.enteredT + m * cycPerMin ≤ c.now ∧ bit (c.get E.WAKE_ENABLE) 6 = 1 then
    ((c.noteWake 6).event 0x50C 0 1 noUnit []).leavePs 6
  else c

def execHousekeepingWake (t : Nat) (s : State) : Host.Outcome State Fault Refusal :=
  run s t fun c => c.when c.isReady Chip.housekeeping

/-! ### Supplies (R408 to R411) -/

/-- The regulator is on. -/
def Chip.railsUp (c : Chip) : Bool := c.pm.vrEn && c.pm.vrGood

/-- VDD_CORE is kept between VCORE_MIN and VCORE_MAX in 5 mV steps. -/
def Chip.coreMv (c : Chip) (mv : Nat) : Nat := within (c.get E.VCORE_MIN) (c.get E.VCORE_MAX) (mv / 5 * 5)

def execPmbusRequest (t millivolts : Nat) (attempts : List Nat) (s : State) : Host.Outcome State Fault Refusal :=
  run s t fun c => c.when c.railsUp fun c => (c.pmbus (c.coreMv millivolts) attempts).1

/-- STATUS_WORD of the seven pages, recorded as read; CLEAR_FAULTS follows (R409). -/
def execPmbAlert (t : Nat) (status : List Nat) (s : State) : Host.Outcome State Fault Refusal :=
  run s t fun c => c.when c.railsUp fun c =>
    ((c.pmbWrite pmbClear 0).set E.PMB_LAST_STATUS (sumOf ((List.range 7).map fun p => at' (nth status p % 65536) (16 * p)))).event 0x509 1 1 noUnit
      ((List.range 6).map fun p => nth status p % 65536)

def execVrPgoodLoss (t : Nat) (s : State) : Host.Outcome State Fault Refusal :=
  run s t fun c => c.when c.railsUp fun c => (c.count E.PGOOD_LOSSES 1).event 0x509 0 1 noUnit []

/-- A fall is requested only once the margins have held above the limit for 1 s, and so no rise was in that time (R411). -/
def Chip.mayFall (c : Chip) (rise : Bool) : Bool := rise || decide (c.pm.marginT + cycPerSec ≤ c.now)

/-- An AVS request (R411). After the third failure in a row AVS stops, and 0.75 V is requested once, with the
attempts that are left of those given. -/
def Chip.avs (c : Chip) (step : Nat) (rise : Bool) (attempts : List Nat) : Chip :=
  let cur := c.get E.VCORE_TARGET
  let r := c.pmbus (c.coreMv (if rise then cur + step else cur - step)) attempts
  let fails := if r.2 then 0 else c.pm.vcoreFails + 1
  let c1 := { r.1 with pm := { r.1.pm with avsT := c.now, marginT := if rise then c.now else c.pm.marginT, vcoreFails := fails } }
  if fails < 3 then c1
  else
    let c2 := { c1 with pm := { c1.pm with avsStopped := true } }
    (c2.pmbus 750 (attempts.drop 4)).1.event 0x50A 0 1 noUnit [cur]

def execAvsAdjust (t step : Nat) (rise : Bool) (attempts : List Nat) (s : State) : Host.Outcome State Fault Refusal :=
  run s t fun c => c.when (c.isReady && c.railsUp && decide (c.get E.AVS_ENABLE = 1 ∧ c.pm.avsStopped = false
      ∧ (c.pm.avsT = 0 ∨ c.pm.avsT + 10 * cycPerMs ≤ c.now) ∧ 5 ≤ step ∧ step ≤ 25 ∧ step % 5 = 0) && c.mayFall rise) fun c => c.avs step rise attempts

/-! ### Clocks (R415) -/

def Chip.refLost (c : Chip) : Chip :=
  let c1 := { c with pm := { c.pm with clock := 2, holdoverT := some c.now }, boot := { c.boot with fetchHeld := true } }
  (c1.event 0x50B 0 4 noUnit [0]).drainCrucible

def execRefclkLoss (t : Nat) (s : State) : Host.Outcome State Fault Refusal :=
  run s t fun c => c.when (c.isReady && decide (c.pm.clock = 1)) Chip.refLost

/-- The reference returns within the second. -/
def Chip.refBack (c : Chip) : Chip :=
  match c.pm.holdoverT with
  | none => c
  | some t0 =>
    if c.now ≤ t0 + cycPerSec then
      let held := decide (3 ≤ c.get E.PS_CURRENT)
      let c1 := { c with pm := { c.pm with clock := 1, holdoverT := none }, boot := { c.boot with fetchHeld := held } }
      ((c1.count E.PLL_LOCKS 1).count E.REF_LOSSES 1).event 0x50B 0 1 noUnit [1]
    else c

def execRefclkReturn (t : Nat) (s : State) : Host.Outcome State Fault Refusal :=
  run s t fun c => c.when c.isReady Chip.refBack

/-- Holdover ends after 1 s: the cores halt on the fast oscillator, and CSTS.CFS is set. -/
def Chip.holdoverEnds (c : Chip) : Chip :=
  match c.pm.holdoverT with
  | none => c
  | some t0 =>
    if t0 + cycPerSec ≤ c.now then
      let c1 := { c with pm := { c.pm with clock := 0, holdoverT := none }, boot := { c.boot with run := .halted, cfs := true } }
      c1
    else c

def execHoldoverExpiry (t : Nat) (s : State) : Host.Outcome State Fault Refusal :=
  run s t fun c => c.when c.isReady Chip.holdoverEnds

/-! ### Junction temperature (R420 to R426) -/

/-- A valid sample, in sixteenths of a degree: from −40 to 150 °C, from a slot that has not failed. -/
def Chip.diodeOk (c : Chip) (v : Int) : Bool :=
  decide (-640 ≤ v ∧ v ≤ 2400 ∧ bit (c.get E.ADC_SLOT_FAILS) 0 = 0 ∧ c.own (mkUnit kADC 0) ≠ 4)

/-- The average of the valid samples of a millisecond, none with fewer than six; rounded down (DESIGN
CHOICE, log entry 33). -/
def Chip.diodeAverage (c : Chip) (samples : List (Option Int)) : Option Int :=
  let l := ((samples.take 8).filterMap id).filter c.diodeOk
  if 6 ≤ l.length then some (l.foldl (· + ·) 0 / (l.length : Int)) else none

/-- The runs of a level after one more valid average: above it, below it less its hysteresis, or neither
(R421). -/
def nextRuns (level hyst : Nat) (avg : Int) (up down : Nat) : Nat × Nat :=
  if 16 * (level : Int) < avg then (min 4 (up + 1), 0)
  else if avg < 16 * ((level : Int) - (hyst : Int)) then (0, min 4 (down + 1))
  else (0, 0)

/-- A valid average: TJ, TJ_MAX and the runs of the three levels. -/
def Chip.takeAverage (c : Chip) (avg : Int) : Chip :=
  let w := nextRuns (c.get E.THERM_WARN) 3 avg c.th.warnUp c.th.warnDown
  let r := nextRuns (c.get E.THERM_THROTTLE) 4 avg c.th.thrUp c.th.thrDown
  let s := nextRuns (c.get E.THERM_SHUTDOWN) 8 avg c.th.shutUp c.th.shutDown
  let hot := if 16 * (c.get E.THERM_THROTTLE : Int) < avg then c.now else c.th.hotT
  let top := match c.th.lastValid with
    | none => avg
    | some _ => max avg (c.getS E.TJ_MAX)
  let th := { c.th with warnUp := w.1, warnDown := w.2, thrUp := r.1, thrDown := r.2, shutUp := s.1, shutDown := s.2,
                        invalid := 0, valid := min 4 (c.th.valid + 1), lastValid := some avg, hotT := hot }
  (({ c with th := th }).set E.TJ (ofInt 20 avg)).set E.TJ_MAX (ofInt 20 top)

/-- The temperature of a sensor in kelvin, rounded to nearest: 0 and 1 TJ, 2 NTEMP_MAX (R426). -/
def Chip.sensorK (c : Chip) (k : Nat) : Int :=
  if k = 2 then (hottest (c.md.dies.filterMap Die.reading)).getD 0 + 273 else (c.getS E.TJ + 8) / 16 + 273

/-- The thresholds of Feature 04h that stand on a function: an over-temperature of the composite is WCTEMP
until it is set (NVM Express, PRESUMED, log entry 14). -/
def Chip.overK (c : Chip) (f : Fn) (k : Nat) : Nat := f.thOver.get (if k = 0 then c.get E.THERM_WARN + 273 else 0xFFFF) k

/-- A threshold of Feature 04h is passed on a function (R426). -/
def Chip.thresholdOut (c : Chip) (f : Fn) : Bool :=
  c.th.lastValid.isSome && [0, 1, 2].any fun k =>
    decide ((c.overK f k : Int) ≤ c.sensorK k ∨ c.sensorK k ≤ (f.thUnder.get 0 k : Int))

/-- SMART Critical Warning bit 1 on a function (R422, R424, R426). -/
def Chip.tempWarning (c : Chip) (f : Fn) : Bool :=
  decide (1 ≤ c.get E.THERM_STATE) || decide (c.get E.SENSOR_FAULT = 1) || c.thresholdOut f

/-- An Asynchronous Event where the bit has turned on. -/
def Chip.tempEvents (before c : Chip) : Chip :=
  c.each (c.fns.filter fun f => f.rdy && c.tempWarning f && !before.tempWarning f) fun c f => c.raiseAe f.port f.fn 1 1 2

/-- THERM_STATE changes (R422). -/
def Chip.setTherm (c : Chip) (s : Nat) : Chip :=
  if s = c.get E.THERM_STATE then c
  else
    let sev := if s = 0 then 2 else if s = 3 then 5 else 3
    let c1 := (c.set E.THERM_STATE s).event 0x502 0 sev noUnit [s, c.get E.TJ]
    if s = 2 then c1.setStep (min 8 (c1.get E.THROTTLE_STEP + 1))
    else if c.get E.THERM_STATE = 2 then { c1 with th := { c1.th with stepT := c1.now } }
    else c1

/-- Crossings and clearings from the present runs, a higher level first (R421, R422). -/
def Chip.levels (c : Chip) : Chip :=
  let s := c.get E.THERM_STATE
  if s < 2 ∧ 4 ≤ c.th.thrUp then c.setTherm 2
  else if s = 0 ∧ 4 ≤ c.th.warnUp then c.setTherm 1
  else if s = 2 ∧ 4 ≤ c.th.thrDown then c.setTherm 1
  else if s = 1 ∧ 4 ≤ c.th.warnDown then c.setTherm 0
  else c

/-- Thermal shutdown (R425): the power-fail sequence on main power, and then only VAON is kept. -/
def Chip.thermalShutdown (c : Chip) (f : FlushInput) : Chip :=
  let c1 := ((c.setTherm 3).count E.THERM_SHUTDOWNS 1).event 0x504 0 5 noUnit [c.get E.TJ]
  let c2 := match c.boot.run with
    | .ready => (if f.mainLost then c1 else c1.flushImage).flushSteps 4 false f
    | .starting => c1.interruptStart 4 false f
    | _ => c1
  let c3 := c2.haltCores .thermalHold
  { c3 with pm := { c3.pm with vrEn := false, vrGood := false, clock := 3 } }

/-- The hold ends when shutdown clears: VR_EN high, and a start from power-up (R425). -/
def Chip.holdEnds (c : Chip) : Chip :=
  let c1 := (c.set E.THERM_STATE 0).event 0x504 1 1 noUnit [c.get E.TJ]
  { c1 with pm := { c1.pm with vrEn := true }, boot := { c1.boot with run := .rails, railsT := c1.now, cause := 4, trained := false },
            th := { Th.initial with lastValid := c1.th.lastValid, warnMs := c1.th.warnMs, critMs := c1.th.critMs } }

/-- The diode is broken (R424): the runs begin anew with the averages after it. -/
def Chip.breakDiode (c : Chip) : Chip :=
  let c1 := (c.set E.SENSOR_FAULT 1).event 0x505 0 3 noUnit [1]
  ({ c1 with th := { c1.th with warnUp := 0, warnDown := 0, thrUp := 0, thrDown := 0, shutUp := 0, shutDown := 0, valid := 0 } }).setStep 8

/-- Four valid averages in a row mend it; the state is taken from them. -/
def Chip.mendDiode (c : Chip) : Chip :=
  let c1 := (c.set E.SENSOR_FAULT 0).event 0x505 0 2 noUnit [0]
  (({ c1 with th := { c1.th with stepT := c1.now } }).levels).levels

/-- Time at a step, in WARNING and in THROTTLE, one millisecond for each average. -/
def Chip.countMs (c : Chip) : Chip :=
  let s := c.get E.THERM_STATE
  let th := { c.th with warnMs := c.th.warnMs + (if 1 ≤ s then 1 else 0), critMs := c.th.critMs + (if 2 ≤ s then 1 else 0) }
  let c1 := { c with th := th }
  if 1 ≤ c.get E.THROTTLE_STEP then c1.count E.THROTTLE_TIME 1 else c1

/-- The average of a millisecond and what follows from it. -/
def Chip.junction (c : Chip) (samples : List (Option Int)) (f : FlushInput) : Chip :=
  let broken := decide (c.get E.SENSOR_FAULT = 1)
  match c.diodeAverage samples with
  | none =>
    let c1 := ({ c with th := { c.th with invalid := min 8 (c.th.invalid + 1), valid := 0 } }).countMs
    if !broken ∧ (8 ≤ c1.th.invalid ∨ c1.own (mkUnit kADC 0) = 4) then c1.breakDiode else c1
  | some avg =>
    let c1 := (c.takeAverage avg).countMs
    if c.boot.run = .thermalHold then
      let c2 := if broken ∧ 4 ≤ c1.th.valid then (c1.set E.SENSOR_FAULT 0).event 0x505 0 2 noUnit [0] else c1
      if c2.get E.SENSOR_FAULT = 0 ∧ 4 ≤ c2.th.shutDown then c2.holdEnds else c2
    else if broken then
      if 4 ≤ c1.th.valid then
        let c2 := c1.mendDiode
        if 4 ≤ c2.th.shutUp then c2.thermalShutdown f else c2
      else c1
    else if 4 ≤ c1.th.shutUp then c1.thermalShutdown f
    else c1.levels

def execJunctionAverage (t : Nat) (samples : List (Option Int)) (flush : FlushInput) (s : State) : Host.Outcome State Fault Refusal :=
  runUnits s t fun c => c.when (decide (c.boot.run = .ready ∨ c.boot.run = .starting ∨ c.boot.run = .thermalHold)) fun c =>
    c.tempEvents (c.junction samples flush)

/-- In THROTTLE, every THROTTLE_RISE after the last rise (R423). -/
def Chip.stepUp (c : Chip) : Chip :=
  if c.get E.THERM_STATE = 2 ∧ c.get E.SENSOR_FAULT = 0 ∧ c.th.stepT + c.get E.THROTTLE_RISE * cycPerMs ≤ c.now then
    let up := decide (16 * (c.get E.THERM_THROTTLE : Int) < c.getS E.TJ)
    let c1 := if up then c.setStep (min 8 (c.get E.THROTTLE_STEP + 1)) else c
    { c1 with th := { c1.th with stepT := c1.now } }
  else c

def execThrottleRise (t : Nat) (s : State) : Host.Outcome State Fault Refusal :=
  run s t fun c => c.when c.isReady Chip.stepUp

/-- Outside THROTTLE, every THROTTLE_RELEASE after the last change without an average above the level
(R423). -/
def Chip.stepDown (c : Chip) : Chip :=
  let n := c.get E.THROTTLE_RELEASE * cycPerMs
  if c.get E.THERM_STATE ≠ 2 ∧ c.get E.SENSOR_FAULT = 0 ∧ c.get E.THROTTLE_STEP ≠ 0 ∧ c.th.stepT + n ≤ c.now ∧ (c.th.hotT = 0 ∨ c.th.hotT + n ≤ c.now) then
    c.setStep (c.get E.THROTTLE_STEP - 1)
  else c

def execThrottleRelease (t : Nat) (s : State) : Host.Outcome State Fault Refusal :=
  run s t fun c => c.when c.isReady Chip.stepDown

end Sys2Proof.Machine
end

