-- ==== Sys2Proof/Machine/AdminData.lean ====
section
/-! DEFINITION. Identify and Get Log Page (R4, R68, R80, R82, R84, R133, R158, R162, R297, R355, R398, R426,
R444, R466). Places of the fields are those of NVM Express (PRESUMED, log entry 14); an octet that the
manual gives no value is `Config.nvmeOctet` of its structure. -/
namespace Sys2Proof.Machine

/-- A field of a structure: offset, length in octets, value, little-endian. -/
abbrev Part := Nat × Nat × Nat

/-- Octet i of a structure: that of the field it lies in, or NVM Express's. -/
def structOctet (page : Nat) (fields : List Part) (i : Nat) : Nat :=
  match fields.find? fun f => decide (f.1 ≤ i ∧ i < f.1 + f.2.1) with
  | some f => f.2.2 / 256 ^ (i - f.1) % 256
  | none => Config.nvmeOctet page i

/-- A structure of so many octets. -/
def structOctets (page size : Nat) (fields : List Part) : List Nat := (List.range size).map (structOctet page fields)

/-- Numbers of the Identify structures, for the octets that NVM Express gives. -/
abbrev pageController : Nat := 0
abbrev pageNamespace : Nat := 1
abbrev pageDescriptors : Nat := 2
abbrev pageGranularity : Nat := 3
/-- The structure of a log page. -/
abbrev pageLog (lid : Nat) : Nat := 256 + lid

/-! ### Identify (R80) -/

/-- ENLAT, EXLAT in µs of the power states (R398). -/
def psLatency (k : Nat) : Nat × Nat := if k = 3 then (1000, 2000) else if k = 4 then (10000, 50000) else (0, 0)

/-- The descriptor of a power state (R398): MP in hundredths of a watt as the function latched it, NOPS for 3 and 4. -/
def psParts (f : Fn) (k : Nat) : List Part :=
  let b := 2048 + 32 * k
  [(b, 2, nth f.psMp k), (b + 2, 1, 0), (b + 3, 1, if k < 3 then 0 else 2), (b + 4, 4, (psLatency k).1), (b + 8, 4, (psLatency k).2),
    (b + 12, 1, k), (b + 13, 1, k), (b + 14, 1, k), (b + 15, 1, k)]

/-- CMIC (R355): ports of the subsystem, several controllers, a virtual function, ANA reporting (DEDUCED, log entry 14). -/
def cmic (fn : Nat) : Nat := 1 + 2 + (if fn = 0 then 0 else 4) + 8

/-- The Identify Controller fields that the manual gives (R4, R68, R80, R162, R355, R398, R426, R444, R466). -/
def Chip.controllerParts (c : Chip) (f : Fn) : List Part :=
  [(0, 2, 0x1F3D), (2, 2, (c.portOf f.port).subsysVendor), (76, 1, cmic f.fn), (77, 1, 11), (78, 2, c.cntlid f.port f.fn),
    (80, 4, 0x20000), (258, 1, 0), (259, 1, 15), (260, 1, 0x16), (262, 1, 63), (263, 1, 4), (266, 2, c.get E.THERM_WARN + 273),
    (268, 2, c.get E.THERM_THROTTLE + 273), (270, 2, 10), (316, 2, 30), (319, 1, 1), (328, 4, 0x20000007), (342, 1, 10), (344, 4, 1),
    (348, 4, 1), (512, 1, 0x66), (513, 1, 0x44), (516, 4, 1024), (522, 2, 0), (524, 1, 0), (525, 1, 0), (526, 2, 2047), (528, 2, 2047),
    (536, 4, 0)] ++ (List.range 5).flatMap (psParts f)

/-- One LBA format (R82): metadata octets, data size as a power of two, relative performance. -/
def lbafParts (k : Nat) : List Part :=
  let b := 128 + 4 * k
  [(b, 2, metaOctets k), (b + 2, 1, if k < 3 then 12 else 14), (b + 3, 1, if k < 3 then 1 else 0)]

/-- The Identify Namespace fields that the manual gives (R82, R84, R133, R159, R355). -/
def Ns.parts (n : Ns) : List Part :=
  let atom := 8388608 / lbaOctets n.lbaf - 1
  [(0, 8, n.nsze), (8, 8, n.ncap), (25, 1, 5), (26, 1, n.lbaf + (if n.ext then 16 else 0)), (27, 1, 3), (28, 1, 0), (29, 1, 0),
    (33, 1, 9), (34, 2, atom), (36, 2, atom), (92, 4, 1)] ++ (List.range 6).flatMap lbafParts

/-- NUSE (R131): the LBAs of the units that are not deallocated. A unit of a slice that is not loaded is taken from the slice's
checkpoint and journal. -/
def Chip.nuse (c : Chip) (n : Ns) : Nat :=
  let late := (List.range c.mapSlices).filter fun k => !c.ft.loaded.contains k
  let units := (c.ft.map ++ late.flatMap c.sliceMap).map Prod.fst ++ c.ft.dir.map Prod.fst
  min n.nsze ((units.filter fun u => n.granules.contains (u / 65536)).eraseDups.length * lbasPerUnit n.lbaf)

/-- A list of 1,024 namespace identifiers above one, ascending. -/
def nsidList (l : List Nat) (above : Nat) : List Nat :=
  let k := (l.mergeSort.filter fun n => decide (above < n)).take 1024
  (List.range 4096).map fun i => nth k (i / 4) / 256 ^ (i % 4) % 256

/-- The namespaces attached to a function. -/
def Chip.attachedNs (c : Chip) (port fn : Nat) : List Nat := (c.ft.nss.filter fun n => c.attached port fn n.nsid).map Ns.nsid

/-- The namespace granularity list: one entry of 1 GiB for size and for capacity (R133). -/
def granularityParts : List Part := [(4, 1, 0), (32, 8, 2 ^ 30), (40, 8, 2 ^ 30)]

/-- The structure of a CNS value, or the status where it is not supported or names no namespace. -/
def Chip.identifyOctets (c : Chip) (x : Cmd) : Except Nat (List Nat) :=
  let cns := x.dw 10 % 256
  let one := fun (n : Option Ns) => match n with
    | some n => Except.ok (structOctets pageNamespace 4096 (n.parts ++ [(16, 8, c.nuse n)]))
    | none => Except.error (dnr stInvalidNs)
  if cns = 1 then .ok (structOctets pageController 4096 (c.controllerParts (c.fnOf x.port x.fn)))
  else if cns = 0 then
    if x.nsid = 0xFFFFFFFF then .ok (structOctets pageNamespace 4096 ((25, 1, 5) :: (27, 1, 3) :: (28, 1, 0) :: (List.range 6).flatMap lbafParts))
    else if c.attached x.port x.fn x.nsid then one (c.ns x.nsid)
    else if (c.ns x.nsid).isSome then .ok (List.replicate 4096 0)
    else .error (dnr stInvalidNs)
  else if cns = 2 then .ok (nsidList (c.attachedNs x.port x.fn) x.nsid)
  else if cns = 3 then
    if c.attached x.port x.fn x.nsid then .ok (structOctets (pageDescriptors + 65536 * x.nsid) 4096 []) else .error (dnr stInvalidNs)
  else if cns = 0x10 then .ok (nsidList (c.ft.nss.map Ns.nsid) x.nsid)
  else if cns = 0x11 then one (c.ns x.nsid)
  else if cns = 0x16 then .ok (structOctets pageGranularity 4096 granularityParts)
  else .error stInvalidField

/-- A structure goes to the host, or the status says why not. -/
def Chip.giveOctets (c : Chip) (x : Cmd) (r : Except Nat (List Nat)) : Chip :=
  match r with
  | .ok l => (c.emit (.octets x.h l)).finish x.h stOk 0 0
  | .error s => c.fail x.h s

def execIdentify (t h : Nat) (s : State) : Host.Outcome State Fault Refusal :=
  run s t fun c => c.adminCmd h 0x06 fun c x => c.giveOctets x (c.identifyOctets x)

/-! ### Log pages (R80, R158, R297, R355, R426, R466) -/

/-- SMART Critical Warning of a function (R158, R285, R297, R422, R424, R426). -/
def Chip.criticalWarning (c : Chip) (f : Fn) : Nat :=
  (if 100 - c.lifeSpare / 10 < 10 then 1 else 0) + (if c.tempWarning f then 2 else 0)
    + (if 100 ≤ c.lifePct ∨ c.boot.maint then 4 else 0) + (if bits (c.get E.WT_CAUSE) 3 0 ≠ 0 ∨ c.lg.badRecovery then 16 else 0)

/-- A temperature in kelvin as an unsigned field. -/
def kelvin (k : Int) : Nat := k.toNat

/-- The SMART / Health log. -/
def Chip.smartParts (c : Chip) (f : Fn) : List Part :=
  [(0, 1, c.criticalWarning f), (1, 2, kelvin (c.sensorK 0)), (3, 1, 100 - c.lifeSpare / 10), (4, 1, 10), (5, 1, c.lifePct),
    (32, 16, cdiv c.lg.unitsRead 1000), (48, 16, cdiv c.lg.unitsWritten 1000), (64, 16, c.lg.readCmds), (80, 16, c.lg.writeCmds), (112, 16, c.get E.POWER_CYCLES),
    (128, 16, c.get E.POWER_ON_TIME / 3600), (144, 16, c.get E.UNSAFE_SHUTDOWNS), (160, 16, c.lg.mediaErrors), (176, 16, c.lg.errCount),
    (192, 4, c.th.warnMs / 60000), (196, 4, c.th.critMs / 60000), (200, 2, kelvin (c.sensorK 1)), (202, 2, kelvin (c.sensorK 2))]

/-- The Error Information log: 64 entries, newest first; an unused one is zero (R466). -/
def Chip.errorOctet (c : Chip) (i : Nat) : Nat :=
  match c.lg.errs[i / 64]? with
  | none => 0
  | some e => structOctet (pageLog 1) [(0, 8, e.count), (8, 2, e.sqid), (10, 2, e.cid), (12, 2, 2 * e.status), (16, 8, e.lba), (24, 4, e.nsid)] (i % 64)

/-- The Firmware Slot log: the running slot, the pending one and the three revisions. -/
def Chip.slotParts (c : Chip) : List Part :=
  [(0, 1, c.get E.FW_RUNNING_SLOT % 8 + 16 * (c.get E.FW_PENDING_SLOT % 8)), (8, 24, c.slotVersions)]

/-- The Commands Supported and Effects log: a command is supported (bit 0), its effects are NVM Express's. -/
def Chip.effectsOctet (c : Chip) (i : Nat) : Nat :=
  let op := i % 1024 / 4
  let on := if i < 1024 then adminOpcodes.contains op else if i < 2048 then c.ioOpcode op else false
  if !on then 0 else if i % 4 = 0 then 1 + 2 * (Config.nvmeOctet (pageLog 5) i % 128) else Config.nvmeOctet (pageLog 5) i

/-- How far the self-test has come, in percent: its segments count alike, and one that reads units counts by those read
(DESIGN CHOICE, log entry 60). -/
def Chip.testPercent (c : Chip) : Nat :=
  let read := if c.lg.stTotal = 0 then 0 else 100 * (c.lg.stTotal - c.lg.stLeft.length) / c.lg.stTotal
  if c.get E.ST_STATE = 0 then 0 else (100 * (c.get E.ST_SEGMENT - 1) + read) / c.lastSegment

/-- The Device Self-test log: the operation that runs, how far it has come (R95), and 20 results, newest first; an unused
one has result Fh. -/
def Chip.selfTestOctet (c : Chip) (i : Nat) : Nat :=
  if i = 0 then c.get E.ST_STATE
  else if i = 1 then c.testPercent
  else if i < 4 then Config.nvmeOctet (pageLog 6) i
  else match c.lg.selfTests[(i - 4) / 28]? with
    | none => if (i - 4) % 28 = 0 then 0x0F else 0
    | some r => structOctet (pageLog 6 + 65536) [(0, 1, r.1 * 16 + r.2.1), (1, 1, r.2.2)] ((i - 4) % 28)

/-- The ANA log of one group (R355); with Return Groups Only it lists no namespace. -/
def Chip.anaOctet (c : Chip) (x : Cmd) (i : Nat) : Nat :=
  let l := if bit (x.dw 10) 8 = 1 then [] else (c.attachedNs x.port x.fn).mergeSort
  structOctet (pageLog 0x0C) ([(8, 2, 1), (16, 4, 1), (20, 4, l.length), (32, 1, c.anaState)] ++
    (l.zip (List.range l.length)).map fun p => (48 + 4 * p.2, 4, p.1)) i

/-- The Sanitize Status log: what the most recent Sanitize came to and its command Dword 10 (R163). -/
def Chip.sanitizeParts (c : Chip) : List Part :=
  let st := c.get E.SANITIZE_STATE
  [(2, 2, if st = 1 then 2 else if st = 2 then 3 else if c.lg.sanLog = 0 then 0 else 1), (4, 4, c.lg.sanLog)]

/-- Octet i of a list of event records of 32 octets, from a place on; zero where there is none. -/
def recordOctet (l : Nat → Option EvRec) (i : Nat) : Nat :=
  match l (i / 32) with
  | some r => r.octets / 256 ^ (i % 32) % 256
  | none => 0

/-- Octet i of a telemetry log (R466). -/
def Chip.telemOctet (c : Chip) (lid : Nat) (t : Option Telem) (i : Nat) : Nat :=
  if i < 512 then
    structOctet (pageLog lid) [(0, 1, lid), (8, 2, 128), (10, 2, 640), (12, 2, 4992), (382, 1, if c.lg.telemAvail then 1 else 0),
      (383, 1, c.get E.TELEM_CTRL_GEN)] i
  else match t with
    | none => 0
    | some t =>
      if i < 129 * 512 then nth t.area1 (i - 512)
      else if i < 641 * 512 then recordOctet (fun k => (t.ring.drop (t.ring.length - 8192))[k]?) (i - 129 * 512)
      else if i < 4737 * 512 then recordOctet (fun k => t.ring.find? fun r => decide (r.num % 65536 = k)) (i - 641 * 512)
      else recordOctet (fun k => t.kept[k]?) (i - 4737 * 512)

/-- The size of a log page in octets, and its octets; none where it is not supported. -/
def Chip.logPage (c : Chip) (x : Cmd) : Option (Nat × (Nat → Nat)) :=
  let lid := x.dw 10 % 256
  let f := c.fnOf x.port x.fn
  if lid = 3 then some (512, structOctet (pageLog 3) c.slotParts)
  else if lid = 1 then some (4096, c.errorOctet)
  else if lid = 2 then some (512, structOctet (pageLog 2) (c.smartParts f))
  else if lid = 4 then
    let l := nsidList f.changedNs 0
    some (4096, nth l)
  else if lid = 5 then some (4096, c.effectsOctet)
  else if lid = 6 then some (564, c.selfTestOctet)
  else if lid = 7 then some (4993 * 512, c.telemOctet 7 c.lg.telemHost)
  else if lid = 8 then some (4993 * 512, c.telemOctet 8 c.lg.telemCtrl)
  else if lid = 0x0C then some (48 + (if bit (x.dw 10) 8 = 1 then 0 else 4 * (c.attachedNs x.port x.fn).length), c.anaOctet x)
  else if lid = 0x81 then some (512, structOctet (pageLog 0x81) c.sanitizeParts)
  else none

/-- The page that an Asynchronous Event names is read with Retain Asynchronous Event clear: such events are
let through again (NVM Express, PRESUMED, log entry 14). A read of the Controller-Initiated log makes
room for the next capture (R466), and one of the Changed Namespace List empties it. -/
def Chip.afterLog (c : Chip) (x : Cmd) : Chip :=
  let lid := x.dw 10 % 256
  let f := c.fnOf x.port x.fn
  let c1 := if bit (x.dw 10) 15 = 1 then c else c.setFn { f with aeMasked := f.aeMasked.filter fun k => decide (k % 256 ≠ lid) }
  let f1 := c1.fnOf x.port x.fn
  let c2 := if lid = 4 then c1.setFn { f1 with changedNs := [] } else c1
  if lid = 8 ∧ bit (x.dw 10) 15 = 0 then { c2 with lg := { c2.lg with telemAvail := false } } else c2

/-- Get Log Page: the octets from the offset on, as many as NUMD names. -/
def Chip.getLog (c0 : Chip) (x : Cmd) : Chip :=
  let capture := x.dw 10 % 256 = 7 ∧ bit (x.dw 10) 8 = 1
  let c := if capture then { c0 with lg := { c0.lg with telemHost := some c0.capture } } else c0
  let off := x.dw 12 + at' (x.dw 13) 32
  let n := 4 * (bits (x.dw 10) 31 16 + at' (bits (x.dw 11) 15 0) 16 + 1)
  match c.logPage x with
  | none => c.fail x.h stInvalidLog
  | some (size, oct) =>
    if size < off ∨ off % 4 ≠ 0 then c.fail x.h stInvalidField
    else
      let l := (List.range (min n (size - off))).map fun i => oct (off + i)
      ((c.emit (.octets x.h l)).afterLog x).finish x.h stOk 0 0

def execGetLogPage (t h : Nat) (s : State) : Host.Outcome State Fault Refusal :=
  run s t fun c => c.adminCmd h 0x02 Chip.getLog

end Sys2Proof.Machine
end

