-- ==== Sys2Proof/Machine/MapRows.lean ====
section
/-! DEFINITION. The map and the catalogue in the background: journal pages, checkpoints, slices loaded, the
stash, and the end of a warm-up load (R137 to R139, R310, R322 to R324, R439). -/
namespace Sys2Proof.Machine

/-- A full half of a stream has been programmed as one journal page into system superblocks, and is free again (R137);
without room there it waits. -/
def Chip.journalPage (c : Chip) (k : Nat) : Chip :=
  let s := c.stream k
  if s.full = [] then c
  else match c.systemRuns 16 (recordPage s.full) with
    | none => c
    | some (place, c1) =>
      let more := decide (halfRecs ≤ s.active.length)
      let s1 := if more then { s with full := s.active, active := [] } else { s with full := [] }
      (c1.addPages k [s.full] place).setStream s1

def execJournalPageProgrammed (t stream : Nat) (s : State) : Host.Outcome State Fault Refusal :=
  run s t fun c => c.when c.isReady fun c => c.journalPage stream

/-! ### Checkpoints (R138, R324) -/

/-- The entries of a catalogue slice by place; slice 1,024 is the stash. -/
def Chip.catEntries (c : Chip) (k : Nat) : List (Nat × SbEntry) :=
  if k = 1024 then c.book.stash.map fun p => (stashPlace p.1, p.2) else c.book.cells.filter fun p => decide (bookSlice p.1 = k)

/-- The catalogue slice of a record's place. -/
def placeSlice (place : Nat) : Nat := if 2 ^ 31 ≤ place then 1024 else bookSlice place

def Chip.catCkpt (c : Chip) (k : Nat) : Option CatCkpt := (c.book.ckpts.filter fun q => decide (q.slice = k)).getLast?

/-- A catalogue page whose records are earlier than the checkpoint start of their slices. -/
def Chip.catDead (c : Chip) (p : CatPage) : Bool :=
  p.recs.all fun r => match c.catCkpt (placeSlice r.place) with
    | some k => serialLt 32 r.seq k.start
    | none => false

/-- The octets of a page of a catalogue slice's copy: 512 places of 32 octets, an empty one zero. -/
def Chip.catPage (c : Chip) (k i : Nat) : Nat :=
  ofOctets ((List.range 512).flatMap fun j =>
    octetsOf 32 (((c.book.at (if k = 1024 then stashPlace (512 * i + j) else k * 2 ^ 19 + 512 * i + j)).map fun e => e.word false).getD 0))

/-- A checkpoint of a catalogue slice that counts, in 1,024 system pages; the pages it makes dead are released. A
rotation ends when every slice has been taken (R330). -/
def Chip.checkpointCat (c0 : Chip) (k : Nat) : Chip := match c0.systemRuns 1024 (c0.catPage k) with
  | none => c0
  | some (place, c) =>
  let q : CatCkpt := { slice := k, start := c.get E.SB_NEXT_SEQ, time := c.now, entries := c.catEntries k, place := place }
  let ks := drop' (fun (q : CatCkpt) => decide (q.slice = k)) c.book.ckpts ++ [q]
  let c1 := { c with book := { c.book with ckpts := ks } }
  let pages := drop' c1.catDead c1.book.flash
  let c2 := ({ c1 with book := { c1.book with flash := pages } }).count E.CKPT_WRITTEN 1
  let rot := k :: c2.book.rotation.erase k
  if 1025 ≤ rot.length then
    ({ c2 with book := { c2.book with rotation := [], rotationT := c2.now } }).event 0x403 0 1 noUnit
      [min max20 ((c2.now - c2.book.rotationT) / cycPerSec)]
  else { c2 with book := { c2.book with rotation := rot } }

/-- The catalogue slice loaded whose checkpoint is oldest, with the moment after it; none without a
Scorebook. -/
def Chip.oldestCat (c : Chip) : Option (Nat × Nat) :=
  let age := fun k => match c.catCkpt k with
    | some p => p.time + 1
    | none => 0
  let best := minOf (2 ^ 64) (c.book.loaded.map age)
  if c.bookOn then (c.book.loaded.find? fun k => decide (age k = best)).map fun k => (k, best) else none

/-- Something in use lies in a system superblock: a journal page, a checkpoint, a catalogue page or a patch page (R146). -/
def Chip.sysNamed (c : Chip) (idx : Nat) : Bool :=
  let runs := c.ft.jpages.flatMap JPage.place ++ c.ft.ckpts.flatMap Ckpt.place ++ c.book.flash.flatMap CatPage.place
    ++ c.book.ckpts.flatMap CatCkpt.place
  (runs.any fun q => decide (q.1 = idx))
    || c.sb.sbs.any fun s => (s.patches ++ s.pend).any fun p => (p.pReloc.toList ++ p.qReloc.toList).any fun e => decide (entrySb e = idx)

/-- System superblocks that have been filled and hold nothing in use any more are released (DEDUCED, log entry 62). -/
def Chip.freeSystem (c : Chip) : Chip :=
  c.each (c.sb.sbs.filter fun s => s.kind == .system && s.state == .open && decide (s.dataSlots ≤ s.used) && !c.sysNamed s.idx) fun c s =>
    c.releaseSb s.idx

/-- The checkpointer takes the slice whose latest checkpoint is oldest; map slices first on a tie. A map slice whose turn it is that is not
loaded is loaded first (R138). -/
def Chip.takeCheckpoint (c : Chip) : Chip :=
  match c.oldestAny, c.oldestCat with
  | some k, q? =>
    match q? with
    | some q => if q.2 < c.ckptAge k then c.checkpointCat q.1 else if c.ft.loaded.contains k then c.checkpointSlice k else c.askSlice k
    | none => if c.ft.loaded.contains k then c.checkpointSlice k else c.askSlice k
  | none, some q => c.checkpointCat q.1
  | none, none => c

def Chip.checkpoint (c : Chip) : Chip := c.takeCheckpoint.freeSystem

def execCheckpoint (t : Nat) (s : State) : Host.Outcome State Fault Refusal :=
  runUnits s t fun c => c.when c.awake Chip.checkpoint

/-! ### Loading (R139, R324, R439) -/

/-- A record applied to the catalogue. -/
def CatRec.apply (b : Book) (r : CatRec) : Book := if r.set then b.write r.place r.entry else b.clear r.place

/-- A catalogue slice is loaded: its checkpoint, then the records of its places at or after its start, on
flash and in the open pages (R324); one of an unknown type is ignored and reported (R330). SB_STATE reads 2 once every slice is
loaded. -/
def Chip.loadCat (c : Chip) (k : Nat) : Chip :=
  if c.book.loaded.contains k ∨ 1024 < k then c
  else
    let q := c.catCkpt k
    let kept : List (Nat × SbEntry) := (q.map CatCkpt.entries).getD []
    let base : Book := kept.foldl (fun (b : Book) (p : Nat × SbEntry) => b.write p.1 p.2) c.book
    let recs : List CatRec := (c.book.flash.flatMap CatPage.recs ++ c.book.full ++ c.book.page).filter fun r =>
      decide (placeSlice r.place = k) && !((q.map fun (q : CatCkpt) => serialLt 32 r.seq q.start).getD false)
    let b : Book := recs.foldl CatRec.apply base
    let loaded := c.book.loaded ++ [k]
    let loading := c.ft.loading.erase (catBase + k)
    let c1 : Chip := { c with book := { b with loaded := loaded }, ft := { c.ft with loading := loading } }
    let odd := (c.book.flash.flatMap CatPage.words).any fun w => (CatRec.ofWord w).isNone
    let c2 := if odd then c1.event 0x404 0 1 noUnit [k] else c1
    if 1025 ≤ loaded.length ∧ c2.get E.SB_STATE = 1 then (c2.set E.SB_STATE 2).event 0x400 1 1 noUnit [2] else c2

/-- Warm-up ends with the last map slice (R439). -/
def Chip.warmupEnds (before c : Chip) : Chip :=
  if c.allLoaded ∧ !before.allLoaded then
    let ms := min max40 ((c.now - c.fw.readyT) / cycPerMs)
    (c.set E.WARMUP_LAST ms).event 0x58E 0 1 noUnit [ms]
  else c

/-- The lowest slice that is not loaded yet, for loading in the background. -/
def Chip.nextSlice (c : Chip) : Option Nat := (List.range c.mapSlices).find? fun k => !c.ft.loaded.contains k

def Chip.nextCat (c : Chip) : Option Nat := if c.bookOn then (List.range 1025).find? fun k => !c.book.loaded.contains k else none

/-- The pages that the load of a slice reads: those of its checkpoint and of the journal pages of its stream. -/
def Chip.loadPages (c : Chip) (slice : Nat) : List SysRun :=
  if catBase ≤ slice then ((c.catCkpt (slice - catBase)).map CatCkpt.place).getD [] ++ c.book.flash.flatMap CatPage.place
  else ((c.ckptOf slice).map Ckpt.place).getD [] ++ (c.ft.jpages.filter fun p => decide (p.stream = slice % 256)).flatMap JPage.place

/-- SLICE_LOAD: the load of a slice that waits to be loaded, or of the next one in the background, has ended: a map slice by its index, a
catalogue slice from 8,192 on. Loads begin with the most recent touch, several run at a time, and their reads are under SY (R139, log entry 72). -/
def Chip.sliceLoad (c0 : Chip) (slice : Nat) (bad : List Nat) : Chip :=
  let c := c0.chargeRuns (c0.loadPages slice)
  let due := c.ft.loading.contains slice || decide (c.nextSlice = some slice) || decide (catBase ≤ slice ∧ c.nextCat = some (slice - catBase))
  if !due then c0
  else if catBase ≤ slice then (if c.bookOn then c.loadCat (slice - catBase) else c)
  else c.warmupEnds (c.loadSlice slice bad)

def execSliceLoad (t slice : Nat) (badUnits : List Nat) (s : State) : Host.Outcome State Fault Refusal :=
  runUnits s t fun c => c.when c.awake fun c => c.sliceLoad slice badUnits

/-- A Segment Read promised by R59 looks its key up once its catalogue slices are loaded: it ends when the
key is absent, and otherwise takes its shared entry. -/
def Chip.lateLookup (c : Chip) (x : Cmd) : Chip :=
  match c.seenKey x with
  | none => ((c.count E.SB_ABSENT 1).unlock x.h).finish x.h stKeyAbsent 0 0
  | some e =>
    let g := bits (x.dw 13) 19 0
    if g ≠ 0 ∧ g ≠ e.gen then ((c.count E.SB_ABSENT 1).unlock x.h).finish x.h stKeyAbsent e.gen 0
    else
      let x1 := { x with key := e.kept }
      let units := (c.segUnits x1 e).map Prod.fst
      ((c.setCmd x1).relock x1).each units Chip.touchSlice

/-- The terms of a read whose slices are loaded (R439): its tokens are placed now, or it meets recovery
trouble with cause UNIT_FAULT. -/
def Chip.remaining (c : Chip) (x : Cmd) : Chip :=
  let r := c.tryDirect x x.promisePs x.duePs (c.cmdTouches x)
  if r.1 = [] then
    let ledger := c.um.ledger ++ r.2.2.1
    let ws := c.um.work ++ r.2.2.2
    ({ c with um := { c.um with ledger := ledger, work := ws } }).each ((c.cmdTouches x).map Touch.lun) Chip.kickDie
  else c.trouble x.h 0x21

/-- The load of a warm-up command ends: first the key of a Segment Read, then the terms of the read. -/
def Chip.touchLoaded (c : Chip) (x : Cmd) : Chip :=
  if x.opcode = 0x82 ∧ x.key = [] ∧ x.waitH.isNone then
    if !c.keyLoaded x.sbKey then c
    else
      let c1 := c.lateLookup x
      match c1.cmd x.h with
      | some y => if y.phase = .admitted ∧ !c1.unloaded y then c1.remaining y else c1
      | none => c1
  else if c.unloaded x then c
  else c.remaining x

def execTouchLoadComplete (t h : Nat) (s : State) : Host.Outcome State Fault Refusal :=
  run s t fun c => match c.cmd h with
    | none => c
    | some x => c.when (c.isReady && !x.admin && x.readRule && decide (x.cls ≤ 2 ∧ x.phase = .admitted)) fun c => c.touchLoaded x

/-! ### The catalogue (R310, R323) -/

def execCataloguePageProgrammed (t : Nat) (s : State) : Host.Outcome State Fault Refusal :=
  run s t fun c => c.when (c.isReady && c.bookOn) Chip.cataloguePage

/-- Stash moves wait until all slices are loaded and a page takes their records (R324). -/
def execStashMove (t : Nat) (s : State) : Host.Outcome State Fault Refusal :=
  run s t fun c => c.when (c.awake && decide (c.get E.SB_STATE = 2) && !c.bookHeld) Chip.moveStash

end Sys2Proof.Machine
end

