-- ==== Sys2Proof/Machine/MediaRows.lean ====
section
/-! DEFINITION. What the channel engines report of the dies: operations that end, time out or are
suspended, training and retraining, ZQ calibration, temperatures and the erase-intent pages (R154, R155,
R172 to R198). -/
namespace Sys2Proof.Machine

/-! ### Programs (R144, R154, R187) -/

/-- The place of a superblock's pages in PROGRAM_SOURCES (R168): host, fold, GC, RF, system. The pages of
Recast count with RF (log entry 34). -/
def Sb.source (s : Sb) : Nat :=
  if s.kind = .host then 0 else if s.kind = .dest then min 3 s.stream else 4

/-- An operation that ended with RDY did so before its timeout, so that its time is a measurement (R185, R186). -/
def Chip.inTime (c : Chip) (o : Op) : Bool :=
  decide ((if o.kind = .read then c.now - o.issueT else o.progress c.now) < c.opTimeout o.kind)

/-- The largest time of a program (R45, R186). -/
def Chip.measureProgram (c : Chip) (o : Op) : Chip :=
  if !o.qlc && c.inTime o then { c with um := { c.um with measProgSlc := max c.um.measProgSlc (o.progress c.now * psPerCyc) } } else c

/-- The member replacement that a block serves. -/
def Chip.replOn (c : Chip) (lun block : Nat) : Option Repl := c.sb.repls.find? fun r => decide (r.lun = lun ∧ r.block = block)

/-- A pass of a page of a replacement block has ended well, and its next page is taken; a page counts with its last pass (R187, R252). -/
def Chip.replPass (c : Chip) (lun block : Nat) : Chip :=
  match c.replOn lun block with
  | none => c
  | some r => match c.sbOf r.sb with
    | none => c
    | some s =>
      let one := decide (c.passesOf s ≤ 1)
      let second := c.replSecond s r
      let r1 := if second then { r with fin := r.fin + 1, words := drop' (fun (p : Nat × List Nat) => decide (p.1 = r.fin)) r.words }
        else if one then { r with prog := r.prog + 1, fin := r.prog + 1, words := [] }
        else { r with prog := r.prog + 1 }
      let c1 := if second || one then (c.count E.NAND_PAGES_PROGRAMMED 1).countOct64 E.PROGRAM_SOURCES 3 1 else c
      (c1.setRepl r1).replRow r1

/-- A replacement block whose program failed is in the scrap pool: its replacement begins again (R154, R253). -/
def Chip.replFail (c : Chip) (lun block : Nat) : Chip :=
  match c.replOn lun block with
  | none => c
  | some r =>
    let rs := c.sb.repls.erase r
    let l := drop' (fun (k : Task) => decide (k.h = recastH r.sb r.pos)) c.rd.tasks
    (({ c with sb := { c.sb with repls := rs }, rd := { c.rd with tasks := l } }).count E.RB_RESTARTS 1).event 0x183 0 1 noUnit [r.sb, r.pos]

/-- A pass of a page has ended well: the page has reported pass in the present pass of its row (R144, R241), and counts with its last. Where that
completes the pass, rows of the superblock take their next one (R187). -/
def Chip.programPass (c : Chip) (lun : Nat) (o : Op) : Chip :=
  let c0 := c.measureProgram o
  match c0.rowOf o.row with
    | none => c0.replPass lun o.block
    | some r => match c0.sbOf r.sb with
      | none => c0
      | some s =>
        let k := if r.filler.contains o.member then 5 else s.source
        let c1 := c0.setRow { r with passed := r.passed ++ [o.member] }
        let c2 := if r.more = 0 then (c1.count E.NAND_PAGES_PROGRAMMED 1).countOct64 E.PROGRAM_SOURCES k 1 else c1
        (c2.rowProgress r.id).nextPasses s.idx

/-- A superblock closes at the rows in which a member has not been programmed: those rows go on without
it, the others are filled, the valid units on the member move to fresh slots of the same mode, at once or as soon as a row
takes them, and the superblock goes to the head of its queue (R154 steps 2 to 4). A write that waits for a program of such a row has met
PROGRAM_FAULT (R42). -/
def Chip.closeAt (c : Chip) (s : Sb) (m : Nat) : Chip :=
  let rows := c.sb.rows.filter fun r => decide (r.sb = s.idx)
  let broken := fun (r : Row) => !r.passed.contains m || decide (r.more ≠ 0)
  let hit := (rows.filter broken).map Row.id
  let rest := (rows.filter fun r => !broken r && !r.closing).map Row.id
  let waits := ((rows.filter broken).flatMap fun r => r.entries.filterMap fun e => c.slotOf e.2).filter fun sl => sl.wseq.isNone
  let cut := fun (d : Die) => { d with ops := d.ops.filter fun o => o.confirmed || o.kind != .program || !hit.contains o.row || decide (o.member ≠ m) }
  let dies := c.md.dies.map cut
  let c0 := ({ c with md := { c.md with dies := dies } }).each (waits.map Slot.h).eraseDups fun c h => c.trouble h 0x23
  let c1 := c0.each hit fun c id => c.voidRow id [m]
  let c2 := ((c1.each rest Chip.padRow).stopRows s.idx).nextPasses s.idx
  let mine := (c2.validUnits s).filter fun p => decide (slotMember p.slot = m)
  let here := mine.filter fun p => !c2.isLost p.unit && !(c2.sb.held.any fun x => decide (x.unit = p.unit ∧ x.src = s.idx * 2 ^ 20 + p.slot))
  let ordered := here.mergeSort fun a b => decide (a.unit ≤ b.unit)
  let c3 := c2.each ordered fun c p => c.moveOrWait (p.unit, s.idx * 2 ^ 20 + p.slot, 4, s.stream)
  (c3.headOfQueue s).pour

/-- The row, superblock and member that a program serves. -/
def Chip.servedBy (c : Chip) (o : Op) : Option Sb := (c.rowOf o.row).bind fun r => c.sbOf r.sb

/-- A program reported FAIL (R154): its block goes to the scrap pool, and its superblock closes. -/
def Chip.programFail (c : Chip) (lun : Nat) (o : Op) : Chip :=
  let c1 := (((c.measureProgram o).count E.PROGRAM_FAILS 1).scrap lun o.block).event (8 * chanOf lun + 4) 0 1 (c.unitIdent (mkUnit kLUN lun)) [o.block]
  match c1.servedBy o with
  | none => c1.replFail lun o.block
  | some s => (c1.event 0x306 0 1 noUnit [s.idx, o.block]).closeAt s o.member

/-! ### Erases (R150, R155, R192, R238) -/

/-- A superblock that was being assembled opens once every member block is erased in its mode. -/
def Chip.openAssembled (c : Chip) (idx : Nat) : Chip :=
  match c.sbOf idx with
  | none => c
  | some s =>
    let mode := if s.qlc then 2 else 1
    if s.state = .assembling ∧ s.members.all (fun m => decide ((c.blockOf m.lun m.block).mode = mode)) then c.setSb { s with state := .open }
    else c

/-- The superblock that an erased block serves goes on: a released block is free, an assembled one waits for
the rest. -/
def Chip.erasedFor (c : Chip) (idx lun block : Nat) : Chip :=
  match c.sbOf idx with
  | none => c.setBlock { c.blockOf lun block with sb := none }
  | some s =>
    if s.state = .assembling then c.openAssembled idx
    else (c.setBlock { c.blockOf lun block with sb := none }).dropErased idx

/-- A superblock that cannot be assembled is dissolved. -/
def Chip.dissolve (c : Chip) (s : Sb) : Chip :=
  let c1 := c.each s.members fun c m =>
    let b := c.blockOf m.lun m.block
    if b.sb = some s.idx then c.setBlock { b with sb := none } else c
  let l := drop' (fun (q : Sb) => decide (q.idx = s.idx)) c1.sb.sbs
  { c1 with sb := { c1.sb with sbs := l } }

/-- A failed erase of a superblock being assembled: it takes another free block of the same die, erased first
where it is not erased in the mode (R155). Where its die has none, the superblock is not assembled, and its other blocks are free again
(DESIGN CHOICE, log entry 69). -/
def Chip.replaceBlock (c : Chip) (s : Sb) (lun block : Nat) : Chip :=
  match (c.dieOf lun).bind Die.freeBlock with
  | none => c.dissolve s
  | some b =>
    let ms := change (fun (m : Member) => decide (m.lun = lun ∧ m.block = block)) (fun m => { m with block := b }) s.members
    let c1 := (c.setSb { s with members := ms }).setBlock { c.blockOf lun b with sb := some s.idx }
    if (c1.blockOf lun b).mode = (if s.qlc then 2 else 1) then c1.openAssembled s.idx else c1.gatherErase lun b 0 s.idx

/-- The intent entry of the erase of a block. -/
def Chip.intentOf (c : Chip) (lun block : Nat) : Option Intent :=
  c.md.intents.find? fun i => i.written && !i.ended && decide (i.lun = lun ∧ i.block = block)

/-- The scrap-pool blocks that a Sanitize erases count when they fail (R162). -/
def Chip.eraseFail (c : Chip) (lun block : Nat) : Chip :=
  let sb := ((c.intentOf lun block).map Intent.sb).getD max20
  let kind := ((c.intentOf lun block).map Intent.kind).getD 0
  let was := (c.blockOf lun block).scrapped
  let c1 := ((c.endIntent lun block).count E.ERASE_FAILS 1).event (8 * chanOf lun + 5) 0 1 (c.unitIdent (mkUnit kLUN lun)) [block]
  let c2 := if kind = 2 ∧ was then c1.count E.SANITIZE_SCRAP_UNERASED 1 else c1.scrap lun block
  match c2.sbOf sb with
  | none => c2
  | some s => if s.state = .assembling then c2.replaceBlock s lun block else c2.dropErased sb

/-- A block has been erased in a mode (R153, R192). -/
def Chip.erasePass (c : Chip) (lun : Nat) (o : Op) : Chip :=
  let sb := ((c.intentOf lun o.block).map Intent.sb).getD max20
  let b := c.blockOf lun o.block
  let b1 := if o.qlc then { b with qlcErases := b.qlcErases + 1, mode := 2, fill := none } else { b with slcErases := b.slcErases + 1, mode := 1, fill := none }
  ((c.endIntent lun o.block).setBlock b1).erasedFor sb lun o.block

/-! ### Reads -/

/-- A sense has ended: the work of its commands on the die is done, and its time is a measurement (R45,
R186). -/
def Chip.senseEnds (c : Chip) (lun : Nat) (o : Op) : Chip :=
  let took := (c.now - o.issueT) * psPerCyc / max 1 o.senses
  let um := if !c.inTime o then c.um else if o.qlc then { c.um with measTrQlc := max c.um.measTrQlc took } else { c.um with measTrSlc := max c.um.measTrSlc took }
  let ts := c.rd.tasks.filter fun t => decide (t.grp = o.task ∧ t.h ≠ 0)
  ({ c with um := um }).each (ts.map Task.h).eraseDups fun c h =>
    c.doneSense h lun (ts.filter fun (t : Task) => decide (t.h = h)).length o.qlc

/-- How many times of a kind make up the running median (R184, DESIGN CHOICE, log entry 65). -/
abbrev medianOf : Nat := 15

/-- The running median of an operation kind on a LUN, in cycles; 0 before the first (R184). -/
def Die.median (d : Die) (k : OpKind) : Nat :=
  let l := ((d.times.filter fun p => p.1 == k).map Prod.snd).mergeSort
  nth l (l.length / 2)

/-- The time of an operation joins those of its kind on its LUN. -/
def Chip.noteTime (c : Chip) (lun : Nat) (o : Op) : Chip :=
  match c.dieOf lun with
  | none => c
  | some d =>
    let took := if o.kind = .read then c.now - o.issueT else o.progress c.now
    let same := ((d.times.filter fun p => p.1 == o.kind) ++ [(o.kind, took)]).reverse.take medianOf
    if c.inTime o then c.setDie { d with times := (d.times.filter fun p => p.1 != o.kind) ++ same.reverse } else c

/-- What follows from an operation that ended with RDY (R184). -/
def Chip.opEnds (c : Chip) (lun : Nat) (o : Op) (fail : Bool) : Chip :=
  let c1 := (c.noteTime lun o).endOp lun o
  let c2 := match o.kind with
    | .read => c1.senseEnds lun o
    | .program => if fail then c1.programFail lun o else c1.programPass lun o
    | .erase => (if fail then c1.eraseFail lun o.block else c1.erasePass lun o).sanitizeEnds
  c2.kickDie lun

/-- The channel of a die is in a booked outage, in which no status is polled (R182). -/
def Chip.inOutage (c : Chip) (lun : Nat) : Bool := c.md.chans.any fun k => decide (k.ch = chanOf lun) && k.outages.contains c.inning

/-- NAND_OPERATION_COMPLETE (R184, R197): the status of a FENCED die is read after its fence, that of a die whose channel is
being retrained after the outage (R182); an operation of a RETIRED die ends without effect. -/
def Chip.opComplete (c : Chip) (lun : Nat) (fail : Bool) : Chip :=
  match c.dieOf lun with
  | none => c
  | some d => match d.ending with
    | none => c
    | some o =>
      let r := c.reported (mkUnit kLUN lun)
      if r = 3 ∨ c.inOutage lun then c else if c.usable (mkUnit kLUN lun) then c.opEnds lun o fail else c.endOp lun o

def execNandOperationComplete (t lun : Nat) (fail : Bool) (s : State) : Host.Outcome State Fault Refusal :=
  runUnits s t fun c => c.when c.isReady fun c => c.opComplete lun fail

/-- When an operation's next poll is due (R184): the first POLL_START per mille of the median after its start, or after its
resume what the median leaves of it, the others as noted. -/
def Chip.pollDue (c : Chip) (d : Die) (o : Op) : Nat :=
  if o.pollT ≠ 0 then o.pollT
  else (if o.kind = .read then o.issueT else o.resumeT) + (c.get E.POLL_START * d.median o.kind / 1000 - o.doneProg)

/-- A status poll (R184), once it is due and outside an outage: its bus time is charged to the class of the operation, and the
next one is due STATUS_POLL later; no answer is a transient fault by PARENT_SPREAD (R196). A read whose retry has become due
starts (R17). -/
def Chip.poll (c : Chip) (lun : Nat) (ready : Option Bool) : Chip :=
  match c.dieOf lun with
  | none => c
  | some d => match d.ending with
    | none => c.kickDie lun
    | some o =>
      let next := { o with pollT := c.now + max 1 (c.get E.STATUS_POLL * 1000 / psPerCyc) }
      let c1 := ((c.selectVolume lun).setDie { d with ops := d.ops.replace o next }).chargeRes (.chan (chanOf lun)) o.cls (Config.busTokens 0)
      if c.inOutage lun ∨ c.now < c.pollDue d o then c
      else match ready with
      | some _ => c1
      | none => (c1.event (8 * chanOf lun + 2) 0 1 (c1.unitIdent (mkUnit kTGT (lun / 4))) [lun]).chargeFault (mkUnit kLUN lun)

def execStatusPoll (t lun : Nat) (ready : Option Bool) (s : State) : Host.Outcome State Fault Refusal :=
  runUnits s t fun c => c.when c.isReady fun c => c.poll lun ready

/-! ### Timeouts (R185) -/

/-- The operation of a die that has reached its timeout: an erase or program by its execution progress, a read
from its issue. -/
def Chip.timedOut (c : Chip) (d : Die) : Option Op :=
  d.ops.find? fun o => o.confirmed && (if o.kind = .read then decide (o.issueT + c.opTimeout .read ≤ c.now)
    else decide (c.opTimeout o.kind ≤ o.progress c.now))

/-- The read that ran out of retries has failed: its codewords go to their next step (R17, R219). -/
def Chip.readFails (c : Chip) (lun : Nat) (o : Op) : Chip :=
  c.each (c.rd.tasks.filter fun t => decide (t.grp = o.task) && t.word.isNone) fun c t =>
    if t.step = 4 then c.failMembers t ((t.members.filter fun m => c.memberPlace t m = some (lun, o.block)).map MRead.pos) else c.advance t

/-- Reset LUN ends one operation (R17, R185, R190): `late` for the one that timed out. The block of a member replacement is erased, and the
replacement begins again (R185, R253). -/
def Chip.endByReset (c : Chip) (lun : Nat) (o : Op) (late : Bool) : Chip :=
  let ident := c.unitIdent (mkUnit kLUN lun)
  let c0 := c.endOp lun o
  let c1 := if o.suspended then c0.event (8 * chanOf lun + 6) 1 1 ident [o.block] else c0
  match o.kind with
  | .read =>
    let n := if late then o.retries + 1 else o.retries
    if c1.get E.RETRY_LIMIT < n then c1.readFails lun o
    else
      let wait := if late then c1.get E.BACKOFF_BASE * 2 ^ (n - 1) * cycPerUs else 0
      c1.queueOp lun { o with confirmed := false, issueT := 0, retries := n, resumeT := c1.now + wait }
  | .program => match c1.servedBy o with
    | none => if (c1.replOn lun o.block).isSome then
        ((c1.replFail lun o.block).setBlock { c1.blockOf lun o.block with sb := none }).gatherErase lun o.block 0 max20 else c1
    | some s => c1.closeAt s o.member
  | .erase =>
    if o.retries = 0 then
      (c1.queueOp lun { Op.new .erase o.cls o.qlc o.block o.plane with retries := 1 }).event (8 * chanOf lun + 5) 1 1 ident [o.block]
    else c1.eraseFail lun o.block

/-- An operation has not reported RDY by its timeout (R185): Reset LUN, and one transient fault. -/
def Chip.opTimesOut (c : Chip) (lun : Nat) : Chip :=
  match c.dieOf lun with
  | none => c
  | some d => match c.timedOut d with
    | none => c
    | some o =>
      let ident := c.unitIdent (mkUnit kLUN lun)
      let k := 8 * chanOf lun + 3
      let c1 := (((c.count E.OP_TIMEOUTS 1).count E.LUN_RESETS 1).event k 0 1 ident [o.block]).event k 1 1 ident []
      let c2 := c1.chargeFault (mkUnit kLUN lun)
      (c2.each (d.ops.filter Op.confirmed) fun c q => c.endByReset lun q (decide (q = o))).kickDie lun

def execOperationTimeout (t lun : Nat) (s : State) : Host.Outcome State Fault Refusal :=
  runUnits s t fun c => c.when c.isReady fun c => c.opTimesOut lun

/-! ### Suspends (R188 to R190) -/

/-- The status after a Suspend: suspended, or the operation had ended before it took effect, and no suspend
counts. -/
def Chip.suspendSeen (c : Chip) (lun : Nat) (ended : Bool) : Chip :=
  match c.dieOf lun with
  | none => c
  | some d => match d.current with
    | none => c
    | some o => match o.suspendT with
      | none => c
      | some since => if ended then c.opComplete lun false else (c.suspendTakes d o since).kickDie lun

def execSuspendEffect (t lun : Nat) (ended : Bool) (s : State) : Host.Outcome State Fault Refusal :=
  runUnits s t fun c => c.when c.isReady fun c => c.suspendSeen lun ended

/-- The resume progress of an operation is met: the engine suspends it for a waiting read. -/
def execResumeProgressMet (t lun : Nat) (s : State) : Host.Outcome State Fault Refusal :=
  run s t fun c => c.when c.isReady fun c => c.kickDie lun

/-! ### Training (R174, R179 to R182) -/

def Chip.chan (c : Chip) (ch : Nat) : Option Chan := c.md.chans.find? fun k => decide (k.ch = ch)

def Chip.setChan (c : Chip) (k : Chan) : Chip :=
  let l := change (fun q => decide (q.ch = k.ch)) (fun _ => k) c.md.chans
  { c with md := { c.md with chans := l } }

def Chip.setTgt (c : Chip) (x : Tgt) : Chip :=
  let l := change (fun q => decide (q.tgt = x.tgt)) (fun _ => x) c.md.tgts
  { c with md := { c.md with tgts := l } }

/-- Fitted targets of a channel. -/
def Chip.fittedOn (c : Chip) (ch : Nat) : List Tgt := c.md.tgts.filter fun x => x.fitted && decide (x.tgt / 16 = ch)

/-- The interface entries in force on a channel (R199). -/
def Chip.trainSet (c : Chip) (ch : Nat) : TrainSet := ((c.chan ch).map Chan.set).getD (Chan.initial ch).set

/-- The configured rate of a channel (R174); NV-DDR3 serves 800 and 1,200 MT/s (R173). -/
def Chip.configuredRate (c : Chip) (ch : Nat) : Nat :=
  let slow := if (c.fittedOn ch).any fun x => decide (x.iface = 3) then [1200] else []
  ladderDown (minOf (c.trainSet ch).rateMax ((c.fittedOn ch).map Tgt.maxRate ++ slow))

/-- Ladder rates from one down to the floor in force on a channel. -/
def Chip.ladderFrom (c : Chip) (ch rate : Nat) : List Nat := ladder.filter fun r => decide (r ≤ rate ∧ (c.trainSet ch).floor ≤ r)

/-- A trim set within the ranges of R179, as the octets of R200: deskews of DQ0 to DQ7, capture delay, the two duty trims from
−8.0 % to +7.5 %, the reference code from 30.0 % to 70.0 %, VrefQ, and the width of the eye. What training chooses within them is a
free value (log entry 11). -/
def trimSet (n eye : Nat) : Nat :=
  let w := fun i => octet (Config.trims n) i
  let duty := fun i => ofInt 8 ((w i % 32 : Nat) - 16 : Int)
  sumOf ((List.range 16).map fun i => at' (w i % 128) (8 * i)) + at' (w 16) 128 + at' (duty 17) 136 + at' (duty 18) 144 + at' (w 19 % 81) 152
    + at' (w 20) 160 + at' (min 255 (eye / 4)) 168

/-- What a target takes at the end of its training: trims, with its eye and its temperature then, and the termination and drive strength of
NAND_ODT and NAND_DRIVE as its channel's last full attempt took them (R179, R199). -/
def Chip.trimmed (c : Chip) (eye : Nat) (x : Tgt) : Chip :=
  let n := c.free
  let temp := c.tempOf (4 * x.tgt)
  ({ c with free := n + 1 }).setTgt { x with trims := trimSet n eye, trainT := c.now, trainTemp := temp, eye := eye,
                                             odt := (c.trainSet (x.tgt / 16)).odt, drive := (c.trainSet (x.tgt / 16)).drive }

/-- An eye passes: it is TRAIN_EYE_MIN wide and 8 steps high (R179). -/
def Chip.eyeOk (c : Chip) (e : Nat × Nat) : Bool := decide (c.get E.TRAIN_EYE_MIN ≤ e.1 ∧ 8 ≤ e.2)

/-- A target is selected and trained (R175, R179). -/
def Chip.trainTarget (c : Chip) (eye : Nat) (x : Tgt) : Chip := (c.selectVolume (4 * x.tgt)).trimmed eye x

/-- A rate passes with its narrowest eye. -/
def Chip.eyeAt (c : Chip) (eyes : List (Nat × Nat × Nat)) (rate : Nat) : Option Nat :=
  (eyes.find? fun e => decide (e.1 = rate) && c.eyeOk e.2).map fun e => e.2.1

/-- The first rate from the configured one down that passes, with its narrowest eye (R180). -/
def Chip.firstRate (c : Chip) (ch : Nat) (eyes : List (Nat × Nat × Nat)) : Option (Nat × Nat) :=
  (c.ladderFrom ch (c.configuredRate ch)).findSome? fun r => (c.eyeAt eyes r).map fun e => (r, e)

/-- The narrowest eye of the fitted targets of a channel (R200). -/
def Chip.narrowest (c : Chip) (ch : Nat) : Nat := minOf 1000 ((c.fittedOn ch).map Tgt.eye)

/-- The QLC passes in force from a full attempt on: those of QLC_PASSES, or else of the parameter page (R187, R199). -/
def Chip.latchPasses (c : Chip) : Chip :=
  let p := c.get E.QLC_PASSES
  match if p = 0 then c.md.geometry.map TgtInfo.passes else some p with
  | some n => { c with md := { c.md with passes := n } }
  | none => c

/-- Steps 3 and 4 of a full attempt (R175, R180): volume addresses are appointed on the CE pins whose targets advertise them, and
every target is calibrated in the long form. The interface entries come into force (R199). -/
def Chip.calibrateLong (c : Chip) (ch : Nat) : Chip :=
  let vols := fun (x : Tgt) => c.md.answering.any fun i => decide (tgtIndex i = x.tgt) && i.volumes && i.appointed
  let now : TrainSet := { rateMax := c.get E.NAND_RATE_MAX, floor := c.get E.NAND_RATE_FLOOR, odt := c.get E.NAND_ODT, drive := c.get E.NAND_DRIVE,
                          ntemp := c.get E.NTEMP_FEATURE }
  let l := change (fun (x : Tgt) => x.fitted && decide (x.tgt / 16 = ch))
    (fun x => { x with zqT := c.now, volume := if vols x then some (x.tgt % 4) else none }) c.md.tgts
  let ks := change (fun (k : Chan) => decide (k.ch = ch)) (fun k => { k with selected := [0, 0, 0, 0], set := now }) c.md.chans
  ({ c with md := { c.md with tgts := l, chans := ks } }).latchPasses

/-- One training attempt of a channel (R180, R181): the first rate from the configured one down that passes, or
one failed attempt; three in succession are a permanent fault. -/
def Chip.train (c : Chip) (ch : Nat) (eyes : List (Nat × Nat × Nat)) : Chip :=
  match c.chan ch with
  | none => c
  | some k =>
    let u := mkUnit kCHAN ch
    let conf := c.configuredRate ch
    let c0 := c.setAt E.CH_TRAIN_LAST ch c.stamp
    match c.firstRate ch eyes with
    | some (r, eye) =>
      let c1 := ((c0.setChan { k with rate := r, configured := conf, fails := 0, wp := false, eye := eye }).each (c0.fittedOn ch)
        (Chip.trainTarget · eye)).event (8 * ch) 0 1 (c0.unitIdent u) [1, r]
      let c2 := if k.rate = r then c1 else c1.event (8 * ch) 1 1 (c1.unitIdent u) [k.rate, r]
      (if c2.own u = 3 then c2.passProbe u else c2).setDegraded u (decide (r < conf))
    | none =>
      let n := k.fails + 1
      let c1 := (c0.setChan { k with fails := min 3 n, configured := conf }).event (8 * ch) 0 1 (c0.unitIdent u) [0, n]
      if 3 ≤ n then c1.permanentFault u 3 else c1

/-- A training attempt: a full one while a start runs, steps 5 to 10 as the probe of a FENCED channel. -/
def execTrainingAttempt (t ch : Nat) (full : Bool) (rates : List Nat) (eyes : List (Nat × Nat)) (s : State) : Host.Outcome State Fault Refusal :=
  runUnits s t fun c =>
    let probing := c.isReady && decide (c.own (mkUnit kCHAN ch) = 3 ∧ (c.unitRec (mkUnit kCHAN ch)).probe = 1)
    let starting := decide (c.boot.run = .starting) && decide (1 ≤ c.own (mkUnit kCHAN ch) ∧ c.own (mkUnit kCHAN ch) ≤ 2)
    c.when (if full then starting else probing) fun c => (if full then c.calibrateLong ch else c).train ch (rates.zip eyes)

/-- Innings booked for a retraining of a target: the first ones after the last that the ledger holds and after those
booked already (R54, R182). -/
def Chip.bookOutage (c : Chip) (x : Tgt) (n : Nat) : Chip :=
  match c.chan (x.tgt / 16) with
  | none => c
  | some k =>
    let live := k.outages.filter fun i => decide (c.inning ≤ i)
    let last := max (c.inning + 63) (maxOf live)
    let mine := (List.range n).map (last + 1 + ·)
    let jobs := drop' (fun (j : Nat × List Nat) => decide (j.1 = x.tgt)) k.jobs ++ [(x.tgt, mine)]
    c.setChan { k with outages := live ++ mine, jobs := jobs }

/-- The innings booked for a target. -/
def Chan.job (k : Chan) (x : Tgt) : List Nat := ((k.jobs.find? fun j => decide (j.1 = x.tgt)).map Prod.snd).getD []

/-- A temperature older than NTEMP_INTERVAL that was read before a non-operational state is read again before the first check of
R182 (R403). -/
def Chip.tempStale (c : Chip) (x : Tgt) : Bool :=
  (c.dieOf (4 * x.tgt)).any fun d => decide (d.tempT < c.pm.enteredT ∧ d.tempT + c.get E.NTEMP_INTERVAL * cycPerMs < c.now)

/-- A target is due for retraining: its interval has passed, or its temperature has moved (R182). -/
def Chip.retrainDue (c : Chip) (x : Tgt) : Bool :=
  let d := c.tempOf (4 * x.tgt) - x.trainTemp
  !c.tempStale x && (decide (x.trainT + c.get E.RETRAIN_INTERVAL * cycPerHour ≤ c.now) || decide ((c.get E.RETRAIN_DELTA_T : Int) ≤ d.natAbs))

/-- The rates above its own that a DEGRADED channel tries at each interval, from the configured one down (R182). -/
def Chip.higherRates (c : Chip) (k : Chan) (x : Tgt) : List Nat :=
  if c.own (mkUnit kCHAN k.ch) = 2 ∧ x.trainT + c.get E.RETRAIN_INTERVAL * cycPerHour ≤ c.now then
    (c.ladderFrom k.ch k.configured).filter fun r => decide (k.rate < r)
  else []

/-- The first of them that passes (R182). -/
def Chip.betterRate (c : Chip) (k : Chan) (x : Tgt) (higher : List (Nat × Nat × Nat)) : Option Nat :=
  (c.higherRates k x).find? fun r => (c.eyeAt higher r).isSome

/-- The channel's narrowest eye is what its targets have now (R200). -/
def Chip.renewEye (c : Chip) (ch : Nat) : Chip :=
  match c.chan ch with
  | none => c
  | some k => c.setChan { k with eye := c.narrowest ch }

/-- A booked retraining of one target runs (R182), with the eye found at the trained rate, and for each higher rate tried the narrowest of
all targets. A DEGRADED channel takes the first higher rate that passes for every one of its
targets. Innings that it did not need are given back. -/
def Chip.retrain (c : Chip) (k : Chan) (x : Tgt) (eye : Nat × Nat) (higher : List (Nat × Nat × Nat)) : Chip :=
  let ch := k.ch
  let u := mkUnit kCHAN ch
  let tries := c.higherRates k x
  let better := c.betterRate k x higher
  let per := (c.fittedOn ch).length
  let used := 1 + per * (match better with
    | some r => (tries.takeWhile fun q => decide (q ≠ r)).length + 1
    | none => tries.length)
  let left := (k.job x).drop used
  let k1 := { k with outages := k.outages.filter fun i => !left.contains i, jobs := drop' (fun (j : Nat × List Nat) => decide (j.1 = x.tgt)) k.jobs }
  let c1 := (c.setChan k1).setAt E.CH_TRAIN_LAST ch c.stamp
  if c.eyeOk eye then
    let c2 := (((c1.trainTarget eye.1 x).renewEye ch).countAt E.CH_RETRAINS ch 1).event (8 * ch + 1) 2 1 (c1.unitIdent (mkUnit kTGT x.tgt)) [x.tgt]
    match better with
    | some r =>
      let wide := c2.each (c2.fittedOn ch) (Chip.trainTarget · ((c2.eyeAt higher r).getD 0))
      let c3 := ((match wide.chan ch with
        | some q => wide.setChan { q with rate := r }
        | none => wide).renewEye ch).event (8 * ch) 1 1 (c2.unitIdent u) [k.rate, r]
      c3.setDegraded u (decide (r < k.configured))
    | none => c2
  else ((((c1.selectVolume (4 * x.tgt)).event (8 * ch + 1) 1 1 (c1.unitIdent u) [x.tgt])).chargeFault u).bookOutage x used

/-- RETRAIN_DUE (R182): the outage of a target that is due is booked, one inning for it and one for each target of the channel and
each higher rate tried; in its first booked inning, or after it, the retraining runs. -/
def Chip.retrainRow (c : Chip) (x : Tgt) (eye : Nat × Nat) (higher : List (Nat × Nat × Nat)) : Chip :=
  match c.chan (x.tgt / 16) with
  | none => c
  | some k => match k.job x with
    | [] => c.bookOutage x (1 + (c.fittedOn k.ch).length * (c.higherRates k x).length)
    | i :: _ => if i ≤ c.inning then c.retrain k x eye higher else c

def Chip.tgt (c : Chip) (i : Nat) : Option Tgt := c.md.tgts.find? fun x => decide (x.tgt = i)

def execRetrainDue (t ch tgt : Nat) (eye : Nat × Nat) (higher : List (Nat × Nat × Nat)) (s : State) : Host.Outcome State Fault Refusal :=
  runUnits s t fun c => match c.tgt (16 * ch + tgt % 16) with
    | none => c
    | some x => c.when (c.isReady && x.fitted && c.usable (mkUnit kTGT x.tgt) && c.retrainDue x) fun c => c.retrainRow x eye higher

/-- Short-form ZQ calibration of one target, outside a booked outage (R183). -/
def Chip.calibrate (c : Chip) (x : Tgt) (ok : Bool) : Chip :=
  let ch := x.tgt / 16
  let c1 := ((c.selectVolume (4 * x.tgt)).setTgt { x with zqT := c.now }).chargeRes (.chan ch) 1 (Config.busTokens 1)
  if ok then c1 else (c1.event (8 * ch + 1) 0 1 (c1.unitIdent (mkUnit kTGT x.tgt)) [x.tgt]).chargeFault (mkUnit kTGT x.tgt)

def execZqCalibration (t ch tgt : Nat) (ok : Bool) (s : State) : Host.Outcome State Fault Refusal :=
  runUnits s t fun c => match c.tgt (16 * ch + tgt % 16), c.chan ch with
    | some x, some k => c.when (c.isReady && x.fitted && c.usable (mkUnit kTGT x.tgt) && !k.outages.contains c.inning
        && decide (x.zqT + c.get E.ZQ_INTERVAL * cycPerMs ≤ c.now)) fun c => c.calibrate x ok
    | _, _ => c

/-! ### Temperatures (R195) -/

/-- The temperature that Get Features returns: as the parameter page gives it or, where NTEMP_FEATURE names the feature, the first
returned octet less its offset (R195), as the last full training attempt of the channel took it (R199). -/
def Chip.degrees (c : Chip) (ch : Nat) (v : Int) : Int :=
  let f := (c.trainSet ch).ntemp
  if f = 0 then v else v - (bits f 7 0 : Nat)

/-- One interval of a die: its reading, whose bus time is charged to SY, or, where it stayed busy, an interval more without one; a
reading outside −40 °C to 125 °C is discarded (R195, R198). -/
def Chip.takeTemp (c : Chip) (d : Die) (reading : Option Int) : Chip :=
  let k := 8 * chanOf d.lun + 7
  let ident := c.unitIdent (mkUnit kLUN d.lun)
  let c0 := if reading.isSome then (c.selectVolume d.lun).chargeRes (.chan (chanOf d.lun)) 1 (Config.busTokens 2) else c
  let miss := fun (c : Chip) =>
    let c1 := c.setDie { d with tempAge := min 3 (d.tempAge + 1), tempT := c.now }
    if 3 ≤ d.tempAge + 1 then (c1.count E.NTEMP_FALLBACKS 1).event k 0 1 ident [] else c1
  match reading.map (c.degrees (chanOf d.lun)) with
  | some v => if -40 ≤ v ∧ v ≤ 125 then c0.setDie { d with temp := some v, tempAge := 0, tempT := c.now } else miss (c0.event k 1 1 ident [ofInt 20 v])
  | none => miss c0

def execNandTemperatureRead (t lun : Nat) (reading : Option Int) (s : State) : Host.Outcome State Fault Refusal :=
  run s t fun c => c.when c.isReady fun c => match c.dieOf lun with
    | none => c
    | some d => if c.usable (mkUnit kLUN lun) && (decide (d.tempT = 0) || decide (d.tempT + c.get E.NTEMP_INTERVAL * cycPerMs ≤ c.now)) then c.tempEvents (c.takeTemp d reading) else c

/-! ### The erase-intent ring (R192) -/

/-- An intent page of gathered erases has passed in every copy. -/
def execEraseIntentProgrammed (t : Nat) (s : State) : Host.Outcome State Fault Refusal :=
  run s t fun c => c.when (c.isReady && c.ringFree && c.md.intents.any fun i => !i.written) Chip.intentPage

/-- A page without entries carries cleared-through. -/
def Chip.clearPage (c : Chip) : Chip := c.takeClears.ringWrite []

def execEiClearDelay (t : Nat) (s : State) : Host.Outcome State Fault Refusal :=
  run s t fun c => match c.md.clearSince with
    | none => c
    | some since => c.when (c.isReady && c.ringFree && decide (since + c.get E.EI_CLEAR_DELAY * cycPerSec ≤ c.now)) Chip.clearPage

end Sys2Proof.Machine
end

