-- ==== Sys2Proof/Machine/Background.lean ====
section
/-! DEFINITION. Codewords decoded and what the mover works do with superblocks: reallocation, relocation,
folding, collection, release, assembly, row close, patches, retention stress and zone learning (R144 to R154,
R207, R212, R216, R224 to R226, R238, R245). -/
namespace Sys2Proof.Machine

/-! ### Decodes (R207 to R210) -/

/-- A decode can end for a codeword that has not passed and whose die reads have ended. -/
def execDecodeComplete (t task : Nat) (result : Decode) (s : State) : Host.Outcome State Fault Refusal :=
  runUnits s t fun c => match c.taskOf task with
    | none => c
    | some k => c.when (c.isReady && decide (k.step ≤ 4) && k.word.isNone && !c.sensing k.grp) fun c => c.decoded k result

/-! ### Moves under way -/

/-- Copies whose source lies on a die that cannot be read go on by reconstruction (R221). -/
def Chip.steerMoves (c : Chip) : Chip :=
  let stuck := (c.rd.tasks.filter fun t => decide (t.own ≠ 0 ∧ t.step ≤ 3) && t.word.isNone).filterMap fun t =>
    match c.lunOf t.entry with
    | some l => if c.usable (mkUnit kLUN l) then none else some l
    | none => none
  c.each stuck.eraseDups Chip.retest

/-- The valid units of a superblock still to be moved: neither lost nor on their way (R222). -/
def Chip.toMove (c : Chip) (s : Sb) : List Placed := (c.validUnits s).filter fun p => !c.isLost p.unit

/-- The slices of a superblock's units are loaded (R139). -/
def Chip.slicesReady (c : Chip) (s : Sb) : Bool := s.placed.all fun p => c.sliceLoaded p.unit

/-- The data slots of a superblock that hold no valid unit, filler among them, are read with the others, and dropped (R147). -/
def Chip.readDead (c : Chip) (s : Sb) (cls : Nat) : Chip :=
  let live := (c.validUnits s).map Placed.slot
  let dead := (List.range s.rows).flatMap fun row => ((dataPos s.idx row s.p2).filter fun m =>
    !s.isVoid row m && !live.contains (row * 32 + m)).map fun m => mkEntry s.idx row m
  c.each dead fun c e => ({ c with rd := { c.rd with nextTask := c.rd.nextTask + 1 } }).sense e cls c.rd.nextTask (c.firstLevel e) 4

/-- The superblock's state, and as many of its moves as find a place; every data slot of it is read (R147). A superblock with
units of a slice that is not loaded waits for the slice, which it touches (R139). -/
def Chip.workOn (c : Chip) (s : Sb) (st : SbState) (cls stream : Nat) : Chip :=
  if !c.slicesReady s then c.each (s.placed.map Placed.unit) Chip.touchSlice
  else
    let s1 := { s with state := st }
    let c1 := if s.state = st then c else c.readDead s cls
    ((c1.setSb s1).moveUnits s1 cls stream).steerMoves

/-- REALLOCATION (R224): the first unit of the queue that is not on its way. One whose map entry no longer names
the recovered location leaves the queue. -/
def Chip.reallocate (c : Chip) : Chip :=
  let q := c.sb.realloc.filter fun r => decide (c.mapOf r.1 = r.2.1) && !c.isLost r.1
  let c1 := { c with sb := { c.sb with realloc := q } }
  match q.find? fun r => !(c.sb.held.any fun x => decide (x.unit = r.1 ∧ x.src = r.2.1)) with
  | none => c1
  | some r => ((c1.startMove r.1 r.2.1 4 3 r.2.2).getD c1).steerMoves

def execReallocation (t : Nat) (s : State) : Host.Outcome State Fault Refusal :=
  run s t fun c => c.when c.awake Chip.reallocate

/-- The order of relocation (R225, R246): a full patch area first, then the oldest mark, then the largest
stress; ties to the one assembled first (log entry 35). -/
def Sb.moveRank (s : Sb) : Nat × Nat :=
  if s.firstMark then (0, 0) else match s.marked with
    | some t => (1, t)
    | none => (2, 2 ^ 64 - s.stress)

def rankLt (a b : Nat × Nat) : Bool := decide (a.1 < b.1) || (decide (a.1 = b.1) && decide (a.2 < b.2))

/-- The first superblock of a list by a rank, the earlier one on a tie. -/
def firstBy (f : Sb → Nat × Nat) (l : List Sb) : Option Sb :=
  l.foldl (fun (o : Option Sb) s => match o with
    | none => some s
    | some b => if rankLt (f s) (f b) then some s else some b) none

/-- RELOCATION (R225): the superblock being relocated goes on; otherwise the first one marked or due. A closed
SLC superblock goes to the head of the fold queue instead. -/
def Chip.relocate (c : Chip) : Chip :=
  match c.sb.sbs.find? fun s => s.state == .relocating && (c.toMove s).any fun p => !(c.sb.held.any fun x => decide (x.unit = p.unit)) with
  | some s => c.workOn s .relocating 4 3
  | none =>
    let due := c.sb.sbs.filter fun s => s.state == .closed && (s.qlc || (s.kind == .host && c.sb.foldQ.head? != some s.idx))
      && (s.firstMark || s.marked.isSome || decide (10 ^ 9 ≤ s.stress))
    match firstBy Sb.moveRank due with
    | none => c
    | some s => if s.qlc then c.workOn s .relocating 4 3 else c.headOfQueue s

def execRelocation (t : Nat) (s : State) : Host.Outcome State Fault Refusal :=
  run s t fun c => c.when c.awake Chip.relocate

/-- FOLD (R147): the superblock being folded goes on; otherwise the head of the fold queue, under FD, or under RB
when it is exposed (R250). -/
def Chip.fold (c : Chip) : Chip :=
  let cls := fun (s : Sb) => if s.exposed then 3 else 6
  match c.sb.sbs.find? fun s => s.state == .folding && (c.toMove s).any fun p => !(c.sb.held.any fun x => decide (x.unit = p.unit)) with
  | some s => c.workOn s .folding (cls s) 1
  | none => match (c.sb.foldQ.filterMap c.sbOf).find? fun s => s.state == .closed with
    | none => c
    | some s => c.workOn s .folding (cls s) 1

def execFold (t : Nat) (s : State) : Host.Outcome State Fault Refusal :=
  run s t fun c => c.when c.awake Chip.fold

/-! ### Switch and release (R148 to R150) -/

/-- The next page of a replacement is safe: its word line and the next PAIR_DEPTH of them have had every pass (R148, R187, R252). -/
def Chip.replSafe (c : Chip) (s : Sb) (r : Repl) : Bool :=
  if !s.qlc then decide (r.row < r.fin)
  else decide (r.row < r.fin) && (List.range s.pages).all fun q =>
    decide (c.wordLine r.row + c.get E.PAIR_DEPTH < c.wordLine q) || decide (q < r.fin)

/-- A destination page has become safe (R149); a page of a replacement block in its order is safe for Recast
(R252). Placements wait while the journal takes no record (R137, R138), and for the slice of their unit (R139). -/
def Chip.destSafe (c : Chip) (sb slot : Nat) : Chip :=
  match c.sbOf sb with
  | none => c
  | some s =>
    let next := change (fun (r : Repl) => decide (r.sb = sb ∧ r.pos = slotMember slot ∧ r.row = slotPage slot) && c.replSafe s r)
      (fun r => { r with row := r.row + 1 }) c.sb.repls
    let c1 := { c with sb := { c.sb with repls := next } }
    let e := sb * 2 ^ 20 + slot
    let here := c1.sb.held.filter fun x => decide (x.dst = e)
    let unloaded := here.filter fun x => !c1.sliceLoaded x.unit
    let waits := !unloaded.isEmpty || here.any fun x => c1.placeHeld x.unit
    if c1.pageSafe s (slotPage slot) && !waits then c1.switchAt e else c1.each (unloaded.map Held.unit) Chip.touchSlice

def execDestinationPageSafe (t sb slot : Nat) (s : State) : Host.Outcome State Fault Refusal :=
  run s t fun c => c.when c.isReady fun c => c.destSafe sb slot

/-- LUNs whose rebuild is complete: no superblock names them; each has its own duration (R253, R260). -/
def Chip.rebuildEnds (c : Chip) : Chip :=
  let named := fun (l : Nat) => c.sb.sbs.any fun s => s.state != .awaitErase && s.members.any fun m => decide (m.lun = l)
  let done := c.sb.rebuilding.filter fun p => !named p.1
  if done = [] then c
  else
    let left := c.sb.rebuilding.filter fun p => named p.1
    let counts := if left = [] then [] else c.sb.replCounts
    ({ c with sb := { c.sb with rebuilding := left, replCounts := counts } }).each done fun c p =>
      let secs := min max40 ((c.now - p.2) / cycPerSec)
      (c.set E.RB_LAST_TIME secs).event 0x181 1 2 (c.unitIdent (mkUnit kLUN p.1)) [secs]

/-- A source superblock all of whose units have been switched or are dead, and that no read pins (R150). -/
def Chip.releasable (c : Chip) (s : Sb) : Bool :=
  (s.state == .folding || s.state == .collecting || s.state == .relocating) && (c.toMove s).isEmpty
    && c.slicesReady s && !(c.sb.held.any fun x => decide (entrySb x.src = s.idx)) && !(c.rd.pins.any fun p => decide (p.2 = s.idx))

def Chip.sourceRelease (c : Chip) (sb : Nat) : Chip :=
  match c.sbOf sb with
  | none => c
  | some s =>
    if !c.releasable s then c
    else
      let c1 := if s.state = .relocating then c.count E.REFRESHED 1 else c
      (c1.releaseSb sb).rebuildEnds

def execSourceRelease (t sb : Nat) (s : State) : Host.Outcome State Fault Refusal :=
  runUnits s t fun c => c.when c.isReady fun c => c.sourceRelease sb

/-! ### Garbage collection and wear (R151 to R153) -/

/-- Erases of the most-erased good block of a die, and the least-erased good block that a closed superblock holds,
with that superblock. -/
def Chip.wearOf (c : Chip) (d : Die) : Nat × Option (Nat × Nat) :=
  let good := d.blocks.filter fun b => !b.scrapped
  let most := maxOf (good.map Block.erases)
  let held := good.filterMap fun b => match b.sb.bind c.sbOf with
    | some s => if s.state = .closed ∧ !s.exposed ∧ (s.qlc ∨ s.kind = .host) then some (b.erases, s.idx) else none
    | none => none
  let least := minOf (2 ^ 60) (held.map Prod.fst)
  (most, held.find? fun p => decide (p.1 = least))

/-- The superblock with a much less worn block becomes the next victim (R153): at the head of the fold queue when it
is an SLC one. It is reported first in each minute (R165). Of several dies beyond WL_GAP the one with the lowest LUN index is looked at first
(DESIGN CHOICE, log entry 69). -/
def Chip.wearLevel (c : Chip) : Chip :=
  let hit := c.md.dies.findSome? fun d => match c.wearOf d with
    | (most, some p) => if p.1 + c.get E.WL_GAP < most ∧ !c.sb.victims.contains p.2 ∧ c.sb.foldQ.head? ≠ some p.2 then some p.2 else none
    | (_, none) => none
  match hit.bind c.sbOf with
  | none => c
  | some s =>
    let c1 := (c.count E.WL_MOVES 1).headOfQueue s
    let seen := c1.ev.ring.any fun r => decide (r.src = 0x30A ∧ r.time / cycPerMin = c1.stamp / cycPerMin)
    if seen then c1 else c1.event 0x30A 0 1 noUnit [s.idx]

/-- The score of a closed QLC superblock (R152); none when it is too full. -/
def Chip.gcScore (c : Chip) (s : Sb) : Option Nat :=
  let u := if s.dataSlots = 0 then 0 else (c.validUnits s).length * 1000 / s.dataSlots
  if c.get E.GC_MAX_UTIL ≤ u then none
  else if c.freeRatio < c.get E.GC_URGENT then some (1000 - u)
  else
    let age := min (c.now / cycPerSec - s.closeT / cycPerSec) (c.get E.GC_AGE_CAP)
    some ((1000 - u) * (age + c.get E.GC_AGE_BIAS) / (2 * u + 1))

/-- choose_gc_victim (R152); there is none until every slice is loaded (R139). -/
def Chip.gcVictim (c : Chip) : Option Sb :=
  if !c.allLoaded then none else
  let l := (c.sb.sbs.filter fun s => s.qlc && s.state == .closed && !s.exposed).filterMap fun s => (c.gcScore s).map fun v => (v, s)
  let best := l.foldl (fun (o : Option (Nat × Sb)) p => match o with
    | none => if 0 < p.1 then some p else none
    | some b => if b.1 < p.1 ∨ (p.1 = b.1 ∧ p.2.idx < b.2.idx) then some p else some b) none
  best.map Prod.snd

/-- Victims at a time (R151); the next victim that R153 or R154 has named is taken whatever the ratio (DEDUCED, log
entry 35). -/
def Chip.gcDemand (c : Chip) : Nat :=
  let by' := if c.freeRatio < c.get E.GC_URGENT then 4 else if c.freeRatio ≤ c.get E.GC_START then 1 else 0
  if c.sb.victims = [] then by' else max 1 by'

/-- GC_VICTIM_CHOICE: victims being collected go on; while the demand allows, the next one is taken, once every slice is loaded (R139). A
victim counts in GC_VICTIMS when it is taken (DESIGN CHOICE, log entry 63). -/
def Chip.collect (c0 : Chip) : Chip :=
  let c := c0.wearLevel
  let busy := c.sb.sbs.filter fun s => s.state == .collecting
  let c1 := c.each busy fun c s => c.workOn s .collecting (if s.inWork then 3 else 5) (if s.inWork then 4 else 2)
  if c1.gcDemand ≤ (busy.filter fun s => !s.inWork).length then c1
  else
    let named := (c1.sb.victims.filterMap c1.sbOf).find? fun s => s.state == .closed && s.qlc && !s.exposed
    match (match named with
      | some s => some s
      | none => if c1.freeRatio ≤ c1.get E.GC_START then c1.gcVictim else none) with
    | none => c1
    | some s =>
      if !c1.allLoaded then c1.each (s.placed.map Placed.unit) Chip.touchSlice
      else ((c1.setVictims (c1.sb.victims.erase s.idx)).count E.GC_VICTIMS 1).workOn s .collecting 5 2

def execGcVictimChoice (t : Nat) (s : State) : Host.Outcome State Fault Refusal :=
  run s t fun c => c.when c.awake Chip.collect

/-! ### Assembly (R146, R236 to R238, R267) -/

/-- What a stream's superblocks are for: 0 host SLC, 1 fold, 2 collection, 3 refresh, 4 Recast, 5 system, 6 flush
reserve. -/
def streamKind (stream : Nat) : SbKind :=
  if stream = 0 then .host else if stream ≤ 4 then .dest else if stream = 5 then .system else .reserve

/-- A superblock of a stream may be assembled now: the SLC share holds for host and system superblocks and for the flush
reserve, which is not larger than R267 gives. -/
def Chip.mayAssemble (c : Chip) (stream : Nat) : Bool :=
  let k := streamKind stream
  if k = .host then decide (0 < c.hostSlcFree)
  else if k = .dest then true
  else if k = .system then decide (c.slcUsed < c.slcShare)
  else decide (c.slcUsed < c.slcShare ∧ (c.sb.sbs.filter fun s => s.kind == .reserve).length < c.flushReserve)

/-- Host writes, the Planisher, garbage collection, refresh and Recast each keep one open superblock of a layout: theirs is open, or being
assembled (R236). -/
def Chip.streamOpen (c : Chip) (stream layout : Nat) : Bool :=
  decide (stream ≤ 4) && c.sb.sbs.any fun s => s.takes stream (decide (layout = 1)) && (s.state == .open || s.state == .assembling)

/-- The rows of one pass of the layout table, from the next one on. -/
def Chip.rowsAhead (c : Chip) : List Nat :=
  let n := c.layoutRows
  (List.range n).map fun i => (c.sb.layoutRow + i) % n

/-- Every die of a row has a free block. -/
def Chip.rowFree (c : Chip) (r : Nat) : Bool := (c.layoutRow r).all fun l => ((c.dieOf l).bind Die.freeBlock).isSome

/-- A superblock index that no superblock has, the lowest (DESIGN CHOICE, log entry 36). -/
def Chip.freeIndex (c : Chip) : Nat :=
  ((List.range (c.sb.sbs.length + 1)).find? fun i => !(c.sb.sbs.any fun s => decide (s.idx = i))).getD 0

/-- The superblock over the dies of a row: blocks by R153; those not erased in its mode are erased first. -/
def Chip.assembleOn (c : Chip) (stream layout : Nat) (luns : List Nat) : Chip :=
  let k := streamKind stream
  let qlc := decide (k = .dest)
  let idx := c.freeIndex
  let ms := luns.map fun l => ({ lun := l, block := ((c.dieOf l).bind Die.freeBlock).getD 0, hintZone := 0, hintSlot := 0,
                                 hinted := false, reads := 0 } : Member)
  let p2 := decide (layout = 1 ∧ stream ≤ 4)
  let pages := if qlc then c.md.pagesPerBlock else c.slcPages
  let s : Sb := { idx := idx, qlc := qlc, p2 := p2, kind := k, state := .assembling, members := ms, pages := pages, rows := 0, placed := [],
                  closeT := 0, patches := [], stress := 0, dueT := none, marked := none, firstMark := false, patrolT := 0, patrolRow := 0,
                  overdue := false, exposed := false, inWork := false, stream := stream, pend := [], used := 0, seq0 := none, record := [], spoilt := [] }
  let all := c.sb.sbs ++ [s]
  let c1 := { c with sb := { c.sb with sbs := all } }
  let mode := if qlc then 2 else 1
  let c2 := c1.each ms fun c m =>
    let b := c.blockOf m.lun m.block
    let c' := c.setBlock { b with sb := some idx }
    if b.mode = mode then c' else c'.gatherErase m.lun m.block 0 idx
  (c2.openAssembled idx).wearLevel

/-- SUPERBLOCK_ASSEMBLY (R238): the next row of the table in which every die has a free block; the rows passed over
are counted. Without one, assembly waits. -/
def Chip.assemble (c : Chip) (stream layout : Nat) : Chip :=
  let rows := c.rowsAhead
  match rows.find? c.rowFree with
  | none => c
  | some r =>
    let skipped := (rows.takeWhile fun q => decide (q ≠ r)).length
    let next := (r + 1) % max 1 c.layoutRows
    (({ c with sb := { c.sb with layoutRow := next } }).count E.LAYOUT_SKIPS skipped).assembleOn stream layout (c.layoutRow r)

def execSuperblockAssembly (t stream layout : Nat) (s : State) : Host.Outcome State Fault Refusal :=
  run s t fun c => c.when (c.isReady && decide (stream ≤ 6) && c.mayAssemble stream && !c.streamOpen stream layout) fun c => (c.assemble stream layout).retryMoves.pour

/-! ### Rows and patches (R144, R245) -/

/-- A fault of the accumulator of a row: it is reported and charged to the parity engine, and the row stays open until it closes without one
(R240, R260; that the row waits, and the place of the event among those of its source, are DESIGN CHOICES, log entry 74). -/
def Chip.accFault (c : Chip) (id : Nat) : Chip :=
  match c.rowOf id with
  | none => c
  | some r => (c.event (0x140 + r.quad) 1 1 (c.unitIdent (mkUnit kQUAD r.quad)) []).chargeFault (mkUnit kQUAD r.quad)

def execStripeRowClose (t : Nat) (x : RowClose) (s : State) : Host.Outcome State Fault Refusal :=
  if x.fault then runUnits s t fun c => c.when c.isReady fun c => c.accFault x.row
  else run s t fun c => c.when c.isReady fun c => c.closeRow x.row

/-- An open host row that has held data for CRU_CLOSE_TIME is closed with filler. -/
def execCruCloseTime (t row : Nat) (s : State) : Host.Outcome State Fault Refusal :=
  run s t fun c => match c.rowOf row with
    | none => c
    | some r => c.when (c.isReady && !r.closing && (r.entries.any fun e => decide (e.2 ≠ 0))
        && decide (r.since + c.get E.CRU_CLOSE_TIME * cycPerMs ≤ c.now)) fun c => c.padRow row

/-- A patch entry in force: it carries the void members and relocated parity of earlier entries of its row. -/
def Patch.over (e : Patch) (old : Option Patch) : Patch :=
  match old with
  | none => e
  | some o => { e with voids := (o.voids ++ e.voids).eraseDups, pReloc := if e.pReloc.isSome then e.pReloc else o.pReloc,
                       qReloc := if e.qReloc.isSome then e.qReloc else o.qReloc }

def Chip.patchTakes (c : Chip) (sb row : Nat) : Chip :=
  match c.sbOf sb with
  | none => c
  | some s => match s.pend.find? fun p => decide (p.row = row) with
    | none => c
    | some e =>
      let all := s.patches ++ [e.over (s.patchOf row)]
      (c.setSb { s with pend := s.pend.erase e, patches := all, record := all.map Patch.octets }).countSystem 1

def execPatchEntryEffect (t sb row : Nat) (s : State) : Host.Outcome State Fault Refusal :=
  run s t fun c => c.when c.isReady fun c => c.patchTakes sb row

/-! ### Retention stress and zone learning (R212, R216) -/

/-- A superblock that has closed and has not been released. -/
def Sb.isClosed (s : Sb) : Bool := s.state == .closed || s.state == .folding || s.state == .collecting || s.state == .relocating

/-- The band of the hottest current reading among a superblock's member LUNs. -/
def Chip.bandOfSb (c : Chip) (s : Sb) : Nat :=
  match hottest (s.members.map fun m => c.tempOf m.lun) with
  | some t => c.bandOf t
  | none => 0

/-- One minute of retention stress; a superblock is due once its stress reaches 10^9. -/
def Chip.ageSb (c : Chip) (s : Sb) : Sb :=
  if s.isClosed then
    let v := s.stress + cdiv (60 * 10 ^ 9) (c.refreshSec (c.bandOfSb s))
    { s with stress := v, dueT := if s.dueT.isNone && decide (10 ^ 9 ≤ v) then some c.now else s.dueT }
  else s

def execRetentionStressTick (t : Nat) (s : State) : Host.Outcome State Fault Refusal :=
  run s t fun c => c.when c.isReady fun c =>
    let l := c.sb.sbs.map c.ageSb
    { c with sb := { c.sb with sbs := l } }

/-- A zone's order sorted by the counts of its slots, highest first, ties in their previous order; the counts are
halved. -/
def Chip.learnZone (c : Chip) (z : ZoneCount) : Chip :=
  let old := (List.range 8).map fun i => octet (c.getAt E.ZT_ORDER z.key) i
  let new := old.mergeSort fun a b => decide (nth z.counts b ≤ nth z.counts a)
  c.setAt E.ZT_ORDER z.key (ofOctets new)

def Chip.learnPeriod (c : Chip) : Chip :=
  let c1 := c.each c.rd.counts Chip.learnZone
  let halves := c1.rd.counts.map fun z => { z with counts := z.counts.map (· / 2) }
  let c2 := { c1 with rd := { c1.rd with counts := halves, learnT := c1.now } }
  let changed := c.rd.counts.any fun z => decide (c.getAt E.ZT_ORDER z.key ≠ c2.getAt E.ZT_ORDER z.key)
  if changed then ((c2.set E.ZT_GEN ((c2.get E.ZT_GEN + 1) % 2 ^ 20)).saveZones).event 0x131 1 1 noUnit [] else c2

def execZoneLearningPeriod (t : Nat) (s : State) : Host.Outcome State Fault Refusal :=
  run s t fun c => c.when (c.isReady && decide (c.get E.ZT_LEARN = 1 ∧ c.rd.learnT + c.get E.ZT_LEARN_PERIOD * cycPerMin ≤ c.now)) Chip.learnPeriod

end Sys2Proof.Machine
end

