-- ==== Sys2Proof/Machine/Patrol.lean ====
section
/-! DEFINITION. The Assayer, Recast, and the fences of units (R18, R20, R234, R247 to R256). -/
namespace Sys2Proof.Machine

/-! ### Patrol (R247 to R249) -/

/-- The superblock that has gone longest since its last patrol or close, the one assembled first on a tie. -/
def Chip.patrolTarget (c : Chip) : Option Sb := firstBy (fun s => (s.patrolT, 0)) (c.sb.sbs.filter c.patrolled)

/-- The members of a row that are not void. -/
def liveMembers (s : Sb) (row : Nat) : List Nat := (List.range 32).filter fun m => !s.isVoid row m

/-- The first hard reads of a row's members under PT (R248): each has taken its die and its channel (R51). -/
def Chip.chargeRow (c : Chip) (s : Sb) (row : Nat) : Chip :=
  c.each (liveMembers s row) fun c m => match c.lunOf (s.pageAt row m) with
    | none => c
    | some l => ((c.chargeRes (.die l) 7 (c.senseTokens l (c.tSense s.qlc))).chargeRes (.chan (chanOf l)) 7 (4 * cdiv (c.cwPs (chanOf l)) 125000)).countReads
        (s.pageAt row m) 4

/-- PATROL_ROW: the next row that the Assayer checks, with what the first hard read of each member gave, codeword by codeword; what does not
pass climbs the ladder under class 3 rules, and the row is checked with the last codeword (R221, R248). -/
def Chip.patrol (c : Chip) (sb row : Nat) (members : List (Option (List CwDecode))) : Chip :=
  match c.patrolTarget with
  | none => c
  | some s =>
    match c.patrolRows s s.patrolRow with
    | [] => if s.idx = sb then c.setSb { s with patrolT := c.now, patrolRow := 0, overdue := false } else c
    | r :: _ =>
      if s.idx = sb ∧ r = row ∧ c.sb.patrolAt = none ∧ (liveMembers s row).all fun m => (members.getD m none).isSome then
        let c1 := ({ c with sb := { c.sb with patrolAt := some (sb, row) } }).chargeRow s row
        let c2 := c1.each (liveMembers s row) fun c m => c.readMember patrolH 7 ownPatrol s row m true
        c2.each (c2.rd.tasks.filter fun t => decide (t.h = patrolH)) fun c t => match c.taskOf t.id, (members.getD t.pos none).bind fun l => l[t.cw]? with
          | some t, some d => c.decoded t { own := d, members := [] }
          | _, _ => c
      else c

def execPatrolRow (t sb row : Nat) (members : List (Option (List CwDecode))) (s : State) : Host.Outcome State Fault Refusal :=
  runUnits s t fun c => c.when (c.awake && decide (c.get E.PATROL_ENABLE = 1)) fun c => c.patrol sb row members

/-- PATROL_OVERDUE (R247): closed superblocks past PATROL_PERIOD count; the event marks the count leaving 0. -/
def Chip.patrolLate (c : Chip) : Chip :=
  let late := fun (s : Sb) => s.isClosed && decide (s.patrolT + c.get E.PATROL_PERIOD * cycPerDay ≤ c.now)
  let l := c.sb.sbs.map fun s => if late s then { s with overdue := true } else s
  let c1 := { c with sb := { c.sb with sbs := l } }
  let n := (l.filter Sb.overdue).length
  if !(c.sb.sbs.any Sb.overdue) ∧ n ≠ 0 then c1.event 0x18B 0 3 noUnit [n] else c1

def execPatrolOverdue (t : Nat) (s : State) : Host.Outcome State Fault Refusal :=
  run s t fun c => c.when c.isReady Chip.patrolLate

/-! ### Recast (R250 to R256) -/

/-- The order of exposed superblocks (R251). -/
def Chip.exposedRank (c : Chip) (s : Sb) : Nat × Nat :=
  let m := (c.missing s).length
  let t := tolerance s.p2
  (if t < m then 0 else if m = t then 1 else 2, (2 ^ 32 - (c.currentUnits s).length) * 2 ^ 32 + s.idx)

/-- next_exposed: those that a mover carries on or that are in work are passed over. -/
def Chip.nextExposed (c : Chip) : Option Sb :=
  firstBy c.exposedRank (c.sb.sbs.filter fun s => s.exposed && !s.inWork && (s.state == .open || s.state == .closed))

/-- Replacement dies of a superblock in the order of R252: fewest replacements in this rebuild, fewest erases on the
block, lowest LUN index. -/
def Chip.replacementFor (c : Chip) (s : Sb) (taken : List Nat) : Option (Nat × Nat) :=
  let free := c.md.dies.filterMap fun d =>
    if c.sb.eligible.contains d.lun ∧ !taken.contains d.lun ∧ !(s.members.any fun m => decide (m.lun = d.lun)) then
      d.freeBlock.map fun b => (d.lun, b, c.sb.replCounts.get 0 d.lun, (c.blockOf d.lun b).erases)
    else none
  let better := fun (a b : Nat × Nat × Nat × Nat) => rankLt (a.2.2.1, a.2.2.2 * 4096 + a.1) (b.2.2.1, b.2.2.2 * 4096 + b.1)
  (free.foldl (fun (o : Option (Nat × Nat × Nat × Nat)) a => match o with
    | none => some a
    | some b => if better a b then some a else some b) none).map fun a => (a.1, a.2.1)

/-- Step 1 of a member replacement for each missing member that a die qualifies for; its block is erased first where it
is not erased in the mode. A replacement that has waited goes on with its next row (R252, R253). -/
def Chip.replaceMembers (c : Chip) (s : Sb) : Chip :=
  let c1 := c.setSb { s with inWork := true }
  c1.each (c1.missing s) fun c i =>
    let taken := (c.sb.repls.filter fun r => decide (r.sb = s.idx)).map Repl.lun
    match c.sb.repls.find? fun r => decide (r.sb = s.idx ∧ r.pos = i) with
    | some r => c.replRow r
    | none => match c.replacementFor s taken with
      | none => c
      | some (lun, b) =>
        let rs := c.sb.repls ++ [({ sb := s.idx, pos := i, lun := lun, block := b, row := 0, prog := 0, fin := 0, words := [], bad := [], filler := false } : Repl)]
        let counts := c.sb.replCounts.put 0 lun (c.sb.replCounts.get 0 lun + 1)
        let blk := c.blockOf lun b
        let c2 := ({ c with sb := { c.sb with repls := rs, replCounts := counts } }).setBlock { blk with sb := some s.idx }
        if blk.mode = (if s.qlc then 2 else 1) then c2.each (c2.sb.repls.filter fun r => decide (r.sb = s.idx ∧ r.pos = i)) Chip.replRow
        else c2.gatherErase lun b 0 s.idx

/-- A superblock taken by Recast (R250). A system superblock holds pages and no units, and is never released for want of them. -/
def Chip.recastOn (c : Chip) (s : Sb) : Chip :=
  let units := c.validUnits s
  if s.kind ≠ .system ∧ c.currentUnits s = [] ∧ !(c.sb.rows.any fun r => decide (r.sb = s.idx)) ∧ !(c.rd.pins.any fun p => decide (p.2 = s.idx)) then
    (c.releaseSb s.idx).rebuildEnds
  else if s.state = .open then
    let rows := (c.sb.rows.filter fun r => decide (r.sb = s.idx) && !r.closing).map Row.id
    (c.each rows fun c id => c.voidRow id (c.missing s)).stopRows s.idx
  else if s.kind = .host then (c.setSb { s with inWork := true }).headOfQueue s
  else if tolerance s.p2 < (c.missing s).length ∨ (s.qlc ∧ units.length * 1000 < c.get E.RB_COLLECT_UTIL * s.dataSlots) then
    let s1 := { s with inWork := true }
    (c.setSb s1).workOn s1 .collecting 3 4
  else c.replaceMembers s

/-- RECAST: superblocks in work whose replacements wait for a die try again; while RB_PARALLEL allows, the next exposed
one is taken. -/
def Chip.recast (c : Chip) : Chip :=
  let busy := c.sb.sbs.filter fun s => s.exposed && s.inWork && s.state == .closed && s.kind != .host
  let c1 := c.each busy Chip.replaceMembers
  if c1.get E.RB_PARALLEL ≤ (c1.sb.sbs.filter Sb.inWork).length then c1
  else match c1.nextExposed with
    | none => c1
    | some s => c1.recastOn s

def execRecast (t : Nat) (s : State) : Host.Outcome State Fault Refusal :=
  runUnits s t fun c => c.when c.awake Chip.recast

/-- Steps 3 to 5 of R252: filler takes the rest of the block, a page with a filler codeword marks the superblock (R255), the record names the replacement, and m falls. -/
def Chip.replaced (c : Chip) (s : Sb) (r : Repl) : Chip :=
  let ms := match s.members[r.pos]? with
    | some m => s.members.set r.pos { m with lun := r.lun, block := r.block, hinted := false, reads := 0 }
    | none => s.members
  let rs := c.sb.repls.erase r
  let c1 := ({ c with sb := { c.sb with repls := rs } }).setSb { s with members := ms }
  let c2 := (((c1.setBlock { c1.blockOf r.lun r.block with mode := 0 }).count E.RB_REPLACED 1).event 0x182 0 2 noUnit [s.idx, r.pos]).countSystem 1
  let rest := s.pages - r.prog
  let c3 := (((c2.count E.NAND_PAGES_PROGRAMMED rest).countOct64 E.PROGRAM_SOURCES 3 rest).chargeRes (.die r.lun) 3
    (rest * cdiv c.tProg 500000)).chargeRes (.chan (chanOf r.lun)) 3 (rest * (4 * cdiv (c.cwPs (chanOf r.lun)) 125000))
  let c4 := if r.filler then c3.markSb s.idx 5 else c3
  match c4.sbOf s.idx with
  | none => c4
  | some s1 =>
    let left := decide (c4.missing s1 ≠ [])
    (c4.setSb { s1 with exposed := left, inWork := left && s1.inWork }).rebuildEnds

/-- MEMBER_REPLACEMENT_COMPLETE: every row of the replacement has been programmed in every pass; the filler behind them makes the last of
them safe (R148, R252). -/
def execMemberReplacementComplete (t sb member : Nat) (s : State) : Host.Outcome State Fault Refusal :=
  run s t fun c => match c.sbOf sb, c.sb.repls.find? fun r => decide (r.sb = sb ∧ r.pos = member) with
    | some q, some r => c.when (c.awake && c.usable (mkUnit kLUN r.lun) && decide (q.rows ≤ r.fin ∧ (0 < q.rows ∨ (c.blockOf r.lun r.block).mode = (if q.qlc then 2 else 1)))
        && !c.replBusy r) fun c => c.replaced q r
    | _, _ => c

/-! ### Fences (R18, R20) -/

/-- The end of FENCE_TIME: a probe that has passed returns the unit, one still running retires it. While an ancestor is
FENCED the probe is postponed instead, and with an ancestor RETIRED it is dropped (R18, R20). -/
def Chip.fenceEnds (c : Chip) (u : Nat) : Chip :=
  let r := c.unitRec u
  if r.own ≠ 3 ∨ c.now < r.fenceEnd ∨ r.probe = 0 then c
  else if c.ancestorOut u then (c.setUnit { r with probe := 2 }).freeProbes
  else if r.probe = 2 then c.freeProbes
  else (c.endProbe u (decide (r.probe = 3))).freeProbes

def execFenceTimeExpiry (t unit : Nat) (s : State) : Host.Outcome State Fault Refusal :=
  runUnits s t fun c => c.when c.isReady fun c => c.fenceEnds unit

/-- A failed probe of an LDPC or a parity engine is a failed known answer, which is reported (R227, R260). -/
def Chip.knownAnswer (c : Chip) (u : Nat) (pass : Bool) : Chip :=
  if unitKind u = kLDPC ∧ !pass then c.event (0x100 + unitIdx u) 2 1 (c.unitIdent u) []
  else if unitKind u = kQUAD ∧ !pass then c.event (0x140 + unitIdx u) 0 1 (c.unitIdent u) [] else c

/-- A probe ends: a failure retires the unit at once, a pass holds until the end of FENCE_TIME (R18). A failure while an
ancestor is out is not charged to the unit (R19). -/
def Chip.probeEnds (c : Chip) (u : Nat) (pass : Bool) : Chip :=
  let r := c.unitRec u
  if r.own = 3 ∧ r.probe = 1 ∧ !(c.ancestorOut u && !pass) then (if pass then c.passProbe u else (c.knownAnswer u pass).endProbe u false).freeProbes else c

def execProbeComplete (t unit : Nat) (pass : Bool) (s : State) : Host.Outcome State Fault Refusal :=
  runUnits s t fun c => c.when c.isReady fun c => c.probeEnds unit pass

end Sys2Proof.Machine
end

