-- ==== Sys2Proof/Machine/EventRows.lean ====
section
/-! DEFINITION. The end of a second, the pages of the excerpt and the end of a coalescing delay (R61, R79,
R464, R465, R467). -/
namespace Sys2Proof.Machine

/-- Accounts of seconds that have ended. -/
def Chip.ended (c : Chip) (l : List SecCount) : List SecCount := l.filter fun a => decide (secOf a.firstT < secOf c.now)

def Chip.running (c : Chip) (l : List SecCount) : List SecCount := l.filter fun a => decide (secOf c.now ≤ secOf a.firstT)

/-- The end of a second (R464): one record for each cause of refusal that occurred, with the time of the first, and
one suppression record for each source held back; the seconds powered on, in service or not, are counted (R467). -/
def Chip.secondEnds (c : Chip) : Chip :=
  let refusals := c.ended c.ev.refusals
  let held := c.ended c.ev.suppressed
  let ev := { c.ev with written := c.running c.ev.written, suppressed := c.running c.ev.suppressed, firsts := c.running c.ev.firsts,
                        refusals := c.running c.ev.refusals, sec := secOf c.now }
  let c1 := ({ c with ev := ev }).count E.POWER_ON_TIME (secOf c.now - c.ev.sec)
  let c2 := c1.each refusals fun c a => c.eventAt (a.firstT % 2 ^ 60) a.src 0 1 noUnit [a.cause, a.count]
  c2.each held fun c a =>
    if 1 < c.get E.EVT_MIN_SEVERITY then c.count E.EVT_FILTERED 1 else c.record (a.firstT % 2 ^ 60) a.src 0xFF 1 noUnit [a.count]

def execEventSecondEnd (t : Nat) (s : State) : Host.Outcome State Fault Refusal :=
  run s t fun c => c.when (decide (c.boot.run ≠ .dark) && !c.boot.run.railsOff && decide (c.ev.sec < secOf c.now)) Chip.secondEnds

/-- An excerpt page is programmed when it is full, or EXCERPT_DELAY after its first record; of nine pages the oldest
is dropped (R465). -/
def Chip.excerptPage (c : Chip) : Chip :=
  let p := c.ev.page.take 512
  if p.length < 512 ∧ (p = [] ∨ c.now < c.ev.pageT + c.get E.EXCERPT_DELAY * cycPerSec) then c
  else
    let pages := c.ev.pages ++ [p]
    let kept := pages.drop (pages.length - 8)
    let rest := c.ev.page.drop 512
    ({ c with ev := { c.ev with pages := kept, page := rest, pageT := c.now } }).countSystem c.ringCopies.length

def execExcerptPageProgram (t : Nat) (s : State) : Host.Outcome State Fault Refusal :=
  run s t fun c => c.when c.isReady Chip.excerptPage

/-- The end of the coalescing delay of a vector, in steps of 100 µs (R79). -/
def Chip.coalesced (c : Chip) (port fn vector : Nat) : Chip :=
  let f := c.fnOf port fn
  match f.coal.find? fun k => decide (k.vector = vector) with
  | none => c
  | some k =>
    if k.since + f.coalTime * 100 * cycPerUs ≤ c.now then
      (c.setFn { f with coal := drop' (fun (q : Coal) => decide (q.vector = vector)) f.coal }).message port fn vector
    else c

def execInterruptCoalescingTime (t port fn vector : Nat) (s : State) : Host.Outcome State Fault Refusal :=
  run s t fun c => c.when c.isReady fun c => c.coalesced port fn vector

end Sys2Proof.Machine
end

