-- ==== Sys2Proof/Machine/Admin.lean ====
section
/-! DEFINITION. Abort, features, Asynchronous Event Requests, namespaces, Format NVM, Sanitize, Device
Self-test and Doorbell Buffer Config (R69, R74, R75, R79, R80, R90, R92, R94, R95, R104, R133, R161 to R164,
R236, R347, R398, R400, R426). -/
namespace Sys2Proof.Machine

/-! ### Abort (R90) -/

def execAbort (t h : Nat) (s : State) : Host.Outcome State Fault Refusal :=
  run s t fun c => c.adminCmd h 0x08 fun c x => (c.count E.ABORT_CMDS 1).finish x.h stOk 1 0

/-! ### Set Features (R80) -/

/-- A Set Features of one feature. -/
def Chip.setFeature (c : Chip) (h fid : Nat) (f : Chip → Cmd → Fn → Chip) : Chip :=
  c.adminCmd h 0x09 fun c x => if x.dw 10 % 256 = fid then f c x (c.fnOf x.port x.fn) else c

/-- Arbitration (R75). -/
def execSetFeaturesArbitration (t h : Nat) (s : State) : Host.Outcome State Fault Refusal :=
  run s t fun c => c.setFeature h 0x01 fun c x f =>
    (c.setFn { f with ab := bits (x.dw 11) 2 0, lpw := bits (x.dw 11) 15 8, mpw := bits (x.dw 11) 23 16, hpw := bits (x.dw 11) 31 24 }).finish
      x.h stOk 0 0

/-- Power Management (R398, R400). -/
def execSetFeaturesPowerManagement (t h : Nat) (s : State) : Host.Outcome State Fault Refusal :=
  run s t fun c => c.setFeature h 0x02 fun c x _ =>
    let ps := bits (x.dw 11) 4 0
    if 4 < ps ∨ bits (x.dw 11) 7 5 ≠ 0 then c.fail x.h stInvalidField else (c.requestPs ps false).finish x.h stOk 0 0

/-- Temperature Threshold (R426): sensors 0 to 2; the code of all sensors names the three. -/
def execSetFeaturesTemperatureThreshold (t h : Nat) (s : State) : Host.Outcome State Fault Refusal :=
  run s t fun c => c.setFeature h 0x04 fun c x f =>
    let k := bits (x.dw 11) 19 16
    let sensors := if k = 15 then [0, 1, 2] else [k]
    let v := bits (x.dw 11) 15 0
    let which := bits (x.dw 11) 21 20
    let put := fun (m : SMap) (d : Nat → Nat) => sensors.foldl (fun (m : SMap) i => m.put (d i) i v) m
    if (2 < k ∧ k ≠ 15) ∨ 1 < which then c.fail x.h stInvalidField
    else
      let c1 := if which = 0 then c.setFn { f with thOver := put f.thOver (fun _ => 0x10000) }
        else c.setFn { f with thUnder := put f.thUnder (fun _ => 0) }
      (Chip.tempEvents c c1).finish x.h stOk 0 0

/-- The grant of a Number of Queues request (R69): the request, the quota, the doorbell limit, the pool. -/
def Chip.grantTerms (c : Chip) (x : Cmd) : Nat × Nat × Nat × Nat :=
  let f := c.fnOf x.port x.fn
  (max (bits (x.dw 11) 15 0) (bits (x.dw 11) 31 16) + 1, c.getAt E.FQ_QUOTA (fnItem x.port x.fn), c.doorbellLimit x.port x.fn,
    c.poolFree + f.granted + (if f.granted = 0 then 1 else 0))

/-- Number of Queues. -/
def execSetFeaturesNumberOfQueues (t h : Nat) (s : State) : Host.Outcome State Fault Refusal :=
  run s t fun c => c.setFeature h 0x07 fun c x f =>
    let (asked, quota, bell, pool) := c.grantTerms x
    let others := min asked (min quota bell)
    let g := min others pool
    if f.ioCreated then c.fail x.h stSequence
    else
      let c1 := c.setFn { f with granted := g }
      let c2 := if pool < others then c1.count E.POOL_DENIED 1 else c1
      c2.finish x.h stOk (g - 1 + at' (g - 1) 16) 0

/-- Interrupt Coalescing (R79). -/
def execSetFeaturesInterruptCoalescing (t h : Nat) (s : State) : Host.Outcome State Fault Refusal :=
  run s t fun c => c.setFeature h 0x08 fun c x f =>
    (c.setFn { f with coalThr := bits (x.dw 11) 7 0, coalTime := bits (x.dw 11) 15 8 }).finish x.h stOk 0 0

/-- Interrupt Vector Configuration (R79): bit 16 takes a vector out of coalescing. -/
def execSetFeaturesInterruptVectorConfig (t h : Nat) (s : State) : Host.Outcome State Fault Refusal :=
  run s t fun c => c.setFeature h 0x09 fun c x f =>
    let v := bits (x.dw 11) 15 0
    let rest := f.vecNoCoal.filter fun k => decide (k ≠ v)
    if 2048 ≤ v then c.fail x.h stInvalidField
    else (c.setFn { f with vecNoCoal := if bit (x.dw 11) 16 = 1 then v :: rest else rest }).finish x.h stOk 0 0

/-- Autonomous Power State Transition (R400): an entry names PS3 or PS4, or is not used. -/
def execSetFeaturesApst (t h : Nat) (table : List ApstEntry) (s : State) : Host.Outcome State Fault Refusal :=
  run s t fun c => c.setFeature h 0x0C fun c x f =>
    if table.any fun e => decide (e.itptMs ≠ 0) && decide (e.itps < 3 ∨ 4 < e.itps) then c.fail x.h stInvalidField
    else (c.setFn { f with apste := decide (bit (x.dw 11) 0 = 1), apst := table.take 32 }).finish x.h stOk 0 0

/-- The present in milliseconds of fabric time. -/
def Chip.nowMs (c : Chip) : Nat := c.now / (cycPerSec / 1000)

/-- Keys under which a function holds what Write Atomicity Normal and Timestamp set, and the moment of the
latter. -/
abbrev keyAtomicity : Nat := 0x0A
abbrev keyStamp : Nat := 0x0E
abbrev keyStampAt : Nat := 0x10E

/-- Features without a row of their own: Write Atomicity Normal, Asynchronous Event Configuration and
Timestamp, whose six octets are `data`; one that is not supported completes with Invalid Field in Command. -/
def Chip.setOther (c : Chip) (x : Cmd) (data : Nat) : Chip :=
  let f := c.fnOf x.port x.fn
  let fid := x.dw 10 % 256
  if [0x01, 0x02, 0x04, 0x07, 0x08, 0x09, 0x0C].contains fid then c
  else if fid = 0x0A then (c.setFn { f with others := f.others.put 0 keyAtomicity (x.dw 11 % 2) }).finish x.h stOk 0 0
  else if fid = 0x0B then (c.setFn { f with aeConfig := x.dw 11 }).finish x.h stOk 0 0
  else if fid = 0x0E then
    (c.setFn { f with others := (f.others.put 0 keyStamp (data % 2 ^ 48)).put 0 keyStampAt (c.nowMs + 1) }).finish x.h stOk 0 0
  else c.fail x.h stInvalidField

def execSetFeaturesOther (t h data : Nat) (s : State) : Host.Outcome State Fault Refusal :=
  run s t fun c => c.adminCmd h 0x09 fun c x => c.setOther x data

/-! ### Get Features (R80) -/

/-- The current value of a feature of a function (or its default): Dword 0, and the octets of a table. -/
def Chip.featureValue (c : Chip) (f : Fn) (fid dw11 : Nat) : Option (Nat × List Nat) :=
  let k := bits dw11 19 16
  if fid = 0x01 then some (f.ab + at' f.lpw 8 + at' f.mpw 16 + at' f.hpw 24, [])
  else if fid = 0x02 then some (c.get E.PS_CURRENT, [])
  else if fid = 0x04 then
    if 2 < k ∨ 1 < bits dw11 21 20 then none else some (if bits dw11 21 20 = 0 then c.overK f k else f.thUnder.get 0 k, [])
  else if fid = 0x07 then let g := max 1 f.granted - 1; some (g + at' g 16, [])
  else if fid = 0x08 then some (f.coalThr + at' f.coalTime 8, [])
  else if fid = 0x09 then
    let v := bits dw11 15 0
    if 2048 ≤ v then none else some (v + (if f.vecNoCoal.contains v then 65536 else 0), [])
  else if fid = 0x0A then some (f.others.get 0 keyAtomicity, [])
  else if fid = 0x0B then some (f.aeConfig, [])
  else if fid = 0x0C then
    some (if f.apste then 1 else 0, (List.range 32).flatMap fun i => match f.apst[i]? with
      | some e => octetsOf 8 (at' e.itps 3 + at' e.itptMs 8)
      | none => octetsOf 8 0)
  else if fid = 0x0E then
    let at0 := f.others.get 0 keyStampAt
    let set := decide (at0 ≠ 0)
    let v := if set then f.others.get 0 keyStamp + (c.nowMs + 1 - at0) else c.nowMs
    some (0, octetsOf 6 (v % 2 ^ 48) ++ [if set then 2 else 0, 0])
  else none

/-- Get Features: the current value, the default, the saved value, which is the default, or the
capabilities, changeable only (NVM Express, PRESUMED, log entry 14). -/
def Chip.getFeature (c : Chip) (x : Cmd) : Chip :=
  let f := c.fnOf x.port x.fn
  let sel := bits (x.dw 10) 10 8
  let from' := if sel = 0 then f else { Fn.initial x.port x.fn with granted := f.granted }
  match c.featureValue from' (x.dw 10 % 256) (x.dw 11) with
  | none => c.fail x.h stInvalidField
  | some (v, l) =>
    if 3 < sel then c.fail x.h stInvalidField
    else if sel = 3 then c.finish x.h stOk 4 0
    else (if l = [] then c else c.emit (.octets x.h l)).finish x.h stOk v 0

def execGetFeatures (t h : Nat) (s : State) : Host.Outcome State Fault Refusal :=
  run s t fun c => c.adminCmd h 0x0A Chip.getFeature

/-! ### Asynchronous Event Request (R80) -/

/-- Sixteen requests are held; an event that waits completes one at once. -/
def Chip.holdAer (c : Chip) (x : Cmd) : Chip :=
  let f := c.fnOf x.port x.fn
  match f.aesPending.find? fun e => !f.aeMasked.contains (e.1 * 256 + e.2.2) with
  | some e =>
    (c.setFn { f with aesPending := f.aesPending.erase e, aeMasked := (e.1 * 256 + e.2.2) :: f.aeMasked }).finish x.h stOk
      (e.1 + at' e.2.1 8 + at' e.2.2 16) 0
  | none =>
    if 16 ≤ f.aers.length then c.fail x.h stAerLimit
    else (c.setFn { f with aers := f.aers ++ [x.h] }).setCmd { x with phase := .working }

def execAsynchronousEventRequest (t h : Nat) (s : State) : Host.Outcome State Fault Refusal :=
  run s t fun c => c.adminCmd h 0x0C Chip.holdAer

/-! ### Namespaces (R92, R104, R133, R164, R236, R347) -/

/-- The lowest free granules, so many (DESIGN CHOICE, log entry 44). -/
def Chip.freeGranules (c : Chip) (n : Nat) : List Nat :=
  let used := c.ft.nss.flatMap Ns.granules
  ((List.range (used.length + n)).filter fun g => !used.contains g).take n

/-- What the functions of some controllers learn: their namespace list has changed (NVM Express, log entry 14). -/
def Chip.nsChanged (c : Chip) (nsid : Nat) (controllers : List Nat) : Chip :=
  c.each (c.fns.filter fun f => f.rdy && controllers.contains (c.cntlid f.port f.fn)) fun c f =>
    let g := c.fnOf f.port f.fn
    (c.setFn { g with changedNs := if g.changedNs.contains nsid then g.changedNs else g.changedNs ++ [nsid] }).raiseAe f.port f.fn 2 0 4

/-- Namespace creation (R133): whole granules, the layout of LAYOUT_NEXT, a new key pair. -/
def Chip.createNs (c : Chip) (x : Cmd) (nsze ncap flbas : Nat) : Chip :=
  let lbaf := flbas % 16
  let perG := 2 ^ 30 / lbaOctets lbaf
  let n := cdiv nsze perG
  let p2 := decide (c.get E.LAYOUT_NEXT = 1)
  let id := (List.range 1024).find? fun k => (c.ns (k + 1)).isNone
  match c.nsBlocked with
  | some s => c.fail x.h s
  | none =>
    if ncap < nsze then c.fail x.h stInvalidField
    else if 5 < lbaf then c.fail x.h stInvalidFormat
    else match id with
      | none => c.fail x.h stNsIdUnavailable
      | some k =>
        let new : Ns := { nsid := k + 1, nsze := n * perG, ncap := cdiv ncap perG * perG, lbaf := lbaf, ext := decide (bit flbas 4 = 1),
                          p2 := p2, granules := c.freeGranules n, attached := [], key := c.ft.keyNext, wrapped := c.wrap c.ft.keyNext, formatting := false,
                          deleting := false, detaching := [] }
        if c.capacityMax < c.granulesUsed + new.charge then c.fail x.h stNsCapacity
        else
          let nss := (c.ft.nss ++ [new]).mergeSort fun a b => decide (a.nsid ≤ b.nsid)
          let key := c.ft.keyNext + 1
          (({ c with ft := { c.ft with nss := nss, keyNext := key } }).event 0x309 0 1 noUnit
            [k + 1, 0]).finish x.h stOk (k + 1) 0

/-- Namespace Management with the create operation; a reserved operation completes with Invalid Field. -/
def execNamespaceCreate (t h nsze ncap flbas : Nat) (s : State) : Host.Outcome State Fault Refusal :=
  run s t fun c => c.adminCmd h 0x0D fun c x =>
    let sel := bits (x.dw 10) 3 0
    if sel = 0 then c.createNs x nsze ncap flbas else if sel = 1 then c else c.fail x.h stInvalidField

/-- Some namespaces changed alike. -/
def Chip.changeNs (c : Chip) (l : List Ns) (f : Ns → Ns) : Chip := c.each l fun c n => c.setNs (f n)

/-- The Scorebook entries of a namespace are cleared (R92, R161); catalogue pages that fill on the way are programmed (R323). -/
def Chip.clearBook (c : Chip) (nsid : Nat) : Chip :=
  let cells := (c.book.cells.filter fun p => decide (p.2.nsid = nsid)).map Prod.fst
  let stash := (c.book.stash.filter fun p => decide (p.2.nsid = nsid)).map fun p => stashPlace p.1
  c.each (cells ++ stash) fun c p => (if c.bookHeld then c.cataloguePage else c).clearEntry p

/-- A SPARE_INIT that has waited comes into force once no namespace exists (R166). -/
def Chip.spareFree (c : Chip) : Chip :=
  if c.ft.nss = [] ∧ c.get E.SPARE_INIT_ACTIVE ≠ c.get E.SPARE_INIT then c.spareChanged else c

/-- A deleted namespace goes: versions, map, log and Scorebook entries, granules and key (R92); with the last one a pending SPARE_INIT comes
into force (R166). -/
def Chip.removeNs (c : Chip) (n : Ns) : Chip :=
  let c1 := (c.wipeNs n).clearBook n.nsid
  let nss := drop' (fun (q : Ns) => decide (q.nsid = n.nsid)) c1.ft.nss
  ((({ c1 with ft := { c1.ft with nss := nss } }).event 0x309 0 1 noUnit [n.nsid, 1]).nsChanged n.nsid n.attached).spareFree

/-- Namespace deletion (R92): commands waiting end, the admitted ones are waited for, and room for the journal's records; the
row is tried again until then. -/
def Chip.deleteNs (c : Chip) (x : Cmd) : Chip :=
  match c.nsBlocked, c.namedNs x.nsid with
  | some s, l => (c.changeNs l fun n => { n with deleting := false }).fail x.h s
  | none, [] => c.fail x.h (if x.nsid = 0xFFFFFFFF then stOk else dnr stInvalidNs)
  | none, l =>
    let c1 := c.each l fun c n => (c.setNs { n with deleting := true }).endWaiting n.nsid (fun _ => true) (dnr stInvalidNs)
    if (c1.ioAdmitted fun y => l.any fun n => c1.onNs y n.nsid) ∨ !c1.wipeFits l then c1
    else (c1.each l Chip.removeNs).finish x.h stOk 0 0

def execNamespaceDelete (t h : Nat) (s : State) : Host.Outcome State Fault Refusal :=
  run s t fun c => c.settleChanged (c.adminCmd h 0x0D fun c x => if bits (x.dw 10) 3 0 = 1 then c.deleteNs x else c)

/-- A controller identifier names a function of a port in use: the PF or one of its TotalVFs VFs (R102, R104);
in a pair the partner's are those of the other index (R355). -/
def Chip.cntlidOk (c : Chip) (id : Nat) : Bool :=
  let own := decide (id / 1024 = c.ownIndex) || (decide (c.boot.pairMode = 1) && decide (id / 1024 ≤ 1))
  let port := id % 1024 / 512
  own && (decide (port = 0) || decide (c.boot.portMode = 1)) && decide (id % 512 ≤ (c.portOf port).totalVfs)

/-- Namespace Attachment with the attach operation (R104). -/
def Chip.attachNs (c : Chip) (x : Cmd) (ids : List Nat) : Chip :=
  match c.nsBlocked, c.ns x.nsid with
  | some s, _ => c.fail x.h s
  | none, none => c.fail x.h (dnr stInvalidNs)
  | none, some n =>
    if ids = [] ∨ !ids.all c.cntlidOk then c.fail x.h stCtrlList
    else if ids.any n.attached.contains then c.fail x.h stNsAttached
    else (((c.setNs { n with attached := n.attached ++ ids.eraseDups }).event 0x309 0 1 noUnit [n.nsid, 2]).nsChanged n.nsid ids).finish x.h stOk 0 0

/-- Attachment; a reserved operation completes with Invalid Field. -/
def execNamespaceAttach (t h : Nat) (controllers : List Nat) (s : State) : Host.Outcome State Fault Refusal :=
  run s t fun c => c.adminCmd h 0x15 fun c x =>
    let sel := bits (x.dw 10) 3 0
    if sel = 0 then c.attachNs x controllers else if sel = 1 then c else c.fail x.h stInvalidField

/-- Detachment (R92): as a deletion, on the functions named, which its fetch has marked; the Scorebook entries stay and are hidden. -/
def Chip.detachNs (c : Chip) (x : Cmd) (ids : List Nat) : Chip :=
  let keepNot := fun (l : List Nat) => l.filter fun i => !(ids ++ x.ctrlList).contains i
  let stays := fun (c : Chip) => match c.ns x.nsid with
    | none => c
    | some n => c.setNs { n with detaching := keepNot n.detaching }
  match c.nsBlocked, c.ns x.nsid with
  | some s, _ => (stays c).fail x.h s
  | none, none => c.fail x.h (dnr stInvalidNs)
  | none, some n =>
    let on := fun (y : Cmd) => ids.contains (c.cntlid y.port y.fn)
    if ids = [] ∨ !ids.all c.cntlidOk then (stays c).fail x.h stCtrlList
    else if !ids.all n.attached.contains then (stays c).fail x.h stNsNotAttached
    else
      let c1 := (c.setNs { n with detaching := (n.detaching ++ ids).eraseDups }).endWaiting n.nsid on (dnr stInvalidNs)
      if c1.ioAdmitted fun y => c1.onNs y n.nsid && on y then c1
      else
        let keep := fun (l : List Nat) => l.filter fun i => !ids.contains i
        (((c1.setNs { n with attached := keep n.attached, detaching := keep n.detaching }).event 0x309 0 1 noUnit [n.nsid, 3]).nsChanged n.nsid
          ids).finish x.h stOk 0 0

def execNamespaceDetach (t h : Nat) (controllers : List Nat) (s : State) : Host.Outcome State Fault Refusal :=
  run s t fun c => c.adminCmd h 0x15 fun c x => if bits (x.dw 10) 3 0 = 1 then c.detachNs x controllers else c

/-! ### Format NVM (R161) -/

/-- One namespace formatted: its units deallocated, its Scorebook entries cleared, its key replaced when asked,
its LBA format taken, with the size in LBAs of the same granules. -/
def Chip.formatNs (c : Chip) (ses lbaf : Nat) (ext : Bool) (n : Ns) : Chip :=
  let c1 := (c.wipeNs n).clearBook n.nsid
  let scale := fun (v : Nat) => v * lbaOctets n.lbaf / lbaOctets lbaf
  let c2 := c1.setNs { n with lbaf := lbaf, ext := ext, nsze := scale n.nsze, ncap := scale n.ncap, formatting := false }
  (if ses = 0 then c2 else c2.replaceKey n.nsid).nsChanged n.nsid n.attached

/-- Format NVM: the namespace's waiting commands end with Format In Progress, the admitted ones are waited for
(FORMAT_STATE 1), and room for the journal's records, and the row is tried again until then; it ends a self-test (R95). -/
def Chip.formatCmd (c : Chip) (x : Cmd) : Chip :=
  let lbaf := bits (x.dw 10) 3 0
  let ses := bits (x.dw 10) 11 9
  match c.nsBlocked, c.namedNs x.nsid with
  | some s, l => (c.changeNs l fun n => { n with formatting := false }).fail x.h s
  | none, [] => c.fail x.h (if x.nsid = 0xFFFFFFFF then stOk else dnr stInvalidNs)
  | none, l =>
    match x.formatRefused with
    | some s => c.fail x.h s
    | none =>
      let c0 := if c.get E.FORMAT_STATE = 0 then (c.set E.FORMAT_STATE 1).event 0x308 0 1 noUnit [0, 0] else c
      let c1 := (c0.endSelfTest 4 0).each l fun c n => (c.setNs { n with formatting := true }).endWaiting n.nsid (fun _ => true) stFormatting
      if (c1.ioAdmitted fun y => l.any fun n => c1.onNs y n.nsid) ∨ !c1.wipeFits l then c1
      else
        let c2 := c1.each l fun c n => c.formatNs ses lbaf (decide (bit (x.dw 10) 4 = 1)) n
        ((c2.set E.FORMAT_STATE 0).event 0x308 0 1 noUnit [0, 1]).finish x.h stOk 0 0

def execFormatNvm (t h : Nat) (s : State) : Host.Outcome State Fault Refusal :=
  run s t fun c => c.adminCmd h 0x80 Chip.formatCmd

/-! ### Sanitize (R162) -/

/-- A Sanitize starts: waiting I/O ends with Sanitize In Progress, a self-test ends (R95), and the work is done
once no admitted I/O remains. An Exit Failure Mode or a reserved action completes with Invalid Field. -/
def Chip.startSanitize (c : Chip) (x : Cmd) (failed : Bool) : Chip :=
  let kind := x.dw 10
  if c.pairBlocks then c.fail x.h stSequence
  else if c.ft.sanitizeStep ≠ 0 then c.fail x.h stSanitizing
  else if !([2, 3, 4].contains (kind % 8)) then c.fail x.h stInvalidField
  else
    let c1 := { c with ft := { c.ft with sanitizeStep := 1, sanitizeKind := kind, sanitizePattern := x.dw 11 }, lg := { c.lg with sanLog := kind } }
    let c2 := ((c1.set E.SANITIZE_STATE 1).event 0x308 0 1 noUnit [1, 0]).endSelfTest 9 0
    let wait := c2.cmds.filter fun y => !y.admin && decide (y.phase = .fetched ∨ y.phase = .waiting)
    ((c2.each wait fun c y => (c.undo y.h).fail y.h stSanitizing).setCmd { x with phase := .working }).sanitizeWork failed

/-- A Sanitize row of an action: it starts the command, and tried again it goes on. Every one of the three
takes a command whose action is none of theirs. -/
def Chip.sanitizeRow (c : Chip) (h action : Nat) (failed : Bool) : Chip :=
  match c.cmd h with
  | none => c
  | some x =>
    let a := x.dw 10 % 8
    if !x.admin ∨ x.opcode ≠ 0x84 ∨ !c.isReady ∨ !(c.fw.fwaH = none ∨ c.fw.fwaH = some h) ∨ (a ≠ action ∧ [2, 3, 4].contains a) then c
    else if x.phase = .fetched then c.startSanitize x failed
    else if x.phase = .working then (c.sanitizeWork failed).sanitizeEnds
    else c

def execSanitizeCryptoErase (t h : Nat) (failed : Bool) (s : State) : Host.Outcome State Fault Refusal :=
  runUnits s t fun c => c.sanitizeRow h 4 failed

def execSanitizeBlockErase (t h : Nat) (failed : Bool) (s : State) : Host.Outcome State Fault Refusal :=
  runUnits s t fun c => c.sanitizeRow h 2 failed

def execSanitizeOverwrite (t h : Nat) (failed : Bool) (s : State) : Host.Outcome State Fault Refusal :=
  runUnits s t fun c => c.sanitizeRow h 3 failed

/-! ### Device Self-test (R94, R95) -/

/-- A test starts; `failing` is the first of the segments 1 to 3 whose engine, memory or system area tests fail, 0 for none;
the later ones fail by what their reads give. -/
def Chip.startSelfTest (c : Chip) (h code failing : Nat) : Chip :=
  c.adminCmd h 0x14 fun c x =>
    if bits (x.dw 10) 3 0 ≠ code then c
    else if c.get E.ST_STATE ≠ 0 then c.fail x.h stSelfTest
    else
      let lg := { c.lg with stOwner := some (x.port, x.fn), stFailing := if failing ≤ 3 then failing else 0, stLeft := [], stTotal := 0 }
      ((({ c with lg := lg }).set E.ST_STATE code).set E.ST_SEGMENT 1).finish x.h stOk 0 0

def execDeviceSelfTestShort (t h failing : Nat) (s : State) : Host.Outcome State Fault Refusal :=
  run s t fun c => c.startSelfTest h 1 failing

def execDeviceSelfTestExtended (t h failing : Nat) (s : State) : Host.Outcome State Fault Refusal :=
  run s t fun c => c.startSelfTest h 2 failing

/-- Code Fh aborts the test that runs; a reserved code completes with Invalid Field. -/
def execDeviceSelfTestAbort (t h : Nat) (s : State) : Host.Outcome State Fault Refusal :=
  run s t fun c => c.adminCmd h 0x14 fun c x =>
    let code := bits (x.dw 10) 3 0
    if code = 1 ∨ code = 2 then c
    else if code = 15 then (c.endSelfTest 1 0).finish x.h stOk 0 0
    else c.fail x.h stInvalidField

/-! ### Doorbell Buffer Config (R74) -/

/-- The shadow doorbells and the EventIdx buffer of a function: page-aligned addresses. -/
def execDoorbellBufferConfig (t h : Nat) (s : State) : Host.Outcome State Fault Refusal :=
  run s t fun c => c.adminCmd h 0x7C fun c x =>
    if x.dw 6 % 4096 ≠ 0 ∨ x.dw 8 % 4096 ≠ 0 then c.fail x.h stInvalidField
    else (c.setFn { c.fnOf x.port x.fn with shadow := true }).finish x.h stOk 0 0

end Sys2Proof.Machine
end

