-- ==== Sys2Proof/Machine/Firmware.lean ====
section
/-! DEFINITION. Firmware images, their checks, download, commit and activation without reset (R93, R440 to
R447). -/
namespace Sys2Proof.Machine

/-! ### The checks of an image (R440) -/

/-- The image that a download of octets holds, as the checks read it. -/
def imageOf (v : Nat) : Image :=
  let len := octField v 8 4
  { present := true, magicOk := decide (octField v 0 4 = 0x4B465701 ∧ octField v 4 2 = 1), keyIndex := octField v 6 2, length := len,
    svn := octField v 12 4, version := octField v 16 8, variants := octField v 24 1, bodyDigest := octField v 32 48,
    bodySha := Config.sha384 (octetsOf len (v / 256 ^ 512)), keySha := Config.sha384 (octetsOf 97 (octField v 80 97)),
    sigOk := Config.ecdsaVerify (octField v 80 97) (Config.sha384 (octetsOf 192 v)) (octField v 192 96) }

/-- The first check that an image fails, 1 to 6; 0 where it passes. -/
def Chip.imageCheck (c : Chip) (i : Image) : Nat :=
  if !i.present ∨ !i.magicOk ∨ i.length % 4096 ≠ 0 ∨ 16 * 2 ^ 20 - 4096 < i.length then 1
  else if i.bodyDigest ≠ i.bodySha then 2
  else if 3 < i.keyIndex ∨ c.fuse.keyRevoked.getD i.keyIndex true ∨ nth c.fuse.keyDigests i.keyIndex = 0
      ∨ nth c.fuse.keyDigests i.keyIndex ≠ i.keySha then 3
  else if !i.sigOk then 4
  else if bit i.variants c.fuse.variant = 0 then 5
  else if i.svn < c.fuse.svnFloor then 6
  else 0

/-- The image in a slot 1 to 3. -/
def Chip.slotImage (c : Chip) (slot : Nat) : Image := if slot = 0 then Image.empty else c.fw.slots.getD (slot - 1) Image.empty

/-- A check that fails is reported with the slot (R452). -/
def Chip.checkSlot (c : Chip) (slot : Nat) (i : Image) : Bool × Chip :=
  let k := c.imageCheck i
  if k = 0 then (true, c) else (false, c.event 0x587 0 4 noUnit [slot, k])

/-! ### Download (R444) -/

/-- A piece of an image: offset and length in dwords are whole multiples of 1,024. -/
def Chip.download (c : Chip) (x : Cmd) (piece : Nat) : Chip :=
  let n := 4 * (x.dw 10 + 1)
  let off := 4 * x.dw 11
  if n % 4096 ≠ 0 ∨ off % 4096 ≠ 0 ∨ 16 * 2 ^ 20 < off + n then c.fail x.h stInvalidField
  else if off ≠ 0 ∧ off < c.fw.downOct then c.fail x.h stOverlap
  else if off ≠ 0 ∧ c.fw.downOct < off then c.fail x.h stInvalidField
  else
    let old := if off = 0 then 0 else c.fw.down
    let v := old + piece % 256 ^ n * 256 ^ off
    ({ c with fw := { c.fw with down := v, downOct := off + n } }).finish x.h stOk 0 0

def execFirmwareImageDownload (t h piece : Nat) (s : State) : Host.Outcome State Fault Refusal :=
  run s t fun c => c.adminCmd h 0x11 fun c x => c.download x piece

/-! ### Commit (R445) -/

/-- The slot that FS names: 0 is the lowest one neither running nor pending. -/
def Chip.commitSlotOf (c : Chip) (x : Cmd) : Nat :=
  let fs := bits (x.dw 10) 2 0
  if fs ≠ 0 then fs
  else ([1, 2, 3].find? fun k => decide (k ≠ c.get E.FW_RUNNING_SLOT ∧ k ≠ c.get E.FW_PENDING_SLOT)).getD 0

/-- The downloaded image checked and written to a slot; the answer is the status. -/
def Chip.writeSlot (c : Chip) (slot : Nat) : Nat × Chip :=
  if slot = 0 ∨ 3 < slot ∨ slot = c.get E.FW_RUNNING_SLOT then (stFwSlot, c)
  else if !c.fw.complete then (stFwImage, c)
  else
    let i := imageOf c.fw.down
    let r := c.checkSlot slot i
    if r.1 then
      let slots := r.2.fw.slots.set (slot - 1) i
      (stOk, { r.2 with fw := { r.2.fw with slots := slots } })
    else (stFwImage, r.2)

/-- A slot with an image that passes becomes pending. -/
def Chip.choosePending (c : Chip) (slot : Nat) : Nat × Chip :=
  if slot = 0 ∨ 3 < slot then (stFwSlot, c)
  else
    let r := c.checkSlot slot (c.slotImage slot)
    if r.1 then (stOk, r.2.set E.FW_PENDING_SLOT slot) else (stFwImage, r.2)

/-- A commit that succeeds is counted. -/
def Chip.endCommit (c : Chip) (h : Nat) (status : Nat) : Chip :=
  (if status = stOk then c.count E.FW_COMMITS 1 else c).finish h status 0 0

/-- A Firmware Commit of one action. -/
def Chip.fwCommit (c : Chip) (h action : Nat) (f : Chip → Cmd → Chip) : Chip :=
  c.adminCmd h 0x10 fun c x => if bits (x.dw 10) 5 3 = action then f c x else c

/-- 000b: the download is written to a slot. -/
def execFirmwareCommitReplace (t h : Nat) (s : State) : Host.Outcome State Fault Refusal :=
  run s t fun c => c.fwCommit h 0 fun c x => let r := c.writeSlot (c.commitSlotOf x); r.2.endCommit h r.1

/-- 001b: written, and pending. -/
def Chip.writePending (c : Chip) (slot : Nat) : Nat × Chip :=
  let r := c.writeSlot slot
  if r.1 = stOk then (stOk, r.2.set E.FW_PENDING_SLOT slot) else r

def execFirmwareCommitReplaceActivate (t h : Nat) (s : State) : Host.Outcome State Fault Refusal :=
  run s t fun c => c.fwCommit h 1 fun c x => let r := c.writePending (c.commitSlotOf x); r.2.endCommit h r.1

/-- 010b: a slot becomes pending. -/
def execFirmwareCommitActivate (t h : Nat) (s : State) : Host.Outcome State Fault Refusal :=
  run s t fun c => c.fwCommit h 2 fun c x => let r := c.choosePending (bits (x.dw 10) 2 0); r.2.endCommit h r.1

/-! ### Activation without reset (R93, R447) -/

/-- Commands that hold the activation: class 0 to 2 ones awaiting decision, and admitted ones. -/
def Chip.fwaBusy (c : Chip) : Bool := c.ioAdmitted (fun _ => true) || c.fwaDeciding

/-- How long step 4 has run, in fabric time: from the decision of the last command that awaited it (R93). -/
def Chip.fwaRan (c : Chip) : Nat := (c.fw.fwaT.map fun t => c.now - t).getD 0

/-- Step 5 and 6: the cores restart on the new image, everything else is kept, and fetch resumes. -/
def Chip.fwaActivate (c : Chip) (h : Nat) : Chip :=
  let slot := c.fw.fwaSlot
  let fw := { c.fw with fwaH := none, lastRan := slot }
  let c1 := (({ c with fw := fw }).set E.FWA_LAST_DRAIN (c.fwaRan / cycPerUs)).set E.FWA_LAST_RESULT 0
  (((((c1.set E.FW_RUNNING_SLOT slot).set E.FW_PENDING_SLOT 0).count E.FW_ACTIVATIONS 1).event 0x58B 0 2 noUnit [1, 0]).endCommit h stOk)

/-- Commit action 011b: the image is taken as 001b or 010b does, fetch of I/O queues stops, and the row, tried
again, activates once nothing is admitted. -/
def Chip.activateNow (c : Chip) (x : Cmd) : Chip :=
  match c.fw.fwaH with
  | some _ => let c := c.fwaDrains; if c.fwaBusy then c else c.fwaActivate x.h
  | none =>
    if c.get E.FORMAT_STATE ≠ 0 ∨ c.ft.sanitizeStep ≠ 0 then c.fail x.h stFwProhibited
    else
      let slot := if c.fw.complete then c.commitSlotOf x else bits (x.dw 10) 2 0
      let r := if c.fw.complete then c.writePending slot else c.choosePending slot
      if r.1 ≠ stOk then r.2.fail x.h r.1
      else
        let c1 := ({ r.2 with fw := { r.2.fw with fwaH := some x.h, fwaT := none, fwaSlot := slot } }).fwaDrains
        if c1.fwaBusy then c1 else c1.fwaActivate x.h

def execFirmwareCommitActivateNoReset (t h : Nat) (s : State) : Host.Outcome State Fault Refusal :=
  run s t fun c => c.fwCommit h 3 Chip.activateNow

/-- The drain has not ended at FWA_DRAIN_LIMIT: fetch resumes, and the image stays pending. -/
def Chip.fwaExpires (c : Chip) : Chip :=
  match c.fw.fwaH with
  | none => c
  | some h =>
    if c.fwaRan < c.get E.FWA_DRAIN_LIMIT * cycPerMs ∨ !c.fwaBusy then c
    else
      let us := c.fwaRan / cycPerUs
      (((({ c with fw := { c.fw with fwaH := none } }).set E.FWA_LAST_DRAIN us).set E.FWA_LAST_RESULT 1).event 0x58B 0 2 noUnit [1, 1]).fail h
        stFwMaxTime

def execFwaDrainLimitExpiry (t : Nat) (s : State) : Host.Outcome State Fault Refusal :=
  run s t Chip.fwaExpires

/-- 100b to 111b. -/
def execFirmwareCommitInvalid (t h : Nat) (s : State) : Host.Outcome State Fault Refusal :=
  run s t fun c => c.adminCmd h 0x10 fun c x => if 4 ≤ bits (x.dw 10) 5 3 then c.fail x.h stInvalidField else c

end Sys2Proof.Machine
end

