-- ==== Sys2Proof/Machine/Links.lean ====
section
/-! DEFINITION. The links of the ports: training, L0p, ASPM L1, Max_Payload_Size, device power states,
the controller memory buffer, DOE and SPDM (R37, R99, R100, R110, R113, R118, R120 to R125). -/
namespace Sys2Proof.Machine

/-! ### Port rates (R113, R120) -/

/-- Commands admitted on a port. -/
def Chip.portCmds (c : Chip) (port : Nat) : List Cmd := c.cmds.filter fun x => decide (x.port = port) && x.running

/-- The rate of a port fell: what its admitted commands still move takes longer, which is host time (R113, R120). -/
def Chip.portSlower (before c : Chip) (port : Nat) : Chip :=
  let old := before.portRate port
  let new := c.portRate port
  if old ≤ new ∨ new = 0 then c
  else c.each (c.portCmds port) fun c x =>
    let octets := sumOf ((c.um.work.filter fun w => decide (w.h = x.h ∧ (w.res = .portOut port ∨ w.res = .portIn port))).map WorkItem.amount)
    c.hostTime x.h (octetsPs new octets - octetsPs old octets)

/-! ### Training (R99, R100, R115, R125) -/

/-- PERST# deasserts: the link trains, WAKE# is released and CLKREQ# is driven low (R115, R123). In mode 0 the inputs of
PORT1 are ignored (R101). -/
def execPerstDeassertion (t port : Nat) (s : State) : Host.Outcome State Fault Refusal :=
  run s t fun c =>
    let p := c.portOf port
    c.when (c.portUsed port && p.perst) fun c => c.setPort { p with perst := false, link := 1, wake := false, clkreq := true }

/-- A link has trained: generation and width within what the port offers, flit mode where 64 GT/s needs it, by the clock
mode in force then (R126). Below
its capability the port is DEGRADED (R16); a training from L0 or L1 is an entry to Recovery, one out of L2 is none (R127). -/
def Chip.trained (c : Chip) (port gen width : Nat) (flit : Bool) : Chip :=
  let p := c.portOf port
  let g := min (c.get E.LINK_MAX_GEN) (if flit then gen else min 5 gen)
  let w := min c.portLanes width
  let low := decide (g < c.get E.LINK_MAX_GEN ∨ w < c.portLanes)
  let c1 := if 2 ≤ p.link ∧ p.link ≤ 6 then c.countAt E.LINK_RECOVERIES port 1 else c
  let c2 := (c1.setPort { p with link := 2, gen := g, width := w, trained := w, rateWidth := w, flit := flit, idleSince := c.now,
                                 sris := decide (c.get E.CLOCK_MODE = 1) }).event
    (0x280 + port) 1 1 (c.unitIdent (mkUnit kPORT port)) [g, w, if flit then 1 else 0]
  Chip.portSlower c (c2.setDegraded (mkUnit kPORT port) low) port

def execLinkTrained (t port gen width : Nat) (flit : Bool) (s : State) : Host.Outcome State Fault Refusal :=
  runUnits s t fun c =>
    c.when (c.portUsed port && !(c.portOf port).perst && decide (1 ≤ gen ∧ gen ≤ 6) && [1, 2, 4, 8, 16].contains width) fun c =>
      c.trained port gen width flit

/-! ### L0p (R120) -/

/-- The narrowest width that L0p may take. -/
def Chip.l0pMin (c : Chip) : Nat := 2 ^ c.get E.L0P_MIN_WIDTH

/-- The commitments of the next LEDGER_INNINGS innings fit a port at another width. -/
def Chip.fitsWidth (c : Chip) (port width : Nat) : Bool :=
  let p := c.portOf port
  let old := tableRate p.gen p.rateWidth
  let new := tableRate p.gen width
  [Res.portOut port, Res.portIn port].all fun r => (List.range (c.get E.LEDGER_INNINGS)).all fun k =>
    decide (c.ledgerSum r (c.inning + k) * old ≤ 1000 * new)

/-- A port asks for a width: a narrower one while its commitments fit, from when on admission uses the narrower
rate, or, when a placement has needed more port time than the width gives, a wider one, which admission uses once it is
there. -/
def Chip.askWidth (c : Chip) (port width : Nat) : Chip :=
  let p := c.portOf port
  if width < p.width then
    if c.l0pMin ≤ width ∧ c.fitsWidth port width then (c.setPort { p with rateWidth := width }).emit (.signal 3 port width) else c
  else if p.width < width ∧ p.wantWide then (c.setPort { p with wantWide := false }).emit (.signal 3 port width) else c

/-- The port can change its width: flit mode with L0P_ENABLE set, the link in L0, and a width up to the trained one. -/
def Chip.l0pOn (c : Chip) (port width : Nat) : Bool :=
  let p := c.portOf port
  c.isReady && p.flit && decide (c.get E.L0P_ENABLE = 1) && decide (p.link = 2 ∨ p.link = 3) && [1, 2, 4, 8, 16].contains width && decide (width ≤ p.trained)

def execL0pWidthRequest (t port width : Nat) (s : State) : Host.Outcome State Fault Refusal :=
  run s t fun c => c.when (c.l0pOn port width) fun c => c.askWidth port width

/-- A width change is complete. A narrowing by the link partner is host time for what it delays. -/
def Chip.widthChanged (c : Chip) (port width : Nat) (byPartner : Bool) : Chip :=
  let p := c.portOf port
  if width = p.width then c
  else
    let c1 := c.setPort { p with width := width, rateWidth := width, link := if width < p.trained then 3 else 2 }
    let c2 := (c1.countAt E.L0P_CHANGES port 1).eventFirst 0x286 0 1 (c.unitIdent (mkUnit kPORT port)) [width]
    if byPartner then Chip.portSlower c c2 port else c2

def execL0pWidthChange (t port width : Nat) (byPartner : Bool) (s : State) : Host.Outcome State Fault Refusal :=
  run s t fun c => c.when (c.l0pOn port width) fun c => c.widthChanged port width byPartner

/-! ### ASPM L1 and LTR (R121 to R123) -/

/-- An L1 substate that the L1 PM Substates control and the LTR threshold allow (R121): 0 L1.0, 1 L1.1, 2 L1.2. -/
def Chip.substateOk (c : Chip) (port k : Nat) : Bool :=
  let g := (c.portOf port).cfg
  decide (k = 0) || (decide (k = 1) && decide (bit g.l1pm 0 = 1))
    || (decide (k = 2) && decide (bit g.l1pm 1 = 1) && decide (g.ltrThreshold ≤ c.get E.LTR_IDLE))

/-- L1, L1.1 or L1.2 after ASPM_L1_IDLE: LTR_IDLE is sent, and the substates, which may follow L1.0, release CLKREQ#. -/
def execAspmL1Entry (t port substate : Nat) (s : State) : Host.Outcome State Fault Refusal :=
  run s t fun c =>
    let p := c.portOf port
    let v := c.get E.LTR_IDLE
    c.when (c.isReady && (decide (p.link = 2 ∨ p.link = 3) || decide (p.link = 4 ∧ substate ≠ 0)) && c.substateOk port substate
        && c.portRested port) fun c =>
      let c1 := c.setPort { p with link := 4 + substate, ltr := v, clkreq := decide (substate = 0) }
      if p.ltr = v then c1 else c1.emit (.signal 2 port v)

def execL1Exit (t port : Nat) (s : State) : Host.Outcome State Fault Refusal :=
  run s t fun c => c.when (decide (4 ≤ (c.portOf port).link ∧ (c.portOf port).link ≤ 6)) fun c => c.leaveL1 port

/-! ### Max_Payload_Size (R113) -/

/-- A change of the size: later TLPs and admissions use it; what it costs admitted commands is host time. -/
def execMpsChange (t port mps : Nat) (s : State) : Host.Outcome State Fault Refusal :=
  run s t fun c =>
    let p := c.portOf port
    c.when (decide (port < 2) && [128, 256, 512].contains mps && decide (p.mps ≠ mps)) fun c =>
      let c1 := c.setPort { p with mps := mps }
      let c2 := if (c.portCmds port).isEmpty then c1 else c1.event 0x28A 0 1 (c.unitIdent (mkUnit kPORT port)) [mps]
      Chip.portSlower c c2 port

/-! ### The controller memory buffer (R110) -/

/-- CMBMSC.CMSE set: DRAM of the size that is set for BAR2 is reserved where it fits the remainder and 64 GiB in all, and the rest is placed
again. -/
def Chip.reserveCmb (c : Chip) (port fn base : Nat) : Chip :=
  let f := c.fnOf port fn
  let n := c.bar2Ctrl port fn
  let room := c.ddrMib (fun o => o == 1 || o == 2) - c.fixedMib c.bookOn - c.ft.cmbMib
  if f.cmse then c
  else if n ≤ room ∧ c.ft.cmbMib + n ≤ 65536 then
    let p := c.portOf port
    let c1 := (c.setFn { f with cmse := true, cmbOct := n, cmbBase := base }).setPort { p with bar2Held := p.bar2Held.filter fun q => decide (q.1 ≠ fn) }
    (({ c1 with ft := { c1.ft with cmbMib := c1.ft.cmbMib + n } }).set E.CMB_RESERVED (c1.ft.cmbMib + n)).placeDram.fitGrant
  else (c.count E.CMB_REFUSED 1).event 0x287 0 1 noUnit [fnItem port fn]

def execCmbEnable (t port fn base : Nat) (s : State) : Host.Outcome State Fault Refusal :=
  run s t fun c => c.when (c.isReady && c.fnExists port fn) fun c => c.reserveCmb port fn base

/-! ### Device power states (R118) -/

/-- Commands of a function that pause, or go on: admitted ones before their commit point. -/
def Chip.pausable (c : Chip) (port fn : Nat) : List Cmd :=
  c.cmds.filter fun x => decide (x.port = port ∧ (fn = 0 ∨ x.fn = fn)) && !x.admin && !x.posted
    && decide (x.phase = .admitted ∨ x.phase = .working)

/-- A function serves the host or has been shut down: its power state can change (R118). -/
def Chip.mayChangeD (c : Chip) : Bool := c.serves || decide (c.boot.run = .shut)

/-- D3hot: fetch stops, admitted commands pause; a PF takes its VFs with it. -/
def execD3hotEntry (t port fn : Nat) (s : State) : Host.Outcome State Fault Refusal :=
  run s t fun c =>
    let f := c.fnOf port fn
    c.when (c.mayChangeD && c.portUsed port && decide (f.dstate = 0)) fun c =>
      (c.setFn { f with dstate := 3 }).each (c.pausable port fn) fun c x =>
        if x.paused.isSome then c else c.setCmd { x with paused := some c.now }

/-- A paused command goes on: the time spent paused is added to its promised time. -/
def Chip.unpause (c : Chip) (x : Cmd) : Chip :=
  match x.paused with
  | none => c
  | some t0 =>
    let c1 := (c.setCmd { x with paused := none }).hostTime x.h ((c.now - t0) * psPerCyc)
    if x.readRule ∧ x.resolved ∧ c1.allRead x.h then c1.endRead x.h else c1

/-- A shadow tail that fetch reads as it resumes (R74, R118). -/
def Chip.readShadow (c : Chip) (port fn qid tail : Nat) : Chip :=
  match (if (c.fnOf port fn).shadow ∧ !c.inD3 port fn then c.sqOf port fn qid else none) with
  | none => c
  | some q => if q.size ≤ tail then c.badDoorbell port fn qid 1 else (c.setSq { q with tail := tail }).portWorks port

/-- D0: paused commands and fetch resume, which reads the shadow doorbells; a VF whose PF stays in D3hot waits for it. -/
def execD0Entry (t port : Nat) (w : Waking) (s : State) : Host.Outcome State Fault Refusal :=
  run s t fun c =>
    let fn := w.fn
    let f := c.fnOf port fn
    c.when (c.mayChangeD && decide (f.dstate = 3)) fun c =>
      let c0 := c.setFn { f with dstate := 0 }
      let c1 := c0.each w.tails fun c q => if fn = 0 ∨ q.1 = fn then c.readShadow port q.1 q.2.1 q.2.2 else c
      c1.each (c1.cmds.filter fun x => decide (x.port = port ∧ (fn = 0 ∨ x.fn = fn)) && !c1.inD3 x.port x.fn) Chip.unpause

/-- PME_Turn_Off in D3hot: PME_TO_Ack, and the link goes to L2/L3 Ready. -/
def execPmeTurnOff (t port : Nat) (s : State) : Host.Outcome State Fault Refusal :=
  run s t fun c =>
    let p := c.portOf port
    c.when (c.portUsed port && decide ((c.fnOf port 0).dstate = 3) && decide (p.link ≠ 0)) fun c =>
      (c.setPort { p with readyL23 := true, link := 7 }).emit (.signal 4 port 1)

/-! ### DOE and SPDM (R124, R125) -/

/-- Octets of the entries of the security configuration, D7C00 to D7EFF. -/
def Chip.securityOctets (c : Chip) : List Nat :=
  (allRows.filter fun d => decide (0x7C00 ≤ idxOf d.addr ∧ idxOf d.addr ≤ 0x7EFF)).flatMap fun (d : Desc) =>
    d.subs.flatMap fun a => octetsOf (if d.type = .oct then d.octets else 8) (c.readEntry .nvme a)

/-- The six measurement blocks, each as a number. -/
def Chip.measurements (c : Chip) : List Nat :=
  let i := c.slotImage (c.get E.FW_RUNNING_SLOT)
  let image := (c.dict.newer.map ImgSlot.octets).getD []
  [Config.romDigest, i.bodySha, i.version, Config.sha384 c.securityOctets, c.fuse.rev + at' c.fuse.variant 24, Config.sha384 image]

/-- The SPDM requests served, with the response code of each. The codes and layouts here and below are those of SPDM 1.2
(PRESUMED, log entry 14). -/
def spdmCodes : List (Nat × Nat) :=
  [(0x84, 0x04), (0xE1, 0x61), (0xE3, 0x63), (0x81, 0x01), (0x82, 0x02), (0x83, 0x03), (0xE0, 0x60)]

/-- An SPDM response: the version, 1.0 in VERSION and 1.2 elsewhere, its code and what follows; ERROR 0x7F is counted and
reported. -/
def Chip.spdmSay (c : Chip) (port code : Nat) (body : List Nat) : Chip :=
  let c1 := c.count E.SPDM_REQUESTS 1
  let c2 := if code = 0x7F then (c1.count E.SPDM_ERRORS 1).eventFirst 0x289 0 1 noUnit [port, nth body 0] else c1
  c2.emit (.doe port 1 ((if code = 0x04 then 0x10 else 0x12) :: code :: body))

/-- VERSION: 1.2 alone. -/
def spdmVersions : List Nat := [0, 0, 0, 1, 0x00, 0x12]

/-- CAPABILITIES: CERT_CAP, CHAL_CAP and MEAS_CAP with signature, and messages of at most the 1,024 dwords of an object less
its header. -/
def spdmCapabilities : List Nat := [0, 0, 0, Config.spdmCtExponent % 256, 0, 0] ++ octetsOf 4 0x16 ++ octetsOf 4 4088 ++ octetsOf 4 4088

/-- ALGORITHMS: SHA-384 for measurements and every other hash, ECDSA over NIST P-384. -/
def spdmAlgorithms : List Nat :=
  [0, 0, 36, 0, 1, 0] ++ octetsOf 4 4 ++ octetsOf 4 0x80 ++ octetsOf 4 2 ++ List.replicate 16 0

/-- The six measurements as octets, with their indices and types: digests of 48 octets, the version of 8 and the fuses of 6. -/
def Chip.measured (c : Chip) : List (List Nat) :=
  let forms : List (Nat × Nat) := [(0x00, 48), (0x01, 48), (0x86, 8), (0x03, 48), (0x82, 6), (0x03, 48)]
  ((c.measurements.zip forms).zip (List.range 6)).map fun p =>
    let f := p.1.2
    [p.2 + 1, 1] ++ octetsOf 2 (f.2 + 3) ++ [f.1] ++ octetsOf 2 f.2 ++ octetsOf f.2 p.1.1

/-- The digest of the chain in slot 0. -/
def chainDigest : List Nat := octetsOf 48 (Config.sha384 Config.certChain)

/-- CERTIFICATE: a portion of the chain in slot 0; the other slots are empty, and a portion outside the chain is an invalid
request. -/
def spdmCertificate (body : List Nat) : Option (List Nat) :=
  let off := nth body 2 + 256 * nth body 3
  let n := Config.certChain.length
  let k := min (nth body 4 + 256 * nth body 5) (min 4072 (n - off))
  if nth body 0 % 16 ≠ 0 ∨ n ≤ off then none
  else some ([0, 0] ++ octetsOf 2 k ++ octetsOf 2 (n - off - k) ++ (Config.certChain.drop off).take k)

/-- A response with a fresh nonce after its head, and a signature over the request and all of it where one is asked for. -/
def Chip.spdmSigned (c : Chip) (request head tail : List Nat) (sign : Bool) : List Nat × Chip :=
  let p := c.draw
  let r := head ++ octetsOf 32 (p.1 % 2 ^ 256) ++ tail
  let sig := if sign then octetsOf 96 (Config.spdmSign p.2.free (request ++ r)) else []
  (r ++ sig, { p.2 with free := p.2.free + 1 })

/-- CHALLENGE_AUTH: the digest of the chain, a nonce, the summary of the measurements where the request asks for it (every one
counts in it, DESIGN CHOICE, log entry 58), no opaque data, the signature. -/
def Chip.challenge (c : Chip) (body : List Nat) : Option (List Nat × Chip) :=
  let summary := if nth body 1 = 0 then [] else octetsOf 48 (Config.sha384 c.measured.flatten)
  if nth body 0 % 16 ≠ 0 then none
  else some (c.spdmSigned (0x83 :: body) ([0, 1] ++ chainDigest) (summary ++ [0, 0]) true)

/-- MEASUREMENTS: their number, all of them, or one; signed where the request asks for it. -/
def Chip.measure (c : Chip) (body : List Nat) : Option (List Nat × Chip) :=
  let op := nth body 1
  let ms := if op = 0 then [] else if op = 0xFF then c.measured else (c.measured[op - 1]?).toList
  if op ≠ 0 ∧ ms = [] then none
  else some (c.spdmSigned (0xE0 :: body) ([if op = 0 then 6 else 0, 0, ms.length] ++ octetsOf 3 ms.flatten.length ++ ms.flatten) [0, 0]
    (decide (nth body 0 % 2 = 1)))

/-- The body of the response to a request that is served, or none for one that names what the device does not have. -/
def Chip.spdmBody (c : Chip) (code : Nat) (body : List Nat) : Option (List Nat × Chip) :=
  if code = 0x84 then some (spdmVersions, c)
  else if code = 0xE1 then some (spdmCapabilities, c)
  else if code = 0xE3 then some (spdmAlgorithms, c)
  else if code = 0x81 then some ([0, 1] ++ chainDigest, c)
  else if code = 0x82 then (spdmCertificate body).map fun l => (l, c)
  else if code = 0x83 then c.challenge body
  else c.measure body

/-- An SPDM request: UnsupportedRequest, Busy, or its response (R124). One out of order, before GET_VERSION or before
NEGOTIATE_ALGORITHMS, is answered with UnexpectedRequest, and one that names an empty slot or what does not exist with
InvalidRequest (DESIGN CHOICE, log entry 57). -/
def Chip.spdm (c : Chip) (port code : Nat) (body : List Nat) (busy : Bool) : Chip :=
  let p := c.portOf port
  let err := fun (k : Nat) => c.spdmSay port 0x7F [k, if k = 7 then code else 0]
  let say := fun (p : Port) => match spdmCodes.find? fun k => decide (k.1 = code), c.spdmBody code body with
    | some k, some r => (r.2.setPort p).spdmSay port k.2 r.1
    | _, _ => err 1
  if busy then err 3
  else if !(spdmCodes.any fun k => decide (k.1 = code)) then err 7
  else if code = 0x84 then say { p with spdmVersion := true, spdmAlgos := false }
  else if !p.spdmVersion then err 4
  else if code = 0xE1 then say p
  else if code = 0xE3 then say { p with spdmAlgos := true }
  else if !p.spdmAlgos then err 4
  else say p

/-- DOE Discovery (PRESUMED, log entry 14): vendor, protocol and next index; one past the last answers
the vendor FFFFh. -/
def Chip.discovery (c : Chip) (port index : Nat) : Chip :=
  let both := decide (c.get E.SPDM_ENABLE = 1)
  let v := if index = 0 then 1 + (if both then at' 1 24 else 0) else if index = 1 ∧ both then 1 + at' 1 16 else 0xFFFF
  c.emit (.doe port 0 (octetsOf 4 v))

/-- A data object: one over 1,024 dwords sets DOE Error; one of a protocol not carried is dropped. -/
def execDoeRequest (t port vendor kind length code : Nat) (body : List Nat) (busy : Bool) (s : State) : Host.Outcome State Fault Refusal :=
  run s t fun c =>
    let p := c.portOf port
    c.when (c.isReady && c.portUsed port && !p.doeError) fun c =>
      if 1024 < length then c.setPort { p with doeError := true }
      else if vendor = 1 ∧ kind = 0 then c.discovery port code
      else if vendor = 1 ∧ kind = 1 ∧ c.get E.SPDM_ENABLE = 1 then c.spdm port code body busy
      else c

/-- The DOE Abort bit. -/
def execDoeAbort (t port : Nat) (s : State) : Host.Outcome State Fault Refusal :=
  run s t fun c => c.when (decide (port < 2)) fun c =>
    c.setPort { c.portOf port with doeError := false, spdmVersion := false, spdmAlgos := false }

end Sys2Proof.Machine
end

