-- ==== Sys2Proof/Machine/Resets.lean ====
section
/-! DEFINITION. Enabling, resetting and shutting down functions, ports and the whole controller (R68, R75,
R91, R104, R114 to R116, R329, R412, R436, R441, R446, R448 to R450). -/
namespace Sys2Proof.Machine

/-! ### What a reset takes from a function (R91, R115) -/

/-- The per-function entries of a function that do not persist return to their defaults. -/
def Chip.resetFnEntries (c : Chip) (port fn : Nat) : Chip :=
  let keep := c.dict.vals.filter fun p => match descOf p.1.1 with
    | some d => !(decide (d.scope = .fn ∧ d.persist = 0 ∧ d.access = .rw ∧ p.1.2 = fnItem port fn))
    | none => true
  { c with dict := { c.dict with vals := keep } }

/-- The controller memory buffer is released and DRAM placed again (R11, R110). -/
def Chip.freeCmb (c : Chip) (port fn : Nat) : Chip :=
  if (c.fnOf port fn).cmse then (c.releaseCmb port fn).placeDram.fitGrant else c

/-- The download is discarded (R444). -/
def Chip.dropDownload (c : Chip) : Chip := { c with fw := { c.fw with down := 0, downOct := 0 } }

/-- Work whose admin command a reset discarded lapses: an activation without reset is deferred to the next reset
(R93); a Format NVM, a deletion or a detachment that still waited ends without effect (R91). -/
def Chip.lapse (c : Chip) : Chip :=
  let c1 := match c.fw.fwaH with
    | none => c
    | some h => if (c.cmd h).isSome then c.fwaDrains else { c with fw := { c.fw with fwaH := none } }
  let runs := fun (op : Nat) => c.cmds.any fun x => x.admin && decide (x.opcode = op)
  let free := fun (n : Ns) => { n with formatting := n.formatting && runs 0x80, deleting := n.deleting && runs 0x0D,
                                       detaching := if runs 0x15 then n.detaching else [] }
  let nss := c1.ft.nss.map free
  let c2 := { c1 with ft := { c1.ft with nss := nss } }
  if runs 0x80 then c2 else c2.set E.FORMAT_STATE 0

/-- Commands ended by R91, queues and the reservation returned, the buffer released; a self-test that the function
started is aborted (R95), and the PF's download is discarded. -/
def Chip.clearFn (c : Chip) (port fn : Nat) : Chip :=
  let c1 := (((c.endFn port fn).dropQueues port fn).freeCmb port fn).lapse
  let c2 := if c.lg.stOwner = some (port, fn) then c1.endSelfTest 2 0 else c1
  if fn = 0 then c2.dropDownload else c2

/-- A function taken from the table: it reads as after its port's reset. -/
def Chip.dropFn (c : Chip) (port fn : Nat) : Chip :=
  let l := drop' (fun (f : Fn) => decide (f.port = port ∧ f.fn = fn)) c.fns
  { c with fns := l }

/-- VFs of a port that hold state. -/
def Chip.vfsOf (c : Chip) (port : Nat) : List Nat := (c.fns.filter fun f => decide (f.port = port ∧ f.fn ≠ 0)).map Fn.fn

/-! ### CC.EN (R68, R75, R436) -/

/-- The admin queue pair of a function that becomes ready (R75); its arbitration is as CC.AMS says. -/
def Chip.adminQueues (c : Chip) (port fn : Nat) : Chip :=
  let f := c.fnOf port fn
  let q : Sq := { port := port, fn := fn, qid := 0, size := f.asqs, head := 0, tail := 0, base := 0, prio := 0, cq := 0, cls := 3, floor := 0,
                  deleting := false, fetched := 0, completed := 0, refused := 0, eventIdx := 0, drain := false }
  let k : Cq := { port := port, fn := fn, qid := 0, size := f.acqs, head := 0, tail := 0, phase := 1, base := 0, vector := 0, ien := true,
                  eventIdx := 0 }
  (c.setSq q).setCq k

/-- CSTS.RDY is set where the function is enabled, its admin queues are within 4,096 entries, its reset has
drained and the controller serves it: all functions in service, the PF of PORT0 in ROM recovery. -/
def Chip.makeReady (c : Chip) (port fn : Nat) : Chip :=
  let f := c.fnOf port fn
  let served := c.isReady || (decide (c.boot.run = .recovery) && decide (port = 0 ∧ fn = 0))
  if f.en && !f.rdy && served && decide (f.flr = 0) && decide (2 ≤ f.asqs ∧ f.asqs ≤ 4096 ∧ 2 ≤ f.acqs ∧ f.acqs ≤ 4096) then
    let mp := [E.PS0_MP, E.PS1_MP, E.PS2_MP, E.PS3_MP, E.PS4_MP].map c.get
    (c.setFn { f with rdy := true, psMp := mp }).adminQueues port fn
  else c

/-- Configuration space as the host has left it, of a function and of its PF (log entry 37). Writing one to PME_Status
clears it and releases WAKE# (R123), and so does it to the AER errors of the function; vectors that are no longer masked send what was
pending. Functions whose buffer is reserved keep the BAR2 that they have (R110). -/
def Chip.takeConfig (c : Chip) (port fn : Nat) (g : EnableCfg) : Chip :=
  let p := c.portOf port
  let aer := if g.aerClear then p.aerErrors.filter fun q => decide (q.1 ≠ fn) else p.aerErrors
  let c0 := c.setPort { p with cfg := g.pf, pmeEn := g.pf.pmeEn, pmeStatus := p.pmeStatus && !g.pmeClear, wake := p.wake && !g.pmeClear, aerErrors := aer }
  let resized := (c.fns.filter fun f => decide (f.port = port) && f.cmse && decide (c0.bar2Mib port f.fn ≠ c.bar2Mib port f.fn)).map
    fun f => (f.fn, c.bar2Mib port f.fn)
  let c1 := c0.setPort { c0.portOf port with bar2Held := p.bar2Held ++ resized }
  (c1.setFn { c1.fnOf port fn with cfg := g.fn }).unmasked port fn

/-- CC.EN written to 1, at any time after step 1 of a start (R436), on a function that the port presents (R103). -/
def execCcEnable (t port fn : Nat) (cfg : EnableCfg) (asqs acqs : Nat) (s : State) : Host.Outcome State Fault Refusal :=
  run s t fun c => c.when (c.endpointUp && c.portUsed port) fun c =>
    let c1 := c.takeConfig port fn cfg
    let f := c1.fnOf port fn
    if c1.fnExists port fn && !f.en && !decide (c.boot.run = .shut) then
      (c1.setFn { f with en := true, ams := cfg.ams, asqs := asqs, acqs := acqs, shst := 0 }).makeReady port fn
    else c

/-! ### The cores restart (R412, R437, R446) -/

/-- The power rails are up and the cores restart in the boot ROM for a cause (R454). -/
def Chip.restart (c : Chip) (cause : Nat) : Chip :=
  let c1 := c.haltCores .rails
  { c1 with boot := { c1.boot with cause := cause, railsT := c1.now } }

/-- The flush steps on main power, with the image written first (R374); should main power fail while they run,
the sequence ends on the store and the rails fall. -/
def Chip.flushOnMain (c : Chip) (reason : Nat) (f : FlushInput) : Chip :=
  (if f.mainLost then c else c.flushImage).flushSteps reason false f

/-- After the steps: a restart for a cause, or, without main power, VAON alone. -/
def Chip.afterFlush (c : Chip) (cause : Nat) (f : FlushInput) : Chip :=
  if f.mainLost then
    let c1 := c.haltCores .standby
    { c1 with boot := { c1.boot with trained := false } }
  else c.restart cause

/-- An activation reset (R446): configuration space and MSI-X tables stay. -/
def Chip.activationReset (c : Chip) (f : FlushInput) : Chip :=
  let c1 := c.each c.fns fun c g => c.clearFn g.port g.fn
  (c1.flushOnMain 5 f).afterFlush 2 f

/-! ### Controller reset (R91, R441, R446, R449) -/

/-- CC.EN cleared: the function is as after its reset, its configuration space, D-state and a drain apart. -/
def Chip.disable (c : Chip) (port fn : Nat) : Chip :=
  let f := c.fnOf port fn
  ((c.clearFn port fn).setFn { Fn.initial port fn with dstate := f.dstate, flr := f.flr, flrT := f.flrT, cfg := f.cfg }).portEnds port

/-- Other functions that have CC.EN set. -/
def Chip.othersOn (c : Chip) (port fn : Nat) : List Fn := c.fns.filter fun g => g.en && !decide (g.port = port ∧ g.fn = fn)

/-- CC.EN cleared. On a PF with no other function enabled a pending slot is activated; after a shutdown the PF
restarts the controller; in ROM recovery a newly committed image is. -/
def Chip.controllerReset (c : Chip) (port fn : Nat) (f : FlushInput) : Chip :=
  let c1 := c.disable port fn
  let passes := c.fw.slots.any fun i => decide (c.imageCheck i = 0)
  if c.boot.run = .shut then (if fn = 0 then c1.restart 3 else c1)
  else if c.boot.run = .recovery then (if passes then c1.restart 2 else c1)
  else if fn = 0 ∧ c.isReady ∧ c.get E.FW_PENDING_SLOT ≠ 0 ∧ (c.othersOn port fn).isEmpty then c1.activationReset f
  else c1

/-- CC.EN cleared on an enabled function. A shutdown of the function that has not ended ends first: the row, tried again then,
finds nothing in flight (R450). -/
def execControllerReset (t port fn : Nat) (flush : FlushInput) (s : State) : Host.Outcome State Fault Refusal :=
  runUnits s t fun c => c.when ((c.fnOf port fn).en && !(c.isReady && decide ((c.fnOf port fn).shst = 1))) fun c => c.controllerReset port fn flush

/-! ### Shutdown (R448 to R450) -/

/-- Work of a function that its drain still waits for; a Format NVM and an activation without reset are waited
for too (R450). -/
def Chip.draining (c : Chip) (port fn : Nat) : Bool :=
  (c.cmds.any fun x => decide (x.port = port ∧ x.fn = fn) && !x.admin && !x.posted && !x.silent && decide (x.phase ≠ .inside))
    || decide (c.get E.FORMAT_STATE ≠ 0) || c.fw.fwaH.isSome

/-- The device-wide steps 3 and 4: the flush with reason 4, then WP# low and the cores wait; every function that
asked reads SHST 10b. -/
def Chip.shutDown (c : Chip) (f : FlushInput) (t0 : Nat) : Chip :=
  let c1 := c.flushOnMain 4 f
  let us := (c1.now - t0) / cycPerUs
  let c2 := (((c1.count E.SHN_COUNT 1).set E.SHN_LAST_TIME us).event 0x58A 0 2 noUnit [c.fw.shnKind, 1, us])
  if f.mainLost then c2.afterFlush 3 f
  else
    let fns := c2.fns.map fun g => if g.shst = 0 then g else { g with shst := 2 }
    let qs := c2.qs
    let c3 := c2.haltCores .shut
    { c3 with fns := fns, qs := qs, fw := { c3.fw with shn := 3 } }

/-- The device-wide shutdown begins (R449 step 1): fetch stops on every port, every function that has asked for shutdown reads
SHST 01b, and the partner is told. -/
def Chip.beginWide (c : Chip) (kind : Nat) : Chip :=
  let fns := c.fns.map fun o => if o.shst = 2 then { o with shst := 1, shnT := c.now } else o
  let c1 := { c with fns := fns, fw := { c.fw with shn := 1, shnKind := kind }, boot := { c.boot with fetchHeld := true } }
  let c2 := c1.event 0x58A 0 2 noUnit [kind, 0]
  if c2.pr.joined then c2.sendFrame 0x40 0 true [2, 1] [] else c2

/-- A function's drain has ended: it is complete, or, where the shutdown is device-wide and no other function that asked still
drains, the controller flushes. -/
def Chip.drained (c : Chip) (port fn : Nat) (f : FlushInput) : Chip :=
  let g := c.fnOf port fn
  if g.shst ≠ 1 ∨ c.draining port fn then c
  else if c.fw.shn = 1 ∧ c.fns.any fun o => decide (o.shst = 1) && c.draining o.port o.fn then c
  else if c.fw.shn = 1 then ({ c with fw := { c.fw with shn := 2 } }).shutDown f g.shnT
  else c.setFn { g with shst := 2 }

/-- The drain of step 2: class 3 commands not admitted end with Commands Aborted due to Power Loss Notification, and an
abrupt one ends the rest as step 1 of R291 does. -/
def Chip.beginDrain (c : Chip) (port fn : Nat) (abrupt : Bool) : Chip :=
  if abrupt then c.endFn port fn
  else
    let l := c.cmds.filter fun x => decide (x.port = port ∧ x.fn = fn) && !x.admin && decide (3 ≤ x.cls) && decide (x.phase = .fetched ∨ x.phase = .waiting)
    c.each l fun c x => (c.undo x.h).fail x.h stPowerLoss

/-- CC.SHN written (R448): a second one has no effect. It is device-wide on a PF while every other enabled function
has completed its own. A non-operational state is left first. During a start the flush follows step 7: the row, tried again
then, runs it (R450). In ROM recovery nothing is in flight and nothing is written: the function's shutdown is complete at once. -/
def Chip.notify (c : Chip) (port fn : Nat) (abrupt : Bool) (f : FlushInput) : Chip :=
  let g := c.fnOf port fn
  let kind := if abrupt then 1 else 0
  if g.shst = 1 ∧ c.isReady then c.drained port fn f
  else if g.shst = 1 ∧ fn = 0 ∧ c.boot.run = .starting ∧ c.boot.step = 7 then
    ({ c with fw := { c.fw with shn := 2, shnKind := kind } }).shutDown f g.shnT
  else if g.shst ≠ 0 then c
  else if c.boot.run = .recovery then c.setFn { g with shst := 2, shnT := c.now }
  else
    let wide := decide (fn = 0) && (c.othersOn port fn).all fun o => decide (o.shst = 2)
    let c1 := (c.setFn { g with shst := 1, shnT := c.now })
    if c.isReady then
      let c2 := c1.leavePs 7
      ((if wide then c2.beginWide kind else c2).beginDrain port fn abrupt).drained port fn f
    else c1

def execShutdownNormal (t port fn : Nat) (flush : FlushInput) (s : State) : Host.Outcome State Fault Refusal :=
  run s t fun c => c.when (c.fnOf port fn).en fun c => c.notify port fn false flush

def execShutdownAbrupt (t port fn : Nat) (flush : FlushInput) (s : State) : Host.Outcome State Fault Refusal :=
  run s t fun c => c.when (c.fnOf port fn).en fun c => c.notify port fn true flush

/-- A drain has passed SHN_DRAIN_LIMIT: what it waits for ends as for an abrupt shutdown. -/
def execShnDrainLimit (t : Nat) (flush : FlushInput) (s : State) : Host.Outcome State Fault Refusal :=
  run s t fun c => c.when c.isReady fun c =>
    let late := c.fns.filter fun g => decide (g.shst = 1 ∧ g.shnT + c.get E.SHN_DRAIN_LIMIT * cycPerMs ≤ c.now)
    c.each late fun c g => (c.endFn g.port g.fn).drained g.port g.fn flush

/-! ### Function-level reset (R104, R115, R116) -/

/-- Every VF of some of a port goes: commands, queues, buffer, entries; VF Enable is clear. -/
def Chip.clearVfs (c : Chip) (port : Nat) (vfs : List Nat) : Chip :=
  let c1 := c.each vfs fun c n => ((c.clearFn port n).resetFnEntries port n).dropFn port n
  let p := c1.portOf port
  c1.setPort { p with cfg := { p.cfg with vfEnable := false } }

/-- The registers of a PF for its port as a function-level reset leaves them (R115): as reset, with the routing ID that the
host's requests carry, and no DOE error or SPDM session. -/
def Chip.resetPf (c : Chip) (port : Nat) : Chip :=
  let p := c.portOf port
  c.setPort { p with cfg := { PfCfg.initial with rid := p.cfg.rid }, doeError := false, spdmVersion := false, spdmAlgos := false, bar2Held := [] }

def execVfEnableClear (t port : Nat) (s : State) : Host.Outcome State Fault Refusal :=
  run s t fun c => c.when (c.portUsed port) fun c => c.clearVfs port (c.vfsOf port)

/-- A second reset during the drain of a function takes back what it was given since, and the drain goes on (R116). -/
def Chip.flrAgain (c : Chip) (port fn : Nat) : Chip :=
  let f := c.fnOf port fn
  ((c.freeCmb port fn).resetFnEntries port fn).setFn { Fn.initial port fn with flr := 1, flrT := f.flrT, granted := f.granted }

/-- What the reset of a PF takes besides: its download, its VFs, of which those in their own drain go on with it, and its registers
(R104, R115, R116). -/
def Chip.flrPf (c : Chip) (port : Nat) : Chip :=
  let draining := (c.vfsOf port).filter fun n => decide ((c.fnOf port n).flr = 1)
  let gone := (c.vfsOf port).filter fun n => decide ((c.fnOf port n).flr ≠ 1)
  ((c.dropDownload.each draining fun c n => c.flrAgain port n).clearVfs port gone).resetPf port

/-- Steps 1 to 3: commands end, the function is disabled in D0 with its configuration space as reset, and its queues and the memory reads
that are open stay until the drain ends. A second reset during the drain is counted. -/
def Chip.beginFlr (c : Chip) (port fn : Nat) : Chip :=
  let f := c.fnOf port fn
  let c0 := (c.countAt E.FLR_COUNT (fnItem port fn) 1).event 0x284 0 1 noUnit [fnItem port fn, 0]
  let c4 := if f.flr = 1 then c0.flrAgain port fn
    else
      let reads := (c.cmds.filter fun x => decide (x.port = port ∧ x.fn = fn) && x.dmaOpen).map fun x => (fn, x.h)
      let p := c0.portOf port
      let c1 := ((c0.setPort { p with drains := (p.drains.filter fun d => decide (d.1 ≠ fn)) ++ reads }).endFn port fn).lapse
      let c2 := if c.lg.stOwner = some (port, fn) then c1.endSelfTest 2 0 else c1
      let c3 := (c2.freeCmb port fn).resetFnEntries port fn
      c3.setFn { Fn.initial port fn with flr := 1, flrT := c3.now, granted := f.granted }
  if fn = 0 then c4.flrPf port else c4

def execFlrInitiate (t port fn : Nat) (s : State) : Host.Outcome State Fault Refusal :=
  run s t fun c => c.when (c.endpointUp && c.fnExists port fn) fun c => c.beginFlr port fn

/-- Step 5: queues deleted; FLR_STATE reads 2 until CSTS.RDY is set where CC.EN was written meanwhile, which the row,
tried again, sets, and 0 otherwise. -/
def Chip.flrDone (c : Chip) (port fn : Nat) : Chip :=
  let f := c.fnOf port fn
  if f.flr = 1 then
    let us := (c.now - f.flrT) / cycPerUs
    let c1 := ((c.dropQueues port fn).setAt E.FLR_LAST_DRAIN (fnItem port fn) us).event 0x284 0 1 noUnit [fnItem port fn, 1, us]
    (c1.setFn { c1.fnOf port fn with flr := if f.en then 2 else 0 }).portEnds port
  else if f.flr = 2 then (c.setFn { f with flr := 0 }).makeReady port fn
  else c

def execFlrDrainDone (t port fn : Nat) (s : State) : Host.Outcome State Fault Refusal :=
  run s t fun c => c.flrDone port fn

/-! ### Port reset and full fundamental reset (R114, R115, R329) -/

/-- The sizes and identifiers that a port takes at its reset (R126, R128). -/
def Chip.latchPort (c : Chip) (p : Port) : Port :=
  { p with bar0 := c.get E.PF_BAR0_SIZE, bar2 := c.get E.PF_BAR2_DEFAULT, bar4 := c.get E.PF_BAR4_SIZE, vfBar0 := c.get E.VF_BAR0_SIZE,
           vfBar2 := c.get E.VF_BAR2_DEFAULT, totalVfs := c.get E.TOTAL_VFS, subsysVendor := c.get E.SUBSYS_VENDOR_ID,
           subsysId := c.get E.SUBSYS_ID }

/-- A port reset of a kind: 0 PERST#, 1 hot reset, 2 link disable, 3 link down. Its windows go RETIRED with cause 4,
its functions are as initialised, its configuration space, PME_En and PME_Status among it, is as reset, and its link is down. -/
def Chip.resetPort (c : Chip) (port kind : Nat) : Chip :=
  let fs := (c.fns.filter fun f => decide (f.port = port)).map Fn.fn
  let c1 := c.each fs fun c n => ((c.clearFn port n).resetFnEntries port n).dropFn port n
  let armed := (c1.wins.filter fun w => decide (w.port = port ∧ w.state = 1)).map Win5.win
  let c2 := (c1.each armed fun c w => c.retireWin port w 4 none).dropDownload
  let p := c2.portOf port
  let new := c2.latchPort { Port.initial port with perst := decide (kind = 0) || p.perst, link := if kind = 1 then 1 else 0 }
  let c3 := ((c2.setPort new).countAt E.PORT_RESETS port 1).event (0x282 + port) 0 1 (c2.unitIdent (mkUnit kPORT port)) [kind]
  c3.event (0x280 + port) 2 1 (c3.unitIdent (mkUnit kPORT port)) []

/-- PERST# of one port resets it while the other port's is deasserted, in mode 1; the other kinds always do, wherever the rails are up and
a link can be (R114). -/
def execPortReset (t port kind : Nat) (s : State) : Host.Outcome State Fault Refusal :=
  runUnits s t fun c =>
    let single := decide (c.boot.portMode = 1) && !(c.portOf (1 - port)).perst
    c.when (!c.boot.run.railsOff && c.portUsed port && decide (kind ≤ 3) && (decide (kind ≠ 0) || single)) fun c => c.resetPort port kind

/-- What a full fundamental reset leaves of the ports, the functions, the windows and the sessions: PERST# asserted, links down,
functions as initialised, every window FREE, every session ended, and the port mode of PORT_MODE (R100). -/
def Chip.fundamental (c : Chip) : Chip :=
  let ports := c.ports.map fun p => c.latchPort (Port.initial p.port)
  let c1 := c.each (c.mg.sessions.map Sess.id) fun c id => c.endSession id 3
  let c2 := { c1 with ports := ports, wins := [], fns := [], boot := { c1.boot with portMode := c.get E.PORT_MODE } }
  (c2.each c2.ports fun c p => c.countAt E.PORT_RESETS p.port 1).set E.MCTP_EID 0

/-- PERST# on every port in use (R114, R115): in service the flush steps with reason 3; a start is interrupted
(R437); a thermal hold goes on unless its diode is broken (R425); without rails only the ports are reset. -/
def Chip.fullReset (c : Chip) (f : FlushInput) : Chip :=
  let again := fun (c : Chip) => let c1 := c.fundamental.afterFlush 1 f; { c1 with boot := { c1.boot with trained := false } }
  match c.boot.run with
  | .ready => again ((c.each c.fns fun c g => (c.clearFn g.port g.fn).dropFn g.port g.fn).flushOnMain 3 f)
  | .starting => again (c.interruptStart 3 false f)
  | .recovery => again c
  | .shut => again c
  | .halted => again c
  | .rails =>
    let c1 := c.fundamental
    { c1 with boot := { c1.boot with cause := if c.boot.cause = 0 ∨ c.boot.cause = 4 then c.boot.cause else 1, trained := false } }
  | .thermalHold =>
    if c.get E.SENSOR_FAULT = 1 then
      let c1 := again c
      { c1 with pm := { c1.pm with vrEn := true } }
    else c.fundamental
  | .dark => c.fundamental
  | .standby => c.fundamental

def execFullFundamentalReset (t : Nat) (flush : FlushInput) (s : State) : Host.Outcome State Fault Refusal :=
  run s t fun c => c.fullReset flush

end Sys2Proof.Machine
end

