-- ==== Sys2Proof/Machine/Start.lean ====
section
/-! DEFINITION. Power-up and the eight steps of a start (R114, R194, R295, R296, R376, R434 to R441, R465). -/
namespace Sys2Proof.Machine

/-! ### Before the start (R434) -/

/-- VAON: the always-on domain runs on the slow oscillator. -/
def Chip.vaonUp (c : Chip) : Chip :=
  { c with boot := { c.boot with run := .standby }, pm := { c.pm with clock := 3, vrEn := false, vrGood := false } }

def execVaonUp (t : Nat) (s : State) : Host.Outcome State Fault Refusal :=
  run s t fun c => c.when (decide (c.boot.run = .dark)) Chip.vaonUp

/-- The main input has been good for 10 ms: VR_EN goes high, not within 1 s of the last failure. -/
def Chip.mainGood (c : Chip) : Chip :=
  ({ c with boot := { c.boot with run := .rails, railsT := c.now, cause := 0, trained := false },
            pm := { c.pm with vrEn := true, vrGood := false } }).wakeStore

def execMain12vGood (t : Nat) (s : State) : Host.Outcome State Fault Refusal :=
  run s t fun c => c.when (decide (c.boot.run = .standby ∧ c.boot.retryT ≤ c.now)) Chip.mainGood

/-- VR_PGOOD is not high 20 ms after VR_EN: the regulator goes off, for 1 s. -/
def Chip.pgoodLate (c : Chip) : Chip :=
  { c with boot := { c.boot with run := .standby, retryT := c.now + cycPerSec }, pm := { c.pm with vrEn := false, vrGood := false } }

def execVrPgoodTimeout (t : Nat) (s : State) : Host.Outcome State Fault Refusal :=
  run s t fun c =>
    c.when (decide (c.boot.run = .rails) && c.pm.vrEn && !c.pm.vrGood && decide (c.boot.railsT + 20 * cycPerMs ≤ c.now)) Chip.pgoodLate

/-! ### Step 1: the cores begin anew -/

/-- The causes of a start that begins with every fundamental reset and power-up: the straps and the entries for
the next full fundamental reset are taken. -/
def freshCause (cause : Nat) : Bool := decide (cause = 0 ∨ cause = 1 ∨ cause = 4)

/-- Entries that do not persist and are kept through a start all the same: sequences that go on, the gauge, readings,
the regulator, what the always-on domain holds, and, after an activation, the peer windows (R271, R329, R412, R446). -/
def startKeeps (cause : Nat) (a : Nat) : Bool :=
  [E.JRN_NEXT_SEQ, E.SB_NEXT_SEQ, E.GAUGE_STATE, E.STORE_V_STACK, E.STORE_I, E.CELL_V, E.PREPARE_STATE, E.ADC_SAMPLES,
    E.ADC_SLOT_FAILS, E.V12_MAIN, E.V3V3_AUX, E.VCORE_SENSE, E.TJ, E.SENSOR_FAULT].contains a
  || (!freshCause cause && [E.VCORE_TARGET, E.MCTP_EID, E.SB_STATE].contains a)
  || (decide (cause = 2) && decide (idxOf a = 0x5100))

/-- The values that a start begins with (R458): entries that persist and those kept. -/
def Chip.startVals (c0 : Chip) : Chip :=
  let c := c0.halfWritten
  let keep := c.dict.vals.filter fun p => persists p.1.1 || startKeeps c.boot.cause p.1.1
  let d := { c.dict with vals := keep, clamps := [], wins := [Win.initial, Win.initial], writing := false, snap := [] }
  { c with dict := d }

/-- The Hallmark that is valid: its CRC passes and its session is the boot count recorded at the previous start (R295). -/
def Chip.validMark (c : Chip) : Option Hallmark := c.boot.hallmark.filter fun h => h.ok && decide (h.session = c.get E.BOOT_COUNT)

/-- The ring starts empty, and record numbers go on (R464, R465). -/
def Chip.startEvents (c : Chip) : Chip :=
  let m := c.validMark
  let next := match m with
    | some h => h.evNext
    | none => (((c.ev.pages.flatten.getLast?).map EvRec.num).getD 0 + 1) % 2 ^ 32
  let lost := (m.map fun h => min (max20 - 1) h.excerptLost).getD max20
  (((({ c with ev := { Ev.initial with pages := c.ev.pages, sec := secOf c.now } }).set E.EVT_NEXT next).set E.EVT_FIRST next).set
    E.EXCERPT_LOST_LAST lost)

/-- What DRAM, SRAM and the engines held is gone: the map, the Crucible, the Scorebook, what was being read, written or
budgeted; what the system area, the dies and the always-on domain hold stays. -/
def Chip.startClean (c : Chip) : Chip :=
  let streams := c.ft.streams.map fun s => { s with active := [], full := [] }
  let dies := c.md.dies.map fun d => { d with ops := [], temp := none, tempAge := 0, tempT := 0 }
  let chans := c.md.chans.map fun k => { k with fails := 0, outages := [], jobs := [] }
  let ft := { c.ft with map := [], streams := streams, loaded := [], loading := [], rotation := [], slots := [], dir := [], order := [],
                        cmbMib := 0 }
  let book := { c.book with cells := [], stash := [], page := [], full := [], loaded := [], placeholders := [], tried := [] }
  let pr := { Pr.initial with strap := c.pr.strap, marks := c.pr.savedMarks, unconfirmed := c.pr.savedUnconf, diverged := c.pr.diverged,
                              savedMarks := c.pr.savedMarks, savedUnconf := c.pr.savedUnconf, pairKey := c.pr.pairKey }
  { c with cmds := [], lk := { main := [], held := [] }, um := { Um.initial with inning := c.inning }, ft := ft,
           md := { c.md with dies := dies, chans := chans }, rd := { c.rd with tasks := [], pins := [], counts := [], learnT := c.now },
           sb := { c.sb with held := [], realloc := [] }, book := book, pr := pr, st := { c.st with dirty := 0, proof := false },
           fw := { c.fw with down := 0, downOct := 0, fwaH := none, shn := 0 }, boot := { c.boot with cfs := false, maint := false, found := none },
           wins := if c.boot.cause = 2 then c.wins else [],
           pm := { Pm.initial with clock := c.pm.clock, vrEn := c.pm.vrEn, vrGood := c.pm.vrGood, idleT := c.now, avsT := c.now,
                                   marginT := c.now, avsStopped := c.pm.avsStopped && !freshCause c.boot.cause,
                                   vcoreFails := if freshCause c.boot.cause then 0 else c.pm.vcoreFails },
           mg := if freshCause c.boot.cause then { c.mg with sessions := [] } else c.mg }

/-- A Format NVM, a deletion or a detachment that was cut short has had no effect on its namespace. The keys come from the system area, where
they are wrapped under the device key (R164). -/
def Chip.startNss (c : Chip) : Chip :=
  let nss := c.ft.nss.map fun n => { n with key := (Config.keyWrap c.fuse.secret).symm n.wrapped, formatting := false, deleting := false, detaching := [] }
  { c with ft := { c.ft with nss := nss } }

/-- A control core fails its self-test (R16, R165): it is retired, its cluster is DEGRADED, and with its fourth core the
cluster is RETIRED. -/
def Chip.coreRetired (c : Chip) (core : Nat) : Chip :=
  let u := mkUnit kCLUS (core / 4)
  if 24 ≤ core ∨ c.un.cores.contains core then c
  else
    let c1 := ({ c with un := { c.un with cores := c.un.cores ++ [core] } }).event (0x318 + core / 4) 1 1 (c.unitIdent u) [core % 4]
    if (c1.un.cores.filter fun k => decide (k / 4 = core / 4)).length = 4 then c1.permanentFault u 3 else c1.setDegraded u true

/-- A rate of the ladder of R489 that a DDR channel's training comes to, and 0 for none. -/
def ddrLadder (rate : Nat) : Nat := ([6400, 5600, 4800].find? fun r => decide (r ≤ rate)).getD 0

/-- Step 1. The strap is sampled after a full fundamental reset or power-up (R474). A self-test that ran is aborted; cores that fail their self-test are retired (DESIGN CHOICE, log entry 20); a broken diode holds THROTTLE_STEP at 8 (R424, R436). -/
def Chip.step1 (c : Chip) (inp : StartInput) : Chip :=
  let c0 := ((c.endSelfTest 2 0).startVals.startEvents).startClean.startNss
  let strap := if freshCause c.boot.cause then inp.pairId else c.pr.strap
  let c1 := ({ c0 with pr := { c0.pr with strap := strap } }).each inp.badCores Chip.coreRetired
  if c1.get E.SENSOR_FAULT = 1 then (c1.set E.THROTTLE_STEP 8).set E.THROTTLE_FACTOR (c1.stepFactor 8) else c1

/-! ### Step 2: the image check (R440, R441) -/

/-- The boot order: the pending slot, the one that last ran, the others in ascending order. -/
def Chip.bootOrder (c : Chip) : List Nat :=
  (((if c.get E.FW_PENDING_SLOT = 0 then [] else [c.get E.FW_PENDING_SLOT]) ++ [c.fw.lastRan, 1, 2, 3]).filter fun k =>
    decide (1 ≤ k ∧ k ≤ 3)).eraseDups

/-- The slots checked in order until one passes: that slot, and each one that failed reported and marked. -/
def Chip.checkSlots (c : Chip) : List Nat → Option Nat × Chip
  | [] => (none, c)
  | k :: r =>
    let p := c.checkSlot k (c.slotImage k)
    if p.1 then (some k, p.2)
    else (p.2.set E.BOOT_FAIL_MASK (p.2.get E.BOOT_FAIL_MASK ||| 2 ^ k)).checkSlots r

/-- ROM recovery: the PF of PORT0 alone is served. -/
def Chip.romRecovery (c : Chip) : Chip :=
  let ports := c.ports.map fun p => { p with totalVfs := 0 }
  let c1 := (((c.set E.BOOT_RESULT 2).set E.FW_RUNNING_SLOT 0).event 0x588 1 5 noUnit [])
  ({ c1 with ports := ports, boot := { c1.boot with run := .recovery, fetchHeld := false } }).makeReady 0 0

/-- Step 2. -/
def Chip.step2 (c : Chip) : Chip :=
  let order := c.bootOrder
  match c.checkSlots order with
  | (none, c1) => c1.romRecovery
  | (some k, c1) =>
    let c2 := c1.set E.FW_RUNNING_SLOT k
    if order.head? = some k then c2.set E.BOOT_RESULT 0 else (c2.set E.BOOT_RESULT 1).event 0x588 0 3 noUnit [k]

/-! ### Step 3: clocks and DRAM (R414, R435, R436) -/

/-- Step 3 is skipped when the rails stayed up and DRAM training is still valid. -/
def Chip.skips3 (c : Chip) : Bool := c.boot.trained && decide (c.boot.cause = 2 ∨ c.boot.cause = 3)

/-- Step 3: the root PLL and the DDR channels' sizes, up to 64 GiB, and rates; a rate of 0 is a channel that failed three
attempts (R489). -/
def Chip.step3 (c : Chip) (inp : StartInput) : Chip :=
  if c.skips3 then { c with pm := { c.pm with clock := 1 } }
  else
    let c1 := { c with pm := { c.pm with clock := 1 }, boot := { c.boot with trained := true, ddrGib := inp.ddrGib.map (min 64),
                                                                                ddrRate := inp.ddrRate.map ddrLadder } }
    c1.count E.PLL_LOCKS 1

/-! ### Step 4: the system area -/

/-- The pending activation ends, with the slot that runs (R441, R446). -/
def Chip.bootedSlot (c : Chip) : Chip :=
  let k := c.get E.FW_RUNNING_SLOT
  let p := c.get E.FW_PENDING_SLOT
  let c1 := { c with fw := { c.fw with lastRan := k } }
  if p = 0 then c1
  else if p = k then ((c1.count E.FW_ACTIVATIONS 1).event 0x58B 1 2 noUnit [0]).set E.FW_PENDING_SLOT 0
  else (c1.event 0x58B 1 2 noUnit [1]).set E.FW_PENDING_SLOT 0

/-- A unit is in use or not by configuration (R492): one left out is ABSENT with cause 7, and one that was RETIRED in use is
RETIRED again, with its cause, when it is next in use. -/
def Chip.useUnit (c : Chip) (u : Nat) (on : Bool) : Chip :=
  let r := c.unitRec u
  if on ∧ r.own = 0 ∧ r.cause = 7 then
    if r.parked = 0 then c.setOwn u 1 0 else (c.setUnit { r with parked := 0 }).setOwn u 4 r.parked
  else if !on ∧ 1 ≤ r.own then (c.setUnit { r with parked := if r.own = 4 then r.cause else 0, probe := 0 }).setOwn u 0 7
  else c

/-- What a full fundamental reset and a power-up take: PAIR_MODE, PORT_MODE and the sizes of the
ports (R126, R128, R342, R360). -/
def Chip.takeModes (c : Chip) : Chip :=
  if !freshCause c.boot.cause then c
  else
    let c1 := { c with boot := { c.boot with pairMode := c.get E.PAIR_MODE, portMode := c.get E.PORT_MODE } }
    let ports := c1.ports.map c1.latchPort
    let c2 := ({ c1 with ports := ports }).useUnit (mkUnit kPORT 1) (decide (c1.boot.portMode = 1))
    let c3 := c2.useUnit (mkUnit kRALLY 0) (decide (c2.boot.pairMode = 1))
    if c3.boot.pairMode = 0 ∧ c3.get E.PAIR_STATE ≠ 4 then c3.setPairState 4 0 else c3

/-- DDR channels (R16, R165, R435): one that failed training is RETIRED, one below DDR5-6400 is DEGRADED; each reports the
rate it has trained to. -/
def Chip.trainDdr (c : Chip) : Chip :=
  c.each (List.range 4) fun c d =>
    let u := mkUnit kDDR d
    let rate := nth c.boot.ddrRate d
    let low := decide (rate < 6400)
    if c.own u = 0 then c
    else if rate = 0 then c.permanentFault u 3
    else if c.own u = 4 then c
    else (c.event (0x310 + d) 1 1 (c.unitIdent u) [rate]).setDegraded u low

/-- The Scorebook (R305, R324): SB_ENABLE is taken at a full fundamental reset; one that would not fit stays disabled,
and disabling it discards it. Its slices are loaded again at every start. -/
def Chip.takeBook (c : Chip) : Chip :=
  if !freshCause c.boot.cause then (if c.bookOn then c.set E.SB_STATE 1 else c)
  else if c.get E.SB_ENABLE = 0 then
    let c1 := ({ c with book := Book.initial }).set E.SB_STATE 0
    if c.book.created then c1.event 0x400 0 1 noUnit [0] else c1
  else if c.ddrMib (fun o => decide (1 ≤ o ∧ o ≤ 3)) < c.fixedMib true then (c.set E.SB_STATE 3).event 0x400 0 1 noUnit [3]
  else ((if c.book.created then c else c.drawSeeds).set E.SB_STATE 1).event 0x400 0 1 noUnit [1]

/-- Identification of the targets (R176, R177): at the first format the reference geometry and the fitted set; later
a fitted target that does not answer is RETIRED, its failure being a failed probe, and one that no longer suits the reference recorded
then is ABSENT with cause 6; a volume appointment that fails is reported (R175 to R177, R180
step 2). -/
def Chip.identify (c : Chip) (inp : StartInput) : Chip :=
  let c0 := { c with md := { c.md with answering := inp.targets } }
  let c1 := c0.each (inp.targets.filter fun i => i.answers && i.volumes && !i.appointed && !fusedOff c.fuse.variant (mkUnit kTGT (tgtIndex i))) fun c i =>
    c.event (8 * i.ch + 2) 1 1 (c.unitIdent (mkUnit kTGT (tgtIndex i))) [i.t]
  if c1.md.tgts = [] then
    match reference inp.targets with
    | none => c1
    | some r =>
      let md := { c1.md with passes := r.passes }
      let c2 := (({ c1 with md := md }).recordFitted).set E.SPARE_INIT_ACTIVE (c1.get E.SPARE_INIT)
      c2.each (c2.md.dies.map Die.lun) Chip.spareState
  else
    let found := (inp.targets.filter (reachable inp.targets)).map tgtIndex
    let unfit := c1.md.tgts.filter fun x => inp.targets.any fun i => decide (tgtIndex i = x.tgt) && reachable inp.targets i
      && !suits c1.md.geometry (c1.get E.NAND_IFACE) inp.targets i
    let c2 := c1.each unfit fun c x =>
      let u := mkUnit kTGT x.tgt
      if 1 ≤ c.own u ∧ c.own u ≤ 3 then
        (c.setOwn u 0 6).event (8 * (x.tgt / 16) + 2) 2 1 (c.unitIdent u) [x.tgt % 16]
      else c
    c2.each (c2.md.tgts.filter fun x => !found.contains x.tgt) fun c x =>
      let u := mkUnit kTGT x.tgt
      if 1 ≤ c.own u ∧ c.own u ≤ 3 then
        (c.event (8 * (x.tgt / 16) + 2) 0 1 (c.unitIdent u) [x.tgt % 16]).permanentFault u 1
      else c

/-- A record for each channel that there is, and none for one that is fused off. -/
def Chip.haveChans (c : Chip) : Chip :=
  let have' := c.md.chans.map Chan.ch
  let new := (List.range 32).filter fun ch => !fusedOff c.fuse.variant (mkUnit kCHAN ch) && !have'.contains ch
  let chans := (c.md.chans.filter fun k => !fusedOff c.fuse.variant (mkUnit kCHAN k.ch)) ++ new.map Chan.initial
  { c with md := { c.md with chans := chans } }

/-- Full training of the channels that serve targets and have not trained in this start: three failed attempts
retire a channel (R180, R181). -/
def Chip.trainChans (c : Chip) (inp : StartInput) : Chip :=
  c.each (c.md.chans.filter Chan.wp) fun c k =>
    let u := mkUnit kCHAN k.ch
    if c.fittedOn k.ch = [] ∨ c.own u = 0 ∨ c.own u = 4 then c
    else
      let eyes := (inp.trained[k.ch]?).getD []
      let c1 := c.calibrateLong k.ch
      if (c1.ladderFrom k.ch (c1.configuredRate k.ch)).any fun r => (c1.eyeAt eyes r).isSome then c1.train k.ch eyes
      else c1.each (List.range (3 - k.fails)) fun c _ => c.train k.ch []

/-- A Hallmark is looked for and the boot count incremented (R295). -/
def Chip.bootCount (c : Chip) : Chip :=
  let found := c.validMark
  ({ c with boot := { c.boot with found := found } }).set E.BOOT_COUNT ((c.get E.BOOT_COUNT + 1) % 2 ^ 32)

/-- The media side of step 4. -/
def Chip.startMedia (c : Chip) (inp : StartInput) : Chip :=
  let c1 := ((c.identify inp).haveChans).trainChans inp
  if c1.eligibleNow = c1.sb.eligible then c1 else c1.rebuildLayout

/-- Step 4. With neither copy readable the floor has failed, and the start goes straight to step 8. -/
def Chip.step4 (c : Chip) (inp : StartInput) : Chip :=
  let c0 := { c with boot := { c.boot with copies := inp.copies } }
  if !(inp.copies.getD 0 false || inp.copies.getD 1 false) then { (c0.maintain 16) with boot := { (c0.maintain 16).boot with step := 7 } }
  else
    let c1 := ((c0.bootCount.loadImage.takeSmb).loadZones inp.copies).bootedSlot
    let c2 := if c1.boot.cause = 0 then c1.count E.POWER_CYCLES 1 else c1
    let c3 := (c2.takeModes.trainDdr).startMedia inp
    let c4 := c3.takeBook.placeDram
    { c4 with pr := { c4.pr with joinWait := decide (c4.boot.pairMode = 1) } }

/-! ### Step 5: the erase-intent scan (R194) -/

/-- A block named by an entry holds data again: its superblock has been assembled since. -/
def Chip.blockLive (c : Chip) (i : EiEntry) : Bool :=
  match (c.blockOf i.lun i.block).sb.bind c.sbOf with
  | some s => !(s.state == .assembling || s.state == .awaitErase)
  | none => false

/-- What the scan of both rings finds (R194): cleared-through is the highest value of any page that passes its CRC, in either
copy, and the pending entries are those above it in either. -/
def Chip.scanRings (c : Chip) : Option Nat × List EiEntry :=
  let good := c.md.ring.filter EiPage.ok
  let through := good.foldl (fun (o : Option Nat) p => match o with
    | none => some p.cleared
    | some v => if serialLt 40 v p.cleared then some p.cleared else some v) none
  (through, match through with
    | none => []
    | some v => ((good.flatMap EiPage.entries).filter fun i => serialLt 40 v i.seq).eraseDups)

/-- Step 5: the pending entries of the rings are marked and erased under new entries of kind 1, before their blocks are assembled
into a superblock (R194); a block that one already holds by then has ended its erase, and is left (DEDUCED, log entry 66).
Entries gathered and not yet written are gathered again. -/
def Chip.step5 (c : Chip) : Chip :=
  let again := c.scanRings.2.filter fun i => !c.blockLive i
  let fresh := c.md.intents.filter fun i => !i.written
  let old := (c.md.intents.filter Intent.written).map fun i => { i with ended := true }
  let since := if old = [] then c.md.clearSince else some c.now
  let c1 := { c with md := { c.md with intents := old, clearSince := since } }
  let c2 := c1.each again fun c i => (c.setBlock { c.blockOf i.lun i.block with mode := 0 }).gatherErase i.lun i.block 1 i.sb
  let c3 := c2.each fresh fun c i => c.gatherErase i.lun i.block i.kind i.sb
  let c4 := c3.each ((again.map fun i => chanOf i.lun).eraseDups) fun c ch =>
    c.event (8 * ch + 5) 2 1 (c.unitIdent (mkUnit kCHAN ch)) [(again.filter fun i => decide (chanOf i.lun = ch)).length]
  (c4.set E.EI_REERASED_LAST (min max20 again.length)).count E.EI_REERASED again.length

/-! ### Step 6: the Hallmark and recovery (R296, R297) -/

/-- What a valid Hallmark reports. No version that a flush of this machine leaves in the reserve is later than the
Hallmark's last sequence, because step 3 stops on a command boundary. -/
def Chip.recoverMarked (c : Chip) (h : Hallmark) : Chip :=
  let c1 := ((((c.set E.PF_LAST_REASON h.reason).set E.PF_LAST_RESULT h.result).set E.PF_LAST_SLOTS (min max40 h.slots)).set
    E.PF_LAST_ENERGY (min max40 h.energy)).set E.PF_LAST_TIME (min max40 h.micros)
  let n := h.slots + h.pages
  let c2 := if c1.get E.PROOF_MIN_SLOTS ≤ n then c1.set E.FLUSH_COST_LEARNED (min max20 (h.energy * 1000 / n)) else c1
  let c3 := (if h.reason = 4 then c2 else c2.count E.UNSAFE_SHUTDOWNS 1).set E.REVERTED_LAST 0
  let c4 := if h.reason = 1 ∨ h.reason = 2 then c3.eventAt h.time 0x387 0 5 noUnit [h.reason] else c3
  if h.result = 0 then c4 else ({ c4 with lg := { c4.lg with badRecovery := true } }).event 0x388 0 5 noUnit [h.result, 0]

/-- The version of highest write sequence of each unit that a tag scan found. -/
def newestScan (l : List ScanVersion) : List ScanVersion :=
  l.filter fun v => !(l.any fun w => decide (w.unit = v.unit) && serialLt 32 v.wseq w.wseq)

/-- A start without a valid Hallmark: rows without parity close by small writes, and each unit takes its version of
highest write sequence. -/
def Chip.recoverUnmarked (c : Chip) (inp : StartInput) : Chip :=
  let c1 := (((c.set E.PF_LAST_REASON 0).set E.PF_LAST_RESULT 2).count E.UNCLEAN_STARTS 1).count E.UNSAFE_SHUTDOWNS 1
  let c2 := ({ c1 with lg := { c1.lg with badRecovery := true } }).event 0x388 0 5 noUnit [2, 0]
  c2.stopMedia.each (newestScan inp.scan) fun c v => (c.mapChange 0 v.unit 1 v.entry).placeUnit v.entry v.unit

/-- Step 6. -/
def Chip.step6 (c : Chip) (inp : StartInput) : Chip :=
  match c.boot.found with
  | some h => c.recoverMarked h
  | none => c.recoverUnmarked inp

/-! ### Step 7: the map index -/

/-- Superblocks of the flush reserve that hold slots become data superblocks, closed and folded as others (DEDUCED, log entry 52). -/
def Chip.freeReserve (c : Chip) : Chip :=
  c.each (c.sb.sbs.filter fun s => s.kind == .reserve && s.state == .open && decide (0 < s.used)) fun c s =>
    (c.setSb { s with kind := .host }).closeSb s.idx

/-- LUNs found RETIRED whose rebuild has not begun. Their losses are judged over the whole map, read from its
checkpoints and journal, of which no slice stays loaded. -/
def Chip.startLosses (c : Chip) : Chip :=
  let gone := (c.md.dies.map Die.lun).filter fun l => decide (c.reported (mkUnit kLUN l) = 4) && !(c.sb.rebuilding.any fun p => decide (p.1 = l))
    && c.sb.sbs.any fun s => !(s.state == .awaitErase) && s.members.any fun m => decide (m.lun = l)
  if gone = [] then c
  else
    let full := (List.range c.mapSlices).flatMap c.sliceMap
    let c1 := ({ c with ft := { c.ft with map := full } }).each gone Chip.lunRetired
    { c1 with ft := { c1.ft with map := c.ft.map } }

/-- Step 7. -/
def Chip.step7 (c : Chip) : Chip :=
  let c1 := c.freeReserve.startLosses
  if c1.bookOn then c1.loadCat 1024 else c1

/-! ### Step 8: ready (R23, R435, R450) -/

/-- A Sanitize that was interrupted resumes (R162). -/
def Chip.resumeSanitize (c : Chip) : Chip :=
  if c.ft.sanitizeStep = 0 then c else ({ c with ft := { c.ft with sanitizeStep := 1 } }).sanitizeWork false

/-- Step 8 waits for the pair's decision, and for the flush of a shutdown that was asked for meanwhile. -/
def Chip.step8Waits (c : Chip) : Bool := c.pr.joinWait || c.fns.any fun f => decide (f.fn = 0 ∧ f.shst = 1)

/-- Step 8. The record of the start carries its cause and the time of each step in tenths of a second. -/
def Chip.step8 (c : Chip) : Chip :=
  let c1 := { c with boot := { c.boot with run := .ready, step := 8, fetchHeld := false }, fw := { c.fw with readyT := c.now } }
  let c2 := (c1.enterMaintenance c1.floorFaults).setWt false
  let c3 := c2.event 0x586 0 1 noUnit (c2.boot.cause :: c2.fw.startTimes.map fun t => min 255 (t / 100000))
  let c4 := c3.each (c3.fns.map fun f => (f.port, f.fn)) fun c p => c.makeReady p.1 p.2
  c4.resumeSanitize

/-! ### The steps in order -/

/-- The next step, n, where the ones before it have ended. -/
def Chip.startStep (c : Chip) (inp : StartInput) (n : Nat) : Chip :=
  if c.boot.run ≠ .starting ∨ c.boot.step + 1 ≠ n ∨ (n = 8 ∧ c.step8Waits) then c
  else
    let time := if n = 3 ∧ c.skips3 then 0 else nth inp.times (n - 1)
    let times := c.fw.startTimes.take (n - 1) ++ List.replicate (n - 1 - c.fw.startTimes.length) 0 ++ [time]
    let c0 := { c with fw := { c.fw with startTimes := times } }
    let c1 : Chip := match n with
      | 1 => c0.step1 inp
      | 2 => c0.step2
      | 3 => c0.step3 inp
      | 4 => c0.step4 inp
      | 5 => c0.step5
      | 6 => c0.step6 inp
      | 7 => c0.step7
      | _ => c0.step8
    if c1.boot.run = .starting then { c1 with boot := { c1.boot with step := max n c1.boot.step } } else c1

/-- A start can begin: VR_EN is high and no port in use has PERST# asserted. -/
def Chip.mayStart (c : Chip) : Bool :=
  decide (c.boot.run = .rails) && c.pm.vrEn && c.ports.all fun p => !(c.portUsed p.port && p.perst)

/-- The start, up to the last step that has ended at this moment. -/
def Chip.start (c : Chip) (inp : StartInput) : Chip :=
  let last := min 8 inp.upto
  let began := if c.boot.run = .starting then c
    else { c with boot := { c.boot with run := .starting, step := 0, fetchHeld := true }, pm := { c.pm with vrGood := true },
                  fw := { c.fw with startT := c.now - nth inp.times (last - 1) * cycPerUs, startTimes := [] } }
  began.each (List.range last) fun c k => c.startStep inp (k + 1)

/-- START. At the end of it every generation tag is 1 (R382). -/
def execStart (t : Nat) (inp : StartInput) (s : State) : Host.Outcome State Fault Refusal :=
  let c := s.chip.atTime t
  if c.mayStart || decide (c.boot.run = .starting) then
    .next { s with chip := (c.keep (c.unitNotices (c.start inp))).withTags [] }
  else .next { s with chip := c }

end Sys2Proof.Machine
end

