-- ==== Sys2Proof/Machine/Dispatch.lean ====
section
/-! DEFINITION. One arm for each command of the table: its meaning. -/
namespace Sys2Proof.Machine

/-- The effect of a command on everything but the queue of waiting commands. -/
def exec (i : Instr) (s : State) : Host.Outcome State Fault Refusal :=
  match i with
  | .doorbellWrite t port fn off size value shadow => Sys2Proof.Machine.execDoorbellWrite t port fn off size value shadow s
  | .fetch t port entries shadow => Sys2Proof.Machine.execFetch t port entries shadow s
  | .admission t h => Sys2Proof.Machine.execAdmission t h s
  | .admitWaitExpiry t h => Sys2Proof.Machine.execAdmitWaitExpiry t h s
  | .rangeLockGrant t h => Sys2Proof.Machine.execRangeLockGrant t h s
  | .commitPoint t h => Sys2Proof.Machine.execCommitPoint t h s
  | .completionPost t x => Sys2Proof.Machine.execCompletionPost t x s
  | .deadlineExpired t h => Sys2Proof.Machine.execDeadlineExpired t h s
  | .class2LateLimit t h => Sys2Proof.Machine.execClass2LateLimit t h s
  | .completionTimeout t h => Sys2Proof.Machine.execCompletionTimeout t h s
  | .errorCompletionReceived t h kind => Sys2Proof.Machine.execErrorCompletionReceived t h kind s
  | .poisonedWriteReceived t port bar => Sys2Proof.Machine.execPoisonedWriteReceived t port bar s
  | .createIoSubmissionQueue t h => Sys2Proof.Machine.execCreateIoSubmissionQueue t h s
  | .deleteIoSubmissionQueue t h => Sys2Proof.Machine.execDeleteIoSubmissionQueue t h s
  | .createIoCompletionQueue t h => Sys2Proof.Machine.execCreateIoCompletionQueue t h s
  | .deleteIoCompletionQueue t h => Sys2Proof.Machine.execDeleteIoCompletionQueue t h s
  | .getLogPage t h => Sys2Proof.Machine.execGetLogPage t h s
  | .identify t h => Sys2Proof.Machine.execIdentify t h s
  | .abort t h => Sys2Proof.Machine.execAbort t h s
  | .setFeaturesArbitration t h => Sys2Proof.Machine.execSetFeaturesArbitration t h s
  | .setFeaturesPowerManagement t h => Sys2Proof.Machine.execSetFeaturesPowerManagement t h s
  | .setFeaturesTemperatureThreshold t h => Sys2Proof.Machine.execSetFeaturesTemperatureThreshold t h s
  | .setFeaturesNumberOfQueues t h => Sys2Proof.Machine.execSetFeaturesNumberOfQueues t h s
  | .setFeaturesInterruptCoalescing t h => Sys2Proof.Machine.execSetFeaturesInterruptCoalescing t h s
  | .setFeaturesInterruptVectorConfig t h => Sys2Proof.Machine.execSetFeaturesInterruptVectorConfig t h s
  | .setFeaturesApst t h table => Sys2Proof.Machine.execSetFeaturesApst t h table s
  | .setFeaturesOther t h data => Sys2Proof.Machine.execSetFeaturesOther t h data s
  | .getFeatures t h => Sys2Proof.Machine.execGetFeatures t h s
  | .asynchronousEventRequest t h => Sys2Proof.Machine.execAsynchronousEventRequest t h s
  | .namespaceCreate t h nsze ncap flbas => Sys2Proof.Machine.execNamespaceCreate t h nsze ncap flbas s
  | .namespaceDelete t h => Sys2Proof.Machine.execNamespaceDelete t h s
  | .namespaceAttach t h controllers => Sys2Proof.Machine.execNamespaceAttach t h controllers s
  | .namespaceDetach t h controllers => Sys2Proof.Machine.execNamespaceDetach t h controllers s
  | .firmwareImageDownload t h piece => Sys2Proof.Machine.execFirmwareImageDownload t h piece s
  | .firmwareCommitReplace t h => Sys2Proof.Machine.execFirmwareCommitReplace t h s
  | .firmwareCommitReplaceActivate t h => Sys2Proof.Machine.execFirmwareCommitReplaceActivate t h s
  | .firmwareCommitActivate t h => Sys2Proof.Machine.execFirmwareCommitActivate t h s
  | .firmwareCommitActivateNoReset t h => Sys2Proof.Machine.execFirmwareCommitActivateNoReset t h s
  | .firmwareCommitInvalid t h => Sys2Proof.Machine.execFirmwareCommitInvalid t h s
  | .fwaDrainLimitExpiry t => Sys2Proof.Machine.execFwaDrainLimitExpiry t s
  | .deviceSelfTestShort t h failing => Sys2Proof.Machine.execDeviceSelfTestShort t h failing s
  | .deviceSelfTestExtended t h failing => Sys2Proof.Machine.execDeviceSelfTestExtended t h failing s
  | .deviceSelfTestAbort t h => Sys2Proof.Machine.execDeviceSelfTestAbort t h s
  | .doorbellBufferConfig t h => Sys2Proof.Machine.execDoorbellBufferConfig t h s
  | .formatNvm t h => Sys2Proof.Machine.execFormatNvm t h s
  | .sanitizeCryptoErase t h failed => Sys2Proof.Machine.execSanitizeCryptoErase t h failed s
  | .sanitizeBlockErase t h failed => Sys2Proof.Machine.execSanitizeBlockErase t h failed s
  | .sanitizeOverwrite t h failed => Sys2Proof.Machine.execSanitizeOverwrite t h failed s
  | .dictionarySet t h records => Sys2Proof.Machine.execDictionarySet t h records s
  | .dictionaryGet t h => Sys2Proof.Machine.execDictionaryGet t h s
  | .pairControlStatus t h => Sys2Proof.Machine.execPairControlStatus t h s
  | .pairControlChooseSource t h => Sys2Proof.Machine.execPairControlChooseSource t h s
  | .pairControlDetach t h => Sys2Proof.Machine.execPairControlDetach t h s
  | .pairControlRejoin t h => Sys2Proof.Machine.execPairControlRejoin t h s
  | .flush t h => Sys2Proof.Machine.execFlush t h s
  | .write t x blocks => Sys2Proof.Machine.execWrite t x blocks s
  | .compare t x blocks => Sys2Proof.Machine.execCompare t x blocks s
  | .read t h => Sys2Proof.Machine.execRead t h s
  | .writeZeroes t h => Sys2Proof.Machine.execWriteZeroes t h s
  | .verify t h => Sys2Proof.Machine.execVerify t h s
  | .datasetManagement t h => Sys2Proof.Machine.execDatasetManagement t h s
  | .segmentRead t h => Sys2Proof.Machine.execSegmentRead t h s
  | .scorebookPut t h => Sys2Proof.Machine.execScorebookPut t h s
  | .scorebookDrop t h => Sys2Proof.Machine.execScorebookDrop t h s
  | .scorebookLook t h => Sys2Proof.Machine.execScorebookLook t h s
  | .ccEnable t port fn cfg asqs acqs => Sys2Proof.Machine.execCcEnable t port fn cfg asqs acqs s
  | .controllerReset t port fn flush => Sys2Proof.Machine.execControllerReset t port fn flush s
  | .shutdownNormal t port fn flush => Sys2Proof.Machine.execShutdownNormal t port fn flush s
  | .shutdownAbrupt t port fn flush => Sys2Proof.Machine.execShutdownAbrupt t port fn flush s
  | .cmbEnable t port fn base => Sys2Proof.Machine.execCmbEnable t port fn base s
  | .fullFundamentalReset t flush => Sys2Proof.Machine.execFullFundamentalReset t flush s
  | .portReset t port kind => Sys2Proof.Machine.execPortReset t port kind s
  | .flrInitiate t port fn => Sys2Proof.Machine.execFlrInitiate t port fn s
  | .flrDrainDone t port fn => Sys2Proof.Machine.execFlrDrainDone t port fn s
  | .d3hotEntry t port fn => Sys2Proof.Machine.execD3hotEntry t port fn s
  | .d0Entry t port w => Sys2Proof.Machine.execD0Entry t port w s
  | .vfEnableClear t port => Sys2Proof.Machine.execVfEnableClear t port s
  | .pmeTurnOff t port => Sys2Proof.Machine.execPmeTurnOff t port s
  | .l1Exit t port => Sys2Proof.Machine.execL1Exit t port s
  | .doeAbort t port => Sys2Proof.Machine.execDoeAbort t port s
  | .perstDeassertion t port => Sys2Proof.Machine.execPerstDeassertion t port s
  | .linkTrained t port gen width flit => Sys2Proof.Machine.execLinkTrained t port gen width flit s
  | .l0pWidthRequest t port width => Sys2Proof.Machine.execL0pWidthRequest t port width s
  | .l0pWidthChange t port width byPartner => Sys2Proof.Machine.execL0pWidthChange t port width byPartner s
  | .aspmL1Entry t port substate => Sys2Proof.Machine.execAspmL1Entry t port substate s
  | .mpsChange t port mps => Sys2Proof.Machine.execMpsChange t port mps s
  | .doeRequest t port vendor kind length code body busy => Sys2Proof.Machine.execDoeRequest t port vendor kind length code body busy s
  | .octSelect t port addr => Sys2Proof.Machine.execOctSelect t port addr s
  | .octCommit t port addr wlen tag octets => Sys2Proof.Machine.execOctCommit t port addr wlen tag octets s
  | .cellDword0Read t port slot index sub => Sys2Proof.Machine.execCellDword0Read t port slot index sub s
  | .cellUpperWrite t port slot index sub dword value => Sys2Proof.Machine.execCellUpperWrite t port slot index sub dword value s
  | .cellDword0Write t port slot index sub value => Sys2Proof.Machine.execCellDword0Write t port slot index sub value s
  | .dictionaryWrite t x addr value tag => Sys2Proof.Machine.execDictionaryWrite t x addr value tag s
  | .snapTake t x value => Sys2Proof.Machine.execSnapTake t x value s
  | .tapCheckRun t x value => Sys2Proof.Machine.execTapCheckRun t x value s
  | .proofRun t x value => Sys2Proof.Machine.execProofRun t x value s
  | .storePrepare t x value => Sys2Proof.Machine.execStorePrepare t x value s
  | .imageFlush t x value => Sys2Proof.Machine.execImageFlush t x value s
  | .secLockSet t x value => Sys2Proof.Machine.execSecLockSet t x value s
  | .svnCommit t x value => Sys2Proof.Machine.execSvnCommit t x value s
  | .keyRevoke t x value => Sys2Proof.Machine.execKeyRevoke t x value s
  | .pmTarget t x value => Sys2Proof.Machine.execPmTarget t x value s
  | .mgmtKeyWrap t x value => Sys2Proof.Machine.execMgmtKeyWrap t x value s
  | .unitRetire t x value => Sys2Proof.Machine.execUnitRetire t x value s
  | .qsel t x value => Sys2Proof.Machine.execQsel t x value s
  | .inningBoundary t inning => Sys2Proof.Machine.execInningBoundary t inning s
  | .supplyHoldEnd t => Sys2Proof.Machine.execSupplyHoldEnd t s
  | .nandOperationComplete t lun fail => Sys2Proof.Machine.execNandOperationComplete t lun fail s
  | .statusPoll t lun ready => Sys2Proof.Machine.execStatusPoll t lun ready s
  | .operationTimeout t lun => Sys2Proof.Machine.execOperationTimeout t lun s
  | .resumeProgressMet t lun => Sys2Proof.Machine.execResumeProgressMet t lun s
  | .suspendEffect t lun ended => Sys2Proof.Machine.execSuspendEffect t lun ended s
  | .trainingAttempt t ch full rates eyes => Sys2Proof.Machine.execTrainingAttempt t ch full rates eyes s
  | .retrainDue t ch tgt eye higher => Sys2Proof.Machine.execRetrainDue t ch tgt eye higher s
  | .zqCalibration t ch tgt ok => Sys2Proof.Machine.execZqCalibration t ch tgt ok s
  | .nandTemperatureRead t lun reading => Sys2Proof.Machine.execNandTemperatureRead t lun reading s
  | .eraseIntentProgrammed t => Sys2Proof.Machine.execEraseIntentProgrammed t s
  | .eiClearDelay t => Sys2Proof.Machine.execEiClearDelay t s
  | .reallocation t => Sys2Proof.Machine.execReallocation t s
  | .retentionStressTick t => Sys2Proof.Machine.execRetentionStressTick t s
  | .zoneLearningPeriod t => Sys2Proof.Machine.execZoneLearningPeriod t s
  | .fold t => Sys2Proof.Machine.execFold t s
  | .gcVictimChoice t => Sys2Proof.Machine.execGcVictimChoice t s
  | .recast t => Sys2Proof.Machine.execRecast t s
  | .relocation t => Sys2Proof.Machine.execRelocation t s
  | .checkpoint t => Sys2Proof.Machine.execCheckpoint t s
  | .patrolOverdue t => Sys2Proof.Machine.execPatrolOverdue t s
  | .decodeComplete t task result => Sys2Proof.Machine.execDecodeComplete t task result s
  | .stripeRowClose t row => Sys2Proof.Machine.execStripeRowClose t row s
  | .cruCloseTime t row => Sys2Proof.Machine.execCruCloseTime t row s
  | .journalPageProgrammed t stream => Sys2Proof.Machine.execJournalPageProgrammed t stream s
  | .sliceLoad t slice badUnits => Sys2Proof.Machine.execSliceLoad t slice badUnits s
  | .destinationPageSafe t sb slot => Sys2Proof.Machine.execDestinationPageSafe t sb slot s
  | .sourceRelease t sb => Sys2Proof.Machine.execSourceRelease t sb s
  | .superblockAssembly t stream layout => Sys2Proof.Machine.execSuperblockAssembly t stream layout s
  | .patchEntryEffect t sb row => Sys2Proof.Machine.execPatchEntryEffect t sb row s
  | .patrolRow t sb row members => Sys2Proof.Machine.execPatrolRow t sb row members s
  | .memberReplacementComplete t sb member => Sys2Proof.Machine.execMemberReplacementComplete t sb member s
  | .fenceTimeExpiry t unit => Sys2Proof.Machine.execFenceTimeExpiry t unit s
  | .probeComplete t unit pass => Sys2Proof.Machine.execProbeComplete t unit pass s
  | .adcScan t codes chgDone => Sys2Proof.Machine.execAdcScan t codes chgDone s
  | .storeInserted t vstk => Sys2Proof.Machine.execStoreInserted t vstk s
  | .storeRemoved t => Sys2Proof.Machine.execStoreRemoved t s
  | .gaugeHibernate t => Sys2Proof.Machine.execGaugeHibernate t s
  | .gaugeWake t vstk amps => Sys2Proof.Machine.execGaugeWake t vstk amps s
  | .tapCheck t tap moved => Sys2Proof.Machine.execTapCheck t tap moved s
  | .tapCheckInterval t => Sys2Proof.Machine.execTapCheckInterval t s
  | .proofInterval t => Sys2Proof.Machine.execProofInterval t s
  | .proofEnd t p => Sys2Proof.Machine.execProofEnd t p s
  | .powerFailTrigger t low mainReturns flush => Sys2Proof.Machine.execPowerFailTrigger t low mainReturns flush s
  | .stashMove t => Sys2Proof.Machine.execStashMove t s
  | .cataloguePageProgrammed t => Sys2Proof.Machine.execCataloguePageProgrammed t s
  | .pwArm t x => Sys2Proof.Machine.execPwArm t x s
  | .pwRemove t x => Sys2Proof.Machine.execPwRemove t x s
  | .pwClear t x => Sys2Proof.Machine.execPwClear t x s
  | .pwConsumedWrite t x port win value => Sys2Proof.Machine.execPwConsumedWrite t x port win value s
  | .pwFaultWrite t x port win value => Sys2Proof.Machine.execPwFaultWrite t x port win value s
  | .pwTimeout t port win => Sys2Proof.Machine.execPwTimeout t port win s
  | .peerDoorbell t h => Sys2Proof.Machine.execPeerDoorbell t h s
  | .doorbellReadCompletion t h ok => Sys2Proof.Machine.execDoorbellReadCompletion t h ok s
  | .rallyLinkTraining t lanes => Sys2Proof.Machine.execRallyLinkTraining t lanes s
  | .rallyLinkDown t => Sys2Proof.Machine.execRallyLinkDown t s
  | .rallyLossTime t => Sys2Proof.Machine.execRallyLossTime t s
  | .rallyAckTimeout t => Sys2Proof.Machine.execRallyAckTimeout t s
  | .ackIdle t => Sys2Proof.Machine.execAckIdle t s
  | .helloTimer t => Sys2Proof.Machine.execHelloTimer t s
  | .pairJoinWait t => Sys2Proof.Machine.execPairJoinWait t s
  | .resyncCopy t => Sys2Proof.Machine.execResyncCopy t s
  | .dirtyMapProgram t => Sys2Proof.Machine.execDirtyMapProgram t s
  | .imageWrite t => Sys2Proof.Machine.execImageWrite t s
  | .hello t hd hello => Sys2Proof.Machine.execHello t hd hello s
  | .ack t hd => Sys2Proof.Machine.execAck t hd s
  | .nak t hd expected => Sys2Proof.Machine.execNak t hd expected s
  | .mirrorData t hd m => Sys2Proof.Machine.execMirrorData t hd m s
  | .mirrorMeta t hd m => Sys2Proof.Machine.execMirrorMeta t hd m s
  | .mirrorMap t hd op unit nsid count entry => Sys2Proof.Machine.execMirrorMap t hd op unit nsid count entry s
  | .done t hd => Sys2Proof.Machine.execDone t hd s
  | .abortFrame t hd => Sys2Proof.Machine.execAbortFrame t hd s
  | .resyncCtrl t hd op index granules entries => Sys2Proof.Machine.execResyncCtrl t hd op index granules entries s
  | .resyncData t hd m unitState => Sys2Proof.Machine.execResyncData t hd m unitState s
  | .remoteRead t hd unit mask nsid left => Sys2Proof.Machine.execRemoteRead t hd unit mask nsid left s
  | .remoteData t hd result blocks => Sys2Proof.Machine.execRemoteData t hd result blocks s
  | .mbox t hd cell value fenced => Sys2Proof.Machine.execMbox t hd cell value fenced s
  | .mboxAck t hd cell => Sys2Proof.Machine.execMboxAck t hd cell s
  | .notice t hd kind state => Sys2Proof.Machine.execNotice t hd kind state s
  | .mboxWrite t x cell value => Sys2Proof.Machine.execMboxWrite t x cell value s
  | .mboxFencedWrite t x cell value => Sys2Proof.Machine.execMboxFencedWrite t x cell value s
  | .mboxFenceTimeout t => Sys2Proof.Machine.execMboxFenceTimeout t s
  | .mctpGet t addr count pecOk => Sys2Proof.Machine.execMctpGet t addr count pecOk s
  | .mctpSet t records pecOk => Sys2Proof.Machine.execMctpSet t records pecOk s
  | .mctpControlMessage t code eid pecOk => Sys2Proof.Machine.execMctpControlMessage t code eid pecOk s
  | .mctpReassemblyTimeout t => Sys2Proof.Machine.execMctpReassemblyTimeout t s
  | .fliadOpen t f => Sys2Proof.Machine.execFliadOpen t f s
  | .fliadClose t f => Sys2Proof.Machine.execFliadClose t f s
  | .fliadGet t f => Sys2Proof.Machine.execFliadGet t f s
  | .fliadGetBlock t f => Sys2Proof.Machine.execFliadGetBlock t f s
  | .fliadSet t f records => Sys2Proof.Machine.execFliadSet t f records s
  | .fliadSetBlock t f => Sys2Proof.Machine.execFliadSetBlock t f s
  | .fliadIdle t session => Sys2Proof.Machine.execFliadIdle t session s
  | .neighborSolicitation t target => Sys2Proof.Machine.execNeighborSolicitation t target s
  | .icmpv6Echo t target ident => Sys2Proof.Machine.execIcmpv6Echo t target ident s
  | .mgmtLinkChange t speed => Sys2Proof.Machine.execMgmtLinkChange t speed s
  | .mgmtRxDrop t udpPort => Sys2Proof.Machine.execMgmtRxDrop t udpPort s
  | .idleTimer t target => Sys2Proof.Machine.execIdleTimer t target s
  | .psEntry t longest wake => Sys2Proof.Machine.execPsEntry t longest wake s
  | .wakeExit t source frame => Sys2Proof.Machine.execWakeExit t source frame s
  | .housekeepingWake t => Sys2Proof.Machine.execHousekeepingWake t s
  | .pmbusRequest t millivolts attempts => Sys2Proof.Machine.execPmbusRequest t millivolts attempts s
  | .pmbAlert t status => Sys2Proof.Machine.execPmbAlert t status s
  | .vrPgoodLoss t => Sys2Proof.Machine.execVrPgoodLoss t s
  | .avsAdjust t step rise attempts => Sys2Proof.Machine.execAvsAdjust t step rise attempts s
  | .refclkLoss t => Sys2Proof.Machine.execRefclkLoss t s
  | .refclkReturn t => Sys2Proof.Machine.execRefclkReturn t s
  | .holdoverExpiry t => Sys2Proof.Machine.execHoldoverExpiry t s
  | .junctionAverage t samples flush => Sys2Proof.Machine.execJunctionAverage t samples flush s
  | .throttleRise t => Sys2Proof.Machine.execThrottleRise t s
  | .throttleRelease t => Sys2Proof.Machine.execThrottleRelease t s
  | .vaonUp t => Sys2Proof.Machine.execVaonUp t s
  | .main12vGood t => Sys2Proof.Machine.execMain12vGood t s
  | .vrPgoodTimeout t => Sys2Proof.Machine.execVrPgoodTimeout t s
  | .start t inp => Sys2Proof.Machine.execStart t inp s
  | .touchLoadComplete t h => Sys2Proof.Machine.execTouchLoadComplete t h s
  | .eventSecondEnd t => Sys2Proof.Machine.execEventSecondEnd t s
  | .excerptPageProgram t => Sys2Proof.Machine.execExcerptPageProgram t s
  | .shnDrainLimit t flush => Sys2Proof.Machine.execShnDrainLimit t flush s
  | .rallyFrameDiscard t => Sys2Proof.Machine.execRallyFrameDiscard t s
  | .interruptCoalescingTime t port fn vector => Sys2Proof.Machine.execInterruptCoalescingTime t port fn vector s

end Sys2Proof.Machine
end

