-- ==== Sys2Proof/Machine/Step.lean ====
section
/-! DEFINITION. One step: the command at the front of the queue, or, when none waits, the passing
of time. -/
namespace Sys2Proof.Machine

/-- The next tick: one fabric cycle by the clock in use (R414). -/
def tick (s : State) : State :=
  { s with chip := { s.chip with now := s.chip.now + clockStep s.chip, out := [] } }

/-- A step takes the command in front and runs it with the rest of the queue; with no command
waiting the fabric timestamp advances by one tick (DESIGN CHOICE, log entry 3). -/
def step (s : State) : Host.Outcome State Fault Refusal :=
  match s.pending with
  | [] => .next (tick s)
  | i :: rest => exec i { s with pending := rest }

/-- The table gives its rows no bits, so a word spells no command and nothing is put in front. -/
def State.withFetchWord (s : State) (nbits w : Nat) : State :=
  match decodeTableWord nbits w with
  | none => s
  | some i => { s with pending := i :: s.pending }

end Sys2Proof.Machine
end

