-- ==== Sys2Proof/Safety.lean ====
section
/-! DEFINITION. What counts as a safe run, and the words in which the statements speak of a command: when it can be
served, that it completes in a next state, and what it was answered. -/
namespace Sys2Proof

/-- A step that goes on: neither a fault nor a refusal. -/
def goesOn (o : Host.Outcome Machine.State Machine.Fault Machine.Refusal) : Prop := ∃ s, o = .next s

/-- A machine is safe at a state when its step goes on. -/
def safeAt (s : Machine.State) : Prop := goesOn (Machine.step s)

/-- A command completes at a state: it answers a next state, with the queue of waiting commands as it was, whose
chip has the property. -/
def Completes (i : Instr) (s : Machine.State) (P : Machine.Chip → Prop) : Prop :=
  ∃ t, Machine.exec i s = .next t ∧ t.pending = s.pending ∧ P t.chip

namespace Machine

/-- No function holds this command as an Asynchronous Event Request. -/
def Chip.notHeld (c : Chip) (h : Nat) : Prop := ∀ f ∈ c.fns, h ∉ f.aers

/-- A function apart from its Asynchronous Events. -/
def Fn.noAe (f : Fn) : Fn := { f with aers := [], aesPending := [], aeMasked := [] }

/-- The admin command h with an opcode waits to be served: it has been fetched and nothing has ended it, the
controller serves admin commands, and no activation without reset holds it back. -/
def Chip.adminWaits (c : Chip) (h op : Nat) (x : Cmd) : Prop :=
  c.cmd h = some x ∧ x.admin = true ∧ x.opcode = op ∧ x.phase = .fetched ∧ x.silent = false ∧ x.posted = false
    ∧ c.serves = true ∧ (c.fw.fwaH = none ∨ c.fw.fwaH = some h) ∧ c.notHeld h

/-- The I/O command h of an opcode is at work: admitted, with its locks granted, waiting on no key and not paused. -/
def Chip.ioWaits (c : Chip) (h op : Nat) (x : Cmd) : Prop :=
  c.cmd h = some x ∧ x.admin = false ∧ x.opcode = op ∧ x.phase = .admitted ∧ c.locked h = true ∧ x.waitH = none ∧ x.paused = none
    ∧ x.silent = false ∧ x.posted = false ∧ c.isReady = true ∧ c.notHeld h

/-- The I/O command h runs: past admission, with no completion yet, and not paused. -/
def Chip.ioRuns (c : Chip) (h : Nat) (x : Cmd) : Prop := c.cmd h = some x ∧ x.running = true ∧ c.notHeld h

/-- The command h holds no range lock. -/
def Chip.noLock (c : Chip) (h : Nat) : Prop := ∀ l ∈ c.lk.main ++ c.lk.held, l.h ≠ h

/-- What a read gathers where nothing is to be read from flash (R41, R142): the newest version of each LBA in the Crucible,
decrypted, and zeros where the namespace holds none. -/
def heldBlocks (c : Chip) (n : Ns) (r : Nat × Nat) : List Blk :=
  (lbasOf n r).map fun l => match c.lbaNow n l.2.1 l.1 l.2.2 with
    | some b => n.plain l.1 b
    | none => { data := 0, info := 0 }

/-- A run of LBAs is at hand: no unit is lost or pending at the partner, and each has its newest version in the Crucible, or its
map slice loaded and nothing on flash. -/
def atHand (c : Chip) (us : List (Nat × List Nat)) : Prop :=
  ∀ u ∈ us, c.isLost u.1 = false ∧ c.throughSource u.1 = false
    ∧ ((c.newest u.1).isSome = true ∨ c.sliceLoaded u.1 = true ∧ onFlash (c.mapOf u.1) = false)

/-- A counter has counted n more, and stays at its greatest value (R458). -/
def Chip.counts (a b : Chip) (e item n : Nat) : Prop := b.getAt e item = min (topOf e) (a.getAt e item + n)

/-- The command h has ended with a status and a result, and its completion waits to be posted. -/
def Chip.answered (c : Chip) (h status dw0 dw1 : Nat) : Prop :=
  ∃ y, c.cmd h = some y ∧ y.phase = .ended ∧ y.status = status ∧ y.dw0 = dw0 ∧ y.dw1 = dw1

/-- The parts of the chip, apart from the time and what goes out. -/
inductive Area where
  | fuse | boot | dict | ev | un | fns | ports | qs | cmds | nextH | lk | um | ft | sb | md | rd | lost | st | book | wins | pr | mg | pm | th | fw | lg | rnd | free
  deriving DecidableEq, Repr

/-- A part is the same in two chips. -/
def Chip.same (a b : Chip) : Area → Prop
  | .fuse => b.fuse = a.fuse
  | .boot => b.boot = a.boot
  | .dict => b.dict = a.dict
  | .ev => b.ev = a.ev
  | .un => b.un = a.un
  | .fns => b.fns = a.fns
  | .ports => b.ports = a.ports
  | .qs => b.qs = a.qs
  | .cmds => b.cmds = a.cmds
  | .nextH => b.nextH = a.nextH
  | .lk => b.lk = a.lk
  | .um => b.um = a.um
  | .ft => b.ft = a.ft
  | .sb => b.sb = a.sb
  | .md => b.md = a.md
  | .rd => b.rd = a.rd
  | .lost => b.lost = a.lost
  | .st => b.st = a.st
  | .book => b.book = a.book
  | .wins => b.wins = a.wins
  | .pr => b.pr = a.pr
  | .mg => b.mg = a.mg
  | .pm => b.pm = a.pm
  | .th => b.th = a.th
  | .fw => b.fw = a.fw
  | .lg => b.lg = a.lg
  | .rnd => b.rnd = a.rnd
  | .free => b.free = a.free

/-- The frame of a command: from chip a to chip b every part but the listed ones is unchanged. -/
def Chip.keeps (a b : Chip) (but : List Area) : Prop := ∀ p, p ∉ but → a.same b p

/-- The entries that writing an event record can change: the record number and the counters of records, and the
counters of saturated counters (R461 to R466). -/
def eventMeters : List Nat :=
  [E.COUNTERS_SATURATED, E.COUNTERS_SATURATED_LIFE, E.EVT_NEXT, E.EVT_TOTAL, E.EVT_OVERWRITTEN, E.EVT_FILTERED,
    E.EVT_SUPPRESSED, E.TELEM_SKIPPED, E.TELEM_CTRL_GEN]

/-- The frame of a command in the dictionary: every stored value is unchanged but those of the listed entries and
those that events change. -/
def Chip.keepsEntries (a b : Chip) (but : List Nat) : Prop :=
  ∀ e item, e ∉ but → e ∉ eventMeters → b.getAt e item = a.getAt e item

/-- Nothing is left to follow from the state of the units: the service floor holds, the layout table is over the
eligible dies, write-through has the causes that hold, and the Crucible has the size that placement wants (R12, R23, R25, R237). -/
def Chip.calm (c : Chip) : Prop :=
  c.floorFaults = 0 ∧ c.eligibleNow = c.sb.eligible ∧ c.wtCauses = c.get E.WT_CAUSE ∧ c.ft.sizeMib ≤ c.ft.target

/-- One more transient fault of a unit leaves every unit's own state as it is (R18, R19). -/
def Chip.bearsFault (c : Chip) (u : Nat) : Prop := ∀ v, (c.chargeFault u).own v = c.own v

/-- What the reads of a row give passes for every member that is not void (R207, R248): four codewords with a zero syndrome, each of them of
parity, or with a good CRC and the tag of the unit that the page holds. -/
def Chip.rowPasses (c : Chip) (q : Sb) (row : Nat) (members : List (Option (List CwDecode))) : Prop :=
  ∀ m ∈ liveMembers q row, (c.lunOf (q.pageAt row m)).isSome = true ∧ ∃ l, members.getD m none = some l ∧ ∀ cw < 4, ∃ d, l[cw]? = some d ∧ d.syndrome = true
    ∧ (m ∈ parityPos q.idx row q.p2 ∨ (wordCrcOk d.word = true ∧ ∀ u, q.unitAt row m = some u → wordTagOk d.word u cw = true))

/-- The words read of a row, by member. -/
def readWords (members : List (Option (List CwDecode))) : List (Option (List Nat)) := members.map (Option.map (List.map CwDecode.word))

/-- The entries that `calm` reads. -/
def calmEntries : List Nat :=
  [E.SPARE_INIT_ACTIVE, E.SLC_SHARE, E.OP_MIN, E.SB_STATE, E.WT_CAUSE, E.BOOKS_HYST, E.PREPARE_STATE, E.HOLDUP_EFF, E.STORE_C, E.STORE_V_CUT,
    E.STORE_V_FULL, E.FLUSH_COST_MIN, E.FLUSH_COST_LEARNED, E.FLUSH_FIXED, E.CRU_MIN_BACKED, E.JRN_TAIL_PAGES, E.MARK_COST, E.STORE_AGE_MARGIN,
    E.ADC_SLOT_FAILS, E.STORE_CELLS, E.STORE_ESR, E.FLUSH_POWER]

/-- The table of generation tags is in order, and every tag in it is a 12-bit number above 1 (R381). -/
def Chip.tagsLegal (c : Chip) : Prop :=
  c.dict.tags.Pairwise (fun a b => keyLt a.1 b.1 = true) ∧ ∀ p ∈ c.dict.tags, 2 ≤ p.2 ∧ p.2 ≤ 0xFFF

/-- The parts that the end of any command may change: event records and their accounts, Asynchronous Events and the
requests that they end. -/
def notePart : List Area := [.dict, .ev, .fns, .cmds, .um, .lg]

end Machine

end Sys2Proof
end

