-- ==== Sys2Proof/Certificates/Slice0/Obligations.lean ====
section
/-! DEFINITION. The statements for the provers. `Completes i s P` says that command i answers a next state whose chip
has P; a frame `s.chip.keeps c l` says that every part of the chip outside the list l is unchanged. -/
open Sys2Proof Sys2Proof.Machine

/-! ### The machine -/

/-- The queue: a step takes the command in front and runs it on the rest of the queue. -/
def Obligations.StepRunsFrontCommand : Prop :=
  ∀ (i : Instr) (rest : List Instr) (s : State), step { s with pending := i :: rest } = exec i { s with pending := rest }

/-- With no command waiting, a step advances the timestamp by one tick of the clock in use: 4 cycles on the fast
oscillator (code 0), 800 on the slow one (code 3), 1 otherwise (R414); nothing goes out and nothing else changes. That a
tick is what an idle step does is the model's choice (log entry 3). -/
def Obligations.EmptyQueueTicks : Prop :=
  ∀ s : State, s.pending = [] → ∃ t, step s = .next t ∧ t.pending = [] ∧ t.chip.out = [] ∧ s.chip.keeps t.chip []
    ∧ (s.chip.pm.clock = 0 → t.chip.now = s.chip.now + 4) ∧ (s.chip.pm.clock = 3 → t.chip.now = s.chip.now + 800)
    ∧ (s.chip.pm.clock ≠ 0 → s.chip.pm.clock ≠ 3 → t.chip.now = s.chip.now + 1)

/-- No command stops the machine, none changes the queue of the commands that wait, and none takes fabric time back
(R414). -/
def Obligations.EveryCommandGoesOn : Prop :=
  ∀ (i : Instr) (s : State), ∃ t, exec i s = .next t ∧ t.pending = s.pending ∧ s.chip.now ≤ t.chip.now

/-- Every step keeps the generation tags legal: the table of tags lists its keys in order, once each, and no tag is 0
or wider than 12 bits; an entry that is not listed has tag 1 (R381). -/
def Obligations.TagsStayLegal : Prop :=
  ∀ s t : State, s.chip.tagsLegal → step s = .next t →
    t.chip.tagsLegal ∧ ∀ item a, 1 ≤ t.chip.tagOf item a ∧ t.chip.tagOf item a ≤ 0xFFF

/-- Fused-off units (R2). If every unit that the fuses take away is ABSENT, then it is ABSENT, and reported so, after any step,
whatever the command. On the S9616-SP (variant 2) R2's units are fused off: quadrants 2 and 3, channels 16 to 31, DDR2 and DDR3, and
the hard and soft LDPC engines of quadrants 2 and 3; there the system area has its copies on channels 0 and 15, and on the
other parts on channels 0 and 31: it is readable where one of the two that was found good has a channel left, and it is written on those
whose channel is not RETIRED. -/
def Obligations.FusedOffStaysAbsent : Prop :=
  (∀ s t : State, (∀ u, fusedOff s.chip.fuse.variant u = true → s.chip.own u = 0) → step s = .next t →
    t.chip.fuse.variant = s.chip.fuse.variant ∧ ∀ u, fusedOff t.chip.fuse.variant u = true → t.chip.own u = 0 ∧ t.chip.reported u = 0)
  ∧ (∀ q, q < 4 → (fusedOff 2 (mkUnit kQUAD q) = true ↔ 2 ≤ q) ∧ (fusedOff 2 (mkUnit kDDR q) = true ↔ 2 ≤ q))
  ∧ (∀ k, k < 32 → (fusedOff 2 (mkUnit kCHAN k) = true ↔ 16 ≤ k) ∧ (fusedOff 2 (mkUnit kLDPC k) = true ↔ 16 ≤ k))
  ∧ (∀ k, k < 16 → (fusedOff 2 (mkUnit kLDPC (32 + k)) = true ↔ 8 ≤ k))
  ∧ (∀ v u, fusedOff v u = true → (UnitRec.default v u).own = 0)
  ∧ ∀ (c : Chip) (last : Nat), last = (if c.fuse.variant = 2 then 15 else 31) →
      (c.sysAreaOk = true ↔ (c.boot.copies.getD 0 false = true ∧ c.present (mkUnit kCHAN 0) = true)
        ∨ (c.boot.copies.getD 1 false = true ∧ c.present (mkUnit kCHAN last) = true))
      ∧ ∀ ch, ch ∈ c.ringCopies ↔ (ch = 0 ∨ ch = last) ∧ c.reported (mkUnit kCHAN ch) ≠ 4

/-- One-time fuses: a step never lowers the floor of security versions, never restores a revoked key, and changes no
other fuse (R442, R457). -/
def Obligations.FusesOnlyBlow : Prop :=
  ∀ s t : State, step s = .next t →
    s.chip.fuse.svnFloor ≤ t.chip.fuse.svnFloor
    ∧ (∀ k : Fin 4, s.chip.fuse.keyRevoked.getD k false = true → t.chip.fuse.keyRevoked.getD k false = true)
    ∧ t.chip.fuse.variant = s.chip.fuse.variant ∧ t.chip.fuse.deviceId = s.chip.fuse.deviceId
    ∧ t.chip.fuse.keyDigests = s.chip.fuse.keyDigests ∧ t.chip.fuse.serial = s.chip.fuse.serial
    ∧ t.chip.fuse.mac = s.chip.fuse.mac ∧ t.chip.fuse.secret = s.chip.fuse.secret

/-- The chip before power is first applied. No command waits and none is held, no queue, no session and no read exists;
every dictionary entry's stored value is its default, every generation tag is 1 and every port has PERST# asserted. That these are the values before power is
the model's choice where the manual gives none (log entries 1 and 2). -/
def Obligations.ResetState : Prop :=
  State.reset.pending = [] ∧ State.reset.chip.boot.run = .dark ∧ State.reset.chip.cmds = [] ∧ State.reset.chip.fns = []
    ∧ State.reset.chip.qs.sqs = [] ∧ State.reset.chip.qs.cqs = [] ∧ State.reset.chip.mg.sessions = []
    ∧ State.reset.chip.rd.tasks = [] ∧ State.reset.chip.ft.slots = [] ∧ State.reset.chip.pm.vrEn = false
    ∧ State.reset.chip.st.present = false ∧ State.reset.chip.pr.joined = false ∧ State.reset.chip.lk.main = []
    ∧ State.reset.chip.book.cells = [] ∧ (∀ p ∈ State.reset.chip.ports, p.perst = true)
    ∧ (∀ a item, State.reset.chip.getAt a item = dflt a item)
    ∧ State.reset.chip.tagsLegal ∧ ∀ item a, State.reset.chip.tagOf item a = 1

/-! ### Admin commands: features -/

/-- Features held by a function (R75, R79, R400, R74): the command is answered with success, and the fields of the
function hold what it carries. Taken are an APST table whose entries are unused or name PS3 or PS4, a vector of the 2,048 of a function,
and page-aligned shadow doorbells. -/
def Obligations.FeatureFieldsAreStored : Prop :=
  ∀ (s : State) (t h : Nat) (x : Cmd),
    (s.chip.adminWaits h 0x09 x → x.dw 10 % 256 = 0x01 → Completes (.setFeaturesArbitration t h) s fun c =>
      c.answered h stOk 0 0 ∧ (c.fnOf x.port x.fn).ab = bits (x.dw 11) 2 0 ∧ (c.fnOf x.port x.fn).lpw = bits (x.dw 11) 15 8
        ∧ (c.fnOf x.port x.fn).mpw = bits (x.dw 11) 23 16 ∧ (c.fnOf x.port x.fn).hpw = bits (x.dw 11) 31 24
        ∧ s.chip.keeps c notePart)
    ∧ (s.chip.adminWaits h 0x09 x → x.dw 10 % 256 = 0x08 → Completes (.setFeaturesInterruptCoalescing t h) s fun c =>
      c.answered h stOk 0 0 ∧ (c.fnOf x.port x.fn).coalThr = bits (x.dw 11) 7 0
        ∧ (c.fnOf x.port x.fn).coalTime = bits (x.dw 11) 15 8 ∧ s.chip.keeps c notePart)
    ∧ (s.chip.adminWaits h 0x09 x → x.dw 10 % 256 = 0x09 → bits (x.dw 11) 15 0 < 2048 →
      Completes (.setFeaturesInterruptVectorConfig t h) s fun c =>
        c.answered h stOk 0 0 ∧ (bits (x.dw 11) 15 0 ∈ (c.fnOf x.port x.fn).vecNoCoal ↔ bit (x.dw 11) 16 = 1)
          ∧ (∀ v, v ≠ bits (x.dw 11) 15 0 → (v ∈ (c.fnOf x.port x.fn).vecNoCoal ↔ v ∈ (s.chip.fnOf x.port x.fn).vecNoCoal))
          ∧ s.chip.keeps c notePart)
    ∧ (∀ table, s.chip.adminWaits h 0x09 x → x.dw 10 % 256 = 0x0C →
      (∀ e ∈ table, e.itptMs = 0 ∨ e.itps = 3 ∨ e.itps = 4) → Completes (.setFeaturesApst t h table) s fun c =>
        c.answered h stOk 0 0 ∧ ((c.fnOf x.port x.fn).apste = true ↔ bit (x.dw 11) 0 = 1)
          ∧ (c.fnOf x.port x.fn).apst = table.take 32 ∧ s.chip.keeps c notePart)
    ∧ (s.chip.adminWaits h 0x7C x → x.dw 6 % 4096 = 0 → x.dw 8 % 4096 = 0 → Completes (.doorbellBufferConfig t h) s fun c =>
      c.answered h stOk 0 0 ∧ (c.fnOf x.port x.fn).shadow = true ∧ s.chip.keeps c notePart)

/-- Features with terms (R69, R80, R398, R426). Power Management requests a state 0 to 4 of workload hint 0; a Temperature
Threshold is set for the sensor it names, or all three under code 15; before an I/O queue exists Number of Queues grants the least of the
request, the quota, the doorbell limit and the pool; Write Atomicity Normal takes bit 0 of Dword 11, Asynchronous Event Configuration
Dword 11, and Timestamp six octets; Get Features answers the current value, and sends the octets of a feature that has them. -/
def Obligations.FeatureRequestsAreServed : Prop :=
  ∀ (s : State) (t h : Nat) (x : Cmd),
    (s.chip.adminWaits h 0x09 x → x.dw 10 % 256 = 0x02 → bits (x.dw 11) 4 0 ≤ 4 → bits (x.dw 11) 7 5 = 0 →
      Completes (.setFeaturesPowerManagement t h) s fun c =>
        c.answered h stOk 0 0 ∧ c.get E.PS_REQUESTED = bits (x.dw 11) 4 0 ∧ c.pm.wanted = some (bits (x.dw 11) 4 0)
          ∧ s.chip.keeps c ([.pm, .boot, .md, .st] ++ notePart)
          ∧ (3 ≤ bits (x.dw 11) 4 0 ∨ s.chip.get E.PS_CURRENT < 3 →
              s.chip.keeps c (.pm :: notePart) ∧ s.chip.keepsEntries c [E.PS_REQUESTED, E.PM_TARGET]))
    ∧ (s.chip.adminWaits h 0x09 x → x.dw 10 % 256 = 0x04 → (bits (x.dw 11) 19 16 ≤ 2 ∨ bits (x.dw 11) 19 16 = 15) →
      bits (x.dw 11) 21 20 ≤ 1 → Completes (.setFeaturesTemperatureThreshold t h) s fun c =>
        c.answered h stOk 0 0 ∧ s.chip.keeps c notePart ∧ ∀ i, i ≤ 2 → (bits (x.dw 11) 19 16 = 15 ∨ bits (x.dw 11) 19 16 = i) →
          if bits (x.dw 11) 21 20 = 0 then (c.fnOf x.port x.fn).thOver.get 0x10000 i = bits (x.dw 11) 15 0
            else (c.fnOf x.port x.fn).thUnder.get 0 i = bits (x.dw 11) 15 0)
    ∧ (s.chip.adminWaits h 0x09 x → x.dw 10 % 256 = 0x07 → (s.chip.fnOf x.port x.fn).ioCreated = false →
      Completes (.setFeaturesNumberOfQueues t h) s fun c =>
        ∃ g, g = min (min (s.chip.grantTerms x).1 (min (s.chip.grantTerms x).2.1 (s.chip.grantTerms x).2.2.1)) (s.chip.grantTerms x).2.2.2
          ∧ (c.fnOf x.port x.fn).granted = g ∧ c.answered h stOk (g - 1 + (g - 1) * 65536) 0 ∧ s.chip.keeps c notePart
          ∧ s.chip.keepsEntries c [E.POOL_DENIED])
    ∧ (∀ data, s.chip.adminWaits h 0x09 x → (x.dw 10 % 256 = 0x0A ∨ x.dw 10 % 256 = 0x0B ∨ x.dw 10 % 256 = 0x0E) →
      Completes (.setFeaturesOther t h data) s fun c =>
        c.answered h stOk 0 0 ∧ s.chip.keeps c notePart
          ∧ (x.dw 10 % 256 = 0x0A → (c.fnOf x.port x.fn).others.get 0 keyAtomicity = x.dw 11 % 2)
          ∧ (x.dw 10 % 256 = 0x0B → (c.fnOf x.port x.fn).aeConfig = x.dw 11)
          ∧ (x.dw 10 % 256 = 0x0E → (c.fnOf x.port x.fn).others.get 0 keyStamp = data % 2 ^ 48))
    ∧ (∀ v l, s.chip.adminWaits h 0x0A x → bits (x.dw 10) 10 8 = 0 →
      (s.chip.atTime t).featureValue (s.chip.fnOf x.port x.fn) (x.dw 10 % 256) (x.dw 11) = some (v, l) →
      Completes (.getFeatures t h) s fun c =>
        c.answered h stOk v 0 ∧ (l ≠ [] → .octets h l ∈ c.out) ∧ s.chip.keeps c notePart ∧ s.chip.keepsEntries c [])

/-! ### Admin commands: queues -/

/-- I/O queues (R70, R71, R72, R91): a queue that the terms of creation allow is created with the fields of its command,
empty and in phase 1, and the command succeeds; a completion queue that no submission queue uses is deleted, and a
submission queue of which no command is in the controller is. -/
def Obligations.QueuesAreCreatedAndDeleted : Prop :=
  ∀ (s : State) (t h : Nat) (x : Cmd),
    (s.chip.adminWaits h 0x05 x → s.chip.qidOk x (bits (x.dw 10) 15 0) = true → s.chip.cqOf x.port x.fn (bits (x.dw 10) 15 0) = none →
      1 ≤ bits (x.dw 10) 31 16 → bit (x.dw 11) 0 = 1 → s.chip.inCmb x (x.dw 6 + x.dw 7 * 2 ^ 32) = false →
      bits (x.dw 11) 31 16 < 2048 → Completes (.createIoCompletionQueue t h) s fun c =>
        c.answered h stOk 0 0 ∧ c.cqOf x.port x.fn (bits (x.dw 10) 15 0) = some
          { port := x.port, fn := x.fn, qid := bits (x.dw 10) 15 0, size := bits (x.dw 10) 31 16 + 1, head := 0, tail := 0, phase := 1,
            base := x.dw 6 + x.dw 7 * 2 ^ 32, vector := bits (x.dw 11) 31 16, ien := decide (bit (x.dw 11) 1 = 1), eventIdx := 0 }
        ∧ (c.fnOf x.port x.fn).ioCreated = true ∧ s.chip.keeps c (.qs :: notePart) ∧ c.qs.sqs = s.chip.qs.sqs)
    ∧ (s.chip.adminWaits h 0x01 x → s.chip.qidOk x (bits (x.dw 10) 15 0) = true → s.chip.sqOf x.port x.fn (bits (x.dw 10) 15 0) = none →
      1 ≤ bits (x.dw 10) 31 16 → bits (x.dw 11) 31 16 ≠ 0 → (s.chip.cqOf x.port x.fn (bits (x.dw 11) 31 16)).isSome = true →
      bit (x.dw 11) 0 = 1 → Completes (.createIoSubmissionQueue t h) s fun c =>
        c.answered h stOk 0 0 ∧ c.sqOf x.port x.fn (bits (x.dw 10) 15 0) = some
          { port := x.port, fn := x.fn, qid := bits (x.dw 10) 15 0, size := bits (x.dw 10) 31 16 + 1, head := 0, tail := 0,
            base := x.dw 6 + x.dw 7 * 2 ^ 32, prio := bits (x.dw 11) 2 1, cq := bits (x.dw 11) 31 16,
            cls := s.chip.classFor x.port x.fn (bits (x.dw 10) 15 0) (bits (x.dw 11) 2 1), floor := s.chip.floorOf x.port x.fn, deleting := false, fetched := 0,
            completed := 0, refused := 0, eventIdx := 0, drain := false }
        ∧ (c.fnOf x.port x.fn).ioCreated = true ∧ s.chip.keeps c (.qs :: notePart) ∧ c.qs.cqs = s.chip.qs.cqs)
    ∧ (s.chip.adminWaits h 0x04 x → bits (x.dw 10) 15 0 ≠ 0 → (s.chip.cqOf x.port x.fn (bits (x.dw 10) 15 0)).isSome = true →
      (∀ q ∈ s.chip.qs.sqs, ¬ (q.port = x.port ∧ q.fn = x.fn ∧ q.cq = bits (x.dw 10) 15 0 ∧ q.qid ≠ 0)) →
      Completes (.deleteIoCompletionQueue t h) s fun c =>
        c.answered h stOk 0 0 ∧ c.cqOf x.port x.fn (bits (x.dw 10) 15 0) = none ∧ s.chip.keeps c (.qs :: notePart)
          ∧ c.qs.sqs = s.chip.qs.sqs)
    ∧ (∀ q, s.chip.adminWaits h 0x00 x → bits (x.dw 10) 15 0 ≠ 0 → s.chip.sqOf x.port x.fn (bits (x.dw 10) 15 0) = some q →
      (∀ y ∈ s.chip.cmds, ¬ (y.port = x.port ∧ y.fn = x.fn ∧ y.qid = bits (x.dw 10) 15 0)) →
      Completes (.deleteIoSubmissionQueue t h) s fun c =>
        c.answered h stOk 0 0 ∧ c.sqOf x.port x.fn (bits (x.dw 10) 15 0) = none ∧ s.chip.keeps c (.qs :: notePart)
          ∧ c.qs.cqs = s.chip.qs.cqs)

/-! ### Admin commands: what is read -/

/-- What the host reads (R80, R90, R378, R466): Identify sends the octets of the structure and Get Log Page those of the page from an offset
in it, without a new telemetry capture here, and both succeed; Abort succeeds with bit 0 of Dword 0 set and counts; an Asynchronous Event Request with no event waiting and
fewer than 16 held is held, and one with an event waiting is answered with it; Dictionary Get sends its records. -/
def Obligations.AdminReadsAreAnswered : Prop :=
  ∀ (s : State) (t h : Nat) (x : Cmd),
    (∀ l, s.chip.adminWaits h 0x06 x → (s.chip.atTime t).identifyOctets x = .ok l → Completes (.identify t h) s fun c =>
      c.answered h stOk 0 0 ∧ .octets h l ∈ c.out ∧ s.chip.keeps c notePart ∧ s.chip.keepsEntries c [])
    ∧ (∀ size oct, s.chip.adminWaits h 0x02 x → ¬ (x.dw 10 % 256 = 7 ∧ bit (x.dw 10) 8 = 1) →
      (s.chip.atTime t).logPage x = some (size, oct) → x.dw 12 + x.dw 13 * 2 ^ 32 ≤ size → (x.dw 12 + x.dw 13 * 2 ^ 32) % 4 = 0 →
      Completes (.getLogPage t h) s fun c =>
        c.answered h stOk 0 0 ∧ s.chip.keeps c notePart
          ∧ .octets h ((List.range (min (4 * (bits (x.dw 10) 31 16 + bits (x.dw 11) 15 0 * 65536 + 1)) (size - (x.dw 12 + x.dw 13 * 2 ^ 32)))).map
              fun i => oct (x.dw 12 + x.dw 13 * 2 ^ 32 + i)) ∈ c.out)
    ∧ (s.chip.adminWaits h 0x08 x → Completes (.abort t h) s fun c =>
      c.answered h stOk 1 0 ∧ c.get E.ABORT_CMDS = min (topOf E.ABORT_CMDS) (s.chip.get E.ABORT_CMDS + 1)
        ∧ s.chip.keeps c notePart ∧ s.chip.keepsEntries c [E.ABORT_CMDS])
    ∧ (s.chip.adminWaits h 0x0C x → (s.chip.fnOf x.port x.fn).aesPending = [] → (s.chip.fnOf x.port x.fn).aers.length < 16 →
      Completes (.asynchronousEventRequest t h) s fun c =>
        (c.fnOf x.port x.fn).aers = (s.chip.fnOf x.port x.fn).aers ++ [h] ∧ (c.cmd h).map Cmd.phase = some .working
          ∧ s.chip.keeps c notePart ∧ s.chip.keepsEntries c [])
    ∧ (∀ e, s.chip.adminWaits h 0x0C x → (s.chip.fnOf x.port x.fn).aesPending.find? (fun e =>
        !(s.chip.fnOf x.port x.fn).aeMasked.contains (e.1 * 256 + e.2.2)) = some e → Completes (.asynchronousEventRequest t h) s fun c =>
      c.answered h stOk (e.1 + e.2.1 * 256 + e.2.2 * 65536) 0 ∧ s.chip.keeps c notePart ∧ s.chip.keepsEntries c [])
    ∧ (s.chip.adminWaits h 0xC6 x → x.fn = 0 → bits (x.dw 10) 7 0 = 0 → bits (x.dw 11) 31 9 = 0 →
      1 ≤ bits (x.dw 11) 8 0 → bits (x.dw 11) 8 0 ≤ 256 → bits (x.dw 10) 31 8 % 256 + bits (x.dw 11) 8 0 ≤ 256 → x.dw 12 ≤ 1052672 →
      sumOf (((s.chip.atTime t).getRecords .nvme (bits (x.dw 10) 31 8) (bits (x.dw 11) 8 0)).1.map recordOctets) ≤ x.dw 12 →
      Completes (.dictionaryGet t h) s fun c =>
        c.answered h stOk 0 0
          ∧ .recs h ((s.chip.atTime t).getRecords .nvme (bits (x.dw 10) 31 8) (bits (x.dw 11) 8 0)).1 ∈ c.out
          ∧ s.chip.keeps c notePart ∧ s.chip.keepsEntries c [E.DICT_READS])

/-! ### Admin commands: namespaces -/

/-- Namespaces (R92, R104, R133, R161), with no Sanitize running and no pair out of SYNCED. A namespace of whole granules is created under
the lowest free identifier; with no I/O command on it and room for its journal records, one namespace, or under FFFFFFFFh every one, is
deleted or formatted; with the last one a SPARE_INIT that has waited comes into force (R166); one is detached from controllers, and attached to controllers that exist. The lowest free identifier is the model's
choice (log entry 45). -/
def Obligations.NamespacesAreManaged : Prop :=
  ∀ (s : State) (t h : Nat) (x : Cmd),
    (∀ nsze ncap flbas k new, s.chip.adminWaits h 0x0D x → bits (x.dw 10) 3 0 = 0 → s.chip.nsBlocked = none → nsze ≤ ncap → flbas % 16 ≤ 5 →
      ((List.range 1024).find? fun k => (s.chip.ns (k + 1)).isNone) = some k →
      new = ({ nsid := k + 1, nsze := cdiv nsze (2 ^ 30 / lbaOctets (flbas % 16)) * (2 ^ 30 / lbaOctets (flbas % 16)),
               ncap := cdiv ncap (2 ^ 30 / lbaOctets (flbas % 16)) * (2 ^ 30 / lbaOctets (flbas % 16)), lbaf := flbas % 16,
               ext := decide (bit flbas 4 = 1), p2 := decide (s.chip.get E.LAYOUT_NEXT = 1),
               granules := s.chip.freeGranules (cdiv nsze (2 ^ 30 / lbaOctets (flbas % 16))), attached := [], key := s.chip.ft.keyNext,
               wrapped := s.chip.wrap s.chip.ft.keyNext, formatting := false, deleting := false, detaching := [] } : Ns) →
      s.chip.granulesUsed + new.charge ≤ s.chip.capacityMax → Completes (.namespaceCreate t h nsze ncap flbas) s fun c =>
        c.answered h stOk (k + 1) 0 ∧ (∀ n, n ∈ c.ft.nss ↔ n = new ∨ n ∈ s.chip.ft.nss)
          ∧ c.ft = { s.chip.ft with nss := c.ft.nss, keyNext := s.chip.ft.keyNext + 1 } ∧ s.chip.keeps c (.ft :: notePart)
          ∧ s.chip.keepsEntries c [])
    ∧ (s.chip.adminWaits h 0x0D x → bits (x.dw 10) 3 0 = 1 → s.chip.nsBlocked = none → (x.nsid = 0xFFFFFFFF ∨ (s.chip.ns x.nsid).isSome = true) →
      (∀ y ∈ s.chip.cmds, ∀ n ∈ s.chip.namedNs x.nsid, s.chip.onNs y n.nsid = false) → s.chip.wipeFits (s.chip.namedNs x.nsid) = true →
      (s.chip.get E.SPARE_INIT_ACTIVE = s.chip.get E.SPARE_INIT ∨ ∃ m ∈ s.chip.ft.nss, ∀ n ∈ s.chip.namedNs x.nsid, m.nsid ≠ n.nsid) →
      Completes (.namespaceDelete t h) s fun c =>
        c.answered h stOk 0 0 ∧ (∀ i, c.ns i = if x.nsid = 0xFFFFFFFF ∨ i = x.nsid then none else s.chip.ns i)
          ∧ s.chip.keeps c ([.ft, .sb, .lost, .book, .st, .pr] ++ notePart))
    ∧ (∀ n, s.chip.ft.nss = [n] → (s.chip.removeNs n).get E.SPARE_INIT_ACTIVE = s.chip.get E.SPARE_INIT)
    ∧ (∀ ids n, s.chip.adminWaits h 0x15 x → bits (x.dw 10) 3 0 = 0 → s.chip.nsBlocked = none → s.chip.ns x.nsid = some n → ids ≠ [] →
      (∀ i ∈ ids, s.chip.cntlidOk i = true ∧ i ∉ n.attached) → Completes (.namespaceAttach t h ids) s fun c =>
        c.answered h stOk 0 0 ∧ c.ns x.nsid = some { n with attached := n.attached ++ ids.eraseDups }
          ∧ (∀ i, i ≠ x.nsid → c.ns i = s.chip.ns i) ∧ s.chip.keeps c (.ft :: notePart) ∧ s.chip.keepsEntries c [])
    ∧ (∀ ids n, s.chip.adminWaits h 0x15 x → bits (x.dw 10) 3 0 = 1 → s.chip.nsBlocked = none → s.chip.ns x.nsid = some n → ids ≠ [] →
      (∀ i ∈ ids, s.chip.cntlidOk i = true ∧ i ∈ n.attached) → (∀ y ∈ s.chip.cmds, s.chip.onNs y n.nsid = false) →
      Completes (.namespaceDetach t h ids) s fun c =>
        c.answered h stOk 0 0 ∧ (c.ns x.nsid).map Ns.attached = some (n.attached.filter fun i => !ids.contains i)
          ∧ (∀ i, i ≠ x.nsid → c.ns i = s.chip.ns i) ∧ s.chip.keeps c (.ft :: notePart) ∧ s.chip.keepsEntries c [])
    ∧ (s.chip.adminWaits h 0x80 x → s.chip.nsBlocked = none → (x.nsid = 0xFFFFFFFF ∧ s.chip.ft.nss ≠ [] ∨ (s.chip.ns x.nsid).isSome = true) →
      bits (x.dw 10) 3 0 ≤ 5 → bits (x.dw 10) 11 9 ≤ 2 → bits (x.dw 10) 8 5 = 0 →
      (∀ y ∈ s.chip.cmds, ∀ n ∈ s.chip.namedNs x.nsid, s.chip.onNs y n.nsid = false) → s.chip.wipeFits (s.chip.namedNs x.nsid) = true →
      Completes (.formatNvm t h) s fun c =>
        c.answered h stOk 0 0 ∧ c.get E.FORMAT_STATE = 0
          ∧ (∀ n, x.nsid ≠ 0xFFFFFFFF → s.chip.ns x.nsid = some n →
              c.ns x.nsid = some { n with lbaf := bits (x.dw 10) 3 0, ext := decide (bit (x.dw 10) 4 = 1), formatting := false,
                                          nsze := n.nsze * lbaOctets n.lbaf / lbaOctets (bits (x.dw 10) 3 0),
                                          ncap := n.ncap * lbaOctets n.lbaf / lbaOctets (bits (x.dw 10) 3 0),
                                          key := if bits (x.dw 10) 11 9 = 0 then n.key else s.chip.ft.keyNext }
                ∧ ∀ i, i ≠ x.nsid → c.ns i = s.chip.ns i)
          ∧ (x.nsid = 0xFFFFFFFF → ∀ n ∈ c.ft.nss, n.lbaf = bits (x.dw 10) 3 0 ∧ n.formatting = false ∧ (n.ext = true ↔ bit (x.dw 10) 4 = 1))
          ∧ s.chip.keeps c ([.ft, .sb, .rd, .wins, .lost, .book, .st, .pr] ++ notePart))

/-! ### Admin commands: firmware -/

/-- Firmware images (R444, R445). A download of whole 4 KiB pieces that begins at offset 0 or goes on where the last piece ended is
taken. With the whole image downloaded, a commit checks it, and where it passes writes it to a slot 1 to 3 that does not run (action 000b)
and makes it the pending one as well (001b); action 010b makes the image of a slot pending where it passes; each that succeeds counts in
FW_COMMITS, and an image that fails leaves slots and entries as they are, with Invalid Firmware Image. Actions 100b to 111b complete with
Invalid Field. -/
def Obligations.FirmwareIsDownloadedAndCommitted : Prop :=
  ∀ (s : State) (t h : Nat) (x : Cmd),
    (∀ piece, s.chip.adminWaits h 0x11 x → 4 * (x.dw 10 + 1) % 4096 = 0 → 4 * x.dw 11 % 4096 = 0 → 4 * x.dw 11 + 4 * (x.dw 10 + 1) ≤ 16 * 2 ^ 20 →
      (x.dw 11 = 0 ∨ 4 * x.dw 11 = s.chip.fw.downOct) → Completes (.firmwareImageDownload t h piece) s fun c =>
        c.answered h stOk 0 0 ∧ s.chip.keeps c (.fw :: notePart) ∧ s.chip.keepsEntries c []
          ∧ c.fw = { s.chip.fw with down := (if x.dw 11 = 0 then 0 else s.chip.fw.down) + piece % 256 ^ (4 * (x.dw 10 + 1)) * 256 ^ (4 * x.dw 11),
                                    downOct := 4 * x.dw 11 + 4 * (x.dw 10 + 1) })
    ∧ (∀ k, s.chip.adminWaits h 0x10 x → bits (x.dw 10) 5 3 = 0 → s.chip.commitSlotOf x = k → 1 ≤ k → k ≤ 3 → k ≠ s.chip.get E.FW_RUNNING_SLOT →
      s.chip.fw.complete = true → Completes (.firmwareCommitReplace t h) s fun c =>
        (s.chip.imageCheck (imageOf s.chip.fw.down) = 0 →
          c.answered h stOk 0 0 ∧ c.fw = { s.chip.fw with slots := s.chip.fw.slots.set (k - 1) (imageOf s.chip.fw.down) }
            ∧ s.chip.counts c E.FW_COMMITS 0 1 ∧ s.chip.keepsEntries c [E.FW_COMMITS])
        ∧ (s.chip.imageCheck (imageOf s.chip.fw.down) ≠ 0 → c.answered h stFwImage 0 0 ∧ c.fw = s.chip.fw ∧ s.chip.keepsEntries c [])
        ∧ s.chip.keeps c (.fw :: notePart))
    ∧ (∀ k, s.chip.adminWaits h 0x10 x → bits (x.dw 10) 5 3 = 1 → s.chip.commitSlotOf x = k → 1 ≤ k → k ≤ 3 → k ≠ s.chip.get E.FW_RUNNING_SLOT →
      s.chip.fw.complete = true → Completes (.firmwareCommitReplaceActivate t h) s fun c =>
        (s.chip.imageCheck (imageOf s.chip.fw.down) = 0 →
          c.answered h stOk 0 0 ∧ c.fw = { s.chip.fw with slots := s.chip.fw.slots.set (k - 1) (imageOf s.chip.fw.down) }
            ∧ c.get E.FW_PENDING_SLOT = k ∧ s.chip.counts c E.FW_COMMITS 0 1 ∧ s.chip.keepsEntries c [E.FW_COMMITS, E.FW_PENDING_SLOT])
        ∧ (s.chip.imageCheck (imageOf s.chip.fw.down) ≠ 0 → c.answered h stFwImage 0 0 ∧ c.fw = s.chip.fw ∧ s.chip.keepsEntries c [])
        ∧ s.chip.keeps c (.fw :: notePart))
    ∧ (∀ k, s.chip.adminWaits h 0x10 x → bits (x.dw 10) 5 3 = 2 → bits (x.dw 10) 2 0 = k → 1 ≤ k → k ≤ 3 →
      Completes (.firmwareCommitActivate t h) s fun c =>
        (s.chip.imageCheck (s.chip.slotImage k) = 0 → c.answered h stOk 0 0 ∧ c.get E.FW_PENDING_SLOT = k ∧ s.chip.counts c E.FW_COMMITS 0 1
          ∧ s.chip.keepsEntries c [E.FW_COMMITS, E.FW_PENDING_SLOT])
        ∧ (s.chip.imageCheck (s.chip.slotImage k) ≠ 0 → c.answered h stFwImage 0 0 ∧ s.chip.keepsEntries c [])
        ∧ s.chip.keeps c notePart)
    ∧ (s.chip.adminWaits h 0x10 x → 4 ≤ bits (x.dw 10) 5 3 → Completes (.firmwareCommitInvalid t h) s fun c =>
        c.answered h stInvalidField 0 0 ∧ s.chip.keeps c notePart ∧ s.chip.keepsEntries c [])

/-- Activation without reset (R93, R447). With no Format or Sanitize running, no image downloaded, and no I/O command admitted or awaiting
its decision, the image of a slot that passes the checks runs at once: it is the running slot, none is pending, result and drain time are 0,
and it counts. With an activation draining, a step 4 that has not ended at FWA_DRAIN_LIMIT gives up: no activation runs any more, result 1, the time it took, Maximum Time Violation, and the image stays pending. -/
def Obligations.FirmwareActivatesWithoutReset : Prop :=
  ∀ (s : State) (t h : Nat) (x : Cmd),
    (∀ k, s.chip.adminWaits h 0x10 x → bits (x.dw 10) 5 3 = 3 → s.chip.fw.fwaH = none → s.chip.get E.FORMAT_STATE = 0 →
      s.chip.ft.sanitizeStep = 0 → s.chip.fw.complete = false → bits (x.dw 10) 2 0 = k → 1 ≤ k → k ≤ 3 →
      s.chip.imageCheck (s.chip.slotImage k) = 0 → s.chip.fwaBusy = false → Completes (.firmwareCommitActivateNoReset t h) s fun c =>
        c.answered h stOk 0 0 ∧ c.get E.FW_RUNNING_SLOT = k ∧ c.get E.FW_PENDING_SLOT = 0 ∧ c.get E.FWA_LAST_RESULT = 0
          ∧ c.get E.FWA_LAST_DRAIN = 0 ∧ s.chip.counts c E.FW_ACTIVATIONS 0 1
          ∧ s.chip.counts c E.FW_COMMITS 0 1
          ∧ c.fw = { s.chip.fw with fwaH := none, fwaT := some (s.chip.atTime t).now, fwaSlot := k, lastRan := k }
          ∧ s.chip.keeps c (.fw :: notePart) ∧ s.chip.keepsEntries c
              [E.FW_RUNNING_SLOT, E.FW_PENDING_SLOT, E.FWA_LAST_RESULT, E.FWA_LAST_DRAIN, E.FW_ACTIVATIONS, E.FW_COMMITS])
    ∧ (∀ since, s.chip.adminWaits h 0x10 x → s.chip.fw.fwaH = some h → s.chip.fwaBusy = true → s.chip.fw.fwaT = some since →
      since + s.chip.get E.FWA_DRAIN_LIMIT * cycPerMs ≤ (s.chip.atTime t).now → Completes (.fwaDrainLimitExpiry t) s fun c =>
        c.answered h stFwMaxTime 0 0 ∧ c.get E.FWA_LAST_RESULT = 1
          ∧ c.get E.FWA_LAST_DRAIN = ((s.chip.atTime t).now - since) / cycPerUs
          ∧ c.fw = { s.chip.fw with fwaH := none } ∧ s.chip.keeps c (.fw :: notePart)
          ∧ s.chip.keepsEntries c [E.FWA_LAST_RESULT, E.FWA_LAST_DRAIN])

/-! ### Admin commands: self-tests, sanitizing, the dictionary and the pair -/

/-- Device Self-test (R94, R95): a short test starts as code 1, an extended one as code 2, each at segment 1; code Fh ends the
test that runs, with result 1 in its log. -/
def Obligations.SelfTestsStartAndEnd : Prop :=
  ∀ (s : State) (t h failing : Nat) (x : Cmd), s.chip.adminWaits h 0x14 x →
    (bits (x.dw 10) 3 0 = 1 → s.chip.get E.ST_STATE = 0 → Completes (.deviceSelfTestShort t h failing) s fun c =>
      c.answered h stOk 0 0 ∧ c.get E.ST_STATE = 1 ∧ c.get E.ST_SEGMENT = 1 ∧ c.lg.stOwner = some (x.port, x.fn)
        ∧ s.chip.keeps c notePart ∧ s.chip.keepsEntries c [E.ST_STATE, E.ST_SEGMENT])
    ∧ (bits (x.dw 10) 3 0 = 2 → s.chip.get E.ST_STATE = 0 → Completes (.deviceSelfTestExtended t h failing) s fun c =>
      c.answered h stOk 0 0 ∧ c.get E.ST_STATE = 2 ∧ c.get E.ST_SEGMENT = 1 ∧ c.lg.stOwner = some (x.port, x.fn)
        ∧ s.chip.keeps c notePart ∧ s.chip.keepsEntries c [E.ST_STATE, E.ST_SEGMENT])
    ∧ (bits (x.dw 10) 3 0 = 15 → s.chip.get E.ST_STATE ≠ 0 → Completes (.deviceSelfTestAbort t h) s fun c =>
      c.answered h stOk 0 0 ∧ c.get E.ST_STATE = 0 ∧ c.get E.ST_SEGMENT = 0 ∧ c.lg.stOwner = none
        ∧ c.lg.selfTests = ((s.chip.get E.ST_STATE, 1, 0) :: s.chip.lg.selfTests).take 20
        ∧ s.chip.keeps c ([.rd, .wins] ++ notePart) ∧ s.chip.keepsEntries c [E.ST_STATE, E.ST_SEGMENT])

/-- A Sanitize starts (R162, R163): on a chip that is calm, with I/O admitted and none waiting in admission and no self-test
running, each of the three actions takes the command, which works from then on; SANITIZE_STATE is 1. -/
def Obligations.SanitizeStarts : Prop :=
  ∀ (s : State) (t h : Nat) (failed : Bool) (x y : Cmd) (i : Instr), s.chip.adminWaits h 0x84 x → s.chip.isReady = true →
    s.chip.pairBlocks = false → s.chip.ft.sanitizeStep = 0 → s.chip.get E.ST_STATE = 0 → s.chip.calm →
    (∀ z ∈ s.chip.cmds, z.admin = false → z.phase ≠ .fetched ∧ z.phase ≠ .waiting) →
    y ∈ s.chip.cmds → y.h ≠ h → y.admin = false → y.posted = false → y.phase = .admitted →
    (i = .sanitizeCryptoErase t h failed ∧ x.dw 10 % 8 = 4 ∨ i = .sanitizeBlockErase t h failed ∧ x.dw 10 % 8 = 2
      ∨ i = .sanitizeOverwrite t h failed ∧ x.dw 10 % 8 = 3) →
    Completes i s fun c =>
      c.cmd h = some { x with phase := .working } ∧ c.get E.SANITIZE_STATE = 1
        ∧ c.ft = { s.chip.ft with sanitizeStep := 1, sanitizeKind := x.dw 10, sanitizePattern := x.dw 11 } ∧ c.lg.sanLog = x.dw 10
        ∧ s.chip.keeps c (.ft :: notePart) ∧ s.chip.keepsEntries c [E.SANITIZE_STATE]

/-- What the wiping of a Sanitize leaves (R162): no map, no directory entry, no journal page or checkpoint, no Scorebook entry and no lost
range; every namespace has a key above all those in use before; SEC_LOCK is 0 (R443). -/
def Obligations.SanitizeWipesEverything : Prop :=
  ∀ c : Chip, c.sanitizeWipe.ft.map = [] ∧ c.sanitizeWipe.ft.dir = [] ∧ c.sanitizeWipe.ft.jpages = [] ∧ c.sanitizeWipe.ft.ckpts = []
    ∧ c.sanitizeWipe.lost = [] ∧ c.sanitizeWipe.book.cells = [] ∧ c.sanitizeWipe.book.stash = [] ∧ c.sanitizeWipe.book.flash = []
    ∧ c.sanitizeWipe.get E.SEC_LOCK = 0
    ∧ ∀ n ∈ c.sanitizeWipe.ft.nss, c.ft.keyNext ≤ n.key ∧ n.wrapped = c.wrap n.key

/-- Pair Control (R349, R358): status answers the state of the pair and the marked granules; a source is chosen in a
DIVERGED pair without unconfirmed entries of its own, which leaves that state; a detach puts a pair that is not DIVERGED in SOLO; a
rejoin ends the detach. Fields that R358 leaves at zero are zero. -/
def Obligations.PairControlIsServed : Prop :=
  ∀ (s : State) (t h : Nat) (x : Cmd), s.chip.adminWaits h 0xC9 x → bits (x.dw 10) 31 4 = 0 → bits (x.dw 11) 31 1 = 0 →
    (bits (x.dw 10) 3 0 = 0 → Completes (.pairControlStatus t h) s fun c =>
      c.answered h stOk s.chip.pairDword s.chip.pr.marks.length ∧ s.chip.keeps c notePart ∧ s.chip.keepsEntries c [])
    ∧ (bits (x.dw 10) 3 0 = 1 → s.chip.boot.pairMode ≠ 0 → s.chip.get E.PAIR_STATE = 3 → s.chip.pr.unconfirmed = [] →
      Completes (.pairControlChooseSource t h) s fun c =>
        c.answered h stOk c.pairDword c.pr.marks.length ∧ c.get E.PAIR_STATE ≠ 3 ∧ c.pr.diverged = []
          ∧ s.chip.keeps c (.pr :: notePart))
    ∧ (bits (x.dw 10) 3 0 = 2 → s.chip.boot.pairMode ≠ 0 → s.chip.get E.PAIR_STATE ≠ 3 → s.chip.get E.DETACHED = 0 →
      Completes (.pairControlDetach t h) s fun c =>
        c.answered h stOk c.pairDword c.pr.marks.length ∧ c.get E.PAIR_STATE = 1 ∧ c.get E.DETACHED = 1 ∧ s.chip.keeps c (.pr :: notePart))
    ∧ (bits (x.dw 10) 3 0 = 3 → s.chip.boot.pairMode ≠ 0 → s.chip.get E.DETACHED ≠ 0 → Completes (.pairControlRejoin t h) s fun c =>
      c.answered h stOk c.pairDword c.pr.marks.length ∧ c.get E.DETACHED = 0 ∧ s.chip.keeps c (.pr :: notePart))

/-! ### Doorbells, fetch and decisions -/

/-- Doorbells (R70, R74), of a ready function that is not in D3hot: a complete aligned write below the queue's size moves the tail of a submission queue; one that
does not pass the tail moves the head of a completion queue. With shadow doorbells the value is the shadow's. -/
def Obligations.DoorbellsMoveQueues : Prop :=
  ∀ (s : State) (t port fn off size value v : Nat) (shadow : Option Nat), s.chip.serves = true → (s.chip.fnOf port fn).rdy = true →
    s.chip.inD3 port fn = false →
    0x1000 ≤ off → off % 4 = 0 → size = 4 → v = (if (s.chip.fnOf port fn).shadow then shadow.getD value else value) →
    (∀ q, (off - 0x1000) / 4 % 2 = 0 → s.chip.sqOf port fn ((off - 0x1000) / 4 / 2) = some q → q.deleting = false → v < q.size →
      Completes (.doorbellWrite t port fn off size value shadow) s fun c =>
        c.sqOf port fn q.qid = some { q with tail := v } ∧ s.chip.keeps c ([.qs, .boot, .md, .pm, .ports, .st] ++ notePart))
    ∧ (∀ q, (off - 0x1000) / 4 % 2 = 1 → s.chip.cqOf port fn ((off - 0x1000) / 4 / 2) = some q → v < q.size →
      (v + q.size - q.head) % q.size ≤ (q.tail + q.size - q.head) % q.size →
      Completes (.doorbellWrite t port fn off size value shadow) s fun c =>
        c.cqOf port fn q.qid = some { q with head := v, eventIdx := v } ∧ s.chip.keeps c (.qs :: notePart))

/-- Fetch (R35, R75, R76): a visit of a port, in the turn of a function with entries left in its turn and no shadow doorbells, takes entries
of the queue that it picks: as many as there are, up to the function's burst, its turn, the queue's limit, the weight of its priority and
the room of the port's input. Each becomes a command with the next handle, and the queue's head advances by as many. One entry becomes the
new command, which the check at fetch leaves waiting, or ends at once with its status. -/
def Obligations.FetchTakesAnEntry : Prop :=
  ∀ (s : State) (t port : Nat) (sqe : List Nat) (a : Arb) (q : Sq) (w : List Nat) (k : Option Nat), s.chip.serves = true → s.chip.boot.fetchHeld = false →
    s.chip.qs.arb[port]? = some a → a.left ≠ 0 → s.chip.inputOf port < 4096 → (s.chip.fnOf port a.fn).shadow = false →
    (s.chip.qs.sqs.any fun q => decide (q.port = port ∧ q.fn = a.fn) && s.chip.canFetch q) = true →
    s.chip.pickQueue (s.chip.fnOf port a.fn) (((a.rounds.find? fun r => decide (r.1 = a.fn)).map Prod.snd).getD
      (s.chip.fnOf port a.fn).freshRound) = some (q, w, k) →
    s.chip.sqOf port a.fn q.qid = some q → (q.tail + q.size - q.head) % q.size ≠ 0 →
    (s.chip.cmd s.chip.nextH = none → s.chip.notHeld s.chip.nextH → Completes (.fetch t port [sqe] none) s fun c =>
      (∃ y, c.cmd s.chip.nextH = some y ∧ match (s.chip.atTime t).fetchCheck ((s.chip.atTime t).newCmd q sqe) with
        | none => y = (s.chip.atTime t).newCmd q sqe
        | some st => y = { (s.chip.atTime t).newCmd q sqe with phase := .ended, status := st, order := y.order })
      ∧ c.nextH = s.chip.nextH + 1 ∧ (c.sqOf port a.fn q.qid).map Sq.head = some ((q.head + 1) % q.size)
      ∧ (q.qid ≠ 0 ∨ nth sqe 0 % 256 ≠ 0x0D ∧ nth sqe 0 % 256 ≠ 0x80 ∧ nth sqe 0 % 256 ≠ 0x15 →
          (∀ h, h ≠ s.chip.nextH → s.chip.notHeld h → c.cmd h = s.chip.cmd h) ∧ s.chip.keeps c ([.qs, .nextH] ++ notePart)))
    ∧ ∀ entries n, n = min (min (min (if (s.chip.fnOf port a.fn).ab = 7 then 8 else min 8 (2 ^ (s.chip.fnOf port a.fn).ab)) a.left)
          (min (s.chip.get E.FETCH_LIMIT - s.chip.awaiting q) ((q.tail + q.size - q.head) % q.size)))
          (min (min entries.length ((k.map fun k => nth w k).getD 8)) (4096 - s.chip.inputOf port)) →
        Completes (.fetch t port entries none) s fun c =>
          c.nextH = s.chip.nextH + n ∧ (c.sqOf port a.fn q.qid).map Sq.head = some ((q.head + n) % q.size)

/-- Decisions (R38, R47, R87). A command in its turn that the admission test admits, directly or by read-around, and that splits no
range of the LOST list past its 64 entries, is admitted, with the bound that the test gives; a class 0 to 2 command undecided at ADMIT_WAIT is refused with cause 09h; each waiting range-lock entry of a
command that no conflicting one precedes is granted, and the command holds its locks once all of them are. -/
def Obligations.CommandsAreDecided : Prop :=
  ∀ (s : State) (t h : Nat) (x : Cmd), s.chip.cmd h = some x → s.chip.notHeld h →
    (∀ b items work ra units members n, x.undecided = true → s.chip.isReady = true → (s.chip.atTime t).turn x = true →
      (x.cls < 3 ∨ s.chip.fw.fwaH = none) → (s.chip.atTime t).moveHeld.decide' x = (.admitAs b items work ra units members, n) →
      (s.chip.atTime t).moveHeld.splitShort ((s.chip.atTime t).moveHeld.clearsOf x) = false → Completes (.admission t h) s fun c =>
        (∃ y, c.cmd h = some y ∧ y.phase = .admitted ∧ y.boundPs = b ∧ y.ra = ra ∧ y.admitT = (s.chip.atTime t).now
            ∧ y.promisePs = s.chip.promise x)
          ∧ s.chip.counts c E.ADMITTED 0 1 ∧ s.chip.keeps c ([.ft, .lk, .md, .pr, .rd, .st, .book, .wins, .fw] ++ notePart))
    ∧ (x.undecided = true → x.cls ≤ 2 → x.silent = false → x.posted = false →
      x.fetchT * psPerCyc + s.chip.get E.ADMIT_WAIT * 1000 ≤ (s.chip.atTime t).nowPs → Completes (.admitWaitExpiry t h) s fun c =>
        c.answered h stRefused (at' x.smallestUs 16 + 9) 0 ∧ s.chip.counts c E.REFUSED 0 1 ∧ s.chip.keeps c ([.lk, .fw] ++ notePart)
          ∧ s.chip.keepsEntries c [E.REFUSED, E.REFUSE_CAUSES])
    ∧ (∀ k, (s.chip.atTime t).moveHeld.lk = k → (∀ f ∈ s.chip.pr.xfers, f.origin = true ∨ f.h ≠ h) → Completes (.rangeLockGrant t h) s fun c =>
        (∀ l ∈ k.held ++ k.main, l.h = h → k.grantable l = true → { l with granted := true } ∈ c.lk.held ++ c.lk.main)
          ∧ (k.ready h = true → c.locked h = true) ∧ s.chip.keeps c (.lk :: notePart) ∧ s.chip.keepsEntries c [])

/-! ### I/O commands -/

/-- Reads (R36, R41, R319): where the LBAs are at hand, in the Crucible or on no flash page, a Read delivers their blocks, a Compare completes
with success or Compare Failure, a Verify succeeds; a Segment Read into host memory completes with the number of octets delivered, which
its kept entry clips, and with the entry's generation and flags, and delivers so many octets where there are any. -/
def Obligations.ReadsDeliver : Prop :=
  ∀ (s : State) (t h : Nat) (x : Cmd) (n : Ns), (∀ k ∈ s.chip.rd.tasks, k.h ≠ h) →
    (s.chip.ioWaits h 0x02 x → s.chip.ns x.nsid = some n → atHand s.chip (Chip.unitCws n (x.slba, x.nlb)) →
      Completes (.read t h) s fun c =>
        c.answered h stOk 0 0 ∧ .data h (heldBlocks s.chip n (x.slba, x.nlb)) ∈ c.out ∧ c.noLock h
          ∧ s.chip.keeps c ([.lk, .rd] ++ notePart) ∧ s.chip.keepsEntries c [E.HOST_UNITS_READ])
    ∧ (∀ latNs blocks, s.chip.ioWaits h 0x05 x → s.chip.ns x.nsid = some n → atHand s.chip (Chip.unitCws n (x.slba, x.nlb)) →
      Completes (.compare t ⟨h, latNs⟩ blocks) s fun c =>
        c.answered h (if heldBlocks s.chip n (x.slba, x.nlb) = blocks then stOk else stCompare) 0 0 ∧ c.noLock h
          ∧ s.chip.keeps c ([.lk, .rd] ++ notePart) ∧ s.chip.keepsEntries c [E.HOST_DELAY])
    ∧ (s.chip.ioWaits h 0x0C x → s.chip.ns x.nsid = some n → atHand s.chip (Chip.unitCws n (x.slba, x.nlb)) →
      Completes (.verify t h) s fun c =>
        c.answered h stOk 0 0 ∧ c.noLock h ∧ s.chip.keeps c ([.lk, .rd] ++ notePart) ∧ s.chip.keepsEntries c [])
    ∧ (∀ e, s.chip.ioWaits h 0x82 x → x.seg = some e → s.chip.ns e.nsid = some n → x.segPasser = false →
      atHand s.chip (s.chip.segUnits x e) → Completes (.segmentRead t h) s fun c =>
        c.answered h stOk (x.delivered e) (e.gen + at' e.flags 20) ∧ c.noLock h
          ∧ (x.delivered e ≠ 0 → ∃ v, .data h [{ data := v, info := x.delivered e }] ∈ c.out)
          ∧ s.chip.keeps c ([.lk, .rd, .wins] ++ notePart)
          ∧ s.chip.keepsEntries c [E.HOST_UNITS_READ, E.SB_CLIPPED, E.SB_SEG_READS])

/-- Writes (R41, R142, R159, R160, R315, R316, R318). A Write of whole units takes one Crucible slot for each, in order; a
Write Zeroes without partly covered units, a Dataset Management, a Put and a Drop are at work until their commit point;
a Look delivers the 32 octets of the entry of its key; a Flush completes at once. -/
def Obligations.WritesAreTaken : Prop :=
  ∀ (s : State) (t h : Nat) (x : Cmd),
    (∀ n latNs blocks, s.chip.ioWaits h 0x01 x → s.chip.ns x.nsid = some n → (∀ u ∈ cover n.lbaf x.slba x.nlb, u.2.2 = lbasPerUnit n.lbaf) →
      Completes (.write t ⟨h, latNs⟩ blocks) s fun c =>
        (c.cmd h).map Cmd.phase = some .working
          ∧ c.ft.slots.map (fun l => (l.unit, l.h)) = s.chip.ft.slots.map (fun l => (l.unit, l.h))
              ++ (cover n.lbaf x.slba x.nlb).filterMap (fun u => (n.globalUnit u.1).map fun g => (g, h))
          ∧ s.chip.keeps c (.ft :: notePart) ∧ s.chip.keepsEntries c [E.HOST_DELAY, E.SLICE_LOADS_ON_TOUCH])
    ∧ (∀ n, s.chip.ioWaits h 0x08 x → s.chip.ns x.nsid = some n → partialUnits n (x.slba, x.nlb) = [] → Completes (.writeZeroes t h) s fun c =>
        c.cmd h = some { x with phase := .working, credits := 0, slots := [], energy := 0 } ∧ s.chip.keeps c notePart ∧ s.chip.keepsEntries c [])
    ∧ (s.chip.ioWaits h 0x09 x → Completes (.datasetManagement t h) s fun c =>
        c.cmd h = some { x with phase := .working } ∧ s.chip.keeps c notePart ∧ s.chip.keepsEntries c [])
    ∧ (s.chip.ioWaits h 0x85 x → Completes (.scorebookPut t h) s fun c =>
        c.cmd h = some { x with phase := .working } ∧ s.chip.keeps c notePart ∧ s.chip.keepsEntries c [])
    ∧ (s.chip.ioWaits h 0x89 x → Completes (.scorebookDrop t h) s fun c =>
        c.cmd h = some { x with phase := .working } ∧ s.chip.keeps c notePart ∧ s.chip.keepsEntries c [])
    ∧ (∀ e, s.chip.ioWaits h 0x8A x → s.chip.seenKey x = some e → Completes (.scorebookLook t h) s fun c =>
        c.answered h stOk e.gen 0 ∧ s.chip.keeps c notePart ∧ s.chip.keepsEntries c []
          ∧ .octets h (octetsOf 32 (e.key + at' e.nsid 128 + at' e.slba 144 + at' e.length 192 + at' e.gen 232 + at' 1 252 + at' e.flags 253)) ∈ c.out)
    ∧ (s.chip.cmd h = some x → x.admin = false → x.opcode = 0 → x.phase = .fetched → x.silent = false → x.posted = false → s.chip.notHeld h →
      Completes (.flush t h) s fun c => c.answered h stOk 0 0 ∧ s.chip.keeps c notePart ∧ s.chip.keepsEntries c [])

/-- The commit point of a Drop (R84, R316) with room for its catalogue record and no mirroring: the entry of the key goes, from its position
or from the stash, the command succeeds with its generation, and its locks are released. -/
def Obligations.DropCommits : Prop :=
  ∀ (s : State) (t h : Nat) (x : Cmd) (p : Nat × SbEntry), s.chip.cmd h = some x → s.chip.notHeld h → x.admin = false → x.opcode = 0x89 →
    x.phase = .working → x.paused = none → x.silent = false → x.posted = false → x.slots = [] → (∀ k ∈ s.chip.rd.tasks, k.h ≠ h) →
    s.chip.locked h = true → s.chip.lk.ready h = true → 1 ≤ s.chip.bookRoom → s.chip.journalFull = false → s.chip.lost.length ≤ lostMax → s.chip.mirrors = false →
    s.chip.findKey x.sbKey = some p → (∀ y ∈ s.chip.cmds, y.waitH ≠ some h) → Completes (.commitPoint t h) s fun c =>
      c.answered h stOk p.2.gen 0 ∧ c.noLock h
        ∧ (p.1 < 2 ^ 31 → ∀ q ∈ c.book.cells, q.1 ≠ p.1) ∧ (2 ^ 31 ≤ p.1 → ∀ q ∈ c.book.stash, q.1 ≠ p.1 - 2 ^ 31) ∧ s.chip.counts c E.SB_DROPS 0 1
        ∧ s.chip.keeps c ([.book, .lk, .rd] ++ notePart) ∧ s.chip.keepsEntries c [E.SB_DROPS, E.SB_NEXT_SEQ, E.SB_SEQ_EPOCH]

/-- Completions (R36, R78): the entry of a command that can be posted, with no completion of its queue before it and room in the queue, is
written at the tail with the queue's phase and the head of its submission queue, the tail advances, and the command is gone. -/
def Obligations.CompletionIsPosted : Prop :=
  ∀ (s : State) (t h stallNs : Nat) (x : Cmd) (sq : Sq) (q : Cq), s.chip.cmd h = some x → s.chip.postable x = true → x.silent = false →
    s.chip.earlierPosts x = [] → s.chip.sqOf x.port x.fn x.qid = some sq → s.chip.cqOf x.port x.fn sq.cq = some q →
    q.isFull = false → Completes (.completionPost t ⟨h, stallNs⟩) s fun c =>
      .cqe x.port x.fn q.qid x.qid x.cid sq.head q.phase x.status x.dw0 x.dw1 ∈ c.out ∧ c.cmd h = none
        ∧ c.cqOf x.port x.fn q.qid = some { q with tail := (q.tail + 1) % q.size, phase := if q.tail + 1 = q.size then 1 - q.phase else q.phase }
        ∧ (c.sqOf x.port x.fn x.qid).map Sq.completed = some ((sq.completed + 1) % 2 ^ 40)
        ∧ s.chip.keeps c ([.qs, .pm, .ports] ++ notePart)

/-- Expiry (R39, R58): a class 0 or 1 read at its promised time, a class 2 one from then on once its path can no longer serve it, and any class
2 one at CLASS2_LATE_LIMIT, completes with DEADLINE_EXPIRED, the cause of its trouble, or 24h with none, and the step reached; its lock is
released. -/
def Obligations.DeadlinesExpire : Prop :=
  ∀ (s : State) (t h : Nat) (x : Cmd), s.chip.ioRuns h x → x.writeType = false →
    ((x.cls ≤ 1 ∨ x.cls = 2 ∧ x.fault = true) → x.duePs ≤ (s.chip.atTime t).nowPs → Completes (.deadlineExpired t h) s fun c =>
      c.answered h stExpired (at' (min 5 x.step) 8 + if x.cause = 0 then 0x24 else x.cause) 0 ∧ c.noLock h ∧ s.chip.counts c E.EXPIRED 0 1
        ∧ s.chip.keeps c ([.lk, .rd, .wins] ++ notePart) ∧ s.chip.keepsEntries c [E.EXPIRED])
    ∧ (x.cls = 2 → x.fetchT + s.chip.get E.CLASS2_LATE_LIMIT * cycPerMs ≤ (s.chip.atTime t).now → Completes (.class2LateLimit t h) s fun c =>
      c.answered h stExpired (at' (min 5 x.step) 8 + if x.cause = 0 then 0x24 else x.cause) 0 ∧ c.noLock h ∧ s.chip.counts c E.EXPIRED 0 1
        ∧ s.chip.keeps c ([.lk, .rd, .wins] ++ notePart) ∧ s.chip.keepsEntries c [E.EXPIRED])

/-- Errors of a link (R37, R117). A command before its commit point whose memory reads time out or come back in error ends with Data Transfer Error, is
reported through AER, and charges the port one transient fault, here one that does not yet withdraw it; a poisoned write is
dropped, counted and reported. -/
def Obligations.LinkErrorsAreReported : Prop :=
  ∀ (s : State) (t h : Nat) (x : Cmd) (r : UnitRec),
    (s.chip.ioRuns h x → x.phase ≠ .committed → (∀ l ∈ s.chip.ft.slots, l.h ≠ h) → (∀ f ∈ s.chip.pr.xfers, f.h ≠ h) →
      (∀ y ∈ s.chip.cmds, y.waitH ≠ some h) → s.chip.calm → r = s.chip.unitRec (mkUnit kPORT x.port) → (r.own = 1 ∨ r.own = 2) →
      x.port ≤ 1 → fusedOff s.chip.fuse.variant (mkUnit kPORT x.port) = false → s.chip.ancestorOut (mkUnit kPORT x.port) = false →
      ((s.chip.atTime t).setUnit { r with faults := (s.chip.atTime t).now :: r.faults }).faultCount (mkUnit kPORT x.port)
        < s.chip.get E.TRANSIENT_LIMIT →
      (Completes (.completionTimeout t h) s fun c =>
        c.answered h stDataTransfer 0 0 ∧ .aer x.port 0 ∈ c.out ∧ c.noLock h
          ∧ c.unitRec (mkUnit kPORT x.port) = { r with faults := (s.chip.atTime t).now :: r.faults }
          ∧ s.chip.counts c E.CPL_TIMEOUTS x.port 1 ∧ s.chip.keeps c ([.un, .lk, .rd, .wins, .st, .book, .pr, .ports, .free] ++ notePart))
      ∧ ∀ kind, Completes (.errorCompletionReceived t h kind) s fun c =>
        c.answered h stDataTransfer 0 0 ∧ .aer x.port (1 + kind % 3) ∈ c.out ∧ c.noLock h
          ∧ c.unitRec (mkUnit kPORT x.port) = { r with faults := (s.chip.atTime t).now :: r.faults }
          ∧ s.chip.keeps c ([.un, .lk, .rd, .wins, .st, .book, .pr, .ports, .free] ++ notePart))
    ∧ ∀ port bar, Completes (.poisonedWriteReceived t port bar) s fun c =>
        .aer port 3 ∈ c.out ∧ s.chip.counts c E.POISONED_RX port 1 ∧ s.chip.keeps c ([.ports, .free] ++ notePart)
          ∧ s.chip.keepsEntries c [E.POISONED_RX]

/-! ### Functions: enabling, resets and shutdown -/

/-- Controllers (R68, R75, R91, R436). In service, CC.EN makes a function that its port presents, with admin queues of 2 to 4,096 entries,
ready, with its admin queue pair empty and in phase 1; CC.EN cleared leaves it as initialised but for its configuration space, D-state and
drain, with no queue; here no shutdown of it runs, and no activation is pending. -/
def Obligations.ControllersAreEnabledAndReset : Prop :=
  ∀ (s : State) (t port fn : Nat) (f : Fn), s.chip.fnOf port fn = f → s.chip.isReady = true →
    (∀ cfg asqs acqs, s.chip.portUsed port = true → (s.chip.setPort { s.chip.portOf port with cfg := cfg.pf }).fnExists port fn = true →
      f.en = false → f.rdy = false → f.flr = 0 →
      2 ≤ asqs → asqs ≤ 4096 → 2 ≤ acqs → acqs ≤ 4096 → Completes (.ccEnable t port fn cfg asqs acqs) s fun c =>
        (c.fnOf port fn).en = true ∧ (c.fnOf port fn).rdy = true ∧ (c.fnOf port fn).ams = cfg.ams ∧ (c.fnOf port fn).shst = 0
          ∧ (c.fnOf port fn).cfg = cfg.fn
          ∧ (∃ q, c.sqOf port fn 0 = some q ∧ q.size = asqs ∧ q.head = 0 ∧ q.tail = 0 ∧ q.cq = 0)
          ∧ (∃ k, c.cqOf port fn 0 = some k ∧ k.size = acqs ∧ k.head = 0 ∧ k.tail = 0 ∧ k.phase = 1)
          ∧ s.chip.keeps c ([.qs, .ports] ++ notePart) ∧ s.chip.keepsEntries c [])
    ∧ (∀ flush, f.en = true → f.shst ≠ 1 → (fn ≠ 0 ∨ s.chip.get E.FW_PENDING_SLOT = 0) → Completes (.controllerReset t port fn flush) s fun c =>
        (c.fnOf port fn).noAe = ({ Fn.initial port fn with dstate := f.dstate, flr := f.flr, flrT := f.flrT, cfg := f.cfg } : Fn).noAe
          ∧ (∀ q ∈ c.qs.sqs, ¬ (q.port = port ∧ q.fn = fn)) ∧ (∀ k ∈ c.qs.cqs, ¬ (k.port = port ∧ k.fn = fn))
          ∧ s.chip.keeps c ([.boot, .ports, .qs, .lk, .ft, .sb, .md, .rd, .lost, .st, .book, .wins, .pr, .fw] ++ notePart))

/-- Shutdown (R448, R449, R450), with no Format NVM and no activation running. Of a function alone, with no command of it in the controller, it
is complete at once, normal or abrupt, and SHST reads 10b; so it is for the one function whose drain has passed SHN_DRAIN_LIMIT, whatever it
still waits for. A PF, with every other enabled function shut down and no I/O command left, shuts the controller down: it halts, and every
function that asked reads 10b. -/
def Obligations.ShutdownsComplete : Prop :=
  ∀ (s : State) (t port fn : Nat) (f : Fn) (flush : FlushInput), s.chip.fnOf port fn = f → s.chip.isReady = true →
    s.chip.get E.FORMAT_STATE = 0 → s.chip.fw.fwaH = none →
    (∀ i, (i = .shutdownNormal t port fn flush ∨ i = .shutdownAbrupt t port fn flush) → f.en = true → f.shst = 0 →
      (∀ x ∈ s.chip.cmds, ¬ (x.port = port ∧ x.fn = fn)) → s.chip.fw.shn ≠ 1 → (fn ≠ 0 ∨ ∃ o ∈ s.chip.othersOn port fn, o.shst ≠ 2) →
      Completes i s fun c =>
        (c.fnOf port fn).noAe = ({ f with shst := 2, shnT := (s.chip.atTime t).now } : Fn).noAe ∧ s.chip.keeps c ([.pm, .boot, .md, .st] ++ notePart)
          ∧ (s.chip.get E.PS_CURRENT < 3 → s.chip.keeps c notePart ∧ s.chip.keepsEntries c []))
    ∧ (∀ i, (i = .shutdownNormal t port fn flush ∨ i = .shutdownAbrupt t port fn flush) → f.en = true → f.shst = 0 → fn = 0 →
      (∀ o ∈ s.chip.othersOn port fn, o.shst = 2) → (∀ x ∈ s.chip.cmds, x.admin = true) → flush.mainLost = false →
      Completes i s fun c => c.boot.run = .shut ∧ c.fw.shn = 3 ∧ (c.fnOf port fn).shst = 2 ∧ ∀ g ∈ c.fns, g.shst = 0 ∨ g.shst = 2)
    ∧ (f ∈ s.chip.fns → (s.chip.cmds.map Cmd.h).Nodup → f.port = port → f.fn = fn → f.shst = 1 → s.chip.fw.shn ≠ 1 →
      f.shnT + s.chip.get E.SHN_DRAIN_LIMIT * cycPerMs ≤ (s.chip.atTime t).now →
      (∀ g ∈ s.chip.fns, g.shst = 1 → g.shnT + s.chip.get E.SHN_DRAIN_LIMIT * cycPerMs ≤ (s.chip.atTime t).now → g = f) →
      Completes (.shnDrainLimit t flush) s fun c =>
        (c.fnOf port fn).shst = 2 ∧ s.chip.keeps c ([.lk, .ft, .rd, .st, .book, .wins, .pr] ++ notePart))

/-- Function-level reset (R115, R116) of a function that its port presents. It is counted, one during a drain as well; otherwise the function
is as initialised at once, with its queue reservation kept and FLR_STATE 1. When the drain ends, its queues go, FLR_LAST_DRAIN holds the
microseconds since the reset, and FLR_STATE is 2 where CC.EN was set meanwhile, else 0. VF Enable cleared leaves no function of the port
but the PF. -/
def Obligations.FunctionsAreReset : Prop :=
  ∀ (s : State) (t port fn : Nat) (f : Fn), s.chip.fnOf port fn = f →
    (s.chip.endpointUp = true → s.chip.fnExists port fn = true → Completes (.flrInitiate t port fn) s fun c =>
      s.chip.counts c E.FLR_COUNT (fnItem port fn) 1 ∧ (c.fnOf port fn).flr = 1)
    ∧ (s.chip.endpointUp = true → s.chip.fnExists port fn = true → f.flr ≠ 1 → Completes (.flrInitiate t port fn) s fun c =>
      (c.fnOf port fn).noAe = ({ Fn.initial port fn with flr := 1, flrT := (s.chip.atTime t).now, granted := f.granted } : Fn).noAe
        ∧ s.chip.keeps c ([.ports, .qs, .lk, .ft, .fw, .rd, .st, .book, .wins, .pr] ++ notePart))
    ∧ (f.flr = 1 → Completes (.flrDrainDone t port fn) s fun c =>
      (c.fnOf port fn).noAe = ({ f with granted := 0, ioCreated := false, coal := [], shadow := false, flr := if f.en then 2 else 0 } : Fn).noAe
        ∧ (∀ q ∈ c.qs.sqs, ¬ (q.port = port ∧ q.fn = fn)) ∧ (∀ k ∈ c.qs.cqs, ¬ (k.port = port ∧ k.fn = fn))
        ∧ c.getAt E.FLR_LAST_DRAIN (fnItem port fn) = ((s.chip.atTime t).now - f.flrT) / cycPerUs
        ∧ s.chip.keeps c (.qs :: .ports :: notePart) ∧ s.chip.keepsEntries c [E.FLR_LAST_DRAIN, E.QB_CLASS])
    ∧ (s.chip.portUsed port = true → Completes (.vfEnableClear t port) s fun c =>
      (∀ g ∈ c.fns, g.port = port → g.fn = 0) ∧ s.chip.keeps c ([.ports, .qs, .lk, .ft, .fw, .rd, .st, .book, .wins, .pr] ++ notePart))

/-- Device power states and the controller memory buffer (R110, R118). In D3hot the commands of a function that are admitted and before their
commit point pause; D0 follows when it is asked for; PME_Turn_Off takes the link of a PF in D3hot to L2/L3 Ready with PME_TO_Ack; CMSE
reserves a buffer of the size of BAR2 that fits. -/
def Obligations.FunctionsChangePowerState : Prop :=
  ∀ (s : State) (t port fn : Nat) (f : Fn), s.chip.fnOf port fn = f →
    (s.chip.isReady = true → s.chip.portUsed port = true → f.dstate = 0 → (s.chip.cmds.map Cmd.h).Nodup → Completes (.d3hotEntry t port fn) s fun c =>
      (c.fnOf port fn).noAe = ({ f with dstate := 3 } : Fn).noAe ∧ s.chip.keeps c notePart ∧ s.chip.keepsEntries c []
        ∧ ∀ x ∈ s.chip.pausable port fn, s.chip.notHeld x.h → (c.cmd x.h).map Cmd.paused = some (some (x.paused.getD (s.chip.atTime t).now)))
    ∧ (∀ w, w.fn = fn → s.chip.isReady = true → f.dstate = 3 → Completes (.d0Entry t port w) s fun c =>
      (c.fnOf port fn).noAe = ({ f with dstate := 0 } : Fn).noAe ∧ s.chip.keeps c ([.rd, .wins, .qs, .ports] ++ notePart))
    ∧ (s.chip.portUsed port = true → fn = 0 → f.dstate = 3 → (s.chip.portOf port).link ≠ 0 → Completes (.pmeTurnOff t port) s fun c =>
      c.portOf port = { s.chip.portOf port with readyL23 := true, link := 7 } ∧ .signal 4 port 1 ∈ c.out
        ∧ s.chip.keeps c (.ports :: notePart) ∧ s.chip.keepsEntries c [])
    ∧ (∀ base, s.chip.isReady = true → s.chip.fnExists port fn = true → f.cmse = false →
      s.chip.bar2Ctrl port fn ≤ s.chip.ddrMib (fun o => o == 1 || o == 2) - s.chip.fixedMib s.chip.bookOn - s.chip.ft.cmbMib →
      s.chip.ft.cmbMib + s.chip.bar2Ctrl port fn ≤ 65536 → Completes (.cmbEnable t port fn base) s fun c =>
        (c.fnOf port fn).noAe = ({ f with cmse := true, cmbOct := s.chip.bar2Ctrl port fn, cmbBase := base } : Fn).noAe
          ∧ c.ft.cmbMib = s.chip.ft.cmbMib + s.chip.bar2Ctrl port fn ∧ c.get E.CMB_RESERVED = s.chip.ft.cmbMib + s.chip.bar2Ctrl port fn
          ∧ c.bar2Mib port fn = s.chip.bar2Ctrl port fn
          ∧ s.chip.keeps c ([.ft, .pr, .st, .ports] ++ notePart) ∧ s.chip.keepsEntries c [E.CMB_RESERVED])

/-! ### Ports and links -/

/-- Resets of ports and of the controller (R114, R115). A port reset, by PERST# while the other port's is deasserted or by any other kind, takes
the port's functions, and leaves the link down, or in training after a hot reset. A full fundamental reset from service, a start, ROM recovery, a shutdown or a halt, with main
power up, ends in the boot ROM with cause 1, every queue gone, every window FREE and PERST# asserted. -/
def Obligations.PortsAreReset : Prop :=
  ∀ (s : State) (t : Nat),
    (∀ port kind, s.chip.endpointUp = true → s.chip.portUsed port = true → kind ≤ 3 →
      (kind ≠ 0 ∨ s.chip.boot.portMode = 1 ∧ (s.chip.portOf (1 - port)).perst = false) → Completes (.portReset t port kind) s fun c =>
        (∀ g ∈ c.fns, g.port ≠ port) ∧ (c.portOf port).link = (if kind = 1 then 1 else 0) ∧ (c.portOf port).width = 0
          ∧ (c.portOf port).perst = (decide (kind = 0) || (s.chip.portOf port).perst) ∧ (c.portOf port).pmeEn = false
          ∧ s.chip.keeps c ([.boot, .ports, .qs, .lk, .ft, .sb, .md, .rd, .lost, .st, .book, .wins, .pr, .fw] ++ notePart))
    ∧ (∀ flush, flush.mainLost = false → (s.chip.boot.run = .ready ∨ s.chip.boot.run = .starting ∨ s.chip.boot.run = .recovery
        ∨ s.chip.boot.run = .shut ∨ s.chip.boot.run = .halted) → Completes (.fullFundamentalReset t flush) s fun c =>
        c.boot.run = .rails ∧ c.boot.cause = 1 ∧ c.boot.trained = false ∧ c.qs = Qs.initial ∧ c.wins = [] ∧ (∀ p ∈ c.ports, p.perst = true)
          ∧ s.chip.keeps c ([.boot, .un, .ports, .qs, .lk, .ft, .sb, .md, .rd, .lost, .st, .book, .wins, .pr, .mg, .pm, .fw] ++ notePart))

/-- Links (R99, R100, R113, R115, R121 to R123). PERST# deasserted starts training of a port in use; a trained link has the generation, 6 only
in flit mode, and the width that both sides offer, and its port is DEGRADED below its capability and ONLINE at it; a port idle for
ASPM_L1_IDLE enters L1, or a substate that is allowed, also from L1, with LTR_IDLE in force, and leaves it; a change of Max_Payload_Size is
taken. -/
def Obligations.LinksTrainAndRest : Prop :=
  ∀ (s : State) (t port : Nat) (p : Port), s.chip.portOf port = p →
    (s.chip.portUsed port = true → p.perst = true → Completes (.perstDeassertion t port) s fun c =>
      c.portOf port = { p with perst := false, link := 1, wake := false, clkreq := true } ∧ s.chip.keeps c (.ports :: notePart) ∧ s.chip.keepsEntries c [])
    ∧ (∀ gen width flit g w, s.chip.portUsed port = true → p.perst = false → 1 ≤ gen → gen ≤ 6 → width ∈ [1, 2, 4, 8, 16] →
      g = min (s.chip.get E.LINK_MAX_GEN) (if flit then gen else min 5 gen) → w = min s.chip.portLanes width →
      (s.chip.own (mkUnit kPORT port) = 1 ∨ s.chip.own (mkUnit kPORT port) = 2) → fusedOff s.chip.fuse.variant (mkUnit kPORT port) = false →
      Completes (.linkTrained t port gen width flit) s fun c =>
        c.portOf port = { p with link := 2, gen := g, width := w, trained := w, rateWidth := w, flit := flit, idleSince := (s.chip.atTime t).now,
                                    sris := decide (s.chip.get E.CLOCK_MODE = 1) }
          ∧ c.own (mkUnit kPORT port) = (if g < s.chip.get E.LINK_MAX_GEN ∨ w < s.chip.portLanes then 2 else 1)
          ∧ s.chip.keeps c ([.boot, .un, .ports, .lk, .ft, .sb, .md, .rd, .lost, .st, .book, .wins, .pr] ++ notePart))
    ∧ (∀ k, s.chip.isReady = true → (p.link = 2 ∨ p.link = 3 ∨ p.link = 4 ∧ k ≠ 0) → s.chip.substateOk port k = true →
      (s.chip.atTime t).portRested port = true → Completes (.aspmL1Entry t port k) s fun c =>
        c.portOf port = { p with link := 4 + k, ltr := s.chip.get E.LTR_IDLE, clkreq := decide (k = 0) }
          ∧ (p.ltr ≠ s.chip.get E.LTR_IDLE → .signal 2 port (s.chip.get E.LTR_IDLE) ∈ c.out)
          ∧ s.chip.keeps c (.ports :: notePart) ∧ s.chip.keepsEntries c [])
    ∧ (4 ≤ p.link → p.link ≤ 6 → Completes (.l1Exit t port) s fun c =>
      c.portOf port = { p with link := if p.width < p.trained then 3 else 2, clkreq := true, idleSince := (s.chip.atTime t).now }
        ∧ s.chip.keeps c (.ports :: notePart) ∧ s.chip.keepsEntries c [])
    ∧ (∀ mps, port < 2 → mps ∈ [128, 256, 512] → p.mps ≠ mps → Completes (.mpsChange t port mps) s fun c =>
      c.portOf port = { p with mps := mps } ∧ s.chip.keeps c (.ports :: notePart) ∧ s.chip.keepsEntries c [E.HOST_DELAY])

/-- L0p (R120), where it can be: a narrower width within L0P_MIN_WIDTH that fits the commitments is asked for, and counts from then on; a wider
one is asked for when a placement has needed it; a width change sets the width and the link's state. DOE (R124): a discovery object and
GET_VERSION are answered, and DOE Abort clears the error and the session. -/
def Obligations.LinksCarryWidthsAndObjects : Prop :=
  ∀ (s : State) (t port : Nat) (p : Port), s.chip.portOf port = p →
    (∀ w, s.chip.l0pOn port w = true → p.width < w → p.wantWide = true → Completes (.l0pWidthRequest t port w) s fun c =>
        c.portOf port = { p with wantWide := false } ∧ .signal 3 port w ∈ c.out ∧ s.chip.keeps c (.ports :: notePart) ∧ s.chip.keepsEntries c [])
    ∧ (∀ w, s.chip.l0pOn port w = true → w < p.width → s.chip.l0pMin ≤ w → s.chip.fitsWidth port w = true →
      Completes (.l0pWidthRequest t port w) s fun c =>
        c.portOf port = { p with rateWidth := w } ∧ .signal 3 port w ∈ c.out ∧ s.chip.keeps c (.ports :: notePart) ∧ s.chip.keepsEntries c [])
    ∧ (∀ w by', s.chip.l0pOn port w = true → w ≠ p.width → Completes (.l0pWidthChange t port w by') s fun c =>
        c.portOf port = { p with width := w, rateWidth := w, link := if w < p.trained then 3 else 2 }
          ∧ s.chip.counts c E.L0P_CHANGES port 1 ∧ s.chip.keeps c (.ports :: notePart) ∧ s.chip.keepsEntries c [E.L0P_CHANGES, E.HOST_DELAY])
    ∧ (∀ length code body busy, s.chip.isReady = true → s.chip.portUsed port = true → p.doeError = false → length ≤ 1024 →
      (Completes (.doeRequest t port 1 0 length code body busy) s fun c =>
        (∃ v, .doe port 0 (octetsOf 4 v) ∈ c.out) ∧ s.chip.keeps c notePart ∧ s.chip.keepsEntries c [])
      ∧ (s.chip.get E.SPDM_ENABLE = 1 → busy = false → Completes (.doeRequest t port 1 1 length 0x84 body busy) s fun c =>
        .doe port 1 (0x10 :: 0x04 :: spdmVersions) ∈ c.out ∧ c.portOf port = { p with spdmVersion := true, spdmAlgos := false }
          ∧ s.chip.counts c E.SPDM_REQUESTS 0 1 ∧ s.chip.keeps c (.ports :: notePart) ∧ s.chip.keepsEntries c [E.SPDM_REQUESTS]))
    ∧ (port < 2 → Completes (.doeAbort t port) s fun c =>
        c.portOf port = { p with doeError := false, spdmVersion := false, spdmAlgos := false } ∧ s.chip.keeps c (.ports :: notePart)
          ∧ s.chip.keepsEntries c [])

/-! ### The dictionary -/

/-- Single writes (R29, R368, R382, R383). On a calm chip, LUN_SELECT takes a value 0 to 2,047 by a transport's write, by a
Dictionary Set record, and by dword 0 of its cell, for that transport alone; the first 8 octets of the buffer committed to
PW_BASE are its value for the selected window. -/
def Obligations.EntriesAreWritten : Prop :=
  ∀ (s : State) (t v : Nat), s.chip.isReady = true → s.chip.calm →
    (∀ x, v ≤ 2047 → s.chip.xportWrites x = true → Completes (.dictionaryWrite t x E.LUN_SELECT v 0) s fun c =>
      c.getAt E.LUN_SELECT (Xport.item x) = v ∧ .reply x 2 0 [] ∈ c.out ∧ s.chip.counts c E.DICT_WRITES 0 1
        ∧ s.chip.keeps c notePart ∧ (∀ e item, e ∉ [E.DICT_WRITES] → e ∉ eventMeters → (e, item) ≠ (E.LUN_SELECT, Xport.item x) →
          c.getAt e item = s.chip.getAt e item))
    ∧ (∀ h y, v ≤ 2047 → s.chip.adminWaits h 0xC5 y → y.fn = 0 → bits (y.dw 10) 7 0 = 0 → bits (y.dw 11) 31 9 = 0 → bits (y.dw 11) 8 0 = 1 →
      y.dw 12 ≤ 1052672 → Completes (.dictionarySet t h [{ addr := E.LUN_SELECT, type := DType.u20.code, tag := 0, value := v, octets := 0 }]) s
        fun c => c.answered h stOk 1 0 ∧ c.getAt E.LUN_SELECT (Xport.item .nvme) = v ∧ s.chip.keeps c notePart
          ∧ s.chip.keepsEntries c [E.LUN_SELECT, E.DICT_WRITES])
    ∧ (∀ port slot w, v ≤ 2047 → s.chip.slotAccess port slot (E.LUN_SELECT / 256) = some w →
      Completes (.cellDword0Write t port slot (E.LUN_SELECT / 256) (E.LUN_SELECT % 256) v) s fun c =>
        c.getAt E.LUN_SELECT (Xport.item (.bar4 port)) = v ∧ (c.dict.wins[port]?).map (fun w => (w.status, w.stageAddr)) = some (0, 0)
          ∧ s.chip.keeps c notePart ∧ s.chip.keepsEntries c [E.LUN_SELECT, E.DICT_WRITES])
    ∧ (∀ port w it, s.chip.winOf port = some w → it = s.chip.itemOf (.bar4 port) E.PW_BASE →
      v < 2 ^ 64 → s.chip.getAt E.PW_BASE it < 2 ^ 64 → Completes (.octCommit t port E.PW_BASE 8 0 v) s fun c =>
        c.getAt E.PW_BASE it = v ∧ (c.dict.wins[port]?).map Win.status = some 0 ∧ s.chip.keeps c notePart
          ∧ s.chip.keepsEntries c [E.PW_BASE, E.DICT_WRITES])

/-- The BAR4 window (R380 to R383). Dword 0 of a one-cell entry reads as its low 20 bits with the 12-bit tag above them; a write of
dword 1 of a two-cell entry stages its 20 bits; OCT_SELECT latches the octets of an OCT entry. -/
def Obligations.WindowIsRead : Prop :=
  ∀ (s : State) (t port : Nat) (w : Win) (d : Desc),
    (∀ slot index sub a, s.chip.slotAccess port slot index = some w → a = index * 256 + sub % 256 → descOf a = some d → d.type.cells = 1 → s.chip.stalledRead port index = false →
      Completes (.cellDword0Read t port slot index sub) s fun c =>
        .reply (.bar4 port) 0 0 [(s.chip.atTime t).readEntry (.bar4 port) a % 2 ^ 20 + at' (s.chip.tagSeen (.bar4 port) a) 20] ∈ c.out
          ∧ s.chip.counts c E.DICT_READS 0 1 ∧ s.chip.keeps c notePart ∧ s.chip.keepsEntries c [E.DICT_READS])
    ∧ (∀ slot index sub value a, s.chip.slotAccess port slot index = some w →
      a = index * 256 + sub % 256 → descOf a = some d → d.type.cells = 2 → Completes (.cellUpperWrite t port slot index sub 1 value) s fun c =>
        (c.dict.wins[port]?).map (fun w => (w.stageAddr, w.stage1)) = some (a, some (value % 2 ^ 20)) ∧ s.chip.keeps c notePart
          ∧ s.chip.keepsEntries c [])
    ∧ (∀ addr, s.chip.winOf port = some w → descOf addr = some d → d.type = .oct → Completes (.octSelect t port addr) s fun c =>
        (c.dict.wins[port]?).map (fun w => (w.octSelect, w.octBuf, w.octLen)) =
            some (addr, (s.chip.atTime t).readEntry (.bar4 port) addr, d.octets)
          ∧ s.chip.keeps c notePart ∧ s.chip.keepsEntries c [E.DICT_READS])

/-- Actions that take a picture or start a check (R31, R277, R286, R288, R374). A snapshot bears the time; QSEL captures the state of
the queue it names; with a store fitted and neither a proof nor a check running a tap check starts; a proof starts at the full anchor; a
removal is prepared in write-through; an image write begins, and the one in progress ends in a slot. -/
def Obligations.ActionsStart : Prop :=
  ∀ (s : State) (t : Nat) (x : Xport), s.chip.isReady = true → s.chip.xportWrites x = true →
    (∀ v, Completes (.snapTake t x v) s fun c =>
      c.getAt E.SNAP_TIME (s.chip.itemOf x E.SNAP_TIME) = (s.chip.atTime t).stamp
        ∧ c.getAt E.SNAP_GEN (s.chip.itemOf x E.SNAP_GEN) = (s.chip.getAt E.SNAP_GEN (s.chip.itemOf x E.SNAP_GEN) + 1) % 2 ^ 20
        ∧ c.getAt E.SNAP_FUNCS (s.chip.itemOf x E.SNAP_FUNCS) = (s.chip.fns.filter Fn.en).length ∧ s.chip.keeps c notePart)
    ∧ (∀ port fn qid q, port ≤ 1 → fn ≤ 511 → qid ≤ 65535 → s.chip.sqOf port fn qid = some q → q.deleting = false →
      (s.chip.fnOf port fn).flr = 0 → Completes (.qsel t x (qWord port fn qid)) s fun c =>
        c.getAt E.Q_STATE (s.chip.itemOf x E.Q_STATE) = 1 ∧ c.getAt E.Q_SQ_HEAD (s.chip.itemOf x E.Q_SQ_HEAD) = q.head
          ∧ c.getAt E.Q_SQ_TAIL (s.chip.itemOf x E.Q_SQ_TAIL) = q.tail ∧ s.chip.keeps c notePart)
    ∧ (∀ v, s.chip.st.present = true → s.chip.st.proof = false → s.chip.st.tapCheck = 0 → Completes (.tapCheckRun t x v) s fun c =>
      c.st = { s.chip.st with tapCheck := 1, tapT := (s.chip.atTime t).now, tapOpen := 0 } ∧ s.chip.keeps c (.st :: notePart))
    ∧ (∀ v, s.chip.proofReady = true → Completes (.proofRun t x v) s fun c =>
      c.st.proof = true ∧ c.st.hold = true ∧ c.get E.GAUGE_STATE = 4 ∧ s.chip.keeps c ([.st, .ft, .sb, .md] ++ notePart))
    ∧ (s.chip.get E.PREPARE_STATE = 0 → Completes (.storePrepare t x 1) s fun c =>
      (c.get E.PREPARE_STATE = 1 ∨ c.get E.PREPARE_STATE = 2) ∧ bit (c.get E.WT_CAUSE) 3 = 1 ∧ s.chip.keeps c ([.ft, .sb, .md] ++ notePart))
    ∧ (∀ v, s.chip.dict.writing = false → Completes (.imageFlush t x v) s fun c => c.dict.writing = true ∧ s.chip.keeps c notePart)
    ∧ (s.chip.dict.writing = true → (∀ y ∈ s.chip.cmds, y.admin = true → y.opcode ≠ 0xC5) → Completes (.imageWrite t) s fun c =>
      c.dict.writing = false ∧ (∃ k, (c.dict.slotA = some k ∨ c.dict.slotB = some k) ∧ k.valid = true ∧ k.recs = s.chip.dict.snap)
        ∧ s.chip.counts c E.IMAGE_WRITES 0 1 ∧ s.chip.keeps c notePart
        ∧ s.chip.keepsEntries c [E.IMAGE_WRITES, E.NAND_PAGES_PROGRAMMED, E.PROGRAM_SOURCES])

/-- Actions of the security configuration and of units and power (R18, R400, R442, R443, R457), where they are not turned away: a
management key that unwraps is held, SEC_LOCK is set, the version floor rises, a key is revoked, a unit is retired with
cause 4, a power state is requested. -/
def Obligations.ActionsTakeEffect : Prop :=
  ∀ (s : State) (t : Nat) (x : Xport), s.chip.isReady = true → s.chip.xportWrites x = true →
    (∀ v, s.chip.secLocked x = false → v < 2 ^ 1152 → s.chip.get E.MGMT_KEY_WRAP < 2 ^ 1152 → Completes (.mgmtKeyWrap t x v) s fun c =>
      (∀ k, Config.keyUnwrap s.chip.fuse.secret v = some k → c.mg = { s.chip.mg with key := some k } ∧ c.get E.MGMT_KEY_RESULT = 1)
        ∧ (Config.keyUnwrap s.chip.fuse.secret v = none → c.mg = s.chip.mg ∧ c.get E.MGMT_KEY_RESULT = 3) ∧ s.chip.keeps c (.mg :: notePart))
    ∧ (∀ v, Completes (.secLockSet t x v) s fun c => c.get E.SEC_LOCK = 1 ∧ s.chip.keeps c notePart)
    ∧ (∀ v, s.chip.secLocked x = false → s.chip.fuse.svnFloor < min 64 s.chip.runningSvn → Completes (.svnCommit t x v) s fun c =>
      c.fuse.svnFloor = min 64 s.chip.runningSvn ∧ c.get E.SVN_RESULT = 1 ∧ s.chip.keeps c (.fuse :: notePart))
    ∧ (∀ k, s.chip.secLocked x = false → k ≤ 3 → k < s.chip.fuse.keyRevoked.length →
      (∀ i, s.chip.fw.slots[s.chip.get E.FW_RUNNING_SLOT - 1]? = some i → i.keyIndex ≠ k) →
      (s.chip.keyValid k = false ∨ 2 ≤ ((List.range 4).filter s.chip.keyValid).length) → Completes (.keyRevoke t x k) s fun c =>
        c.fuse.keyRevoked.getD k false = true ∧ c.get E.KEY_REVOKE_RESULT = 1 ∧ s.chip.keeps c (.fuse :: notePart))
    ∧ (∀ v u, v < 2 ^ 20 → (∀ f ∈ s.chip.unitChecks, f v = v) → unitOfIdent v = u → unitKind u ≠ kCTL → unitKind u ≠ kPAIR →
      s.chip.own u ≠ 0 → s.chip.own u ≠ 4 → fusedOff s.chip.fuse.variant u = false → ((s.chip.atTime t).retire u 4).floorFaults = 0 →
      Completes (.unitRetire t x v) s fun c =>
        c.own u = 4 ∧ (c.unitRec u).cause = 4 ∧ c.get E.UNIT_RETIRE_RESULT = 0
          ∧ s.chip.keeps c ([.boot, .un, .lk, .ft, .sb, .md, .rd, .lost, .st, .book, .wins, .pr] ++ notePart))
    ∧ (∀ v, v ≤ 4 → (3 ≤ v ∨ s.chip.get E.PS_CURRENT < 3) → Completes (.pmTarget t x v) s fun c =>
      c.get E.PM_TARGET = v ∧ c.get E.PS_REQUESTED = v ∧ c.pm.wanted = some v ∧ s.chip.keeps c (.pm :: notePart)
        ∧ s.chip.keepsEntries c [E.PM_TARGET, E.PS_REQUESTED, E.DICT_WRITES])

/-! ### Peer windows -/

/-- Peer windows (R325, R328, R329). With fields in order a FREE window is armed with them, its counts at 0; an ARMED one that no
command uses is removed with cause 2, faulted with cause 3, or timed out with cause 1; a RETIRED one is free again; a
consumed count within the doorbells written is accepted. -/
def Obligations.WindowsAreManaged : Prop :=
  ∀ (s : State) (t : Nat) (x : Xport) (it p w : Nat), s.chip.isReady = true → s.chip.xportWrites x = true → it = s.chip.itemOf x E.PW_CMD →
    p = it / 256 → w = it % 256 →
    ((s.chip.win5 p w).state = 0 → s.chip.winFieldsOk it = true → Completes (.pwArm t x) s fun c =>
      (c.win5 p w).state = 1 ∧ (c.win5 p w).base = s.chip.getAt E.PW_BASE it ∧ (c.win5 p w).size = s.chip.getAt E.PW_SIZE it
        ∧ (c.win5 p w).count = 0 ∧ (c.win5 p w).timers = [] ∧ c.getAt E.PW_CMD_RESULT it = 0 ∧ c.getAt E.PW_DOORBELLS it = 0
        ∧ c.getAt E.PW_BYTES it = 0 ∧ s.chip.keeps c (.wins :: notePart))
    ∧ ((s.chip.win5 p w).state = 1 → (s.chip.win5 p w).users = [] → (s.chip.win5 p w).reading = [] → Completes (.pwRemove t x) s fun c =>
      (c.win5 p w).state = 2 ∧ c.getAt E.PW_RETIRE_CAUSE it = 2 ∧ c.getAt E.PW_CMD_RESULT it = 0 ∧ s.chip.keeps c (.wins :: notePart))
    ∧ ((s.chip.win5 p w).state = 2 → (s.chip.win5 p w).users = [] → (s.chip.win5 p w).reading = [] → Completes (.pwClear t x) s fun c =>
      (c.win5 p w).state = 0 ∧ c.getAt E.PW_CMD_RESULT it = 0 ∧ s.chip.keeps c (.wins :: notePart))
    ∧ ∀ port win k, port ≤ 1 → win ≤ 255 → (port = 0 ∨ s.chip.singlePort = false) → k = s.chip.win5 port win →
      (∀ v, v < 2 ^ 20 → serialDist 20 k.accepted v ≤ serialDist 20 k.accepted k.count → Completes (.pwConsumedWrite t x port win v) s fun c =>
        c.win5 port win = { k with accepted := v, timers := k.timers.drop (serialDist 20 k.accepted v) }
          ∧ c.get (E.PW_CONSUMED0 + winItem port win) = v ∧ s.chip.keeps c (.wins :: notePart))
      ∧ (∀ v, 0 < v → v < 2 ^ 20 → k.state = 1 → k.users = [] → k.reading = [] → Completes (.pwFaultWrite t x port win v) s fun c =>
        (c.win5 port win).state = 2 ∧ c.getAt E.PW_RETIRE_CAUSE (winItem port win) = 3 ∧ c.get (E.PW_FAULT0 + winItem port win) = v
          ∧ s.chip.keeps c (.wins :: notePart))
      ∧ (∀ t0 r, k.timers = t0 :: r → t0 + k.timeoutMs * cycPerMs ≤ (s.chip.atTime t).now → k.state = 1 → k.users = [] → k.reading = [] →
        Completes (.pwTimeout t port win) s fun c =>
          (c.win5 port win).state = 2 ∧ c.getAt E.PW_RETIRE_CAUSE (winItem port win) = 1 ∧ s.chip.keeps c (.wins :: notePart))

/-- Deliveries into a window (R326, R327): the doorbell of a delivery from the window's own port is one posted write, after which the
command succeeds; a delivery from another port succeeds when the read behind its doorbell has ended. -/
def Obligations.DeliveriesEnd : Prop :=
  ∀ (s : State) (t h : Nat) (x : Cmd) (k : Win5), s.chip.isReady = true → s.chip.cmd h = some x → s.chip.notHeld h → x.admin = false →
    x.opcode = 0x82 → x.phase = .committed → x.silent = false → x.posted = false → k = s.chip.win5 (x.segWin / 256) (x.segWin % 256) →
    (k.state = 1 → k.next h = true → x.segWin / 256 = x.port → Completes (.peerDoorbell t h) s fun c =>
      c.answered h stOk x.dw0 x.dw1
        ∧ .peer k.port k.win k.dbAddr (if k.dbSize = 0 then 4 else 8) (k.doorbell (x.dw 15) x.dw0 (x.dw 14)) ∈ c.out
        ∧ (c.win5 k.port k.win).count = (k.count + 1) % 2 ^ 20 ∧ (c.win5 k.port k.win).timers = k.timers ++ [(s.chip.atTime t).now]
        ∧ s.chip.keeps c (.wins :: notePart) ∧ s.chip.keepsEntries c [E.PW_DOORBELLS, E.SB_SEG_READS])
    ∧ (x.work = 1 → Completes (.doorbellReadCompletion t h true) s fun c =>
      c.answered h stOk x.dw0 x.dw1 ∧ (c.win5 k.port k.win).reading = k.reading.erase h ∧ s.chip.keeps c (.wins :: .ports :: notePart)
        ∧ s.chip.keepsEntries c [E.SB_SEG_READS, E.HOST_DELAY])

/-! ### Dies and channels -/

/-- Die operations (R17, R184, R185, R188 to R190). An operation within its allowance, never suspended before or past its resume
progress, is told to suspend for a waiting read; a suspend that has taken effect counts and holds the operation. Outside an outage of its
channel a read that ends leaves its die, an erase that passes leaves its block erased once more, and a poll that is due costs its bus
time and puts the next one off by STATUS_POLL. A read past its timeout is issued again, with one retry more. -/
def Obligations.DiesRunOperations : Prop :=
  ∀ (s : State) (t lun : Nat) (d : Die) (o : Op), s.chip.isReady = true → s.chip.calm → s.chip.dieOf lun = some d →
    s.chip.usable (mkUnit kLUN lun) = true →
    (s.chip.get E.PS_CURRENT < 3 → d.current = some o → o.suspended = false → o.suspendT = none → s.chip.hrWaits d = true →
      o.suspends < o.allow → (o.suspends = 0 ∨ o.resumeT + s.chip.minResume o.kind ≤ (s.chip.atTime t).now) →
      Completes (.resumeProgressMet t lun) s fun c =>
        c.dieOf lun = some { d with ops := d.ops.replace o { o with suspendT := some (s.chip.atTime t).now } }
          ∧ s.chip.keeps c (.md :: notePart) ∧ s.chip.keepsEntries c [])
    ∧ (∀ since, s.chip.get E.PS_CURRENT < 3 → d.current = some o → o.suspended = false → o.suspendT = some since → s.chip.hrWaits d = true →
      Completes (.suspendEffect t lun false) s fun c =>
        (c.dieOf lun).bind Die.current = some { o with suspends := o.suspends + 1, suspended := true, suspendT := none,
                                                       doneProg := o.doneProg + ((s.chip.atTime t).now - o.resumeT) }
          ∧ s.chip.counts c E.SUSPENDS 0 1 ∧ s.chip.keeps c (.md :: notePart))
    ∧ (d.ops = [o] → o.kind = .read → o.confirmed = true → (s.chip.atTime t).inOutage lun = false → Completes (.nandOperationComplete t lun false) s fun c =>
        (c.dieOf lun).map Die.ops = some [] ∧ s.chip.keeps c (.md :: notePart) ∧ s.chip.keepsEntries c [])
    ∧ (d.current = some o → o.kind = .erase → o.suspended = false → s.chip.ft.sanitizeStep ≠ 2 → (s.chip.blockOf lun o.block).lun = lun →
      (s.chip.atTime t).inOutage lun = false →
      Completes (.nandOperationComplete t lun false) s fun c =>
        (c.blockOf lun o.block).mode = (if o.qlc then 2 else 1)
          ∧ (c.blockOf lun o.block).erases = (s.chip.blockOf lun o.block).erases + 1 ∧ s.chip.keeps c ([.md, .sb] ++ notePart))
    ∧ (∀ ready, d.ending = some o → (s.chip.atTime t).inOutage lun = false → (s.chip.atTime t).pollDue d o ≤ (s.chip.atTime t).now →
      Completes (.statusPoll t lun (some ready)) s fun c =>
        c.um = ((s.chip.atTime t).chargeRes (.chan (chanOf lun)) o.cls (Config.busTokens 0)).um
          ∧ c.dieOf lun = some { d with ops := d.ops.replace o { o with pollT := (s.chip.atTime t).now + max 1 (s.chip.get E.STATUS_POLL * 1000 / psPerCyc) } }
          ∧ s.chip.keeps c [.um, .md, .dict] ∧ ∀ e item, c.getAt e item = s.chip.getAt e item)
    ∧ (d.ops = [o] → o.kind = .read → o.confirmed = true → o.suspended = false → o.retries < s.chip.get E.RETRY_LIMIT →
      o.issueT + s.chip.opTimeout .read ≤ (s.chip.atTime t).now → (s.chip.atTime t).bearsFault (mkUnit kLUN lun) →
      Completes (.operationTimeout t lun) s fun c =>
        (c.dieOf lun).map (fun d => d.ops.map fun q => (q.kind, q.task, q.retries)) = some [(.read, o.task, o.retries + 1)]
          ∧ s.chip.counts c E.OP_TIMEOUTS 0 1 ∧ s.chip.counts c E.LUN_RESETS 0 1 ∧ s.chip.keeps c ([.md, .un] ++ notePart))

/-- Training and upkeep of the channels (R175, R179 to R183, R195, R199, R200): TRAINING_ATTEMPT, RETRAIN_DUE, ZQ_CALIBRATION and
NAND_TEMPERATURE_READ complete. A full attempt brings the interface entries into force and takes the first rate whose eye is TRAIN_EYE_MIN wide
and 8 steps high, which leaves every fitted target of the channel calibrated and trained at that moment; one in which no rate passes counts as a failure,
and the third of them retires the channel. An attempt as the probe of a FENCED channel does the same with the entries as they are, and its pass is kept, or
returns the channel. A target that is due for retraining has its outage booked beyond the 64 innings of the ledger, and from its first booked inning on
the retraining renews its trims, or, with too small an eye, leaves them and is booked anew; a DEGRADED channel takes the first higher rate
that passes. A ZQ calibration and a temperature reading are kept; a reading that is out of range, or that a busy die does not give, counts as
one interval without one. The trims themselves are a free value (log entry 11). -/
def Obligations.ChannelsAreTrained : Prop :=
  ∀ (s : State) (t ch : Nat) (k : Chan), s.chip.chan ch = some k →
    (∀ rates eyes, s.chip.boot.run = .starting → 1 ≤ s.chip.own (mkUnit kCHAN ch) → s.chip.own (mkUnit kCHAN ch) ≤ 2 →
      (∀ r eye, ((s.chip.atTime t).calibrateLong ch).firstRate ch (rates.zip eyes) = some (r, eye) →
        Completes (.trainingAttempt t ch true rates eyes) s fun c =>
          (∃ sel, c.chan ch = some { k with rate := r, configured := ((s.chip.atTime t).calibrateLong ch).configuredRate ch, fails := 0, wp := false, eye := eye,
                                            selected := sel, set := (s.chip.calibrateLong ch).trainSet ch })
            ∧ ((s.chip.calibrateLong ch).trainSet ch).rateMax = s.chip.get E.NAND_RATE_MAX
            ∧ ((s.chip.calibrateLong ch).trainSet ch).floor = s.chip.get E.NAND_RATE_FLOOR
            ∧ (∀ i x, s.chip.tgt i = some x → x.fitted = true → x.tgt / 16 = ch →
              ∃ y, c.tgt i = some y ∧ y.zqT = (s.chip.atTime t).now ∧ y.trainT = (s.chip.atTime t).now ∧ y.eye = eye
                ∧ y.odt = s.chip.get E.NAND_ODT ∧ y.drive = s.chip.get E.NAND_DRIVE)
            ∧ c.getAt E.CH_TRAIN_LAST ch = (s.chip.atTime t).stamp ∧ s.chip.keeps c ([.md, .un, .free] ++ notePart))
      ∧ (((s.chip.atTime t).calibrateLong ch).firstRate ch (rates.zip eyes) = none → Completes (.trainingAttempt t ch true rates eyes) s fun c =>
          c.chan ch = some { k with fails := min 3 (k.fails + 1), configured := ((s.chip.atTime t).calibrateLong ch).configuredRate ch, selected := [0, 0, 0, 0],
                                    set := (s.chip.calibrateLong ch).trainSet ch }
            ∧ (2 ≤ k.fails → (s.chip.un.units.map UnitRec.unit).Nodup → fusedOff s.chip.fuse.variant (mkUnit kCHAN ch) = false →
              c.own (mkUnit kCHAN ch) = 4)
            ∧ c.getAt E.CH_TRAIN_LAST ch = (s.chip.atTime t).stamp ∧ s.chip.keeps c ([.md, .un] ++ notePart)))
    ∧ (∀ rates eyes, s.chip.isReady = true → s.chip.calm → s.chip.own (mkUnit kCHAN ch) = 3 → (s.chip.unitRec (mkUnit kCHAN ch)).probe = 1 →
      (s.chip.un.units.map UnitRec.unit).Nodup → fusedOff s.chip.fuse.variant (mkUnit kCHAN ch) = false →
      (∀ r eye, (s.chip.atTime t).firstRate ch (rates.zip eyes) = some (r, eye) →
        ((s.chip.atTime t).now < (s.chip.unitRec (mkUnit kCHAN ch)).fenceEnd ∨ s.chip.ancestorOut (mkUnit kCHAN ch) = true →
          Completes (.trainingAttempt t ch false rates eyes) s fun c =>
            (∃ sel, c.chan ch = some { k with rate := r, configured := s.chip.configuredRate ch, fails := 0, wp := false, eye := eye, selected := sel })
              ∧ c.own (mkUnit kCHAN ch) = 3 ∧ (c.unitRec (mkUnit kCHAN ch)).probe = 3
              ∧ c.getAt E.CH_TRAIN_LAST ch = (s.chip.atTime t).stamp)
        ∧ ((s.chip.unitRec (mkUnit kCHAN ch)).fenceEnd ≤ (s.chip.atTime t).now → s.chip.ancestorOut (mkUnit kCHAN ch) = false →
          1 ≤ (s.chip.unitRec (mkUnit kCHAN ch)).prior → (s.chip.unitRec (mkUnit kCHAN ch)).prior ≤ 2 →
          Completes (.trainingAttempt t ch false rates eyes) s fun c =>
            c.own (mkUnit kCHAN ch) = if r < s.chip.configuredRate ch then 2 else 1))
      ∧ ((s.chip.atTime t).firstRate ch (rates.zip eyes) = none →
        (k.fails < 2 → Completes (.trainingAttempt t ch false rates eyes) s fun c =>
          c.chan ch = some { k with fails := k.fails + 1, configured := s.chip.configuredRate ch } ∧ c.own (mkUnit kCHAN ch) = 3
            ∧ c.getAt E.CH_TRAIN_LAST ch = (s.chip.atTime t).stamp ∧ s.chip.keeps c (.md :: notePart))
        ∧ (2 ≤ k.fails → Completes (.trainingAttempt t ch false rates eyes) s fun c => c.own (mkUnit kCHAN ch) = 4)))
    ∧ (s.chip.isReady = true → s.chip.calm → ∀ (tgt : Nat) (x : Tgt), s.chip.tgt (16 * ch + tgt % 16) = some x → x.fitted = true →
      s.chip.usable (mkUnit kTGT x.tgt) = true →
      (∀ eye higher, ((s.chip.atTime t).retrainDue x = false ∨ (∃ i l, k.job x = i :: l ∧ (s.chip.atTime t).inning < i)) →
        Completes (.retrainDue t ch tgt eye higher) s fun c =>
          c.tgt x.tgt = some x ∧ c.chan ch = some k ∧ s.chip.keeps c notePart ∧ s.chip.keepsEntries c [])
      ∧ (∀ eye higher, (s.chip.atTime t).retrainDue x = true → k.job x = [] → Completes (.retrainDue t ch tgt eye higher) s fun c =>
        (∃ q, c.chan ch = some q ∧ q.rate = k.rate
            ∧ (q.job x).length = 1 + (s.chip.fittedOn ch).length * ((s.chip.atTime t).higherRates k x).length
            ∧ ∀ i ∈ q.job x, (s.chip.atTime t).inning + 63 < i ∧ i ∈ q.outages)
          ∧ c.tgt x.tgt = some x ∧ s.chip.keeps c (.md :: notePart) ∧ s.chip.keepsEntries c [])
      ∧ (∀ eye higher i l, (s.chip.atTime t).retrainDue x = true → k.job x = i :: l → i ≤ (s.chip.atTime t).inning →
        (s.chip.eyeOk eye = true → (s.chip.atTime t).betterRate k x higher = none → Completes (.retrainDue t ch tgt eye higher) s fun c =>
          c.tgt x.tgt = some { x with trims := trimSet s.chip.free eye.1, trainT := (s.chip.atTime t).now, eye := eye.1,
                                      trainTemp := (s.chip.atTime t).tempOf (4 * x.tgt), odt := k.set.odt, drive := k.set.drive }
            ∧ (c.chan ch).map (fun q => (q.rate, q.eye)) = some (k.rate, c.narrowest ch) ∧ c.getAt E.CH_TRAIN_LAST ch = (s.chip.atTime t).stamp
            ∧ c.getAt E.CH_RETRAINS ch = min (topOf E.CH_RETRAINS) (s.chip.getAt E.CH_RETRAINS ch + 1)
            ∧ s.chip.keeps c ([.md, .free] ++ notePart))
        ∧ (∀ r, s.chip.eyeOk eye = true → (s.chip.atTime t).betterRate k x higher = some r → fusedOff s.chip.fuse.variant (mkUnit kCHAN ch) = false →
          (r < k.configured → Completes (.retrainDue t ch tgt eye higher) s fun c =>
            (c.chan ch).map (fun q => (q.rate, q.eye)) = some (r, c.narrowest ch) ∧ c.own (mkUnit kCHAN ch) = 2
              ∧ c.getAt E.CH_TRAIN_LAST ch = (s.chip.atTime t).stamp)
          ∧ (k.configured ≤ r → Completes (.retrainDue t ch tgt eye higher) s fun c => c.own (mkUnit kCHAN ch) = 1))
        ∧ (s.chip.eyeOk eye = false → (s.chip.atTime t).bearsFault (mkUnit kCHAN ch) → Completes (.retrainDue t ch tgt eye higher) s fun c =>
          c.tgt x.tgt = some x ∧ (∃ q, c.chan ch = some q ∧ q.rate = k.rate ∧ q.job x ≠ [] ∧ ∀ j ∈ q.job x, (s.chip.atTime t).inning + 63 < j ∧ j ∈ q.outages)
            ∧ c.getAt E.CH_TRAIN_LAST ch = (s.chip.atTime t).stamp ∧ s.chip.keeps c ([.md, .un] ++ notePart)))
      ∧ (∀ ok, k.outages.contains (s.chip.atTime t).inning = false → x.zqT + s.chip.get E.ZQ_INTERVAL * cycPerMs ≤ (s.chip.atTime t).now →
        (ok = true ∨ (s.chip.atTime t).bearsFault (mkUnit kTGT x.tgt)) → Completes (.zqCalibration t ch tgt ok) s fun c =>
          c.tgt x.tgt = some { x with zqT := (s.chip.atTime t).now }
            ∧ s.chip.keeps c ((if ok then [.md] else [.md, .un]) ++ notePart) ∧ s.chip.keepsEntries c []))
    ∧ (∀ lun d reading, s.chip.isReady = true → s.chip.dieOf lun = some d → s.chip.usable (mkUnit kLUN lun) = true →
      (d.tempT = 0 ∨ d.tempT + s.chip.get E.NTEMP_INTERVAL * cycPerMs ≤ (s.chip.atTime t).now) →
      (∀ v, reading = some v → -40 ≤ s.chip.degrees (chanOf lun) v → s.chip.degrees (chanOf lun) v ≤ 125 →
        Completes (.nandTemperatureRead t lun reading) s fun c =>
          c.dieOf lun = some { d with temp := some (s.chip.degrees (chanOf lun) v), tempAge := 0, tempT := (s.chip.atTime t).now }
            ∧ s.chip.keeps c (.md :: notePart) ∧ s.chip.keepsEntries c [])
      ∧ ((reading = none ∨ ∃ v, reading = some v ∧ (s.chip.degrees (chanOf lun) v < -40 ∨ 125 < s.chip.degrees (chanOf lun) v)) →
        Completes (.nandTemperatureRead t lun reading) s fun c =>
          c.dieOf lun = some { d with tempAge := min 3 (d.tempAge + 1), tempT := (s.chip.atTime t).now }
            ∧ s.chip.keeps c (.md :: notePart) ∧ s.chip.keepsEntries c [E.NTEMP_FALLBACKS]))

/-- The erase-intent ring and the fences (R18, R20, R192). Where the ring has a page, a page of intents makes its entries written and carries
cleared-through, a later page only that. With no ancestor out, a fenced unit returns to its prior state when its probe has passed by the
end of FENCE_TIME, and is RETIRED with cause 1 when it has not, or when its probe fails; at that end the probe of a unit with a fenced ancestor, and none
RETIRED, is postponed. -/
def Obligations.IntentsAndFencesEnd : Prop :=
  ∀ (s : State) (t : Nat), s.chip.isReady = true →
    ((s.chip.md.intents.any fun i => !i.written) = true → s.chip.ringFree = true →
      (s.chip.md.intents.filter fun i => !i.written).length ≤ min 1020 (s.chip.get E.EI_MAX_PENDING - s.chip.eiPending) →
      Completes (.eraseIntentProgrammed t) s fun c =>
        (∀ i ∈ c.md.intents, i.written = true) ∧ c.md.cleared = max s.chip.md.cleared s.chip.clearedTo ∧ c.md.clearSince = none
          ∧ c.md.ringAt = s.chip.md.ringAt + 1
          ∧ s.chip.keeps c (.md :: notePart) ∧ s.chip.keepsEntries c [E.NAND_PAGES_PROGRAMMED, E.PROGRAM_SOURCES])
    ∧ (∀ since, s.chip.ringFree = true → s.chip.md.clearSince = some since → since + s.chip.get E.EI_CLEAR_DELAY * cycPerSec ≤ (s.chip.atTime t).now →
      Completes (.eiClearDelay t) s fun c =>
        c.md = { s.chip.md with intents := s.chip.md.intents.filter fun i => decide (max s.chip.md.cleared s.chip.clearedTo ≤ i.seq),
                                cleared := max s.chip.md.cleared s.chip.clearedTo, clearSince := none,
                                ring := c.md.ring, ringAt := s.chip.md.ringAt + 1 }
          ∧ s.chip.keeps c (.md :: notePart) ∧ s.chip.keepsEntries c [E.NAND_PAGES_PROGRAMMED, E.PROGRAM_SOURCES])
    ∧ (∀ u, s.chip.own u = 3 → fusedOff s.chip.fuse.variant u = false → (s.chip.un.units.map UnitRec.unit).Nodup →
      (s.chip.ancestorOut u = false → (s.chip.unitRec u).fenceEnd ≤ (s.chip.atTime t).now → (s.chip.unitRec u).probe = 3 → Completes (.fenceTimeExpiry t u) s fun c =>
        c.own u = (s.chip.unitRec u).prior ∧ (c.unitRec u).faults = [])
      ∧ (s.chip.ancestorOut u = false → (s.chip.unitRec u).fenceEnd ≤ (s.chip.atTime t).now → (s.chip.unitRec u).probe = 1 → Completes (.fenceTimeExpiry t u) s fun c =>
        c.own u = 4 ∧ (c.unitRec u).cause = 1)
      ∧ (3 ∈ (ancestorsOf u).map s.chip.own → 4 ∉ (ancestorsOf u).map s.chip.own → (s.chip.unitRec u).fenceEnd ≤ (s.chip.atTime t).now →
        (s.chip.unitRec u).probe ≠ 0 → Completes (.fenceTimeExpiry t u) s fun c => c.own u = 3 ∧ (c.unitRec u).probe = 2)
      ∧ (s.chip.ancestorOut u = false → (s.chip.unitRec u).probe = 1 → (s.chip.atTime t).now < (s.chip.unitRec u).fenceEnd → Completes (.probeComplete t u true) s fun c =>
        c.own u = 3 ∧ (c.unitRec u).probe = 3)
      ∧ (s.chip.ancestorOut u = false → (s.chip.unitRec u).probe = 1 → Completes (.probeComplete t u false) s fun c => c.own u = 4 ∧ (c.unitRec u).cause = 1))

/-! ### Superblocks -/

/-- Moves begin (R139, R147, R151, R224, R225, R250). A unit whose place was rebuilt, with a row to take it, is on its way; the superblock
whose turn it is in relocation, folding or collection goes to that state once the slices of its units are loaded; a closed host SLC superblock
that Recast takes is the next to be folded, and a QLC one within its tolerance and full enough is in work. -/
def Obligations.MovesBegin : Prop :=
  ∀ (s : State) (t : Nat), s.chip.awake = true →
    (∀ u e cws, s.chip.sb.realloc = [(u, e, cws)] → s.chip.mapOf u = e → s.chip.isLost u = false →
      (∀ x ∈ s.chip.sb.held, x.unit ≠ u) → ((s.chip.atTime t).startMove u e 4 3 cws).isSome = true → Completes (.reallocation t) s fun c =>
        (∃ x ∈ c.sb.held, x.unit = u ∧ x.src = e ∧ x.cls = 4) ∧ c.sb.realloc = s.chip.sb.realloc ∧ c.mapOf u = e)
    ∧ (∀ q, (∀ x ∈ s.chip.sb.sbs, x.state ≠ .relocating) → firstBy Sb.moveRank (s.chip.sb.sbs.filter fun x => x.state == .closed
        && (x.qlc || (x.kind == .host && s.chip.sb.foldQ.head? != some x.idx))
        && (x.firstMark || x.marked.isSome || decide (10 ^ 9 ≤ x.stress))) = some q → q.qlc = true → s.chip.slicesReady q = true → Completes (.relocation t) s fun c =>
        ∃ y, c.sbOf q.idx = some y ∧ y.state = .relocating ∧ y.placed = q.placed)
    ∧ (∀ q, (∀ x ∈ s.chip.sb.sbs, x.state ≠ .folding) → ((s.chip.sb.foldQ.filterMap s.chip.sbOf).find? fun x => x.state == .closed) = some q → s.chip.slicesReady q = true →
      Completes (.fold t) s fun c => ∃ y, c.sbOf q.idx = some y ∧ y.state = .folding ∧ y.placed = q.placed)
    ∧ (∀ q, (s.chip.atTime t).wearLevel = s.chip.atTime t → (∀ x ∈ s.chip.sb.sbs, x.state ≠ .collecting) → s.chip.sb.victims = [] →
      s.chip.freeRatio ≤ s.chip.get E.GC_START → s.chip.get E.GC_URGENT ≤ s.chip.get E.GC_START → (s.chip.atTime t).gcVictim = some q →
      s.chip.allLoaded = true → Completes (.gcVictimChoice t) s fun c =>
        (∃ y, c.sbOf q.idx = some y ∧ y.state = .collecting ∧ y.placed = q.placed) ∧ s.chip.counts c E.GC_VICTIMS 0 1)
    ∧ (∀ q, s.chip.calm → (∀ x ∈ s.chip.sb.sbs, x.inWork = false) → 0 < s.chip.get E.RB_PARALLEL → s.chip.nextExposed = some q →
      s.chip.sbOf q.idx = some q → s.chip.currentUnits q ≠ [] → q.state = .closed →
      (q.kind = .host → q.qlc = false → Completes (.recast t) s fun c => c.sb.foldQ.head? = some q.idx ∧ s.chip.keeps c (.sb :: notePart))
      ∧ (q.kind = .dest → q.qlc = true → (s.chip.missing q).length ≤ tolerance q.p2 →
        s.chip.get E.RB_COLLECT_UTIL * q.dataSlots ≤ (s.chip.validUnits q).length * 1000 → Completes (.recast t) s fun c =>
          (∃ y, c.sbOf q.idx = some y ∧ y.inWork = true ∧ y.state = .closed ∧ y.placed = q.placed) ∧ s.chip.keeps c ([.sb, .md, .rd] ++ notePart)))

/-- Places change (R144, R149, R150, R238, R244, R252). A copy whose page is safe takes over its unit; a source with nothing left waits
for erase, its blocks gathered; a superblock is assembled over the dies of the next row in turn where its stream has none open; a row programmed
with pass whose records find room places its units and goes, and one whose accumulator shows a fault waits (the model's choice, log entry 74); one past
CRU_CLOSE_TIME is closed with filler; a replacement that has all its rows takes its member's place. -/
def Obligations.PlacesChange : Prop :=
  ∀ (s : State) (t sb : Nat), s.chip.isReady = true →
    (∀ q x slot, s.chip.sbOf sb = some q → s.chip.sb.repls = [] → s.chip.pageSafe q (slotPage slot) = true →
      (s.chip.sb.held.filter fun y => decide (y.dst = sb * 2 ^ 20 + slot)) = [x] → s.chip.sliceLoaded x.unit = true → s.chip.mapOf x.unit = x.src →
      s.chip.placeHeld x.unit = false →
      Completes (.destinationPageSafe t sb slot) s fun c =>
        c.mapOf x.unit = x.dst ∧ x ∉ c.sb.held ∧ s.chip.keeps c ([.ft, .sb] ++ notePart))
    ∧ (∀ q, s.chip.calm → s.chip.sbOf sb = some q → s.chip.releasable q = true →
      (∀ m ∈ q.members, (s.chip.blockOf m.lun m.block).marks < s.chip.get E.MARK_RETIRE) → Completes (.sourceRelease t sb) s fun c =>
        (c.sbOf sb).map Sb.state = some .awaitErase
          ∧ (∀ m ∈ q.members, s.chip.reported (mkUnit kLUN m.lun) ≠ 4 →
            ∃ i ∈ c.md.intents, i.lun = m.lun ∧ i.block = m.block ∧ i.kind = 0 ∧ i.sb = sb ∧ i.written = false)
          ∧ s.chip.keeps c ([.sb, .md] ++ notePart))
    ∧ (∀ stream layout r, stream ≤ 6 → s.chip.mayAssemble stream = true → s.chip.streamOpen stream layout = false → s.chip.rowsAhead.find? s.chip.rowFree = some r → s.chip.sbOf s.chip.freeIndex = none →
      Completes (.superblockAssembly t stream layout) s fun c =>
        ∃ y, c.sbOf s.chip.freeIndex = some y ∧ y.stream = stream ∧ y.kind = streamKind stream ∧ y.members.map Member.lun = s.chip.layoutRow r)
    ∧ (∀ row r q, s.chip.rowOf row = some r → s.chip.sbOf r.sb = some q → r.passedAll q = true → row < s.chip.sb.nextRow →
      (r.entries.map Prod.snd).Nodup → (∀ e ∈ r.entries, ∃ sl, s.chip.slotOf e.2 = some sl ∧ sl.wseq.isSome = true
        ∧ s.chip.ft.dir.get 0 sl.unit = e.2) → s.chip.placesFit ((r.entries.filterMap fun e => s.chip.slotOf e.2).map Slot.unit) = true →
      Completes (.stripeRowClose t { row := row, fault := false }) s fun c =>
        c.rowOf row = none ∧ ∀ e ∈ r.entries, ∀ sl, s.chip.slotOf e.2 = some sl → c.mapOf sl.unit = mkEntry r.sb r.row e.1 ∧ c.slotOf e.2 = none)
    ∧ (∀ row r, s.chip.calm → s.chip.rowOf row = some r → (s.chip.atTime t).bearsFault (mkUnit kQUAD r.quad) →
      Completes (.stripeRowClose t { row := row, fault := true }) s fun c => c.rowOf row = some r ∧ s.chip.keeps c (.un :: notePart) ∧ s.chip.keepsEntries c [])
    ∧ (∀ row r q, s.chip.rowOf row = some r → s.chip.sbOf r.sb = some q → r.closing = false → (∃ e ∈ r.entries, e.2 ≠ 0) →
      r.since + s.chip.get E.CRU_CLOSE_TIME * cycPerMs ≤ (s.chip.atTime t).now → Completes (.cruCloseTime t row) s fun c =>
        (c.rowOf row).map (fun y => (y.closing, y.entries)) = some (true, r.entries) ∧ s.chip.keeps c ([.sb, .md] ++ notePart)
          ∧ s.chip.keepsEntries c [E.CRU_PAD_UNITS])
    ∧ (∀ row q e, s.chip.sbOf sb = some q → (q.pend.find? fun p => decide (p.row = row)) = some e → Completes (.patchEntryEffect t sb row) s fun c =>
        c.sbOf sb = some { q with pend := q.pend.erase e, patches := q.patches ++ [e.over (q.patchOf row)],
                                  record := (q.patches ++ [e.over (q.patchOf row)]).map Patch.octets } ∧ s.chip.keeps c (.sb :: notePart)
          ∧ s.chip.keepsEntries c [E.NAND_PAGES_PROGRAMMED, E.PROGRAM_SOURCES])
    ∧ (∀ member q r m, s.chip.awake = true → s.chip.sbOf sb = some q → (s.chip.sb.repls.find? fun x => decide (x.sb = sb ∧ x.pos = member)) = some r →
      q.members[member]? = some m → s.chip.usable (mkUnit kLUN r.lun) = true → q.rows ≤ r.fin → s.chip.replBusy r = false → (s.chip.blockOf r.lun r.block).mode = (if q.qlc then 2 else 1) →
      Completes (.memberReplacementComplete t sb member) s fun c =>
        ((c.sbOf sb).bind fun y => y.members[member]?).map (fun y => (y.lun, y.block)) = some (r.lun, r.block) ∧ s.chip.counts c E.RB_REPLACED 0 1
          ∧ s.chip.keeps c ([.sb, .md] ++ notePart))

/-- The Assayer, the ladder and the minutes (R207, R212, R216, R218, R247, R248). A row whose codewords all agree counts as checked, and
patrol goes on to the next; a closed superblock past PATROL_PERIOD is overdue; the codeword of a first read that passes,
with others of its unit to come, is kept; closed superblocks take a minute's stress; after ZT_LEARN_PERIOD the learned order follows the counts. -/
def Obligations.PatrolAndLearning : Prop :=
  ∀ (s : State) (t : Nat),
    (∀ sb row q l members, s.chip.awake = true → s.chip.calm → s.chip.get E.PATROL_ENABLE = 1 → s.chip.patrolTarget = some q →
      s.chip.sbOf sb = some q → s.chip.patrolRows q q.patrolRow = row :: l → s.chip.sb.patrolAt = none → (∀ k ∈ s.chip.rd.tasks, k.h ≠ patrolH) →
      (∀ k ∈ s.chip.rd.tasks, k.id < s.chip.rd.nextTask) → s.chip.rowPasses q row members →
      (∀ cw, cw < 4 → checkWord q.p2 cw (dataOctets q row cw (readWords members)) (parityOctets q row cw 0 (readWords members))
        (parityOctets q row cw 1 (readWords members)) = (0, 0, 0)) →
      Completes (.patrolRow t sb row members) s fun c =>
        s.chip.counts c E.ROWS_CHECKED 0 1
          ∧ (∃ y, c.sbOf sb = some y ∧ y.placed = q.placed ∧ if s.chip.patrolRows q (row + 1) = []
            then y.patrolT = (s.chip.atTime t).now ∧ y.patrolRow = 0 ∧ y.overdue = false else y.patrolT = q.patrolT ∧ y.patrolRow = row + 1)
          ∧ s.chip.keeps c ([.sb, .rd] ++ notePart))
    ∧ (s.chip.isReady = true → Completes (.patrolOverdue t) s fun c =>
      c.sb.sbs = s.chip.sb.sbs.map (fun x =>
        if x.isClosed && decide (x.patrolT + s.chip.get E.PATROL_PERIOD * cycPerDay ≤ (s.chip.atTime t).now) then { x with overdue := true } else x)
        ∧ s.chip.keeps c (.sb :: notePart) ∧ s.chip.keepsEntries c [])
    ∧ (∀ task k k' r, s.chip.isReady = true → s.chip.calm → s.chip.taskOf task = some k → k.step = 1 → k.word = none → s.chip.sensing k.grp = false →
      k' ∈ s.chip.rd.tasks → k'.id ≠ k.id → k'.h = k.h → k'.unit = k.unit → k'.own = k.own → k'.entry = k.entry → k'.word = none →
      r.own.syndrome = true → wordCrcOk r.own.word = true → wordTagOk r.own.word k.unit k.cw = true → Completes (.decodeComplete t task r) s fun c =>
        (c.taskOf task).bind Task.word = some r.own.word ∧ s.chip.counts c E.STEP1_PASS 0 1 ∧ s.chip.keeps c ([.rd, .sb] ++ notePart))
    ∧ (s.chip.isReady = true → Completes (.retentionStressTick t) s fun c =>
      c.sb.sbs.map Sb.stress = s.chip.sb.sbs.map (fun x =>
        if x.isClosed then x.stress + cdiv (60 * 10 ^ 9) (s.chip.refreshSec (s.chip.bandOfSb x)) else x.stress)
        ∧ s.chip.keeps c (.sb :: notePart) ∧ s.chip.keepsEntries c [])
    ∧ (s.chip.isReady = true → s.chip.get E.ZT_LEARN = 1 → s.chip.rd.learnT + s.chip.get E.ZT_LEARN_PERIOD * cycPerMin ≤ (s.chip.atTime t).now → (s.chip.rd.counts.map ZoneCount.key).Nodup → Completes (.zoneLearningPeriod t) s fun c =>
      c.rd.counts = s.chip.rd.counts.map (fun z => { z with counts := z.counts.map (· / 2) })
        ∧ (∀ z ∈ s.chip.rd.counts, c.getAt E.ZT_ORDER z.key = ofOctets (((List.range 8).map fun i => octet (s.chip.getAt E.ZT_ORDER z.key) i).mergeSort
          fun a b => decide (nth z.counts b ≤ nth z.counts a)))
        ∧ s.chip.keeps c (.rd :: notePart) ∧ s.chip.keepsEntries c [E.ZT_ORDER, E.ZT_GEN, E.NAND_PAGES_PROGRAMMED, E.PROGRAM_SOURCES])

/-! ### The map, the catalogue and the store -/

/-- Journal, checkpoints and loads (R136 to R139, R310, R322 to R324, R439). With pages free in the system superblocks, a full half of a stream
becomes a journal page of its records' words there, the slice whose checkpoint is oldest is written anew there, and a full catalogue page becomes a
page of its records' words there; a slice whose turn it is, and that has a DDR channel, is loaded; a read that waited for its slices places its work or
meets recovery trouble; a stash entry that has a chain whose records fit is placed. -/
def Obligations.MapsAreKept : Prop :=
  ∀ (s : State) (t : Nat),
    (∀ k place, s.chip.isReady = true → (s.chip.stream k).full ≠ [] → (s.chip.systemRuns 16).map Prod.fst = some place →
      Completes (.journalPageProgrammed t k) s fun c =>
      c.ft.jpages = s.chip.ft.jpages ++ [{ stream := k, words := (s.chip.stream k).full.map JRec.word, place := place }]
        ∧ ((s.chip.stream k).active.length < halfRecs → (c.stream k).full = [] ∧ (c.stream k).active = (s.chip.stream k).active)
        ∧ s.chip.keeps c ([.ft, .sb] ++ notePart) ∧ s.chip.keepsEntries c [E.NAND_PAGES_PROGRAMMED, E.PROGRAM_SOURCES])
    ∧ (∀ k place, s.chip.awake = true → s.chip.calm → s.chip.oldestSlice = some k → s.chip.oldestCat = none → (s.chip.systemRuns 1280).map Prod.fst = some place →
      (∀ q ∈ s.chip.sb.sbs, q.kind = .system → ∀ m ∈ q.members, (s.chip.blockOf m.lun m.block).marks < s.chip.get E.MARK_RETIRE) →
      Completes (.checkpoint t) s fun c =>
      (c.ckptOf k).map (fun q => (q.start, q.time, q.entries, q.place))
          = some (s.chip.seqNext, (s.chip.atTime t).now, s.chip.ft.map.filter fun p => decide (sliceOf p.1 = k), place)
        ∧ s.chip.counts c E.CKPT_WRITTEN 0 1 ∧ s.chip.keeps c ([.ft, .sb, .md] ++ notePart))
    ∧ (∀ k, s.chip.awake = true → s.chip.calm → k < catBase → k < s.chip.mapSlices → k ∉ s.chip.ft.loaded →
      s.chip.ft.homes.getD k 4 ≠ 4 → (k ∈ s.chip.ft.loading ∨ s.chip.nextSlice = some k) → Completes (.sliceLoad t k []) s fun c =>
        c.ft.loaded = s.chip.ft.loaded ++ [k] ∧ c.ft.loading = s.chip.ft.loading.erase k ∧ s.chip.keeps c (.ft :: notePart)
          ∧ s.chip.keepsEntries c [E.WARMUP_LAST])
    ∧ (∀ h x, s.chip.isReady = true → s.chip.cmd h = some x → s.chip.notHeld h → x.admin = false → x.readRule = true → x.cls ≤ 2 → x.phase = .admitted →
      x.opcode ≠ 0x82 → s.chip.unloaded x = false →
      (((s.chip.atTime t).tryDirect x x.promisePs x.duePs ((s.chip.atTime t).cmdTouches x)).1 = [] → Completes (.touchLoadComplete t h) s fun c =>
        c.um.ledger = s.chip.um.ledger ++ ((s.chip.atTime t).tryDirect x x.promisePs x.duePs ((s.chip.atTime t).cmdTouches x)).2.2.1
          ∧ c.cmd h = some x ∧ s.chip.keeps c [.um, .md, .dict] ∧ s.chip.keepsEntries c [])
      ∧ (((s.chip.atTime t).tryDirect x x.promisePs x.duePs ((s.chip.atTime t).cmdTouches x)).1 ≠ [] → Completes (.touchLoadComplete t h) s fun c =>
        c.cmd h = some { x with cause := 0x21 } ∧ s.chip.keeps c notePart ∧ s.chip.keepsEntries c []))
    ∧ (∀ place, s.chip.isReady = true → s.chip.bookOn = true → s.chip.book.full ≠ [] → s.chip.book.page.length < 256 →
      (s.chip.systemRuns 1).map Prod.fst = some place → Completes (.cataloguePageProgrammed t) s fun c =>
      c.book = { s.chip.book with flash := s.chip.book.flash ++ [{ words := s.chip.book.full.map CatRec.word, place := place }], full := [] }
        ∧ s.chip.keeps c ([.book, .sb] ++ notePart)
        ∧ s.chip.keepsEntries c [E.NAND_PAGES_PROGRAMMED, E.PROGRAM_SOURCES])
    ∧ (∀ x r, s.chip.awake = true → s.chip.get E.SB_STATE = 2 → s.chip.bookHeld = false → s.chip.book.nextStash = some x →
      (∃ y ∈ s.chip.book.stash, y.1 ∉ s.chip.book.tried) →
      (s.chip.atTime t).kickChain (s.chip.get E.SB_MAX_KICKS) (s.chip.book.clear (stashPlace x.1)) x.2 none (s.chip.atTime t).now = some r →
      r.2.1.length + 1 ≤ s.chip.bookRoom → Completes (.stashMove t) s fun c =>
        c.book.cells = r.1.cells ∧ c.book.stash = r.1.stash ∧ s.chip.counts c E.SB_KICKS 0 r.2.2 ∧ s.chip.keeps c (.book :: notePart))

/-- The gauge (R270 to R275, R416). A scan without marks gives the stack voltage and the store current from its codes; an inserted store
starts its first estimate and its tap check; a removed one is ABSENT with cause 6; the gauge sleeps after a second below
50 mA and takes the smaller charge on waking. -/
def Obligations.GaugeFollowsTheStore : Prop :=
  ∀ (s : State) (t : Nat),
    (∀ codes done v i z, s.chip.isReady = false → s.chip.st.present = true → s.chip.st.hibernate = false → s.chip.get E.ADC_SLOT_FAILS = 0 →
      s.chip.st.settling = 0 → codes.length = 16 → (∀ a ∈ codes, a.overRange = false ∧ a.late = false) → newFails codes (List.replicate 16 0) = 0 →
      codes[1]? = some v → codes[10]? = some i → codes[15]? = some z → Completes (.adcScan t codes done) s fun c =>
        c.get E.STORE_V_STACK = (tapUv (v.code - z.code) / 1000).toNat
          ∧ c.get E.STORE_I = ofInt 20 (s.chip.currentNa (i.code - z.code) / 1000000)
          ∧ c.st.lastI = s.chip.currentNa (i.code - z.code) ∧ s.chip.counts c E.ADC_SCANS 0 1)
    ∧ (∀ vstk, s.chip.st.present = false → 500 < vstk → s.chip.own (mkUnit kSTORE 0) ≠ 4 → Completes (.storeInserted t vstk) s fun c =>
      c.st.present = true ∧ c.st.tapCheck = 1 ∧ c.st.qa = min (s.chip.get E.STORE_C_RATED * (s.chip.get E.STORE_V_FULL - s.chip.get E.STORE_V_CUT) * 1000)
          ((vstk - s.chip.get E.STORE_V_CUT) * s.chip.get E.STORE_C_RATED * 1000)
        ∧ c.get E.GAUGE_STATE = 1 ∧ c.get E.STORE_V_STACK = vstk ∧ s.chip.keeps c (.st :: notePart)
        ∧ s.chip.keepsEntries c [E.STORE_C, E.STORE_ESR, E.STORE_C_FIRST, E.GAUGE_STATE, E.PREPARE_STATE, E.STORE_V_STACK, E.CELL_FAULT_CELL])
    ∧ (s.chip.st.present = true → Completes (.storeRemoved t) s fun c =>
      c.own (mkUnit kSTORE 0) = 0 ∧ (c.unitRec (mkUnit kSTORE 0)).cause = 6 ∧ (s.chip.isReady = false → c.st.present = false ∧ c.get E.GAUGE_STATE = 0))
    ∧ (s.chip.st.present = true → s.chip.st.hibernate = false → s.chip.gaugeMaySleep = true → 8000 ≤ s.chip.st.lowCur → Completes (.gaugeHibernate t) s fun c =>
      c.st.hibernate = true ∧ c.get E.GAUGE_STATE = 3 ∧ s.chip.keeps c (.st :: notePart) ∧ s.chip.keepsEntries c [E.GAUGE_STATE])
    ∧ (∀ vstk na, s.chip.st.hibernate = true → Completes (.gaugeWake t vstk na) s fun c =>
      c.st.hibernate = false ∧ c.get E.STORE_V_STACK = vstk ∧ c.get E.GAUGE_STATE = (if s.chip.st.estimate then 1 else 2)
        ∧ c.st.qa = min s.chip.st.qa ((s.chip.ocv (vstk * 1000) na - (s.chip.get E.STORE_V_CUT : Int) * 1000).toNat * s.chip.get E.STORE_C)
        ∧ s.chip.keeps c (.st :: notePart) ∧ s.chip.keepsEntries c [E.STORE_V_STACK, E.GAUGE_STATE])

/-- Checks of the store and the loss of power (R277, R284, R286, R290, R291, R294). Tap by tap a check marks the taps that moved too far;
a check and a first proof start when they are due; a proof that ends at its margin has result 2; a power-fail trigger in
service, low for PF_FILTER, ends all commands, leaves the Hallmark of its reason, or of the shutdown under way, and restarts or keeps VAON alone. -/
def Obligations.StoreIsProven : Prop :=
  ∀ (s : State) (t : Nat),
    (∀ tap moved, s.chip.calm → tap ≠ 0 → s.chip.st.tapCheck = tap → tap < s.chip.get E.STORE_CELLS →
      s.chip.st.tapT + 2 * cycPerMs ≤ (s.chip.atTime t).now → Completes (.tapCheck t tap moved) s fun c =>
        c.st = { s.chip.st with tapCheck := tap + 1, tapT := (s.chip.atTime t).now,
                                tapOpen := if s.chip.get E.TAP_OPEN_MV < moved then s.chip.st.tapOpen + 2 ^ (tap - 1) else s.chip.st.tapOpen }
          ∧ s.chip.keeps c (.st :: notePart) ∧ s.chip.keepsEntries c [])
    ∧ (s.chip.isReady = true → s.chip.st.tapDue ≤ (s.chip.atTime t).now → s.chip.st.tapCheck = 0 → s.chip.st.proof = false → s.chip.st.present = true →
      Completes (.tapCheckInterval t) s fun c =>
        c.st = { s.chip.st with tapCheck := 1, tapT := (s.chip.atTime t).now, tapOpen := 0 } ∧ s.chip.keeps c (.st :: notePart)
          ∧ s.chip.keepsEntries c [])
    ∧ (s.chip.proofReady = true → s.chip.get E.STORE_C_FIRST = 0 → s.chip.get E.GAUGE_STATE = 2 → s.chip.st.dirty < s.chip.get E.PROOF_MIN_SLOTS →
      Completes (.proofInterval t) s fun c =>
        c.st = { s.chip.st with proof := true, hold := true, tapCheck := 0 } ∧ c.get E.GAUGE_STATE = 4 ∧ s.chip.keeps c (.st :: notePart)
          ∧ s.chip.keepsEntries c [E.GAUGE_STATE])
    ∧ (∀ p, s.chip.calm → s.chip.st.proof = true → p.result ≠ 5 → s.chip.own (mkUnit kSTORE 0) < 3 → p.fall < s.chip.get E.PROOF_DV →
      Completes (.proofEnd t p) s fun c =>
        c.st = { s.chip.st with proof := false, hold := false, atFull := false } ∧ c.get E.PROOF_RESULT = 2 ∧ c.get E.GAUGE_STATE = 2
          ∧ s.chip.keeps c (.st :: notePart) ∧ s.chip.keepsEntries c [E.GAUGE_STATE, E.PROOF_RESULT])
    ∧ (∀ low returns f, s.chip.isReady = true → s.chip.failTriggers low = true →
      Completes (.powerFailTrigger t low returns f) s fun c =>
      c.boot.run = (if returns then .rails else .standby) ∧ c.boot.cause = (if returns then 3 else 0) ∧ c.cmds = [] ∧ c.fns = [] ∧ c.ft.slots = []
        ∧ c.pr.up = false ∧ (returns = false → c.pm.vrEn = false ∧ c.pm.clock = 3)
        ∧ (5 ≤ f.reached → ∃ m, c.boot.hallmark = some m ∧ m.reason = (if s.chip.fw.shn = 0 then low.reason else 4) ∧ m.session = s.chip.get E.BOOT_COUNT
          ∧ m.time = (s.chip.atTime t).stamp ∧ m.pages = f.pages ∧ m.energy = f.energy)
        ∧ (f.reached < 5 → c.boot.hallmark = none))

/-! ### The pair -/

/-- The Rally link and the partner (R336, R340, R341, R342, R351, R352). The link comes up with the widest set that trained and goes down;
without transfers on their way the partner is lost, SOLO, when the link goes down or no frame comes for RALLY_LOSS_TIME;
an ACK, a HELLO and a NAK are sent, frames replayed, each as its octets of R338 and R339, and the dirty map programmed when due; the wait for a partner
ends SOLO. -/
def Obligations.RallyLinkRuns : Prop :=
  ∀ (s : State) (t : Nat),
    (∀ lanes w, s.chip.calm → s.chip.boot.pairMode ≠ 0 → w = s.chip.lanesUp lanes → w ≠ 0 → s.chip.own (mkUnit kRALLY 0) = (if w < 8 then 2 else 1) →
      Completes (.rallyLinkTraining t lanes) s fun c =>
        c.pr = { s.chip.pr with up := true, lanes := w, lastRx := (s.chip.atTime t).now, lastAckT := (s.chip.atTime t).now,
                                helloSent := false, refused := false } ∧ s.chip.keeps c (.pr :: notePart) ∧ s.chip.keepsEntries c [])
    ∧ (s.chip.calm → s.chip.pr.up = true →
      (s.chip.pr.joined = false → Completes (.rallyLinkDown t) s fun c =>
        c.pr = { s.chip.pr with up := false, lanes := 0 } ∧ s.chip.keeps c (.pr :: notePart) ∧ s.chip.keepsEntries c [])
      ∧ (s.chip.pr.joined = true → s.chip.pr.xfers = [] → s.chip.pr.fences = [] → Completes (.rallyLinkDown t) s fun c =>
        c.pr.up = false ∧ c.pr.joined = false ∧ c.get E.PAIR_STATE = 1 ∧ c.pr.grant = 0 ∧ s.chip.counts c E.PARTNER_LOSSES 0 1
          ∧ s.chip.keeps c ([.pr, .ft, .st, .lk] ++ notePart)))
    ∧ (s.chip.pr.joined = true → s.chip.pr.xfers = [] → s.chip.pr.fences = [] → s.chip.pr.lastRx + s.chip.get E.RALLY_LOSS_TIME * cycPerUs ≤ (s.chip.atTime t).now →
      Completes (.rallyLossTime t) s fun c =>
        c.pr.joined = false ∧ c.pr.up = s.chip.pr.up ∧ c.get E.PAIR_STATE = 1 ∧ c.pr.grant = 0 ∧ s.chip.counts c E.PARTNER_LOSSES 0 1
          ∧ s.chip.keeps c ([.pr, .ft, .st, .lk] ++ notePart))
    ∧ (∀ f l t0, s.chip.calm → s.chip.rallyOn = true → s.chip.pr.window = f :: l → s.chip.pr.replayT = some t0 →
      (s.chip.atTime t).now < t0 + cycPerMs → s.chip.pr.lastAckT + s.chip.get E.RALLY_ACK_TIMEOUT * cycPerUs ≤ (s.chip.atTime t).now →
      Completes (.rallyAckTimeout t) s fun c =>
        c.pr = { s.chip.pr with lastAckT := (s.chip.atTime t).now }
          ∧ (∀ g ∈ s.chip.pr.window, serialLt 32 g.seq f.seq = false → g.out ((s.chip.pr.recvNext + 2 ^ 32 - 1) % 2 ^ 32) 0 0 ∈ c.out)
          ∧ s.chip.counts c E.RALLY_REPLAYS 0 (s.chip.pr.window.filter fun g => !serialLt 32 g.seq f.seq).length ∧ s.chip.keeps c (.pr :: notePart))
    ∧ (s.chip.pr.joined = true → s.chip.pr.queue = [] → s.chip.pr.lastAckT + cycPerUs ≤ (s.chip.atTime t).now → s.chip.pr.up = true →
      Completes (.ackIdle t) s fun c =>
        .rally 2 s.chip.pr.sendNext 0 (frameOctets 2 2 s.chip.pr.sendNext ((s.chip.pr.recvNext + 2 ^ 32 - 1) % 2 ^ 32) s.chip.pr.back s.chip.pr.slotsFreed 0
          (typeFields 2 []) []) ∈ c.out
          ∧ c.pr = { s.chip.pr with back := 0, slotsFreed := 0, lastAckT := (s.chip.atTime t).now } ∧ s.chip.keeps c (.pr :: notePart)
          ∧ s.chip.keepsEntries c [])
    ∧ (s.chip.rallyOn = true → s.chip.pr.joined = false → s.chip.pr.refused = false → Completes (.helloTimer t) s fun c =>
        .rally 1 s.chip.pr.sendNext 0 (frameOctets 1 2 s.chip.pr.sendNext ((s.chip.pr.recvNext + 2 ^ 32 - 1) % 2 ^ 32) s.chip.pr.back s.chip.pr.slotsFreed 0
          (typeFields 1 [0x10000, s.chip.pr.strap, s.chip.fuse.variant, s.chip.pr.lanes, s.chip.get E.PAIR_STATE, s.chip.get E.PAIR_IDENTITY,
            s.chip.get E.BOOT_COUNT, s.chip.pr.marks.length, s.chip.pr.unconfirmed.length]) []) ∈ c.out
          ∧ c.pr.helloSent = true ∧ s.chip.keeps c (.pr :: notePart) ∧ s.chip.keepsEntries c [])
    ∧ (s.chip.rallyOn = true → s.chip.pr.nakFor ≠ some s.chip.pr.recvNext → Completes (.rallyFrameDiscard t) s fun c =>
        .rally 3 s.chip.pr.sendNext 0 (frameOctets 3 2 s.chip.pr.sendNext ((s.chip.pr.recvNext + 2 ^ 32 - 1) % 2 ^ 32) s.chip.pr.back s.chip.pr.slotsFreed 0
          (typeFields 3 [s.chip.pr.recvNext]) []) ∈ c.out ∧ c.pr.nakFor = some s.chip.pr.recvNext
          ∧ s.chip.counts c E.RALLY_NAKS 0 1 ∧ s.chip.keeps c (.pr :: notePart) ∧ s.chip.keepsEntries c [E.RALLY_NAKS])
    ∧ (s.chip.pr.mapDirty.isSome = true → Completes (.dirtyMapProgram t) s fun c =>
        c.pr = { s.chip.pr with savedMarks := s.chip.pr.marks, savedUnconf := s.chip.pr.unconfirmed, mapDirty := none } ∧ s.chip.keeps c (.pr :: notePart)
          ∧ s.chip.keepsEntries c [E.NAND_PAGES_PROGRAMMED, E.PROGRAM_SOURCES])
    ∧ (s.chip.pr.joinWait = true → s.chip.pr.joined = false →
      s.chip.fw.startT + maxOf (s.chip.fw.startTimes.take 3) * cycPerUs + s.chip.get E.PAIR_JOIN_WAIT * cycPerSec ≤ (s.chip.atTime t).now →
      Completes (.pairJoinWait t) s fun c =>
        c.pr = { s.chip.pr with joinWait := false } ∧ c.get E.PAIR_STATE = 1 ∧ s.chip.keeps c (.pr :: notePart)
          ∧ s.chip.keepsEntries c [E.PAIR_STATE, E.SOLO_SINCE])

/-- Unsequenced frames and joining (R340, R342, R344). A HELLO that is refused leaves the pair unjoined; a good one joins it, with the
identity and the grant, and at the first join C0 marks every allocated granule; an ACK takes frames out of the window and brings credits; a
NAK has the frames of the window from the one it expects on sent again. That C1's namespaces are free values at the first join is the model's choice (log
entry 23). -/
def Obligations.PairJoins : Prop :=
  ∀ (s : State) (t : Nat) (hd : RHdr), s.chip.rallyOn = true → hd.crcOk = true →
    (∀ f, s.chip.pr.joined = false →
      (s.chip.helloBad f = true → Completes (.hello t hd f) s fun c => c.pr.joined = false ∧ c.pr.refused = true ∧ s.chip.keeps c (.pr :: notePart))
      ∧ (s.chip.helloBad f = false → Completes (.hello t hd f) s fun c =>
        c.pr.joined = true ∧ c.pr.partnerIndex = f.index ∧ c.pr.partnerBoot = f.boot ∧ c.pr.partnerState = f.state ∧ c.pr.recvNext = hd.seq
          ∧ c.get E.PAIR_IDENTITY = s.chip.joinIdentity f ∧ c.pr.grant = min (s.chip.get E.MIRROR_SLOTS) (slotsOf s.chip.ft.sizeMib / 2)
          ∧ (s.chip.get E.PAIR_IDENTITY = 0 → f.identity = 0 → s.chip.pr.strap = 0 → ∀ n ∈ s.chip.ft.nss, ∀ g ∈ n.granules, g ∈ c.pr.marks)
          ∧ (s.chip.get E.PAIR_IDENTITY ≠ 0 ∨ f.identity ≠ 0 ∨ s.chip.pr.strap = 0 → c.ft = s.chip.ft)
          ∧ s.chip.keeps c ([.pr, .st, .ft, .free] ++ notePart)))
    ∧ (s.chip.get E.PAIR_STATE ≠ 2 → s.chip.pr.queue = [] → Completes (.ack t hd) s fun c =>
      c.pr.window = s.chip.pr.window.filter (fun f => serialLt 32 hd.acked f.seq) ∧ c.pr.acked = hd.acked
        ∧ c.pr.credits = s.chip.pr.credits + hd.credits ∧ c.pr.lastRx = (s.chip.atTime t).now ∧ c.pr.slotsOut = s.chip.pr.slotsOut - hd.slots
        ∧ s.chip.keeps c (.pr :: notePart) ∧ s.chip.keepsEntries c [])
    ∧ (∀ expected t0, s.chip.calm → s.chip.pr.queue = [] → (∃ f ∈ s.chip.pr.window, serialLt 32 hd.acked f.seq = true) →
      s.chip.pr.replayT = some t0 → (s.chip.atTime t).now < t0 + cycPerMs → Completes (.nak t hd expected) s fun c =>
        (∀ f ∈ s.chip.pr.window, serialLt 32 hd.acked f.seq = true → serialLt 32 f.seq expected = false →
            f.out ((s.chip.pr.recvNext + 2 ^ 32 - 1) % 2 ^ 32) 0 0 ∈ c.out) ∧ c.pr.acked = hd.acked
          ∧ c.pr.window = s.chip.pr.window.filter (fun f => serialLt 32 hd.acked f.seq) ∧ s.chip.keeps c (.pr :: notePart)
          ∧ s.chip.keepsEntries c [E.RALLY_REPLAYS])

/-- Sequenced frames (R339, R340, R343, R345, R354). A frame with the sequence expected is taken and counted. Mirrored data opens a
staged transfer, metadata joins one, a map frame deallocates its units; DONE and ABORT end transfers; copied units take
their state. -/
def Obligations.MirrorFramesAreTaken : Prop :=
  ∀ (s : State) (t : Nat) (hd : RHdr), s.chip.rallyOn = true → s.chip.pr.joined = true → hd.crcOk = true → hd.seq = s.chip.pr.recvNext →
    s.chip.pr.queue = [] →
    (∀ m, hd.last = false → (∀ f ∈ s.chip.pr.xfers, f.origin = true ∨ f.id ≠ hd.xfer) → Completes (.mirrorData t hd m) s fun c =>
      (∃ f ∈ c.pr.xfers, f.origin = false ∧ f.id = hd.xfer ∧ f.h = s.chip.nextH ∧ f.nsid = m.nsid ∧ f.slba = m.slba ∧ f.count = m.count
        ∧ f.blocks = m.blocks.map (fun b => { b with info := 0 })) ∧ c.nextH = s.chip.nextH + 1 ∧ c.pr.recvNext = (hd.seq + 1) % 2 ^ 32
        ∧ s.chip.counts c E.RALLY_FRAMES_RX 0 1 ∧ s.chip.keeps c ([.pr, .lk, .nextH] ++ notePart))
    ∧ (∀ m f, hd.last = false → (s.chip.pr.xfers.find? fun f => !f.origin && decide (f.id = hd.xfer)) = some f →
      (∀ g ∈ s.chip.pr.xfers, g.origin = false → g.id = hd.xfer → g.kind ≠ 0x21) → Completes (.mirrorMeta t hd m) s fun c =>
      { f with blocks := f.blocks ++ m.blocks.map (fun b => { b with info := 1 }), mirror := false } ∈ c.pr.xfers
        ∧ c.pr.recvNext = (hd.seq + 1) % 2 ^ 32 ∧ s.chip.counts c E.RALLY_FRAMES_RX 0 1 ∧ s.chip.keeps c (.pr :: notePart)
        ∧ s.chip.keepsEntries c [E.RALLY_FRAMES_RX])
    ∧ (∀ unit nsid count entry, 0 < s.chip.pr.credits → Completes (.mirrorMap t hd 1 unit nsid count entry) s fun c =>
      (∀ u, unit ≤ u → u < unit + count → c.mapOf u = entryDealloc ∧ c.newest u = none) ∧ (∃ l, .rally 0x13 s.chip.pr.sendNext hd.xfer l ∈ c.out)
        ∧ c.pr.recvNext = (hd.seq + 1) % 2 ^ 32 ∧ s.chip.keeps c ([.pr, .ft, .st, .lost] ++ notePart))
    ∧ (∀ f, s.chip.get E.PAIR_STATE ≠ 2 → (s.chip.pr.xfers.find? fun f => f.origin && decide (f.id = hd.xfer)) = some f → Completes (.done t hd) s fun c =>
      c.pr.xfers = s.chip.pr.xfers.erase f ∧ c.pr.recvNext = (hd.seq + 1) % 2 ^ 32 ∧ s.chip.counts c E.RALLY_FRAMES_RX 0 1
        ∧ s.chip.keeps c (.pr :: notePart) ∧ s.chip.keepsEntries c [E.RALLY_FRAMES_RX])
    ∧ (∀ f, (s.chip.pr.xfers.find? fun f => !f.origin && decide (f.id = hd.xfer)) = some f → Completes (.abortFrame t hd) s fun c =>
      c.pr.xfers = s.chip.pr.xfers.erase f ∧ (∀ l ∈ c.lk.main ++ c.lk.held, l.h ≠ f.h)
        ∧ (∀ sl ∈ c.ft.slots, sl.h = f.h → sl.wseq.isSome = true) ∧ c.pr.recvNext = (hd.seq + 1) % 2 ^ 32)
    ∧ (∀ index gs es, Completes (.resyncCtrl t hd 1 index gs es) s fun c =>
        c.pr.peerMarks = s.chip.pr.peerMarks ++ gs.filter (fun g => !s.chip.pr.peerMarks.contains g) ∧ c.pr.recvNext = (hd.seq + 1) % 2 ^ 32
          ∧ s.chip.keeps c (.pr :: notePart) ∧ s.chip.keepsEntries c [E.RALLY_FRAMES_RX])
    ∧ (∀ m state, s.chip.pr.newer.contains m.unit = false → (state = 1 ∨ state = 2) → Completes (.resyncData t hd m state) s fun c =>
        c.mapOf m.unit = (if state = 1 then entryDealloc else entryZero) ∧ c.newest m.unit = none ∧ c.pr.recvNext = (hd.seq + 1) % 2 ^ 32
          ∧ s.chip.keeps c ([.pr, .ft, .st, .lost] ++ notePart))

/-- Reads for the partner, mailboxes and notices (R339, R341, R348, R354, R356, R358). The answer with a unit at hand begins at once; the last frame of the
partner's data ends the wait of its codeword, which takes the data of all of them; a granule with no unit of a namespace is announced and done; a cell takes the partner's value, an own cell is sent and one of
the partner's ignored, and both on a single-port part (R3); a fence ends with its acknowledgement or after 100 µs; a detach of the partner leaves SOLO. -/
def Obligations.PartnersExchange : Prop :=
  ∀ (s : State) (t : Nat),
    (∀ hd, s.chip.rallyOn = true → s.chip.pr.joined = true → hd.crcOk = true → hd.seq = s.chip.pr.recvNext → s.chip.pr.queue = [] →
      (∀ unit mask nsid left n lba bs, 0 < s.chip.pr.credits → s.chip.ownerOf unit = some (n, lba) → s.chip.isLost unit = false →
        ((s.chip.newest unit).isSome = true ∨ s.chip.sliceLoaded unit = true) → mask % 16 ≠ 0 →
        s.chip.unitNow n unit = some bs → Completes (.remoteRead t hd unit mask nsid left) s fun c =>
          (∃ l, .rally 0x23 s.chip.pr.sendNext hd.xfer l ∈ c.out) ∧ s.chip.keeps c (.pr :: notePart)
            ∧ s.chip.keepsEntries c [E.RALLY_FRAMES_RX, E.RALLY_FRAMES_TX, E.RALLY_SEQ_EPOCH])
      ∧ (∀ k k' blocks had, hd.last = true →
        had = ((s.chip.pr.xfers.find? fun f => !f.origin && decide (f.id = hd.xfer ∧ f.kind = 0x23)).map Xfer.blocks).getD [] → s.chip.pr.remote = [(hd.xfer, k.id)] → s.chip.taskOf k.id = some k → k.step = 6 → k' ∈ s.chip.rd.tasks → k'.id ≠ k.id → k'.h = k.h →
        k'.unit = k.unit → k'.own = k.own → k'.entry = k.entry → k'.word = none → Completes (.remoteData t hd 0 blocks) s fun c =>
          (c.taskOf k.id).bind Task.word = some (joinOctets 1024 ((had ++ blocks).map Blk.data) % 2 ^ 33280) ∧ c.pr.remote = []
            ∧ s.chip.keeps c ([.pr, .rd, .sb] ++ notePart))
      ∧ (∀ cell v, cell < 64 → Completes (.mbox t hd cell v false) s fun c =>
        c.get (E.MBOX + cell) = v ∧ c.get (E.MBOX_FENCED + cell) = v ∧ s.chip.counts c E.RALLY_FRAMES_RX 0 1 ∧ s.chip.keeps c (.pr :: notePart)
          ∧ s.chip.keepsEntries c [E.MBOX + cell, E.MBOX_FENCED + cell, E.RALLY_FRAMES_RX])
      ∧ (∀ cell f l, s.chip.pr.fences = f :: l → f.1 = cell → (∀ y ∈ s.chip.cmds, y.admin = true → y.opcode ≠ 0xC5) → Completes (.mboxAck t hd cell) s fun c =>
        c.pr.fences = l ∧ c.get E.MBOX_FENCE_RESULT = 1 ∧ s.chip.keeps c (.pr :: notePart)
          ∧ s.chip.keepsEntries c [E.MBOX_FENCE_RESULT, E.RALLY_FRAMES_RX])
      ∧ (∀ state, Completes (.notice t hd 3 state) s fun c =>
        c.get E.DETACHED = 2 ∧ c.get E.PAIR_STATE = 1 ∧ c.pr.partnerState = state ∧ s.chip.keeps c (.pr :: notePart)
          ∧ s.chip.keepsEntries c [E.DETACHED, E.PAIR_STATE, E.SOLO_SINCE, E.RALLY_FRAMES_RX, E.RALLY_FRAMES_TX, E.RALLY_SEQ_EPOCH]))
    ∧ (∀ g l, s.chip.pr.up = true → s.chip.pr.queue = [] → 0 < s.chip.pr.credits → s.chip.get E.PAIR_STATE = 2 → s.chip.pr.copying = none →
      s.chip.pr.marks = g :: l → g < 524288 → s.chip.pr.window = [] → s.chip.pr.replays = [] → s.chip.locksFree 1 = true →
      s.chip.sliceLoaded (g * 65536) = true → (∀ i, i < 65536 → s.chip.ownerOf (g * 65536 + i) = none) →
      (s.chip.rd.tasks.any fun k => decide (k.own = ownCopy)) = false →
      s.chip.pr.resyncT + (s.chip.get E.RESYNC_BYTES - s.chip.pr.resyncBytes) * 800 / s.chip.get E.RESYNC_RATE_MAX ≤ (s.chip.atTime t).now →
      Completes (.resyncCopy t) s fun c =>
        (∃ o, .rally 0x20 s.chip.pr.sendNext 0 o ∈ c.out) ∧ c.pr.copying = none
          ∧ (∃ f ∈ c.pr.window, f.kind = 0x20 ∧ f.seq = s.chip.pr.sendNext ∧ f.fields.drop 1 = [3, g])
          ∧ (∃ f ∈ c.pr.window ++ c.pr.queue, f.kind = 0x20 ∧ f.fields.drop 1 = [4, g]) ∧ s.chip.keeps c ([.pr, .lk] ++ notePart))
    ∧ (∀ x cell v, cell < 64 → s.chip.boot.pairMode = 1 → s.chip.isReady = true → s.chip.xportWrites x = true →
      (s.chip.fuse.variant ≠ 0 → Completes (.mboxWrite t x cell v) s (fun c => s.chip.keeps c [] ∧ s.chip.keepsEntries c [])
        ∧ Completes (.mboxFencedWrite t x cell v) s (fun c => s.chip.keeps c [] ∧ s.chip.keepsEntries c []))
      ∧ (s.chip.fuse.variant = 0 → s.chip.ownCell cell = true → Completes (.mboxWrite t x cell v) s fun c =>
        c.get (E.MBOX + cell) = v ∧ c.get (E.MBOX_FENCED + cell) = v ∧ s.chip.keeps c (.pr :: notePart)
          ∧ s.chip.keepsEntries c [E.MBOX + cell, E.MBOX_FENCED + cell, E.RALLY_FRAMES_TX, E.RALLY_SEQ_EPOCH])
      ∧ (s.chip.fuse.variant = 0 → s.chip.ownCell cell = false → Completes (.mboxWrite t x cell v) s fun c =>
        s.chip.counts c E.MBOX_FOREIGN_WRITES 0 1 ∧ s.chip.keeps c notePart ∧ s.chip.keepsEntries c [E.MBOX_FOREIGN_WRITES])
      ∧ (s.chip.fuse.variant = 0 → s.chip.ownCell cell = true → s.chip.pr.joined = true → Completes (.mboxFencedWrite t x cell v) s fun c =>
        c.get (E.MBOX_FENCED + cell) = v ∧ c.pr.fences = s.chip.pr.fences ++ [(cell, Xport.item x, (s.chip.atTime t).now)] ∧ s.chip.keeps c (.pr :: notePart))
      ∧ (s.chip.fuse.variant = 0 → s.chip.ownCell cell = true → s.chip.pr.joined = false → Completes (.mboxFencedWrite t x cell v) s fun c =>
        c.get (E.MBOX_FENCED + cell) = v ∧ c.get E.MBOX_FENCE_RESULT = 2 ∧ c.pr.fences = s.chip.pr.fences ∧ s.chip.keeps c (.pr :: notePart)))
    ∧ (∀ f l, s.chip.pr.fences = f :: l → f.2.2 + 100 * cycPerUs ≤ (s.chip.atTime t).now → (∀ g ∈ l, (s.chip.atTime t).now < g.2.2 + 100 * cycPerUs) →
      (∀ y ∈ s.chip.cmds, y.admin = true → y.opcode ≠ 0xC5) → Completes (.mboxFenceTimeout t) s fun c =>
        c.pr = { s.chip.pr with fences := l } ∧ c.get E.MBOX_FENCE_RESULT = 2 ∧ s.chip.keeps c (.pr :: notePart)
          ∧ s.chip.keepsEntries c [E.MBOX_FENCE_RESULT])

/-! ### Power, clocks and temperature -/

/-- Innings and power states (R56, R398, R400 to R406). At an inning boundary the budgets are formed anew and an operational request
takes force; an idle timer requests its state; with no refuser the state is entered; a wake source that is
enabled, or the housekeeping timer, brings the last operational state back. -/
def Obligations.PowerStatesChange : Prop :=
  ∀ (s : State) (t : Nat), s.chip.isReady = true →
    (s.chip.calm → s.chip.own (mkUnit kSTORE 0) = 0 → s.chip.um.inning < (s.chip.atTime t).inning →
      (∀ q ∈ s.chip.sb.sbs, q.state = .open → q.seq0 = none) → Completes (.inningBoundary t (s.chip.atTime t).inning) s fun c =>
        c.um.inning = (s.chip.atTime t).inning ∧ (s.chip.pm.refill = true → c.um.budgets.map Budget.res = s.chip.budgetRes)
          ∧ (∀ p, s.chip.pm.wanted = some p → p < 3 → c.get E.PS_LAST_OP = p ∧ (s.chip.get E.PS_CURRENT < 3 → c.get E.PS_CURRENT = p) ∧ c.pm.wanted = none))
    ∧ (∀ target ms, s.chip.idleMs target = some ms → 3 ≤ target → s.chip.get E.PS_CURRENT < target → s.chip.hostBusy = false →
      s.chip.pm.idleT + ms * cycPerMs ≤ (s.chip.atTime t).now → Completes (.idleTimer t target) s fun c =>
        c.pm = { s.chip.pm with wanted := some target, requestIdle := true } ∧ c.get E.PS_REQUESTED = target
          ∧ c.get E.PM_TARGET = (if s.chip.get E.PM_MODE = 0 then target else s.chip.get E.PM_TARGET) ∧ s.chip.keeps c (.pm :: notePart)
          ∧ s.chip.keepsEntries c [E.PS_REQUESTED, E.PM_TARGET])
    ∧ (∀ target longest, s.chip.pm.wanted = some target → 3 ≤ target → s.chip.get E.PS_CURRENT < target →
      (s.chip.firstRefuser = none → s.chip.issuedClass = none → Completes (.psEntry t longest none) s fun c =>
        c.get E.PS_CURRENT = target ∧ c.boot = { s.chip.boot with fetchHeld := true }
          ∧ c.pm = { s.chip.pm with wanted := none, requestIdle := false, enteredT := (s.chip.atTime t).now, refill := false,
                                    clock := if target = 4 then 3 else s.chip.pm.clock }
          ∧ s.chip.counts c E.PS_ENTRIES 0 1 ∧ s.chip.keeps c ([.pm, .boot] ++ notePart) ∧ s.chip.keepsEntries c [E.PS_CURRENT, E.PS_ENTRIES])
      ∧ (∀ k wake, s.chip.firstRefuser = some k → Completes (.psEntry t longest wake) s fun c =>
        c.get E.PS_LAST_REFUSER = k ∧ c.pm = s.chip.pm ∧ s.chip.keeps c notePart ∧ s.chip.keepsEntries c [E.PS_REFUSALS, E.PS_LAST_REFUSER]))
    ∧ (∀ w frame, 3 ≤ s.chip.get E.PS_CURRENT → w = 3 ∨ w = 4 → bit (s.chip.get E.WAKE_ENABLE) w = 1 → Completes (.wakeExit t w frame) s fun c =>
        c.get E.WAKE_LAST = w ∧ c.get E.PS_CURRENT = s.chip.get E.PS_LAST_OP ∧ c.boot = { s.chip.boot with fetchHeld := false }
          ∧ c.pm = { s.chip.pm with refill := true, clock := 1, idleT := (s.chip.atTime t).now, wanted := none, requestIdle := false,
                                    smbusHeld := s.chip.pm.smbusHeld || decide (w = 3) } ∧ s.chip.keeps c ([.pm, .boot, .ports, .md, .st] ++ notePart))
    ∧ (3 ≤ s.chip.get E.PS_CURRENT → s.chip.get E.HOUSEKEEPING_WAKE ≠ 0 →
      s.chip.pm.enteredT + s.chip.get E.HOUSEKEEPING_WAKE * cycPerMin ≤ (s.chip.atTime t).now → bit (s.chip.get E.WAKE_ENABLE) 6 = 1 →
      Completes (.housekeepingWake t) s fun c =>
        c.get E.WAKE_LAST = 6 ∧ c.get E.PS_CURRENT = s.chip.get E.PS_LAST_OP ∧ c.boot = { s.chip.boot with fetchHeld := false }
          ∧ s.chip.keeps c ([.pm, .boot, .ports, .md, .st] ++ notePart))

/-- Supplies and clocks (R56, R409, R411, R415). With the regulator on a voltage request takes the first success of four attempts and
leaves the rail when all fail; the status of an alert is recorded; AVS steps the
core voltage; a supply hold ends at its time. A lost reference is held over for a second, in which its return restores the clock, and then the cores halt. -/
def Obligations.SuppliesAndClocks : Prop :=
  ∀ (s : State) (t : Nat),
    (s.chip.railsUp = true →
      (∀ mv l, 0 ∈ l.take 4 → Completes (.pmbusRequest t mv l) s fun c =>
        c.get E.VCORE_TARGET = s.chip.coreMv mv ∧ c.get E.PMB_LAST_RESULT = 0 ∧ s.chip.keeps c notePart
          ∧ s.chip.keepsEntries c [E.PMB_RETRIES, E.VCORE_TARGET, E.PMB_LAST_RESULT])
      ∧ (∀ mv l, 0 ∉ l.take 4 → Completes (.pmbusRequest t mv l) s fun c =>
        c.get E.VCORE_TARGET = s.chip.get E.VCORE_TARGET ∧ s.chip.counts c E.PMB_FAILS 0 1 ∧ s.chip.keeps c notePart
          ∧ s.chip.keepsEntries c [E.PMB_RETRIES, E.PMB_FAILS, E.PMB_LAST_RESULT])
      ∧ (∀ status, Completes (.pmbAlert t status) s fun c =>
        (∀ p, p < 7 → bits (c.get E.PMB_LAST_STATUS) (16 * p + 15) (16 * p) = nth status p % 65536) ∧ s.chip.keeps c notePart
          ∧ s.chip.keepsEntries c [E.PMB_LAST_STATUS])
      ∧ (∀ step rise l, s.chip.isReady = true → s.chip.get E.AVS_ENABLE = 1 → s.chip.pm.avsStopped = false →
        (s.chip.pm.avsT = 0 ∨ s.chip.pm.avsT + 10 * cycPerMs ≤ (s.chip.atTime t).now) → (rise = true ∨ s.chip.pm.marginT + cycPerSec ≤ (s.chip.atTime t).now) →
        5 ≤ step → step ≤ 25 → step % 5 = 0 → 0 ∈ l.take 4 → Completes (.avsAdjust t step rise l) s fun c =>
          c.get E.VCORE_TARGET = s.chip.coreMv (if rise then s.chip.get E.VCORE_TARGET + step else s.chip.get E.VCORE_TARGET - step)
            ∧ c.pm = { s.chip.pm with avsT := (s.chip.atTime t).now, marginT := if rise then (s.chip.atTime t).now else s.chip.pm.marginT, vcoreFails := 0 } ∧ s.chip.keeps c (.pm :: notePart)
            ∧ s.chip.keepsEntries c [E.PMB_RETRIES, E.VCORE_TARGET, E.PMB_LAST_RESULT]))
    ∧ (s.chip.get E.SUPPLY_HOLD_UNTIL ≠ 0 → s.chip.get E.SUPPLY_HOLD_UNTIL ≤ (s.chip.atTime t).now → Completes (.supplyHoldEnd t) s fun c =>
        c.get E.SUPPLY_HOLD_UNTIL = 0 ∧ s.chip.keeps c notePart ∧ s.chip.keepsEntries c [E.SUPPLY_HOLD_UNTIL])
    ∧ (s.chip.isReady = true →
      (s.chip.pm.clock = 1 → Completes (.refclkLoss t) s fun c =>
        c.pm = { s.chip.pm with clock := 2, holdoverT := some (s.chip.atTime t).now } ∧ c.boot = { s.chip.boot with fetchHeld := true }
          ∧ s.chip.keeps c ([.pm, .boot, .ft, .sb, .md] ++ notePart))
      ∧ (∀ t0, s.chip.pm.holdoverT = some t0 → (s.chip.atTime t).now ≤ t0 + cycPerSec → Completes (.refclkReturn t) s fun c =>
        c.pm = { s.chip.pm with clock := 1, holdoverT := none } ∧ s.chip.counts c E.PLL_LOCKS 0 1 ∧ s.chip.counts c E.REF_LOSSES 0 1
          ∧ s.chip.keeps c ([.pm, .boot] ++ notePart) ∧ s.chip.keepsEntries c [E.PLL_LOCKS, E.REF_LOSSES])
      ∧ (∀ t0, s.chip.pm.holdoverT = some t0 → t0 + cycPerSec ≤ (s.chip.atTime t).now → Completes (.holdoverExpiry t) s fun c =>
        c.boot = { s.chip.boot with run := .halted, cfs := true } ∧ c.pm = { s.chip.pm with clock := 0, holdoverT := none }
          ∧ s.chip.keeps c ([.pm, .boot] ++ notePart) ∧ s.chip.keepsEntries c []))

/-- A loss of VR_PGOOD outside a request (R410): it counts in PGOOD_LOSSES and, where its severity and rate are recorded, the newest
event record is of source 0x509 and of this moment. It triggers no power-fail sequence: the run, the store, the Crucible and
the image are as they were, and nothing goes out. -/
def Obligations.PowerGoodLossIsCounted : Prop :=
  ∀ (s : State) (t : Nat), s.chip.railsUp = true →
    Completes (.vrPgoodLoss t) s fun c =>
      s.chip.counts c E.PGOOD_LOSSES 0 1 ∧ c.out = [] ∧ s.chip.keeps c notePart ∧ s.chip.keepsEntries c [E.PGOOD_LOSSES]
        ∧ (s.chip.get E.EVT_MIN_SEVERITY ≤ 1 → secCount s.chip.ev.written 0x509 0 (s.chip.atTime t).now < s.chip.get E.EVT_RATE_MAX →
          (c.ev.ring.getLast?).map (fun r => (r.src, r.time)) = some (0x509, (s.chip.atTime t).stamp))

/-- Junction temperature (R420 to R423). An average of at least six valid samples is TJ; the fourth in a row above THERM_WARN brings
WARNING; in THROTTLE the step rises after THROTTLE_RISE while TJ is above the level, and outside it falls after
THROTTLE_RELEASE. -/
def Obligations.TemperatureIsControlled : Prop :=
  ∀ (s : State) (t : Nat), s.chip.isReady = true → s.chip.get E.SENSOR_FAULT = 0 →
    (∀ l f avg, s.chip.calm → s.chip.diodeAverage l = some avg → avg ≤ 16 * (s.chip.get E.THERM_THROTTLE : Int) →
      avg ≤ 16 * (s.chip.get E.THERM_SHUTDOWN : Int) → s.chip.get E.THERM_STATE = 0 → s.chip.get E.THROTTLE_STEP = 0 → Completes (.junctionAverage t l f) s fun c =>
        c.get E.TJ = ofInt 20 avg ∧ c.th.lastValid = some avg ∧ c.th.invalid = 0 ∧ c.th.thrUp = 0 ∧ c.th.shutUp = 0
          ∧ c.get E.THERM_STATE = (if 16 * (s.chip.get E.THERM_WARN : Int) < avg ∧ 3 ≤ s.chip.th.warnUp then 1 else 0)
          ∧ s.chip.keeps c (.th :: notePart) ∧ s.chip.keepsEntries c [E.TJ, E.TJ_MAX, E.THERM_STATE])
    ∧ (s.chip.get E.THERM_STATE = 2 → s.chip.th.stepT + s.chip.get E.THROTTLE_RISE * cycPerMs ≤ (s.chip.atTime t).now →
      16 * (s.chip.get E.THERM_THROTTLE : Int) < s.chip.getS E.TJ → Completes (.throttleRise t) s fun c =>
        c.get E.THROTTLE_STEP = min 8 (s.chip.get E.THROTTLE_STEP + 1) ∧ c.th = { s.chip.th with stepT := (s.chip.atTime t).now }
          ∧ s.chip.keeps c (.th :: notePart) ∧ s.chip.keepsEntries c [E.THROTTLE_STEP, E.THROTTLE_FACTOR, E.SUPPLY_HOLD_UNTIL])
    ∧ (s.chip.get E.THERM_STATE ≠ 2 → s.chip.get E.THROTTLE_STEP ≠ 0 → s.chip.th.stepT + s.chip.get E.THROTTLE_RELEASE * cycPerMs ≤ (s.chip.atTime t).now →
      (s.chip.th.hotT = 0 ∨ s.chip.th.hotT + s.chip.get E.THROTTLE_RELEASE * cycPerMs ≤ (s.chip.atTime t).now) → Completes (.throttleRelease t) s fun c =>
        c.get E.THROTTLE_STEP = s.chip.get E.THROTTLE_STEP - 1 ∧ c.th = { s.chip.th with stepT := (s.chip.atTime t).now }
          ∧ s.chip.keeps c (.th :: notePart) ∧ s.chip.keepsEntries c [E.THROTTLE_STEP, E.THROTTLE_FACTOR, E.SUPPLY_HOLD_UNTIL])

/-! ### Management, events and the start -/

/-- MCTP and Fliad (R384, R385, R387 to R390). A GET is answered with its records, a SET writes; an endpoint identifier is taken; a message
that is not complete in time counts as an error. A good OPEN makes a session; each request of a session is answered once under
its sequence; CLOSE, or idleness, ends it. -/
def Obligations.ManagementIsAnswered : Prop :=
  ∀ (s : State) (t : Nat), s.chip.awake = true → s.chip.calm →
    (∀ a n, 1 ≤ n → n ≤ 256 → a % 256 + n ≤ 256 → Completes (.mctpGet t a n true) s fun c =>
      .reply .mctp 129 0 [a, n] ∈ c.out ∧ (∃ rs, .recs 0 rs ∈ c.out ∧ rs.length = n) ∧ c.pm = { s.chip.pm with smbusHeld := false }
        ∧ c.mg = { s.chip.mg with smbAddr := s.chip.get E.MCTP_SMB_ADDR, smbSpeed := s.chip.get E.MCTP_SMB_SPEED }
        ∧ s.chip.counts c E.MCTP_MSGS 0 1 ∧ s.chip.counts c E.DICT_READS 0 n ∧ s.chip.keeps c ([.pm, .mg] ++ notePart)
        ∧ s.chip.keepsEntries c [E.MCTP_MSGS, E.DICT_READS])
    ∧ (∀ v, v ≤ 2047 → s.chip.xportWrites .mctp = true →
      Completes (.mctpSet t [{ addr := E.LUN_SELECT, type := DType.u20.code, tag := 0, value := v, octets := 0 }] true) s fun c =>
        c.getAt E.LUN_SELECT (Xport.item .mctp) = v ∧ .reply .mctp 130 0 [1] ∈ c.out ∧ s.chip.keeps c ([.pm, .mg] ++ notePart))
    ∧ (∀ eid, 8 ≤ eid → eid ≤ 254 → Completes (.mctpControlMessage t 1 eid true) s fun c =>
      c.get E.MCTP_EID = eid ∧ .reply .mctp 1 0 [eid] ∈ c.out ∧ s.chip.keeps c ([.pm, .mg] ++ notePart) ∧ s.chip.keepsEntries c [E.MCTP_EID, E.MCTP_MSGS])
    ∧ (Completes (.mctpReassemblyTimeout t) s fun c => s.chip.counts c E.MCTP_ERRORS 0 1 ∧ s.chip.keeps c notePart
        ∧ s.chip.keepsEntries c [E.MCTP_ERRORS])
    ∧ (∀ f k, s.chip.fliadOn = true → s.chip.mg.key = some k → fliadTag k f.octets = f.tag → f.version = 1 → f.session = 0 → f.length = 16 →
      s.chip.mg.sessions.length < s.chip.get E.FLIAD_SESSIONS_MAX → Completes (.fliadOpen t f) s fun c =>
        (∃ nd, .reply .fliad 129 0 [s.chip.mg.sessNext, f.seq, nd] ∈ c.out
          ∧ c.mg.sessions = s.chip.mg.sessions ++ [Sess.opened s.chip.mg.sessNext (fliadKey k (f.payload % 2 ^ 128) nd s.chip.mg.sessNext) (s.chip.atTime t).now])
          ∧ c.rnd = s.chip.rnd + 1 ∧ s.chip.keeps c ([.mg, .rnd] ++ notePart) ∧ s.chip.keepsEntries c [])
    ∧ (∀ f x, s.chip.fliadOn = true → s.chip.session f.session = some x → fliadTag x.key f.octets = f.tag → f.version = 1 → f.length ≤ 1024 →
      serialLt 32 x.last f.seq = true → x.last ≠ f.seq →
      (Completes (.fliadClose t f) s fun c =>
        .reply .fliad 130 0 [f.session, f.seq] ∈ c.out ∧ c.mg.sessions = s.chip.mg.sessions.filter (fun y => decide (y.id ≠ f.session))
          ∧ s.chip.counts c E.FLIAD_REQUESTS 0 1 ∧ s.chip.keeps c (.mg :: notePart))
      ∧ (f.count ≤ 63 → f.addr % 256 + f.count < 256 → Completes (.fliadGet t f) s fun c =>
        (∃ rs, .reply .fliad 131 0 (f.session :: f.seq :: rs) ∈ c.out) ∧ (c.session f.session).map Sess.last = some f.seq
          ∧ s.chip.counts c E.FLIAD_REQUESTS 0 1 ∧ s.chip.counts c E.DICT_READS 0 (f.count + 1) ∧ s.chip.keeps c (.mg :: notePart))
      ∧ (∀ d, descOf f.addr = some d → d.type = .oct → f.offset = 0 → Completes (.fliadGetBlock t f) s fun c =>
        (∃ rs, .reply .fliad 133 0 (f.session :: f.seq :: rs) ∈ c.out) ∧ (c.session f.session).map Sess.last = some f.seq
          ∧ (c.session f.session).map Sess.blockAddr = some f.addr ∧ s.chip.counts c E.DICT_READS 0 1 ∧ s.chip.keeps c (.mg :: notePart))
      ∧ (∀ v, v ≤ 2047 → f.count = 0 → s.chip.xportWrites .fliad = true →
        Completes (.fliadSet t f [{ addr := E.LUN_SELECT, type := DType.u20.code, tag := 0, value := v, octets := 0 }]) s fun c =>
          c.getAt E.LUN_SELECT (Xport.item .fliad) = v ∧ .reply .fliad 132 0 [f.session, f.seq] ∈ c.out
            ∧ (c.session f.session).map Sess.last = some f.seq ∧ s.chip.keeps c (.mg :: notePart))
      ∧ (∀ d, s.chip.xportWrites .fliad = true → descOf f.addr = some d → d.type = .oct → f.offset = 0 → 0 < f.length → f.length ≤ d.octets → f.last = false →
        Completes (.fliadSetBlock t f) s fun c =>
          .reply .fliad 134 0 [f.session, f.seq] ∈ c.out ∧ (c.session f.session).map Sess.stageEnd = some f.length
            ∧ (c.session f.session).map Sess.last = some f.seq ∧ s.chip.keeps c (.mg :: notePart)))
    ∧ (∀ id x, s.chip.session id = some x → x.lastT + s.chip.get E.FLIAD_IDLE * cycPerSec ≤ (s.chip.atTime t).now → Completes (.fliadIdle t id) s fun c =>
        c.mg = { s.chip.mg with sessions := s.chip.mg.sessions.filter (fun y => decide (y.id ≠ id)) } ∧ s.chip.keeps c (.mg :: notePart)
          ∧ s.chip.keepsEntries c [])

/-- The management port, events and interrupts (R79, R386, R464, R465, R467). An own address is answered; the link takes its speed; a
datagram to another port is dropped. A second that ends with the rails up counts as powered on; a full excerpt page is programmed, of
nine the oldest goes; a coalescing delay ends with its interrupt, where MSI-X is enabled and the vector not masked. -/
def Obligations.EventsAreKept : Prop :=
  ∀ (s : State) (t : Nat),
    (∀ a ident, s.chip.mgmtUp = true → s.chip.ownAddress a = true →
      (Completes (.neighborSolicitation t a) s fun c => c.out = [.signal 10 0 a] ∧ s.chip.keeps c [.dict] ∧ s.chip.keepsEntries c [])
      ∧ (Completes (.icmpv6Echo t a ident) s fun c => c.out = [.signal 11 0 ident] ∧ s.chip.keeps c [.dict] ∧ s.chip.keepsEntries c []))
    ∧ (∀ speed, s.chip.isReady = true → s.chip.get E.MGMT_ENABLE = 1 → speed ≤ 3 → speed ≠ s.chip.get E.MGMT_LINK → Completes (.mgmtLinkChange t speed) s fun c =>
      c.get E.MGMT_LINK = speed ∧ s.chip.keeps c notePart ∧ s.chip.keepsEntries c [E.MGMT_LINK])
    ∧ (∀ p, s.chip.mgmtUp = true → p ≠ s.chip.get E.FLIAD_PORT → Completes (.mgmtRxDrop t p) s fun c =>
      s.chip.counts c E.MGMT_RX_DROPS 0 1 ∧ s.chip.keeps c notePart ∧ s.chip.keepsEntries c [E.MGMT_RX_DROPS])
    ∧ (s.chip.boot.run ≠ .dark → s.chip.boot.run.railsOff = false → s.chip.ev.sec < secOf (s.chip.atTime t).now →
      Completes (.eventSecondEnd t) s fun c =>
        c.ev.sec = secOf (s.chip.atTime t).now ∧ s.chip.counts c E.POWER_ON_TIME 0 (secOf (s.chip.atTime t).now - s.chip.ev.sec)
          ∧ s.chip.keeps c notePart ∧ s.chip.keepsEntries c [E.POWER_ON_TIME])
    ∧ (s.chip.isReady = true →
      (512 ≤ s.chip.ev.page.length → s.chip.ev.pages.length ≤ 8 → Completes (.excerptPageProgram t) s fun c =>
        c.ev.pages = (s.chip.ev.pages ++ [s.chip.ev.page.take 512]).drop (s.chip.ev.pages.length + 1 - 8) ∧ c.ev.page = s.chip.ev.page.drop 512
          ∧ c.ev.ring = s.chip.ev.ring ∧ s.chip.keeps c notePart ∧ s.chip.keepsEntries c [E.NAND_PAGES_PROGRAMMED, E.PROGRAM_SOURCES])
      ∧ (∀ port fn vector k, ((s.chip.fnOf port fn).coal.find? fun q => decide (q.vector = vector)) = some k →
        k.since + (s.chip.fnOf port fn).coalTime * 100 * cycPerUs ≤ (s.chip.atTime t).now → Completes (.interruptCoalescingTime t port fn vector) s fun c =>
          ((s.chip.fnOf port fn).cfg.msix = true → (s.chip.fnOf port fn).cfg.msixMask = false →
            (∀ v ∈ (s.chip.fnOf port fn).cfg.vectors, v.vector = vector → v.masked = false) → .msix port fn vector ∈ c.out) ∧ (c.fnOf port fn).coal = (s.chip.fnOf port fn).coal.filter (fun q => decide (q.vector ≠ vector))
            ∧ s.chip.keeps c notePart ∧ s.chip.keepsEntries c []))

/-- Power-up and the start (R434, R435, R382). VAON brings the slow oscillator; the main input VR_EN; a late VR_PGOOD takes it away for a
second. From there a start begins with its first step, which takes what was in flight away, and with its eighth the controller
gives service; every generation tag is 1 then. -/
def Obligations.StartRuns : Prop :=
  ∀ (s : State) (t : Nat),
    (s.chip.boot.run = .dark → Completes (.vaonUp t) s fun c =>
      c.boot = { s.chip.boot with run := .standby } ∧ c.pm = { s.chip.pm with clock := 3, vrEn := false, vrGood := false }
        ∧ s.chip.keeps c ([.boot, .pm] ++ notePart) ∧ s.chip.keepsEntries c [])
    ∧ (s.chip.boot.run = .standby → s.chip.boot.retryT ≤ (s.chip.atTime t).now → Completes (.main12vGood t) s fun c =>
      c.boot = { s.chip.boot with run := .rails, railsT := (s.chip.atTime t).now, cause := 0, trained := false }
        ∧ c.pm = { s.chip.pm with vrEn := true, vrGood := false } ∧ s.chip.keeps c ([.boot, .pm, .st] ++ notePart) ∧ s.chip.keepsEntries c [E.GAUGE_STATE])
    ∧ (s.chip.boot.run = .rails → s.chip.pm.vrEn = true → s.chip.pm.vrGood = false → s.chip.boot.railsT + 20 * cycPerMs ≤ (s.chip.atTime t).now →
      Completes (.vrPgoodTimeout t) s fun c =>
        c.boot = { s.chip.boot with run := .standby, retryT := (s.chip.atTime t).now + cycPerSec }
          ∧ c.pm = { s.chip.pm with vrEn := false, vrGood := false } ∧ s.chip.keeps c ([.boot, .pm] ++ notePart) ∧ s.chip.keepsEntries c [])
    ∧ (∀ inp, s.chip.mayStart = true → inp.upto = 1 → Completes (.start t inp) s fun c =>
      c.boot.run = .starting ∧ c.boot.step = 1 ∧ c.boot.fetchHeld = true ∧ c.pm.vrGood = true ∧ c.cmds = [] ∧ c.lk.main = [] ∧ c.ft.slots = []
        ∧ c.ft.map = [] ∧ c.rd.tasks = [] ∧ (inp.badCores = [] → s.chip.partnerStates = [] → c.ev.ring = []) ∧ c.dict.tags = [] ∧ c.fuse = s.chip.fuse)
    ∧ (∀ inp, s.chip.boot.run = .starting → s.chip.boot.step = 7 → s.chip.step8Waits = false → s.chip.ft.sanitizeStep = 0 → inp.upto = 8 →
      Completes (.start t inp) s fun c =>
        c.boot.run = .ready ∧ c.boot.step = 8 ∧ c.boot.fetchHeld = false ∧ c.fw.readyT = (s.chip.atTime t).now ∧ c.dict.tags = [])
end

