-- ==== Sys2Proof/Laws/State.lean ====
section
/-! SUPPORT. What each plain update of the chip leaves as it was, one lemma per field, so that no proof unfolds a
record update. -/
namespace Sys2Proof.Machine

section setAt
variable (c : Chip) (a item v : Nat)
@[simp] theorem Chip.setAt_now : (c.setAt a item v).now = c.now := rfl
@[simp] theorem Chip.setAt_fuse : (c.setAt a item v).fuse = c.fuse := rfl
@[simp] theorem Chip.setAt_boot : (c.setAt a item v).boot = c.boot := rfl
@[simp] theorem Chip.setAt_ev : (c.setAt a item v).ev = c.ev := rfl
@[simp] theorem Chip.setAt_un : (c.setAt a item v).un = c.un := rfl
@[simp] theorem Chip.setAt_fns : (c.setAt a item v).fns = c.fns := rfl
@[simp] theorem Chip.setAt_ports : (c.setAt a item v).ports = c.ports := rfl
@[simp] theorem Chip.setAt_qs : (c.setAt a item v).qs = c.qs := rfl
@[simp] theorem Chip.setAt_cmds : (c.setAt a item v).cmds = c.cmds := rfl
@[simp] theorem Chip.setAt_nextH : (c.setAt a item v).nextH = c.nextH := rfl
@[simp] theorem Chip.setAt_lk : (c.setAt a item v).lk = c.lk := rfl
@[simp] theorem Chip.setAt_um : (c.setAt a item v).um = c.um := rfl
@[simp] theorem Chip.setAt_ft : (c.setAt a item v).ft = c.ft := rfl
@[simp] theorem Chip.setAt_sb : (c.setAt a item v).sb = c.sb := rfl
@[simp] theorem Chip.setAt_md : (c.setAt a item v).md = c.md := rfl
@[simp] theorem Chip.setAt_rd : (c.setAt a item v).rd = c.rd := rfl
@[simp] theorem Chip.setAt_lost : (c.setAt a item v).lost = c.lost := rfl
@[simp] theorem Chip.setAt_st : (c.setAt a item v).st = c.st := rfl
@[simp] theorem Chip.setAt_book : (c.setAt a item v).book = c.book := rfl
@[simp] theorem Chip.setAt_wins : (c.setAt a item v).wins = c.wins := rfl
@[simp] theorem Chip.setAt_pr : (c.setAt a item v).pr = c.pr := rfl
@[simp] theorem Chip.setAt_mg : (c.setAt a item v).mg = c.mg := rfl
@[simp] theorem Chip.setAt_pm : (c.setAt a item v).pm = c.pm := rfl
@[simp] theorem Chip.setAt_th : (c.setAt a item v).th = c.th := rfl
@[simp] theorem Chip.setAt_fw : (c.setAt a item v).fw = c.fw := rfl
@[simp] theorem Chip.setAt_lg : (c.setAt a item v).lg = c.lg := rfl
@[simp] theorem Chip.setAt_rnd : (c.setAt a item v).rnd = c.rnd := rfl
@[simp] theorem Chip.setAt_free : (c.setAt a item v).free = c.free := rfl
@[simp] theorem Chip.setAt_out : (c.setAt a item v).out = c.out := rfl
end setAt

section emit
variable (c : Chip) (o : Out)
@[simp] theorem Chip.emit_now : (c.emit o).now = c.now := rfl
@[simp] theorem Chip.emit_fuse : (c.emit o).fuse = c.fuse := rfl
@[simp] theorem Chip.emit_boot : (c.emit o).boot = c.boot := rfl
@[simp] theorem Chip.emit_dict : (c.emit o).dict = c.dict := rfl
@[simp] theorem Chip.emit_ev : (c.emit o).ev = c.ev := rfl
@[simp] theorem Chip.emit_un : (c.emit o).un = c.un := rfl
@[simp] theorem Chip.emit_fns : (c.emit o).fns = c.fns := rfl
@[simp] theorem Chip.emit_ports : (c.emit o).ports = c.ports := rfl
@[simp] theorem Chip.emit_qs : (c.emit o).qs = c.qs := rfl
@[simp] theorem Chip.emit_cmds : (c.emit o).cmds = c.cmds := rfl
@[simp] theorem Chip.emit_nextH : (c.emit o).nextH = c.nextH := rfl
@[simp] theorem Chip.emit_lk : (c.emit o).lk = c.lk := rfl
@[simp] theorem Chip.emit_um : (c.emit o).um = c.um := rfl
@[simp] theorem Chip.emit_ft : (c.emit o).ft = c.ft := rfl
@[simp] theorem Chip.emit_sb : (c.emit o).sb = c.sb := rfl
@[simp] theorem Chip.emit_md : (c.emit o).md = c.md := rfl
@[simp] theorem Chip.emit_rd : (c.emit o).rd = c.rd := rfl
@[simp] theorem Chip.emit_lost : (c.emit o).lost = c.lost := rfl
@[simp] theorem Chip.emit_st : (c.emit o).st = c.st := rfl
@[simp] theorem Chip.emit_book : (c.emit o).book = c.book := rfl
@[simp] theorem Chip.emit_wins : (c.emit o).wins = c.wins := rfl
@[simp] theorem Chip.emit_pr : (c.emit o).pr = c.pr := rfl
@[simp] theorem Chip.emit_mg : (c.emit o).mg = c.mg := rfl
@[simp] theorem Chip.emit_pm : (c.emit o).pm = c.pm := rfl
@[simp] theorem Chip.emit_th : (c.emit o).th = c.th := rfl
@[simp] theorem Chip.emit_fw : (c.emit o).fw = c.fw := rfl
@[simp] theorem Chip.emit_lg : (c.emit o).lg = c.lg := rfl
@[simp] theorem Chip.emit_rnd : (c.emit o).rnd = c.rnd := rfl
@[simp] theorem Chip.emit_free : (c.emit o).free = c.free := rfl
end emit

section setCmd
variable (c : Chip) (x : Cmd)
@[simp] theorem Chip.setCmd_now : (c.setCmd x).now = c.now := rfl
@[simp] theorem Chip.setCmd_fuse : (c.setCmd x).fuse = c.fuse := rfl
@[simp] theorem Chip.setCmd_boot : (c.setCmd x).boot = c.boot := rfl
@[simp] theorem Chip.setCmd_dict : (c.setCmd x).dict = c.dict := rfl
@[simp] theorem Chip.setCmd_ev : (c.setCmd x).ev = c.ev := rfl
@[simp] theorem Chip.setCmd_un : (c.setCmd x).un = c.un := rfl
@[simp] theorem Chip.setCmd_fns : (c.setCmd x).fns = c.fns := rfl
@[simp] theorem Chip.setCmd_ports : (c.setCmd x).ports = c.ports := rfl
@[simp] theorem Chip.setCmd_qs : (c.setCmd x).qs = c.qs := rfl
@[simp] theorem Chip.setCmd_nextH : (c.setCmd x).nextH = c.nextH := rfl
@[simp] theorem Chip.setCmd_lk : (c.setCmd x).lk = c.lk := rfl
@[simp] theorem Chip.setCmd_um : (c.setCmd x).um = c.um := rfl
@[simp] theorem Chip.setCmd_ft : (c.setCmd x).ft = c.ft := rfl
@[simp] theorem Chip.setCmd_sb : (c.setCmd x).sb = c.sb := rfl
@[simp] theorem Chip.setCmd_md : (c.setCmd x).md = c.md := rfl
@[simp] theorem Chip.setCmd_rd : (c.setCmd x).rd = c.rd := rfl
@[simp] theorem Chip.setCmd_lost : (c.setCmd x).lost = c.lost := rfl
@[simp] theorem Chip.setCmd_st : (c.setCmd x).st = c.st := rfl
@[simp] theorem Chip.setCmd_book : (c.setCmd x).book = c.book := rfl
@[simp] theorem Chip.setCmd_wins : (c.setCmd x).wins = c.wins := rfl
@[simp] theorem Chip.setCmd_pr : (c.setCmd x).pr = c.pr := rfl
@[simp] theorem Chip.setCmd_mg : (c.setCmd x).mg = c.mg := rfl
@[simp] theorem Chip.setCmd_pm : (c.setCmd x).pm = c.pm := rfl
@[simp] theorem Chip.setCmd_th : (c.setCmd x).th = c.th := rfl
@[simp] theorem Chip.setCmd_fw : (c.setCmd x).fw = c.fw := rfl
@[simp] theorem Chip.setCmd_lg : (c.setCmd x).lg = c.lg := rfl
@[simp] theorem Chip.setCmd_rnd : (c.setCmd x).rnd = c.rnd := rfl
@[simp] theorem Chip.setCmd_free : (c.setCmd x).free = c.free := rfl
@[simp] theorem Chip.setCmd_out : (c.setCmd x).out = c.out := rfl
end setCmd

section dropCmd
variable (c : Chip) (h : Nat)
@[simp] theorem Chip.dropCmd_now : (c.dropCmd h).now = c.now := rfl
@[simp] theorem Chip.dropCmd_fuse : (c.dropCmd h).fuse = c.fuse := rfl
@[simp] theorem Chip.dropCmd_boot : (c.dropCmd h).boot = c.boot := rfl
@[simp] theorem Chip.dropCmd_dict : (c.dropCmd h).dict = c.dict := rfl
@[simp] theorem Chip.dropCmd_ev : (c.dropCmd h).ev = c.ev := rfl
@[simp] theorem Chip.dropCmd_un : (c.dropCmd h).un = c.un := rfl
@[simp] theorem Chip.dropCmd_fns : (c.dropCmd h).fns = c.fns := rfl
@[simp] theorem Chip.dropCmd_ports : (c.dropCmd h).ports = c.ports := rfl
@[simp] theorem Chip.dropCmd_qs : (c.dropCmd h).qs = c.qs := rfl
@[simp] theorem Chip.dropCmd_nextH : (c.dropCmd h).nextH = c.nextH := rfl
@[simp] theorem Chip.dropCmd_lk : (c.dropCmd h).lk = c.lk := rfl
@[simp] theorem Chip.dropCmd_um : (c.dropCmd h).um = c.um := rfl
@[simp] theorem Chip.dropCmd_ft : (c.dropCmd h).ft = c.ft := rfl
@[simp] theorem Chip.dropCmd_sb : (c.dropCmd h).sb = c.sb := rfl
@[simp] theorem Chip.dropCmd_md : (c.dropCmd h).md = c.md := rfl
@[simp] theorem Chip.dropCmd_rd : (c.dropCmd h).rd = c.rd := rfl
@[simp] theorem Chip.dropCmd_lost : (c.dropCmd h).lost = c.lost := rfl
@[simp] theorem Chip.dropCmd_st : (c.dropCmd h).st = c.st := rfl
@[simp] theorem Chip.dropCmd_book : (c.dropCmd h).book = c.book := rfl
@[simp] theorem Chip.dropCmd_wins : (c.dropCmd h).wins = c.wins := rfl
@[simp] theorem Chip.dropCmd_pr : (c.dropCmd h).pr = c.pr := rfl
@[simp] theorem Chip.dropCmd_mg : (c.dropCmd h).mg = c.mg := rfl
@[simp] theorem Chip.dropCmd_pm : (c.dropCmd h).pm = c.pm := rfl
@[simp] theorem Chip.dropCmd_th : (c.dropCmd h).th = c.th := rfl
@[simp] theorem Chip.dropCmd_fw : (c.dropCmd h).fw = c.fw := rfl
@[simp] theorem Chip.dropCmd_lg : (c.dropCmd h).lg = c.lg := rfl
@[simp] theorem Chip.dropCmd_rnd : (c.dropCmd h).rnd = c.rnd := rfl
@[simp] theorem Chip.dropCmd_free : (c.dropCmd h).free = c.free := rfl
@[simp] theorem Chip.dropCmd_out : (c.dropCmd h).out = c.out := rfl
end dropCmd

section setFn
variable (c : Chip) (f : Fn)
@[simp] theorem Chip.setFn_now : (c.setFn f).now = c.now := rfl
@[simp] theorem Chip.setFn_fuse : (c.setFn f).fuse = c.fuse := rfl
@[simp] theorem Chip.setFn_boot : (c.setFn f).boot = c.boot := rfl
@[simp] theorem Chip.setFn_dict : (c.setFn f).dict = c.dict := rfl
@[simp] theorem Chip.setFn_ev : (c.setFn f).ev = c.ev := rfl
@[simp] theorem Chip.setFn_un : (c.setFn f).un = c.un := rfl
@[simp] theorem Chip.setFn_ports : (c.setFn f).ports = c.ports := rfl
@[simp] theorem Chip.setFn_qs : (c.setFn f).qs = c.qs := rfl
@[simp] theorem Chip.setFn_cmds : (c.setFn f).cmds = c.cmds := rfl
@[simp] theorem Chip.setFn_nextH : (c.setFn f).nextH = c.nextH := rfl
@[simp] theorem Chip.setFn_lk : (c.setFn f).lk = c.lk := rfl
@[simp] theorem Chip.setFn_um : (c.setFn f).um = c.um := rfl
@[simp] theorem Chip.setFn_ft : (c.setFn f).ft = c.ft := rfl
@[simp] theorem Chip.setFn_sb : (c.setFn f).sb = c.sb := rfl
@[simp] theorem Chip.setFn_md : (c.setFn f).md = c.md := rfl
@[simp] theorem Chip.setFn_rd : (c.setFn f).rd = c.rd := rfl
@[simp] theorem Chip.setFn_lost : (c.setFn f).lost = c.lost := rfl
@[simp] theorem Chip.setFn_st : (c.setFn f).st = c.st := rfl
@[simp] theorem Chip.setFn_book : (c.setFn f).book = c.book := rfl
@[simp] theorem Chip.setFn_wins : (c.setFn f).wins = c.wins := rfl
@[simp] theorem Chip.setFn_pr : (c.setFn f).pr = c.pr := rfl
@[simp] theorem Chip.setFn_mg : (c.setFn f).mg = c.mg := rfl
@[simp] theorem Chip.setFn_pm : (c.setFn f).pm = c.pm := rfl
@[simp] theorem Chip.setFn_th : (c.setFn f).th = c.th := rfl
@[simp] theorem Chip.setFn_fw : (c.setFn f).fw = c.fw := rfl
@[simp] theorem Chip.setFn_lg : (c.setFn f).lg = c.lg := rfl
@[simp] theorem Chip.setFn_rnd : (c.setFn f).rnd = c.rnd := rfl
@[simp] theorem Chip.setFn_free : (c.setFn f).free = c.free := rfl
@[simp] theorem Chip.setFn_out : (c.setFn f).out = c.out := rfl
end setFn

section setPort
variable (c : Chip) (p : Port)
@[simp] theorem Chip.setPort_now : (c.setPort p).now = c.now := rfl
@[simp] theorem Chip.setPort_fuse : (c.setPort p).fuse = c.fuse := rfl
@[simp] theorem Chip.setPort_boot : (c.setPort p).boot = c.boot := rfl
@[simp] theorem Chip.setPort_dict : (c.setPort p).dict = c.dict := rfl
@[simp] theorem Chip.setPort_ev : (c.setPort p).ev = c.ev := rfl
@[simp] theorem Chip.setPort_un : (c.setPort p).un = c.un := rfl
@[simp] theorem Chip.setPort_fns : (c.setPort p).fns = c.fns := rfl
@[simp] theorem Chip.setPort_qs : (c.setPort p).qs = c.qs := rfl
@[simp] theorem Chip.setPort_cmds : (c.setPort p).cmds = c.cmds := rfl
@[simp] theorem Chip.setPort_nextH : (c.setPort p).nextH = c.nextH := rfl
@[simp] theorem Chip.setPort_lk : (c.setPort p).lk = c.lk := rfl
@[simp] theorem Chip.setPort_um : (c.setPort p).um = c.um := rfl
@[simp] theorem Chip.setPort_ft : (c.setPort p).ft = c.ft := rfl
@[simp] theorem Chip.setPort_sb : (c.setPort p).sb = c.sb := rfl
@[simp] theorem Chip.setPort_md : (c.setPort p).md = c.md := rfl
@[simp] theorem Chip.setPort_rd : (c.setPort p).rd = c.rd := rfl
@[simp] theorem Chip.setPort_lost : (c.setPort p).lost = c.lost := rfl
@[simp] theorem Chip.setPort_st : (c.setPort p).st = c.st := rfl
@[simp] theorem Chip.setPort_book : (c.setPort p).book = c.book := rfl
@[simp] theorem Chip.setPort_wins : (c.setPort p).wins = c.wins := rfl
@[simp] theorem Chip.setPort_pr : (c.setPort p).pr = c.pr := rfl
@[simp] theorem Chip.setPort_mg : (c.setPort p).mg = c.mg := rfl
@[simp] theorem Chip.setPort_pm : (c.setPort p).pm = c.pm := rfl
@[simp] theorem Chip.setPort_th : (c.setPort p).th = c.th := rfl
@[simp] theorem Chip.setPort_fw : (c.setPort p).fw = c.fw := rfl
@[simp] theorem Chip.setPort_lg : (c.setPort p).lg = c.lg := rfl
@[simp] theorem Chip.setPort_rnd : (c.setPort p).rnd = c.rnd := rfl
@[simp] theorem Chip.setPort_free : (c.setPort p).free = c.free := rfl
@[simp] theorem Chip.setPort_out : (c.setPort p).out = c.out := rfl
end setPort

section unlock
variable (c : Chip) (h : Nat)
@[simp] theorem Chip.unlock_now : (c.unlock h).now = c.now := rfl
@[simp] theorem Chip.unlock_fuse : (c.unlock h).fuse = c.fuse := rfl
@[simp] theorem Chip.unlock_boot : (c.unlock h).boot = c.boot := rfl
@[simp] theorem Chip.unlock_dict : (c.unlock h).dict = c.dict := rfl
@[simp] theorem Chip.unlock_ev : (c.unlock h).ev = c.ev := rfl
@[simp] theorem Chip.unlock_un : (c.unlock h).un = c.un := rfl
@[simp] theorem Chip.unlock_fns : (c.unlock h).fns = c.fns := rfl
@[simp] theorem Chip.unlock_ports : (c.unlock h).ports = c.ports := rfl
@[simp] theorem Chip.unlock_qs : (c.unlock h).qs = c.qs := rfl
@[simp] theorem Chip.unlock_cmds : (c.unlock h).cmds = c.cmds := rfl
@[simp] theorem Chip.unlock_nextH : (c.unlock h).nextH = c.nextH := rfl
@[simp] theorem Chip.unlock_um : (c.unlock h).um = c.um := rfl
@[simp] theorem Chip.unlock_ft : (c.unlock h).ft = c.ft := rfl
@[simp] theorem Chip.unlock_sb : (c.unlock h).sb = c.sb := rfl
@[simp] theorem Chip.unlock_md : (c.unlock h).md = c.md := rfl
@[simp] theorem Chip.unlock_rd : (c.unlock h).rd = c.rd := rfl
@[simp] theorem Chip.unlock_lost : (c.unlock h).lost = c.lost := rfl
@[simp] theorem Chip.unlock_st : (c.unlock h).st = c.st := rfl
@[simp] theorem Chip.unlock_book : (c.unlock h).book = c.book := rfl
@[simp] theorem Chip.unlock_wins : (c.unlock h).wins = c.wins := rfl
@[simp] theorem Chip.unlock_pr : (c.unlock h).pr = c.pr := rfl
@[simp] theorem Chip.unlock_mg : (c.unlock h).mg = c.mg := rfl
@[simp] theorem Chip.unlock_pm : (c.unlock h).pm = c.pm := rfl
@[simp] theorem Chip.unlock_th : (c.unlock h).th = c.th := rfl
@[simp] theorem Chip.unlock_fw : (c.unlock h).fw = c.fw := rfl
@[simp] theorem Chip.unlock_lg : (c.unlock h).lg = c.lg := rfl
@[simp] theorem Chip.unlock_rnd : (c.unlock h).rnd = c.rnd := rfl
@[simp] theorem Chip.unlock_free : (c.unlock h).free = c.free := rfl
@[simp] theorem Chip.unlock_out : (c.unlock h).out = c.out := rfl
end unlock

section setSq
variable (c : Chip) (q : Sq)
@[simp] theorem Chip.setSq_now : (c.setSq q).now = c.now := rfl
@[simp] theorem Chip.setSq_fuse : (c.setSq q).fuse = c.fuse := rfl
@[simp] theorem Chip.setSq_boot : (c.setSq q).boot = c.boot := rfl
@[simp] theorem Chip.setSq_dict : (c.setSq q).dict = c.dict := rfl
@[simp] theorem Chip.setSq_ev : (c.setSq q).ev = c.ev := rfl
@[simp] theorem Chip.setSq_un : (c.setSq q).un = c.un := rfl
@[simp] theorem Chip.setSq_fns : (c.setSq q).fns = c.fns := rfl
@[simp] theorem Chip.setSq_ports : (c.setSq q).ports = c.ports := rfl
@[simp] theorem Chip.setSq_cmds : (c.setSq q).cmds = c.cmds := rfl
@[simp] theorem Chip.setSq_nextH : (c.setSq q).nextH = c.nextH := rfl
@[simp] theorem Chip.setSq_lk : (c.setSq q).lk = c.lk := rfl
@[simp] theorem Chip.setSq_um : (c.setSq q).um = c.um := rfl
@[simp] theorem Chip.setSq_ft : (c.setSq q).ft = c.ft := rfl
@[simp] theorem Chip.setSq_sb : (c.setSq q).sb = c.sb := rfl
@[simp] theorem Chip.setSq_md : (c.setSq q).md = c.md := rfl
@[simp] theorem Chip.setSq_rd : (c.setSq q).rd = c.rd := rfl
@[simp] theorem Chip.setSq_lost : (c.setSq q).lost = c.lost := rfl
@[simp] theorem Chip.setSq_st : (c.setSq q).st = c.st := rfl
@[simp] theorem Chip.setSq_book : (c.setSq q).book = c.book := rfl
@[simp] theorem Chip.setSq_wins : (c.setSq q).wins = c.wins := rfl
@[simp] theorem Chip.setSq_pr : (c.setSq q).pr = c.pr := rfl
@[simp] theorem Chip.setSq_mg : (c.setSq q).mg = c.mg := rfl
@[simp] theorem Chip.setSq_pm : (c.setSq q).pm = c.pm := rfl
@[simp] theorem Chip.setSq_th : (c.setSq q).th = c.th := rfl
@[simp] theorem Chip.setSq_fw : (c.setSq q).fw = c.fw := rfl
@[simp] theorem Chip.setSq_lg : (c.setSq q).lg = c.lg := rfl
@[simp] theorem Chip.setSq_rnd : (c.setSq q).rnd = c.rnd := rfl
@[simp] theorem Chip.setSq_free : (c.setSq q).free = c.free := rfl
@[simp] theorem Chip.setSq_out : (c.setSq q).out = c.out := rfl
end setSq

section setCq
variable (c : Chip) (q : Cq)
@[simp] theorem Chip.setCq_now : (c.setCq q).now = c.now := rfl
@[simp] theorem Chip.setCq_fuse : (c.setCq q).fuse = c.fuse := rfl
@[simp] theorem Chip.setCq_boot : (c.setCq q).boot = c.boot := rfl
@[simp] theorem Chip.setCq_dict : (c.setCq q).dict = c.dict := rfl
@[simp] theorem Chip.setCq_ev : (c.setCq q).ev = c.ev := rfl
@[simp] theorem Chip.setCq_un : (c.setCq q).un = c.un := rfl
@[simp] theorem Chip.setCq_fns : (c.setCq q).fns = c.fns := rfl
@[simp] theorem Chip.setCq_ports : (c.setCq q).ports = c.ports := rfl
@[simp] theorem Chip.setCq_cmds : (c.setCq q).cmds = c.cmds := rfl
@[simp] theorem Chip.setCq_nextH : (c.setCq q).nextH = c.nextH := rfl
@[simp] theorem Chip.setCq_lk : (c.setCq q).lk = c.lk := rfl
@[simp] theorem Chip.setCq_um : (c.setCq q).um = c.um := rfl
@[simp] theorem Chip.setCq_ft : (c.setCq q).ft = c.ft := rfl
@[simp] theorem Chip.setCq_sb : (c.setCq q).sb = c.sb := rfl
@[simp] theorem Chip.setCq_md : (c.setCq q).md = c.md := rfl
@[simp] theorem Chip.setCq_rd : (c.setCq q).rd = c.rd := rfl
@[simp] theorem Chip.setCq_lost : (c.setCq q).lost = c.lost := rfl
@[simp] theorem Chip.setCq_st : (c.setCq q).st = c.st := rfl
@[simp] theorem Chip.setCq_book : (c.setCq q).book = c.book := rfl
@[simp] theorem Chip.setCq_wins : (c.setCq q).wins = c.wins := rfl
@[simp] theorem Chip.setCq_pr : (c.setCq q).pr = c.pr := rfl
@[simp] theorem Chip.setCq_mg : (c.setCq q).mg = c.mg := rfl
@[simp] theorem Chip.setCq_pm : (c.setCq q).pm = c.pm := rfl
@[simp] theorem Chip.setCq_th : (c.setCq q).th = c.th := rfl
@[simp] theorem Chip.setCq_fw : (c.setCq q).fw = c.fw := rfl
@[simp] theorem Chip.setCq_lg : (c.setCq q).lg = c.lg := rfl
@[simp] theorem Chip.setCq_rnd : (c.setCq q).rnd = c.rnd := rfl
@[simp] theorem Chip.setCq_free : (c.setCq q).free = c.free := rfl
@[simp] theorem Chip.setCq_out : (c.setCq q).out = c.out := rfl
end setCq

section releaseWork
variable (c : Chip) (h : Nat)
@[simp] theorem Chip.releaseWork_now : (c.releaseWork h).now = c.now := rfl
@[simp] theorem Chip.releaseWork_fuse : (c.releaseWork h).fuse = c.fuse := rfl
@[simp] theorem Chip.releaseWork_boot : (c.releaseWork h).boot = c.boot := rfl
@[simp] theorem Chip.releaseWork_dict : (c.releaseWork h).dict = c.dict := rfl
@[simp] theorem Chip.releaseWork_ev : (c.releaseWork h).ev = c.ev := rfl
@[simp] theorem Chip.releaseWork_un : (c.releaseWork h).un = c.un := rfl
@[simp] theorem Chip.releaseWork_fns : (c.releaseWork h).fns = c.fns := rfl
@[simp] theorem Chip.releaseWork_ports : (c.releaseWork h).ports = c.ports := rfl
@[simp] theorem Chip.releaseWork_qs : (c.releaseWork h).qs = c.qs := rfl
@[simp] theorem Chip.releaseWork_cmds : (c.releaseWork h).cmds = c.cmds := rfl
@[simp] theorem Chip.releaseWork_nextH : (c.releaseWork h).nextH = c.nextH := rfl
@[simp] theorem Chip.releaseWork_lk : (c.releaseWork h).lk = c.lk := rfl
@[simp] theorem Chip.releaseWork_ft : (c.releaseWork h).ft = c.ft := rfl
@[simp] theorem Chip.releaseWork_sb : (c.releaseWork h).sb = c.sb := rfl
@[simp] theorem Chip.releaseWork_md : (c.releaseWork h).md = c.md := rfl
@[simp] theorem Chip.releaseWork_rd : (c.releaseWork h).rd = c.rd := rfl
@[simp] theorem Chip.releaseWork_lost : (c.releaseWork h).lost = c.lost := rfl
@[simp] theorem Chip.releaseWork_st : (c.releaseWork h).st = c.st := rfl
@[simp] theorem Chip.releaseWork_book : (c.releaseWork h).book = c.book := rfl
@[simp] theorem Chip.releaseWork_wins : (c.releaseWork h).wins = c.wins := rfl
@[simp] theorem Chip.releaseWork_pr : (c.releaseWork h).pr = c.pr := rfl
@[simp] theorem Chip.releaseWork_mg : (c.releaseWork h).mg = c.mg := rfl
@[simp] theorem Chip.releaseWork_pm : (c.releaseWork h).pm = c.pm := rfl
@[simp] theorem Chip.releaseWork_th : (c.releaseWork h).th = c.th := rfl
@[simp] theorem Chip.releaseWork_fw : (c.releaseWork h).fw = c.fw := rfl
@[simp] theorem Chip.releaseWork_lg : (c.releaseWork h).lg = c.lg := rfl
@[simp] theorem Chip.releaseWork_rnd : (c.releaseWork h).rnd = c.rnd := rfl
@[simp] theorem Chip.releaseWork_free : (c.releaseWork h).free = c.free := rfl
@[simp] theorem Chip.releaseWork_out : (c.releaseWork h).out = c.out := rfl
end releaseWork

section countOct
variable (c : Chip) (a item k : Nat)
@[simp] theorem Chip.countOct_now : (c.countOct a item k).now = c.now := rfl
@[simp] theorem Chip.countOct_fuse : (c.countOct a item k).fuse = c.fuse := rfl
@[simp] theorem Chip.countOct_boot : (c.countOct a item k).boot = c.boot := rfl
@[simp] theorem Chip.countOct_ev : (c.countOct a item k).ev = c.ev := rfl
@[simp] theorem Chip.countOct_un : (c.countOct a item k).un = c.un := rfl
@[simp] theorem Chip.countOct_fns : (c.countOct a item k).fns = c.fns := rfl
@[simp] theorem Chip.countOct_ports : (c.countOct a item k).ports = c.ports := rfl
@[simp] theorem Chip.countOct_qs : (c.countOct a item k).qs = c.qs := rfl
@[simp] theorem Chip.countOct_cmds : (c.countOct a item k).cmds = c.cmds := rfl
@[simp] theorem Chip.countOct_nextH : (c.countOct a item k).nextH = c.nextH := rfl
@[simp] theorem Chip.countOct_lk : (c.countOct a item k).lk = c.lk := rfl
@[simp] theorem Chip.countOct_um : (c.countOct a item k).um = c.um := rfl
@[simp] theorem Chip.countOct_ft : (c.countOct a item k).ft = c.ft := rfl
@[simp] theorem Chip.countOct_sb : (c.countOct a item k).sb = c.sb := rfl
@[simp] theorem Chip.countOct_md : (c.countOct a item k).md = c.md := rfl
@[simp] theorem Chip.countOct_rd : (c.countOct a item k).rd = c.rd := rfl
@[simp] theorem Chip.countOct_lost : (c.countOct a item k).lost = c.lost := rfl
@[simp] theorem Chip.countOct_st : (c.countOct a item k).st = c.st := rfl
@[simp] theorem Chip.countOct_book : (c.countOct a item k).book = c.book := rfl
@[simp] theorem Chip.countOct_wins : (c.countOct a item k).wins = c.wins := rfl
@[simp] theorem Chip.countOct_pr : (c.countOct a item k).pr = c.pr := rfl
@[simp] theorem Chip.countOct_mg : (c.countOct a item k).mg = c.mg := rfl
@[simp] theorem Chip.countOct_pm : (c.countOct a item k).pm = c.pm := rfl
@[simp] theorem Chip.countOct_th : (c.countOct a item k).th = c.th := rfl
@[simp] theorem Chip.countOct_fw : (c.countOct a item k).fw = c.fw := rfl
@[simp] theorem Chip.countOct_lg : (c.countOct a item k).lg = c.lg := rfl
@[simp] theorem Chip.countOct_rnd : (c.countOct a item k).rnd = c.rnd := rfl
@[simp] theorem Chip.countOct_free : (c.countOct a item k).free = c.free := rfl
@[simp] theorem Chip.countOct_out : (c.countOct a item k).out = c.out := rfl
end countOct

section countOct64
variable (c : Chip) (a k n : Nat)
@[simp] theorem Chip.countOct64_now : (c.countOct64 a k n).now = c.now := rfl
@[simp] theorem Chip.countOct64_fuse : (c.countOct64 a k n).fuse = c.fuse := rfl
@[simp] theorem Chip.countOct64_boot : (c.countOct64 a k n).boot = c.boot := rfl
@[simp] theorem Chip.countOct64_ev : (c.countOct64 a k n).ev = c.ev := rfl
@[simp] theorem Chip.countOct64_un : (c.countOct64 a k n).un = c.un := rfl
@[simp] theorem Chip.countOct64_fns : (c.countOct64 a k n).fns = c.fns := rfl
@[simp] theorem Chip.countOct64_ports : (c.countOct64 a k n).ports = c.ports := rfl
@[simp] theorem Chip.countOct64_qs : (c.countOct64 a k n).qs = c.qs := rfl
@[simp] theorem Chip.countOct64_cmds : (c.countOct64 a k n).cmds = c.cmds := rfl
@[simp] theorem Chip.countOct64_nextH : (c.countOct64 a k n).nextH = c.nextH := rfl
@[simp] theorem Chip.countOct64_lk : (c.countOct64 a k n).lk = c.lk := rfl
@[simp] theorem Chip.countOct64_um : (c.countOct64 a k n).um = c.um := rfl
@[simp] theorem Chip.countOct64_ft : (c.countOct64 a k n).ft = c.ft := rfl
@[simp] theorem Chip.countOct64_sb : (c.countOct64 a k n).sb = c.sb := rfl
@[simp] theorem Chip.countOct64_md : (c.countOct64 a k n).md = c.md := rfl
@[simp] theorem Chip.countOct64_rd : (c.countOct64 a k n).rd = c.rd := rfl
@[simp] theorem Chip.countOct64_lost : (c.countOct64 a k n).lost = c.lost := rfl
@[simp] theorem Chip.countOct64_st : (c.countOct64 a k n).st = c.st := rfl
@[simp] theorem Chip.countOct64_book : (c.countOct64 a k n).book = c.book := rfl
@[simp] theorem Chip.countOct64_wins : (c.countOct64 a k n).wins = c.wins := rfl
@[simp] theorem Chip.countOct64_pr : (c.countOct64 a k n).pr = c.pr := rfl
@[simp] theorem Chip.countOct64_mg : (c.countOct64 a k n).mg = c.mg := rfl
@[simp] theorem Chip.countOct64_pm : (c.countOct64 a k n).pm = c.pm := rfl
@[simp] theorem Chip.countOct64_th : (c.countOct64 a k n).th = c.th := rfl
@[simp] theorem Chip.countOct64_fw : (c.countOct64 a k n).fw = c.fw := rfl
@[simp] theorem Chip.countOct64_lg : (c.countOct64 a k n).lg = c.lg := rfl
@[simp] theorem Chip.countOct64_rnd : (c.countOct64 a k n).rnd = c.rnd := rfl
@[simp] theorem Chip.countOct64_free : (c.countOct64 a k n).free = c.free := rfl
@[simp] theorem Chip.countOct64_out : (c.countOct64 a k n).out = c.out := rfl
end countOct64

section atTime
variable (c : Chip) (t : Nat)
@[simp] theorem Chip.atTime_fuse : (c.atTime t).fuse = c.fuse := rfl
@[simp] theorem Chip.atTime_boot : (c.atTime t).boot = c.boot := rfl
@[simp] theorem Chip.atTime_dict : (c.atTime t).dict = c.dict := rfl
@[simp] theorem Chip.atTime_ev : (c.atTime t).ev = c.ev := rfl
@[simp] theorem Chip.atTime_un : (c.atTime t).un = c.un := rfl
@[simp] theorem Chip.atTime_fns : (c.atTime t).fns = c.fns := rfl
@[simp] theorem Chip.atTime_ports : (c.atTime t).ports = c.ports := rfl
@[simp] theorem Chip.atTime_qs : (c.atTime t).qs = c.qs := rfl
@[simp] theorem Chip.atTime_cmds : (c.atTime t).cmds = c.cmds := rfl
@[simp] theorem Chip.atTime_nextH : (c.atTime t).nextH = c.nextH := rfl
@[simp] theorem Chip.atTime_lk : (c.atTime t).lk = c.lk := rfl
@[simp] theorem Chip.atTime_um : (c.atTime t).um = c.um := rfl
@[simp] theorem Chip.atTime_ft : (c.atTime t).ft = c.ft := rfl
@[simp] theorem Chip.atTime_sb : (c.atTime t).sb = c.sb := rfl
@[simp] theorem Chip.atTime_md : (c.atTime t).md = c.md := rfl
@[simp] theorem Chip.atTime_rd : (c.atTime t).rd = c.rd := rfl
@[simp] theorem Chip.atTime_lost : (c.atTime t).lost = c.lost := rfl
@[simp] theorem Chip.atTime_st : (c.atTime t).st = c.st := rfl
@[simp] theorem Chip.atTime_book : (c.atTime t).book = c.book := rfl
@[simp] theorem Chip.atTime_wins : (c.atTime t).wins = c.wins := rfl
@[simp] theorem Chip.atTime_pr : (c.atTime t).pr = c.pr := rfl
@[simp] theorem Chip.atTime_mg : (c.atTime t).mg = c.mg := rfl
@[simp] theorem Chip.atTime_pm : (c.atTime t).pm = c.pm := rfl
@[simp] theorem Chip.atTime_th : (c.atTime t).th = c.th := rfl
@[simp] theorem Chip.atTime_fw : (c.atTime t).fw = c.fw := rfl
@[simp] theorem Chip.atTime_lg : (c.atTime t).lg = c.lg := rfl
@[simp] theorem Chip.atTime_rnd : (c.atTime t).rnd = c.rnd := rfl
@[simp] theorem Chip.atTime_free : (c.atTime t).free = c.free := rfl
end atTime

section withTags
variable (c : Chip) (tags : Store)
@[simp] theorem Chip.withTags_now : (c.withTags tags).now = c.now := rfl
@[simp] theorem Chip.withTags_fuse : (c.withTags tags).fuse = c.fuse := rfl
@[simp] theorem Chip.withTags_boot : (c.withTags tags).boot = c.boot := rfl
@[simp] theorem Chip.withTags_ev : (c.withTags tags).ev = c.ev := rfl
@[simp] theorem Chip.withTags_un : (c.withTags tags).un = c.un := rfl
@[simp] theorem Chip.withTags_fns : (c.withTags tags).fns = c.fns := rfl
@[simp] theorem Chip.withTags_ports : (c.withTags tags).ports = c.ports := rfl
@[simp] theorem Chip.withTags_qs : (c.withTags tags).qs = c.qs := rfl
@[simp] theorem Chip.withTags_cmds : (c.withTags tags).cmds = c.cmds := rfl
@[simp] theorem Chip.withTags_nextH : (c.withTags tags).nextH = c.nextH := rfl
@[simp] theorem Chip.withTags_lk : (c.withTags tags).lk = c.lk := rfl
@[simp] theorem Chip.withTags_um : (c.withTags tags).um = c.um := rfl
@[simp] theorem Chip.withTags_ft : (c.withTags tags).ft = c.ft := rfl
@[simp] theorem Chip.withTags_sb : (c.withTags tags).sb = c.sb := rfl
@[simp] theorem Chip.withTags_md : (c.withTags tags).md = c.md := rfl
@[simp] theorem Chip.withTags_rd : (c.withTags tags).rd = c.rd := rfl
@[simp] theorem Chip.withTags_lost : (c.withTags tags).lost = c.lost := rfl
@[simp] theorem Chip.withTags_st : (c.withTags tags).st = c.st := rfl
@[simp] theorem Chip.withTags_book : (c.withTags tags).book = c.book := rfl
@[simp] theorem Chip.withTags_wins : (c.withTags tags).wins = c.wins := rfl
@[simp] theorem Chip.withTags_pr : (c.withTags tags).pr = c.pr := rfl
@[simp] theorem Chip.withTags_mg : (c.withTags tags).mg = c.mg := rfl
@[simp] theorem Chip.withTags_pm : (c.withTags tags).pm = c.pm := rfl
@[simp] theorem Chip.withTags_th : (c.withTags tags).th = c.th := rfl
@[simp] theorem Chip.withTags_fw : (c.withTags tags).fw = c.fw := rfl
@[simp] theorem Chip.withTags_lg : (c.withTags tags).lg = c.lg := rfl
@[simp] theorem Chip.withTags_rnd : (c.withTags tags).rnd = c.rnd := rfl
@[simp] theorem Chip.withTags_free : (c.withTags tags).free = c.free := rfl
@[simp] theorem Chip.withTags_out : (c.withTags tags).out = c.out := rfl
end withTags

section setSb
variable (c : Chip) (s : Sb)
@[simp] theorem Chip.setSb_now : (c.setSb s).now = c.now := rfl
@[simp] theorem Chip.setSb_fuse : (c.setSb s).fuse = c.fuse := rfl
@[simp] theorem Chip.setSb_boot : (c.setSb s).boot = c.boot := rfl
@[simp] theorem Chip.setSb_dict : (c.setSb s).dict = c.dict := rfl
@[simp] theorem Chip.setSb_ev : (c.setSb s).ev = c.ev := rfl
@[simp] theorem Chip.setSb_un : (c.setSb s).un = c.un := rfl
@[simp] theorem Chip.setSb_fns : (c.setSb s).fns = c.fns := rfl
@[simp] theorem Chip.setSb_ports : (c.setSb s).ports = c.ports := rfl
@[simp] theorem Chip.setSb_qs : (c.setSb s).qs = c.qs := rfl
@[simp] theorem Chip.setSb_cmds : (c.setSb s).cmds = c.cmds := rfl
@[simp] theorem Chip.setSb_nextH : (c.setSb s).nextH = c.nextH := rfl
@[simp] theorem Chip.setSb_lk : (c.setSb s).lk = c.lk := rfl
@[simp] theorem Chip.setSb_um : (c.setSb s).um = c.um := rfl
@[simp] theorem Chip.setSb_ft : (c.setSb s).ft = c.ft := rfl
@[simp] theorem Chip.setSb_md : (c.setSb s).md = c.md := rfl
@[simp] theorem Chip.setSb_rd : (c.setSb s).rd = c.rd := rfl
@[simp] theorem Chip.setSb_lost : (c.setSb s).lost = c.lost := rfl
@[simp] theorem Chip.setSb_st : (c.setSb s).st = c.st := rfl
@[simp] theorem Chip.setSb_book : (c.setSb s).book = c.book := rfl
@[simp] theorem Chip.setSb_wins : (c.setSb s).wins = c.wins := rfl
@[simp] theorem Chip.setSb_pr : (c.setSb s).pr = c.pr := rfl
@[simp] theorem Chip.setSb_mg : (c.setSb s).mg = c.mg := rfl
@[simp] theorem Chip.setSb_pm : (c.setSb s).pm = c.pm := rfl
@[simp] theorem Chip.setSb_th : (c.setSb s).th = c.th := rfl
@[simp] theorem Chip.setSb_fw : (c.setSb s).fw = c.fw := rfl
@[simp] theorem Chip.setSb_lg : (c.setSb s).lg = c.lg := rfl
@[simp] theorem Chip.setSb_rnd : (c.setSb s).rnd = c.rnd := rfl
@[simp] theorem Chip.setSb_free : (c.setSb s).free = c.free := rfl
@[simp] theorem Chip.setSb_out : (c.setSb s).out = c.out := rfl
end setSb

section setDie
variable (c : Chip) (d : Die)
@[simp] theorem Chip.setDie_now : (c.setDie d).now = c.now := rfl
@[simp] theorem Chip.setDie_fuse : (c.setDie d).fuse = c.fuse := rfl
@[simp] theorem Chip.setDie_boot : (c.setDie d).boot = c.boot := rfl
@[simp] theorem Chip.setDie_dict : (c.setDie d).dict = c.dict := rfl
@[simp] theorem Chip.setDie_ev : (c.setDie d).ev = c.ev := rfl
@[simp] theorem Chip.setDie_un : (c.setDie d).un = c.un := rfl
@[simp] theorem Chip.setDie_fns : (c.setDie d).fns = c.fns := rfl
@[simp] theorem Chip.setDie_ports : (c.setDie d).ports = c.ports := rfl
@[simp] theorem Chip.setDie_qs : (c.setDie d).qs = c.qs := rfl
@[simp] theorem Chip.setDie_cmds : (c.setDie d).cmds = c.cmds := rfl
@[simp] theorem Chip.setDie_nextH : (c.setDie d).nextH = c.nextH := rfl
@[simp] theorem Chip.setDie_lk : (c.setDie d).lk = c.lk := rfl
@[simp] theorem Chip.setDie_um : (c.setDie d).um = c.um := rfl
@[simp] theorem Chip.setDie_ft : (c.setDie d).ft = c.ft := rfl
@[simp] theorem Chip.setDie_sb : (c.setDie d).sb = c.sb := rfl
@[simp] theorem Chip.setDie_rd : (c.setDie d).rd = c.rd := rfl
@[simp] theorem Chip.setDie_lost : (c.setDie d).lost = c.lost := rfl
@[simp] theorem Chip.setDie_st : (c.setDie d).st = c.st := rfl
@[simp] theorem Chip.setDie_book : (c.setDie d).book = c.book := rfl
@[simp] theorem Chip.setDie_wins : (c.setDie d).wins = c.wins := rfl
@[simp] theorem Chip.setDie_pr : (c.setDie d).pr = c.pr := rfl
@[simp] theorem Chip.setDie_mg : (c.setDie d).mg = c.mg := rfl
@[simp] theorem Chip.setDie_pm : (c.setDie d).pm = c.pm := rfl
@[simp] theorem Chip.setDie_th : (c.setDie d).th = c.th := rfl
@[simp] theorem Chip.setDie_fw : (c.setDie d).fw = c.fw := rfl
@[simp] theorem Chip.setDie_lg : (c.setDie d).lg = c.lg := rfl
@[simp] theorem Chip.setDie_rnd : (c.setDie d).rnd = c.rnd := rfl
@[simp] theorem Chip.setDie_free : (c.setDie d).free = c.free := rfl
@[simp] theorem Chip.setDie_out : (c.setDie d).out = c.out := rfl
end setDie

section clearPending
variable (c : Chip) (h : Nat)
@[simp] theorem Chip.clearPending_now : (c.clearPending h).now = c.now := rfl
@[simp] theorem Chip.clearPending_fuse : (c.clearPending h).fuse = c.fuse := rfl
@[simp] theorem Chip.clearPending_boot : (c.clearPending h).boot = c.boot := rfl
@[simp] theorem Chip.clearPending_dict : (c.clearPending h).dict = c.dict := rfl
@[simp] theorem Chip.clearPending_ev : (c.clearPending h).ev = c.ev := rfl
@[simp] theorem Chip.clearPending_un : (c.clearPending h).un = c.un := rfl
@[simp] theorem Chip.clearPending_fns : (c.clearPending h).fns = c.fns := rfl
@[simp] theorem Chip.clearPending_ports : (c.clearPending h).ports = c.ports := rfl
@[simp] theorem Chip.clearPending_qs : (c.clearPending h).qs = c.qs := rfl
@[simp] theorem Chip.clearPending_cmds : (c.clearPending h).cmds = c.cmds := rfl
@[simp] theorem Chip.clearPending_nextH : (c.clearPending h).nextH = c.nextH := rfl
@[simp] theorem Chip.clearPending_lk : (c.clearPending h).lk = c.lk := rfl
@[simp] theorem Chip.clearPending_um : (c.clearPending h).um = c.um := rfl
@[simp] theorem Chip.clearPending_ft : (c.clearPending h).ft = c.ft := rfl
@[simp] theorem Chip.clearPending_sb : (c.clearPending h).sb = c.sb := rfl
@[simp] theorem Chip.clearPending_md : (c.clearPending h).md = c.md := rfl
@[simp] theorem Chip.clearPending_rd : (c.clearPending h).rd = c.rd := rfl
@[simp] theorem Chip.clearPending_lost : (c.clearPending h).lost = c.lost := rfl
@[simp] theorem Chip.clearPending_st : (c.clearPending h).st = c.st := rfl
@[simp] theorem Chip.clearPending_wins : (c.clearPending h).wins = c.wins := rfl
@[simp] theorem Chip.clearPending_pr : (c.clearPending h).pr = c.pr := rfl
@[simp] theorem Chip.clearPending_mg : (c.clearPending h).mg = c.mg := rfl
@[simp] theorem Chip.clearPending_pm : (c.clearPending h).pm = c.pm := rfl
@[simp] theorem Chip.clearPending_th : (c.clearPending h).th = c.th := rfl
@[simp] theorem Chip.clearPending_fw : (c.clearPending h).fw = c.fw := rfl
@[simp] theorem Chip.clearPending_lg : (c.clearPending h).lg = c.lg := rfl
@[simp] theorem Chip.clearPending_rnd : (c.clearPending h).rnd = c.rnd := rfl
@[simp] theorem Chip.clearPending_free : (c.clearPending h).free = c.free := rfl
@[simp] theorem Chip.clearPending_out : (c.clearPending h).out = c.out := rfl
end clearPending

section dropTasks
variable (c : Chip) (h : Nat)
@[simp] theorem Chip.dropTasks_now : (c.dropTasks h).now = c.now := rfl
@[simp] theorem Chip.dropTasks_fuse : (c.dropTasks h).fuse = c.fuse := rfl
@[simp] theorem Chip.dropTasks_boot : (c.dropTasks h).boot = c.boot := rfl
@[simp] theorem Chip.dropTasks_dict : (c.dropTasks h).dict = c.dict := rfl
@[simp] theorem Chip.dropTasks_ev : (c.dropTasks h).ev = c.ev := rfl
@[simp] theorem Chip.dropTasks_un : (c.dropTasks h).un = c.un := rfl
@[simp] theorem Chip.dropTasks_fns : (c.dropTasks h).fns = c.fns := rfl
@[simp] theorem Chip.dropTasks_ports : (c.dropTasks h).ports = c.ports := rfl
@[simp] theorem Chip.dropTasks_qs : (c.dropTasks h).qs = c.qs := rfl
@[simp] theorem Chip.dropTasks_cmds : (c.dropTasks h).cmds = c.cmds := rfl
@[simp] theorem Chip.dropTasks_nextH : (c.dropTasks h).nextH = c.nextH := rfl
@[simp] theorem Chip.dropTasks_lk : (c.dropTasks h).lk = c.lk := rfl
@[simp] theorem Chip.dropTasks_um : (c.dropTasks h).um = c.um := rfl
@[simp] theorem Chip.dropTasks_ft : (c.dropTasks h).ft = c.ft := rfl
@[simp] theorem Chip.dropTasks_sb : (c.dropTasks h).sb = c.sb := rfl
@[simp] theorem Chip.dropTasks_md : (c.dropTasks h).md = c.md := rfl
@[simp] theorem Chip.dropTasks_lost : (c.dropTasks h).lost = c.lost := rfl
@[simp] theorem Chip.dropTasks_st : (c.dropTasks h).st = c.st := rfl
@[simp] theorem Chip.dropTasks_book : (c.dropTasks h).book = c.book := rfl
@[simp] theorem Chip.dropTasks_pr : (c.dropTasks h).pr = c.pr := rfl
@[simp] theorem Chip.dropTasks_mg : (c.dropTasks h).mg = c.mg := rfl
@[simp] theorem Chip.dropTasks_pm : (c.dropTasks h).pm = c.pm := rfl
@[simp] theorem Chip.dropTasks_th : (c.dropTasks h).th = c.th := rfl
@[simp] theorem Chip.dropTasks_fw : (c.dropTasks h).fw = c.fw := rfl
@[simp] theorem Chip.dropTasks_lg : (c.dropTasks h).lg = c.lg := rfl
@[simp] theorem Chip.dropTasks_rnd : (c.dropTasks h).rnd = c.rnd := rfl
@[simp] theorem Chip.dropTasks_free : (c.dropTasks h).free = c.free := rfl
@[simp] theorem Chip.dropTasks_out : (c.dropTasks h).out = c.out := rfl
end dropTasks


@[simp] theorem Chip.emit_out (c : Chip) (o : Out) : (c.emit o).out = c.out ++ [o] := rfl
@[simp] theorem Chip.atTime_now (c : Chip) (t : Nat) : (c.atTime t).now = max c.now t := rfl
@[simp] theorem Chip.atTime_out (c : Chip) (t : Nat) : (c.atTime t).out = [] := rfl
@[simp] theorem Chip.withTags_vals (c : Chip) (tags : Store) : (c.withTags tags).dict.vals = c.dict.vals := rfl
@[simp] theorem Chip.withTags_tags (c : Chip) (tags : Store) : (c.withTags tags).dict.tags = tags := rfl
@[simp] theorem Chip.setCmd_cmds (c : Chip) (x : Cmd) :
    (c.setCmd x).cmds = change (fun y => decide (y.h = x.h)) (fun _ => x) c.cmds := rfl
@[simp] theorem Chip.dropCmd_cmds (c : Chip) (h : Nat) : (c.dropCmd h).cmds = drop' (fun y => decide (y.h = h)) c.cmds := rfl
@[simp] theorem Chip.setFn_fns (c : Chip) (f : Fn) :
    (c.setFn f).fns = upsert (fun g => decide (g.port = f.port ∧ g.fn = f.fn)) f c.fns := rfl
@[simp] theorem Chip.setPort_ports (c : Chip) (p : Port) :
    (c.setPort p).ports = upsert (fun q => decide (q.port = p.port)) p c.ports := rfl
@[simp] theorem Chip.unlock_lk (c : Chip) (h : Nat) : (c.unlock h).lk = c.lk.release h := rfl

end Sys2Proof.Machine
end

