-- ==== Sys2Proof/Laws/Dispatch.lean ====
section
/-! SUPPORT. Dispatch: what `exec` is of each command, so that no proof unfolds its match. -/
namespace Sys2Proof.Machine

theorem exec_doorbellWrite (s : State) (t port fn off size value : Nat) (shadow : Option Nat) : exec (.doorbellWrite t port fn off size value shadow) s = execDoorbellWrite t port fn off size value shadow s := rfl
theorem exec_fetch (s : State) (t port : Nat) (entries : List (List Nat)) (shadow : Option Nat) : exec (.fetch t port entries shadow) s = execFetch t port entries shadow s := rfl
theorem exec_admission (s : State) (t h : Nat) : exec (.admission t h) s = execAdmission t h s := rfl
theorem exec_admitWaitExpiry (s : State) (t h : Nat) : exec (.admitWaitExpiry t h) s = execAdmitWaitExpiry t h s := rfl
theorem exec_rangeLockGrant (s : State) (t h : Nat) : exec (.rangeLockGrant t h) s = execRangeLockGrant t h s := rfl
theorem exec_commitPoint (s : State) (t h : Nat) : exec (.commitPoint t h) s = execCommitPoint t h s := rfl
theorem exec_completionPost (s : State) (t : Nat) (x : Served) : exec (.completionPost t x) s = execCompletionPost t x s := rfl
theorem exec_deadlineExpired (s : State) (t h : Nat) : exec (.deadlineExpired t h) s = execDeadlineExpired t h s := rfl
theorem exec_class2LateLimit (s : State) (t h : Nat) : exec (.class2LateLimit t h) s = execClass2LateLimit t h s := rfl
theorem exec_completionTimeout (s : State) (t h : Nat) : exec (.completionTimeout t h) s = execCompletionTimeout t h s := rfl
theorem exec_errorCompletionReceived (s : State) (t h kind : Nat) : exec (.errorCompletionReceived t h kind) s = execErrorCompletionReceived t h kind s := rfl
theorem exec_poisonedWriteReceived (s : State) (t port : Nat) (bar : BarOf) : exec (.poisonedWriteReceived t port bar) s = execPoisonedWriteReceived t port bar s := rfl
theorem exec_createIoSubmissionQueue (s : State) (t h : Nat) : exec (.createIoSubmissionQueue t h) s = execCreateIoSubmissionQueue t h s := rfl
theorem exec_deleteIoSubmissionQueue (s : State) (t h : Nat) : exec (.deleteIoSubmissionQueue t h) s = execDeleteIoSubmissionQueue t h s := rfl
theorem exec_createIoCompletionQueue (s : State) (t h : Nat) : exec (.createIoCompletionQueue t h) s = execCreateIoCompletionQueue t h s := rfl
theorem exec_deleteIoCompletionQueue (s : State) (t h : Nat) : exec (.deleteIoCompletionQueue t h) s = execDeleteIoCompletionQueue t h s := rfl
theorem exec_getLogPage (s : State) (t h : Nat) : exec (.getLogPage t h) s = execGetLogPage t h s := rfl
theorem exec_identify (s : State) (t h : Nat) : exec (.identify t h) s = execIdentify t h s := rfl
theorem exec_abort (s : State) (t h : Nat) : exec (.abort t h) s = execAbort t h s := rfl
theorem exec_setFeaturesArbitration (s : State) (t h : Nat) : exec (.setFeaturesArbitration t h) s = execSetFeaturesArbitration t h s := rfl
theorem exec_setFeaturesPowerManagement (s : State) (t h : Nat) : exec (.setFeaturesPowerManagement t h) s = execSetFeaturesPowerManagement t h s := rfl
theorem exec_setFeaturesTemperatureThreshold (s : State) (t h : Nat) : exec (.setFeaturesTemperatureThreshold t h) s = execSetFeaturesTemperatureThreshold t h s := rfl
theorem exec_setFeaturesNumberOfQueues (s : State) (t h : Nat) : exec (.setFeaturesNumberOfQueues t h) s = execSetFeaturesNumberOfQueues t h s := rfl
theorem exec_setFeaturesInterruptCoalescing (s : State) (t h : Nat) : exec (.setFeaturesInterruptCoalescing t h) s = execSetFeaturesInterruptCoalescing t h s := rfl
theorem exec_setFeaturesInterruptVectorConfig (s : State) (t h : Nat) : exec (.setFeaturesInterruptVectorConfig t h) s = execSetFeaturesInterruptVectorConfig t h s := rfl
theorem exec_setFeaturesApst (s : State) (t h : Nat) (table : List ApstEntry) : exec (.setFeaturesApst t h table) s = execSetFeaturesApst t h table s := rfl
theorem exec_setFeaturesOther (s : State) (t h data : Nat) : exec (.setFeaturesOther t h data) s = execSetFeaturesOther t h data s := rfl
theorem exec_getFeatures (s : State) (t h : Nat) : exec (.getFeatures t h) s = execGetFeatures t h s := rfl
theorem exec_asynchronousEventRequest (s : State) (t h : Nat) : exec (.asynchronousEventRequest t h) s = execAsynchronousEventRequest t h s := rfl
theorem exec_namespaceCreate (s : State) (t h nsze ncap flbas : Nat) : exec (.namespaceCreate t h nsze ncap flbas) s = execNamespaceCreate t h nsze ncap flbas s := rfl
theorem exec_namespaceDelete (s : State) (t h : Nat) : exec (.namespaceDelete t h) s = execNamespaceDelete t h s := rfl
theorem exec_namespaceAttach (s : State) (t h : Nat) (controllers : List Nat) : exec (.namespaceAttach t h controllers) s = execNamespaceAttach t h controllers s := rfl
theorem exec_namespaceDetach (s : State) (t h : Nat) (controllers : List Nat) : exec (.namespaceDetach t h controllers) s = execNamespaceDetach t h controllers s := rfl
theorem exec_firmwareImageDownload (s : State) (t h piece : Nat) : exec (.firmwareImageDownload t h piece) s = execFirmwareImageDownload t h piece s := rfl
theorem exec_firmwareCommitReplace (s : State) (t h : Nat) : exec (.firmwareCommitReplace t h) s = execFirmwareCommitReplace t h s := rfl
theorem exec_firmwareCommitReplaceActivate (s : State) (t h : Nat) : exec (.firmwareCommitReplaceActivate t h) s = execFirmwareCommitReplaceActivate t h s := rfl
theorem exec_firmwareCommitActivate (s : State) (t h : Nat) : exec (.firmwareCommitActivate t h) s = execFirmwareCommitActivate t h s := rfl
theorem exec_firmwareCommitActivateNoReset (s : State) (t h : Nat) : exec (.firmwareCommitActivateNoReset t h) s = execFirmwareCommitActivateNoReset t h s := rfl
theorem exec_firmwareCommitInvalid (s : State) (t h : Nat) : exec (.firmwareCommitInvalid t h) s = execFirmwareCommitInvalid t h s := rfl
theorem exec_fwaDrainLimitExpiry (s : State) (t : Nat) : exec (.fwaDrainLimitExpiry t) s = execFwaDrainLimitExpiry t s := rfl
theorem exec_deviceSelfTestShort (s : State) (t h failing : Nat) : exec (.deviceSelfTestShort t h failing) s = execDeviceSelfTestShort t h failing s := rfl
theorem exec_deviceSelfTestExtended (s : State) (t h failing : Nat) : exec (.deviceSelfTestExtended t h failing) s = execDeviceSelfTestExtended t h failing s := rfl
theorem exec_deviceSelfTestAbort (s : State) (t h : Nat) : exec (.deviceSelfTestAbort t h) s = execDeviceSelfTestAbort t h s := rfl
theorem exec_doorbellBufferConfig (s : State) (t h : Nat) : exec (.doorbellBufferConfig t h) s = execDoorbellBufferConfig t h s := rfl
theorem exec_formatNvm (s : State) (t h : Nat) : exec (.formatNvm t h) s = execFormatNvm t h s := rfl
theorem exec_sanitizeCryptoErase (s : State) (t h : Nat) (failed : Bool) : exec (.sanitizeCryptoErase t h failed) s = execSanitizeCryptoErase t h failed s := rfl
theorem exec_sanitizeBlockErase (s : State) (t h : Nat) (failed : Bool) : exec (.sanitizeBlockErase t h failed) s = execSanitizeBlockErase t h failed s := rfl
theorem exec_sanitizeOverwrite (s : State) (t h : Nat) (failed : Bool) : exec (.sanitizeOverwrite t h failed) s = execSanitizeOverwrite t h failed s := rfl
theorem exec_dictionarySet (s : State) (t h : Nat) (records : List DictRec) : exec (.dictionarySet t h records) s = execDictionarySet t h records s := rfl
theorem exec_dictionaryGet (s : State) (t h : Nat) : exec (.dictionaryGet t h) s = execDictionaryGet t h s := rfl
theorem exec_pairControlStatus (s : State) (t h : Nat) : exec (.pairControlStatus t h) s = execPairControlStatus t h s := rfl
theorem exec_pairControlChooseSource (s : State) (t h : Nat) : exec (.pairControlChooseSource t h) s = execPairControlChooseSource t h s := rfl
theorem exec_pairControlDetach (s : State) (t h : Nat) : exec (.pairControlDetach t h) s = execPairControlDetach t h s := rfl
theorem exec_pairControlRejoin (s : State) (t h : Nat) : exec (.pairControlRejoin t h) s = execPairControlRejoin t h s := rfl
theorem exec_flush (s : State) (t h : Nat) : exec (.flush t h) s = execFlush t h s := rfl
theorem exec_write (s : State) (t : Nat) (x : Served) (blocks : List Blk) : exec (.write t x blocks) s = execWrite t x blocks s := rfl
theorem exec_compare (s : State) (t : Nat) (x : Served) (blocks : List Blk) : exec (.compare t x blocks) s = execCompare t x blocks s := rfl
theorem exec_read (s : State) (t h : Nat) : exec (.read t h) s = execRead t h s := rfl
theorem exec_writeZeroes (s : State) (t h : Nat) : exec (.writeZeroes t h) s = execWriteZeroes t h s := rfl
theorem exec_verify (s : State) (t h : Nat) : exec (.verify t h) s = execVerify t h s := rfl
theorem exec_datasetManagement (s : State) (t h : Nat) : exec (.datasetManagement t h) s = execDatasetManagement t h s := rfl
theorem exec_segmentRead (s : State) (t h : Nat) : exec (.segmentRead t h) s = execSegmentRead t h s := rfl
theorem exec_scorebookPut (s : State) (t h : Nat) : exec (.scorebookPut t h) s = execScorebookPut t h s := rfl
theorem exec_scorebookDrop (s : State) (t h : Nat) : exec (.scorebookDrop t h) s = execScorebookDrop t h s := rfl
theorem exec_scorebookLook (s : State) (t h : Nat) : exec (.scorebookLook t h) s = execScorebookLook t h s := rfl
theorem exec_ccEnable (s : State) (t port fn : Nat) (cfg : EnableCfg) (asqs acqs : Nat) :
    exec (.ccEnable t port fn cfg asqs acqs) s = execCcEnable t port fn cfg asqs acqs s := rfl
theorem exec_controllerReset (s : State) (t port fn : Nat) (flush : FlushInput) : exec (.controllerReset t port fn flush) s = execControllerReset t port fn flush s := rfl
theorem exec_shutdownNormal (s : State) (t port fn : Nat) (flush : FlushInput) : exec (.shutdownNormal t port fn flush) s = execShutdownNormal t port fn flush s := rfl
theorem exec_shutdownAbrupt (s : State) (t port fn : Nat) (flush : FlushInput) : exec (.shutdownAbrupt t port fn flush) s = execShutdownAbrupt t port fn flush s := rfl
theorem exec_cmbEnable (s : State) (t port fn base : Nat) : exec (.cmbEnable t port fn base) s = execCmbEnable t port fn base s := rfl
theorem exec_fullFundamentalReset (s : State) (t : Nat) (flush : FlushInput) : exec (.fullFundamentalReset t flush) s = execFullFundamentalReset t flush s := rfl
theorem exec_portReset (s : State) (t port kind : Nat) : exec (.portReset t port kind) s = execPortReset t port kind s := rfl
theorem exec_flrInitiate (s : State) (t port fn : Nat) : exec (.flrInitiate t port fn) s = execFlrInitiate t port fn s := rfl
theorem exec_flrDrainDone (s : State) (t port fn : Nat) : exec (.flrDrainDone t port fn) s = execFlrDrainDone t port fn s := rfl
theorem exec_d3hotEntry (s : State) (t port fn : Nat) : exec (.d3hotEntry t port fn) s = execD3hotEntry t port fn s := rfl
theorem exec_d0Entry (s : State) (t port : Nat) (w : Waking) : exec (.d0Entry t port w) s = execD0Entry t port w s := rfl
theorem exec_vfEnableClear (s : State) (t port : Nat) : exec (.vfEnableClear t port) s = execVfEnableClear t port s := rfl
theorem exec_pmeTurnOff (s : State) (t port : Nat) : exec (.pmeTurnOff t port) s = execPmeTurnOff t port s := rfl
theorem exec_l1Exit (s : State) (t port : Nat) : exec (.l1Exit t port) s = execL1Exit t port s := rfl
theorem exec_doeAbort (s : State) (t port : Nat) : exec (.doeAbort t port) s = execDoeAbort t port s := rfl
theorem exec_perstDeassertion (s : State) (t port : Nat) : exec (.perstDeassertion t port) s = execPerstDeassertion t port s := rfl
theorem exec_linkTrained (s : State) (t port gen width : Nat) (flit : Bool) : exec (.linkTrained t port gen width flit) s = execLinkTrained t port gen width flit s := rfl
theorem exec_l0pWidthRequest (s : State) (t port width : Nat) : exec (.l0pWidthRequest t port width) s = execL0pWidthRequest t port width s := rfl
theorem exec_l0pWidthChange (s : State) (t port width : Nat) (byPartner : Bool) : exec (.l0pWidthChange t port width byPartner) s = execL0pWidthChange t port width byPartner s := rfl
theorem exec_aspmL1Entry (s : State) (t port substate : Nat) : exec (.aspmL1Entry t port substate) s = execAspmL1Entry t port substate s := rfl
theorem exec_mpsChange (s : State) (t port mps : Nat) : exec (.mpsChange t port mps) s = execMpsChange t port mps s := rfl
theorem exec_doeRequest (s : State) (t port vendor kind length code : Nat) (body : List Nat) (busy : Bool) : exec (.doeRequest t port vendor kind length code body busy) s = execDoeRequest t port vendor kind length code body busy s := rfl
theorem exec_octSelect (s : State) (t port addr : Nat) : exec (.octSelect t port addr) s = execOctSelect t port addr s := rfl
theorem exec_octCommit (s : State) (t port addr wlen tag octets : Nat) : exec (.octCommit t port addr wlen tag octets) s = execOctCommit t port addr wlen tag octets s := rfl
theorem exec_cellDword0Read (s : State) (t port slot index sub : Nat) : exec (.cellDword0Read t port slot index sub) s = execCellDword0Read t port slot index sub s := rfl
theorem exec_cellUpperWrite (s : State) (t port slot index sub dword value : Nat) : exec (.cellUpperWrite t port slot index sub dword value) s = execCellUpperWrite t port slot index sub dword value s := rfl
theorem exec_cellDword0Write (s : State) (t port slot index sub value : Nat) : exec (.cellDword0Write t port slot index sub value) s = execCellDword0Write t port slot index sub value s := rfl
theorem exec_dictionaryWrite (s : State) (t : Nat) (x : Xport) (addr value tag : Nat) : exec (.dictionaryWrite t x addr value tag) s = execDictionaryWrite t x addr value tag s := rfl
theorem exec_snapTake (s : State) (t : Nat) (x : Xport) (value : Nat) : exec (.snapTake t x value) s = execSnapTake t x value s := rfl
theorem exec_tapCheckRun (s : State) (t : Nat) (x : Xport) (value : Nat) : exec (.tapCheckRun t x value) s = execTapCheckRun t x value s := rfl
theorem exec_proofRun (s : State) (t : Nat) (x : Xport) (value : Nat) : exec (.proofRun t x value) s = execProofRun t x value s := rfl
theorem exec_storePrepare (s : State) (t : Nat) (x : Xport) (value : Nat) : exec (.storePrepare t x value) s = execStorePrepare t x value s := rfl
theorem exec_imageFlush (s : State) (t : Nat) (x : Xport) (value : Nat) : exec (.imageFlush t x value) s = execImageFlush t x value s := rfl
theorem exec_secLockSet (s : State) (t : Nat) (x : Xport) (value : Nat) : exec (.secLockSet t x value) s = execSecLockSet t x value s := rfl
theorem exec_svnCommit (s : State) (t : Nat) (x : Xport) (value : Nat) : exec (.svnCommit t x value) s = execSvnCommit t x value s := rfl
theorem exec_keyRevoke (s : State) (t : Nat) (x : Xport) (value : Nat) : exec (.keyRevoke t x value) s = execKeyRevoke t x value s := rfl
theorem exec_pmTarget (s : State) (t : Nat) (x : Xport) (value : Nat) : exec (.pmTarget t x value) s = execPmTarget t x value s := rfl
theorem exec_mgmtKeyWrap (s : State) (t : Nat) (x : Xport) (value : Nat) : exec (.mgmtKeyWrap t x value) s = execMgmtKeyWrap t x value s := rfl
theorem exec_unitRetire (s : State) (t : Nat) (x : Xport) (value : Nat) : exec (.unitRetire t x value) s = execUnitRetire t x value s := rfl
theorem exec_qsel (s : State) (t : Nat) (x : Xport) (value : Nat) : exec (.qsel t x value) s = execQsel t x value s := rfl
theorem exec_inningBoundary (s : State) (t inning : Nat) : exec (.inningBoundary t inning) s = execInningBoundary t inning s := rfl
theorem exec_supplyHoldEnd (s : State) (t : Nat) : exec (.supplyHoldEnd t) s = execSupplyHoldEnd t s := rfl
theorem exec_nandOperationComplete (s : State) (t lun : Nat) (fail : Bool) : exec (.nandOperationComplete t lun fail) s = execNandOperationComplete t lun fail s := rfl
theorem exec_statusPoll (s : State) (t lun : Nat) (ready : Option Bool) : exec (.statusPoll t lun ready) s = execStatusPoll t lun ready s := rfl
theorem exec_operationTimeout (s : State) (t lun : Nat) : exec (.operationTimeout t lun) s = execOperationTimeout t lun s := rfl
theorem exec_resumeProgressMet (s : State) (t lun : Nat) : exec (.resumeProgressMet t lun) s = execResumeProgressMet t lun s := rfl
theorem exec_suspendEffect (s : State) (t lun : Nat) (ended : Bool) : exec (.suspendEffect t lun ended) s = execSuspendEffect t lun ended s := rfl
theorem exec_trainingAttempt (s : State) (t ch : Nat) (full : Bool) (rates : List Nat) (eyes : List (Nat × Nat)) :
    exec (.trainingAttempt t ch full rates eyes) s = execTrainingAttempt t ch full rates eyes s := rfl
theorem exec_retrainDue (s : State) (t ch tgt : Nat) (eye : Nat × Nat) (higher : List (Nat × Nat × Nat)) :
    exec (.retrainDue t ch tgt eye higher) s = execRetrainDue t ch tgt eye higher s := rfl
theorem exec_zqCalibration (s : State) (t ch tgt : Nat) (ok : Bool) : exec (.zqCalibration t ch tgt ok) s = execZqCalibration t ch tgt ok s := rfl
theorem exec_nandTemperatureRead (s : State) (t lun : Nat) (reading : Option Int) : exec (.nandTemperatureRead t lun reading) s = execNandTemperatureRead t lun reading s := rfl
theorem exec_eraseIntentProgrammed (s : State) (t : Nat) : exec (.eraseIntentProgrammed t) s = execEraseIntentProgrammed t s := rfl
theorem exec_eiClearDelay (s : State) (t : Nat) : exec (.eiClearDelay t) s = execEiClearDelay t s := rfl
theorem exec_reallocation (s : State) (t : Nat) : exec (.reallocation t) s = execReallocation t s := rfl
theorem exec_retentionStressTick (s : State) (t : Nat) : exec (.retentionStressTick t) s = execRetentionStressTick t s := rfl
theorem exec_zoneLearningPeriod (s : State) (t : Nat) : exec (.zoneLearningPeriod t) s = execZoneLearningPeriod t s := rfl
theorem exec_fold (s : State) (t : Nat) : exec (.fold t) s = execFold t s := rfl
theorem exec_gcVictimChoice (s : State) (t : Nat) : exec (.gcVictimChoice t) s = execGcVictimChoice t s := rfl
theorem exec_recast (s : State) (t : Nat) : exec (.recast t) s = execRecast t s := rfl
theorem exec_relocation (s : State) (t : Nat) : exec (.relocation t) s = execRelocation t s := rfl
theorem exec_checkpoint (s : State) (t : Nat) : exec (.checkpoint t) s = execCheckpoint t s := rfl
theorem exec_patrolOverdue (s : State) (t : Nat) : exec (.patrolOverdue t) s = execPatrolOverdue t s := rfl
theorem exec_decodeComplete (s : State) (t task : Nat) (result : Decode) : exec (.decodeComplete t task result) s = execDecodeComplete t task result s := rfl
theorem exec_stripeRowClose (s : State) (t : Nat) (row : RowClose) : exec (.stripeRowClose t row) s = execStripeRowClose t row s := rfl
theorem exec_cruCloseTime (s : State) (t row : Nat) : exec (.cruCloseTime t row) s = execCruCloseTime t row s := rfl
theorem exec_journalPageProgrammed (s : State) (t stream : Nat) : exec (.journalPageProgrammed t stream) s = execJournalPageProgrammed t stream s := rfl
theorem exec_sliceLoad (s : State) (t slice : Nat) (badUnits : List Nat) : exec (.sliceLoad t slice badUnits) s = execSliceLoad t slice badUnits s := rfl
theorem exec_destinationPageSafe (s : State) (t sb slot : Nat) : exec (.destinationPageSafe t sb slot) s = execDestinationPageSafe t sb slot s := rfl
theorem exec_sourceRelease (s : State) (t sb : Nat) : exec (.sourceRelease t sb) s = execSourceRelease t sb s := rfl
theorem exec_superblockAssembly (s : State) (t stream layout : Nat) : exec (.superblockAssembly t stream layout) s = execSuperblockAssembly t stream layout s := rfl
theorem exec_patchEntryEffect (s : State) (t sb row : Nat) : exec (.patchEntryEffect t sb row) s = execPatchEntryEffect t sb row s := rfl
theorem exec_patrolRow (s : State) (t sb row : Nat) (members : List (Option (List CwDecode))) : exec (.patrolRow t sb row members) s = execPatrolRow t sb row members s := rfl
theorem exec_memberReplacementComplete (s : State) (t sb member : Nat) : exec (.memberReplacementComplete t sb member) s = execMemberReplacementComplete t sb member s := rfl
theorem exec_fenceTimeExpiry (s : State) (t unit : Nat) : exec (.fenceTimeExpiry t unit) s = execFenceTimeExpiry t unit s := rfl
theorem exec_probeComplete (s : State) (t unit : Nat) (pass : Bool) : exec (.probeComplete t unit pass) s = execProbeComplete t unit pass s := rfl
theorem exec_adcScan (s : State) (t : Nat) (codes : List AdcCode) (chgDone : Bool) : exec (.adcScan t codes chgDone) s = execAdcScan t codes chgDone s := rfl
theorem exec_storeInserted (s : State) (t vstk : Nat) : exec (.storeInserted t vstk) s = execStoreInserted t vstk s := rfl
theorem exec_storeRemoved (s : State) (t : Nat) : exec (.storeRemoved t) s = execStoreRemoved t s := rfl
theorem exec_gaugeHibernate (s : State) (t : Nat) : exec (.gaugeHibernate t) s = execGaugeHibernate t s := rfl
theorem exec_gaugeWake (s : State) (t vstk : Nat) (amps : Int) : exec (.gaugeWake t vstk amps) s = execGaugeWake t vstk amps s := rfl
theorem exec_tapCheck (s : State) (t tap moved : Nat) : exec (.tapCheck t tap moved) s = execTapCheck t tap moved s := rfl
theorem exec_tapCheckInterval (s : State) (t : Nat) : exec (.tapCheckInterval t) s = execTapCheckInterval t s := rfl
theorem exec_proofInterval (s : State) (t : Nat) : exec (.proofInterval t) s = execProofInterval t s := rfl
theorem exec_proofEnd (s : State) (t : Nat) (p : ProofInput) : exec (.proofEnd t p) s = execProofEnd t p s := rfl
theorem exec_powerFailTrigger (s : State) (t : Nat) (low : LowInput) (mainReturns : Bool) (flush : FlushInput) :
    exec (.powerFailTrigger t low mainReturns flush) s = execPowerFailTrigger t low mainReturns flush s := rfl
theorem exec_stashMove (s : State) (t : Nat) : exec (.stashMove t) s = execStashMove t s := rfl
theorem exec_cataloguePageProgrammed (s : State) (t : Nat) : exec (.cataloguePageProgrammed t) s = execCataloguePageProgrammed t s := rfl
theorem exec_pwArm (s : State) (t : Nat) (x : Xport) : exec (.pwArm t x) s = execPwArm t x s := rfl
theorem exec_pwRemove (s : State) (t : Nat) (x : Xport) : exec (.pwRemove t x) s = execPwRemove t x s := rfl
theorem exec_pwClear (s : State) (t : Nat) (x : Xport) : exec (.pwClear t x) s = execPwClear t x s := rfl
theorem exec_pwConsumedWrite (s : State) (t : Nat) (x : Xport) (port win value : Nat) : exec (.pwConsumedWrite t x port win value) s = execPwConsumedWrite t x port win value s := rfl
theorem exec_pwFaultWrite (s : State) (t : Nat) (x : Xport) (port win value : Nat) : exec (.pwFaultWrite t x port win value) s = execPwFaultWrite t x port win value s := rfl
theorem exec_pwTimeout (s : State) (t port win : Nat) : exec (.pwTimeout t port win) s = execPwTimeout t port win s := rfl
theorem exec_peerDoorbell (s : State) (t h : Nat) : exec (.peerDoorbell t h) s = execPeerDoorbell t h s := rfl
theorem exec_doorbellReadCompletion (s : State) (t h : Nat) (ok : Bool) : exec (.doorbellReadCompletion t h ok) s = execDoorbellReadCompletion t h ok s := rfl
theorem exec_rallyLinkTraining (s : State) (t lanes : Nat) : exec (.rallyLinkTraining t lanes) s = execRallyLinkTraining t lanes s := rfl
theorem exec_rallyLinkDown (s : State) (t : Nat) : exec (.rallyLinkDown t) s = execRallyLinkDown t s := rfl
theorem exec_rallyLossTime (s : State) (t : Nat) : exec (.rallyLossTime t) s = execRallyLossTime t s := rfl
theorem exec_rallyAckTimeout (s : State) (t : Nat) : exec (.rallyAckTimeout t) s = execRallyAckTimeout t s := rfl
theorem exec_ackIdle (s : State) (t : Nat) : exec (.ackIdle t) s = execAckIdle t s := rfl
theorem exec_helloTimer (s : State) (t : Nat) : exec (.helloTimer t) s = execHelloTimer t s := rfl
theorem exec_pairJoinWait (s : State) (t : Nat) : exec (.pairJoinWait t) s = execPairJoinWait t s := rfl
theorem exec_resyncCopy (s : State) (t : Nat) : exec (.resyncCopy t) s = execResyncCopy t s := rfl
theorem exec_dirtyMapProgram (s : State) (t : Nat) : exec (.dirtyMapProgram t) s = execDirtyMapProgram t s := rfl
theorem exec_imageWrite (s : State) (t : Nat) : exec (.imageWrite t) s = execImageWrite t s := rfl
theorem exec_hello (s : State) (t : Nat) (hd : RHdr) (hello : HelloFrame) : exec (.hello t hd hello) s = execHello t hd hello s := rfl
theorem exec_ack (s : State) (t : Nat) (hd : RHdr) : exec (.ack t hd) s = execAck t hd s := rfl
theorem exec_nak (s : State) (t : Nat) (hd : RHdr) (expected : Nat) : exec (.nak t hd expected) s = execNak t hd expected s := rfl
theorem exec_mirrorData (s : State) (t : Nat) (hd : RHdr) (m : MirrorFrame) : exec (.mirrorData t hd m) s = execMirrorData t hd m s := rfl
theorem exec_mirrorMeta (s : State) (t : Nat) (hd : RHdr) (m : MirrorFrame) : exec (.mirrorMeta t hd m) s = execMirrorMeta t hd m s := rfl
theorem exec_mirrorMap (s : State) (t : Nat) (hd : RHdr) (op unit nsid count : Nat) (entry : List Nat) : exec (.mirrorMap t hd op unit nsid count entry) s = execMirrorMap t hd op unit nsid count entry s := rfl
theorem exec_done (s : State) (t : Nat) (hd : RHdr) : exec (.done t hd) s = execDone t hd s := rfl
theorem exec_abortFrame (s : State) (t : Nat) (hd : RHdr) : exec (.abortFrame t hd) s = execAbortFrame t hd s := rfl
theorem exec_resyncCtrl (s : State) (t : Nat) (hd : RHdr) (op index : Nat) (granules : List Nat) (entries : List UnconfEntry) : exec (.resyncCtrl t hd op index granules entries) s = execResyncCtrl t hd op index granules entries s := rfl
theorem exec_resyncData (s : State) (t : Nat) (hd : RHdr) (m : MirrorFrame) (unitState : Nat) : exec (.resyncData t hd m unitState) s = execResyncData t hd m unitState s := rfl
theorem exec_remoteRead (s : State) (t : Nat) (hd : RHdr) (unit mask nsid left : Nat) : exec (.remoteRead t hd unit mask nsid left) s = execRemoteRead t hd unit mask nsid left s := rfl
theorem exec_remoteData (s : State) (t : Nat) (hd : RHdr) (result : Nat) (blocks : List Blk) : exec (.remoteData t hd result blocks) s = execRemoteData t hd result blocks s := rfl
theorem exec_mbox (s : State) (t : Nat) (hd : RHdr) (cell value : Nat) (fenced : Bool) : exec (.mbox t hd cell value fenced) s = execMbox t hd cell value fenced s := rfl
theorem exec_mboxAck (s : State) (t : Nat) (hd : RHdr) (cell : Nat) : exec (.mboxAck t hd cell) s = execMboxAck t hd cell s := rfl
theorem exec_notice (s : State) (t : Nat) (hd : RHdr) (kind state : Nat) : exec (.notice t hd kind state) s = execNotice t hd kind state s := rfl
theorem exec_mboxWrite (s : State) (t : Nat) (x : Xport) (cell value : Nat) : exec (.mboxWrite t x cell value) s = execMboxWrite t x cell value s := rfl
theorem exec_mboxFencedWrite (s : State) (t : Nat) (x : Xport) (cell value : Nat) : exec (.mboxFencedWrite t x cell value) s = execMboxFencedWrite t x cell value s := rfl
theorem exec_mboxFenceTimeout (s : State) (t : Nat) : exec (.mboxFenceTimeout t) s = execMboxFenceTimeout t s := rfl
theorem exec_mctpGet (s : State) (t addr count : Nat) (pecOk : Bool) : exec (.mctpGet t addr count pecOk) s = execMctpGet t addr count pecOk s := rfl
theorem exec_mctpSet (s : State) (t : Nat) (records : List DictRec) (pecOk : Bool) : exec (.mctpSet t records pecOk) s = execMctpSet t records pecOk s := rfl
theorem exec_mctpControlMessage (s : State) (t code eid : Nat) (pecOk : Bool) : exec (.mctpControlMessage t code eid pecOk) s = execMctpControlMessage t code eid pecOk s := rfl
theorem exec_mctpReassemblyTimeout (s : State) (t : Nat) : exec (.mctpReassemblyTimeout t) s = execMctpReassemblyTimeout t s := rfl
theorem exec_fliadOpen (s : State) (t : Nat) (f : FliadFrame) : exec (.fliadOpen t f) s = execFliadOpen t f s := rfl
theorem exec_fliadClose (s : State) (t : Nat) (f : FliadFrame) : exec (.fliadClose t f) s = execFliadClose t f s := rfl
theorem exec_fliadGet (s : State) (t : Nat) (f : FliadFrame) : exec (.fliadGet t f) s = execFliadGet t f s := rfl
theorem exec_fliadGetBlock (s : State) (t : Nat) (f : FliadFrame) : exec (.fliadGetBlock t f) s = execFliadGetBlock t f s := rfl
theorem exec_fliadSet (s : State) (t : Nat) (f : FliadFrame) (records : List DictRec) : exec (.fliadSet t f records) s = execFliadSet t f records s := rfl
theorem exec_fliadSetBlock (s : State) (t : Nat) (f : FliadFrame) : exec (.fliadSetBlock t f) s = execFliadSetBlock t f s := rfl
theorem exec_fliadIdle (s : State) (t session : Nat) : exec (.fliadIdle t session) s = execFliadIdle t session s := rfl
theorem exec_neighborSolicitation (s : State) (t target : Nat) : exec (.neighborSolicitation t target) s = execNeighborSolicitation t target s := rfl
theorem exec_icmpv6Echo (s : State) (t target ident : Nat) : exec (.icmpv6Echo t target ident) s = execIcmpv6Echo t target ident s := rfl
theorem exec_mgmtLinkChange (s : State) (t speed : Nat) : exec (.mgmtLinkChange t speed) s = execMgmtLinkChange t speed s := rfl
theorem exec_mgmtRxDrop (s : State) (t udpPort : Nat) : exec (.mgmtRxDrop t udpPort) s = execMgmtRxDrop t udpPort s := rfl
theorem exec_idleTimer (s : State) (t target : Nat) : exec (.idleTimer t target) s = execIdleTimer t target s := rfl
theorem exec_psEntry (s : State) (t : Nat) (longest : Nat) (wake : Option Nat) : exec (.psEntry t longest wake) s = execPsEntry t longest wake s := rfl
theorem exec_wakeExit (s : State) (t source : Nat) (frame : List Nat) : exec (.wakeExit t source frame) s = execWakeExit t source frame s := rfl
theorem exec_housekeepingWake (s : State) (t : Nat) : exec (.housekeepingWake t) s = execHousekeepingWake t s := rfl
theorem exec_pmbusRequest (s : State) (t millivolts : Nat) (attempts : List Nat) : exec (.pmbusRequest t millivolts attempts) s = execPmbusRequest t millivolts attempts s := rfl
theorem exec_pmbAlert (s : State) (t : Nat) (status : List Nat) : exec (.pmbAlert t status) s = execPmbAlert t status s := rfl
theorem exec_vrPgoodLoss (s : State) (t : Nat) : exec (.vrPgoodLoss t) s = execVrPgoodLoss t s := rfl
theorem exec_avsAdjust (s : State) (t step : Nat) (rise : Bool) (attempts : List Nat) : exec (.avsAdjust t step rise attempts) s = execAvsAdjust t step rise attempts s := rfl
theorem exec_refclkLoss (s : State) (t : Nat) : exec (.refclkLoss t) s = execRefclkLoss t s := rfl
theorem exec_refclkReturn (s : State) (t : Nat) : exec (.refclkReturn t) s = execRefclkReturn t s := rfl
theorem exec_holdoverExpiry (s : State) (t : Nat) : exec (.holdoverExpiry t) s = execHoldoverExpiry t s := rfl
theorem exec_junctionAverage (s : State) (t : Nat) (samples : List (Option Int)) (flush : FlushInput) : exec (.junctionAverage t samples flush) s = execJunctionAverage t samples flush s := rfl
theorem exec_throttleRise (s : State) (t : Nat) : exec (.throttleRise t) s = execThrottleRise t s := rfl
theorem exec_throttleRelease (s : State) (t : Nat) : exec (.throttleRelease t) s = execThrottleRelease t s := rfl
theorem exec_vaonUp (s : State) (t : Nat) : exec (.vaonUp t) s = execVaonUp t s := rfl
theorem exec_main12vGood (s : State) (t : Nat) : exec (.main12vGood t) s = execMain12vGood t s := rfl
theorem exec_vrPgoodTimeout (s : State) (t : Nat) : exec (.vrPgoodTimeout t) s = execVrPgoodTimeout t s := rfl
theorem exec_start (s : State) (t : Nat) (inp : StartInput) : exec (.start t inp) s = execStart t inp s := rfl
theorem exec_touchLoadComplete (s : State) (t h : Nat) : exec (.touchLoadComplete t h) s = execTouchLoadComplete t h s := rfl
theorem exec_eventSecondEnd (s : State) (t : Nat) : exec (.eventSecondEnd t) s = execEventSecondEnd t s := rfl
theorem exec_excerptPageProgram (s : State) (t : Nat) : exec (.excerptPageProgram t) s = execExcerptPageProgram t s := rfl
theorem exec_shnDrainLimit (s : State) (t : Nat) (flush : FlushInput) : exec (.shnDrainLimit t flush) s = execShnDrainLimit t flush s := rfl
theorem exec_rallyFrameDiscard (s : State) (t : Nat) : exec (.rallyFrameDiscard t) s = execRallyFrameDiscard t s := rfl
theorem exec_interruptCoalescingTime (s : State) (t port fn vector : Nat) : exec (.interruptCoalescingTime t port fn vector) s = execInterruptCoalescingTime t port fn vector s := rfl

end Sys2Proof.Machine
end

