-- ==== Sys2Proof/Laws/Tables.lean ====
section
/-! SUPPORT. Sparse tables: a value written is read back, every other key keeps its value, and the canonical
form (keys strictly rising, no entry equal to its default) is kept. -/
namespace Sys2Proof.Machine

/-! ### Stores -/

theorem Store.get_erase_same (d : Nat) (k : Nat × Nat) (s : Store) : Store.get d k (s.erase k) = d := by
  induction s with
  | nil => rfl
  | cons p r ih =>
    unfold Store.erase
    split
    · exact ih
    · simp_all [Store.get]

theorem Store.get_erase_ne (d : Nat) {k k' : Nat × Nat} (h : k' ≠ k) (s : Store) :
    Store.get d k' (s.erase k) = Store.get d k' s := by
  induction s with
  | nil => rfl
  | cons p r ih =>
    unfold Store.erase
    split
    · next hp => rw [ih]; simp [Store.get, hp, h.symm]
    · simp [Store.get, ih]

theorem Store.get_insert_same (d : Nat) (k : Nat × Nat) (v : Nat) (s : Store) (h : ∀ p ∈ s, p.1 ≠ k) :
    Store.get d k (s.insert k v) = v := by
  induction s with
  | nil => simp [Store.insert, Store.get]
  | cons p r ih =>
    unfold Store.insert
    split
    · simp [Store.get]
    · have hp := h p (by simp)
      simp only [Store.get, hp, if_false]
      exact ih fun q hq => h q (by simp [hq])

theorem Store.get_insert_ne (d : Nat) {k k' : Nat × Nat} (h : k' ≠ k) (v : Nat) (s : Store) :
    Store.get d k' (s.insert k v) = Store.get d k' s := by
  induction s with
  | nil => simp [Store.insert, Store.get, h.symm]
  | cons p r ih =>
    unfold Store.insert
    split
    · simp [Store.get, h.symm]
    · simp [Store.get, ih]

theorem Store.erase_no_key (k : Nat × Nat) (s : Store) : ∀ p ∈ s.erase k, p.1 ≠ k := by
  induction s with
  | nil => simp [Store.erase]
  | cons p r ih =>
    unfold Store.erase
    split
    · exact ih
    · next hp => simpa [hp] using ih

/-- Read after write. -/
theorem Store.get_put_same (d : Nat) (k : Nat × Nat) (v : Nat) (s : Store) : Store.get d k (s.put d k v) = v := by
  unfold Store.put
  split
  · next h => rw [Store.get_erase_same, h]
  · exact Store.get_insert_same d k v _ (Store.erase_no_key k s)

/-- A write leaves every other key alone. -/
theorem Store.get_put_ne (d d' : Nat) {k k' : Nat × Nat} (h : k' ≠ k) (v : Nat) (s : Store) :
    Store.get d' k' (s.put d k v) = Store.get d' k' s := by
  unfold Store.put
  split
  · exact Store.get_erase_ne d' h s
  · rw [Store.get_insert_ne d' h, Store.get_erase_ne d' h]

/-- The canonical form of a store whose default depends on the key. -/
def Store.Canonical (dfltOf : Nat × Nat → Nat) (s : Store) : Prop :=
  s.Pairwise (fun a b => keyLt a.1 b.1 = true) ∧ ∀ p ∈ s, p.2 ≠ dfltOf p.1

theorem Store.mem_erase {k : Nat × Nat} {s : Store} {p : (Nat × Nat) × Nat} (h : p ∈ s.erase k) : p ∈ s := by
  induction s with
  | nil => exact h
  | cons q r ih =>
    unfold Store.erase at h
    split at h
    · exact List.mem_cons_of_mem _ (ih h)
    · rcases List.mem_cons.1 h with h | h
      · simp [h]
      · exact List.mem_cons_of_mem _ (ih h)

theorem Store.mem_insert {k : Nat × Nat} {v : Nat} {s : Store} {p : (Nat × Nat) × Nat} :
    p ∈ s.insert k v ↔ p = (k, v) ∨ p ∈ s := by
  induction s with
  | nil => simp [Store.insert]
  | cons q r ih =>
    unfold Store.insert
    split
    · simp
    · simp only [List.mem_cons, ih]; tauto

theorem Store.pairwise_erase (k : Nat × Nat) {s : Store} (h : s.Pairwise (fun a b => keyLt a.1 b.1 = true)) :
    (s.erase k).Pairwise (fun a b => keyLt a.1 b.1 = true) := by
  induction s with
  | nil => exact h
  | cons p r ih =>
    obtain ⟨hp, hr⟩ := List.pairwise_cons.1 h
    unfold Store.erase
    split
    · exact ih hr
    · exact List.pairwise_cons.2 ⟨fun q hq => hp q (Store.mem_erase hq), ih hr⟩

theorem keyLt_trans {a b c : Nat × Nat} (h : keyLt a b = true) (h' : keyLt b c = true) : keyLt a c = true := by
  simp [keyLt] at *; omega

theorem keyLt_total {a b : Nat × Nat} (h : ¬ keyLt a b = true) (hn : b ≠ a) : keyLt b a = true := by
  obtain ⟨a1, a2⟩ := a
  obtain ⟨b1, b2⟩ := b
  simp [keyLt] at *; omega

theorem Store.pairwise_insert (k : Nat × Nat) (v : Nat) {s : Store} (h : s.Pairwise (fun a b => keyLt a.1 b.1 = true))
    (hk : ∀ p ∈ s, p.1 ≠ k) : (s.insert k v).Pairwise (fun a b => keyLt a.1 b.1 = true) := by
  induction s with
  | nil => simp [Store.insert]
  | cons p r ih =>
    obtain ⟨hp, hr⟩ := List.pairwise_cons.1 h
    unfold Store.insert
    split
    · next hlt =>
      refine List.pairwise_cons.2 ⟨fun q hq => ?_, h⟩
      rcases List.mem_cons.1 hq with rfl | hq
      · exact hlt
      · exact keyLt_trans hlt (hp q hq)
    · next hge =>
      refine List.pairwise_cons.2 ⟨fun q hq => ?_, ih hr fun q hq => hk q (by simp [hq])⟩
      rcases Store.mem_insert.1 hq with rfl | hq
      · exact keyLt_total hge (hk p (by simp))
      · exact hp q hq

/-- A write keeps the canonical form. -/
theorem Store.put_canonical (dfltOf : Nat × Nat → Nat) (k : Nat × Nat) (v : Nat) {s : Store} (h : s.Canonical dfltOf) :
    (s.put (dfltOf k) k v).Canonical dfltOf := by
  unfold Store.put
  have he : (s.erase k).Canonical dfltOf := ⟨Store.pairwise_erase k h.1, fun p hp => h.2 p (Store.mem_erase hp)⟩
  split
  · exact he
  · next hv =>
    refine ⟨Store.pairwise_insert k v he.1 (Store.erase_no_key k s), fun p hp => ?_⟩
    rcases Store.mem_insert.1 hp with rfl | hp
    · exact hv
    · exact he.2 p hp

/-! ### Maps of numbers -/

theorem SMap.get_erase_same (d k : Nat) (m : SMap) : SMap.get d k (m.erase k) = d := by
  induction m with
  | nil => rfl
  | cons p r ih =>
    unfold SMap.erase
    split
    · exact ih
    · simp_all [SMap.get]

theorem SMap.get_erase_ne (d : Nat) {k k' : Nat} (h : k' ≠ k) (m : SMap) : SMap.get d k' (m.erase k) = SMap.get d k' m := by
  induction m with
  | nil => rfl
  | cons p r ih =>
    unfold SMap.erase
    split
    · next hp => rw [ih]; simp [SMap.get, hp, h.symm]
    · simp [SMap.get, ih]

theorem SMap.get_insert_same (d k v : Nat) (m : SMap) (h : ∀ p ∈ m, p.1 ≠ k) : SMap.get d k (m.insert k v) = v := by
  induction m with
  | nil => simp [SMap.insert, SMap.get]
  | cons p r ih =>
    unfold SMap.insert
    split
    · simp [SMap.get]
    · have hp := h p (by simp)
      simp only [SMap.get, hp, if_false]
      exact ih fun q hq => h q (by simp [hq])

theorem SMap.get_insert_ne (d : Nat) {k k' : Nat} (h : k' ≠ k) (v : Nat) (m : SMap) :
    SMap.get d k' (m.insert k v) = SMap.get d k' m := by
  induction m with
  | nil => simp [SMap.insert, SMap.get, h.symm]
  | cons p r ih =>
    unfold SMap.insert
    split
    · simp [SMap.get, h.symm]
    · simp [SMap.get, ih]

theorem SMap.erase_no_key (k : Nat) (m : SMap) : ∀ p ∈ m.erase k, p.1 ≠ k := by
  induction m with
  | nil => simp [SMap.erase]
  | cons p r ih =>
    unfold SMap.erase
    split
    · exact ih
    · next hp => simpa [hp] using ih

theorem SMap.get_put_same (d k v : Nat) (m : SMap) : SMap.get d k (m.put d k v) = v := by
  unfold SMap.put
  split
  · next h => rw [SMap.get_erase_same, h]
  · exact SMap.get_insert_same d k v _ (SMap.erase_no_key k m)

theorem SMap.get_put_ne (d d' : Nat) {k k' : Nat} (h : k' ≠ k) (v : Nat) (m : SMap) :
    SMap.get d' k' (m.put d k v) = SMap.get d' k' m := by
  unfold SMap.put
  split
  · exact SMap.get_erase_ne d' h m
  · rw [SMap.get_insert_ne d' h, SMap.get_erase_ne d' h]

/-! ### The dictionary's values -/

@[simp] theorem Chip.setAt_vals (c : Chip) (a item v : Nat) :
    (c.setAt a item v).dict.vals = c.dict.vals.put (dflt a item) (a, item) v := rfl

/-- What an entry reads as after a value is stored: that value, and every other entry as before. -/
theorem Chip.getAt_setAt (c : Chip) (a item v a' item' : Nat) :
    (c.setAt a item v).getAt a' item' = if a' = a ∧ item' = item then v else c.getAt a' item' := by
  unfold Chip.getAt
  rw [Chip.setAt_vals]
  split
  · next h => obtain ⟨rfl, rfl⟩ := h; exact Store.get_put_same _ _ _ _
  · next h => exact Store.get_put_ne _ _ (by simpa using h) _ _

/-- The value of an entry depends on the stored values alone. -/
theorem Chip.getAt_congr {c c' : Chip} (h : c'.dict.vals = c.dict.vals) (a item : Nat) : c'.getAt a item = c.getAt a item := by
  unfold Chip.getAt; rw [h]

/-- Lists of records: the record put in is there, and records that do not match stay. -/
theorem mem_upsert_new {α : Type} (p : α → Bool) (x : α) (l : List α) : x ∈ upsert p x l := by
  induction l with
  | nil => simp [upsert]
  | cons a r ih => unfold upsert; split <;> simp [ih]

theorem find_upsert {α : Type} (p : α → Bool) (x : α) (hx : p x = true) (l : List α) : (upsert p x l).find? p = some x := by
  induction l with
  | nil => simp [upsert, hx]
  | cons a r ih =>
    unfold upsert
    split
    · simp [hx]
    · next h => simp [List.find?, h, ih]

theorem find_upsert_ne {α : Type} (p q : α → Bool) (x : α) (h : ∀ a, p a = true → q a = false) (hx : q x = false) (l : List α) :
    (upsert p x l).find? q = l.find? q := by
  induction l with
  | nil => simp [upsert, hx]
  | cons a r ih =>
    unfold upsert
    split
    · next hp => simp [List.find?, hx, h a hp]
    · simp [List.find?, ih]

theorem find_change {α : Type} (p : α → Bool) (x : α) (hx : p x = true) (l : List α) (hl : (l.find? p).isSome) :
    (change p (fun _ => x) l).find? p = some x := by
  induction l with
  | nil => simp at hl
  | cons a r ih =>
    simp only [change, List.map_cons]
    split
    · next h => simp [hx]
    · next h =>
      simp only [List.find?, h] at hl ⊢
      exact ih hl

theorem find_change_ne {α : Type} (p q : α → Bool) (f : α → α) (h : ∀ a, p a = true → q a = false ∧ q (f a) = false) (l : List α) :
    (change p f l).find? q = l.find? q := by
  induction l with
  | nil => rfl
  | cons a r ih =>
    simp only [change, List.map_cons] at ih ⊢
    split
    · next hp => simp [List.find?, (h a hp).1, (h a hp).2, ih]
    · simp [List.find?, ih]

theorem find_drop_same {α : Type} (p : α → Bool) (l : List α) : (drop' p l).find? p = none := by
  simp [drop', List.find?_eq_none]

theorem find_drop_ne {α : Type} (p q : α → Bool) (h : ∀ a, p a = true → q a = false) (l : List α) :
    (drop' p l).find? q = l.find? q := by
  induction l with
  | nil => rfl
  | cons a r ih =>
    simp only [drop', List.filter_cons] at ih ⊢
    split
    · simp [List.find?, ih]
    · next hp => simp [List.find?, h a (by simpa using hp), ih]

end Sys2Proof.Machine
end

