-- ==== Sys2Proof/Laws/Ops.lean ====
section
/-! SUPPORT. The shared operations: what a lookup finds after an update, and everything that a counter, an event
record, the end of a command and an Asynchronous Event can change. -/
namespace Sys2Proof.Machine

/-! ### Lookups -/

theorem Chip.cmd_h {c : Chip} {h : Nat} {x : Cmd} (hc : c.cmd h = some x) : x.h = h := by
  have := List.find?_some hc; simpa using this

theorem Chip.cmd_setCmd_same {c : Chip} {x y : Cmd} (hc : c.cmd x.h = some y) : (c.setCmd x).cmd x.h = some x := by
  unfold Chip.cmd at *
  exact find_change _ _ (by simp) _ (by simp [hc])

theorem Chip.cmd_setCmd_ne (c : Chip) (x : Cmd) {h : Nat} (hn : x.h ≠ h) : (c.setCmd x).cmd h = c.cmd h := by
  unfold Chip.cmd
  refine find_change_ne _ _ _ (fun a ha => ?_) _
  have : a.h = x.h := by simpa using ha
  simp [this, hn]

theorem Chip.cmd_dropCmd_same (c : Chip) (h : Nat) : (c.dropCmd h).cmd h = none := find_drop_same _ _

theorem Chip.cmd_dropCmd_ne (c : Chip) {h h' : Nat} (hn : h' ≠ h) : (c.dropCmd h').cmd h = c.cmd h := by
  unfold Chip.cmd
  refine find_drop_ne _ _ (fun a ha => ?_) _
  have : a.h = h' := by simpa using ha
  simp [this, hn]

theorem Chip.cmd_congr {c c' : Chip} (h : c'.cmds = c.cmds) (k : Nat) : c'.cmd k = c.cmd k := by
  unfold Chip.cmd; rw [h]

theorem Chip.fnOf_setFn_same (c : Chip) (f : Fn) : (c.setFn f).fnOf f.port f.fn = f := by
  unfold Chip.fnOf
  rw [Chip.setFn_fns, find_upsert _ _ (by simp)]

theorem Chip.fnOf_setFn_ne (c : Chip) (f : Fn) {p k : Nat} (h : ¬ (f.port = p ∧ f.fn = k)) : (c.setFn f).fnOf p k = c.fnOf p k := by
  unfold Chip.fnOf
  rw [Chip.setFn_fns, find_upsert_ne]
  · intro a ha
    simp only [decide_eq_true_eq] at ha
    simp only [decide_eq_false_iff_not, ha.1, ha.2]; exact h
  · simpa using h

theorem Chip.fnOf_congr {c c' : Chip} (h : c'.fns = c.fns) (p k : Nat) : c'.fnOf p k = c.fnOf p k := by
  unfold Chip.fnOf; rw [h]

theorem Chip.portOf_setPort_same (c : Chip) (p : Port) : (c.setPort p).portOf p.port = p := by
  unfold Chip.portOf
  rw [Chip.setPort_ports, find_upsert _ _ (by simp)]

theorem Chip.portOf_setPort_ne (c : Chip) (p : Port) {k : Nat} (h : p.port ≠ k) : (c.setPort p).portOf k = c.portOf k := by
  unfold Chip.portOf
  rw [Chip.setPort_ports, find_upsert_ne]
  · intro a ha
    simp only [decide_eq_true_eq] at ha
    simp only [decide_eq_false_iff_not, ha]; exact h
  · simpa using h

theorem Chip.portOf_congr {c c' : Chip} (h : c'.ports = c.ports) (k : Nat) : c'.portOf k = c.portOf k := by
  unfold Chip.portOf; rw [h]

/-- A function or port that is looked up carries the numbers it was looked up by. -/
theorem Chip.fnOf_key (c : Chip) (p k : Nat) : (c.fnOf p k).port = p ∧ (c.fnOf p k).fn = k := by
  unfold Chip.fnOf
  split
  · next h => simpa using List.find?_some h
  · exact ⟨rfl, rfl⟩

@[simp] theorem Chip.fnOf_port (c : Chip) (p k : Nat) : (c.fnOf p k).port = p := (c.fnOf_key p k).1
@[simp] theorem Chip.fnOf_fn (c : Chip) (p k : Nat) : (c.fnOf p k).fn = k := (c.fnOf_key p k).2

@[simp] theorem Chip.portOf_port (c : Chip) (k : Nat) : (c.portOf k).port = k := by
  unfold Chip.portOf
  split
  · next h => simpa using List.find?_some h
  · rfl

/-! ### Counters and events -/

/-- Two chips that differ in stored values only. -/
def OnlyVals (a b : Chip) : Prop := ∃ v, b = { a with dict := { a.dict with vals := v } }

theorem OnlyVals.trans {a b d : Chip} : OnlyVals a b → OnlyVals b d → OnlyVals a d := by
  rintro ⟨v, rfl⟩ ⟨v', rfl⟩; exact ⟨v', rfl⟩

theorem OnlyVals.set (c : Chip) (a item v : Nat) : OnlyVals c (c.setAt a item v) := ⟨c.dict.vals.put (dflt a item) (a, item) v, rfl⟩

theorem OnlyVals.ite {p : Prop} [Decidable p] {a b d : Chip} (hb : OnlyVals a b) (hd : OnlyVals a d) :
    OnlyVals a (if p then b else d) := by split <;> assumption

/-- The counters of saturated counters are stored values. -/
theorem OnlyVals.saturates (c : Chip) (a top old new : Nat) : OnlyVals c (c.saturates a top old new) := by
  have h : ∀ d, OnlyVals c d → OnlyVals c { c with dict := d.dict } := fun d h => by obtain ⟨v, rfl⟩ := h; exact ⟨v, rfl⟩
  unfold Chip.saturates
  dsimp only
  split_ifs
  · exact h _ ((OnlyVals.set _ _ _ _).trans (.set _ _ _ _))
  · exact h _ (.set _ _ _ _)
  · exact ⟨c.dict.vals, rfl⟩

/-- A count changes stored values only. -/
theorem Chip.countAt_frame (c : Chip) (a item n : Nat) :
    ∃ v, c.countAt a item n = { c with dict := { c.dict with vals := v } } := by
  change OnlyVals c (c.countAt a item n)
  exact (OnlyVals.set _ _ _ _).trans (.saturates _ _ _ _ _)

/-- Two chips that differ in stored values, the event part and the telemetry availability only. -/
def OnlyEv (a b : Chip) : Prop :=
  ∃ v e t, b = { a with dict := { a.dict with vals := v }, ev := e, lg := { a.lg with telemAvail := t } }

theorem OnlyEv.trans {a b d : Chip} : OnlyEv a b → OnlyEv b d → OnlyEv a d := by
  rintro ⟨v, e, t, rfl⟩ ⟨v', e', t', rfl⟩; exact ⟨v', e', t', rfl⟩

theorem OnlyEv.vals {a b : Chip} : OnlyVals a b → OnlyEv a b := by
  rintro ⟨v, rfl⟩; exact ⟨v, a.ev, a.lg.telemAvail, rfl⟩

theorem OnlyEv.ev (c : Chip) (e : Ev) : OnlyEv c { c with ev := e } := ⟨c.dict.vals, e, c.lg.telemAvail, rfl⟩

theorem OnlyEv.count (c : Chip) (a item n : Nat) : OnlyEv c (c.countAt a item n) := .vals (c.countAt_frame a item n)

theorem OnlyEv.telem (c : Chip) (b : Bool) : OnlyEv c { c with lg := { c.lg with telemAvail := b } } := ⟨c.dict.vals, c.ev, b, rfl⟩

theorem OnlyEv.ite {p : Prop} [Decidable p] {a b d : Chip} (hb : OnlyEv a b) (hd : OnlyEv a d) :
    OnlyEv a (if p then b else d) := by split <;> assumption

theorem OnlyEv.record (c : Chip) (time src ev sev unit : Nat) (params : List Nat) :
    OnlyEv c (c.record time src ev sev unit params) := by
  have hc : ∀ b, OnlyEv c b → ∀ k, OnlyEv c (b.count k 1) := fun b h k => h.trans (.count b k 0 1)
  have h2 : ∀ e v, OnlyEv c (({ c with ev := e } : Chip).set E.EVT_NEXT v) := fun e v => (OnlyEv.ev c e).trans (.vals (.set _ _ _ _))
  have h3 := fun e v => hc _ (h2 e v) E.EVT_TOTAL
  unfold Chip.record
  have h4 := fun e v => OnlyEv.ite (p := decide (65536 ≤ c.ev.ring.length) = true) (hc _ (h3 e v) E.EVT_OVERWRITTEN) (h3 e v)
  exact .ite (.ite (hc _ (h4 _ _) _) (((h4 _ _).trans (.telem _ _)).trans (.vals (.set _ _ _ _)))) (h4 _ _)

theorem OnlyEv.event (c : Chip) (src ev sev unit : Nat) (params : List Nat) : OnlyEv c (c.event src ev sev unit params) := by
  unfold Chip.event Chip.eventAt
  split
  · exact .count _ _ _ _
  · split
    · exact (OnlyEv.ev _ _).trans (.count _ _ _ _)
    · exact (OnlyEv.ev _ _).trans (.record _ _ _ _ _ _ _)

/-- A record changes the ring, stored values and the telemetry availability only. -/
theorem Chip.event_frame (c : Chip) (src ev sev unit : Nat) (params : List Nat) :
    ∃ v e a, c.event src ev sev unit params =
      { c with dict := { c.dict with vals := v }, ev := e, lg := { c.lg with telemAvail := a } } := OnlyEv.event c src ev sev unit params

theorem Chip.eventFirst_frame (c : Chip) (src ev sev unit : Nat) (params : List Nat) :
    ∃ v e a, c.eventFirst src ev sev unit params =
      { c with dict := { c.dict with vals := v }, ev := e, lg := { c.lg with telemAvail := a } } := by
  change OnlyEv c (c.eventFirst src ev sev unit params)
  unfold Chip.eventFirst
  split
  · exact (OnlyEv.ev _ _).trans (.event _ _ _ _ _ _)
  · exact .ev _ _


section countAt
variable (c : Chip) (a item n : Nat)
@[simp] theorem Chip.countAt_now : (c.countAt a item n).now = c.now := by
  obtain ⟨v, h⟩ := c.countAt_frame a item n; rw [h]
@[simp] theorem Chip.countAt_fuse : (c.countAt a item n).fuse = c.fuse := by
  obtain ⟨v, h⟩ := c.countAt_frame a item n; rw [h]
@[simp] theorem Chip.countAt_boot : (c.countAt a item n).boot = c.boot := by
  obtain ⟨v, h⟩ := c.countAt_frame a item n; rw [h]
@[simp] theorem Chip.countAt_ev : (c.countAt a item n).ev = c.ev := by
  obtain ⟨v, h⟩ := c.countAt_frame a item n; rw [h]
@[simp] theorem Chip.countAt_un : (c.countAt a item n).un = c.un := by
  obtain ⟨v, h⟩ := c.countAt_frame a item n; rw [h]
@[simp] theorem Chip.countAt_fns : (c.countAt a item n).fns = c.fns := by
  obtain ⟨v, h⟩ := c.countAt_frame a item n; rw [h]
@[simp] theorem Chip.countAt_ports : (c.countAt a item n).ports = c.ports := by
  obtain ⟨v, h⟩ := c.countAt_frame a item n; rw [h]
@[simp] theorem Chip.countAt_qs : (c.countAt a item n).qs = c.qs := by
  obtain ⟨v, h⟩ := c.countAt_frame a item n; rw [h]
@[simp] theorem Chip.countAt_cmds : (c.countAt a item n).cmds = c.cmds := by
  obtain ⟨v, h⟩ := c.countAt_frame a item n; rw [h]
@[simp] theorem Chip.countAt_nextH : (c.countAt a item n).nextH = c.nextH := by
  obtain ⟨v, h⟩ := c.countAt_frame a item n; rw [h]
@[simp] theorem Chip.countAt_lk : (c.countAt a item n).lk = c.lk := by
  obtain ⟨v, h⟩ := c.countAt_frame a item n; rw [h]
@[simp] theorem Chip.countAt_um : (c.countAt a item n).um = c.um := by
  obtain ⟨v, h⟩ := c.countAt_frame a item n; rw [h]
@[simp] theorem Chip.countAt_ft : (c.countAt a item n).ft = c.ft := by
  obtain ⟨v, h⟩ := c.countAt_frame a item n; rw [h]
@[simp] theorem Chip.countAt_sb : (c.countAt a item n).sb = c.sb := by
  obtain ⟨v, h⟩ := c.countAt_frame a item n; rw [h]
@[simp] theorem Chip.countAt_md : (c.countAt a item n).md = c.md := by
  obtain ⟨v, h⟩ := c.countAt_frame a item n; rw [h]
@[simp] theorem Chip.countAt_rd : (c.countAt a item n).rd = c.rd := by
  obtain ⟨v, h⟩ := c.countAt_frame a item n; rw [h]
@[simp] theorem Chip.countAt_lost : (c.countAt a item n).lost = c.lost := by
  obtain ⟨v, h⟩ := c.countAt_frame a item n; rw [h]
@[simp] theorem Chip.countAt_st : (c.countAt a item n).st = c.st := by
  obtain ⟨v, h⟩ := c.countAt_frame a item n; rw [h]
@[simp] theorem Chip.countAt_book : (c.countAt a item n).book = c.book := by
  obtain ⟨v, h⟩ := c.countAt_frame a item n; rw [h]
@[simp] theorem Chip.countAt_wins : (c.countAt a item n).wins = c.wins := by
  obtain ⟨v, h⟩ := c.countAt_frame a item n; rw [h]
@[simp] theorem Chip.countAt_pr : (c.countAt a item n).pr = c.pr := by
  obtain ⟨v, h⟩ := c.countAt_frame a item n; rw [h]
@[simp] theorem Chip.countAt_mg : (c.countAt a item n).mg = c.mg := by
  obtain ⟨v, h⟩ := c.countAt_frame a item n; rw [h]
@[simp] theorem Chip.countAt_pm : (c.countAt a item n).pm = c.pm := by
  obtain ⟨v, h⟩ := c.countAt_frame a item n; rw [h]
@[simp] theorem Chip.countAt_th : (c.countAt a item n).th = c.th := by
  obtain ⟨v, h⟩ := c.countAt_frame a item n; rw [h]
@[simp] theorem Chip.countAt_fw : (c.countAt a item n).fw = c.fw := by
  obtain ⟨v, h⟩ := c.countAt_frame a item n; rw [h]
@[simp] theorem Chip.countAt_lg : (c.countAt a item n).lg = c.lg := by
  obtain ⟨v, h⟩ := c.countAt_frame a item n; rw [h]
@[simp] theorem Chip.countAt_rnd : (c.countAt a item n).rnd = c.rnd := by
  obtain ⟨v, h⟩ := c.countAt_frame a item n; rw [h]
@[simp] theorem Chip.countAt_free : (c.countAt a item n).free = c.free := by
  obtain ⟨v, h⟩ := c.countAt_frame a item n; rw [h]
@[simp] theorem Chip.countAt_out : (c.countAt a item n).out = c.out := by
  obtain ⟨v, h⟩ := c.countAt_frame a item n; rw [h]
end countAt

section event
variable (c : Chip) (src ev sev unit : Nat) (params : List Nat)
@[simp] theorem Chip.event_now : (c.event src ev sev unit params).now = c.now := by
  obtain ⟨v, e, a, h⟩ := c.event_frame src ev sev unit params; rw [h]
@[simp] theorem Chip.event_fuse : (c.event src ev sev unit params).fuse = c.fuse := by
  obtain ⟨v, e, a, h⟩ := c.event_frame src ev sev unit params; rw [h]
@[simp] theorem Chip.event_boot : (c.event src ev sev unit params).boot = c.boot := by
  obtain ⟨v, e, a, h⟩ := c.event_frame src ev sev unit params; rw [h]
@[simp] theorem Chip.event_un : (c.event src ev sev unit params).un = c.un := by
  obtain ⟨v, e, a, h⟩ := c.event_frame src ev sev unit params; rw [h]
@[simp] theorem Chip.event_fns : (c.event src ev sev unit params).fns = c.fns := by
  obtain ⟨v, e, a, h⟩ := c.event_frame src ev sev unit params; rw [h]
@[simp] theorem Chip.event_ports : (c.event src ev sev unit params).ports = c.ports := by
  obtain ⟨v, e, a, h⟩ := c.event_frame src ev sev unit params; rw [h]
@[simp] theorem Chip.event_qs : (c.event src ev sev unit params).qs = c.qs := by
  obtain ⟨v, e, a, h⟩ := c.event_frame src ev sev unit params; rw [h]
@[simp] theorem Chip.event_cmds : (c.event src ev sev unit params).cmds = c.cmds := by
  obtain ⟨v, e, a, h⟩ := c.event_frame src ev sev unit params; rw [h]
@[simp] theorem Chip.event_nextH : (c.event src ev sev unit params).nextH = c.nextH := by
  obtain ⟨v, e, a, h⟩ := c.event_frame src ev sev unit params; rw [h]
@[simp] theorem Chip.event_lk : (c.event src ev sev unit params).lk = c.lk := by
  obtain ⟨v, e, a, h⟩ := c.event_frame src ev sev unit params; rw [h]
@[simp] theorem Chip.event_um : (c.event src ev sev unit params).um = c.um := by
  obtain ⟨v, e, a, h⟩ := c.event_frame src ev sev unit params; rw [h]
@[simp] theorem Chip.event_ft : (c.event src ev sev unit params).ft = c.ft := by
  obtain ⟨v, e, a, h⟩ := c.event_frame src ev sev unit params; rw [h]
@[simp] theorem Chip.event_sb : (c.event src ev sev unit params).sb = c.sb := by
  obtain ⟨v, e, a, h⟩ := c.event_frame src ev sev unit params; rw [h]
@[simp] theorem Chip.event_md : (c.event src ev sev unit params).md = c.md := by
  obtain ⟨v, e, a, h⟩ := c.event_frame src ev sev unit params; rw [h]
@[simp] theorem Chip.event_rd : (c.event src ev sev unit params).rd = c.rd := by
  obtain ⟨v, e, a, h⟩ := c.event_frame src ev sev unit params; rw [h]
@[simp] theorem Chip.event_lost : (c.event src ev sev unit params).lost = c.lost := by
  obtain ⟨v, e, a, h⟩ := c.event_frame src ev sev unit params; rw [h]
@[simp] theorem Chip.event_st : (c.event src ev sev unit params).st = c.st := by
  obtain ⟨v, e, a, h⟩ := c.event_frame src ev sev unit params; rw [h]
@[simp] theorem Chip.event_book : (c.event src ev sev unit params).book = c.book := by
  obtain ⟨v, e, a, h⟩ := c.event_frame src ev sev unit params; rw [h]
@[simp] theorem Chip.event_wins : (c.event src ev sev unit params).wins = c.wins := by
  obtain ⟨v, e, a, h⟩ := c.event_frame src ev sev unit params; rw [h]
@[simp] theorem Chip.event_pr : (c.event src ev sev unit params).pr = c.pr := by
  obtain ⟨v, e, a, h⟩ := c.event_frame src ev sev unit params; rw [h]
@[simp] theorem Chip.event_mg : (c.event src ev sev unit params).mg = c.mg := by
  obtain ⟨v, e, a, h⟩ := c.event_frame src ev sev unit params; rw [h]
@[simp] theorem Chip.event_pm : (c.event src ev sev unit params).pm = c.pm := by
  obtain ⟨v, e, a, h⟩ := c.event_frame src ev sev unit params; rw [h]
@[simp] theorem Chip.event_th : (c.event src ev sev unit params).th = c.th := by
  obtain ⟨v, e, a, h⟩ := c.event_frame src ev sev unit params; rw [h]
@[simp] theorem Chip.event_fw : (c.event src ev sev unit params).fw = c.fw := by
  obtain ⟨v, e, a, h⟩ := c.event_frame src ev sev unit params; rw [h]
@[simp] theorem Chip.event_rnd : (c.event src ev sev unit params).rnd = c.rnd := by
  obtain ⟨v, e, a, h⟩ := c.event_frame src ev sev unit params; rw [h]
@[simp] theorem Chip.event_free : (c.event src ev sev unit params).free = c.free := by
  obtain ⟨v, e, a, h⟩ := c.event_frame src ev sev unit params; rw [h]
@[simp] theorem Chip.event_out : (c.event src ev sev unit params).out = c.out := by
  obtain ⟨v, e, a, h⟩ := c.event_frame src ev sev unit params; rw [h]
end event

section eventFirst
variable (c : Chip) (src ev sev unit : Nat) (params : List Nat)
@[simp] theorem Chip.eventFirst_now : (c.eventFirst src ev sev unit params).now = c.now := by
  obtain ⟨v, e, a, h⟩ := c.eventFirst_frame src ev sev unit params; rw [h]
@[simp] theorem Chip.eventFirst_fuse : (c.eventFirst src ev sev unit params).fuse = c.fuse := by
  obtain ⟨v, e, a, h⟩ := c.eventFirst_frame src ev sev unit params; rw [h]
@[simp] theorem Chip.eventFirst_boot : (c.eventFirst src ev sev unit params).boot = c.boot := by
  obtain ⟨v, e, a, h⟩ := c.eventFirst_frame src ev sev unit params; rw [h]
@[simp] theorem Chip.eventFirst_un : (c.eventFirst src ev sev unit params).un = c.un := by
  obtain ⟨v, e, a, h⟩ := c.eventFirst_frame src ev sev unit params; rw [h]
@[simp] theorem Chip.eventFirst_fns : (c.eventFirst src ev sev unit params).fns = c.fns := by
  obtain ⟨v, e, a, h⟩ := c.eventFirst_frame src ev sev unit params; rw [h]
@[simp] theorem Chip.eventFirst_ports : (c.eventFirst src ev sev unit params).ports = c.ports := by
  obtain ⟨v, e, a, h⟩ := c.eventFirst_frame src ev sev unit params; rw [h]
@[simp] theorem Chip.eventFirst_qs : (c.eventFirst src ev sev unit params).qs = c.qs := by
  obtain ⟨v, e, a, h⟩ := c.eventFirst_frame src ev sev unit params; rw [h]
@[simp] theorem Chip.eventFirst_cmds : (c.eventFirst src ev sev unit params).cmds = c.cmds := by
  obtain ⟨v, e, a, h⟩ := c.eventFirst_frame src ev sev unit params; rw [h]
@[simp] theorem Chip.eventFirst_nextH : (c.eventFirst src ev sev unit params).nextH = c.nextH := by
  obtain ⟨v, e, a, h⟩ := c.eventFirst_frame src ev sev unit params; rw [h]
@[simp] theorem Chip.eventFirst_lk : (c.eventFirst src ev sev unit params).lk = c.lk := by
  obtain ⟨v, e, a, h⟩ := c.eventFirst_frame src ev sev unit params; rw [h]
@[simp] theorem Chip.eventFirst_um : (c.eventFirst src ev sev unit params).um = c.um := by
  obtain ⟨v, e, a, h⟩ := c.eventFirst_frame src ev sev unit params; rw [h]
@[simp] theorem Chip.eventFirst_ft : (c.eventFirst src ev sev unit params).ft = c.ft := by
  obtain ⟨v, e, a, h⟩ := c.eventFirst_frame src ev sev unit params; rw [h]
@[simp] theorem Chip.eventFirst_sb : (c.eventFirst src ev sev unit params).sb = c.sb := by
  obtain ⟨v, e, a, h⟩ := c.eventFirst_frame src ev sev unit params; rw [h]
@[simp] theorem Chip.eventFirst_md : (c.eventFirst src ev sev unit params).md = c.md := by
  obtain ⟨v, e, a, h⟩ := c.eventFirst_frame src ev sev unit params; rw [h]
@[simp] theorem Chip.eventFirst_rd : (c.eventFirst src ev sev unit params).rd = c.rd := by
  obtain ⟨v, e, a, h⟩ := c.eventFirst_frame src ev sev unit params; rw [h]
@[simp] theorem Chip.eventFirst_lost : (c.eventFirst src ev sev unit params).lost = c.lost := by
  obtain ⟨v, e, a, h⟩ := c.eventFirst_frame src ev sev unit params; rw [h]
@[simp] theorem Chip.eventFirst_st : (c.eventFirst src ev sev unit params).st = c.st := by
  obtain ⟨v, e, a, h⟩ := c.eventFirst_frame src ev sev unit params; rw [h]
@[simp] theorem Chip.eventFirst_book : (c.eventFirst src ev sev unit params).book = c.book := by
  obtain ⟨v, e, a, h⟩ := c.eventFirst_frame src ev sev unit params; rw [h]
@[simp] theorem Chip.eventFirst_wins : (c.eventFirst src ev sev unit params).wins = c.wins := by
  obtain ⟨v, e, a, h⟩ := c.eventFirst_frame src ev sev unit params; rw [h]
@[simp] theorem Chip.eventFirst_pr : (c.eventFirst src ev sev unit params).pr = c.pr := by
  obtain ⟨v, e, a, h⟩ := c.eventFirst_frame src ev sev unit params; rw [h]
@[simp] theorem Chip.eventFirst_mg : (c.eventFirst src ev sev unit params).mg = c.mg := by
  obtain ⟨v, e, a, h⟩ := c.eventFirst_frame src ev sev unit params; rw [h]
@[simp] theorem Chip.eventFirst_pm : (c.eventFirst src ev sev unit params).pm = c.pm := by
  obtain ⟨v, e, a, h⟩ := c.eventFirst_frame src ev sev unit params; rw [h]
@[simp] theorem Chip.eventFirst_th : (c.eventFirst src ev sev unit params).th = c.th := by
  obtain ⟨v, e, a, h⟩ := c.eventFirst_frame src ev sev unit params; rw [h]
@[simp] theorem Chip.eventFirst_fw : (c.eventFirst src ev sev unit params).fw = c.fw := by
  obtain ⟨v, e, a, h⟩ := c.eventFirst_frame src ev sev unit params; rw [h]
@[simp] theorem Chip.eventFirst_rnd : (c.eventFirst src ev sev unit params).rnd = c.rnd := by
  obtain ⟨v, e, a, h⟩ := c.eventFirst_frame src ev sev unit params; rw [h]
@[simp] theorem Chip.eventFirst_free : (c.eventFirst src ev sev unit params).free = c.free := by
  obtain ⟨v, e, a, h⟩ := c.eventFirst_frame src ev sev unit params; rw [h]
@[simp] theorem Chip.eventFirst_out : (c.eventFirst src ev sev unit params).out = c.out := by
  obtain ⟨v, e, a, h⟩ := c.eventFirst_frame src ev sev unit params; rw [h]
end eventFirst


@[simp] theorem Chip.countAt_tags (c : Chip) (a item n : Nat) : (c.countAt a item n).dict.tags = c.dict.tags := by
  obtain ⟨v, h⟩ := c.countAt_frame a item n; rw [h]
@[simp] theorem Chip.event_tags (c : Chip) (src ev sev unit : Nat) (params : List Nat) :
    (c.event src ev sev unit params).dict.tags = c.dict.tags := by
  obtain ⟨v, e, a, h⟩ := c.event_frame src ev sev unit params; rw [h]

/-- The counters of the counters (R461). -/
def meters : List Nat := [E.COUNTERS_SATURATED, E.COUNTERS_SATURATED_LIFE]

/-- A counter that saturates changes no entry but the counters of saturated counters. -/
theorem Chip.getAt_saturates (c : Chip) (a top old new : Nat) {a' item' : Nat} (h : a' ∉ meters) :
    (c.saturates a top old new).getAt a' item' = c.getAt a' item' := by
  simp only [meters, List.mem_cons, List.not_mem_nil, or_false, not_or] at h
  have hs : ∀ (d : Chip) b v, a' ≠ b → (d.set b v).getAt a' item' = d.getAt a' item' := fun d b v hb => by simp [Chip.getAt_setAt, hb]
  have hd : ∀ d : Chip, ({ c with dict := d.dict } : Chip).getAt a' item' = d.getAt a' item' := fun _ => rfl
  unfold Chip.saturates
  dsimp only
  split_ifs
  · rw [hd, hs _ _ _ h.2, hs _ _ _ h.1]
  · rw [hd, hs _ _ _ h.1]
  · rfl

/-- A counter after n more, short of its largest value. -/
theorem Chip.getAt_countAt_same (c : Chip) (a item n : Nat) (h : a ∉ meters) :
    (c.countAt a item n).getAt a item = min (topOf a) (c.getAt a item + n) := by
  unfold Chip.countAt
  rw [Chip.getAt_saturates _ _ _ _ _ h]
  simp [Chip.getAt_setAt]

/-- A count leaves every other entry but the counters of saturated counters. -/
theorem Chip.getAt_countAt_ne (c : Chip) (a item n : Nat) {a' item' : Nat} (h : a' ∉ meters) (hn : ¬ (a' = a ∧ item' = item)) :
    (c.countAt a item n).getAt a' item' = c.getAt a' item' := by
  unfold Chip.countAt
  rw [Chip.getAt_saturates _ _ _ _ _ h]
  simp only [Chip.getAt_setAt, hn, if_false]

theorem notMeter {a : Nat} (h : a ∉ eventMeters) : a ∉ meters := by
  simp only [meters, eventMeters, List.mem_cons, List.not_mem_nil, or_false, not_or] at *; tauto

theorem Chip.getAt_record (c : Chip) (time src ev sev unit : Nat) (params : List Nat) {a item : Nat} (h : a ∉ eventMeters) :
    (c.record time src ev sev unit params).getAt a item = c.getAt a item := by
  have hm := notMeter h
  simp only [eventMeters, List.mem_cons, List.not_mem_nil, or_false, not_or] at h
  obtain ⟨-, -, h3, h4, h5, h6, h7, h8, h9⟩ := h
  have hc : ∀ (d : Chip) b n, a ≠ b → (d.count b n).getAt a item = d.getAt a item := fun d b n hb =>
    d.getAt_countAt_ne b 0 n hm (by simp [hb])
  have hs : ∀ (d : Chip) b v, a ≠ b → (d.set b v).getAt a item = d.getAt a item := fun d b v hb => by
    simp [Chip.set, Chip.getAt_setAt, hb]
  have he : ∀ (d : Chip) e, ({ d with ev := e } : Chip).getAt a item = d.getAt a item := fun _ _ => rfl
  have ht : ∀ (d : Chip) b, ({ d with lg := { d.lg with telemAvail := b } } : Chip).getAt a item = d.getAt a item := fun _ _ => rfl
  have h3' := fun e v => (hc (({ c with ev := e } : Chip).set E.EVT_NEXT v) E.EVT_TOTAL 1 h4).trans ((hs _ _ _ h3).trans (he c e))
  have h4' : ∀ e v, (if decide (65536 ≤ c.ev.ring.length) = true then
      (((({ c with ev := e } : Chip).set E.EVT_NEXT v).count E.EVT_TOTAL 1).count E.EVT_OVERWRITTEN 1)
      else ((({ c with ev := e } : Chip).set E.EVT_NEXT v).count E.EVT_TOTAL 1)).getAt a item = c.getAt a item := by
    intro e v
    split
    · exact (hc _ _ _ h5).trans (h3' e v)
    · exact h3' e v
  have hi : ∀ (p : Prop) [Decidable p] (b d : Chip), b.getAt a item = c.getAt a item → d.getAt a item = c.getAt a item →
      (if p then b else d).getAt a item = c.getAt a item := fun p _ b d hb hd => by split <;> assumption
  unfold Chip.record
  exact hi _ _ _ (hi _ _ _ ((hc _ _ _ h8).trans (h4' _ _)) ((hs _ _ _ h9).trans ((ht _ _).trans (h4' _ _)))) (h4' _ _)

theorem Chip.getAt_event (c : Chip) (src ev sev unit : Nat) (params : List Nat) {a item : Nat} (h : a ∉ eventMeters) :
    (c.event src ev sev unit params).getAt a item = c.getAt a item := by
  have hm := notMeter h
  have h' := h
  simp only [eventMeters, List.mem_cons, List.not_mem_nil, or_false, not_or] at h'
  obtain ⟨-, -, -, -, -, h6, h7, -, -⟩ := h'
  unfold Chip.event Chip.eventAt
  split
  · exact c.getAt_countAt_ne _ _ _ hm (by simp [h6])
  · split
    · exact Chip.getAt_countAt_ne _ _ _ _ hm (by simp [h7])
    · exact Chip.getAt_record _ _ _ _ _ _ _ h

theorem Chip.getAt_eventFirst (c : Chip) (src ev sev unit : Nat) (params : List Nat) {a item : Nat} (h : a ∉ eventMeters) :
    (c.eventFirst src ev sev unit params).getAt a item = c.getAt a item := by
  unfold Chip.eventFirst
  split
  · exact Chip.getAt_event _ _ _ _ _ _ h
  · rfl

/-! ### The end of a command -/

/-- Ending a command changes the commands and the ledger of work only. -/
theorem Chip.finish_frame (c : Chip) (h status dw0 dw1 : Nat) :
    ∃ k u, c.finish h status dw0 dw1 = { c with cmds := k, um := u } := by
  unfold Chip.finish
  split
  · exact ⟨_, _, rfl⟩
  · dsimp only
    split <;> exact ⟨_, _, rfl⟩

section finish
variable (c : Chip) (h status dw0 dw1 : Nat)
@[simp] theorem Chip.finish_now : (c.finish h status dw0 dw1).now = c.now := by
  obtain ⟨k, u, h⟩ := c.finish_frame h status dw0 dw1; rw [h]
@[simp] theorem Chip.finish_fuse : (c.finish h status dw0 dw1).fuse = c.fuse := by
  obtain ⟨k, u, h⟩ := c.finish_frame h status dw0 dw1; rw [h]
@[simp] theorem Chip.finish_boot : (c.finish h status dw0 dw1).boot = c.boot := by
  obtain ⟨k, u, h⟩ := c.finish_frame h status dw0 dw1; rw [h]
@[simp] theorem Chip.finish_dict : (c.finish h status dw0 dw1).dict = c.dict := by
  obtain ⟨k, u, h⟩ := c.finish_frame h status dw0 dw1; rw [h]
@[simp] theorem Chip.finish_ev : (c.finish h status dw0 dw1).ev = c.ev := by
  obtain ⟨k, u, h⟩ := c.finish_frame h status dw0 dw1; rw [h]
@[simp] theorem Chip.finish_un : (c.finish h status dw0 dw1).un = c.un := by
  obtain ⟨k, u, h⟩ := c.finish_frame h status dw0 dw1; rw [h]
@[simp] theorem Chip.finish_fns : (c.finish h status dw0 dw1).fns = c.fns := by
  obtain ⟨k, u, h⟩ := c.finish_frame h status dw0 dw1; rw [h]
@[simp] theorem Chip.finish_ports : (c.finish h status dw0 dw1).ports = c.ports := by
  obtain ⟨k, u, h⟩ := c.finish_frame h status dw0 dw1; rw [h]
@[simp] theorem Chip.finish_qs : (c.finish h status dw0 dw1).qs = c.qs := by
  obtain ⟨k, u, h⟩ := c.finish_frame h status dw0 dw1; rw [h]
@[simp] theorem Chip.finish_nextH : (c.finish h status dw0 dw1).nextH = c.nextH := by
  obtain ⟨k, u, h⟩ := c.finish_frame h status dw0 dw1; rw [h]
@[simp] theorem Chip.finish_lk : (c.finish h status dw0 dw1).lk = c.lk := by
  obtain ⟨k, u, h⟩ := c.finish_frame h status dw0 dw1; rw [h]
@[simp] theorem Chip.finish_ft : (c.finish h status dw0 dw1).ft = c.ft := by
  obtain ⟨k, u, h⟩ := c.finish_frame h status dw0 dw1; rw [h]
@[simp] theorem Chip.finish_sb : (c.finish h status dw0 dw1).sb = c.sb := by
  obtain ⟨k, u, h⟩ := c.finish_frame h status dw0 dw1; rw [h]
@[simp] theorem Chip.finish_md : (c.finish h status dw0 dw1).md = c.md := by
  obtain ⟨k, u, h⟩ := c.finish_frame h status dw0 dw1; rw [h]
@[simp] theorem Chip.finish_rd : (c.finish h status dw0 dw1).rd = c.rd := by
  obtain ⟨k, u, h⟩ := c.finish_frame h status dw0 dw1; rw [h]
@[simp] theorem Chip.finish_lost : (c.finish h status dw0 dw1).lost = c.lost := by
  obtain ⟨k, u, h⟩ := c.finish_frame h status dw0 dw1; rw [h]
@[simp] theorem Chip.finish_st : (c.finish h status dw0 dw1).st = c.st := by
  obtain ⟨k, u, h⟩ := c.finish_frame h status dw0 dw1; rw [h]
@[simp] theorem Chip.finish_book : (c.finish h status dw0 dw1).book = c.book := by
  obtain ⟨k, u, h⟩ := c.finish_frame h status dw0 dw1; rw [h]
@[simp] theorem Chip.finish_wins : (c.finish h status dw0 dw1).wins = c.wins := by
  obtain ⟨k, u, h⟩ := c.finish_frame h status dw0 dw1; rw [h]
@[simp] theorem Chip.finish_pr : (c.finish h status dw0 dw1).pr = c.pr := by
  obtain ⟨k, u, h⟩ := c.finish_frame h status dw0 dw1; rw [h]
@[simp] theorem Chip.finish_mg : (c.finish h status dw0 dw1).mg = c.mg := by
  obtain ⟨k, u, h⟩ := c.finish_frame h status dw0 dw1; rw [h]
@[simp] theorem Chip.finish_pm : (c.finish h status dw0 dw1).pm = c.pm := by
  obtain ⟨k, u, h⟩ := c.finish_frame h status dw0 dw1; rw [h]
@[simp] theorem Chip.finish_th : (c.finish h status dw0 dw1).th = c.th := by
  obtain ⟨k, u, h⟩ := c.finish_frame h status dw0 dw1; rw [h]
@[simp] theorem Chip.finish_fw : (c.finish h status dw0 dw1).fw = c.fw := by
  obtain ⟨k, u, h⟩ := c.finish_frame h status dw0 dw1; rw [h]
@[simp] theorem Chip.finish_lg : (c.finish h status dw0 dw1).lg = c.lg := by
  obtain ⟨k, u, h⟩ := c.finish_frame h status dw0 dw1; rw [h]
@[simp] theorem Chip.finish_rnd : (c.finish h status dw0 dw1).rnd = c.rnd := by
  obtain ⟨k, u, h⟩ := c.finish_frame h status dw0 dw1; rw [h]
@[simp] theorem Chip.finish_free : (c.finish h status dw0 dw1).free = c.free := by
  obtain ⟨k, u, h⟩ := c.finish_frame h status dw0 dw1; rw [h]
@[simp] theorem Chip.finish_out : (c.finish h status dw0 dw1).out = c.out := by
  obtain ⟨k, u, h⟩ := c.finish_frame h status dw0 dw1; rw [h]
end finish


/-- The command has its status, and waits to be posted. -/
theorem Chip.cmd_finish_same (c : Chip) {h status dw0 dw1 : Nat} {x : Cmd} (hx : c.cmd h = some x) (hs : x.silent = false)
    (hp : x.posted = false) : (c.finish h status dw0 dw1).cmd h =
      some { x with phase := .ended, status := status, dw0 := dw0, dw1 := dw1, credits := 0, order := c.nextOrder } := by
  have he := Chip.cmd_h hx
  unfold Chip.finish
  simp only [hx]
  rw [if_neg (by simp [hs, hp]), show (c.releaseWork h).nextOrder = c.nextOrder from rfl]
  have hr : (c.releaseWork h).cmd x.h = some x := by rw [he]; exact hx
  have := Chip.cmd_setCmd_same (c := c.releaseWork h)
    (x := { x with phase := .ended, status := status, dw0 := dw0, dw1 := dw1, credits := 0, order := c.nextOrder }) (y := x) hr
  simpa only [he] using this

/-- Another command is left alone. -/
theorem Chip.cmd_finish_ne (c : Chip) {h k status dw0 dw1 : Nat} (hn : h ≠ k) : (c.finish h status dw0 dw1).cmd k = c.cmd k := by
  unfold Chip.finish
  split
  · rfl
  · next x hx =>
    have he := Chip.cmd_h hx
    dsimp only
    split
    · rw [Chip.cmd_dropCmd_ne _ hn]; rfl
    · rw [Chip.cmd_setCmd_ne _ _ (by simpa [he] using hn)]; rfl

/-! ### Asynchronous Events -/

/-- An Asynchronous Event changes functions, commands and the ledger only. -/
theorem Chip.raiseAe_frame (c : Chip) (port fn type info page : Nat) :
    ∃ k u f, c.raiseAe port fn type info page = { c with cmds := k, um := u, fns := f } := by
  unfold Chip.raiseAe
  dsimp only
  split
  · exact ⟨_, _, _, rfl⟩
  · split
    · exact ⟨_, _, _, rfl⟩
    · obtain ⟨k, u, h⟩ := Chip.finish_frame (c.setFn _) _ stOk (type + at' info 8 + at' page 16) 0
      exact ⟨k, u, _, h⟩

theorem Chip.each_frame {α : Type} (P : Chip → Chip → Prop) (hr : ∀ c, P c c) (ht : ∀ a b d, P a b → P b d → P a d)
    (f : Chip → α → Chip) (hf : ∀ c x, P c (f c x)) (l : List α) (c : Chip) : P c (c.each l f) := by
  induction l generalizing c with
  | nil => exact hr c
  | cons x r ih => exact ht _ _ _ (hf c x) (ih (f c x))

theorem Chip.raiseAeAll_frame (c : Chip) (type info page : Nat) :
    ∃ k u f, c.raiseAeAll type info page = { c with cmds := k, um := u, fns := f } := by
  unfold Chip.raiseAeAll
  refine Chip.each_frame (fun a b => ∃ k u f, b = { a with cmds := k, um := u, fns := f }) (fun c => ⟨_, _, _, rfl⟩)
    ?_ (fun c (f : Fn) => c.raiseAe f.port f.fn type info page) (fun c f => c.raiseAe_frame f.port f.fn type info page) _ c
  rintro a _ _ ⟨k, u, f, rfl⟩ ⟨k', u', f', rfl⟩
  exact ⟨_, _, _, rfl⟩

section raiseAe
variable (c : Chip) (port fn type info page : Nat)
@[simp] theorem Chip.raiseAe_now : (c.raiseAe port fn type info page).now = c.now := by
  obtain ⟨k, u, f, h⟩ := c.raiseAe_frame port fn type info page; rw [h]
@[simp] theorem Chip.raiseAe_fuse : (c.raiseAe port fn type info page).fuse = c.fuse := by
  obtain ⟨k, u, f, h⟩ := c.raiseAe_frame port fn type info page; rw [h]
@[simp] theorem Chip.raiseAe_boot : (c.raiseAe port fn type info page).boot = c.boot := by
  obtain ⟨k, u, f, h⟩ := c.raiseAe_frame port fn type info page; rw [h]
@[simp] theorem Chip.raiseAe_dict : (c.raiseAe port fn type info page).dict = c.dict := by
  obtain ⟨k, u, f, h⟩ := c.raiseAe_frame port fn type info page; rw [h]
@[simp] theorem Chip.raiseAe_ev : (c.raiseAe port fn type info page).ev = c.ev := by
  obtain ⟨k, u, f, h⟩ := c.raiseAe_frame port fn type info page; rw [h]
@[simp] theorem Chip.raiseAe_un : (c.raiseAe port fn type info page).un = c.un := by
  obtain ⟨k, u, f, h⟩ := c.raiseAe_frame port fn type info page; rw [h]
@[simp] theorem Chip.raiseAe_ports : (c.raiseAe port fn type info page).ports = c.ports := by
  obtain ⟨k, u, f, h⟩ := c.raiseAe_frame port fn type info page; rw [h]
@[simp] theorem Chip.raiseAe_qs : (c.raiseAe port fn type info page).qs = c.qs := by
  obtain ⟨k, u, f, h⟩ := c.raiseAe_frame port fn type info page; rw [h]
@[simp] theorem Chip.raiseAe_nextH : (c.raiseAe port fn type info page).nextH = c.nextH := by
  obtain ⟨k, u, f, h⟩ := c.raiseAe_frame port fn type info page; rw [h]
@[simp] theorem Chip.raiseAe_lk : (c.raiseAe port fn type info page).lk = c.lk := by
  obtain ⟨k, u, f, h⟩ := c.raiseAe_frame port fn type info page; rw [h]
@[simp] theorem Chip.raiseAe_ft : (c.raiseAe port fn type info page).ft = c.ft := by
  obtain ⟨k, u, f, h⟩ := c.raiseAe_frame port fn type info page; rw [h]
@[simp] theorem Chip.raiseAe_sb : (c.raiseAe port fn type info page).sb = c.sb := by
  obtain ⟨k, u, f, h⟩ := c.raiseAe_frame port fn type info page; rw [h]
@[simp] theorem Chip.raiseAe_md : (c.raiseAe port fn type info page).md = c.md := by
  obtain ⟨k, u, f, h⟩ := c.raiseAe_frame port fn type info page; rw [h]
@[simp] theorem Chip.raiseAe_rd : (c.raiseAe port fn type info page).rd = c.rd := by
  obtain ⟨k, u, f, h⟩ := c.raiseAe_frame port fn type info page; rw [h]
@[simp] theorem Chip.raiseAe_lost : (c.raiseAe port fn type info page).lost = c.lost := by
  obtain ⟨k, u, f, h⟩ := c.raiseAe_frame port fn type info page; rw [h]
@[simp] theorem Chip.raiseAe_st : (c.raiseAe port fn type info page).st = c.st := by
  obtain ⟨k, u, f, h⟩ := c.raiseAe_frame port fn type info page; rw [h]
@[simp] theorem Chip.raiseAe_book : (c.raiseAe port fn type info page).book = c.book := by
  obtain ⟨k, u, f, h⟩ := c.raiseAe_frame port fn type info page; rw [h]
@[simp] theorem Chip.raiseAe_wins : (c.raiseAe port fn type info page).wins = c.wins := by
  obtain ⟨k, u, f, h⟩ := c.raiseAe_frame port fn type info page; rw [h]
@[simp] theorem Chip.raiseAe_pr : (c.raiseAe port fn type info page).pr = c.pr := by
  obtain ⟨k, u, f, h⟩ := c.raiseAe_frame port fn type info page; rw [h]
@[simp] theorem Chip.raiseAe_mg : (c.raiseAe port fn type info page).mg = c.mg := by
  obtain ⟨k, u, f, h⟩ := c.raiseAe_frame port fn type info page; rw [h]
@[simp] theorem Chip.raiseAe_pm : (c.raiseAe port fn type info page).pm = c.pm := by
  obtain ⟨k, u, f, h⟩ := c.raiseAe_frame port fn type info page; rw [h]
@[simp] theorem Chip.raiseAe_th : (c.raiseAe port fn type info page).th = c.th := by
  obtain ⟨k, u, f, h⟩ := c.raiseAe_frame port fn type info page; rw [h]
@[simp] theorem Chip.raiseAe_fw : (c.raiseAe port fn type info page).fw = c.fw := by
  obtain ⟨k, u, f, h⟩ := c.raiseAe_frame port fn type info page; rw [h]
@[simp] theorem Chip.raiseAe_lg : (c.raiseAe port fn type info page).lg = c.lg := by
  obtain ⟨k, u, f, h⟩ := c.raiseAe_frame port fn type info page; rw [h]
@[simp] theorem Chip.raiseAe_rnd : (c.raiseAe port fn type info page).rnd = c.rnd := by
  obtain ⟨k, u, f, h⟩ := c.raiseAe_frame port fn type info page; rw [h]
@[simp] theorem Chip.raiseAe_free : (c.raiseAe port fn type info page).free = c.free := by
  obtain ⟨k, u, f, h⟩ := c.raiseAe_frame port fn type info page; rw [h]
@[simp] theorem Chip.raiseAe_out : (c.raiseAe port fn type info page).out = c.out := by
  obtain ⟨k, u, f, h⟩ := c.raiseAe_frame port fn type info page; rw [h]
end raiseAe

section raiseAeAll
variable (c : Chip) (type info page : Nat)
@[simp] theorem Chip.raiseAeAll_now : (c.raiseAeAll type info page).now = c.now := by
  obtain ⟨k, u, f, h⟩ := c.raiseAeAll_frame type info page; rw [h]
@[simp] theorem Chip.raiseAeAll_fuse : (c.raiseAeAll type info page).fuse = c.fuse := by
  obtain ⟨k, u, f, h⟩ := c.raiseAeAll_frame type info page; rw [h]
@[simp] theorem Chip.raiseAeAll_boot : (c.raiseAeAll type info page).boot = c.boot := by
  obtain ⟨k, u, f, h⟩ := c.raiseAeAll_frame type info page; rw [h]
@[simp] theorem Chip.raiseAeAll_dict : (c.raiseAeAll type info page).dict = c.dict := by
  obtain ⟨k, u, f, h⟩ := c.raiseAeAll_frame type info page; rw [h]
@[simp] theorem Chip.raiseAeAll_ev : (c.raiseAeAll type info page).ev = c.ev := by
  obtain ⟨k, u, f, h⟩ := c.raiseAeAll_frame type info page; rw [h]
@[simp] theorem Chip.raiseAeAll_un : (c.raiseAeAll type info page).un = c.un := by
  obtain ⟨k, u, f, h⟩ := c.raiseAeAll_frame type info page; rw [h]
@[simp] theorem Chip.raiseAeAll_ports : (c.raiseAeAll type info page).ports = c.ports := by
  obtain ⟨k, u, f, h⟩ := c.raiseAeAll_frame type info page; rw [h]
@[simp] theorem Chip.raiseAeAll_qs : (c.raiseAeAll type info page).qs = c.qs := by
  obtain ⟨k, u, f, h⟩ := c.raiseAeAll_frame type info page; rw [h]
@[simp] theorem Chip.raiseAeAll_nextH : (c.raiseAeAll type info page).nextH = c.nextH := by
  obtain ⟨k, u, f, h⟩ := c.raiseAeAll_frame type info page; rw [h]
@[simp] theorem Chip.raiseAeAll_lk : (c.raiseAeAll type info page).lk = c.lk := by
  obtain ⟨k, u, f, h⟩ := c.raiseAeAll_frame type info page; rw [h]
@[simp] theorem Chip.raiseAeAll_ft : (c.raiseAeAll type info page).ft = c.ft := by
  obtain ⟨k, u, f, h⟩ := c.raiseAeAll_frame type info page; rw [h]
@[simp] theorem Chip.raiseAeAll_sb : (c.raiseAeAll type info page).sb = c.sb := by
  obtain ⟨k, u, f, h⟩ := c.raiseAeAll_frame type info page; rw [h]
@[simp] theorem Chip.raiseAeAll_md : (c.raiseAeAll type info page).md = c.md := by
  obtain ⟨k, u, f, h⟩ := c.raiseAeAll_frame type info page; rw [h]
@[simp] theorem Chip.raiseAeAll_rd : (c.raiseAeAll type info page).rd = c.rd := by
  obtain ⟨k, u, f, h⟩ := c.raiseAeAll_frame type info page; rw [h]
@[simp] theorem Chip.raiseAeAll_lost : (c.raiseAeAll type info page).lost = c.lost := by
  obtain ⟨k, u, f, h⟩ := c.raiseAeAll_frame type info page; rw [h]
@[simp] theorem Chip.raiseAeAll_st : (c.raiseAeAll type info page).st = c.st := by
  obtain ⟨k, u, f, h⟩ := c.raiseAeAll_frame type info page; rw [h]
@[simp] theorem Chip.raiseAeAll_book : (c.raiseAeAll type info page).book = c.book := by
  obtain ⟨k, u, f, h⟩ := c.raiseAeAll_frame type info page; rw [h]
@[simp] theorem Chip.raiseAeAll_wins : (c.raiseAeAll type info page).wins = c.wins := by
  obtain ⟨k, u, f, h⟩ := c.raiseAeAll_frame type info page; rw [h]
@[simp] theorem Chip.raiseAeAll_pr : (c.raiseAeAll type info page).pr = c.pr := by
  obtain ⟨k, u, f, h⟩ := c.raiseAeAll_frame type info page; rw [h]
@[simp] theorem Chip.raiseAeAll_mg : (c.raiseAeAll type info page).mg = c.mg := by
  obtain ⟨k, u, f, h⟩ := c.raiseAeAll_frame type info page; rw [h]
@[simp] theorem Chip.raiseAeAll_pm : (c.raiseAeAll type info page).pm = c.pm := by
  obtain ⟨k, u, f, h⟩ := c.raiseAeAll_frame type info page; rw [h]
@[simp] theorem Chip.raiseAeAll_th : (c.raiseAeAll type info page).th = c.th := by
  obtain ⟨k, u, f, h⟩ := c.raiseAeAll_frame type info page; rw [h]
@[simp] theorem Chip.raiseAeAll_fw : (c.raiseAeAll type info page).fw = c.fw := by
  obtain ⟨k, u, f, h⟩ := c.raiseAeAll_frame type info page; rw [h]
@[simp] theorem Chip.raiseAeAll_lg : (c.raiseAeAll type info page).lg = c.lg := by
  obtain ⟨k, u, f, h⟩ := c.raiseAeAll_frame type info page; rw [h]
@[simp] theorem Chip.raiseAeAll_rnd : (c.raiseAeAll type info page).rnd = c.rnd := by
  obtain ⟨k, u, f, h⟩ := c.raiseAeAll_frame type info page; rw [h]
@[simp] theorem Chip.raiseAeAll_free : (c.raiseAeAll type info page).free = c.free := by
  obtain ⟨k, u, f, h⟩ := c.raiseAeAll_frame type info page; rw [h]
@[simp] theorem Chip.raiseAeAll_out : (c.raiseAeAll type info page).out = c.out := by
  obtain ⟨k, u, f, h⟩ := c.raiseAeAll_frame type info page; rw [h]
end raiseAeAll


theorem mem_upsert {α : Type} {p : α → Bool} {x a : α} {l : List α} (h : a ∈ upsert p x l) : a = x ∨ a ∈ l := by
  induction l with
  | nil => exact .inl (by simpa [upsert] using h)
  | cons b r ih =>
    unfold upsert at h
    split at h
    · rcases List.mem_cons.1 h with h | h
      · exact .inl h
      · exact .inr (by simp [h])
    · rcases List.mem_cons.1 h with h | h
      · exact .inr (by simp [h])
      · rcases ih h with h | h
        · exact .inl h
        · exact .inr (by simp [h])

theorem Chip.notHeld_fnOf {c : Chip} {h : Nat} (hc : c.notHeld h) (p k : Nat) : h ∉ (c.fnOf p k).aers := by
  unfold Chip.fnOf
  split
  · next f hf => exact hc f (List.mem_of_find?_eq_some hf)
  · simp [Fn.initial]

theorem Chip.notHeld_setFn {c : Chip} {h : Nat} {f : Fn} (hc : c.notHeld h) (hf : h ∉ f.aers) : (c.setFn f).notHeld h := by
  intro g hg
  rcases mem_upsert hg with rfl | hg
  · exact hf
  · exact hc g hg

theorem Chip.raiseAe_keeps {c : Chip} {k : Nat} (hc : c.notHeld k) (port fn type info page : Nat) :
    (c.raiseAe port fn type info page).notHeld k ∧ (c.raiseAe port fn type info page).cmd k = c.cmd k := by
  have hf := Chip.notHeld_fnOf hc port fn
  unfold Chip.raiseAe
  dsimp only
  split
  · exact ⟨hc, rfl⟩
  · split
    · next he => exact ⟨Chip.notHeld_setFn hc hf, rfl⟩
    · next h r he =>
      rw [he] at hf
      simp only [List.mem_cons, not_or] at hf
      refine ⟨?_, ?_⟩
      · intro g hg
        rw [Chip.finish_fns] at hg
        exact Chip.notHeld_setFn hc (by exact hf.2) g hg
      · rw [Chip.cmd_finish_ne _ (Ne.symm hf.1)]; rfl

theorem Chip.raiseAeAll_keeps {c : Chip} {k : Nat} (hc : c.notHeld k) (type info page : Nat) :
    (c.raiseAeAll type info page).notHeld k ∧ (c.raiseAeAll type info page).cmd k = c.cmd k := by
  unfold Chip.raiseAeAll
  exact Chip.each_frame (fun a b => a.notHeld k → b.notHeld k ∧ b.cmd k = a.cmd k) (fun c h => ⟨h, rfl⟩)
    (fun a b d h1 h2 h => ⟨(h2 (h1 h).1).1, (h2 (h1 h).1).2.trans (h1 h).2⟩) (fun c (f : Fn) => c.raiseAe f.port f.fn type info page)
    (fun c f h => Chip.raiseAe_keeps h _ _ _ _ _) _ c hc


/-! ### What an update leaves of each lookup -/

section setAt
variable (c : Chip) (a item v : Nat)
@[simp] theorem Chip.cmd_setAt (k : Nat) : (c.setAt a item v).cmd k = c.cmd k := Chip.cmd_congr (by simp) k
@[simp] theorem Chip.fnOf_setAt (p k : Nat) : (c.setAt a item v).fnOf p k = c.fnOf p k := Chip.fnOf_congr (by simp) p k
@[simp] theorem Chip.notHeld_setAt (k : Nat) : (c.setAt a item v).notHeld k ↔ c.notHeld k := by unfold Chip.notHeld; simp
@[simp] theorem Chip.portOf_setAt (k : Nat) : (c.setAt a item v).portOf k = c.portOf k := Chip.portOf_congr (by simp) k
end setAt

section emit
variable (c : Chip) (o : Out)
@[simp] theorem Chip.cmd_emit (k : Nat) : (c.emit o).cmd k = c.cmd k := Chip.cmd_congr (by simp) k
@[simp] theorem Chip.fnOf_emit (p k : Nat) : (c.emit o).fnOf p k = c.fnOf p k := Chip.fnOf_congr (by simp) p k
@[simp] theorem Chip.notHeld_emit (k : Nat) : (c.emit o).notHeld k ↔ c.notHeld k := by unfold Chip.notHeld; simp
@[simp] theorem Chip.portOf_emit (k : Nat) : (c.emit o).portOf k = c.portOf k := Chip.portOf_congr (by simp) k
@[simp] theorem Chip.getAt_emit (e i : Nat) : (c.emit o).getAt e i = c.getAt e i := Chip.getAt_congr (by simp) e i
end emit

section setCmd
variable (c : Chip) (x : Cmd)
@[simp] theorem Chip.fnOf_setCmd (p k : Nat) : (c.setCmd x).fnOf p k = c.fnOf p k := Chip.fnOf_congr (by simp) p k
@[simp] theorem Chip.notHeld_setCmd (k : Nat) : (c.setCmd x).notHeld k ↔ c.notHeld k := by unfold Chip.notHeld; simp
@[simp] theorem Chip.portOf_setCmd (k : Nat) : (c.setCmd x).portOf k = c.portOf k := Chip.portOf_congr (by simp) k
@[simp] theorem Chip.getAt_setCmd (e i : Nat) : (c.setCmd x).getAt e i = c.getAt e i := Chip.getAt_congr (by simp) e i
end setCmd

section dropCmd
variable (c : Chip) (h : Nat)
@[simp] theorem Chip.fnOf_dropCmd (p k : Nat) : (c.dropCmd h).fnOf p k = c.fnOf p k := Chip.fnOf_congr (by simp) p k
@[simp] theorem Chip.notHeld_dropCmd (k : Nat) : (c.dropCmd h).notHeld k ↔ c.notHeld k := by unfold Chip.notHeld; simp
@[simp] theorem Chip.portOf_dropCmd (k : Nat) : (c.dropCmd h).portOf k = c.portOf k := Chip.portOf_congr (by simp) k
@[simp] theorem Chip.getAt_dropCmd (e i : Nat) : (c.dropCmd h).getAt e i = c.getAt e i := Chip.getAt_congr (by simp) e i
end dropCmd

section setFn
variable (c : Chip) (f : Fn)
@[simp] theorem Chip.cmd_setFn (k : Nat) : (c.setFn f).cmd k = c.cmd k := Chip.cmd_congr (by simp) k
@[simp] theorem Chip.portOf_setFn (k : Nat) : (c.setFn f).portOf k = c.portOf k := Chip.portOf_congr (by simp) k
@[simp] theorem Chip.getAt_setFn (e i : Nat) : (c.setFn f).getAt e i = c.getAt e i := Chip.getAt_congr (by simp) e i
end setFn

section setPort
variable (c : Chip) (q : Port)
@[simp] theorem Chip.cmd_setPort (k : Nat) : (c.setPort q).cmd k = c.cmd k := Chip.cmd_congr (by simp) k
@[simp] theorem Chip.fnOf_setPort (p k : Nat) : (c.setPort q).fnOf p k = c.fnOf p k := Chip.fnOf_congr (by simp) p k
@[simp] theorem Chip.notHeld_setPort (k : Nat) : (c.setPort q).notHeld k ↔ c.notHeld k := by unfold Chip.notHeld; simp
@[simp] theorem Chip.getAt_setPort (e i : Nat) : (c.setPort q).getAt e i = c.getAt e i := Chip.getAt_congr (by simp) e i
end setPort

section unlock
variable (c : Chip) (h : Nat)
@[simp] theorem Chip.cmd_unlock (k : Nat) : (c.unlock h).cmd k = c.cmd k := Chip.cmd_congr (by simp) k
@[simp] theorem Chip.fnOf_unlock (p k : Nat) : (c.unlock h).fnOf p k = c.fnOf p k := Chip.fnOf_congr (by simp) p k
@[simp] theorem Chip.notHeld_unlock (k : Nat) : (c.unlock h).notHeld k ↔ c.notHeld k := by unfold Chip.notHeld; simp
@[simp] theorem Chip.portOf_unlock (k : Nat) : (c.unlock h).portOf k = c.portOf k := Chip.portOf_congr (by simp) k
@[simp] theorem Chip.getAt_unlock (e i : Nat) : (c.unlock h).getAt e i = c.getAt e i := Chip.getAt_congr (by simp) e i
end unlock

section setSq
variable (c : Chip) (q : Sq)
@[simp] theorem Chip.cmd_setSq (k : Nat) : (c.setSq q).cmd k = c.cmd k := Chip.cmd_congr (by simp) k
@[simp] theorem Chip.fnOf_setSq (p k : Nat) : (c.setSq q).fnOf p k = c.fnOf p k := Chip.fnOf_congr (by simp) p k
@[simp] theorem Chip.notHeld_setSq (k : Nat) : (c.setSq q).notHeld k ↔ c.notHeld k := by unfold Chip.notHeld; simp
@[simp] theorem Chip.portOf_setSq (k : Nat) : (c.setSq q).portOf k = c.portOf k := Chip.portOf_congr (by simp) k
@[simp] theorem Chip.getAt_setSq (e i : Nat) : (c.setSq q).getAt e i = c.getAt e i := Chip.getAt_congr (by simp) e i
end setSq

section setCq
variable (c : Chip) (q : Cq)
@[simp] theorem Chip.cmd_setCq (k : Nat) : (c.setCq q).cmd k = c.cmd k := Chip.cmd_congr (by simp) k
@[simp] theorem Chip.fnOf_setCq (p k : Nat) : (c.setCq q).fnOf p k = c.fnOf p k := Chip.fnOf_congr (by simp) p k
@[simp] theorem Chip.notHeld_setCq (k : Nat) : (c.setCq q).notHeld k ↔ c.notHeld k := by unfold Chip.notHeld; simp
@[simp] theorem Chip.portOf_setCq (k : Nat) : (c.setCq q).portOf k = c.portOf k := Chip.portOf_congr (by simp) k
@[simp] theorem Chip.getAt_setCq (e i : Nat) : (c.setCq q).getAt e i = c.getAt e i := Chip.getAt_congr (by simp) e i
end setCq

section releaseWork
variable (c : Chip) (h : Nat)
@[simp] theorem Chip.cmd_releaseWork (k : Nat) : (c.releaseWork h).cmd k = c.cmd k := Chip.cmd_congr (by simp) k
@[simp] theorem Chip.fnOf_releaseWork (p k : Nat) : (c.releaseWork h).fnOf p k = c.fnOf p k := Chip.fnOf_congr (by simp) p k
@[simp] theorem Chip.notHeld_releaseWork (k : Nat) : (c.releaseWork h).notHeld k ↔ c.notHeld k := by unfold Chip.notHeld; simp
@[simp] theorem Chip.portOf_releaseWork (k : Nat) : (c.releaseWork h).portOf k = c.portOf k := Chip.portOf_congr (by simp) k
@[simp] theorem Chip.getAt_releaseWork (e i : Nat) : (c.releaseWork h).getAt e i = c.getAt e i := Chip.getAt_congr (by simp) e i
end releaseWork

section countOct
variable (c : Chip) (a item k : Nat)
@[simp] theorem Chip.cmd_countOct (k : Nat) : (c.countOct a item k).cmd k = c.cmd k := Chip.cmd_congr (by simp) k
@[simp] theorem Chip.fnOf_countOct (p k : Nat) : (c.countOct a item k).fnOf p k = c.fnOf p k := Chip.fnOf_congr (by simp) p k
@[simp] theorem Chip.notHeld_countOct (k : Nat) : (c.countOct a item k).notHeld k ↔ c.notHeld k := by unfold Chip.notHeld; simp
@[simp] theorem Chip.portOf_countOct (k : Nat) : (c.countOct a item k).portOf k = c.portOf k := Chip.portOf_congr (by simp) k
end countOct

section countOct64
variable (c : Chip) (a k n : Nat)
@[simp] theorem Chip.cmd_countOct64 (k : Nat) : (c.countOct64 a k n).cmd k = c.cmd k := Chip.cmd_congr (by simp) k
@[simp] theorem Chip.fnOf_countOct64 (p k : Nat) : (c.countOct64 a k n).fnOf p k = c.fnOf p k := Chip.fnOf_congr (by simp) p k
@[simp] theorem Chip.notHeld_countOct64 (k : Nat) : (c.countOct64 a k n).notHeld k ↔ c.notHeld k := by unfold Chip.notHeld; simp
@[simp] theorem Chip.portOf_countOct64 (k : Nat) : (c.countOct64 a k n).portOf k = c.portOf k := Chip.portOf_congr (by simp) k
end countOct64

section atTime
variable (c : Chip) (t : Nat)
@[simp] theorem Chip.cmd_atTime (k : Nat) : (c.atTime t).cmd k = c.cmd k := Chip.cmd_congr (by simp) k
@[simp] theorem Chip.fnOf_atTime (p k : Nat) : (c.atTime t).fnOf p k = c.fnOf p k := Chip.fnOf_congr (by simp) p k
@[simp] theorem Chip.notHeld_atTime (k : Nat) : (c.atTime t).notHeld k ↔ c.notHeld k := by unfold Chip.notHeld; simp
@[simp] theorem Chip.portOf_atTime (k : Nat) : (c.atTime t).portOf k = c.portOf k := Chip.portOf_congr (by simp) k
@[simp] theorem Chip.getAt_atTime (e i : Nat) : (c.atTime t).getAt e i = c.getAt e i := Chip.getAt_congr (by simp) e i
end atTime

section setSb
variable (c : Chip) (q : Sb)
@[simp] theorem Chip.cmd_setSb (k : Nat) : (c.setSb q).cmd k = c.cmd k := Chip.cmd_congr (by simp) k
@[simp] theorem Chip.fnOf_setSb (p k : Nat) : (c.setSb q).fnOf p k = c.fnOf p k := Chip.fnOf_congr (by simp) p k
@[simp] theorem Chip.notHeld_setSb (k : Nat) : (c.setSb q).notHeld k ↔ c.notHeld k := by unfold Chip.notHeld; simp
@[simp] theorem Chip.portOf_setSb (k : Nat) : (c.setSb q).portOf k = c.portOf k := Chip.portOf_congr (by simp) k
@[simp] theorem Chip.getAt_setSb (e i : Nat) : (c.setSb q).getAt e i = c.getAt e i := Chip.getAt_congr (by simp) e i
end setSb

section setDie
variable (c : Chip) (d : Die)
@[simp] theorem Chip.cmd_setDie (k : Nat) : (c.setDie d).cmd k = c.cmd k := Chip.cmd_congr (by simp) k
@[simp] theorem Chip.fnOf_setDie (p k : Nat) : (c.setDie d).fnOf p k = c.fnOf p k := Chip.fnOf_congr (by simp) p k
@[simp] theorem Chip.notHeld_setDie (k : Nat) : (c.setDie d).notHeld k ↔ c.notHeld k := by unfold Chip.notHeld; simp
@[simp] theorem Chip.portOf_setDie (k : Nat) : (c.setDie d).portOf k = c.portOf k := Chip.portOf_congr (by simp) k
@[simp] theorem Chip.getAt_setDie (e i : Nat) : (c.setDie d).getAt e i = c.getAt e i := Chip.getAt_congr (by simp) e i
end setDie

section clearPending
variable (c : Chip) (h : Nat)
@[simp] theorem Chip.cmd_clearPending (k : Nat) : (c.clearPending h).cmd k = c.cmd k := Chip.cmd_congr (by simp) k
@[simp] theorem Chip.fnOf_clearPending (p k : Nat) : (c.clearPending h).fnOf p k = c.fnOf p k := Chip.fnOf_congr (by simp) p k
@[simp] theorem Chip.notHeld_clearPending (k : Nat) : (c.clearPending h).notHeld k ↔ c.notHeld k := by unfold Chip.notHeld; simp
@[simp] theorem Chip.portOf_clearPending (k : Nat) : (c.clearPending h).portOf k = c.portOf k := Chip.portOf_congr (by simp) k
@[simp] theorem Chip.getAt_clearPending (e i : Nat) : (c.clearPending h).getAt e i = c.getAt e i := Chip.getAt_congr (by simp) e i
end clearPending

section dropTasks
variable (c : Chip) (h : Nat)
@[simp] theorem Chip.cmd_dropTasks (k : Nat) : (c.dropTasks h).cmd k = c.cmd k := Chip.cmd_congr (by simp) k
@[simp] theorem Chip.fnOf_dropTasks (p k : Nat) : (c.dropTasks h).fnOf p k = c.fnOf p k := Chip.fnOf_congr (by simp) p k
@[simp] theorem Chip.notHeld_dropTasks (k : Nat) : (c.dropTasks h).notHeld k ↔ c.notHeld k := by unfold Chip.notHeld; simp
@[simp] theorem Chip.portOf_dropTasks (k : Nat) : (c.dropTasks h).portOf k = c.portOf k := Chip.portOf_congr (by simp) k
@[simp] theorem Chip.getAt_dropTasks (e i : Nat) : (c.dropTasks h).getAt e i = c.getAt e i := Chip.getAt_congr (by simp) e i
end dropTasks

section countAt
variable (c : Chip) (a item n : Nat)
@[simp] theorem Chip.cmd_countAt (k : Nat) : (c.countAt a item n).cmd k = c.cmd k := Chip.cmd_congr (by simp) k
@[simp] theorem Chip.fnOf_countAt (p k : Nat) : (c.countAt a item n).fnOf p k = c.fnOf p k := Chip.fnOf_congr (by simp) p k
@[simp] theorem Chip.notHeld_countAt (k : Nat) : (c.countAt a item n).notHeld k ↔ c.notHeld k := by unfold Chip.notHeld; simp
@[simp] theorem Chip.portOf_countAt (k : Nat) : (c.countAt a item n).portOf k = c.portOf k := Chip.portOf_congr (by simp) k
end countAt

section event
variable (c : Chip) (src ev sev unit : Nat) (params : List Nat)
@[simp] theorem Chip.cmd_event (k : Nat) : (c.event src ev sev unit params).cmd k = c.cmd k := Chip.cmd_congr (by simp) k
@[simp] theorem Chip.fnOf_event (p k : Nat) : (c.event src ev sev unit params).fnOf p k = c.fnOf p k := Chip.fnOf_congr (by simp) p k
@[simp] theorem Chip.notHeld_event (k : Nat) : (c.event src ev sev unit params).notHeld k ↔ c.notHeld k := by unfold Chip.notHeld; simp
@[simp] theorem Chip.portOf_event (k : Nat) : (c.event src ev sev unit params).portOf k = c.portOf k := Chip.portOf_congr (by simp) k
end event

section eventFirst
variable (c : Chip) (src ev sev unit : Nat) (params : List Nat)
@[simp] theorem Chip.cmd_eventFirst (k : Nat) : (c.eventFirst src ev sev unit params).cmd k = c.cmd k := Chip.cmd_congr (by simp) k
@[simp] theorem Chip.fnOf_eventFirst (p k : Nat) : (c.eventFirst src ev sev unit params).fnOf p k = c.fnOf p k := Chip.fnOf_congr (by simp) p k
@[simp] theorem Chip.notHeld_eventFirst (k : Nat) : (c.eventFirst src ev sev unit params).notHeld k ↔ c.notHeld k := by unfold Chip.notHeld; simp
@[simp] theorem Chip.portOf_eventFirst (k : Nat) : (c.eventFirst src ev sev unit params).portOf k = c.portOf k := Chip.portOf_congr (by simp) k
end eventFirst

section finish
variable (c : Chip) (h status dw0 dw1 : Nat)
@[simp] theorem Chip.fnOf_finish (p k : Nat) : (c.finish h status dw0 dw1).fnOf p k = c.fnOf p k := Chip.fnOf_congr (by simp) p k
@[simp] theorem Chip.notHeld_finish (k : Nat) : (c.finish h status dw0 dw1).notHeld k ↔ c.notHeld k := by unfold Chip.notHeld; simp
@[simp] theorem Chip.portOf_finish (k : Nat) : (c.finish h status dw0 dw1).portOf k = c.portOf k := Chip.portOf_congr (by simp) k
@[simp] theorem Chip.getAt_finish (e i : Nat) : (c.finish h status dw0 dw1).getAt e i = c.getAt e i := Chip.getAt_congr (by simp) e i
end finish

section raiseAe
variable (c : Chip) (port fn type info page : Nat)
@[simp] theorem Chip.portOf_raiseAe (k : Nat) : (c.raiseAe port fn type info page).portOf k = c.portOf k := Chip.portOf_congr (by simp) k
@[simp] theorem Chip.getAt_raiseAe (e i : Nat) : (c.raiseAe port fn type info page).getAt e i = c.getAt e i := Chip.getAt_congr (by simp) e i
end raiseAe

section raiseAeAll
variable (c : Chip) (type info page : Nat)
@[simp] theorem Chip.portOf_raiseAeAll (k : Nat) : (c.raiseAeAll type info page).portOf k = c.portOf k := Chip.portOf_congr (by simp) k
@[simp] theorem Chip.getAt_raiseAeAll (e i : Nat) : (c.raiseAeAll type info page).getAt e i = c.getAt e i := Chip.getAt_congr (by simp) e i
end raiseAeAll

end Sys2Proof.Machine
end

