-- ==== Sys2Proof/Laws/Run.lean ====
section
/-! SUPPORT. The frame of every command: what its notices and the end of the step can change beside its effect. -/
namespace Sys2Proof.Machine

/-! ### Notices -/

/-- Two chips that differ in events, Asynchronous Events and telemetry only. -/
def OnlyNotes (a b : Chip) : Prop :=
  ∃ v e t s k u f, b = { a with dict := { a.dict with vals := v }, ev := e, cmds := k, um := u, fns := f,
                                lg := { a.lg with telemAvail := t, telemCtrl := s } }

theorem OnlyNotes.trans {a b d : Chip} : OnlyNotes a b → OnlyNotes b d → OnlyNotes a d := by
  rintro ⟨v, e, t, s, k, u, f, rfl⟩ ⟨v', e', t', s', k', u', f', rfl⟩; exact ⟨v', e', t', s', k', u', f', rfl⟩

theorem OnlyNotes.refl (a : Chip) : OnlyNotes a a :=
  ⟨a.dict.vals, a.ev, a.lg.telemAvail, a.lg.telemCtrl, a.cmds, a.um, a.fns, rfl⟩

theorem OnlyNotes.ev {a b : Chip} : OnlyEv a b → OnlyNotes a b := by
  rintro ⟨v, e, t, rfl⟩; exact ⟨v, e, t, a.lg.telemCtrl, a.cmds, a.um, a.fns, rfl⟩

theorem OnlyNotes.ae (c : Chip) (type info page : Nat) : OnlyNotes c (c.raiseAeAll type info page) := by
  obtain ⟨k, u, f, h⟩ := c.raiseAeAll_frame type info page
  exact ⟨c.dict.vals, c.ev, c.lg.telemAvail, c.lg.telemCtrl, k, u, f, h⟩

theorem OnlyNotes.telem (c : Chip) (t : Option Telem) : OnlyNotes c { c with lg := { c.lg with telemCtrl := t } } :=
  ⟨c.dict.vals, c.ev, c.lg.telemAvail, t, c.cmds, c.um, c.fns, rfl⟩

theorem OnlyNotes.ite {p : Prop} [Decidable p] {a b d : Chip} (hb : OnlyNotes a b) (hd : OnlyNotes a d) :
    OnlyNotes a (if p then b else d) := by split <;> assumption

theorem OnlyEv.refl (a : Chip) : OnlyEv a a := ⟨a.dict.vals, a.ev, a.lg.telemAvail, rfl⟩

/-- The events of changed units change event records only. -/
theorem Chip.unitNotices_only (before c : Chip) : OnlyEv c (before.unitNotices c) := by
  unfold Chip.unitNotices
  extract_lets own pair
  refine .ite (OnlyEv.refl c) ?_
  unfold Chip.unitEvents
  refine Chip.each_frame OnlyEv OnlyEv.refl (fun _ _ _ h h' => OnlyEv.trans h h') _ (fun d u => ?_) _ c
  exact .ite (OnlyEv.refl d) (.event _ _ _ _ _ _)

theorem Chip.unitNotices_frame (before c : Chip) : ∃ v e a, before.unitNotices c =
    { c with dict := { c.dict with vals := v }, ev := e, lg := { c.lg with telemAvail := a } } := before.unitNotices_only c

@[simp] theorem Chip.unitNotices_cmds (b c : Chip) : (b.unitNotices c).cmds = c.cmds := by
  obtain ⟨v, e, a, h⟩ := b.unitNotices_frame c; rw [h]
@[simp] theorem Chip.unitNotices_fns (b c : Chip) : (b.unitNotices c).fns = c.fns := by
  obtain ⟨v, e, a, h⟩ := b.unitNotices_frame c; rw [h]

theorem Chip.getAt_unitNotices (before c : Chip) {a item : Nat} (h : a ∉ eventMeters) :
    (before.unitNotices c).getAt a item = c.getAt a item := by
  unfold Chip.unitNotices
  extract_lets own pair
  split
  · rfl
  · unfold Chip.unitEvents
    refine Chip.each_frame (fun x y => y.getAt a item = x.getAt a item) (fun _ => rfl) (fun _ _ _ h h' => h'.trans h) _ (fun d u => ?_) _ c
    dsimp only
    split
    · rfl
    · exact Chip.getAt_event _ _ _ _ _ _ h

theorem Chip.notices_only (before c : Chip) : OnlyNotes c (before.notices c) := by
  unfold Chip.notices
  extract_lets cu _ _ c0 c1 low
  have hu : OnlyNotes c cu := .ev (before.unitNotices_only c)
  have h0 : OnlyNotes c c0 := .ite hu (hu.trans ((OnlyNotes.telem cu _).trans (.ae _ _ _ _)))
  have h1 : OnlyNotes c c1 := .ite h0 (OnlyNotes.trans h0 (.ae _ _ _ _))
  exact .ite (h1.trans (.ev (.event _ _ _ _ _ _))) h1

theorem Chip.notices_frame (before c : Chip) :
    ∃ v e t s k u f, before.notices c = { c with dict := { c.dict with vals := v }, ev := e, cmds := k, um := u, fns := f,
                                                 lg := { c.lg with telemAvail := t, telemCtrl := s } } := before.notices_only c

section
variable (b c : Chip)
@[simp] theorem Chip.notices_now : (b.notices c).now = c.now := by
  obtain ⟨v, e, t, s, k, u, f, h⟩ := b.notices_frame c; rw [h]
@[simp] theorem Chip.notices_fuse : (b.notices c).fuse = c.fuse := by
  obtain ⟨v, e, t, s, k, u, f, h⟩ := b.notices_frame c; rw [h]
@[simp] theorem Chip.notices_boot : (b.notices c).boot = c.boot := by
  obtain ⟨v, e, t, s, k, u, f, h⟩ := b.notices_frame c; rw [h]
@[simp] theorem Chip.notices_un : (b.notices c).un = c.un := by
  obtain ⟨v, e, t, s, k, u, f, h⟩ := b.notices_frame c; rw [h]
@[simp] theorem Chip.notices_ports : (b.notices c).ports = c.ports := by
  obtain ⟨v, e, t, s, k, u, f, h⟩ := b.notices_frame c; rw [h]
@[simp] theorem Chip.notices_qs : (b.notices c).qs = c.qs := by
  obtain ⟨v, e, t, s, k, u, f, h⟩ := b.notices_frame c; rw [h]
@[simp] theorem Chip.notices_nextH : (b.notices c).nextH = c.nextH := by
  obtain ⟨v, e, t, s, k, u, f, h⟩ := b.notices_frame c; rw [h]
@[simp] theorem Chip.notices_lk : (b.notices c).lk = c.lk := by
  obtain ⟨v, e, t, s, k, u, f, h⟩ := b.notices_frame c; rw [h]
@[simp] theorem Chip.notices_ft : (b.notices c).ft = c.ft := by
  obtain ⟨v, e, t, s, k, u, f, h⟩ := b.notices_frame c; rw [h]
@[simp] theorem Chip.notices_sb : (b.notices c).sb = c.sb := by
  obtain ⟨v, e, t, s, k, u, f, h⟩ := b.notices_frame c; rw [h]
@[simp] theorem Chip.notices_md : (b.notices c).md = c.md := by
  obtain ⟨v, e, t, s, k, u, f, h⟩ := b.notices_frame c; rw [h]
@[simp] theorem Chip.notices_rd : (b.notices c).rd = c.rd := by
  obtain ⟨v, e, t, s, k, u, f, h⟩ := b.notices_frame c; rw [h]
@[simp] theorem Chip.notices_lost : (b.notices c).lost = c.lost := by
  obtain ⟨v, e, t, s, k, u, f, h⟩ := b.notices_frame c; rw [h]
@[simp] theorem Chip.notices_st : (b.notices c).st = c.st := by
  obtain ⟨v, e, t, s, k, u, f, h⟩ := b.notices_frame c; rw [h]
@[simp] theorem Chip.notices_book : (b.notices c).book = c.book := by
  obtain ⟨v, e, t, s, k, u, f, h⟩ := b.notices_frame c; rw [h]
@[simp] theorem Chip.notices_wins : (b.notices c).wins = c.wins := by
  obtain ⟨v, e, t, s, k, u, f, h⟩ := b.notices_frame c; rw [h]
@[simp] theorem Chip.notices_pr : (b.notices c).pr = c.pr := by
  obtain ⟨v, e, t, s, k, u, f, h⟩ := b.notices_frame c; rw [h]
@[simp] theorem Chip.notices_mg : (b.notices c).mg = c.mg := by
  obtain ⟨v, e, t, s, k, u, f, h⟩ := b.notices_frame c; rw [h]
@[simp] theorem Chip.notices_pm : (b.notices c).pm = c.pm := by
  obtain ⟨v, e, t, s, k, u, f, h⟩ := b.notices_frame c; rw [h]
@[simp] theorem Chip.notices_th : (b.notices c).th = c.th := by
  obtain ⟨v, e, t, s, k, u, f, h⟩ := b.notices_frame c; rw [h]
@[simp] theorem Chip.notices_fw : (b.notices c).fw = c.fw := by
  obtain ⟨v, e, t, s, k, u, f, h⟩ := b.notices_frame c; rw [h]
@[simp] theorem Chip.notices_rnd : (b.notices c).rnd = c.rnd := by
  obtain ⟨v, e, t, s, k, u, f, h⟩ := b.notices_frame c; rw [h]
@[simp] theorem Chip.notices_free : (b.notices c).free = c.free := by
  obtain ⟨v, e, t, s, k, u, f, h⟩ := b.notices_frame c; rw [h]
@[simp] theorem Chip.notices_out : (b.notices c).out = c.out := by
  obtain ⟨v, e, t, s, k, u, f, h⟩ := b.notices_frame c; rw [h]
end

/-- Notices change no entry but those that writing an event record changes. -/
theorem Chip.getAt_notices (before c : Chip) {a item : Nat} (h : a ∉ eventMeters) :
    (before.notices c).getAt a item = c.getAt a item := by
  have hi : ∀ (p : Prop) [Decidable p] (b d : Chip), b.getAt a item = c.getAt a item → d.getAt a item = c.getAt a item →
      (if p then b else d).getAt a item = c.getAt a item := fun p _ b d hb hd => by split <;> assumption
  have ha : ∀ (d : Chip) x y z, (d.raiseAeAll x y z).getAt a item = d.getAt a item := fun d x y z =>
    Chip.getAt_congr (by simp) a item
  have ht : ∀ (d : Chip) t, ({ d with lg := { d.lg with telemCtrl := t } } : Chip).getAt a item = d.getAt a item := fun _ _ => rfl
  unfold Chip.notices
  extract_lets cu _ _ c0 c1 low
  have hu : cu.getAt a item = c.getAt a item := before.getAt_unitNotices c h
  have h0 : c0.getAt a item = c.getAt a item := hi _ _ _ hu ((ha _ _ _ _).trans ((ht cu _).trans hu))
  have h1 : c1.getAt a item = c.getAt a item := hi _ _ _ h0 ((ha _ _ _ _).trans h0)
  exact hi _ _ _ ((Chip.getAt_event _ _ _ _ _ _ h).trans h1) h1

/-- Notices leave a command that is no held Asynchronous Event Request. -/
theorem Chip.cmd_notices (before : Chip) {c : Chip} {h : Nat} (hc : c.notHeld h) : (before.notices c).cmd h = c.cmd h := by
  have hi : ∀ (p : Prop) [Decidable p] (b d : Chip), (b.notHeld h ∧ b.cmd h = c.cmd h) → (d.notHeld h ∧ d.cmd h = c.cmd h) →
      ((if p then b else d).notHeld h ∧ (if p then b else d).cmd h = c.cmd h) := fun p _ b d hb hd => by split <;> assumption
  have ha : ∀ (d : Chip) x y z, (d.notHeld h ∧ d.cmd h = c.cmd h) → ((d.raiseAeAll x y z).notHeld h ∧ (d.raiseAeAll x y z).cmd h = c.cmd h) :=
    fun d x y z hd => ⟨(Chip.raiseAeAll_keeps hd.1 x y z).1, (Chip.raiseAeAll_keeps hd.1 x y z).2.trans hd.2⟩
  unfold Chip.notices
  extract_lets cu _ _ c0 c1 low
  have hu : cu.notHeld h ∧ cu.cmd h = c.cmd h :=
    ⟨fun f hf => hc f (by rwa [Chip.unitNotices_fns] at hf), Chip.cmd_congr (Chip.unitNotices_cmds _ _) h⟩
  have h0 : c0.notHeld h ∧ c0.cmd h = c.cmd h := hi _ _ _ hu (ha _ _ _ _ hu)
  have h1 : c1.notHeld h ∧ c1.cmd h = c.cmd h := hi _ _ _ h0 (ha _ _ _ _ h0)
  refine (hi _ _ _ ⟨?_, (Chip.cmd_congr (by simp) h).trans h1.2⟩ h1).2
  intro f hf
  rw [Chip.event_fns] at hf
  exact h1.1 f hf

theorem Chip.noAe_raiseAe (c : Chip) (port fn type info page p k : Nat) :
    ((c.raiseAe port fn type info page).fnOf p k).noAe = (c.fnOf p k).noAe := by
  have hs : ∀ (d : Chip) (f : Fn), d.fns = c.fns → f.port = port → f.fn = fn → f.noAe = (c.fnOf port fn).noAe →
      ((d.setFn f).fnOf p k).noAe = (c.fnOf p k).noAe := by
    intro d f hd hp hf hn
    by_cases hk : f.port = p ∧ f.fn = k
    · obtain ⟨h1, h2⟩ := hk
      rw [← h1, ← h2, Chip.fnOf_setFn_same, hn, hp, hf]
    · rw [Chip.fnOf_setFn_ne _ _ hk, Chip.fnOf_congr hd]
  unfold Chip.raiseAe
  dsimp only
  split
  · rfl
  · split
    · exact hs _ _ rfl (by simp) (by simp) rfl
    · rw [Chip.fnOf_congr (Chip.finish_fns _ _ _ _ _)]
      exact hs _ _ rfl (by simp) (by simp) rfl

theorem Chip.noAe_raiseAeAll (c : Chip) (type info page p k : Nat) :
    ((c.raiseAeAll type info page).fnOf p k).noAe = (c.fnOf p k).noAe := by
  unfold Chip.raiseAeAll
  exact Chip.each_frame (fun a b => (b.fnOf p k).noAe = (a.fnOf p k).noAe) (fun _ => rfl) (fun _ _ _ h h' => h'.trans h)
    (fun c (f : Fn) => c.raiseAe f.port f.fn type info page) (fun c f => Chip.noAe_raiseAe _ _ _ _ _ _ _ _) _ c

/-- Notices leave everything of a function but its Asynchronous Events. -/
theorem Chip.noAe_notices (before c : Chip) (p k : Nat) : ((before.notices c).fnOf p k).noAe = (c.fnOf p k).noAe := by
  have hi : ∀ (q : Prop) [Decidable q] (b d : Chip), (b.fnOf p k).noAe = (c.fnOf p k).noAe → (d.fnOf p k).noAe = (c.fnOf p k).noAe →
      ((if q then b else d).fnOf p k).noAe = (c.fnOf p k).noAe := fun q _ b d hb hd => by split <;> assumption
  unfold Chip.notices
  extract_lets cu _ _ c0 c1 low
  have hu : (cu.fnOf p k).noAe = (c.fnOf p k).noAe := by rw [Chip.fnOf_congr (Chip.unitNotices_fns _ _)]
  have h0 : (c0.fnOf p k).noAe = (c.fnOf p k).noAe := hi _ _ _ hu ((Chip.noAe_raiseAeAll _ _ _ _ _ _).trans hu)
  have h1 : (c1.fnOf p k).noAe = (c.fnOf p k).noAe := hi _ _ _ h0 ((Chip.noAe_raiseAeAll _ _ _ _ _ _).trans h0)
  exact hi _ _ _ (by rw [Chip.fnOf_congr (Chip.event_fns _ _ _ _ _ _)]; exact h1) h1

/-! ### The end of a step -/

section
variable (b c : Chip)
@[simp] theorem Chip.seal_boot : (b.seal c).boot = c.boot := rfl
@[simp] theorem Chip.seal_ev : (b.seal c).ev = c.ev := rfl
@[simp] theorem Chip.seal_fns : (b.seal c).fns = c.fns := rfl
@[simp] theorem Chip.seal_ports : (b.seal c).ports = c.ports := rfl
@[simp] theorem Chip.seal_qs : (b.seal c).qs = c.qs := rfl
@[simp] theorem Chip.seal_cmds : (b.seal c).cmds = c.cmds := rfl
@[simp] theorem Chip.seal_nextH : (b.seal c).nextH = c.nextH := rfl
@[simp] theorem Chip.seal_lk : (b.seal c).lk = c.lk := rfl
@[simp] theorem Chip.seal_um : (b.seal c).um = c.um := rfl
@[simp] theorem Chip.seal_ft : (b.seal c).ft = c.ft := rfl
@[simp] theorem Chip.seal_sb : (b.seal c).sb = c.sb := rfl
@[simp] theorem Chip.seal_md : (b.seal c).md = c.md := rfl
@[simp] theorem Chip.seal_rd : (b.seal c).rd = c.rd := rfl
@[simp] theorem Chip.seal_lost : (b.seal c).lost = c.lost := rfl
@[simp] theorem Chip.seal_st : (b.seal c).st = c.st := rfl
@[simp] theorem Chip.seal_book : (b.seal c).book = c.book := rfl
@[simp] theorem Chip.seal_wins : (b.seal c).wins = c.wins := rfl
@[simp] theorem Chip.seal_pr : (b.seal c).pr = c.pr := rfl
@[simp] theorem Chip.seal_mg : (b.seal c).mg = c.mg := rfl
@[simp] theorem Chip.seal_pm : (b.seal c).pm = c.pm := rfl
@[simp] theorem Chip.seal_th : (b.seal c).th = c.th := rfl
@[simp] theorem Chip.seal_fw : (b.seal c).fw = c.fw := rfl
@[simp] theorem Chip.seal_lg : (b.seal c).lg = c.lg := rfl
@[simp] theorem Chip.seal_rnd : (b.seal c).rnd = c.rnd := rfl
@[simp] theorem Chip.seal_free : (b.seal c).free = c.free := rfl
@[simp] theorem Chip.seal_out : (b.seal c).out = c.out := rfl
@[simp] theorem Chip.seal_now : (b.seal c).now = b.now := rfl
@[simp] theorem Chip.seal_fuse : (b.seal c).fuse = b.fuse.blown c.fuse := rfl
@[simp] theorem Chip.seal_dict_tags : (b.seal c).dict.tags = b.newTags c := by simp only [Chip.seal, Chip.withTags]
@[simp] theorem Chip.seal_un : (b.seal c).un = Un.hold b.fuse.variant b.un c.un := rfl
@[simp] theorem Chip.seal_dict_vals : (b.seal c).dict.vals = c.dict.vals := by simp only [Chip.seal, Chip.withTags, Chip.keep]
@[simp] theorem Chip.seal_dict_clamps : (b.seal c).dict.clamps = c.dict.clamps := by simp only [Chip.seal, Chip.withTags, Chip.keep]
@[simp] theorem Chip.seal_dict_wins : (b.seal c).dict.wins = c.dict.wins := by simp only [Chip.seal, Chip.withTags, Chip.keep]
@[simp] theorem Chip.seal_dict_slotA : (b.seal c).dict.slotA = c.dict.slotA := by simp only [Chip.seal, Chip.withTags, Chip.keep]
@[simp] theorem Chip.seal_dict_slotB : (b.seal c).dict.slotB = c.dict.slotB := by simp only [Chip.seal, Chip.withTags, Chip.keep]
@[simp] theorem Chip.seal_dict_writing : (b.seal c).dict.writing = c.dict.writing := by simp only [Chip.seal, Chip.withTags, Chip.keep]
@[simp] theorem Chip.seal_dict_dirtySince : (b.seal c).dict.dirtySince = c.dict.dirtySince := by simp only [Chip.seal, Chip.withTags, Chip.keep]
end

@[simp] theorem Chip.getAt_seal (b c : Chip) (a item : Nat) : (b.seal c).getAt a item = c.getAt a item :=
  Chip.getAt_congr (by simp) a item
@[simp] theorem Chip.cmd_seal (b c : Chip) (h : Nat) : (b.seal c).cmd h = c.cmd h := rfl
@[simp] theorem Chip.fnOf_seal (b c : Chip) (p k : Nat) : (b.seal c).fnOf p k = c.fnOf p k := rfl
@[simp] theorem Chip.portOf_seal (b c : Chip) (k : Nat) : (b.seal c).portOf k = c.portOf k := rfl
@[simp] theorem Chip.portOf_notices (b c : Chip) (k : Nat) : (b.notices c).portOf k = c.portOf k := Chip.portOf_congr (by simp) k

/-! ### Fused-off units (R2) -/

theorem Un.hold_self (v : Nat) (u : Un) : Un.hold v u u = u := by simp [Un.hold]

theorem find_filter {α : Type} (p q : α → Bool) (h : ∀ a, p a = true → q a = true) (l : List α) :
    (l.filter q).find? p = l.find? p := by
  induction l with
  | nil => rfl
  | cons a r ih =>
    simp only [List.filter_cons, List.find?_cons]
    by_cases hp : p a = true
    · simp [h a hp, hp]
    · by_cases hq : q a = true
      · simp [hq, hp, ih]
      · simp [hq, hp, ih]

/-- A fused-off unit's record at the end of a step is the one before it. -/
theorem Un.hold_off {v u : Nat} (hu : fusedOff v u = true) (b a : Un) :
    (Un.hold v b a).units.find? (fun r => decide (r.unit = u)) = b.units.find? fun r => decide (r.unit = u) := by
  have hp : ∀ r : UnitRec, decide (r.unit = u) = true → fusedOff v r.unit = true := fun r hr => by
    have : r.unit = u := by simpa using hr
    rw [this]; exact hu
  unfold Un.hold
  extract_lets off
  split
  · next h =>
    rw [← find_filter _ (fun (r : UnitRec) => fusedOff v r.unit) hp, ← find_filter _ (fun (r : UnitRec) => fusedOff v r.unit) hp b.units]
    exact congrArg _ h
  · rw [List.find?_append]
    have hn : (a.units.filter fun r : UnitRec => !fusedOff v r.unit).find? (fun r => decide (r.unit = u)) = none := by
      rw [List.find?_eq_none]
      intro r hr hd
      simp only [List.mem_filter, Bool.not_eq_true'] at hr
      exact absurd (hp r hd) (by simp [hr.2])
    rw [hn, Option.or_none]
    exact find_filter _ (fun (r : UnitRec) => fusedOff v r.unit) hp _

/-- A unit that is not fused off has the record that the command's effect gave it. -/
theorem Un.hold_on {v u : Nat} (hu : fusedOff v u = false) (b a : Un) :
    (Un.hold v b a).units.find? (fun r => decide (r.unit = u)) = a.units.find? fun r => decide (r.unit = u) := by
  have hp : ∀ r : UnitRec, decide (r.unit = u) = true → (!fusedOff v r.unit) = true := fun r hr => by
    have : r.unit = u := by simpa using hr
    rw [this, hu]; rfl
  unfold Un.hold
  extract_lets off
  split
  · rfl
  · rw [List.find?_append]
    have hn : (off b.units).find? (fun r => decide (r.unit = u)) = none := by
      rw [List.find?_eq_none]
      intro r hr hd
      simp only [off, List.mem_filter] at hr
      have := hp r hd
      simp [hr.2] at this
    rw [hn, Option.none_or]
    exact find_filter _ (fun (r : UnitRec) => !fusedOff v r.unit) hp _

theorem Chip.unitRec_congr {c c' : Chip} (hu : c'.un = c.un) (hv : c'.fuse.variant = c.fuse.variant) (u : Nat) :
    c'.unitRec u = c.unitRec u := by
  unfold Chip.unitRec; rw [hu, hv]

@[simp] theorem Chip.seal_variant (b c : Chip) : (b.seal c).fuse.variant = b.fuse.variant := by
  rw [Chip.seal_fuse]; simp only [Fuse.blown]

@[simp] theorem Chip.withTags_unitRec (c : Chip) (tags : Store) (u : Nat) : (c.withTags tags).unitRec u = c.unitRec u :=
  Chip.unitRec_congr rfl rfl u

/-- A fused-off unit is unchanged by what ends a command. -/
theorem Chip.unitRec_keep {b : Chip} (c : Chip) {u : Nat} (hu : fusedOff b.fuse.variant u = true) :
    (b.keep c).unitRec u = b.unitRec u := by
  unfold Chip.unitRec Chip.keep
  dsimp only
  rw [Un.hold_off hu]
  rfl

theorem Chip.unitRec_seal_off {b : Chip} (c : Chip) {u : Nat} (hu : fusedOff b.fuse.variant u = true) :
    (b.seal c).unitRec u = b.unitRec u := by
  unfold Chip.seal
  rw [Chip.withTags_unitRec, Chip.unitRec_keep c hu]

/-- A unit that is not fused off ends the step as the effect left it. -/
theorem Chip.unitRec_end {b c : Chip} {u : Nat} (hu : fusedOff b.fuse.variant u = false) (hv : c.fuse.variant = b.fuse.variant) :
    (b.seal (b.notices c)).unitRec u = c.unitRec u := by
  unfold Chip.unitRec
  rw [Chip.seal_un, Un.hold_on hu, Chip.notices_un, Chip.seal_variant, hv]

/-! ### Settling -/

section
variable (b c : Chip)
@[simp] theorem Chip.settle_now : (b.settle c).now = c.now := by
  unfold Chip.settle; split <;> rfl
@[simp] theorem Chip.settle_fuse : (b.settle c).fuse = c.fuse := by
  unfold Chip.settle; split <;> rfl
@[simp] theorem Chip.settle_un : (b.settle c).un = c.un := by
  unfold Chip.settle; split <;> rfl
@[simp] theorem Chip.settle_fns : (b.settle c).fns = c.fns := by
  unfold Chip.settle; split <;> rfl
@[simp] theorem Chip.settle_ports : (b.settle c).ports = c.ports := by
  unfold Chip.settle; split <;> rfl
@[simp] theorem Chip.settle_qs : (b.settle c).qs = c.qs := by
  unfold Chip.settle; split <;> rfl
@[simp] theorem Chip.settle_nextH : (b.settle c).nextH = c.nextH := by
  unfold Chip.settle; split <;> rfl
@[simp] theorem Chip.settle_mg : (b.settle c).mg = c.mg := by
  unfold Chip.settle; split <;> rfl
@[simp] theorem Chip.settle_pm : (b.settle c).pm = c.pm := by
  unfold Chip.settle; split <;> rfl
@[simp] theorem Chip.settle_th : (b.settle c).th = c.th := by
  unfold Chip.settle; split <;> rfl
@[simp] theorem Chip.settle_fw : (b.settle c).fw = c.fw := by
  unfold Chip.settle; split <;> rfl
@[simp] theorem Chip.settle_rnd : (b.settle c).rnd = c.rnd := by
  unfold Chip.settle; split <;> rfl
@[simp] theorem Chip.settle_free : (b.settle c).free = c.free := by
  unfold Chip.settle; split <;> rfl
end

/-- A chip that is not in service has nothing to settle. -/
theorem Chip.settle_idle (b : Chip) {c : Chip} (h : c.isReady = false) : b.settle c = c := by
  unfold Chip.settle; simp [h]

/-! ### Running -/

theorem run_eq (s : State) (t : Nat) (f : Chip → Chip) :
    run s t f = .next { s with chip := (s.chip.atTime t).seal ((s.chip.atTime t).notices (f (s.chip.atTime t))) } := rfl

theorem runUnits_eq (s : State) (t : Nat) (f : Chip → Chip) :
    runUnits s t f = run s t fun c => c.settle (f c) := rfl

end Sys2Proof.Machine
end

