-- ==== Sys2Proof/Laws/Commands.lean ====
section
/-! SUPPORT. How a command's effect reaches the state after its step: completion from the effect alone, and the
answer of a command that ends. -/
namespace Sys2Proof.Machine

/-- A command that runs completes with what holds of its effect at the end of the step. -/
theorem Completes.of_run {i : Instr} {s : State} {P : Chip → Prop} {t : Nat} {f : Chip → Chip} (he : exec i s = run s t f)
    (hp : P ((s.chip.atTime t).seal ((s.chip.atTime t).notices (f (s.chip.atTime t))))) : Completes i s P :=
  ⟨_, he.trans (run_eq s t f), rfl, hp⟩

theorem Chip.adminWaits_atTime {c : Chip} {h op : Nat} {x : Cmd} (hw : c.adminWaits h op x) (t : Nat) :
    (c.atTime t).adminWaits h op x := hw

/-- An admin command that waits is served. -/
theorem Chip.adminCmd_eq {c : Chip} {h op : Nat} {x : Cmd} (hw : c.adminWaits h op x) (f : Chip → Cmd → Chip) :
    c.adminCmd h op f = f c x := by
  obtain ⟨h1, h2, h3, h4, -, -, h7, h8, -⟩ := hw
  unfold Chip.adminCmd
  simp only [h1]
  rw [if_pos ⟨h2, h3, h4, h7, h8⟩]

theorem Chip.adminWaits_h {c : Chip} {h op : Nat} {x : Cmd} (hw : c.adminWaits h op x) : x.h = h := Chip.cmd_h hw.1

/-- Changes that leave the commands leave a command that waits to be ended. -/
theorem Chip.answered_finish {c c' : Chip} {h op : Nat} {x : Cmd} (hw : c.adminWaits h op x) (hc : c'.cmds = c.cmds)
    (status dw0 dw1 : Nat) : (c'.finish h status dw0 dw1).answered h status dw0 dw1 := by
  obtain ⟨h1, -, -, -, h5, h6, -⟩ := hw
  exact ⟨_, Chip.cmd_finish_same c' ((Chip.cmd_congr hc h).trans h1) h5 h6, rfl, rfl, rfl, rfl⟩

theorem Chip.notHeld_congr {c c' : Chip} (h : c'.fns = c.fns) {k : Nat} (hc : c.notHeld k) : c'.notHeld k := by
  unfold Chip.notHeld; rw [h]; exact hc

theorem Chip.adminWaits_notHeld {c : Chip} {h op : Nat} {x : Cmd} (hw : c.adminWaits h op x) : c.notHeld h := hw.2.2.2.2.2.2.2.2

theorem Chip.fnOf_setFn_self (c : Chip) {f : Fn} {p k : Nat} (hp : f.port = p) (hk : f.fn = k) : (c.setFn f).fnOf p k = f := by
  subst hp hk; exact c.fnOf_setFn_same f

/-- The answer of a command stands at the end of the step. -/
theorem Chip.answered_end {b c : Chip} {h status dw0 dw1 : Nat} (hn : c.notHeld h) (ha : c.answered h status dw0 dw1) :
    (b.seal (b.notices c)).answered h status dw0 dw1 := by
  obtain ⟨y, hy, hr⟩ := ha
  exact ⟨y, by rw [Chip.cmd_seal, Chip.cmd_notices b hn, hy], hr⟩

/-- What a function holds apart from its Asynchronous Events stands at the end of the step. -/
theorem Chip.noAe_end (b c : Chip) (p k : Nat) : ((b.seal (b.notices c)).fnOf p k).noAe = (c.fnOf p k).noAe := by
  rw [Chip.fnOf_seal, Chip.noAe_notices]

theorem Chip.getAt_end (b c : Chip) {a item : Nat} (h : a ∉ eventMeters) :
    (b.seal (b.notices c)).getAt a item = c.getAt a item := by
  rw [Chip.getAt_seal, Chip.getAt_notices b c h]

/-! ### Frames -/

theorem Chip.keeps_refl (a : Chip) (l : List Area) : a.keeps a l := by
  intro p _; cases p <;> rfl

theorem Chip.keeps_trans {a b c : Chip} {l m : List Area} (h : a.keeps b l) (h' : b.keeps c m) : a.keeps c (l ++ m) := by
  intro p hp
  simp only [List.mem_append, not_or] at hp
  have h1 := h p hp.1
  have h2 := h' p hp.2
  cases p <;> exact h2.trans h1

theorem Chip.keeps_mono {a b : Chip} {l m : List Area} (h : a.keeps b l) (hm : ∀ p ∈ l, p ∈ m) : a.keeps b m :=
  fun p hp => h p fun hl => hp (hm p hl)

theorem Chip.keeps_ite {p : Prop} [Decidable p] {a b d : Chip} {l : List Area} (hb : a.keeps b l) (hd : a.keeps d l) :
    a.keeps (if p then b else d) l := by split <;> assumption

theorem Chip.keeps_when {a b : Chip} {q : Bool} {f : Chip → Chip} {l : List Area} (hb : a.keeps b l)
    (hf : ∀ c : Chip, c.keeps (f c) l) : a.keeps (b.when q f) l := by
  unfold Chip.when; split
  · exact Chip.keeps_mono (Chip.keeps_trans hb (hf b)) (by simp)
  · exact hb

theorem Chip.keeps_each {α : Type} {f : Chip → α → Chip} {l : List Area} (hf : ∀ (c : Chip) x, c.keeps (f c x) l) (xs : List α) (c : Chip) :
    c.keeps (c.each xs f) l :=
  Chip.each_frame (fun a b => a.keeps b l) (fun c => c.keeps_refl l)
    (fun _ _ _ h h' => Chip.keeps_mono (Chip.keeps_trans h h') (by simp)) f hf xs c

theorem Chip.keeps_finish (c : Chip) (h status dw0 dw1 : Nat) : c.keeps (c.finish h status dw0 dw1) [.cmds, .um] := by
  intro p hp; cases p <;> simp_all [Chip.same]

theorem Chip.keeps_countAt (c : Chip) (a item n : Nat) : c.keeps (c.countAt a item n) [.dict] := by
  intro p hp; cases p <;> simp_all [Chip.same]

theorem Chip.keeps_event (c : Chip) (src ev sev unit : Nat) (params : List Nat) :
    c.keeps (c.event src ev sev unit params) [.dict, .ev, .lg] := by
  intro p hp; cases p <;> simp_all [Chip.same]

theorem Chip.keeps_eventFirst (c : Chip) (src ev sev unit : Nat) (params : List Nat) :
    c.keeps (c.eventFirst src ev sev unit params) [.dict, .ev, .lg] := by
  intro p hp; cases p <;> simp_all [Chip.same]

theorem Chip.keeps_setAt (c : Chip) (a item v : Nat) : c.keeps (c.setAt a item v) [.dict] := by
  intro p hp; cases p <;> simp_all [Chip.same]

theorem Chip.keeps_setCmd (c : Chip) (x : Cmd) : c.keeps (c.setCmd x) [.cmds] := by
  intro p hp; cases p <;> simp_all [Chip.same]

theorem Chip.keeps_dropCmd (c : Chip) (h : Nat) : c.keeps (c.dropCmd h) [.cmds] := by
  intro p hp; cases p <;> simp_all [Chip.same]

theorem Chip.keeps_setFn (c : Chip) (f : Fn) : c.keeps (c.setFn f) [.fns] := by
  intro p hp; cases p <;> simp_all [Chip.same]

theorem Chip.keeps_setPort (c : Chip) (q : Port) : c.keeps (c.setPort q) [.ports] := by
  intro p hp; cases p <;> simp_all [Chip.same]

theorem Chip.keeps_emit (c : Chip) (o : Out) (l : List Area) : c.keeps (c.emit o) l := by
  intro p _; cases p <;> rfl

theorem Chip.keeps_atTime (c : Chip) (t : Nat) (l : List Area) : c.keeps (c.atTime t) l := by
  intro p _; cases p <;> rfl

theorem Chip.keeps_raiseAe (c : Chip) (port fn type info page : Nat) :
    c.keeps (c.raiseAe port fn type info page) [.fns, .cmds, .um] := by
  intro p hp; cases p <;> simp_all [Chip.same]

theorem Chip.keeps_notices (b c : Chip) : c.keeps (b.notices c) notePart := by
  intro p hp; cases p <;> simp_all [Chip.same, notePart]

/-- Blowing fuses again that are blown changes nothing. -/
theorem Fuse.blown_self (f : Fuse) : f.blown f = f := by
  have : (f.keyRevoked.zip (List.range f.keyRevoked.length)).map (fun p => p.1 || f.keyRevoked.getD p.2 false) = f.keyRevoked := by
    apply List.ext_getElem
    · simp
    · intro i h1 h2
      simp only [List.getElem_map, List.getElem_zip, List.getElem_range]
      rw [List.getD_eq_getElem _ _ h2, Bool.or_self]
  unfold Fuse.blown
  simp only [Nat.max_self, this]

/-- The end of a step: everything that the effect and its notices leave unchanged is unchanged. -/
theorem Chip.keeps_end {c c' : Chip} {l : List Area} (t : Nat) (h : (c.atTime t).keeps c' l) (hf : c'.fuse = c.fuse) :
    c.keeps ((c.atTime t).seal ((c.atTime t).notices c')) (l ++ notePart) := by
  have h1 := Chip.keeps_trans h (Chip.keeps_notices (c.atTime t) c')
  intro p hp
  have h2 := h1 p hp
  cases p
  case fuse => show (Fuse.blown c.fuse _) = c.fuse; rw [Chip.notices_fuse, hf, Fuse.blown_self]
  case un => show Un.hold c.fuse.variant c.un _ = c.un; rw [show _ = c.un from h2, Un.hold_self]
  case dict => exact absurd (by simp [notePart]) hp
  all_goals exact h2

/-! ### Frames of the dictionary -/

theorem Chip.keepsEntries_refl (c : Chip) (l : List Nat) : c.keepsEntries c l := fun _ _ _ _ => rfl

theorem Chip.keepsEntries_trans {a b c : Chip} {l m : List Nat} (h : a.keepsEntries b l) (h' : b.keepsEntries c m) :
    a.keepsEntries c (l ++ m) := by
  intro e i h1 h2
  simp only [List.mem_append, not_or] at h1
  rw [h' e i h1.2 h2, h e i h1.1 h2]

theorem Chip.keepsEntries_mono {a b : Chip} {l m : List Nat} (h : a.keepsEntries b l) (hm : ∀ p ∈ l, p ∈ m) : a.keepsEntries b m :=
  fun e i h1 h2 => h e i (fun hl => h1 (hm e hl)) h2

theorem Chip.keepsEntries_vals {a b : Chip} (h : b.dict.vals = a.dict.vals) (l : List Nat) : a.keepsEntries b l :=
  fun e i _ _ => Chip.getAt_congr h e i

theorem Chip.keepsEntries_setAt (c : Chip) (a item v : Nat) : c.keepsEntries (c.setAt a item v) [a] := by
  intro e i h1 _
  rw [Chip.getAt_setAt, if_neg]
  simp only [List.mem_cons, List.not_mem_nil, or_false] at h1
  exact fun h => h1 h.1

theorem Chip.keepsEntries_countAt (c : Chip) (a item n : Nat) : c.keepsEntries (c.countAt a item n) [a] := by
  intro e i h1 h2
  simp only [List.mem_cons, List.not_mem_nil, or_false] at h1
  exact c.getAt_countAt_ne a item n (notMeter h2) fun h => h1 h.1

theorem Chip.keepsEntries_event (c : Chip) (src ev sev unit : Nat) (params : List Nat) (l : List Nat) :
    c.keepsEntries (c.event src ev sev unit params) l := fun _ _ _ h => Chip.getAt_event c _ _ _ _ _ h

theorem Chip.keepsEntries_finish (c : Chip) (h status dw0 dw1 : Nat) (l : List Nat) : c.keepsEntries (c.finish h status dw0 dw1) l :=
  Chip.keepsEntries_vals (by simp) l

theorem Chip.keepsEntries_emit (c : Chip) (o : Out) (l : List Nat) : c.keepsEntries (c.emit o) l := Chip.keepsEntries_vals rfl l

theorem Chip.keepsEntries_setFn (c : Chip) (f : Fn) (l : List Nat) : c.keepsEntries (c.setFn f) l := Chip.keepsEntries_vals rfl l

theorem Chip.keepsEntries_setCmd (c : Chip) (x : Cmd) (l : List Nat) : c.keepsEntries (c.setCmd x) l := Chip.keepsEntries_vals rfl l

theorem Chip.keepsEntries_ite {p : Prop} [Decidable p] {a b d : Chip} {l : List Nat} (hb : a.keepsEntries b l) (hd : a.keepsEntries d l) :
    a.keepsEntries (if p then b else d) l := by split <;> assumption

theorem Chip.keepsEntries_end {c c' : Chip} {l : List Nat} (t : Nat) (h : (c.atTime t).keepsEntries c' l) :
    c.keepsEntries ((c.atTime t).seal ((c.atTime t).notices c')) l := by
  intro e i h1 h2
  rw [Chip.getAt_end _ _ h2]
  exact h e i h1 h2

/-- Where no unit has changed and the partner reports what it did, no event of a unit is raised. -/
theorem Chip.unitNotices_same {b c : Chip} (ho : ∀ u, c.own u = b.own u) (hp : c.partnerStates = b.partnerStates) : b.unitNotices c = c := by
  unfold Chip.unitNotices
  have : b.unitsChanged c = [] := by unfold Chip.unitsChanged; simp [ho]
  simp only [this, hp, if_true, and_self]

/-- Where no unit, no telemetry capture and no ANA state has changed, notices raise no Asynchronous Event. -/
theorem Chip.notices_quiet {b c : Chip} (ho : ∀ u, c.own u = b.own u) (hp : c.partnerStates = b.partnerStates) (ht : b.get E.TELEM_CTRL_GEN = c.get E.TELEM_CTRL_GEN) (ha : b.anaState = c.anaState) :
    (b.notices c).fns = c.fns ∧ (b.notices c).cmds = c.cmds := by
  unfold Chip.notices
  rw [Chip.unitNotices_same ho hp]
  dsimp only
  rw [if_pos ht, if_pos ha]
  split
  · exact ⟨by simp, by simp⟩
  · exact ⟨rfl, rfl⟩

theorem Chip.anaState_congr {b c : Chip} (hv : c.dict.vals = b.dict.vals) (hb : c.boot = b.boot) (hp : c.pr = b.pr) :
    c.anaState = b.anaState := by
  have hg : ∀ a, c.get a = b.get a := fun a => Chip.getAt_congr hv a 0
  unfold Chip.anaState Chip.soloRefuses Chip.ownIndex
  simp only [hg, hb, hp]

/-! ### Admin commands -/

theorem Chip.setFeature_eq {c : Chip} {h : Nat} {x : Cmd} (hw : c.adminWaits h 0x09 x) {fid : Nat} (hf : x.dw 10 % 256 = fid)
    (f : Chip → Cmd → Fn → Chip) : c.setFeature h fid f = f c x (c.fnOf x.port x.fn) := by
  unfold Chip.setFeature
  rw [Chip.adminCmd_eq hw, if_pos hf]

/-- A command that waited, and that the effect left, is answered at the end of the step. -/
theorem Chip.answered_of {c c' : Chip} {h op : Nat} {x : Cmd} (hw : c.adminWaits h op x) (hn : c'.notHeld h) (hc : c'.cmd h = c.cmd h)
    (b : Chip) (status dw0 dw1 : Nat) :
    (b.seal (b.notices (c'.finish h status dw0 dw1))).answered h status dw0 dw1 := by
  obtain ⟨h1, -, -, -, h5, h6, -⟩ := hw
  exact Chip.answered_end ((Chip.notHeld_finish _ _ _ _ _ _).2 hn) ⟨_, Chip.cmd_finish_same c' (hc.trans h1) h5 h6, rfl, rfl, rfl, rfl⟩

theorem Chip.keeps_cmd {c c' : Chip} {l : List Area} (hk : c.keeps c' l) (hl : .cmds ∉ l) (h : Nat) : c'.cmd h = c.cmd h :=
  Chip.cmd_congr (hk .cmds hl) h

theorem Chip.keeps_notHeld {c c' : Chip} {l : List Area} (hk : c.keeps c' l) (hl : .fns ∉ l) {h : Nat} (hn : c.notHeld h) :
    c'.notHeld h := Chip.notHeld_congr (hk .fns hl) hn

/-- A command that waited is answered where its effect left commands and functions as they were. -/
theorem Chip.answered_keeps {c c' : Chip} {h op : Nat} {x : Cmd} (hw : c.adminWaits h op x) {l : List Area} (hk : c.keeps c' l)
    (hf : .fns ∉ l) (hc : .cmds ∉ l) (b : Chip) (status dw0 dw1 : Nat) :
    (b.seal (b.notices (c'.finish h status dw0 dw1))).answered h status dw0 dw1 :=
  Chip.answered_of hw (Chip.keeps_notHeld hk hf (Chip.adminWaits_notHeld hw)) (Chip.keeps_cmd hk hc h) b status dw0 dw1

theorem Chip.keeps_fuse {c c' : Chip} {l : List Area} (hk : c.keeps c' l) (hl : .fuse ∉ l) : c'.fuse = c.fuse := hk .fuse hl

/-- The frame at the end of a step, from the frame of the effect. -/
theorem Chip.keeps_close {c c' : Chip} {l m : List Area} (t : Nat) (h : (c.atTime t).keeps c' l) (hf : .fuse ∉ l)
    (hm : ∀ p ∈ l ++ notePart, p ∈ m) : c.keeps ((c.atTime t).seal ((c.atTime t).notices c')) m :=
  Chip.keeps_mono (Chip.keeps_end t h (Chip.keeps_fuse h hf)) hm

/-- The frame of a command whose effect stays within what notices may change. -/
theorem Chip.keeps_notes {c c' : Chip} (t : Nat) (h : (c.atTime t).keeps c' notePart) :
    c.keeps ((c.atTime t).seal ((c.atTime t).notices c')) notePart :=
  Chip.keeps_mono (Chip.keeps_end t h (h .fuse (by decide))) (by decide)

/-- A command that writes its function and ends: it is answered, and the function holds what was written apart from
its Asynchronous Events. -/
theorem Chip.setFn_end {b c : Chip} {h op : Nat} {x : Cmd} (hw : c.adminWaits h op x) {f : Fn} (hp : f.port = x.port)
    (hk : f.fn = x.fn) (ha : f.aers = (c.fnOf x.port x.fn).aers) (status dw0 dw1 : Nat) :
    (b.seal (b.notices ((c.setFn f).finish h status dw0 dw1))).answered h status dw0 dw1
      ∧ ((b.seal (b.notices ((c.setFn f).finish h status dw0 dw1))).fnOf x.port x.fn).noAe = f.noAe := by
  have hn := Chip.adminWaits_notHeld hw
  refine ⟨Chip.answered_end ((Chip.notHeld_finish _ _ _ _ _ _).2 (Chip.notHeld_setFn hn (ha ▸ Chip.notHeld_fnOf hn _ _)))
    (Chip.answered_finish (c' := c.setFn f) hw rfl _ _ _), ?_⟩
  rw [Chip.noAe_end, Chip.fnOf_finish, Chip.fnOf_setFn_self _ hp hk]

end Sys2Proof.Machine
end

