-- ==== Sys2Proof/Laws/Calm.lean ====
section
/-! SUPPORT. A calm chip: where no unit has changed and nothing is left to follow, the end of a command that can
change units adds nothing to its effect. -/
namespace Sys2Proof.Machine

/-! ### Calm chips -/

/-- What a unit reports depends on the units' own states and on which targets are listed. -/
theorem Chip.reported_of_own {b c : Chip} (ho : ∀ u, c.own u = b.own u) (hc : ∀ u, c.children u = b.children u)
    (hp : c.partnerStates = b.partnerStates) (u : Nat) :
    c.reported u = b.reported u := by
  have ha : ∀ v, c.ancestorTerm v = b.ancestorTerm v := fun v => by unfold Chip.ancestorTerm; simp only [ho]
  have hw : ∀ v d, c.reportWith v d = b.reportWith v d := fun v d => by unfold Chip.reportWith; rw [ho, ha]
  have hl : ∀ n v, c.reportLevel n v = b.reportLevel n v := by
    intro n
    induction n with
    | zero => intro v; exact hw v 0
    | succ n ih => intro v; simp only [Chip.reportLevel, hw, hc, show c.reportLevel n = b.reportLevel n from funext ih]
  unfold Chip.reported
  simp only [show ∀ n, c.reportLevel n = b.reportLevel n from fun n => funext (hl n), hw, hc, hp]

theorem Chip.own_congr {b c : Chip} (hu : c.un = b.un) (hf : c.fuse = b.fuse) (u : Nat) : c.own u = b.own u := by
  unfold Chip.own Chip.unitRec; rw [hu, hf]

theorem Chip.reported_congr {b c : Chip} (hu : c.un = b.un) (hf : c.fuse = b.fuse) (hp : c.partnerStates = b.partnerStates) (u : Nat) :
    c.reported u = b.reported u :=
  Chip.reported_of_own (Chip.own_congr hu hf) (fun v => by unfold Chip.children; rw [hu]) hp u

/-- A unit's record changed to another with the same own state changes no unit's own state. -/
theorem Chip.own_setUnit (c : Chip) {r : UnitRec} (h : r.own = c.own r.unit) (u : Nat) : (c.setUnit r).own u = c.own u := by
  unfold Chip.own Chip.unitRec
  have hl : (c.setUnit r).un.units = upsert (fun q => decide (q.unit = r.unit)) r c.un.units := rfl
  have hf : (c.setUnit r).fuse = c.fuse := rfl
  rw [hl, hf]
  by_cases hu : r.unit = u
  · subst hu
    rw [find_upsert (fun (q : UnitRec) => decide (q.unit = r.unit)) r (by simp)]
    exact h
  · rw [find_upsert_ne (fun (q : UnitRec) => decide (q.unit = r.unit)) _ r (fun x hx => by
      simp only [decide_eq_true_eq, decide_eq_false_iff_not] at hx ⊢; rw [hx]; exact hu) (by simpa using hu)]

/-- A record of a unit that is no target leaves the listed targets as they are. -/
theorem Chip.children_setUnit (c : Chip) {r : UnitRec} (hk : unitKind r.unit ≠ kTGT) (u : Nat) : (c.setUnit r).children u = c.children u := by
  have key : ∀ (i : Nat) (l : List UnitRec), ((upsert (fun q => decide (q.unit = r.unit)) r l).filter fun q =>
      decide (unitKind q.unit = kTGT ∧ unitIdx q.unit / 16 = i)) = l.filter fun q => decide (unitKind q.unit = kTGT ∧ unitIdx q.unit / 16 = i) := by
    intro i l
    induction l with
    | nil => simp [upsert, hk]
    | cons a l ih =>
      unfold upsert
      split
      · next h =>
        simp only [decide_eq_true_eq] at h
        rw [List.filter_cons_of_neg (by simp [hk]), List.filter_cons_of_neg (by simp [h, hk])]
      · rw [List.filter_cons, List.filter_cons, ih]
  have hl : (c.setUnit r).un.units = upsert (fun q => decide (q.unit = r.unit)) r c.un.units := rfl
  unfold Chip.children
  dsimp only
  rw [hl, key]

theorem Chip.calm_congr {b c : Chip} (hr : ∀ u, c.reported u = b.reported u) (ho : ∀ u, c.own u = b.own u) (hf : c.fuse = b.fuse)
    (hb : c.boot = b.boot) (hm : c.md = b.md)
    (hs : c.sb.eligible = b.sb.eligible) (ht : c.st.present = b.st.present) (hq : c.st.qa = b.st.qa) (hk : c.ft.kept = b.ft.kept)
    (hg : c.topGranule = b.topGranule) (hz : c.ft.sizeMib = b.ft.sizeMib) (htg : c.ft.target = b.ft.target) (hv : ∀ e ∈ calmEntries, c.get e = b.get e) (h : b.calm) : c.calm := by
  have h1 : c.get E.SPARE_INIT_ACTIVE = b.get E.SPARE_INIT_ACTIVE := hv _ (by decide)
  have h2 : c.get E.SLC_SHARE = b.get E.SLC_SHARE := hv _ (by decide)
  have h3 : c.get E.OP_MIN = b.get E.OP_MIN := hv _ (by decide)
  have h4 : c.get E.SB_STATE = b.get E.SB_STATE := hv _ (by decide)
  have h5 : c.get E.WT_CAUSE = b.get E.WT_CAUSE := hv _ (by decide)
  have h6 : c.get E.BOOKS_HYST = b.get E.BOOKS_HYST := hv _ (by decide)
  have h7 : c.get E.PREPARE_STATE = b.get E.PREPARE_STATE := hv _ (by decide)
  have h8 : c.get E.HOLDUP_EFF = b.get E.HOLDUP_EFF := hv _ (by decide)
  have h9 : c.get E.STORE_C = b.get E.STORE_C := hv _ (by decide)
  have h10 : c.get E.STORE_V_CUT = b.get E.STORE_V_CUT := hv _ (by decide)
  have h11 : c.get E.STORE_V_FULL = b.get E.STORE_V_FULL := hv _ (by decide)
  have h12 : c.get E.FLUSH_COST_MIN = b.get E.FLUSH_COST_MIN := hv _ (by decide)
  have h13 : c.get E.FLUSH_COST_LEARNED = b.get E.FLUSH_COST_LEARNED := hv _ (by decide)
  have h14 : c.get E.FLUSH_FIXED = b.get E.FLUSH_FIXED := hv _ (by decide)
  have h15 : c.get E.CRU_MIN_BACKED = b.get E.CRU_MIN_BACKED := hv _ (by decide)
  have h16 : c.get E.JRN_TAIL_PAGES = b.get E.JRN_TAIL_PAGES := hv _ (by decide)
  have h17 : c.get E.MARK_COST = b.get E.MARK_COST := hv _ (by decide)
  have h18 : c.get E.STORE_AGE_MARGIN = b.get E.STORE_AGE_MARGIN := hv _ (by decide)
  have h19 : c.get E.ADC_SLOT_FAILS = b.get E.ADC_SLOT_FAILS := hv _ (by decide)
  have h20 : c.get E.STORE_CELLS = b.get E.STORE_CELLS := hv _ (by decide)
  have h21 : c.get E.STORE_ESR = b.get E.STORE_ESR := hv _ (by decide)
  have h22 : c.get E.FLUSH_POWER = b.get E.FLUSH_POWER := hv _ (by decide)
  have hp : ∀ u, c.present u = b.present u := fun u => by unfold Chip.present; rw [hr]
  have hus : ∀ u, c.usable u = b.usable u := fun u => by unfold Chip.usable; rw [hr]
  have hfl : c.floorFaults = b.floorFaults := by
    have ha : c.sysAreaOk = b.sysAreaOk := by unfold Chip.sysAreaOk Chip.halved; simp only [hp, hb, hf]
    have hd : ∀ p, c.ddrMib p = b.ddrMib p := fun p => by unfold Chip.ddrMib; simp only [ho, hb]
    have hx : c.fixedMib c.bookOn = b.fixedMib b.bookOn := by
      unfold Chip.fixedMib Chip.bookOn Chip.mapSlices Chip.capacityMax Chip.goodBlocks Chip.variantMax Chip.halved; simp only [h1, h2, h3, h4, hm, hg, hf]
    unfold Chip.floorFaults; simp only [hp, hr, ha, hd, hx, hm]
  have hel : c.eligibleNow = b.eligibleNow := by unfold Chip.eligibleNow; simp only [hus, hm]
  have hwt : c.wtCauses = b.wtCauses := by
    have hz : ∀ v, c.energyAt v = b.energyAt v := fun v => by unfold Chip.energyAt Chip.vc; simp only [h8, h9, h10, h21, h22]
    have hf' : c.flushCost = b.flushCost := by unfold Chip.flushCost; rw [h12, h13]
    have hu' : c.eUsable = b.eUsable := by unfold Chip.eUsable Chip.vq; simp only [hz, ht, hq, h9, h10]
    have hm' : c.eMin = b.eMin := by unfold Chip.eMin Chip.eReserve Chip.eFull; simp only [hz, hf', h11, h14, h15, h16, h17, h18]
    have hg' : c.gaugeOut = b.gaugeOut := by unfold Chip.gaugeOut; simp only [ho, h19, h20]
    unfold Chip.wtCauses; simp only [ho, hu', hm', hg', h5, h6, h7, hk]
  exact ⟨hfl.trans h.1, by rw [hel, hs]; exact h.2.1, by rw [hwt, h5]; exact h.2.2.1, by rw [hz, htg]; exact h.2.2.2⟩

/-- Where no unit has changed and nothing is left to follow, nothing follows. -/
theorem Chip.settle_calm {b c : Chip} (hr : ∀ u, c.reported u = b.reported u) (ho : ∀ u, c.own u = b.own u)
    (hb : b.boot.maint = c.boot.maint) (h : c.calm) : b.settle c = c := by
  have hus : ∀ u, c.usable u = b.usable u := fun u => by unfold Chip.usable; rw [hr]
  have d1 : b.diesRetired c = [] := by
    unfold Chip.diesRetired; simp only [hr]
    exact List.filter_eq_nil_iff.2 fun l _ => by simp
  have d2 : b.diesOut c = [] := by
    unfold Chip.diesOut; simp only [hus]
    exact List.filter_eq_nil_iff.2 fun l _ => by simp
  have d3 : b.diesBack c = [] := by
    unfold Chip.diesBack; simp only [hus]
    exact List.filter_eq_nil_iff.2 fun l _ => by simp
  have he : ∀ {α : Type} (f : Chip → α → Chip), c.each [] f = c := fun f => rfl
  obtain ⟨h1, h2, h3, h4⟩ := h
  have hd : c.releaseDram = c := by unfold Chip.releaseDram; rw [if_neg (fun hx => absurd hx.1 (by omega))]
  unfold Chip.settle
  split
  · rfl
  · simp only [d1, d2, d3, he, h2, ho, if_true]
    simp only [ne_eq, not_true_eq_false, decide_false, List.any_eq_true, Bool.false_eq_true, and_false, exists_false, if_false,
      Bool.or_eq_true, or_false, hd, hb, h1, and_self, if_true, ho]
    have : (decide (b.own (mkUnit kRALLY 0) < 3) && decide (3 ≤ b.own (mkUnit kRALLY 0))) = false := by
      by_cases hx : b.own (mkUnit kRALLY 0) < 3 <;> simp
    have hs : (!decide (b.own (mkUnit kSTORE 0) = 3) && decide (c.own (mkUnit kSTORE 0) = 3)) = false := by
      rw [ho]; by_cases hx : b.own (mkUnit kSTORE 0) = 3 <;> simp
    have hw : c.setWt false = c := by unfold Chip.setWt; rw [if_pos h3]
    have hn : (!c.writeThrough && c.writeThrough) = false := by cases c.writeThrough <;> rfl
    simp only [this, Bool.false_eq_true, if_false, decide_not, hs, hw, hn]
    rfl

/-- A command that can change units, but whose effect leaves the units and a calm chip, completes with its effect. -/
theorem Completes.of_units {i : Instr} {s : State} {P : Chip → Prop} {t : Nat} {f : Chip → Chip} (he : exec i s = runUnits s t f)
    (hu : (f (s.chip.atTime t)).un = s.chip.un) (hf : (f (s.chip.atTime t)).fuse = s.chip.fuse)
    (hq : (f (s.chip.atTime t)).partnerStates = s.chip.partnerStates)
    (hm : s.chip.boot.maint = (f (s.chip.atTime t)).boot.maint) (hc : (f (s.chip.atTime t)).calm)
    (hp : P ((s.chip.atTime t).seal ((s.chip.atTime t).notices (f (s.chip.atTime t))))) : Completes i s P := by
  refine Completes.of_run (he.trans (runUnits_eq s t f)) ?_
  rw [Chip.settle_calm (b := s.chip.atTime t) (Chip.reported_congr hu hf hq) (Chip.own_congr hu hf) hm hc]
  exact hp

end Sys2Proof.Machine
end

