-- ==== Sys2Proof/Laws/Codeword.lean ====
section
/-! SUPPORT. What is composed for a page passes the checks that a read makes of it, and what is folded into stripe parity can be solved
from it again (R206, R207, R234, R242). -/
namespace Sys2Proof.Machine

/-! ### CRC-32C and tags -/

theorem crcBit_lt (r : Nat) (h : r < 2 ^ 32) : crcBit r < 2 ^ 32 := by
  unfold crcBit
  split
  · exact Nat.xor_lt_two_pow (by omega) (by decide)
  · omega

theorem crcOctet_lt (r o : Nat) (h : r < 2 ^ 32) (ho : o < 2 ^ 32) : crcOctet r o < 2 ^ 32 := by
  unfold crcOctet
  iterate 8 apply crcBit_lt
  exact Nat.xor_lt_two_pow h ho

theorem crc32c_lt (init : Nat) (l : List Nat) (h : init < 2 ^ 32) (hl : ∀ o ∈ l, o < 2 ^ 32) : crc32c init l < 2 ^ 32 := by
  have key : l.foldl crcOctet init < 2 ^ 32 := by
    induction l generalizing init with
    | nil => exact h
    | cons o l ih => exact ih _ (crcOctet_lt _ _ h (hl o (by simp))) fun p hp => hl p (by simp [hp])
  exact Nat.xor_lt_two_pow key (by decide)

/-- A lower part is not reached by what is put above it. -/
theorem octet_add_above (w c k i : Nat) (h : 8 * i + 8 ≤ k) : octet (w + at' c k) i = octet w i := by
  unfold octet at'
  obtain ⟨d, rfl⟩ := Nat.exists_eq_add_of_le h
  have : w + c * 2 ^ (8 * i + 8 + d) = w + 2 ^ (8 * i) * (256 * (2 ^ d * c)) := by
    rw [show 8 * i + 8 + d = 8 * i + (8 + d) by omega, Nat.pow_add, Nat.pow_add]; ring
  rw [this, Nat.add_mul_div_left _ _ (by positivity), Nat.add_mul_mod_self_left]

theorem octetsOf_add_above (w c n k : Nat) (h : 8 * n ≤ k) : octetsOf n (w + at' c k) = octetsOf n w :=
  List.map_congr_left fun i hi => octet_add_above w c k i (by have := List.mem_range.mp hi; omega)

theorem wordCrc_lt (w : Nat) : wordCrc w < 2 ^ 32 :=
  crc32c_lt _ _ (by decide) fun o ho => by
    obtain ⟨i, -, rfl⟩ := List.mem_map.mp ho
    exact lt_of_lt_of_le (Nat.mod_lt _ (by decide)) (by decide)

/-- A field above everything else of a word, read from the part of it above a. -/
theorem bits_top (w c a hi lo : Nat) (h : w < 2 ^ (a + lo)) (hc : c < 2 ^ (hi + 1 - lo)) : bits ((w + at' c (a + lo)) / 2 ^ a) hi lo = c := by
  unfold bits at'
  rw [Nat.div_div_eq_div_mul, ← Nat.pow_add, Nat.add_mul_div_right _ _ (by positivity), Nat.div_eq_of_lt h, Nat.zero_add]
  exact Nat.mod_eq_of_lt hc

/-- A word with its CRC put into its tag passes the check of R207. -/
theorem wordCrcOk_withCrc (w : Nat) (h : w < 2 ^ (32768 + 736)) : wordCrcOk (withCrc w) = true := by
  have hc : wordCrc (withCrc w) = wordCrc w := congrArg (crc32c 0xFFFFFFFF) (octetsOf_add_above _ _ _ _ (by decide))
  have hb : bits (wordTag (withCrc w)) 767 736 = wordCrc w := bits_top w _ 32768 767 736 h (wordCrc_lt w)
  unfold wordCrcOk
  rw [hc, hb, beq_self_eq_true]

theorem at'_lt (x n lo : Nat) (h : x < 2 ^ n) : at' x lo < 2 ^ (n + lo) := by
  unfold at'
  rw [Nat.pow_add]
  exact Nat.mul_lt_mul_of_pos_right h (by positivity)

theorem add_at'_lt (m x n lo : Nat) (hm : m < 2 ^ lo) (hx : x < 2 ^ n) : m + at' x lo < 2 ^ (lo + n) := by
  have h : m + at' x lo < 2 ^ lo * (x + 1) := by unfold at'; linarith [Nat.mul_comm (2 ^ lo) x]
  rw [Nat.pow_add]
  exact lt_of_lt_of_le h (Nat.mul_le_mul_left _ hx)

theorem at'_at' (x a b : Nat) : at' (at' x a) b = at' x (b + a) := by
  unfold at'
  rw [Nat.mul_assoc, ← Nat.pow_add, Nat.add_comm a b]

theorem add_at'_div (x y a : Nat) : (x + at' y a) / 2 ^ a = x / 2 ^ a + y := Nat.add_mul_div_right x y (Nat.two_pow_pos a)

theorem at'_zero (a : Nat) : at' 0 a = 0 := Nat.zero_mul _

theorem mod_pow_lt (x n : Nat) : x % 2 ^ n < 2 ^ n := Nat.mod_lt _ (Nat.two_pow_pos n)

theorem div_pow_lt (w a b : Nat) (h : w < 2 ^ (a + b)) : w / 2 ^ a < 2 ^ b :=
  (Nat.div_lt_iff_lt_mul (Nat.two_pow_pos a)).mpr (by rwa [Nat.mul_comm, ← Nat.pow_add])

theorem pow_mono (a b : Nat) (h : a ≤ b) : 2 ^ a ≤ 2 ^ b := Nat.pow_le_pow_right (by decide) h

theorem at'_add (x y a : Nat) : at' (x + y) a = at' x a + at' y a := Nat.add_mul ..

/-- A field between what lies below it and what lies above it. -/
theorem bits_field (m v r lo n : Nat) (hm : m < 2 ^ lo) (hv : v < 2 ^ (n + 1)) : bits (m + at' v lo + at' r (lo + (n + 1))) (lo + n) lo = v := by
  unfold bits at'
  rw [Nat.add_assoc, Nat.pow_add 2 lo (n + 1), show v * 2 ^ lo + r * (2 ^ lo * 2 ^ (n + 1)) = 2 ^ lo * (v + 2 ^ (n + 1) * r) by ring,
    Nat.add_mul_div_left _ _ (by positivity), Nat.div_eq_of_lt hm, Nat.zero_add, show lo + n + 1 - lo = n + 1 by omega, Nat.add_mul_mod_self_left]
  exact Nat.mod_eq_of_lt hv

/-- The data and metadata of a codeword stay below the fields of its tag. -/
theorem wordOfLbas_lt (lbaf k : Nat) (bs : List Blk) : wordOfLbas lbaf k bs < 2 ^ (32768 + 512) := by
  have low : ∀ x, wordData x < 2 ^ 32768 := fun x => mod_pow_lt x 32768
  unfold wordOfLbas
  split
  · exact add_at'_lt _ _ 512 32768 (low _) (mod_pow_lt _ 512)
  · refine add_at'_lt _ _ 512 32768 (low _) (lt_of_lt_of_le (mod_pow_lt _ _) (pow_mono _ 512 ?_))
    split
    · decide
    · split <;> decide

/-- The CRC of a unit's codeword agrees (R206, R207). -/
theorem wordCrcOk_unitWord (unit wseq fmt nsid k : Nat) (bs : List Blk) (hf : fmt < 16) (hn : nsid < 2 ^ 16) (hk : k < 4) :
    wordCrcOk (unitWord unit wseq fmt nsid k bs) = true := by
  refine wordCrcOk_withCrc _ ?_
  rw [at'_add, at'_add, at'_add, at'_at', at'_at', at'_at', at'_at', ← Nat.add_assoc, ← Nat.add_assoc, ← Nat.add_assoc]
  have h1 := add_at'_lt _ (unit % 2 ^ 35) 35 (32768 + 512) (wordOfLbas_lt fmt k bs) (mod_pow_lt _ 35)
  have h2 := add_at'_lt _ (wseq % 2 ^ 32) 32 (32768 + 552) (lt_of_lt_of_le h1 (pow_mono _ _ (by decide))) (mod_pow_lt _ 32)
  have h3 := add_at'_lt _ (k + 16 * fmt) 8 (32768 + 584) (lt_of_lt_of_le h2 (pow_mono _ _ (by decide))) (by omega)
  have h4 := add_at'_lt _ nsid 16 (32768 + 592) (lt_of_lt_of_le h3 (pow_mono _ _ (by decide))) hn
  exact lt_of_lt_of_le h4 (pow_mono _ _ (by decide))

/-- The fields of a tag, from the lowest. -/
theorem wordTag_unitWord (unit wseq fmt nsid k : Nat) (bs : List Blk) (hu : unit < 2 ^ 35) : ∃ m < 2 ^ 512, ∃ r,
    wordTag (unitWord unit wseq fmt nsid k bs) = m + at' unit 512 + at' (wseq % 2 ^ 32) 552 + at' (k + at' fmt 4) 584 + at' r 592 := by
  let w := wordOfLbas fmt k bs
  have hm : w / 2 ^ 32768 < 2 ^ 512 := div_pow_lt w 32768 512 (wordOfLbas_lt fmt k bs)
  refine ⟨_, hm, nsid + at' (wordCrc (w + at' (at' (unit % 2 ^ 35) 512 + at' (wseq % 2 ^ 32) 552 + at' (k + 16 * fmt) 584 + at' nsid 592) 32768)) 144, ?_⟩
  unfold unitWord withCrc wordTag
  rw [show at' fmt 4 = 16 * fmt from Nat.mul_comm fmt 16]
  rw [Nat.mod_eq_of_lt hu, ← at'_at' (wordCrc _) 736 32768, Nat.add_assoc, ← at'_add]
  rw [add_at'_div, at'_add nsid, at'_at']
  ring

/-- The tag of a unit's codeword names it (R206, R207). -/
theorem wordTagOk_unitWord (unit wseq fmt nsid k : Nat) (bs : List Blk) (hu : unit < 2 ^ 35) (hk : k < 4) :
    wordTagOk (unitWord unit wseq fmt nsid k bs) unit k = true := by
  obtain ⟨m, hm, r, ht⟩ := wordTag_unitWord unit wseq fmt nsid k bs hu
  have hU : m + at' unit 512 < 2 ^ (512 + 35) := add_at'_lt m unit 35 512 hm hu
  have hS : m + at' unit 512 + at' (wseq % 2 ^ 32) 552 < 2 ^ 584 := lt_of_lt_of_le (
    add_at'_lt _ _ 32 552 (lt_of_lt_of_le hU (pow_mono (512 + 35) 552 (by decide))) (mod_pow_lt _ 32)) (pow_mono (552 + 32) 584 (by decide))
  have h1 : tagUnit (unitWord unit wseq fmt nsid k bs) = unit := by
    unfold tagUnit
    rw [ht, show m + at' unit 512 + at' (wseq % 2 ^ 32) 552 + at' (k + at' fmt 4) 584 + at' r 592
      = m + at' unit 512 + at' (at' (wseq % 2 ^ 32) 5 + at' (k + at' fmt 4) 37 + at' r 45) (512 + (34 + 1)) by
        simp only [at'_add, at'_at']; ring]
    exact bits_field m unit _ 512 34 hm hu
  have h2 : tagPos (unitWord unit wseq fmt nsid k bs) = k := by
    unfold tagPos
    rw [ht, show m + at' unit 512 + at' (wseq % 2 ^ 32) 552 + at' (k + at' fmt 4) 584 + at' r 592
      = m + at' unit 512 + at' (wseq % 2 ^ 32) 552 + at' k 584 + at' (at' fmt 2 + at' r 6) (584 + (1 + 1)) by
        simp only [at'_add, at'_at']; ring]
    exact bits_field _ k _ 584 1 hS (by omega)
  have h3 : tagKind (unitWord unit wseq fmt nsid k bs) = 0 := by
    unfold tagKind
    rw [ht, show m + at' unit 512 + at' (wseq % 2 ^ 32) 552 + at' (k + at' fmt 4) 584 + at' r 592
      = m + at' unit 512 + at' (wseq % 2 ^ 32) 552 + at' k 584 + at' 0 586 + at' (fmt + at' r 4) (586 + (1 + 1)) by
        simp only [at'_add, at'_at', at'_zero]; ring]
    exact bits_field _ 0 _ 586 1 (lt_of_lt_of_le (add_at'_lt _ k 2 584 hS hk) (pow_mono (584 + 2) 586 (by decide))) (by decide)
  simp [wordTagOk, h1, h2, h3]

/-! ### The field of R234 -/

theorem gfDouble_lt (a : Nat) (h : a < 256) : gfDouble a < 256 := by
  have key : ∀ a < 256, gfDouble a < 256 := by decide +kernel
  exact key a h

theorem gfPow_lt (a j : Nat) (h : a < 256) : gfPow a j < 256 := by
  induction j with
  | zero => exact h
  | succ j ih => exact gfDouble_lt _ ih

/-- g has order 255. -/
theorem gfPow_255 (a : Nat) (h : a < 256) : gfPow a 255 = a := by
  have key : ∀ a < 256, gfPow a 255 = a := by decide +kernel
  exact key a h

theorem gfPow_add (a i j : Nat) : gfPow (gfPow a i) j = gfPow a (i + j) := by
  induction j with
  | zero => rfl
  | succ j ih => rw [gfPow, ih]; rfl

/-- Division by g^j undoes multiplication by it. -/
theorem gfOver_mul (j : Nat) (l : List Nat) (hj : j < 255) (hl : ∀ o ∈ l, o < 256) : gfOver j (l.map fun o => gfPow o j) = l := by
  have key : ∀ o ∈ l, gfPow (gfPow o j) (255 - j) = o := fun o ho => by
    rw [gfPow_add, show j + (255 - j) = 255 by omega, gfPow_255 o (hl o ho)]
  simp only [gfOver, List.map_map, Function.comp_def]
  exact (List.map_congr_left key).trans (List.map_id' l)

/-- Doubling is linear: a shift, with the reduction where an octet overflows. -/
theorem gfDouble_eq (a : Nat) (h : a < 256) : gfDouble a = (a <<< 1) ^^^ (0x11D * (a >>> 7)) := by
  have key : ∀ a < 256, gfDouble a = (a <<< 1) ^^^ (0x11D * (a >>> 7)) := by decide +kernel
  exact key a h

theorem gfDouble_xor (a b : Nat) (ha : a < 256) (hb : b < 256) : gfDouble (a ^^^ b) = gfDouble a ^^^ gfDouble b := by
  have hm : ∀ x < 2, ∀ y < 2, 0x11D * (x ^^^ y) = (0x11D * x) ^^^ (0x11D * y) := by decide
  have hs : ∀ z < 256, z >>> 7 < 2 := fun z hz => by rw [Nat.shiftRight_eq_div_pow]; omega
  rw [gfDouble_eq _ (Nat.xor_lt_two_pow (n := 8) ha hb), gfDouble_eq _ ha, gfDouble_eq _ hb, Nat.shiftLeft_xor_distrib,
    Nat.shiftRight_xor_distrib, hm _ (hs a ha) _ (hs b hb)]
  ac_rfl

theorem gfPow_xor (a b j : Nat) (ha : a < 256) (hb : b < 256) : gfPow (a ^^^ b) j = gfPow a j ^^^ gfPow b j := by
  induction j with
  | zero => rfl
  | succ j ih => rw [gfPow, ih, gfDouble_xor _ _ (gfPow_lt a j ha) (gfPow_lt b j hb)]; rfl

/-- A sum of two powers of g that is a third acts so on every octet. -/
theorem gfPow_sum (a b e : Nat) (h : gfPow 1 e = gfPow 1 a ^^^ gfPow 1 b) (o : Nat) (ho : o < 256) :
    gfPow o e = gfPow o a ^^^ gfPow o b := by
  have zero : ∀ j, gfPow 0 j = 0 := fun j => by
    induction j with
    | zero => rfl
    | succ j ih => rw [gfPow, ih]; rfl
  have swap : ∀ q j, gfPow (gfDouble q) j = gfDouble (gfPow q j) := fun q j => by
    have := gfPow_add q 1 j
    rwa [Nat.add_comm, show gfPow q (j + 1) = gfDouble (gfPow q j) from rfl] at this
  induction o using Nat.strong_induction_on with
  | _ o ih =>
    rcases Nat.lt_or_ge o 2 with h2 | h2
    · obtain rfl | rfl : o = 0 ∨ o = 1 := by omega
      · simp [zero]
      · exact h
    · have split : o = gfDouble (o / 2) ^^^ (o % 2) := by
        have key : ∀ x < 256, x = gfDouble (x / 2) ^^^ (x % 2) := by decide +kernel
        exact key o ho
      have hq := ih (o / 2) (by omega) (by omega)
      have hr := ih (o % 2) (by omega) (by omega)
      have lt : ∀ j, gfPow (o / 2) j < 256 := fun j => gfPow_lt _ j (by omega)
      have lq : gfDouble (o / 2) < 256 := gfDouble_lt _ (by omega)
      rw [split, gfPow_xor _ _ e lq (by omega), gfPow_xor _ _ a lq (by omega), gfPow_xor _ _ b lq (by omega), hr,
        swap, swap, swap, hq, gfDouble_xor _ _ (lt a) (lt b)]
      ac_rfl

/-- Below 255 every power of g but the first differs from 1, so that the powers are all the octets but 0. -/
theorem gfPow_one_ne (k : Nat) (h : 0 < k) (hk : k < 255) : gfPow 1 k ≠ 1 := by
  have key : ∀ k < 255, 0 < k → gfPow 1 k ≠ 1 := by decide +kernel
  exact key k hk h

theorem gfPow_one_inj (i j : Nat) (hi : i < 255) (hj : j < 255) (h : gfPow 1 i = gfPow 1 j) : i = j := by
  have key : ∀ i j, i < j → j < 255 → gfPow 1 i ≠ gfPow 1 j := fun i j hij hj h => by
    have e := congrArg (gfPow · (255 - i)) h
    simp only [gfPow_add] at e
    rw [show i + (255 - i) = 255 by omega, show j + (255 - i) = 255 + (j - i) by omega, gfPow_255 1 (by decide), ← gfPow_add,
      gfPow_255 1 (by decide)] at e
    exact gfPow_one_ne _ (by omega) (by omega) e.symm
  rcases Nat.lt_trichotomy i j with h1 | h1 | h1
  · exact absurd h (key i j h1 hj)
  · exact h1
  · exact absurd h.symm (key j i h1 hi)

theorem gfPow_one_ne_zero (k : Nat) (hk : k < 255) : gfPow 1 k ≠ 0 := by
  have key : ∀ k < 255, gfPow 1 k ≠ 0 := by decide +kernel
  exact key k hk

theorem gfPow_one_surj (x : Nat) (h0 : x ≠ 0) (hx : x < 256) : ∃ e < 255, gfPow 1 e = x := by
  have sub : (Finset.range 255).image (gfPow 1) ⊆ Finset.Ioo 0 256 := fun y hy => by
    obtain ⟨e, he, rfl⟩ := Finset.mem_image.mp hy
    exact Finset.mem_Ioo.mpr ⟨Nat.pos_of_ne_zero (gfPow_one_ne_zero e (Finset.mem_range.mp he)), gfPow_lt 1 e (by decide)⟩
  have card : ((Finset.range 255).image (gfPow 1)).card = 255 := by
    rw [Finset.card_image_of_injOn fun i hi j hj h => gfPow_one_inj i j (by simpa using hi) (by simpa using hj) h, Finset.card_range]
  have all := Finset.eq_of_subset_of_card_le sub (by rw [card, Nat.card_Ioo])
  obtain ⟨e, he, h⟩ := Finset.mem_image.mp (all ▸ Finset.mem_Ioo.mpr ⟨Nat.pos_of_ne_zero h0, hx⟩)
  exact ⟨e, Finset.mem_range.mp he, h⟩

/-- gfLogSum is what it says. -/
theorem gfPow_gfLogSum (a b : Nat) (ha : a < 255) (hb : b < 255) (h : a ≠ b) :
    gfLogSum a b < 255 ∧ gfPow 1 (gfLogSum a b) = gfPow 1 a ^^^ gfPow 1 b := by
  have hx : gfPow 1 a ^^^ gfPow 1 b ≠ 0 := fun e => h (gfPow_one_inj a b ha hb (Nat.xor_eq_zero_iff.mp e))
  obtain ⟨e, he, hv⟩ := gfPow_one_surj _ hx (Nat.xor_lt_two_pow (n := 8) (gfPow_lt 1 a (by decide)) (gfPow_lt 1 b (by decide)))
  unfold gfLogSum
  cases hf : (List.range 255).find? fun e => decide (gfPow 1 e = Nat.xor (gfPow 1 a) (gfPow 1 b)) with
  | none => exact absurd hv (by simpa using List.find?_eq_none.mp hf e (List.mem_range.mpr he))
  | some f =>
    have hm := List.mem_of_find?_eq_some hf
    have hp := List.find?_some hf
    exact ⟨by simpa using hm, by simpa using hp⟩

/-! ### Folding and solving (R242) -/

theorem xorOctets_eq (a b : List Nat) : xorOctets a b = List.zipWith (· ^^^ ·) a b := by
  unfold xorOctets
  rw [List.zip_eq_zipWith, List.map_zipWith]; rfl

theorem xorOctets_right_comm (a b c : List Nat) : xorOctets (xorOctets a b) c = xorOctets (xorOctets a c) b := by
  simp only [xorOctets_eq]
  induction a generalizing b c with
  | nil => simp
  | cons x a ih => cases b <;> cases c <;> simp [ih, Nat.xor_right_comm]

theorem xorOctets_self_right (a b : List Nat) (h : a.length ≤ b.length) : xorOctets (xorOctets a b) b = a := by
  simp only [xorOctets_eq]
  induction a generalizing b with
  | nil => simp
  | cons x a ih =>
    cases b with
    | nil => simp at h
    | cons y b => simpa [Nat.xor_assoc] using ih b (by simpa using h)

/-- The XOR of octets with themselves is zero. -/
theorem isZero_xorOctets_self (l : List Nat) : isZero (xorOctets l l) = true := by
  rw [xorOctets_eq, List.zipWith_self]
  simp [isZero]

theorem xorOctets_length (a b : List Nat) : (xorOctets a b).length = min a.length b.length := by simp [xorOctets]

theorem noOctets_xor (d : List Nat) (h : d.length = cwOctets) : xorOctets noOctets d = d := by
  have key : ∀ n : Nat, ∀ d : List Nat, d.length = n → List.zipWith (· ^^^ ·) (List.replicate n 0) d = d := fun n => by
    induction n with
    | zero => intro d hd; simp [List.length_eq_zero_iff.mp hd]
    | succ n ih =>
      intro d hd
      cases d with
      | nil => simp at hd
      | cons o d => simpa [List.replicate_succ] using ih d (by simpa using hd)
  rw [xorOctets_eq]
  exact key _ d h

/-- Folding some members and one more octet list commute. -/
theorem foldl_xor_comm (l : List (List Nat)) (p d : List Nat) : l.foldl xorOctets (xorOctets p d) = xorOctets (l.foldl xorOctets p) d := by
  induction l generalizing p with
  | nil => rfl
  | cons x l ih => rw [List.foldl_cons, xorOctets_right_comm, ih]; rfl

theorem foldl_xor_length (l : List (List Nat)) (p : List Nat) (h : ∀ x ∈ l, x.length = p.length) : (l.foldl xorOctets p).length = p.length := by
  induction l generalizing p with
  | nil => rfl
  | cons x l ih =>
    have hx := h x (by simp)
    have hl : (xorOctets p x).length = p.length := by rw [xorOctets_length, hx, Nat.min_self]
    rw [List.foldl_cons, ih _ fun y hy => by rw [hl]; exact h y (by simp [hy]), hl]

/-- Folding the same members twice leaves what was there. -/
theorem foldl_xor_twice (l : List (List Nat)) (p : List Nat) (h : ∀ x ∈ l, x.length = p.length) : l.foldl xorOctets (l.foldl xorOctets p) = p := by
  induction l generalizing p with
  | nil => rfl
  | cons x l ih =>
    have hx := h x (by simp)
    have hl : (xorOctets p x).length = p.length := by rw [xorOctets_length, hx, Nat.min_self]
    rw [List.foldl_cons, List.foldl_cons, foldl_xor_comm l p x]
    rw [xorOctets_self_right _ _ (by rw [foldl_xor_length l p fun y hy => h y (by simp [hy]), hx]), ih p fun y hy => h y (by simp [hy])]

theorem xorOctets_comm (a b : List Nat) : xorOctets a b = xorOctets b a := by
  rw [xorOctets_eq, xorOctets_eq]
  exact List.zipWith_comm_of_comm fun x y => Nat.xor_comm x y

theorem xorOctets_assoc (a b c : List Nat) : xorOctets (xorOctets a b) c = xorOctets a (xorOctets b c) := by
  simp only [xorOctets_eq]
  induction a generalizing b c with
  | nil => simp
  | cons x a ih => cases b <;> cases c <;> simp [ih, Nat.xor_assoc]

/-- Members folded onto nothing with one more, and then folded in again, leave that one. -/
theorem foldl_xor_rest (l : List (List Nat)) (d : List Nat) (hl : ∀ x ∈ l, x.length = cwOctets) (hd : d.length = cwOctets) :
    l.foldl xorOctets ((l ++ [d]).foldl xorOctets noOctets) = d := by
  have hz : noOctets.length = cwOctets := List.length_replicate
  rw [List.foldl_append, List.foldl_cons, List.foldl_nil, foldl_xor_comm, foldl_xor_twice l noOctets fun x hx => by rw [hl x hx, hz],
    noOctets_xor d hd]

/-- The same with two more: their sum is left. -/
theorem foldl_xor_rest2 (l : List (List Nat)) (d e : List Nat) (hl : ∀ x ∈ l, x.length = cwOctets) (hd : d.length = cwOctets) :
    l.foldl xorOctets ((l ++ [d, e]).foldl xorOctets noOctets) = xorOctets d e := by
  rw [show l ++ [d, e] = (l ++ [d]) ++ [e] by simp, List.foldl_append, List.foldl_cons, List.foldl_nil, foldl_xor_comm,
    foldl_xor_rest l d hl hd]

theorem syndromeQ_eq (data : List (Nat × List Nat)) (q : List Nat) : syndromeQ data q = (data.map inQ).foldl xorOctets q := by
  rw [List.foldl_map]; rfl

theorem map_gfPow_xor (a b : List Nat) (j : Nat) (ha : ∀ o ∈ a, o < 256) (hb : ∀ o ∈ b, o < 256) :
    (xorOctets a b).map (fun o => gfPow o j) = xorOctets (a.map fun o => gfPow o j) (b.map fun o => gfPow o j) := by
  simp only [xorOctets_eq]
  induction a generalizing b with
  | nil => simp
  | cons x a ih =>
    cases b with
    | nil => simp
    | cons y b => simp [gfPow_xor x y j (ha x (by simp)) (hb y (by simp)),
        ih b (fun o ho => ha o (by simp [ho])) fun o ho => hb o (by simp [ho])]

theorem map_gfPow_sum (d : List Nat) (a b e : Nat) (h : gfPow 1 e = gfPow 1 a ^^^ gfPow 1 b) (hd : ∀ o ∈ d, o < 256) :
    xorOctets (d.map fun o => gfPow o a) (d.map fun o => gfPow o b) = d.map fun o => gfPow o e := by
  rw [xorOctets_eq, List.zipWith_map, List.zipWith_self]
  exact List.map_congr_left fun o ho => (gfPow_sum a b e h o (hd o ho)).symm

/-- One missing data member is solved from P. -/
theorem solveData_fromP (known : List (Nat × List Nat)) (a : Nat) (d : List Nat) (q : Option (List Nat))
    (hk : ∀ p ∈ known, p.2.length = cwOctets) (hd : d.length = cwOctets) :
    solveData known [a] (some (parityP (known ++ [(a, d)]))) q = known ++ [(a, d)] := by
  have key : syndromeP (known.map Prod.snd) (parityP (known ++ [(a, d)])) = d := by
    unfold parityP syndromeP
    rw [List.map_append]
    exact foldl_xor_rest _ d (fun x hx => by obtain ⟨p, hp, rfl⟩ := List.mem_map.mp hx; exact hk p hp) hd
  simp only [solveData, Option.map_some, key]

/-- One missing data member is solved from Q where P is missing too. -/
theorem solveData_fromQ (known : List (Nat × List Nat)) (a : Nat) (d : List Nat) (ha : a < 255)
    (hk : ∀ p ∈ known, p.2.length = cwOctets) (hd : d.length = cwOctets) (ho : ∀ o ∈ d, o < 256) :
    solveData known [a] none (some (parityQ (known ++ [(a, d)]))) = known ++ [(a, d)] := by
  have key : syndromeQ known (parityQ (known ++ [(a, d)])) = inQ (a, d) := by
    unfold parityQ
    rw [syndromeQ_eq, syndromeQ_eq, List.map_append]
    exact foldl_xor_rest _ _ (fun x hx => by obtain ⟨p, hp, rfl⟩ := List.mem_map.mp hx; simpa [inQ] using hk p hp) (by simpa [inQ] using hd)
  simp only [solveData, Option.map_some, Option.map_none, key]
  rw [show gfOver a (inQ (a, d)) = d from gfOver_mul a d ha ho]

/-- Two missing data members are solved from P and Q. -/
theorem solveData_fromPQ (known : List (Nat × List Nat)) (a b : Nat) (d e : List Nat) (ha : a < 255) (hb : b < 255) (hab : a ≠ b)
    (hk : ∀ p ∈ known, p.2.length = cwOctets) (hd : d.length = cwOctets) (he : e.length = cwOctets)
    (ho : ∀ o ∈ d, o < 256) (hp : ∀ o ∈ e, o < 256) :
    solveData known [a, b] (some (parityP (known ++ [(a, d), (b, e)]))) (some (parityQ (known ++ [(a, d), (b, e)])))
      = known ++ [(a, d), (b, e)] := by
  have hs : syndromeP (known.map Prod.snd) (parityP (known ++ [(a, d), (b, e)])) = xorOctets d e := by
    unfold parityP syndromeP
    rw [List.map_append]
    exact foldl_xor_rest2 _ d e (fun x hx => by obtain ⟨p, hp, rfl⟩ := List.mem_map.mp hx; exact hk p hp) hd
  have ht : syndromeQ known (parityQ (known ++ [(a, d), (b, e)])) = xorOctets (inQ (a, d)) (inQ (b, e)) := by
    unfold parityQ
    rw [syndromeQ_eq, syndromeQ_eq, List.map_append]
    exact foldl_xor_rest2 _ _ _ (fun x hx => by obtain ⟨p, hp, rfl⟩ := List.mem_map.mp hx; simpa [inQ] using hk p hp)
      (by simpa [inQ] using hd)
  obtain ⟨hlt, hsum⟩ := gfPow_gfLogSum a b ha hb hab
  have hda : gfOver (gfLogSum a b) (xorOctets (xorOctets (inQ (a, d)) (inQ (b, e))) ((xorOctets d e).map fun o => gfPow o b)) = d := by
    have hx : xorOctets (xorOctets (inQ (a, d)) (inQ (b, e))) ((xorOctets d e).map fun o => gfPow o b)
        = d.map fun o => gfPow o (gfLogSum a b) := by
      rw [map_gfPow_xor d e b ho hp, ← map_gfPow_sum d a b _ hsum ho, xorOctets_comm (d.map _) (e.map _), ← xorOctets_assoc,
        show xorOctets (xorOctets (inQ (a, d)) (inQ (b, e))) (e.map fun o => gfPow o b) = inQ (a, d) from
          xorOctets_self_right _ (inQ (b, e)) (by simp [inQ, hd, he])]
      rfl
    rw [hx, gfOver_mul _ d hlt ho]
  simp only [solveData, Option.map_some, hs, ht, hda]
  rw [xorOctets_comm d e, xorOctets_self_right e d (by omega)]

end Sys2Proof.Machine
end

