-- ==== Sys2Proof/Laws/Form.lean ====
section
/-! SUPPORT. The form that every command has: it runs an effect at a moment; START alone takes its effect without notices. -/
namespace Sys2Proof.Machine

theorem form_of {i : Instr} {s : State} {t : Nat} {f : Chip → Chip} (h : exec i s = run s t f) : ∃ t f, exec i s = run s t f := ⟨t, f, h⟩

/-- Every command but START runs an effect on the chip at a moment. -/
theorem exec_form (i : Instr) (s : State) : (∃ t f, exec i s = run s t f) ∨ ∃ t inp, i = .start t inp := by
  cases i
  case doorbellWrite => exact .inl (form_of (by rw [exec_doorbellWrite]; unfold execDoorbellWrite; rfl))
  case fetch => exact .inl (form_of (by rw [exec_fetch]; unfold execFetch; rfl))
  case admission => exact .inl (form_of (by rw [exec_admission]; unfold execAdmission; rfl))
  case admitWaitExpiry => exact .inl (form_of (by rw [exec_admitWaitExpiry]; unfold execAdmitWaitExpiry; rfl))
  case rangeLockGrant => exact .inl (form_of (by rw [exec_rangeLockGrant]; unfold execRangeLockGrant; rfl))
  case commitPoint => exact .inl (form_of (by rw [exec_commitPoint]; unfold execCommitPoint; rfl))
  case completionPost => exact .inl (form_of (by rw [exec_completionPost]; unfold execCompletionPost; rfl))
  case deadlineExpired => exact .inl (form_of (by rw [exec_deadlineExpired]; unfold execDeadlineExpired; rfl))
  case class2LateLimit => exact .inl (form_of (by rw [exec_class2LateLimit]; unfold execClass2LateLimit; rfl))
  case completionTimeout => exact .inl (form_of (by rw [exec_completionTimeout]; unfold execCompletionTimeout; unfold runUnits; rfl))
  case errorCompletionReceived => exact .inl (form_of (by rw [exec_errorCompletionReceived]; unfold execErrorCompletionReceived; unfold runUnits; rfl))
  case poisonedWriteReceived => exact .inl (form_of (by rw [exec_poisonedWriteReceived]; unfold execPoisonedWriteReceived; rfl))
  case createIoSubmissionQueue => exact .inl (form_of (by rw [exec_createIoSubmissionQueue]; unfold execCreateIoSubmissionQueue; rfl))
  case deleteIoSubmissionQueue => exact .inl (form_of (by rw [exec_deleteIoSubmissionQueue]; unfold execDeleteIoSubmissionQueue; rfl))
  case createIoCompletionQueue => exact .inl (form_of (by rw [exec_createIoCompletionQueue]; unfold execCreateIoCompletionQueue; rfl))
  case deleteIoCompletionQueue => exact .inl (form_of (by rw [exec_deleteIoCompletionQueue]; unfold execDeleteIoCompletionQueue; rfl))
  case getLogPage => exact .inl (form_of (by rw [exec_getLogPage]; unfold execGetLogPage; rfl))
  case identify => exact .inl (form_of (by rw [exec_identify]; unfold execIdentify; rfl))
  case abort => exact .inl (form_of (by rw [exec_abort]; unfold execAbort; rfl))
  case setFeaturesArbitration => exact .inl (form_of (by rw [exec_setFeaturesArbitration]; unfold execSetFeaturesArbitration; rfl))
  case setFeaturesPowerManagement => exact .inl (form_of (by rw [exec_setFeaturesPowerManagement]; unfold execSetFeaturesPowerManagement; rfl))
  case setFeaturesTemperatureThreshold => exact .inl (form_of (by rw [exec_setFeaturesTemperatureThreshold]; unfold execSetFeaturesTemperatureThreshold; rfl))
  case setFeaturesNumberOfQueues => exact .inl (form_of (by rw [exec_setFeaturesNumberOfQueues]; unfold execSetFeaturesNumberOfQueues; rfl))
  case setFeaturesInterruptCoalescing => exact .inl (form_of (by rw [exec_setFeaturesInterruptCoalescing]; unfold execSetFeaturesInterruptCoalescing; rfl))
  case setFeaturesInterruptVectorConfig => exact .inl (form_of (by rw [exec_setFeaturesInterruptVectorConfig]; unfold execSetFeaturesInterruptVectorConfig; rfl))
  case setFeaturesApst => exact .inl (form_of (by rw [exec_setFeaturesApst]; unfold execSetFeaturesApst; rfl))
  case setFeaturesOther => exact .inl (form_of (by rw [exec_setFeaturesOther]; unfold execSetFeaturesOther; rfl))
  case getFeatures => exact .inl (form_of (by rw [exec_getFeatures]; unfold execGetFeatures; rfl))
  case asynchronousEventRequest => exact .inl (form_of (by rw [exec_asynchronousEventRequest]; unfold execAsynchronousEventRequest; rfl))
  case namespaceCreate => exact .inl (form_of (by rw [exec_namespaceCreate]; unfold execNamespaceCreate; rfl))
  case namespaceDelete => exact .inl (form_of (by rw [exec_namespaceDelete]; unfold execNamespaceDelete; rfl))
  case namespaceAttach => exact .inl (form_of (by rw [exec_namespaceAttach]; unfold execNamespaceAttach; rfl))
  case namespaceDetach => exact .inl (form_of (by rw [exec_namespaceDetach]; unfold execNamespaceDetach; rfl))
  case firmwareImageDownload => exact .inl (form_of (by rw [exec_firmwareImageDownload]; unfold execFirmwareImageDownload; rfl))
  case firmwareCommitReplace => exact .inl (form_of (by rw [exec_firmwareCommitReplace]; unfold execFirmwareCommitReplace; rfl))
  case firmwareCommitReplaceActivate => exact .inl (form_of (by rw [exec_firmwareCommitReplaceActivate]; unfold execFirmwareCommitReplaceActivate; rfl))
  case firmwareCommitActivate => exact .inl (form_of (by rw [exec_firmwareCommitActivate]; unfold execFirmwareCommitActivate; rfl))
  case firmwareCommitActivateNoReset => exact .inl (form_of (by rw [exec_firmwareCommitActivateNoReset]; unfold execFirmwareCommitActivateNoReset; rfl))
  case firmwareCommitInvalid => exact .inl (form_of (by rw [exec_firmwareCommitInvalid]; unfold execFirmwareCommitInvalid; rfl))
  case fwaDrainLimitExpiry => exact .inl (form_of (by rw [exec_fwaDrainLimitExpiry]; unfold execFwaDrainLimitExpiry; rfl))
  case deviceSelfTestShort => exact .inl (form_of (by rw [exec_deviceSelfTestShort]; unfold execDeviceSelfTestShort; rfl))
  case deviceSelfTestExtended => exact .inl (form_of (by rw [exec_deviceSelfTestExtended]; unfold execDeviceSelfTestExtended; rfl))
  case deviceSelfTestAbort => exact .inl (form_of (by rw [exec_deviceSelfTestAbort]; unfold execDeviceSelfTestAbort; rfl))
  case doorbellBufferConfig => exact .inl (form_of (by rw [exec_doorbellBufferConfig]; unfold execDoorbellBufferConfig; rfl))
  case formatNvm => exact .inl (form_of (by rw [exec_formatNvm]; unfold execFormatNvm; rfl))
  case sanitizeCryptoErase => exact .inl (form_of (by rw [exec_sanitizeCryptoErase]; unfold execSanitizeCryptoErase; unfold runUnits; rfl))
  case sanitizeBlockErase => exact .inl (form_of (by rw [exec_sanitizeBlockErase]; unfold execSanitizeBlockErase; unfold runUnits; rfl))
  case sanitizeOverwrite => exact .inl (form_of (by rw [exec_sanitizeOverwrite]; unfold execSanitizeOverwrite; unfold runUnits; rfl))
  case dictionarySet => exact .inl (form_of (by rw [exec_dictionarySet]; unfold execDictionarySet; unfold runUnits; rfl))
  case dictionaryGet => exact .inl (form_of (by rw [exec_dictionaryGet]; unfold execDictionaryGet; rfl))
  case pairControlStatus => exact .inl (form_of (by rw [exec_pairControlStatus]; unfold execPairControlStatus; rfl))
  case pairControlChooseSource => exact .inl (form_of (by rw [exec_pairControlChooseSource]; unfold execPairControlChooseSource; rfl))
  case pairControlDetach => exact .inl (form_of (by rw [exec_pairControlDetach]; unfold execPairControlDetach; rfl))
  case pairControlRejoin => exact .inl (form_of (by rw [exec_pairControlRejoin]; unfold execPairControlRejoin; rfl))
  case flush => exact .inl (form_of (by rw [exec_flush]; unfold execFlush; rfl))
  case write => exact .inl (form_of (by rw [exec_write]; unfold execWrite; rfl))
  case compare => exact .inl (form_of (by rw [exec_compare]; unfold execCompare; rfl))
  case read => exact .inl (form_of (by rw [exec_read]; unfold execRead; rfl))
  case writeZeroes => exact .inl (form_of (by rw [exec_writeZeroes]; unfold execWriteZeroes; rfl))
  case verify => exact .inl (form_of (by rw [exec_verify]; unfold execVerify; rfl))
  case datasetManagement => exact .inl (form_of (by rw [exec_datasetManagement]; unfold execDatasetManagement; rfl))
  case segmentRead => exact .inl (form_of (by rw [exec_segmentRead]; unfold execSegmentRead; rfl))
  case scorebookPut => exact .inl (form_of (by rw [exec_scorebookPut]; unfold execScorebookPut; rfl))
  case scorebookDrop => exact .inl (form_of (by rw [exec_scorebookDrop]; unfold execScorebookDrop; rfl))
  case scorebookLook => exact .inl (form_of (by rw [exec_scorebookLook]; unfold execScorebookLook; rfl))
  case ccEnable => exact .inl (form_of (by rw [exec_ccEnable]; unfold execCcEnable; rfl))
  case controllerReset => exact .inl (form_of (by rw [exec_controllerReset]; unfold execControllerReset; unfold runUnits; rfl))
  case shutdownNormal => exact .inl (form_of (by rw [exec_shutdownNormal]; unfold execShutdownNormal; rfl))
  case shutdownAbrupt => exact .inl (form_of (by rw [exec_shutdownAbrupt]; unfold execShutdownAbrupt; rfl))
  case cmbEnable => exact .inl (form_of (by rw [exec_cmbEnable]; unfold execCmbEnable; rfl))
  case fullFundamentalReset => exact .inl (form_of (by rw [exec_fullFundamentalReset]; unfold execFullFundamentalReset; rfl))
  case portReset => exact .inl (form_of (by rw [exec_portReset]; unfold execPortReset; unfold runUnits; rfl))
  case flrInitiate => exact .inl (form_of (by rw [exec_flrInitiate]; unfold execFlrInitiate; rfl))
  case flrDrainDone => exact .inl (form_of (by rw [exec_flrDrainDone]; unfold execFlrDrainDone; rfl))
  case d3hotEntry => exact .inl (form_of (by rw [exec_d3hotEntry]; unfold execD3hotEntry; rfl))
  case d0Entry => exact .inl (form_of (by rw [exec_d0Entry]; unfold execD0Entry; rfl))
  case vfEnableClear => exact .inl (form_of (by rw [exec_vfEnableClear]; unfold execVfEnableClear; rfl))
  case pmeTurnOff => exact .inl (form_of (by rw [exec_pmeTurnOff]; unfold execPmeTurnOff; rfl))
  case l1Exit => exact .inl (form_of (by rw [exec_l1Exit]; unfold execL1Exit; rfl))
  case doeAbort => exact .inl (form_of (by rw [exec_doeAbort]; unfold execDoeAbort; rfl))
  case perstDeassertion => exact .inl (form_of (by rw [exec_perstDeassertion]; unfold execPerstDeassertion; rfl))
  case linkTrained => exact .inl (form_of (by rw [exec_linkTrained]; unfold execLinkTrained; unfold runUnits; rfl))
  case l0pWidthRequest => exact .inl (form_of (by rw [exec_l0pWidthRequest]; unfold execL0pWidthRequest; rfl))
  case l0pWidthChange => exact .inl (form_of (by rw [exec_l0pWidthChange]; unfold execL0pWidthChange; rfl))
  case aspmL1Entry => exact .inl (form_of (by rw [exec_aspmL1Entry]; unfold execAspmL1Entry; rfl))
  case mpsChange => exact .inl (form_of (by rw [exec_mpsChange]; unfold execMpsChange; rfl))
  case doeRequest => exact .inl (form_of (by rw [exec_doeRequest]; unfold execDoeRequest; rfl))
  case octSelect => exact .inl (form_of (by rw [exec_octSelect]; unfold execOctSelect; rfl))
  case octCommit => exact .inl (form_of (by rw [exec_octCommit]; unfold execOctCommit; unfold runUnits; rfl))
  case cellDword0Read => exact .inl (form_of (by rw [exec_cellDword0Read]; unfold execCellDword0Read; rfl))
  case cellUpperWrite => exact .inl (form_of (by rw [exec_cellUpperWrite]; unfold execCellUpperWrite; rfl))
  case cellDword0Write => exact .inl (form_of (by rw [exec_cellDword0Write]; unfold execCellDword0Write; unfold runUnits; rfl))
  case dictionaryWrite => exact .inl (form_of (by rw [exec_dictionaryWrite]; unfold execDictionaryWrite; unfold writeEntryRow; unfold runUnits; rfl))
  case snapTake => exact .inl (form_of (by rw [exec_snapTake]; unfold execSnapTake; unfold writeActionRow; rfl))
  case tapCheckRun => exact .inl (form_of (by rw [exec_tapCheckRun]; unfold execTapCheckRun; unfold writeActionRow; rfl))
  case proofRun => exact .inl (form_of (by rw [exec_proofRun]; unfold execProofRun; unfold writeActionRow; rfl))
  case storePrepare => exact .inl (form_of (by rw [exec_storePrepare]; unfold execStorePrepare; unfold writeActionRow; rfl))
  case imageFlush => exact .inl (form_of (by rw [exec_imageFlush]; unfold execImageFlush; unfold writeActionRow; rfl))
  case secLockSet => exact .inl (form_of (by rw [exec_secLockSet]; unfold execSecLockSet; unfold writeActionRow; rfl))
  case svnCommit => exact .inl (form_of (by rw [exec_svnCommit]; unfold execSvnCommit; unfold writeActionRow; rfl))
  case keyRevoke => exact .inl (form_of (by rw [exec_keyRevoke]; unfold execKeyRevoke; unfold writeActionRow; rfl))
  case pmTarget => exact .inl (form_of (by rw [exec_pmTarget]; unfold execPmTarget; unfold writeActionRow; rfl))
  case mgmtKeyWrap => exact .inl (form_of (by rw [exec_mgmtKeyWrap]; unfold execMgmtKeyWrap; unfold writeActionRow; rfl))
  case unitRetire => exact .inl (form_of (by rw [exec_unitRetire]; unfold execUnitRetire; unfold writeEntryRow; unfold runUnits; rfl))
  case qsel => exact .inl (form_of (by rw [exec_qsel]; unfold execQsel; unfold writeActionRow; rfl))
  case inningBoundary => exact .inl (form_of (by rw [exec_inningBoundary]; unfold execInningBoundary; unfold runUnits; rfl))
  case supplyHoldEnd => exact .inl (form_of (by rw [exec_supplyHoldEnd]; unfold execSupplyHoldEnd; rfl))
  case nandOperationComplete => exact .inl (form_of (by rw [exec_nandOperationComplete]; unfold execNandOperationComplete; unfold runUnits; rfl))
  case statusPoll => exact .inl (form_of (by rw [exec_statusPoll]; unfold execStatusPoll; unfold runUnits; rfl))
  case operationTimeout => exact .inl (form_of (by rw [exec_operationTimeout]; unfold execOperationTimeout; unfold runUnits; rfl))
  case resumeProgressMet => exact .inl (form_of (by rw [exec_resumeProgressMet]; unfold execResumeProgressMet; rfl))
  case suspendEffect => exact .inl (form_of (by rw [exec_suspendEffect]; unfold execSuspendEffect; unfold runUnits; rfl))
  case trainingAttempt => exact .inl (form_of (by rw [exec_trainingAttempt]; unfold execTrainingAttempt; unfold runUnits; rfl))
  case retrainDue => exact .inl (form_of (by rw [exec_retrainDue]; unfold execRetrainDue; unfold runUnits; rfl))
  case zqCalibration => exact .inl (form_of (by rw [exec_zqCalibration]; unfold execZqCalibration; unfold runUnits; rfl))
  case nandTemperatureRead => exact .inl (form_of (by rw [exec_nandTemperatureRead]; unfold execNandTemperatureRead; rfl))
  case eraseIntentProgrammed => exact .inl (form_of (by rw [exec_eraseIntentProgrammed]; unfold execEraseIntentProgrammed; rfl))
  case eiClearDelay => exact .inl (form_of (by rw [exec_eiClearDelay]; unfold execEiClearDelay; rfl))
  case reallocation => exact .inl (form_of (by rw [exec_reallocation]; unfold execReallocation; rfl))
  case retentionStressTick => exact .inl (form_of (by rw [exec_retentionStressTick]; unfold execRetentionStressTick; rfl))
  case zoneLearningPeriod => exact .inl (form_of (by rw [exec_zoneLearningPeriod]; unfold execZoneLearningPeriod; rfl))
  case fold => exact .inl (form_of (by rw [exec_fold]; unfold execFold; rfl))
  case gcVictimChoice => exact .inl (form_of (by rw [exec_gcVictimChoice]; unfold execGcVictimChoice; rfl))
  case recast => exact .inl (form_of (by rw [exec_recast]; unfold execRecast; unfold runUnits; rfl))
  case relocation => exact .inl (form_of (by rw [exec_relocation]; unfold execRelocation; rfl))
  case checkpoint => exact .inl (form_of (by rw [exec_checkpoint]; unfold execCheckpoint; rfl))
  case patrolOverdue => exact .inl (form_of (by rw [exec_patrolOverdue]; unfold execPatrolOverdue; rfl))
  case decodeComplete => exact .inl (form_of (by rw [exec_decodeComplete]; unfold execDecodeComplete; unfold runUnits; rfl))
  case stripeRowClose t row =>
    rw [exec_stripeRowClose]; unfold execStripeRowClose
    split
    · unfold runUnits; exact .inl ⟨_, _, rfl⟩
    · exact .inl ⟨_, _, rfl⟩
  case cruCloseTime => exact .inl (form_of (by rw [exec_cruCloseTime]; unfold execCruCloseTime; rfl))
  case journalPageProgrammed => exact .inl (form_of (by rw [exec_journalPageProgrammed]; unfold execJournalPageProgrammed; rfl))
  case sliceLoad => exact .inl (form_of (by rw [exec_sliceLoad]; unfold execSliceLoad; unfold runUnits; rfl))
  case destinationPageSafe => exact .inl (form_of (by rw [exec_destinationPageSafe]; unfold execDestinationPageSafe; rfl))
  case sourceRelease => exact .inl (form_of (by rw [exec_sourceRelease]; unfold execSourceRelease; unfold runUnits; rfl))
  case superblockAssembly => exact .inl (form_of (by rw [exec_superblockAssembly]; unfold execSuperblockAssembly; rfl))
  case patchEntryEffect => exact .inl (form_of (by rw [exec_patchEntryEffect]; unfold execPatchEntryEffect; rfl))
  case patrolRow => exact .inl (form_of (by rw [exec_patrolRow]; unfold execPatrolRow; unfold runUnits; rfl))
  case memberReplacementComplete => exact .inl (form_of (by rw [exec_memberReplacementComplete]; unfold execMemberReplacementComplete; rfl))
  case fenceTimeExpiry => exact .inl (form_of (by rw [exec_fenceTimeExpiry]; unfold execFenceTimeExpiry; unfold runUnits; rfl))
  case probeComplete => exact .inl (form_of (by rw [exec_probeComplete]; unfold execProbeComplete; unfold runUnits; rfl))
  case adcScan => exact .inl (form_of (by rw [exec_adcScan]; unfold execAdcScan; unfold runUnits; rfl))
  case storeInserted => exact .inl (form_of (by rw [exec_storeInserted]; unfold execStoreInserted; rfl))
  case storeRemoved => exact .inl (form_of (by rw [exec_storeRemoved]; unfold execStoreRemoved; unfold runUnits; rfl))
  case gaugeHibernate => exact .inl (form_of (by rw [exec_gaugeHibernate]; unfold execGaugeHibernate; rfl))
  case gaugeWake => exact .inl (form_of (by rw [exec_gaugeWake]; unfold execGaugeWake; rfl))
  case tapCheck => exact .inl (form_of (by rw [exec_tapCheck]; unfold execTapCheck; unfold runUnits; rfl))
  case tapCheckInterval => exact .inl (form_of (by rw [exec_tapCheckInterval]; unfold execTapCheckInterval; rfl))
  case proofInterval => exact .inl (form_of (by rw [exec_proofInterval]; unfold execProofInterval; rfl))
  case proofEnd => exact .inl (form_of (by rw [exec_proofEnd]; unfold execProofEnd; unfold runUnits; rfl))
  case powerFailTrigger => exact .inl (form_of (by rw [exec_powerFailTrigger]; unfold execPowerFailTrigger; rfl))
  case stashMove => exact .inl (form_of (by rw [exec_stashMove]; unfold execStashMove; rfl))
  case cataloguePageProgrammed => exact .inl (form_of (by rw [exec_cataloguePageProgrammed]; unfold execCataloguePageProgrammed; rfl))
  case pwArm => exact .inl (form_of (by rw [exec_pwArm]; unfold execPwArm; unfold writeActionRow; rfl))
  case pwRemove => exact .inl (form_of (by rw [exec_pwRemove]; unfold execPwRemove; unfold writeActionRow; rfl))
  case pwClear => exact .inl (form_of (by rw [exec_pwClear]; unfold execPwClear; unfold writeActionRow; rfl))
  case pwConsumedWrite => exact .inl (form_of (by rw [exec_pwConsumedWrite]; unfold execPwConsumedWrite; unfold writeActionRow; rfl))
  case pwFaultWrite => exact .inl (form_of (by rw [exec_pwFaultWrite]; unfold execPwFaultWrite; unfold writeActionRow; rfl))
  case pwTimeout => exact .inl (form_of (by rw [exec_pwTimeout]; unfold execPwTimeout; rfl))
  case peerDoorbell => exact .inl (form_of (by rw [exec_peerDoorbell]; unfold execPeerDoorbell; rfl))
  case doorbellReadCompletion => exact .inl (form_of (by rw [exec_doorbellReadCompletion]; unfold execDoorbellReadCompletion; rfl))
  case rallyLinkTraining => exact .inl (form_of (by rw [exec_rallyLinkTraining]; unfold execRallyLinkTraining; unfold runUnits; rfl))
  case rallyLinkDown => exact .inl (form_of (by rw [exec_rallyLinkDown]; unfold execRallyLinkDown; unfold runUnits; rfl))
  case rallyLossTime => exact .inl (form_of (by rw [exec_rallyLossTime]; unfold execRallyLossTime; rfl))
  case rallyAckTimeout => exact .inl (form_of (by rw [exec_rallyAckTimeout]; unfold execRallyAckTimeout; unfold runUnits; rfl))
  case ackIdle => exact .inl (form_of (by rw [exec_ackIdle]; unfold execAckIdle; rfl))
  case helloTimer => exact .inl (form_of (by rw [exec_helloTimer]; unfold execHelloTimer; rfl))
  case pairJoinWait => exact .inl (form_of (by rw [exec_pairJoinWait]; unfold execPairJoinWait; rfl))
  case resyncCopy => exact .inl (form_of (by rw [exec_resyncCopy]; unfold execResyncCopy; rfl))
  case dirtyMapProgram => exact .inl (form_of (by rw [exec_dirtyMapProgram]; unfold execDirtyMapProgram; rfl))
  case imageWrite => exact .inl (form_of (by rw [exec_imageWrite]; unfold execImageWrite; rfl))
  case hello => exact .inl (form_of (by rw [exec_hello]; unfold execHello; rfl))
  case ack => exact .inl (form_of (by rw [exec_ack]; unfold execAck; rfl))
  case nak => exact .inl (form_of (by rw [exec_nak]; unfold execNak; unfold runUnits; rfl))
  case mirrorData => exact .inl (form_of (by rw [exec_mirrorData]; unfold execMirrorData; rfl))
  case mirrorMeta => exact .inl (form_of (by rw [exec_mirrorMeta]; unfold execMirrorMeta; rfl))
  case mirrorMap => exact .inl (form_of (by rw [exec_mirrorMap]; unfold execMirrorMap; rfl))
  case done => exact .inl (form_of (by rw [exec_done]; unfold execDone; rfl))
  case abortFrame => exact .inl (form_of (by rw [exec_abortFrame]; unfold execAbortFrame; rfl))
  case resyncCtrl => exact .inl (form_of (by rw [exec_resyncCtrl]; unfold execResyncCtrl; rfl))
  case resyncData => exact .inl (form_of (by rw [exec_resyncData]; unfold execResyncData; rfl))
  case remoteRead => exact .inl (form_of (by rw [exec_remoteRead]; unfold execRemoteRead; rfl))
  case remoteData => exact .inl (form_of (by rw [exec_remoteData]; unfold execRemoteData; rfl))
  case mbox => exact .inl (form_of (by rw [exec_mbox]; unfold execMbox; rfl))
  case mboxAck => exact .inl (form_of (by rw [exec_mboxAck]; unfold execMboxAck; rfl))
  case notice => exact .inl (form_of (by rw [exec_notice]; unfold execNotice; rfl))
  case mboxWrite => exact .inl (form_of (by rw [exec_mboxWrite]; unfold execMboxWrite; rfl))
  case mboxFencedWrite => exact .inl (form_of (by rw [exec_mboxFencedWrite]; unfold execMboxFencedWrite; rfl))
  case mboxFenceTimeout => exact .inl (form_of (by rw [exec_mboxFenceTimeout]; unfold execMboxFenceTimeout; rfl))
  case mctpGet => exact .inl (form_of (by rw [exec_mctpGet]; unfold execMctpGet; unfold mctpRow; unfold runUnits; rfl))
  case mctpSet => exact .inl (form_of (by rw [exec_mctpSet]; unfold execMctpSet; unfold mctpRow; unfold runUnits; rfl))
  case mctpControlMessage => exact .inl (form_of (by rw [exec_mctpControlMessage]; unfold execMctpControlMessage; unfold mctpRow; unfold runUnits; rfl))
  case mctpReassemblyTimeout => exact .inl (form_of (by rw [exec_mctpReassemblyTimeout]; unfold execMctpReassemblyTimeout; rfl))
  case fliadOpen => exact .inl (form_of (by rw [exec_fliadOpen]; unfold execFliadOpen; rfl))
  case fliadClose => exact .inl (form_of (by rw [exec_fliadClose]; unfold execFliadClose; unfold fliadRow; unfold runUnits; rfl))
  case fliadGet => exact .inl (form_of (by rw [exec_fliadGet]; unfold execFliadGet; unfold fliadRow; unfold runUnits; rfl))
  case fliadGetBlock => exact .inl (form_of (by rw [exec_fliadGetBlock]; unfold execFliadGetBlock; unfold fliadRow; unfold runUnits; rfl))
  case fliadSet => exact .inl (form_of (by rw [exec_fliadSet]; unfold execFliadSet; unfold fliadRow; unfold runUnits; rfl))
  case fliadSetBlock => exact .inl (form_of (by rw [exec_fliadSetBlock]; unfold execFliadSetBlock; unfold fliadRow; unfold runUnits; rfl))
  case fliadIdle => exact .inl (form_of (by rw [exec_fliadIdle]; unfold execFliadIdle; rfl))
  case neighborSolicitation => exact .inl (form_of (by rw [exec_neighborSolicitation]; unfold execNeighborSolicitation; rfl))
  case icmpv6Echo => exact .inl (form_of (by rw [exec_icmpv6Echo]; unfold execIcmpv6Echo; rfl))
  case mgmtLinkChange => exact .inl (form_of (by rw [exec_mgmtLinkChange]; unfold execMgmtLinkChange; rfl))
  case mgmtRxDrop => exact .inl (form_of (by rw [exec_mgmtRxDrop]; unfold execMgmtRxDrop; rfl))
  case idleTimer => exact .inl (form_of (by rw [exec_idleTimer]; unfold execIdleTimer; rfl))
  case psEntry => exact .inl (form_of (by rw [exec_psEntry]; unfold execPsEntry; rfl))
  case wakeExit => exact .inl (form_of (by rw [exec_wakeExit]; unfold execWakeExit; rfl))
  case housekeepingWake => exact .inl (form_of (by rw [exec_housekeepingWake]; unfold execHousekeepingWake; rfl))
  case pmbusRequest => exact .inl (form_of (by rw [exec_pmbusRequest]; unfold execPmbusRequest; rfl))
  case pmbAlert => exact .inl (form_of (by rw [exec_pmbAlert]; unfold execPmbAlert; rfl))
  case vrPgoodLoss => exact .inl (form_of (by rw [exec_vrPgoodLoss]; unfold execVrPgoodLoss; rfl))
  case avsAdjust => exact .inl (form_of (by rw [exec_avsAdjust]; unfold execAvsAdjust; rfl))
  case refclkLoss => exact .inl (form_of (by rw [exec_refclkLoss]; unfold execRefclkLoss; rfl))
  case refclkReturn => exact .inl (form_of (by rw [exec_refclkReturn]; unfold execRefclkReturn; rfl))
  case holdoverExpiry => exact .inl (form_of (by rw [exec_holdoverExpiry]; unfold execHoldoverExpiry; rfl))
  case junctionAverage => exact .inl (form_of (by rw [exec_junctionAverage]; unfold execJunctionAverage; unfold runUnits; rfl))
  case throttleRise => exact .inl (form_of (by rw [exec_throttleRise]; unfold execThrottleRise; rfl))
  case throttleRelease => exact .inl (form_of (by rw [exec_throttleRelease]; unfold execThrottleRelease; rfl))
  case vaonUp => exact .inl (form_of (by rw [exec_vaonUp]; unfold execVaonUp; rfl))
  case main12vGood => exact .inl (form_of (by rw [exec_main12vGood]; unfold execMain12vGood; rfl))
  case vrPgoodTimeout => exact .inl (form_of (by rw [exec_vrPgoodTimeout]; unfold execVrPgoodTimeout; rfl))
  case start t inp => exact .inr ⟨t, inp, rfl⟩
  case touchLoadComplete => exact .inl (form_of (by rw [exec_touchLoadComplete]; unfold execTouchLoadComplete; rfl))
  case eventSecondEnd => exact .inl (form_of (by rw [exec_eventSecondEnd]; unfold execEventSecondEnd; rfl))
  case excerptPageProgram => exact .inl (form_of (by rw [exec_excerptPageProgram]; unfold execExcerptPageProgram; rfl))
  case shnDrainLimit => exact .inl (form_of (by rw [exec_shnDrainLimit]; unfold execShnDrainLimit; rfl))
  case rallyFrameDiscard => exact .inl (form_of (by rw [exec_rallyFrameDiscard]; unfold execRallyFrameDiscard; rfl))
  case interruptCoalescingTime => exact .inl (form_of (by rw [exec_interruptCoalescingTime]; unfold execInterruptCoalescingTime; rfl))

/-- What a step can do to the chip: an effect at a moment with its notices, a start, the passing of time alone, or a
tick. -/
theorem step_form (s t : State) (h : step s = .next t) : ∃ r : State,
    (∃ (t0 : Nat) (f : Chip → Chip), t = { r with chip := (s.chip.atTime t0).seal ((s.chip.atTime t0).notices (f (s.chip.atTime t0))) })
    ∨ (∃ (t0 : Nat) (inp : StartInput), t = { r with chip := ((s.chip.atTime t0).keep ((s.chip.atTime t0).unitNotices ((s.chip.atTime t0).start inp))).withTags [] })
    ∨ (∃ t0 : Nat, t = { r with chip := s.chip.atTime t0 }) ∨ t = tick s := by
  unfold step at h
  split at h
  · exact ⟨s, .inr (.inr (.inr (by injection h with h; exact h.symm)))⟩
  · next i rest hp =>
    refine ⟨{ s with pending := rest }, ?_⟩
    rcases exec_form i { s with pending := rest } with ⟨t0, f, hf⟩ | ⟨t0, inp, rfl⟩
    · rw [hf, run_eq] at h
      injection h with h
      exact .inl ⟨t0, f, h.symm⟩
    · rw [exec_start] at h
      unfold execStart at h
      dsimp only at h
      split at h
      · injection h with h; exact .inr (.inl ⟨t0, inp, h.symm⟩)
      · injection h with h; exact .inr (.inr (.inl ⟨t0, h.symm⟩))


end Sys2Proof.Machine
end

