-- ==== Sys2Proof/Laws/Setters.lean ====
section
/-! SUPPORT. What the updates of a unit, a channel, a target, a row, a stream, a namespace,
a Crucible slot, a session, a read task and a window leave as it was, one lemma per field, beside those of Laws/State.lean. -/
namespace Sys2Proof.Machine

section setUnit
variable (c : Chip) (r : UnitRec)
@[simp] theorem Chip.setUnit_now : (c.setUnit r).now = c.now := rfl
@[simp] theorem Chip.setUnit_fuse : (c.setUnit r).fuse = c.fuse := rfl
@[simp] theorem Chip.setUnit_boot : (c.setUnit r).boot = c.boot := rfl
@[simp] theorem Chip.setUnit_dict : (c.setUnit r).dict = c.dict := rfl
@[simp] theorem Chip.setUnit_ev : (c.setUnit r).ev = c.ev := rfl
@[simp] theorem Chip.setUnit_fns : (c.setUnit r).fns = c.fns := rfl
@[simp] theorem Chip.setUnit_ports : (c.setUnit r).ports = c.ports := rfl
@[simp] theorem Chip.setUnit_qs : (c.setUnit r).qs = c.qs := rfl
@[simp] theorem Chip.setUnit_cmds : (c.setUnit r).cmds = c.cmds := rfl
@[simp] theorem Chip.setUnit_nextH : (c.setUnit r).nextH = c.nextH := rfl
@[simp] theorem Chip.setUnit_lk : (c.setUnit r).lk = c.lk := rfl
@[simp] theorem Chip.setUnit_um : (c.setUnit r).um = c.um := rfl
@[simp] theorem Chip.setUnit_ft : (c.setUnit r).ft = c.ft := rfl
@[simp] theorem Chip.setUnit_sb : (c.setUnit r).sb = c.sb := rfl
@[simp] theorem Chip.setUnit_md : (c.setUnit r).md = c.md := rfl
@[simp] theorem Chip.setUnit_rd : (c.setUnit r).rd = c.rd := rfl
@[simp] theorem Chip.setUnit_lost : (c.setUnit r).lost = c.lost := rfl
@[simp] theorem Chip.setUnit_st : (c.setUnit r).st = c.st := rfl
@[simp] theorem Chip.setUnit_book : (c.setUnit r).book = c.book := rfl
@[simp] theorem Chip.setUnit_wins : (c.setUnit r).wins = c.wins := rfl
@[simp] theorem Chip.setUnit_pr : (c.setUnit r).pr = c.pr := rfl
@[simp] theorem Chip.setUnit_mg : (c.setUnit r).mg = c.mg := rfl
@[simp] theorem Chip.setUnit_pm : (c.setUnit r).pm = c.pm := rfl
@[simp] theorem Chip.setUnit_th : (c.setUnit r).th = c.th := rfl
@[simp] theorem Chip.setUnit_fw : (c.setUnit r).fw = c.fw := rfl
@[simp] theorem Chip.setUnit_lg : (c.setUnit r).lg = c.lg := rfl
@[simp] theorem Chip.setUnit_rnd : (c.setUnit r).rnd = c.rnd := rfl
@[simp] theorem Chip.setUnit_free : (c.setUnit r).free = c.free := rfl
@[simp] theorem Chip.setUnit_out : (c.setUnit r).out = c.out := rfl
end setUnit

section setChan
variable (c : Chip) (k : Chan)
@[simp] theorem Chip.setChan_now : (c.setChan k).now = c.now := rfl
@[simp] theorem Chip.setChan_fuse : (c.setChan k).fuse = c.fuse := rfl
@[simp] theorem Chip.setChan_boot : (c.setChan k).boot = c.boot := rfl
@[simp] theorem Chip.setChan_dict : (c.setChan k).dict = c.dict := rfl
@[simp] theorem Chip.setChan_ev : (c.setChan k).ev = c.ev := rfl
@[simp] theorem Chip.setChan_un : (c.setChan k).un = c.un := rfl
@[simp] theorem Chip.setChan_fns : (c.setChan k).fns = c.fns := rfl
@[simp] theorem Chip.setChan_ports : (c.setChan k).ports = c.ports := rfl
@[simp] theorem Chip.setChan_qs : (c.setChan k).qs = c.qs := rfl
@[simp] theorem Chip.setChan_cmds : (c.setChan k).cmds = c.cmds := rfl
@[simp] theorem Chip.setChan_nextH : (c.setChan k).nextH = c.nextH := rfl
@[simp] theorem Chip.setChan_lk : (c.setChan k).lk = c.lk := rfl
@[simp] theorem Chip.setChan_um : (c.setChan k).um = c.um := rfl
@[simp] theorem Chip.setChan_ft : (c.setChan k).ft = c.ft := rfl
@[simp] theorem Chip.setChan_sb : (c.setChan k).sb = c.sb := rfl
@[simp] theorem Chip.setChan_rd : (c.setChan k).rd = c.rd := rfl
@[simp] theorem Chip.setChan_lost : (c.setChan k).lost = c.lost := rfl
@[simp] theorem Chip.setChan_st : (c.setChan k).st = c.st := rfl
@[simp] theorem Chip.setChan_book : (c.setChan k).book = c.book := rfl
@[simp] theorem Chip.setChan_wins : (c.setChan k).wins = c.wins := rfl
@[simp] theorem Chip.setChan_pr : (c.setChan k).pr = c.pr := rfl
@[simp] theorem Chip.setChan_mg : (c.setChan k).mg = c.mg := rfl
@[simp] theorem Chip.setChan_pm : (c.setChan k).pm = c.pm := rfl
@[simp] theorem Chip.setChan_th : (c.setChan k).th = c.th := rfl
@[simp] theorem Chip.setChan_fw : (c.setChan k).fw = c.fw := rfl
@[simp] theorem Chip.setChan_lg : (c.setChan k).lg = c.lg := rfl
@[simp] theorem Chip.setChan_rnd : (c.setChan k).rnd = c.rnd := rfl
@[simp] theorem Chip.setChan_free : (c.setChan k).free = c.free := rfl
@[simp] theorem Chip.setChan_out : (c.setChan k).out = c.out := rfl
end setChan

section setTgt
variable (c : Chip) (x : Tgt)
@[simp] theorem Chip.setTgt_now : (c.setTgt x).now = c.now := rfl
@[simp] theorem Chip.setTgt_fuse : (c.setTgt x).fuse = c.fuse := rfl
@[simp] theorem Chip.setTgt_boot : (c.setTgt x).boot = c.boot := rfl
@[simp] theorem Chip.setTgt_dict : (c.setTgt x).dict = c.dict := rfl
@[simp] theorem Chip.setTgt_ev : (c.setTgt x).ev = c.ev := rfl
@[simp] theorem Chip.setTgt_un : (c.setTgt x).un = c.un := rfl
@[simp] theorem Chip.setTgt_fns : (c.setTgt x).fns = c.fns := rfl
@[simp] theorem Chip.setTgt_ports : (c.setTgt x).ports = c.ports := rfl
@[simp] theorem Chip.setTgt_qs : (c.setTgt x).qs = c.qs := rfl
@[simp] theorem Chip.setTgt_cmds : (c.setTgt x).cmds = c.cmds := rfl
@[simp] theorem Chip.setTgt_nextH : (c.setTgt x).nextH = c.nextH := rfl
@[simp] theorem Chip.setTgt_lk : (c.setTgt x).lk = c.lk := rfl
@[simp] theorem Chip.setTgt_um : (c.setTgt x).um = c.um := rfl
@[simp] theorem Chip.setTgt_ft : (c.setTgt x).ft = c.ft := rfl
@[simp] theorem Chip.setTgt_sb : (c.setTgt x).sb = c.sb := rfl
@[simp] theorem Chip.setTgt_rd : (c.setTgt x).rd = c.rd := rfl
@[simp] theorem Chip.setTgt_lost : (c.setTgt x).lost = c.lost := rfl
@[simp] theorem Chip.setTgt_st : (c.setTgt x).st = c.st := rfl
@[simp] theorem Chip.setTgt_book : (c.setTgt x).book = c.book := rfl
@[simp] theorem Chip.setTgt_wins : (c.setTgt x).wins = c.wins := rfl
@[simp] theorem Chip.setTgt_pr : (c.setTgt x).pr = c.pr := rfl
@[simp] theorem Chip.setTgt_mg : (c.setTgt x).mg = c.mg := rfl
@[simp] theorem Chip.setTgt_pm : (c.setTgt x).pm = c.pm := rfl
@[simp] theorem Chip.setTgt_th : (c.setTgt x).th = c.th := rfl
@[simp] theorem Chip.setTgt_fw : (c.setTgt x).fw = c.fw := rfl
@[simp] theorem Chip.setTgt_lg : (c.setTgt x).lg = c.lg := rfl
@[simp] theorem Chip.setTgt_rnd : (c.setTgt x).rnd = c.rnd := rfl
@[simp] theorem Chip.setTgt_free : (c.setTgt x).free = c.free := rfl
@[simp] theorem Chip.setTgt_out : (c.setTgt x).out = c.out := rfl
end setTgt

section setRow
variable (c : Chip) (r : Row)
@[simp] theorem Chip.setRow_now : (c.setRow r).now = c.now := rfl
@[simp] theorem Chip.setRow_fuse : (c.setRow r).fuse = c.fuse := rfl
@[simp] theorem Chip.setRow_boot : (c.setRow r).boot = c.boot := rfl
@[simp] theorem Chip.setRow_dict : (c.setRow r).dict = c.dict := rfl
@[simp] theorem Chip.setRow_ev : (c.setRow r).ev = c.ev := rfl
@[simp] theorem Chip.setRow_un : (c.setRow r).un = c.un := rfl
@[simp] theorem Chip.setRow_fns : (c.setRow r).fns = c.fns := rfl
@[simp] theorem Chip.setRow_ports : (c.setRow r).ports = c.ports := rfl
@[simp] theorem Chip.setRow_qs : (c.setRow r).qs = c.qs := rfl
@[simp] theorem Chip.setRow_cmds : (c.setRow r).cmds = c.cmds := rfl
@[simp] theorem Chip.setRow_nextH : (c.setRow r).nextH = c.nextH := rfl
@[simp] theorem Chip.setRow_lk : (c.setRow r).lk = c.lk := rfl
@[simp] theorem Chip.setRow_um : (c.setRow r).um = c.um := rfl
@[simp] theorem Chip.setRow_ft : (c.setRow r).ft = c.ft := rfl
@[simp] theorem Chip.setRow_md : (c.setRow r).md = c.md := rfl
@[simp] theorem Chip.setRow_rd : (c.setRow r).rd = c.rd := rfl
@[simp] theorem Chip.setRow_lost : (c.setRow r).lost = c.lost := rfl
@[simp] theorem Chip.setRow_st : (c.setRow r).st = c.st := rfl
@[simp] theorem Chip.setRow_book : (c.setRow r).book = c.book := rfl
@[simp] theorem Chip.setRow_wins : (c.setRow r).wins = c.wins := rfl
@[simp] theorem Chip.setRow_pr : (c.setRow r).pr = c.pr := rfl
@[simp] theorem Chip.setRow_mg : (c.setRow r).mg = c.mg := rfl
@[simp] theorem Chip.setRow_pm : (c.setRow r).pm = c.pm := rfl
@[simp] theorem Chip.setRow_th : (c.setRow r).th = c.th := rfl
@[simp] theorem Chip.setRow_fw : (c.setRow r).fw = c.fw := rfl
@[simp] theorem Chip.setRow_lg : (c.setRow r).lg = c.lg := rfl
@[simp] theorem Chip.setRow_rnd : (c.setRow r).rnd = c.rnd := rfl
@[simp] theorem Chip.setRow_free : (c.setRow r).free = c.free := rfl
@[simp] theorem Chip.setRow_out : (c.setRow r).out = c.out := rfl
end setRow

section setStream
variable (c : Chip) (s : JStream)
@[simp] theorem Chip.setStream_now : (c.setStream s).now = c.now := rfl
@[simp] theorem Chip.setStream_fuse : (c.setStream s).fuse = c.fuse := rfl
@[simp] theorem Chip.setStream_boot : (c.setStream s).boot = c.boot := rfl
@[simp] theorem Chip.setStream_dict : (c.setStream s).dict = c.dict := rfl
@[simp] theorem Chip.setStream_ev : (c.setStream s).ev = c.ev := rfl
@[simp] theorem Chip.setStream_un : (c.setStream s).un = c.un := rfl
@[simp] theorem Chip.setStream_fns : (c.setStream s).fns = c.fns := rfl
@[simp] theorem Chip.setStream_ports : (c.setStream s).ports = c.ports := rfl
@[simp] theorem Chip.setStream_qs : (c.setStream s).qs = c.qs := rfl
@[simp] theorem Chip.setStream_cmds : (c.setStream s).cmds = c.cmds := rfl
@[simp] theorem Chip.setStream_nextH : (c.setStream s).nextH = c.nextH := rfl
@[simp] theorem Chip.setStream_lk : (c.setStream s).lk = c.lk := rfl
@[simp] theorem Chip.setStream_um : (c.setStream s).um = c.um := rfl
@[simp] theorem Chip.setStream_sb : (c.setStream s).sb = c.sb := rfl
@[simp] theorem Chip.setStream_md : (c.setStream s).md = c.md := rfl
@[simp] theorem Chip.setStream_rd : (c.setStream s).rd = c.rd := rfl
@[simp] theorem Chip.setStream_lost : (c.setStream s).lost = c.lost := rfl
@[simp] theorem Chip.setStream_st : (c.setStream s).st = c.st := rfl
@[simp] theorem Chip.setStream_book : (c.setStream s).book = c.book := rfl
@[simp] theorem Chip.setStream_wins : (c.setStream s).wins = c.wins := rfl
@[simp] theorem Chip.setStream_pr : (c.setStream s).pr = c.pr := rfl
@[simp] theorem Chip.setStream_mg : (c.setStream s).mg = c.mg := rfl
@[simp] theorem Chip.setStream_pm : (c.setStream s).pm = c.pm := rfl
@[simp] theorem Chip.setStream_th : (c.setStream s).th = c.th := rfl
@[simp] theorem Chip.setStream_fw : (c.setStream s).fw = c.fw := rfl
@[simp] theorem Chip.setStream_lg : (c.setStream s).lg = c.lg := rfl
@[simp] theorem Chip.setStream_rnd : (c.setStream s).rnd = c.rnd := rfl
@[simp] theorem Chip.setStream_free : (c.setStream s).free = c.free := rfl
@[simp] theorem Chip.setStream_out : (c.setStream s).out = c.out := rfl
end setStream

section setSession
variable (c : Chip) (s : Sess)
@[simp] theorem Chip.setSession_now : (c.setSession s).now = c.now := rfl
@[simp] theorem Chip.setSession_fuse : (c.setSession s).fuse = c.fuse := rfl
@[simp] theorem Chip.setSession_boot : (c.setSession s).boot = c.boot := rfl
@[simp] theorem Chip.setSession_dict : (c.setSession s).dict = c.dict := rfl
@[simp] theorem Chip.setSession_ev : (c.setSession s).ev = c.ev := rfl
@[simp] theorem Chip.setSession_un : (c.setSession s).un = c.un := rfl
@[simp] theorem Chip.setSession_fns : (c.setSession s).fns = c.fns := rfl
@[simp] theorem Chip.setSession_ports : (c.setSession s).ports = c.ports := rfl
@[simp] theorem Chip.setSession_qs : (c.setSession s).qs = c.qs := rfl
@[simp] theorem Chip.setSession_cmds : (c.setSession s).cmds = c.cmds := rfl
@[simp] theorem Chip.setSession_nextH : (c.setSession s).nextH = c.nextH := rfl
@[simp] theorem Chip.setSession_lk : (c.setSession s).lk = c.lk := rfl
@[simp] theorem Chip.setSession_um : (c.setSession s).um = c.um := rfl
@[simp] theorem Chip.setSession_ft : (c.setSession s).ft = c.ft := rfl
@[simp] theorem Chip.setSession_sb : (c.setSession s).sb = c.sb := rfl
@[simp] theorem Chip.setSession_md : (c.setSession s).md = c.md := rfl
@[simp] theorem Chip.setSession_rd : (c.setSession s).rd = c.rd := rfl
@[simp] theorem Chip.setSession_lost : (c.setSession s).lost = c.lost := rfl
@[simp] theorem Chip.setSession_st : (c.setSession s).st = c.st := rfl
@[simp] theorem Chip.setSession_book : (c.setSession s).book = c.book := rfl
@[simp] theorem Chip.setSession_wins : (c.setSession s).wins = c.wins := rfl
@[simp] theorem Chip.setSession_pr : (c.setSession s).pr = c.pr := rfl
@[simp] theorem Chip.setSession_pm : (c.setSession s).pm = c.pm := rfl
@[simp] theorem Chip.setSession_th : (c.setSession s).th = c.th := rfl
@[simp] theorem Chip.setSession_fw : (c.setSession s).fw = c.fw := rfl
@[simp] theorem Chip.setSession_lg : (c.setSession s).lg = c.lg := rfl
@[simp] theorem Chip.setSession_rnd : (c.setSession s).rnd = c.rnd := rfl
@[simp] theorem Chip.setSession_free : (c.setSession s).free = c.free := rfl
@[simp] theorem Chip.setSession_out : (c.setSession s).out = c.out := rfl
end setSession

section setTask
variable (c : Chip) (t : Task)
@[simp] theorem Chip.setTask_now : (c.setTask t).now = c.now := rfl
@[simp] theorem Chip.setTask_fuse : (c.setTask t).fuse = c.fuse := rfl
@[simp] theorem Chip.setTask_boot : (c.setTask t).boot = c.boot := rfl
@[simp] theorem Chip.setTask_dict : (c.setTask t).dict = c.dict := rfl
@[simp] theorem Chip.setTask_ev : (c.setTask t).ev = c.ev := rfl
@[simp] theorem Chip.setTask_un : (c.setTask t).un = c.un := rfl
@[simp] theorem Chip.setTask_fns : (c.setTask t).fns = c.fns := rfl
@[simp] theorem Chip.setTask_ports : (c.setTask t).ports = c.ports := rfl
@[simp] theorem Chip.setTask_qs : (c.setTask t).qs = c.qs := rfl
@[simp] theorem Chip.setTask_cmds : (c.setTask t).cmds = c.cmds := rfl
@[simp] theorem Chip.setTask_nextH : (c.setTask t).nextH = c.nextH := rfl
@[simp] theorem Chip.setTask_lk : (c.setTask t).lk = c.lk := rfl
@[simp] theorem Chip.setTask_um : (c.setTask t).um = c.um := rfl
@[simp] theorem Chip.setTask_ft : (c.setTask t).ft = c.ft := rfl
@[simp] theorem Chip.setTask_sb : (c.setTask t).sb = c.sb := rfl
@[simp] theorem Chip.setTask_md : (c.setTask t).md = c.md := rfl
@[simp] theorem Chip.setTask_lost : (c.setTask t).lost = c.lost := rfl
@[simp] theorem Chip.setTask_st : (c.setTask t).st = c.st := rfl
@[simp] theorem Chip.setTask_book : (c.setTask t).book = c.book := rfl
@[simp] theorem Chip.setTask_wins : (c.setTask t).wins = c.wins := rfl
@[simp] theorem Chip.setTask_pr : (c.setTask t).pr = c.pr := rfl
@[simp] theorem Chip.setTask_mg : (c.setTask t).mg = c.mg := rfl
@[simp] theorem Chip.setTask_pm : (c.setTask t).pm = c.pm := rfl
@[simp] theorem Chip.setTask_th : (c.setTask t).th = c.th := rfl
@[simp] theorem Chip.setTask_fw : (c.setTask t).fw = c.fw := rfl
@[simp] theorem Chip.setTask_lg : (c.setTask t).lg = c.lg := rfl
@[simp] theorem Chip.setTask_rnd : (c.setTask t).rnd = c.rnd := rfl
@[simp] theorem Chip.setTask_free : (c.setTask t).free = c.free := rfl
@[simp] theorem Chip.setTask_out : (c.setTask t).out = c.out := rfl
end setTask

section setWin5
variable (c : Chip) (w : Win5)
@[simp] theorem Chip.setWin5_now : (c.setWin5 w).now = c.now := rfl
@[simp] theorem Chip.setWin5_fuse : (c.setWin5 w).fuse = c.fuse := rfl
@[simp] theorem Chip.setWin5_boot : (c.setWin5 w).boot = c.boot := rfl
@[simp] theorem Chip.setWin5_dict : (c.setWin5 w).dict = c.dict := rfl
@[simp] theorem Chip.setWin5_ev : (c.setWin5 w).ev = c.ev := rfl
@[simp] theorem Chip.setWin5_un : (c.setWin5 w).un = c.un := rfl
@[simp] theorem Chip.setWin5_fns : (c.setWin5 w).fns = c.fns := rfl
@[simp] theorem Chip.setWin5_ports : (c.setWin5 w).ports = c.ports := rfl
@[simp] theorem Chip.setWin5_qs : (c.setWin5 w).qs = c.qs := rfl
@[simp] theorem Chip.setWin5_cmds : (c.setWin5 w).cmds = c.cmds := rfl
@[simp] theorem Chip.setWin5_nextH : (c.setWin5 w).nextH = c.nextH := rfl
@[simp] theorem Chip.setWin5_lk : (c.setWin5 w).lk = c.lk := rfl
@[simp] theorem Chip.setWin5_um : (c.setWin5 w).um = c.um := rfl
@[simp] theorem Chip.setWin5_ft : (c.setWin5 w).ft = c.ft := rfl
@[simp] theorem Chip.setWin5_sb : (c.setWin5 w).sb = c.sb := rfl
@[simp] theorem Chip.setWin5_md : (c.setWin5 w).md = c.md := rfl
@[simp] theorem Chip.setWin5_rd : (c.setWin5 w).rd = c.rd := rfl
@[simp] theorem Chip.setWin5_lost : (c.setWin5 w).lost = c.lost := rfl
@[simp] theorem Chip.setWin5_st : (c.setWin5 w).st = c.st := rfl
@[simp] theorem Chip.setWin5_book : (c.setWin5 w).book = c.book := rfl
@[simp] theorem Chip.setWin5_pr : (c.setWin5 w).pr = c.pr := rfl
@[simp] theorem Chip.setWin5_mg : (c.setWin5 w).mg = c.mg := rfl
@[simp] theorem Chip.setWin5_pm : (c.setWin5 w).pm = c.pm := rfl
@[simp] theorem Chip.setWin5_th : (c.setWin5 w).th = c.th := rfl
@[simp] theorem Chip.setWin5_fw : (c.setWin5 w).fw = c.fw := rfl
@[simp] theorem Chip.setWin5_lg : (c.setWin5 w).lg = c.lg := rfl
@[simp] theorem Chip.setWin5_rnd : (c.setWin5 w).rnd = c.rnd := rfl
@[simp] theorem Chip.setWin5_free : (c.setWin5 w).free = c.free := rfl
@[simp] theorem Chip.setWin5_out : (c.setWin5 w).out = c.out := rfl
end setWin5

section setNs
variable (c : Chip) (n : Ns)
@[simp] theorem Chip.setNs_now : (c.setNs n).now = c.now := rfl
@[simp] theorem Chip.setNs_fuse : (c.setNs n).fuse = c.fuse := rfl
@[simp] theorem Chip.setNs_boot : (c.setNs n).boot = c.boot := rfl
@[simp] theorem Chip.setNs_dict : (c.setNs n).dict = c.dict := rfl
@[simp] theorem Chip.setNs_ev : (c.setNs n).ev = c.ev := rfl
@[simp] theorem Chip.setNs_un : (c.setNs n).un = c.un := rfl
@[simp] theorem Chip.setNs_fns : (c.setNs n).fns = c.fns := rfl
@[simp] theorem Chip.setNs_ports : (c.setNs n).ports = c.ports := rfl
@[simp] theorem Chip.setNs_qs : (c.setNs n).qs = c.qs := rfl
@[simp] theorem Chip.setNs_cmds : (c.setNs n).cmds = c.cmds := rfl
@[simp] theorem Chip.setNs_nextH : (c.setNs n).nextH = c.nextH := rfl
@[simp] theorem Chip.setNs_lk : (c.setNs n).lk = c.lk := rfl
@[simp] theorem Chip.setNs_um : (c.setNs n).um = c.um := rfl
@[simp] theorem Chip.setNs_sb : (c.setNs n).sb = c.sb := rfl
@[simp] theorem Chip.setNs_md : (c.setNs n).md = c.md := rfl
@[simp] theorem Chip.setNs_rd : (c.setNs n).rd = c.rd := rfl
@[simp] theorem Chip.setNs_lost : (c.setNs n).lost = c.lost := rfl
@[simp] theorem Chip.setNs_st : (c.setNs n).st = c.st := rfl
@[simp] theorem Chip.setNs_book : (c.setNs n).book = c.book := rfl
@[simp] theorem Chip.setNs_wins : (c.setNs n).wins = c.wins := rfl
@[simp] theorem Chip.setNs_pr : (c.setNs n).pr = c.pr := rfl
@[simp] theorem Chip.setNs_mg : (c.setNs n).mg = c.mg := rfl
@[simp] theorem Chip.setNs_pm : (c.setNs n).pm = c.pm := rfl
@[simp] theorem Chip.setNs_th : (c.setNs n).th = c.th := rfl
@[simp] theorem Chip.setNs_fw : (c.setNs n).fw = c.fw := rfl
@[simp] theorem Chip.setNs_lg : (c.setNs n).lg = c.lg := rfl
@[simp] theorem Chip.setNs_rnd : (c.setNs n).rnd = c.rnd := rfl
@[simp] theorem Chip.setNs_free : (c.setNs n).free = c.free := rfl
@[simp] theorem Chip.setNs_out : (c.setNs n).out = c.out := rfl
end setNs

section setSlot
variable (c : Chip) (s : Slot)
@[simp] theorem Chip.setSlot_now : (c.setSlot s).now = c.now := rfl
@[simp] theorem Chip.setSlot_fuse : (c.setSlot s).fuse = c.fuse := rfl
@[simp] theorem Chip.setSlot_boot : (c.setSlot s).boot = c.boot := rfl
@[simp] theorem Chip.setSlot_dict : (c.setSlot s).dict = c.dict := rfl
@[simp] theorem Chip.setSlot_ev : (c.setSlot s).ev = c.ev := rfl
@[simp] theorem Chip.setSlot_un : (c.setSlot s).un = c.un := rfl
@[simp] theorem Chip.setSlot_fns : (c.setSlot s).fns = c.fns := rfl
@[simp] theorem Chip.setSlot_ports : (c.setSlot s).ports = c.ports := rfl
@[simp] theorem Chip.setSlot_qs : (c.setSlot s).qs = c.qs := rfl
@[simp] theorem Chip.setSlot_cmds : (c.setSlot s).cmds = c.cmds := rfl
@[simp] theorem Chip.setSlot_nextH : (c.setSlot s).nextH = c.nextH := rfl
@[simp] theorem Chip.setSlot_lk : (c.setSlot s).lk = c.lk := rfl
@[simp] theorem Chip.setSlot_um : (c.setSlot s).um = c.um := rfl
@[simp] theorem Chip.setSlot_sb : (c.setSlot s).sb = c.sb := rfl
@[simp] theorem Chip.setSlot_md : (c.setSlot s).md = c.md := rfl
@[simp] theorem Chip.setSlot_rd : (c.setSlot s).rd = c.rd := rfl
@[simp] theorem Chip.setSlot_lost : (c.setSlot s).lost = c.lost := rfl
@[simp] theorem Chip.setSlot_st : (c.setSlot s).st = c.st := rfl
@[simp] theorem Chip.setSlot_book : (c.setSlot s).book = c.book := rfl
@[simp] theorem Chip.setSlot_wins : (c.setSlot s).wins = c.wins := rfl
@[simp] theorem Chip.setSlot_pr : (c.setSlot s).pr = c.pr := rfl
@[simp] theorem Chip.setSlot_mg : (c.setSlot s).mg = c.mg := rfl
@[simp] theorem Chip.setSlot_pm : (c.setSlot s).pm = c.pm := rfl
@[simp] theorem Chip.setSlot_th : (c.setSlot s).th = c.th := rfl
@[simp] theorem Chip.setSlot_fw : (c.setSlot s).fw = c.fw := rfl
@[simp] theorem Chip.setSlot_lg : (c.setSlot s).lg = c.lg := rfl
@[simp] theorem Chip.setSlot_rnd : (c.setSlot s).rnd = c.rnd := rfl
@[simp] theorem Chip.setSlot_free : (c.setSlot s).free = c.free := rfl
@[simp] theorem Chip.setSlot_out : (c.setSlot s).out = c.out := rfl
end setSlot

end Sys2Proof.Machine
end

