-- ==== Sys2Proof/Machine/Pins.lean ====
section
/-! DEFINITION. The low-speed pins of R475 as the state leaves them (R123, R172, R268, R425, R434, R474, R475). -/
namespace Sys2Proof.Machine

/-- What a pin shows: a level that the S9632 drives, a released open-drain output, an input, high impedance, no supply, or the
signalling of the unit or bus behind it. -/
inductive Level where
  | low | high | released | input | highZ | unpowered | signalling
  deriving DecidableEq, Repr

/-- The pins of R475. -/
inductive Pin where
  | perst (port : Nat)
  | clkreq (port : Nat)
  | wake (port : Nat)
  | smbus | smbAlert | pmbus | pmbAlert | vrPgood | pwrFail | storePres | storeChgDone
  | vrEn | storeChgEn | storeHold | thermTrip
  | nandWp (ch : Nat)
  | nandControl | nandLatch | nandData | ddrReset | phyReset | tdo | uartTx
  deriving DecidableEq, Repr

/-- The columns of R475: VAON alone, the rails up until firmware takes the pins, and in service. -/
inductive PinPhase where
  | vaonOnly | railsUp | service
  deriving DecidableEq, Repr

/-- The column in force. Firmware takes the pins once its image runs, after step 2 of a start, and gives them up where the cores
restart (R412, R435). -/
def Chip.pinPhase (c : Chip) : PinPhase :=
  match c.boot.run with
  | .dark => .vaonOnly
  | .standby => .vaonOnly
  | .thermalHold => .vaonOnly
  | .rails => .railsUp
  | .starting => if 2 ≤ c.boot.step then .service else .railsUp
  | _ => .service

/-- SMB_ALERT# is low while SERVICE_LEVEL is not NORMAL or THERM_STATE is THROTTLE or SHUTDOWN. -/
def Chip.smbAlerts (c : Chip) : Bool := decide (c.serviceLevel ≠ 0 ∨ 2 ≤ c.get E.THERM_STATE)

/-- An open-drain output that is driven low or released. -/
def openDrain (low : Bool) : Level := if low then .low else .released

/-- A pin in a column. -/
def Chip.pinIn (c : Chip) (k : PinPhase) (p : Pin) : Level :=
  let main := fun (up service : Level) => match k with
    | .vaonOnly => .unpowered
    | .railsUp => up
    | .service => service
  let inService := fun (l : Level) => if k = .service then l else .released
  match p with
  | .perst _ => .input
  | .clkreq n => inService (openDrain (c.portOf n).clkreq)
  | .wake n => if k = .railsUp then .released else openDrain (c.portOf n).wake
  | .smbus => if k = .railsUp then .released else .signalling
  | .smbAlert => inService (openDrain c.smbAlerts)
  | .pmbus => inService .signalling
  | .pmbAlert => .input
  | .vrPgood => .input
  | .pwrFail => .input
  | .storePres => .input
  | .storeChgDone => .input
  | .vrEn => if c.pm.vrEn then .released else .low
  | .storeChgEn => openDrain !c.chargeOn
  | .storeHold => inService (openDrain c.st.hold)
  | .thermTrip => openDrain (decide (c.boot.run = .thermalHold))
  | .nandWp ch => main .low (if (c.md.chans.find? fun x => decide (x.ch = ch)).any Chan.wp then .low else .high)
  | .nandControl => main .high .signalling
  | .nandLatch => main .low .signalling
  | .nandData => main .highZ .signalling
  | .ddrReset => main .low (if c.boot.trained then .signalling else .low)
  | .phyReset => main .low (if c.get E.MGMT_ENABLE = 1 then .high else .low)
  | .tdo => main .highZ .highZ
  | .uartTx => main .high .signalling

/-- A pin as it stands (R475). -/
def Chip.pinLevel (c : Chip) (p : Pin) : Level := c.pinIn c.pinPhase p

end Sys2Proof.Machine
end

