-- ==== Sys2Proof/WellFormed.lean ====
section
/-! DEFINITION. The operands a command can carry: each check is a range that the manual gives the
thing an operand names. The meanings themselves are total and need no check. -/
namespace Sys2Proof

/-- A port: two, P0 and P1 (R99). -/
def okPort (p : Nat) : Bool := decide (p < 2)
/-- A function of a port: the PF and at most 511 VFs (R102). -/
def okFn (f : Nat) : Bool := decide (f < 512)
/-- A flash channel (R172). -/
def okChan (c : Nat) : Bool := decide (c < 32)
/-- A die by its LUN index (R13). -/
def okLun (l : Nat) : Bool := decide (l < 2048)
/-- A target by its index (R13), or its place on its channel. -/
def okTgt (t : Nat) : Bool := decide (t < 512)
/-- A unit by kind and index (R13). -/
def okUnit (u : Nat) : Bool := decide (u < 32768)
/-- A link generation, 0 for none (R99). -/
def okGen (g : Nat) : Bool := decide (g ≤ 6)
/-- A link width, 0 for down (R99). -/
def okWidth (w : Nat) : Bool := [0, 1, 2, 4, 8, 16].contains w
/-- Rally lanes, 0 for none (R336). -/
def okLanes (l : Nat) : Bool := [0, 1, 2, 4, 8].contains l
/-- A stripe member position (R132). -/
def okMember (m : Nat) : Bool := decide (m < 32)
/-- A peer window of a port (R325). -/
def okWin (w : Nat) : Bool := decide (w < 256)
/-- A mailbox cell (R356). -/
def okCell (c : Nat) : Bool := decide (c < 64)
/-- A dictionary address: a 16-bit index and an 8-bit sub (R365). -/
def okAddr (a : Nat) : Bool := decide (a < 16777216)
/-- A value of a single write: 60 bits (R366). -/
def okU60 (v : Nat) : Bool := decide (v < 2 ^ 60)
/-- A value of a write of an entry of any type: at most 4,096 octets (R366, R383). -/
def okOct (v : Nat) : Bool := decide (v < 2 ^ 32768)
/-- A mailbox value (R356). -/
def okU20 (v : Nat) : Bool := decide (v < 2 ^ 20)
/-- A 32-bit write. -/
def okU32 (v : Nat) : Bool := decide (v < 2 ^ 32)
/-- A transport that exists: the BAR4 window of one of two ports (R380). -/
def okXport : Xport → Bool
  | .bar4 p => okPort p
  | .nvme => true
  | .mctp => true
  | .fliad => true
  | .internal => true

/-- A command is well formed: each operand lies in the range of what it names. -/
def Instr.wf : Instr → Bool
  | .doorbellWrite _ port fn _ _ value _ => okPort port && okFn fn && okU32 value
  | .fetch _ port _ _ => okPort port
  | .admission _ _ => true
  | .admitWaitExpiry _ _ => true
  | .rangeLockGrant _ _ => true
  | .commitPoint _ _ => true
  | .completionPost _ _ => true
  | .deadlineExpired _ _ => true
  | .class2LateLimit _ _ => true
  | .completionTimeout _ _ => true
  | .errorCompletionReceived _ _ _ => true
  | .poisonedWriteReceived _ port bar => okPort port && okFn bar.fn
  | .createIoSubmissionQueue _ _ => true
  | .deleteIoSubmissionQueue _ _ => true
  | .createIoCompletionQueue _ _ => true
  | .deleteIoCompletionQueue _ _ => true
  | .getLogPage _ _ => true
  | .identify _ _ => true
  | .abort _ _ => true
  | .setFeaturesArbitration _ _ => true
  | .setFeaturesPowerManagement _ _ => true
  | .setFeaturesTemperatureThreshold _ _ => true
  | .setFeaturesNumberOfQueues _ _ => true
  | .setFeaturesInterruptCoalescing _ _ => true
  | .setFeaturesInterruptVectorConfig _ _ => true
  | .setFeaturesApst _ _ _ => true
  | .setFeaturesOther _ _ _ => true
  | .getFeatures _ _ => true
  | .asynchronousEventRequest _ _ => true
  | .namespaceCreate _ _ _ _ _ => true
  | .namespaceDelete _ _ => true
  | .namespaceAttach _ _ _ => true
  | .namespaceDetach _ _ _ => true
  | .firmwareImageDownload _ _ _ => true
  | .firmwareCommitReplace _ _ => true
  | .firmwareCommitReplaceActivate _ _ => true
  | .firmwareCommitActivate _ _ => true
  | .firmwareCommitActivateNoReset _ _ => true
  | .firmwareCommitInvalid _ _ => true
  | .fwaDrainLimitExpiry _ => true
  | .deviceSelfTestShort _ _ _ => true
  | .deviceSelfTestExtended _ _ _ => true
  | .deviceSelfTestAbort _ _ => true
  | .doorbellBufferConfig _ _ => true
  | .formatNvm _ _ => true
  | .sanitizeCryptoErase _ _ _ => true
  | .sanitizeBlockErase _ _ _ => true
  | .sanitizeOverwrite _ _ _ => true
  | .dictionarySet _ _ _ => true
  | .dictionaryGet _ _ => true
  | .pairControlStatus _ _ => true
  | .pairControlChooseSource _ _ => true
  | .pairControlDetach _ _ => true
  | .pairControlRejoin _ _ => true
  | .flush _ _ => true
  | .write _ _ _ => true
  | .compare _ _ _ => true
  | .read _ _ => true
  | .writeZeroes _ _ => true
  | .verify _ _ => true
  | .datasetManagement _ _ => true
  | .segmentRead _ _ => true
  | .scorebookPut _ _ => true
  | .scorebookDrop _ _ => true
  | .scorebookLook _ _ => true
  | .ccEnable _ port fn cfg _ _ => okPort port && okFn fn && [128, 256, 512, 1024, 2048, 4096].contains cfg.fn.readRequest
      && decide (cfg.fn.timeout < 16 ∧ cfg.pf.rid < 65536 ∧ cfg.pf.numVfs < 65536 ∧ cfg.pf.sysPage ≤ 8 ∧ cfg.pf.l1pm < 4)
      && decide (cfg.pf.bar2.getD 0 ≤ 16 ∧ cfg.pf.vfBar2.getD 0 ≤ 8) && cfg.fn.vectors.all fun v => decide (v.vector < 2048)
  | .controllerReset _ port fn _ => okPort port && okFn fn
  | .shutdownNormal _ port fn _ => okPort port && okFn fn
  | .shutdownAbrupt _ port fn _ => okPort port && okFn fn
  | .cmbEnable _ port fn _ => okPort port && okFn fn
  | .fullFundamentalReset _ _ => true
  | .portReset _ port _ => okPort port
  | .flrInitiate _ port fn => okPort port && okFn fn
  | .flrDrainDone _ port fn => okPort port && okFn fn
  | .d3hotEntry _ port fn => okPort port && okFn fn
  | .d0Entry _ port w => okPort port && okFn w.fn && w.tails.all fun q => okFn q.1
  | .vfEnableClear _ port => okPort port
  | .pmeTurnOff _ port => okPort port
  | .l1Exit _ port => okPort port
  | .doeAbort _ port => okPort port
  | .perstDeassertion _ port => okPort port
  | .linkTrained _ port gen width _ => okPort port && okGen gen && okWidth width
  | .l0pWidthRequest _ port width => okPort port && okWidth width
  | .l0pWidthChange _ port width _ => okPort port && okWidth width
  | .aspmL1Entry _ port _ => okPort port
  | .mpsChange _ port _ => okPort port
  | .doeRequest _ port _ _ _ _ _ _ => okPort port
  | .octSelect _ port addr => okPort port && okAddr addr
  | .octCommit _ port addr _ _ _ => okPort port && okAddr addr
  | .cellDword0Read _ port _ _ _ => okPort port
  | .cellUpperWrite _ port _ _ _ _ value => okPort port && okU32 value
  | .cellDword0Write _ port _ _ _ value => okPort port && okU32 value
  | .dictionaryWrite _ x addr value _ => okXport x && okAddr addr && okOct value
  | .snapTake _ x value => okXport x && okU60 value
  | .tapCheckRun _ x value => okXport x && okU60 value
  | .proofRun _ x value => okXport x && okU60 value
  | .storePrepare _ x value => okXport x && okU60 value
  | .imageFlush _ x value => okXport x && okU60 value
  | .secLockSet _ x value => okXport x && okU60 value
  | .svnCommit _ x value => okXport x && okU60 value
  | .keyRevoke _ x value => okXport x && okU60 value
  | .pmTarget _ x value => okXport x && okU60 value
  | .mgmtKeyWrap _ x _ => okXport x
  | .unitRetire _ x value => okXport x && okU60 value
  | .qsel _ x value => okXport x && okU60 value
  | .inningBoundary _ _ => true
  | .supplyHoldEnd _ => true
  | .nandOperationComplete _ lun _ => okLun lun
  | .statusPoll _ lun _ => okLun lun
  | .operationTimeout _ lun => okLun lun
  | .resumeProgressMet _ lun => okLun lun
  | .suspendEffect _ lun _ => okLun lun
  | .trainingAttempt _ ch _ _ _ => okChan ch
  | .retrainDue _ ch tgt _ _ => okChan ch && okTgt tgt
  | .zqCalibration _ ch tgt _ => okChan ch && okTgt tgt
  | .nandTemperatureRead _ lun _ => okLun lun
  | .eraseIntentProgrammed _ => true
  | .eiClearDelay _ => true
  | .reallocation _ => true
  | .retentionStressTick _ => true
  | .zoneLearningPeriod _ => true
  | .fold _ => true
  | .gcVictimChoice _ => true
  | .recast _ => true
  | .relocation _ => true
  | .checkpoint _ => true
  | .patrolOverdue _ => true
  | .decodeComplete _ _ _ => true
  | .stripeRowClose _ _ => true
  | .cruCloseTime _ _ => true
  | .journalPageProgrammed _ _ => true
  | .sliceLoad _ _ _ => true
  | .destinationPageSafe _ _ _ => true
  | .sourceRelease _ _ => true
  | .superblockAssembly _ _ _ => true
  | .patchEntryEffect _ _ _ => true
  | .patrolRow _ _ _ _ => true
  | .memberReplacementComplete _ _ member => okMember member
  | .fenceTimeExpiry _ unit => okUnit unit
  | .probeComplete _ unit _ => okUnit unit
  | .adcScan _ _ _ => true
  | .storeInserted _ _ => true
  | .storeRemoved _ => true
  | .gaugeHibernate _ => true
  | .gaugeWake _ _ _ => true
  | .tapCheck _ _ _ => true
  | .tapCheckInterval _ => true
  | .proofInterval _ => true
  | .proofEnd _ _ => true
  | .powerFailTrigger _ _ _ _ => true
  | .stashMove _ => true
  | .cataloguePageProgrammed _ => true
  | .pwArm _ x => okXport x
  | .pwRemove _ x => okXport x
  | .pwClear _ x => okXport x
  | .pwConsumedWrite _ x port win value => okXport x && okPort port && okWin win && okU60 value
  | .pwFaultWrite _ x port win value => okXport x && okPort port && okWin win && okU60 value
  | .pwTimeout _ port win => okPort port && okWin win
  | .peerDoorbell _ _ => true
  | .doorbellReadCompletion _ _ _ => true
  | .rallyLinkTraining _ lanes => okLanes lanes
  | .rallyLinkDown _ => true
  | .rallyLossTime _ => true
  | .rallyAckTimeout _ => true
  | .ackIdle _ => true
  | .helloTimer _ => true
  | .pairJoinWait _ => true
  | .resyncCopy _ => true
  | .dirtyMapProgram _ => true
  | .imageWrite _ => true
  | .hello _ _ _ => true
  | .ack _ _ => true
  | .nak _ _ _ => true
  | .mirrorData _ _ _ => true
  | .mirrorMeta _ _ _ => true
  | .mirrorMap _ _ _ _ _ _ _ => true
  | .done _ _ => true
  | .abortFrame _ _ => true
  | .resyncCtrl _ _ _ _ _ _ => true
  | .resyncData _ _ _ _ => true
  | .remoteRead _ _ _ _ _ _ => true
  | .remoteData _ _ _ _ => true
  | .mbox _ _ cell value _ => okCell cell && okU20 value
  | .mboxAck _ _ cell => okCell cell
  | .notice _ _ _ _ => true
  | .mboxWrite _ x cell value => okXport x && okCell cell && okU20 value
  | .mboxFencedWrite _ x cell value => okXport x && okCell cell && okU20 value
  | .mboxFenceTimeout _ => true
  | .mctpGet _ addr _ _ => okAddr addr
  | .mctpSet _ _ _ => true
  | .mctpControlMessage _ _ _ _ => true
  | .mctpReassemblyTimeout _ => true
  | .fliadOpen _ _ => true
  | .fliadClose _ _ => true
  | .fliadGet _ _ => true
  | .fliadGetBlock _ _ => true
  | .fliadSet _ _ _ => true
  | .fliadSetBlock _ _ => true
  | .fliadIdle _ _ => true
  | .neighborSolicitation _ _ => true
  | .icmpv6Echo _ _ _ => true
  | .mgmtLinkChange _ _ => true
  | .mgmtRxDrop _ _ => true
  | .idleTimer _ _ => true
  | .psEntry _ _ _ => true
  | .wakeExit _ _ _ => true
  | .housekeepingWake _ => true
  | .pmbusRequest _ _ _ => true
  | .pmbAlert _ _ => true
  | .vrPgoodLoss _ => true
  | .avsAdjust _ _ _ _ => true
  | .refclkLoss _ => true
  | .refclkReturn _ => true
  | .holdoverExpiry _ => true
  | .junctionAverage _ _ _ => true
  | .throttleRise _ => true
  | .throttleRelease _ => true
  | .vaonUp _ => true
  | .main12vGood _ => true
  | .vrPgoodTimeout _ => true
  | .start _ _ => true
  | .touchLoadComplete _ _ => true
  | .eventSecondEnd _ => true
  | .excerptPageProgram _ => true
  | .shnDrainLimit _ _ => true
  | .rallyFrameDiscard _ => true
  | .interruptCoalescingTime _ port fn _ => okPort port && okFn fn

end Sys2Proof
end

