-- ==== Sys2Proof/Tests/Slice0.lean ====
section
/-! SUPPORT. Small tests: an operand that each check of WellFormed refuses, worked cases of the manual, the first
commands after reset, and states that meet the hypotheses of statements. -/
namespace Sys2Proof.Tests
set_option Elab.async false
open Sys2Proof.Machine

/-! ### Well-formedness: the last operand that is taken and the first that is refused -/

theorem test_wf_port : (Instr.fetch 0 1 [] none).wf = true ∧ (Instr.fetch 0 2 [] none).wf = false := by decide

theorem test_wf_function : (Instr.flrInitiate 0 1 511).wf = true ∧ (Instr.flrInitiate 0 1 512).wf = false := by decide

theorem test_wf_word32 : (Instr.doorbellWrite 0 0 0 0 4 0xFFFFFFFF none).wf = true
    ∧ (Instr.doorbellWrite 0 0 0 0 4 0x100000000 none).wf = false := by decide

theorem test_wf_channel : (Instr.trainingAttempt 0 31 true [] []).wf = true ∧ (Instr.trainingAttempt 0 32 true [] []).wf = false := by
  decide

theorem test_wf_lun : (Instr.operationTimeout 0 2047).wf = true ∧ (Instr.operationTimeout 0 2048).wf = false := by decide

theorem test_wf_target : (Instr.zqCalibration 0 0 511 true).wf = true ∧ (Instr.zqCalibration 0 0 512 true).wf = false := by decide

theorem test_wf_unit : (Instr.fenceTimeExpiry 0 32767).wf = true ∧ (Instr.fenceTimeExpiry 0 32768).wf = false := by decide

theorem test_wf_generation : (Instr.linkTrained 0 0 6 16 true).wf = true ∧ (Instr.linkTrained 0 0 7 16 true).wf = false := by decide

theorem test_wf_width : (Instr.l0pWidthRequest 0 0 8).wf = true ∧ (Instr.l0pWidthRequest 0 0 3).wf = false := by decide

theorem test_wf_lanes : (Instr.rallyLinkTraining 0 8).wf = true ∧ (Instr.rallyLinkTraining 0 16).wf = false := by decide

theorem test_wf_member : (Instr.memberReplacementComplete 0 0 31).wf = true ∧ (Instr.memberReplacementComplete 0 0 32).wf = false := by
  decide

theorem test_wf_window : (Instr.pwTimeout 0 0 255).wf = true ∧ (Instr.pwTimeout 0 0 256).wf = false := by decide

theorem test_wf_cell : (Instr.mboxWrite 0 .nvme 63 0).wf = true ∧ (Instr.mboxWrite 0 .nvme 64 0).wf = false := by decide

theorem test_wf_u20 : (Instr.mboxWrite 0 .nvme 0 0xFFFFF).wf = true ∧ (Instr.mboxWrite 0 .nvme 0 0x100000).wf = false := by decide

theorem test_wf_address : (Instr.octSelect 0 0 0xFFFFFF).wf = true ∧ (Instr.octSelect 0 0 0x1000000).wf = false := by decide

theorem test_wf_u60 : (Instr.qsel 0 .nvme (2 ^ 60 - 1)).wf = true ∧ (Instr.qsel 0 .nvme (2 ^ 60)).wf = false := by decide

theorem test_wf_octets : (Instr.dictionaryWrite 0 .nvme 0 (2 ^ 32768 - 1) 0).wf = true
    ∧ (Instr.dictionaryWrite 0 .nvme 0 (2 ^ 32768) 0).wf = false := by decide +kernel

theorem test_wf_transport : (Instr.pwArm 0 (.bar4 1)).wf = true ∧ (Instr.pwArm 0 (.bar4 2)).wf = false := by decide

/-! ### Worked cases -/

/-- R381: a tag wraps from 0xFFF to 0x001. -/
theorem test_tag_wraps : nextTag 0xFFF = 1 ∧ nextTag 0x7A1 = 0x7A2 := by decide

/-- The Castagnoli CRC of the nine digits, as the polynomial of R307 gives it with the inversion of log entry 24. -/
theorem test_crc32c : crc32c 0xFFFFFFFF [0x31, 0x32, 0x33, 0x34, 0x35, 0x36, 0x37, 0x38, 0x39] = 0xE3069283 := by
  decide +kernel

/-- The worked case after R329: 2,500,000 bytes of LBA format 3 end in LBA 1,200,152, so they are 153 LBAs. -/
theorem test_extent_lbas : extentLbas 3 2500000 = 153 := by decide

/-- The worked case after R89, LBA format 1: LBAs 1,000 to 1,005 lie in units 250 to 251, LBAs 996 to 999 in 249. -/
theorem test_units_of_lbas : firstUnit 1 1000 = 250 ∧ lastUnit 1 1000 6 = 251 ∧ firstUnit 1 996 = 249 ∧ lastUnit 1 996 4 = 249 := by
  decide

/-- The worked case after R465: 0xFFFF_FFF1 is earlier than 0x0000_F000 across the wrap (R458). -/
theorem test_serial_wraps : serialLt 32 0xFFFFFFF1 0x0000F000 = true ∧ serialLt 32 0x0000F000 0xFFFFFFF1 = false := by decide

/-- The worked case after R426 (R421), first run of averages: 108.3 and 108.5 °C are above 108 °C, 107.95 °C ends the run. -/
theorem test_throttle_run_ends : nextRuns 108 4 1736 1 0 = (2, 0) ∧ nextRuns 108 4 1727 2 0 = (0, 0) := by decide

/-- The worked case after R426 (R421), the averages below 104 °C: the fourth below the level less its hysteresis ends the state. -/
theorem test_throttle_run_down : nextRuns 108 4 1656 0 3 = (0, 4) := by decide

/-- R60: PCIe 6.0 at 16 lanes carries 121 GB/s, in units of 10 MB/s. -/
theorem test_rate_x16 : tableRate 6 16 = 12100 ∧ tableRate 0 16 = 0 := by decide

/-- R2: on the S9616-SP channel 16 is fused off and channel 15 is not; on the S9632-DP neither is. -/
theorem test_fused_off : fusedOff 2 (mkUnit kCHAN 16) = true ∧ fusedOff 2 (mkUnit kCHAN 15) = false
    ∧ fusedOff 0 (mkUnit kCHAN 16) = false := by decide

/-- The worked case of R13: LUN 1,111 of controller 0. -/
theorem test_unit_identifier : Chip.initial.unitIdent (mkUnit kLUN 1111) = 0x20457 ∧ unitOfIdent 0x20457 = mkUnit kLUN 1111 := by decide

/-! ### The first commands after reset -/

/-- What a step answers when it goes on. -/
def after (s : State) : State :=
  match step s with
  | .next t => t
  | .fault _ => s
  | .refused _ => s

/-- The machine after reset with commands waiting. -/
def withCommands (l : List Instr) : State := { State.reset with pending := l }

/-- R414: on the slow oscillator a tick is 800 cycles. -/
theorem test_idle_tick : (after State.reset).chip.now = 800 := by decide

/-- R434: VAON brings the block from dark to standby, on the slow oscillator, and the queue moves on. -/
theorem test_vaon_up : (after (withCommands [.vaonUp 5])).chip.boot.run = .standby ∧ (after (withCommands [.vaonUp 5])).pending = [] := by
  decide

/-- R434: the good main input then releases VR_EN. -/
theorem test_main_good : (after (after (withCommands [.vaonUp 5, .main12vGood 9]))).chip.pm.vrEn = true
    ∧ (after (after (withCommands [.vaonUp 5, .main12vGood 9]))).chip.now = 9 := by decide

/-- Time never runs back (log entry 4). -/
theorem test_time_holds : (after (after (withCommands [.vaonUp 9, .main12vGood 5]))).chip.now = 9 := by decide

/-! ### States that meet the hypotheses of the statements

Each theorem names its statement and gives a state and operands that meet the hypotheses of clauses of it together. -/

/-- A unit that is fitted and ONLINE. -/
def online (u : Nat) : UnitRec := { UnitRec.default 0 u with own := 1, prior := 1, cause := 0 }

/-- A die with nothing to do. -/
def idleDie (l : Nat) : Die :=
  { lun := l, planes := 4, good := 0, blocks := [], ops := [], temp := none, tempAge := 0, tempT := 0, times := [] }

/-- A controller in service at 1 ms: 32 dies of channel 0, 32 GiB on DDR0, no store, so write-through for the causes that hold. -/
def served : Chip :=
  let c : Chip := { Chip.initial with
    now := 1000000, nextH := 2
    boot := { Boot.initial with run := .ready, ddrGib := [32, 0, 0, 0] }
    un := { units := ((List.range 8).map fun i => online (mkUnit kTGT i)) ++ (List.range 32).map fun i => online (mkUnit kLUN i)
            spreads := [], cores := [] }
    md := { Md.initial with dies := (List.range 32).map idleDie }
    sb := { Sbs.initial with eligible := List.range 32 } }
  c.set E.WT_CAUSE 25

/-- A queue of function 0 of port 0. -/
def sq (qid : Nat) : Sq :=
  { port := 0, fn := 0, qid := qid, size := 2, head := 0, tail := 1, base := 0, prio := 0, cq := qid, cls := 3, floor := 4, deleting := false,
    fetched := 0, completed := 0, refused := 0, eventIdx := 0, drain := false }

def cq (qid : Nat) : Cq :=
  { port := 0, fn := 0, qid := qid, size := 2, head := 0, tail := 0, phase := 1, base := 0, vector := 0, ien := true, eventIdx := 0 }

/-- Command 1 of a queue, with its namespace and its Dwords from 6 on. -/
def cmdOf (qid op nsid : Nat) (d : List Nat) : Cmd := { served.newCmd (sq qid) ([op, nsid, 0, 0, 0, 0] ++ d) with h := 1 }

/-- The controller with command 1. -/
def having (x : Cmd) : Chip := { served with cmds := [x] }

/-- An admin command, fetched. -/
def adminCmd (op nsid : Nat) (d : List Nat) : Cmd := cmdOf 0 op nsid d

/-- An I/O command at work. -/
def ioCmd (op nsid : Nat) (d : List Nat) : Cmd := { cmdOf 1 op nsid d with phase := .admitted, admitT := 1 }

/-- A namespace of one granule of LBA format 1. -/
def oneNs : Ns :=
  { nsid := 1, nsze := 262144, ncap := 262144, lbaf := 1, ext := false, p2 := false, granules := [0], attached := [0], key := 1,
    formatting := false, deleting := false, detaching := [], wrapped := 0 }

/-- The controller with that namespace and a command. -/
def withNs (x : Cmd) : Chip := { having x with ft := { served.ft with nss := [oneNs], loaded := [0] } }

/-- The dies 0 to 31 among all indexes. -/
theorem first_dies : (List.range 2048).filter (fun i => (List.range 32).contains i) = List.range 32 := by decide +kernel

/-- A chip is calm when its usable dies are the eligible ones 0 to 31 and its floor, write-through causes and Crucible are in order. -/
theorem calm_of (c : Chip) (hd : (c.md.dies.filter fun d => c.usable (mkUnit kLUN d.lun)).map Die.lun = List.range 32)
    (he : c.sb.eligible = List.range 32) (h : c.floorFaults = 0 ∧ c.wtCauses = c.get E.WT_CAUSE ∧ c.ft.sizeMib ≤ c.ft.target) : c.calm :=
  ⟨h.1, by rw [he, Chip.eligibleNow, hd]; exact first_dies, h.2.1, h.2.2⟩

/-- A chip without a usable die is calm when none is eligible and the rest is in order. -/
theorem calm_none (c : Chip) (hd : (c.md.dies.filter fun d => c.usable (mkUnit kLUN d.lun)).map Die.lun = [])
    (he : c.sb.eligible = []) (h : c.floorFaults = 0 ∧ c.wtCauses = c.get E.WT_CAUSE ∧ c.ft.sizeMib ≤ c.ft.target) : c.calm :=
  ⟨h.1, by rw [he, Chip.eligibleNow, hd]; simp, h.2.1, h.2.2⟩

/-- EmptyQueueTicks. -/
theorem test_meets_empty_queue : State.reset.pending = [] ∧ State.reset.chip.pm.clock = 3 := by decide

/-- TagsStayLegal, in a state with tags at both ends of their range. -/
theorem test_meets_tags_legal :
    ({ Chip.initial with dict := { Dict.initial with tags := [((0x100001, 0), 2), ((0x100002, 0), 0xFFF)] } } : Chip).tagsLegal := by
  unfold Chip.tagsLegal
  decide

/-- FusedOffStaysAbsent, on an S9616-SP that nothing has touched. -/
theorem test_meets_fused_off (u : Nat) (h : fusedOff 2 u = true) :
    ({ Chip.initial with fuse := { Fuse.initial with variant := 2 } } : Chip).own u = 0 := by
  have hd : (UnitRec.default 2 u).own = 0 := by simp [UnitRec.default, h]
  exact hd

/-- Admin command 1 waits, on any chip in service that holds it alone. -/
theorem admin_waits (c : Chip) (op nsid : Nat) (d : List Nat) (ho : op % 256 = op) (hc : c.cmds = [adminCmd op nsid d])
    (hs : c.serves = true) (hf : c.fw.fwaH = none) (hn : (c.fns.all fun f => f.aers.isEmpty) = true) :
    c.adminWaits 1 op (adminCmd op nsid d) := by
  refine ⟨by rw [Chip.cmd, hc]; rfl, rfl, ho, rfl, rfl, rfl, hs, .inl hf, fun f h => ?_⟩
  have := List.all_eq_true.mp hn f h
  rw [List.isEmpty_iff.mp this]
  exact List.not_mem_nil

/-- I/O command 1 is at work, on any chip in service that holds it alone, with no lock waited for. -/
theorem io_waits (c : Chip) (op nsid : Nat) (d : List Nat) (ho : op % 256 = op) (hc : c.cmds = [ioCmd op nsid d])
    (hs : c.isReady = true) (hl : c.lk = { main := [], held := [] }) (hn : c.fns = []) : c.ioWaits 1 op (ioCmd op nsid d) := by
  refine ⟨by rw [Chip.cmd, hc]; rfl, rfl, ho, rfl, by rw [Chip.locked, hl]; rfl, rfl, rfl, rfl, rfl, hs, fun f h => ?_⟩
  rw [hn] at h
  exact absurd h List.not_mem_nil

/-- FeatureFieldsAreStored: the last vector of a function, and shadow doorbells. -/
theorem test_meets_feature_fields :
    let x := adminCmd 9 0 [0, 0, 0, 0, 9, 2047]
    let y := adminCmd 0x7C 0 [4096, 0, 8192]
    (having x).adminWaits 1 9 x ∧ (having y).adminWaits 1 0x7C y
      ∧ (x.dw 10 % 256 = 9 ∧ bits (x.dw 11) 15 0 < 2048 ∧ y.dw 6 % 4096 = 0 ∧ y.dw 8 % 4096 = 0) :=
  ⟨admin_waits _ _ _ _ rfl rfl rfl rfl rfl, admin_waits _ _ _ _ rfl rfl rfl rfl rfl, by decide +kernel⟩

/-- FeatureRequestsAreServed: power state 4, all thresholds, and the number of queues as it stands. -/
theorem test_meets_feature_requests :
    let x := adminCmd 9 0 [0, 0, 0, 0, 2, 4]
    let y := adminCmd 9 0 [0, 0, 0, 0, 4, 0xF0000]
    let z := adminCmd 0x0A 0 [0, 0, 0, 0, 7]
    (having x).adminWaits 1 9 x ∧ (having y).adminWaits 1 9 y ∧ (having z).adminWaits 1 0x0A z
      ∧ (x.dw 10 % 256 = 2 ∧ bits (x.dw 11) 4 0 ≤ 4 ∧ bits (x.dw 11) 7 5 = 0 ∧ y.dw 10 % 256 = 4 ∧ bits (y.dw 11) 19 16 = 15
        ∧ bits (y.dw 11) 21 20 ≤ 1 ∧ bits (z.dw 10) 10 8 = 0
        ∧ ((having z).featureValue ((having z).fnOf 0 0) (z.dw 10 % 256) (z.dw 11)).isSome = true) :=
  ⟨admin_waits _ _ _ _ rfl rfl rfl rfl rfl, admin_waits _ _ _ _ rfl rfl rfl rfl rfl, admin_waits _ _ _ _ rfl rfl rfl rfl rfl,
    by decide +kernel⟩

/-- QueuesAreCreatedAndDeleted: completion queue 1 with the last vector, and submission queue 1 deleted. -/
theorem test_meets_queues :
    let x := adminCmd 5 0 [4096, 0, 0, 0, 0x10001, 0x7FF0001]
    let z := adminCmd 0 0 [0, 0, 0, 0, 1]
    let c : Chip := { having x with fns := [{ Fn.initial 0 0 with granted := 1 }] }
    let e : Chip := { having z with qs := { Qs.initial with sqs := [sq 1], cqs := [cq 1] } }
    c.adminWaits 1 5 x ∧ e.adminWaits 1 0 z
      ∧ (c.qidOk x (bits (x.dw 10) 15 0) = true ∧ c.cqOf 0 0 (bits (x.dw 10) 15 0) = none ∧ 1 ≤ bits (x.dw 10) 31 16
        ∧ bit (x.dw 11) 0 = 1 ∧ c.inCmb x (x.dw 6 + x.dw 7 * 2 ^ 32) = false ∧ bits (x.dw 11) 31 16 < 2048)
      ∧ (bits (z.dw 10) 15 0 ≠ 0 ∧ e.sqOf 0 0 (bits (z.dw 10) 15 0) = some (sq 1)) :=
  ⟨admin_waits _ _ _ _ rfl rfl rfl rfl rfl, admin_waits _ _ _ _ rfl rfl rfl rfl rfl, by decide +kernel, by decide +kernel⟩

/-- AdminReadsAreAnswered: the SMART page, a held event request, and one record of the dictionary. -/
theorem test_meets_admin_reads :
    let x := adminCmd 2 0 [0, 0, 0, 0, 0x7F0002]
    let y := adminCmd 0x0C 0 []
    let z := adminCmd 0xC6 0 [0, 0, 0, 0, 0xA00000, 1, 64]
    (having x).adminWaits 1 2 x ∧ (having y).adminWaits 1 0x0C y ∧ (having z).adminWaits 1 0xC6 z
      ∧ (((having x).logPage x).map Prod.fst = some 512 ∧ ((having y).fnOf 0 0).aesPending = [] ∧ ((having y).fnOf 0 0).aers.length < 16)
      ∧ (bits (z.dw 10) 7 0 = 0 ∧ bits (z.dw 11) 8 0 = 1 ∧ z.dw 12 ≤ 1052672
        ∧ sumOf (((having z).getRecords .nvme (bits (z.dw 10) 31 8) (bits (z.dw 11) 8 0)).1.map recordOctets) ≤ z.dw 12) :=
  ⟨admin_waits _ _ _ _ rfl rfl rfl rfl rfl, admin_waits _ _ _ _ rfl rfl rfl rfl rfl, admin_waits _ _ _ _ rfl rfl rfl rfl rfl,
    by decide +kernel, by decide +kernel⟩

/-- NamespacesAreManaged: namespace 1 is detached from controller 0 and formatted with a new key. -/
theorem test_meets_namespaces :
    let x := adminCmd 0x15 1 [0, 0, 0, 0, 1]
    let y := adminCmd 0x80 1 [0, 0, 0, 0, 0x201]
    (withNs x).adminWaits 1 0x15 x ∧ (withNs y).adminWaits 1 0x80 y
      ∧ (bits (x.dw 10) 3 0 = 1 ∧ (withNs x).nsBlocked = none ∧ (withNs x).ns x.nsid = some oneNs ∧ (withNs x).cntlidOk 0 = true
        ∧ 0 ∈ oneNs.attached ∧ (withNs x).onNs x 1 = false)
      ∧ (bits (y.dw 10) 3 0 ≤ 5 ∧ bits (y.dw 10) 11 9 ≤ 2 ∧ bits (y.dw 10) 8 5 = 0 ∧ (withNs y).wipeFits ((withNs y).namedNs 1) = true) :=
  ⟨admin_waits _ _ _ _ rfl rfl rfl rfl rfl, admin_waits _ _ _ _ rfl rfl rfl rfl rfl, by decide +kernel, by decide +kernel⟩

/-- FirmwareIsDownloadedAndCommitted: a first piece of 4 KiB, and the image of slot 1 activated. -/
theorem test_meets_firmware :
    let x := adminCmd 0x11 0 [0, 0, 0, 0, 1023, 0]
    let y := adminCmd 0x10 0 [0, 0, 0, 0, 0x11]
    (having x).adminWaits 1 0x11 x ∧ (having y).adminWaits 1 0x10 y
      ∧ (4 * (x.dw 10 + 1) % 4096 = 0 ∧ 4 * x.dw 11 + 4 * (x.dw 10 + 1) ≤ 16 * 2 ^ 20)
      ∧ (bits (y.dw 10) 5 3 = 2 ∧ bits (y.dw 10) 2 0 = 1 ∧ (having y).imageCheck ((having y).slotImage 1) = 0) :=
  ⟨admin_waits _ _ _ _ rfl rfl rfl rfl rfl, admin_waits _ _ _ _ rfl rfl rfl rfl rfl, by decide +kernel, by decide +kernel⟩

/-- FirmwareActivatesWithoutReset: slot 1, with nothing in flight. -/
theorem test_meets_activation :
    let x := adminCmd 0x10 0 [0, 0, 0, 0, 0x19]
    (having x).adminWaits 1 0x10 x ∧ (bits (x.dw 10) 5 3 = 3 ∧ bits (x.dw 10) 2 0 = 1 ∧ (having x).get E.FORMAT_STATE = 0
      ∧ (having x).fw.complete = false ∧ (having x).imageCheck ((having x).slotImage 1) = 0 ∧ (having x).fwaBusy = false) :=
  ⟨admin_waits _ _ _ _ rfl rfl rfl rfl rfl, by decide +kernel⟩

/-- SelfTestsStartAndEnd: a short test. -/
theorem test_meets_self_test :
    let x := adminCmd 0x14 0 [0, 0, 0, 0, 1]
    (having x).adminWaits 1 0x14 x ∧ (bits (x.dw 10) 3 0 = 1 ∧ (having x).get E.ST_STATE = 0) :=
  ⟨admin_waits _ _ _ _ rfl rfl rfl rfl rfl, by decide +kernel⟩

/-- PairControlIsServed: a detach of a paired controller. -/
theorem test_meets_pair_control :
    let x := adminCmd 0xC9 0 [0, 0, 0, 0, 2]
    let c : Chip := { having x with boot := { served.boot with pairMode := 1 } }
    c.adminWaits 1 0xC9 x ∧ (bits (x.dw 10) 31 4 = 0 ∧ bits (x.dw 10) 3 0 = 2 ∧ bits (x.dw 11) 31 1 = 0 ∧ c.get E.PAIR_STATE ≠ 3
      ∧ c.get E.DETACHED = 0) :=
  ⟨admin_waits _ _ _ _ rfl rfl rfl rfl rfl, by decide +kernel⟩

/-- ReadsDeliver: a Read of 8 LBAs that nothing has written. -/
theorem test_meets_read :
    let x := ioCmd 2 1 [0, 0, 0, 0, 0, 0, 7]
    (withNs x).ioWaits 1 2 x ∧ ((withNs x).ns x.nsid = some oneNs ∧ (withNs x).rd.tasks = [])
      ∧ atHand (withNs x) (Chip.unitCws oneNs (x.slba, x.nlb)) :=
  ⟨io_waits _ _ _ _ rfl rfl rfl rfl rfl, by decide +kernel, by unfold atHand; decide +kernel⟩

/-- WritesAreTaken: a Write of unit 1 alone, and a Flush. -/
theorem test_meets_write :
    let x := ioCmd 1 1 [0, 0, 0, 0, 4, 0, 3]
    let y := cmdOf 1 0 1 []
    (withNs x).ioWaits 1 1 x ∧ ((withNs x).ns x.nsid = some oneNs
        ∧ ∀ u ∈ cover oneNs.lbaf x.slba x.nlb, u.2.2 = lbasPerUnit oneNs.lbaf)
      ∧ ((withNs y).cmd 1 = some y ∧ y.admin = false ∧ y.opcode = 0 ∧ y.phase = .fetched) :=
  ⟨io_waits _ _ _ _ rfl rfl rfl rfl rfl, by decide +kernel, by decide +kernel⟩

/-- SanitizeStarts: a block erase, with another command admitted. -/
theorem test_meets_sanitize :
    let x := adminCmd 0x84 0 [0, 0, 0, 0, 2]
    let y : Cmd := { ioCmd 2 1 [] with h := 2 }
    let c : Chip := { having x with cmds := [x, y] }
    c.calm ∧ (c.cmd 1 = some x ∧ x.dw 10 % 8 = 2 ∧ c.isReady = true ∧ c.pairBlocks = false ∧ c.ft.sanitizeStep = 0 ∧ c.get E.ST_STATE = 0
      ∧ y ∈ c.cmds ∧ y.phase = .admitted ∧ y.admin = false ∧ y.posted = false) := by
  exact ⟨calm_of _ (by decide +kernel) rfl (by decide +kernel), by decide +kernel⟩

/-- DoorbellsMoveQueues: the doorbell of submission queue 0, to the last index. -/
theorem test_meets_doorbell :
    let c : Chip := { served with fns := [{ Fn.initial 0 0 with en := true, rdy := true }], qs := { Qs.initial with sqs := [sq 0] } }
    c.serves = true ∧ (c.fnOf 0 0).rdy = true ∧ c.inD3 0 0 = false ∧ c.sqOf 0 0 ((0x1000 - 0x1000) / 4 / 2) = some (sq 0)
      ∧ (sq 0).deleting = false ∧ 1 < (sq 0).size := by decide +kernel

/-- FetchTakesAnEntry: the one entry of the admin queue. -/
theorem test_meets_fetch :
    let f : Fn := { Fn.initial 0 0 with en := true, rdy := true, cfg := { FnCfg.initial with busMaster := true } }
    let a : Arb := { fn := 0, left := 8, rounds := [] }
    let c : Chip := { served with fns := [f], qs := { Qs.initial with sqs := [sq 0], arb := [a] } }
    c.serves = true ∧ c.qs.arb[0]? = some a ∧ c.inputOf 0 < 4096 ∧ (c.fnOf 0 0).shadow = false
      ∧ (c.qs.sqs.any fun q => decide (q.port = 0 ∧ q.fn = a.fn) && c.canFetch q) = true
      ∧ (c.pickQueue (c.fnOf 0 0) ((c.fnOf 0 0).freshRound)).map Prod.fst = some (sq 0) ∧ c.cmd c.nextH = none := by decide +kernel

/-- CommandsAreDecided: a class 0 command undecided at ADMIT_WAIT, and a lock that nothing precedes. -/
theorem test_meets_decided :
    let x : Cmd := { cmdOf 1 2 1 [] with cls := 0, fetchT := 0 }
    let l : Lock := { h := 1, seq := 0, nsid := 1, first := 0, last := 0, excl := false, granted := false, owner := false }
    let c : Chip := { having x with lk := { main := [l], held := [] } }
    x.undecided = true ∧ x.fetchT * psPerCyc + c.get E.ADMIT_WAIT * 1000 ≤ c.nowPs ∧ c.cmd 1 = some x
      ∧ c.moveHeld.splitShort (c.moveHeld.clearsOf x) = false
      ∧ c.moveHeld.lk.grantable l = true ∧ c.moveHeld.lk.ready 1 = true := by decide +kernel

/-- DropCommits: a Drop of the key of a stash entry, with its lock held. -/
theorem test_meets_drop :
    let e : SbEntry := { key := 5, nsid := 1, slba := 0, length := 4096, gen := 9, flags := 0, pending := 0 }
    let x : Cmd := { ioCmd 0x89 1 [] with phase := .working, sqe := [0x89, 1, 5] }
    let c : Chip := { having x with book := { Book.initial with stash := [(0, e)] } }
    c.cmd 1 = some x ∧ c.locked 1 = true ∧ c.lk.ready 1 = true ∧ 1 ≤ c.bookRoom ∧ c.journalFull = false ∧ c.lost.length ≤ lostMax
      ∧ c.mirrors = false ∧ (c.findKey x.sbKey).isSome = true := by decide +kernel

/-- CompletionIsPosted: an ended command, and a completion queue of two entries with room for one. -/
theorem test_meets_post :
    let x : Cmd := { ioCmd 2 1 [] with phase := .ended }
    let c : Chip := { having x with qs := { Qs.initial with sqs := [sq 1], cqs := [cq 1] } }
    c.cmd 1 = some x ∧ c.postable x = true ∧ c.earlierPosts x = [] ∧ c.sqOf 0 0 1 = some (sq 1) ∧ c.cqOf 0 0 (sq 1).cq = some (cq 1)
      ∧ (cq 1).isFull = false := by decide +kernel

/-- DeadlinesExpire: a class 1 read at its promised time, and a class 2 one at its late limit. -/
theorem test_meets_expiry :
    let x : Cmd := { ioCmd 2 1 [] with cls := 1, fetchT := 0 }
    let y : Cmd := { ioCmd 2 1 [] with cls := 2, fetchT := 0 }
    (x.running = true ∧ x.writeType = false ∧ x.duePs ≤ ((having x).atTime (10 ^ 12)).nowPs)
      ∧ (y.running = true ∧ y.fetchT + (having y).get E.CLASS2_LATE_LIMIT * cycPerMs ≤ ((having y).atTime (10 ^ 12)).now) := by decide +kernel

/-- LinkErrorsAreReported: the first fault of port 0. -/
theorem test_meets_link_error :
    let x := ioCmd 1 1 []
    let c := having x
    c.calm ∧ (x.running = true ∧ x.phase ≠ .committed ∧ c.own (mkUnit kPORT 0) = 1 ∧ c.ancestorOut (mkUnit kPORT 0) = false
      ∧ (c.setUnit { c.unitRec (mkUnit kPORT 0) with faults := [c.now] }).faultCount (mkUnit kPORT 0) < c.get E.TRANSIENT_LIMIT) := by
  exact ⟨calm_of _ (by decide +kernel) rfl (by decide +kernel), by decide +kernel⟩

/-- ControllersAreEnabledAndReset: function 0 of port 0, not enabled and enabled. -/
theorem test_meets_enable :
    (served.isReady = true ∧ served.portUsed 0 = true ∧ served.fnExists 0 0 = true ∧ (served.fnOf 0 0).en = false
        ∧ (served.fnOf 0 0).rdy = false ∧ (served.fnOf 0 0).flr = 0)
      ∧ (({ served with fns := [{ Fn.initial 0 0 with en := true }] } : Chip).fnOf 0 0).en = true ∧ served.get E.FW_PENDING_SLOT = 0 := by
  decide +kernel

/-- ShutdownsComplete: the one PF, with no command. -/
theorem test_meets_shutdown :
    let f : Fn := { Fn.initial 0 0 with en := true }
    let c : Chip := { served with fns := [f] }
    c.fnOf 0 0 = f ∧ c.isReady = true ∧ c.get E.FORMAT_STATE = 0 ∧ c.fw.fwaH = none ∧ f.shst = 0 ∧ c.othersOn 0 0 = [] ∧ c.cmds = [] := by
  decide +kernel

/-- FunctionsAreReset, and FunctionsChangePowerState: a function to be reset, one in its drain, one in D3hot. -/
theorem test_meets_functions :
    (served.endpointUp = true ∧ served.fnExists 0 0 = true ∧ (served.fnOf 0 0).flr ≠ 1)
      ∧ (({ served with fns := [{ Fn.initial 0 0 with flr := 1 }] } : Chip).fnOf 0 0).flr = 1
      ∧ (({ served with fns := [{ Fn.initial 0 0 with dstate := 3 }] } : Chip).fnOf 0 0).dstate = 3
      ∧ (served.portUsed 0 = true ∧ (served.fnOf 0 0).dstate = 0 ∧ (served.fnOf 0 0).cmse = false
        ∧ served.bar2Ctrl 0 0 ≤ served.ddrMib (fun o => o == 1 || o == 2) - served.fixedMib served.bookOn - served.ft.cmbMib) := by
  decide +kernel

/-- PortsAreReset: a hot reset of port 0. -/
theorem test_meets_port_reset : served.endpointUp = true ∧ served.portUsed 0 = true ∧ (1 : Nat) ≤ 3 ∧ served.boot.run = .ready := by
  decide +kernel

/-- LinksTrainAndRest: PERST# deasserted, a link trained at the greatest generation and width, and a rested port. -/
theorem test_meets_links :
    let p : Port := { Port.initial 0 with perst := false, link := 2, trained := 16, width := 16, rateWidth := 16, gen := 6, flit := true }
    let c : Chip := { served with ports := [p, Port.initial 1] }
    (served.portUsed 0 = true ∧ (served.portOf 0).perst = true)
      ∧ (c.portOf 0 = p ∧ c.own (mkUnit kPORT 0) = 1 ∧ fusedOff c.fuse.variant (mkUnit kPORT 0) = false)
      ∧ (c.substateOk 0 0 = true ∧ (c.atTime (10 ^ 12)).portRested 0 = true ∧ p.mps ≠ 512) := by decide +kernel

/-- LinksCarryWidthsAndObjects: L0p to the width of 8 lanes, and GET_VERSION. -/
theorem test_meets_widths :
    let p : Port := { Port.initial 0 with perst := false, link := 2, trained := 16, width := 16, rateWidth := 16, gen := 6, flit := true }
    let c : Chip := ({ served with ports := [p, Port.initial 1] } : Chip).set E.L0P_ENABLE 1
    (c.l0pOn 0 8 = true ∧ 8 < p.width ∧ c.l0pMin ≤ 8 ∧ c.fitsWidth 0 8 = true) ∧ (c.portUsed 0 = true ∧ p.doeError = false
      ∧ (c.set E.SPDM_ENABLE 1).get E.SPDM_ENABLE = 1) := by decide +kernel

/-- EntriesAreWritten: LUN_SELECT at its greatest value over NVMe, and in BAR4. -/
theorem test_meets_write_entry :
    served.calm ∧ (served.isReady = true ∧ (2047 : Nat) ≤ 2047 ∧ served.xportWrites .nvme = true
      ∧ (served.slotAccess 0 0 (E.LUN_SELECT / 256)).isSome = true ∧ (served.winOf 0).isSome = true) := by
  exact ⟨calm_of _ (by decide +kernel) rfl (by decide +kernel), by decide +kernel⟩

/-- WindowIsRead: a one-cell entry through slot 0, and an OCT entry. -/
theorem test_meets_window :
    ((served.slotAccess 0 0 (E.LUN_SELECT / 256)).isSome = true ∧ (descOf E.LUN_SELECT).map (fun d => d.type.cells) = some 1
        ∧ served.stalledRead 0 (E.LUN_SELECT / 256) = false)
      ∧ ((served.winOf 0).isSome = true ∧ (descOf E.PW_BASE).map Desc.type = some .oct) := by decide +kernel

/-- ActionsStart: a queue is captured, a proof is ready, an image write begins and ends. -/
theorem test_meets_actions_start :
    let c : Chip := { served with qs := { Qs.initial with sqs := [sq 1], cqs := [cq 1] } }
    let st := online (mkUnit kSTORE 0)
    let d : Chip := { served with un := { served.un with units := [st] }, st := { Store9.initial with present := true, atFull := true } }
    (c.isReady = true ∧ c.xportWrites .nvme = true ∧ c.sqOf 0 0 1 = some (sq 1) ∧ (c.fnOf 0 0).flr = 0)
      ∧ (d.proofReady = true ∧ d.st.tapCheck = 0) ∧ (served.get E.PREPARE_STATE = 0 ∧ served.dict.writing = false) := by decide +kernel

/-- ActionsTakeEffect: key 3 revoked, LUN 0 of this controller retired, power state 4 requested. -/
theorem test_meets_actions_effect :
    (served.secLocked .nvme = false ∧ 3 < served.fuse.keyRevoked.length ∧ served.keyValid 3 = false
        ∧ (∀ i, served.fw.slots[served.get E.FW_RUNNING_SLOT - 1]? = some i → i.keyIndex ≠ 3))
      ∧ (unitKind (unitOfIdent (served.unitIdent (mkUnit kLUN 0))) = kLUN ∧ served.own (mkUnit kLUN 0) = 1
        ∧ (∀ f ∈ served.unitChecks, f (served.unitIdent (mkUnit kLUN 0)) = served.unitIdent (mkUnit kLUN 0)))
      ∧ ((4 : Nat) ≤ 4 ∧ (3 ≤ (4 : Nat) ∨ served.get E.PS_CURRENT < 3)) := by decide +kernel

/-- WindowsAreManaged: a FREE window whose fields are in order, an ARMED one, and its consumed count. -/
theorem test_meets_windows :
    let w : Win5 := { served.win5 0 0 with state := 1, count := 1 }
    let c : Chip := { served with wins := [w] }
    ((served.win5 0 0).state = 0 ∧ (served.setAt E.PW_SIZE 0 4096).winFieldsOk 0 = true)
      ∧ (c.win5 0 0 = w ∧ w.users = [] ∧ w.reading = [] ∧ serialDist 20 w.accepted 1 ≤ serialDist 20 w.accepted w.count) := by decide +kernel

/-- DeliveriesEnd: a delivery from the window's own port, with its turn. -/
theorem test_meets_delivery :
    let x : Cmd := { ioCmd 0x82 1 [] with phase := .committed }
    let w : Win5 := { served.win5 0 0 with state := 1, users := [1] }
    let c : Chip := { having x with wins := [w] }
    c.isReady = true ∧ c.cmd 1 = some x ∧ x.opcode = 0x82 ∧ c.win5 (x.segWin / 256) (x.segWin % 256) = w ∧ w.next 1 = true
      ∧ x.segWin / 256 = x.port := by decide +kernel

/-- An operation of the first die. -/
def anOp (k : OpKind) : Op :=
  { kind := k, cls := 1, qlc := false, block := 7, plane := 0, issueT := 0, resumeT := 0, doneProg := 0, suspends := 0, suspended := false,
    suspendT := none, task := 0, row := 0, member := 0, retries := 0, confirmed := true, senses := 0, levels := [], pollT := 0, allow := 4, page := [], bus := 0,
    charged := 0, chargedAt := 0 }

/-- The controller with operations on LUN 0. -/
def withOps (l : List Op) : Chip := { served with md := { served.md with dies := { idleDie 0 with ops := l } :: (List.range 31).map fun i => idleDie (i + 1) } }

/-- DiesRunOperations: an erase that a read of class HR waits for, a read that ends, an erase that ends. -/
theorem test_meets_dies :
    let hr : Op := { anOp .read with cls := 0, confirmed := false }
    let c := withOps [anOp .erase, hr]
    let d := withOps [anOp .read]
    c.calm ∧ (c.usable (mkUnit kLUN 0) = true ∧ c.get E.PS_CURRENT < 3 ∧ ((c.dieOf 0).bind Die.current) = some (anOp .erase)
        ∧ (c.dieOf 0).map c.hrWaits = some true ∧ (anOp .erase).suspends < (anOp .erase).allow)
      ∧ ((d.dieOf 0).map Die.ops = some [anOp .read] ∧ d.inOutage 0 = false ∧ c.inOutage 0 = false
        ∧ (c.blockOf 0 7).lun = 0 ∧ c.ft.sanitizeStep ≠ 2) := by
  exact ⟨calm_of _ (by decide +kernel) rfl (by decide +kernel), by decide +kernel⟩

/-- A target that is fitted. -/
def fittedTgt : Tgt :=
  { tgt := 0, fitted := true, maxRate := 4800, iface := 1, luns := 4, suspend := true, independent := true, softBit := true, trims := 0,
    trainTemp := 85, trainT := 0, zqT := 0, volume := none, odt := 0, drive := 0, eye := 500 }

/-- A unit bears one more fault where every listed unit stays listed with its own state. -/
theorem bears_of (c : Chip) (u : Nat) (hf : (c.chargeFault u).fuse = c.fuse)
    (h : (c.chargeFault u).un.units.map (fun r => (r.unit, r.own)) = c.un.units.map fun r => (r.unit, r.own)) : c.bearsFault u := by
  have key : ∀ (d : Chip) (v : Nat), d.own v = (((d.un.units.map fun r => (r.unit, r.own)).find? fun p => decide (p.1 = v)).map Prod.snd).getD
      (UnitRec.default d.fuse.variant v).own := by
    intro d v
    unfold Chip.own Chip.unitRec
    rw [List.find?_map]
    simp only [Function.comp_def, Option.map_map]
    cases d.un.units.find? (fun r => decide (r.unit = v)) <;> rfl
  intro v
  rw [key, key, h, hf]

/-- The controller with one fitted target, its units, and channel 0 as given. -/
def onChannel (k : Chan) (u : UnitRec) : Chip :=
  { served with md := { served.md with chans := [k], tgts := [fittedTgt] }, un := { served.un with units := u :: served.un.units } }

/-- Channel 0, trained at 1,200 MT/s. -/
def trainedChan : Chan := { Chan.initial 0 with rate := 1200, configured := 4800, wp := false, eye := 500 }

/-- ChannelsAreTrained, a full attempt: the least eye at 1,200 MT/s passes, the next narrower fails for the third time. -/
theorem test_meets_training :
    let c : Chip := { onChannel { trainedChan with fails := 2 } (online (mkUnit kCHAN 0)) with boot := { served.boot with run := .starting } }
    c.chan 0 = some { trainedChan with fails := 2 } ∧ c.own (mkUnit kCHAN 0) = 1
      ∧ ((c.atTime 0).calibrateLong 0).firstRate 0 ([1200].zip [(c.get E.TRAIN_EYE_MIN, 8)]) = some (1200, c.get E.TRAIN_EYE_MIN)
      ∧ ((c.atTime 0).calibrateLong 0).firstRate 0 ([1200].zip [(c.get E.TRAIN_EYE_MIN - 1, 8)]) = none
      ∧ fusedOff c.fuse.variant (mkUnit kCHAN 0) = false ∧ (c.un.units.map UnitRec.unit).Nodup ∧ 0 < c.get E.TRAIN_EYE_MIN := by
  decide +kernel

/-- ChannelsAreTrained, the probe of a fenced channel: before and after the end of the fence, with and without a rate that passes. -/
theorem test_meets_probe :
    let u : UnitRec := { online (mkUnit kCHAN 0) with own := 3, probe := 1, fenceEnd := served.now + 1 }
    let x : Sbs := { served.sb with eligible := [] }
    let c : Chip := { onChannel { trainedChan with fails := 1 } u with sb := x }
    let d : Chip := { onChannel { trainedChan with fails := 2 } { u with fenceEnd := served.now } with sb := x }
    c.calm ∧ d.calm ∧ (c.isReady = true ∧ c.own (mkUnit kCHAN 0) = 3 ∧ c.unitRec (mkUnit kCHAN 0) = u
      ∧ (c.un.units.map UnitRec.unit).Nodup ∧ fusedOff c.fuse.variant (mkUnit kCHAN 0) = false ∧ c.ancestorOut (mkUnit kCHAN 0) = false
      ∧ (c.atTime 0).now < u.fenceEnd ∧ (d.unitRec (mkUnit kCHAN 0)).fenceEnd ≤ (d.atTime 0).now
      ∧ (c.atTime 0).firstRate 0 ([1200].zip [(500, 8)]) = some (1200, 500) ∧ (c.atTime 0).firstRate 0 [] = none) :=
  ⟨calm_none _ (by decide +kernel) rfl (by decide +kernel), calm_none _ (by decide +kernel) rfl (by decide +kernel), by decide +kernel⟩

/-- ChannelsAreTrained, retraining and calibration: not due, due without a booking, and at its booked inning on a channel that is
DEGRADED, with no rate, a lower and the configured one that passes, and with a fault that the channel and the target bear. -/
theorem test_meets_retraining :
    let k := { trainedChan with jobs := [(0, [0])] }
    let u : UnitRec := { online (mkUnit kCHAN 0) with own := 2 }
    let c := onChannel k u
    let d := onChannel trainedChan u
    c.calm ∧ (c.isReady = true ∧ c.tgt 0 = some fittedTgt ∧ c.usable (mkUnit kTGT 0) = true ∧ (c.atTime 0).retrainDue fittedTgt = false
        ∧ (d.atTime (10 ^ 15)).retrainDue fittedTgt = true ∧ trainedChan.job fittedTgt = [] ∧ k.job fittedTgt = [0] ∧ c.eyeOk (500, 8) = true
        ∧ (c.atTime (10 ^ 15)).betterRate k fittedTgt [] = none
        ∧ (c.atTime (10 ^ 15)).betterRate k fittedTgt [(1600, (500, 8))] = some 1600
        ∧ (c.atTime (10 ^ 15)).betterRate k fittedTgt [(4800, (500, 8))] = some 4800
        ∧ fusedOff c.fuse.variant (mkUnit kCHAN 0) = false ∧ c.eyeOk (0, 8) = false
        ∧ trainedChan.outages.contains (d.atTime (10 ^ 15)).inning = false
        ∧ fittedTgt.zqT + d.get E.ZQ_INTERVAL * cycPerMs ≤ (d.atTime (10 ^ 15)).now)
      ∧ (c.atTime (10 ^ 15)).bearsFault (mkUnit kCHAN 0) ∧ (d.atTime (10 ^ 15)).bearsFault (mkUnit kTGT 0) :=
  ⟨calm_of _ (by decide +kernel) rfl (by decide +kernel), by decide +kernel, bears_of _ _ (by decide +kernel) (by decide +kernel),
    bears_of _ _ (by decide +kernel) (by decide +kernel)⟩

/-- ChannelsAreTrained, a temperature reading at both ends of its range, and beyond each. -/
theorem test_meets_temperature_reading :
    served.isReady = true ∧ served.dieOf 0 = some (idleDie 0) ∧ served.usable (mkUnit kLUN 0) = true ∧ (idleDie 0).tempT = 0
      ∧ served.degrees (chanOf 0) (-40) = -40 ∧ served.degrees (chanOf 0) 125 = 125
      ∧ served.degrees (chanOf 0) (-41) < -40 ∧ 125 < served.degrees (chanOf 0) 126 := by
  decide +kernel

/-- IntentsAndFencesEnd: an intent to be written, and a fenced DDR channel whose probe has passed. -/
theorem test_meets_intents :
    let i : Intent := { lun := 0, block := 1, planes := 0, kind := 0, seq := 0, sb := 0, written := false, ended := false }
    let c : Chip := { served with md := { served.md with intents := [i] } }
    let u := mkUnit kDDR 1
    let d : Chip := { served with un := { served.un with units := [{ online u with own := 3, probe := 3, fenceEnd := 5 }] } }
    ((c.md.intents.any fun i => !i.written) = true ∧ c.ringFree = true
        ∧ (c.md.intents.filter fun i => !i.written).length ≤ min 1020 (c.get E.EI_MAX_PENDING - c.eiPending))
      ∧ (d.own u = 3 ∧ d.ancestorOut u = false ∧ (d.unitRec u).fenceEnd ≤ d.now ∧ (d.unitRec u).probe = 3) := by decide +kernel

/-- A closed superblock of host data without units, on LUNs 0 to 31. -/
def closedSb : Sb :=
  { idx := 0, qlc := true, p2 := false, kind := .host, state := .closed,
    members := (List.range 32).map fun l => { lun := l, block := 1, hintZone := 0, hintSlot := 0, hinted := false, reads := 0 }
    pages := 4, rows := 4, placed := [], closeT := 0, patches := [], stress := 10 ^ 9, dueT := none, marked := none, firstMark := true,
    patrolT := 0, patrolRow := 0, overdue := false, exposed := false, inWork := false, stream := 0, pend := [], used := 0, seq0 := none,
    record := [], spoilt := [] }

/-- The controller with superblocks. -/
def withSbs (l : List Sb) : Chip := { served with sb := { served.sb with sbs := l } }

/-- MovesBegin: relocation takes a marked superblock, and folding the first of its queue. -/
theorem test_meets_moves :
    let q := closedSb
    let c := withSbs [q]
    let d : Chip := { withSbs [{ q with qlc := false }] with sb := { (withSbs [{ q with qlc := false }]).sb with foldQ := [0] } }
    (c.awake = true ∧ (c.sb.sbs.all fun x => decide (x.state ≠ .relocating)) = true
        ∧ (firstBy Sb.moveRank (c.sb.sbs.filter fun x => x.state == .closed
            && (x.qlc || (x.kind == .host && c.sb.foldQ.head? != some x.idx))
            && (x.firstMark || x.marked.isSome || decide (10 ^ 9 ≤ x.stress)))) = some q ∧ c.slicesReady q = true)
      ∧ ((d.sb.foldQ.filterMap d.sbOf).find? fun x => x.state == .closed) = some { q with qlc := false } := by decide +kernel

/-- PlacesChange: a source with nothing left, an open row past its time, a patch entry. -/
theorem test_meets_places :
    let q : Sb := { closedSb with state := .relocating }
    let p : Patch := { row := 1, voids := [], pReloc := none, qReloc := none }
    let r : Row := { id := 1, sb := 0, row := 0, entries := [(0, 5)], passed := [], failed := [], filler := [], quad := 0, acc := 0, since := 0,
                     closing := false, parityIssued := false, spanWait := false, more := 0, folded := [] }
    let c := withSbs [q]
    let d : Chip := { withSbs [{ closedSb with state := .open, pend := [p] }] with
      sb := { (withSbs [{ closedSb with state := .open, pend := [p] }]).sb with rows := [r], nextRow := 2 } }
    c.calm ∧ (c.sbOf 0 = some q ∧ c.releasable q = true ∧ (∀ m ∈ q.members, (c.blockOf m.lun m.block).marks < c.get E.MARK_RETIRE))
      ∧ (d.rowOf 1 = some r ∧ (d.sbOf 0).isSome = true ∧ (∃ e ∈ r.entries, e.2 ≠ 0)
        ∧ r.since + d.get E.CRU_CLOSE_TIME * cycPerMs ≤ (d.atTime (10 ^ 15)).now ∧ [p].find? (fun p => decide (p.row = 1)) = some p) := by
  exact ⟨calm_of _ (by decide +kernel) rfl (by decide +kernel), by decide +kernel, by decide +kernel⟩

/-- The controller with two blocks free on every die. -/
def withFree : Chip := { served with md := { served.md with dies := (List.range 32).map fun l => { idleDie l with good := 2 } } }

/-- Whatever the layout family is, every row of the table has free blocks there. -/
theorem rowFree_withFree (r : Nat) : withFree.rowFree r = true := by
  have all : ∀ l < 32, ((withFree.dieOf l).bind Die.freeBlock).isSome = true := by decide +kernel
  have lt : ∀ x, nth withFree.sb.eligible x < 32 := fun x => by
    have e : withFree.sb.eligible = List.range 32 := rfl
    rw [e]
    unfold nth
    rcases Nat.lt_or_ge x 32 with h | h
    · simpa [List.getD_eq_getElem?_getD, List.getElem?_range h] using h
    · simp [List.getD_eq_getElem?_getD, List.getElem?_eq_none (l := List.range 32) (by simpa using h)]
  unfold Chip.rowFree Chip.layoutRow
  rw [List.all_map, List.all_eq_true]
  exact fun i _ => all _ (lt _)

/-- PlacesChange: dies with free blocks for the next row of the layout table. -/
theorem test_meets_assembly :
    withFree.mayAssemble 1 = true ∧ withFree.streamOpen 1 0 = false ∧ withFree.rowsAhead.find? withFree.rowFree = some 0
      ∧ withFree.sbOf withFree.freeIndex = none := by
  have h : withFree.rowsAhead = 0 :: withFree.rowsAhead.tail := by decide +kernel
  refine ⟨by decide +kernel, by decide +kernel, ?_, by decide +kernel⟩
  rw [h, List.find?_cons_of_pos (rowFree_withFree 0)]

/-- PlacesChange: a safe copy of a unit that the map names where it was, and a replacement of which every row is programmed. -/
theorem test_meets_moved_places :
    let x : Held := { unit := 5, src := 40, dst := 65, cls := 3, wseq := 0, queued := false }
    let r : Repl := { sb := 0, pos := 3, lun := 0, block := 7, row := 4, prog := 4, fin := 4, words := [], bad := [], filler := false }
    let c : Chip := { withSbs [closedSb] with
      ft := { served.ft with map := [(5, 40)], loaded := [0] }, sb := { (withSbs [closedSb]).sb with held := [x] } }
    let e : Chip := { withSbs [closedSb] with sb := { (withSbs [closedSb]).sb with repls := [r] } }
    let e' := e.setBlock { e.blockOf 0 7 with mode := 2 }
    (c.isReady = true ∧ c.sbOf 0 = some closedSb ∧ c.sb.repls = [] ∧ c.pageSafe closedSb (slotPage 65) = true
        ∧ (c.sb.held.filter fun y => decide (y.dst = 0 * 2 ^ 20 + 65)) = [x] ∧ c.sliceLoaded 5 = true ∧ c.mapOf 5 = 40 ∧ c.placeHeld 5 = false)
      ∧ (e'.awake = true ∧ (e'.sb.repls.find? fun x => decide (x.sb = 0 ∧ x.pos = 3)) = some r ∧ closedSb.rows ≤ r.fin
        ∧ e'.usable (mkUnit kLUN 0) = true ∧ e'.replBusy r = false ∧ (e'.blockOf 0 7).mode = 2) := by decide +kernel

/-- PlacesChange: a row all of whose members have passed, with one slot that is the newest of its unit, and a quadrant that bears a fault. -/
theorem test_meets_row_close :
    let r : Row := { id := 1, sb := 0, row := 0, entries := [(1, 3)], passed := List.range 32, failed := [], filler := [], quad := 0, acc := 1,
                     since := 0, closing := true, parityIssued := true, spanWait := false, more := 0, folded := [] }
    let q : Sb := { closedSb with state := .open }
    let l : Slot := { id := 3, unit := 5, wseq := some 9, fmt := 0, nsid := 1, blocks := [], issued := true, row := none, energy := true, h := 1,
                      guest := false }
    let c : Chip := { withSbs [q] with
      ft := { served.ft with slots := [l], dir := [(5, 3)] }, sb := { (withSbs [q]).sb with rows := [r], nextRow := 2 }
      un := { served.un with units := online (mkUnit kQUAD 0) :: served.un.units } }
    (c.isReady = true ∧ c.rowOf 1 = some r ∧ c.sbOf 0 = some q ∧ r.passedAll q = true ∧ 1 < c.sb.nextRow ∧ c.slotOf 3 = some l
        ∧ l.wseq.isSome = true ∧ c.ft.dir.get 0 5 = 3 ∧ c.placesFit [5] = true)
      ∧ c.calm ∧ (c.atTime 0).bearsFault (mkUnit kQUAD 0) :=
  ⟨by decide +kernel, calm_of _ (by decide +kernel) rfl (by decide +kernel), bears_of _ _ (by decide +kernel) (by decide +kernel)⟩

/-- The reads of a row of two live members, the parity of one unit and that unit. -/
def readPair : List (Option (List CwDecode)) :=
  List.replicate 2 (some ((List.range 4).map fun cw => { syndrome := true, word := unitWord 5 0 0 1 cw [], corrected := 0, second := none }))

/-- A closed superblock whose first row has two members that are not void, of which one holds a unit. -/
def pairSb : Sb :=
  { closedSb with placed := [{ slot := 1, unit := 5 }]
                  patches := [{ row := 0, voids := (List.range 32).drop 2, pReloc := none, qReloc := none }] }

/-- PatrolAndLearning: a row of two live members whose words agree. -/
theorem test_meets_row_check :
    let c : Chip := { withSbs [pairSb] with ft := { served.ft with map := [(5, 1)] } }
    (c.awake = true ∧ c.get E.PATROL_ENABLE = 1 ∧ c.patrolTarget = some pairSb ∧ c.sbOf 0 = some pairSb ∧ c.patrolRows pairSb pairSb.patrolRow = [0]
        ∧ c.sb.patrolAt = none ∧ c.rd.tasks = [])
      ∧ c.calm ∧ c.rowPasses pairSb 0 readPair
      ∧ ∀ cw, cw < 4 → checkWord false cw (dataOctets pairSb 0 cw (readWords readPair)) (parityOctets pairSb 0 cw 0 (readWords readPair))
          (parityOctets pairSb 0 cw 1 (readWords readPair)) = (0, 0, 0) := by
  refine ⟨by decide +kernel, calm_of _ (by decide +kernel) rfl (by decide +kernel), fun m hm => ?_, fun cw hcw => ?_⟩
  · have live : liveMembers pairSb 0 = [0, 1] := by decide +kernel
    rw [live] at hm
    have hm2 : m < 2 := by simp at hm; omega
    refine ⟨by interval_cases m <;> decide +kernel, (List.range 4).map fun cw => { syndrome := true, word := unitWord 5 0 0 1 cw [], corrected := 0, second := none },
      by interval_cases m <;> rfl, fun cw hcw => ⟨{ syndrome := true, word := unitWord 5 0 0 1 cw [], corrected := 0, second := none }, by simp [List.getElem?_map, List.getElem?_range hcw], rfl, ?_⟩⟩
    refine .inr ⟨wordCrcOk_unitWord 5 0 0 1 cw [] (by decide) (by decide) hcw, fun u hu => ?_⟩
    have : u = 5 := by
      interval_cases m
      · have h0 : pairSb.unitAt 0 0 = none := by decide +kernel
        exact absurd (hu.symm.trans h0) (by simp)
      · have h5 : pairSb.unitAt 0 1 = some 5 := by decide +kernel
        exact Option.some.inj (hu.symm.trans h5)
    rw [this]
    exact wordTagOk_unitWord 5 0 0 1 cw [] (by decide) hcw
  · have h1 : dataOctets pairSb 0 cw (readWords readPair) = [(0, octetsOf cwOctets (nth ((List.range 4).map fun cw => unitWord 5 0 0 1 cw []) cw))] := by
      rfl
    have h2 : parityOctets pairSb 0 cw 0 (readWords readPair) = octetsOf cwOctets (nth ((List.range 4).map fun cw => unitWord 5 0 0 1 cw []) cw) := by
      rfl
    rw [h1, h2]
    unfold checkWord syndromeP
    simp [isZero_xorOctets_self]

/-- PatrolAndLearning: learning that is due, with counts of one zone. -/
theorem test_meets_learning :
    let c : Chip := { served with rd := { served.rd with counts := [{ key := 3, counts := [5, 9] }] } }
    c.isReady = true ∧ c.get E.ZT_LEARN = 1 ∧ c.rd.learnT + c.get E.ZT_LEARN_PERIOD * cycPerMin ≤ (c.atTime (10 ^ 15)).now
      ∧ (c.rd.counts.map ZoneCount.key).Nodup := by decide +kernel

/-- MapsAreKept: a full half with a system superblock to take its page, and a load of slice 0 of a namespace. -/
theorem test_meets_maps :
    let s : Sb := { closedSb with idx := 1, kind := .system, state := .open, qlc := false }
    let j : JRec := { kind := 1, unit := 0, count := 1, entry := 0, seq := 0 }
    let c : Chip := { withSbs [s] with ft := { served.ft with streams := [{ stream := 0, active := [], full := [j] }] } }
    let d : Chip := { served with ft := { served.ft with nss := [oneNs], homes := [0] } }
    (c.isReady = true ∧ (c.stream 0).full ≠ [] ∧ (c.systemRuns 16).map Prod.fst = some [(1, 0, 16)])
      ∧ d.calm ∧ (d.awake = true ∧ 0 < catBase ∧ 0 < d.mapSlices ∧ 0 ∉ d.ft.loaded ∧ d.ft.homes.getD 0 4 ≠ 4 ∧ d.nextSlice = some 0) := by
  exact ⟨by decide +kernel, calm_of _ (by decide +kernel) rfl (by decide +kernel), by decide +kernel⟩

/-- GaugeFollowsTheStore: a store is inserted, and a gauge asleep wakes. -/
theorem test_meets_gauge :
    (served.st.present = false ∧ 500 < 501 ∧ served.own (mkUnit kSTORE 0) ≠ 4)
      ∧ ({ served with st := { Store9.initial with present := true, hibernate := true } } : Chip).st.hibernate = true := by decide +kernel

/-- StoreIsProven: PWR_FAIL# low for PF_FILTER. -/
theorem test_meets_power_fail :
    served.isReady = true ∧ served.failTriggers { reason := 1, lowNs := served.get E.PF_FILTER, mv := 0 } = true := by decide +kernel

/-- The controller paired over a link that is up. -/
def paired : Chip :=
  { served with boot := { served.boot with pairMode := 1 }, pr := { served.pr with up := true, lanes := 8, joined := true } }

/-- RallyLinkRuns: a link of 8 lanes trains, goes down before the pair has joined, and an idle link acknowledges. -/
theorem test_meets_rally :
    let c : Chip := ({ paired with un := { paired.un with units := online (mkUnit kRALLY 0) :: paired.un.units } } : Chip)
    c.calm ∧ (c.boot.pairMode ≠ 0 ∧ c.lanesUp 8 = 8 ∧ c.own (mkUnit kRALLY 0) = 1)
      ∧ (paired.pr.queue = [] ∧ paired.pr.lastAckT + cycPerUs ≤ (paired.atTime (10 ^ 12)).now ∧ paired.pr.up = true) := by
  exact ⟨calm_of _ (by decide +kernel) rfl (by decide +kernel), by decide +kernel, by decide +kernel⟩

/-- A frame header in sequence. -/
def header : RHdr := { crcOk := true, seq := 0, acked := 0, credits := 0, slots := 0, xfer := 1, last := false }

/-- PairJoins: a good HELLO of the other controller. -/
theorem test_meets_hello :
    let c : Chip := { paired with pr := { paired.pr with joined := false } }
    c.rallyOn = true ∧ header.crcOk = true ∧ c.helloBad { protocol := 0x10000, index := 1, variant := 0, lanes := 8, state := 0, identity := 0,
                                                          boot := 1, marked := 0, unconfirmed := 0 } = false := by decide +kernel

/-- MirrorFramesAreTaken: the first frame of a transfer that is not known, and credits for an answer. -/
theorem test_meets_mirror :
    paired.rallyOn = true ∧ paired.pr.joined = true ∧ header.seq = paired.pr.recvNext ∧ paired.pr.queue = [] ∧ paired.pr.xfers = []
      ∧ 0 < paired.pr.credits := by decide +kernel

/-- PartnersExchange: the partner's cell, an own cell, and a fence that waits. -/
theorem test_meets_mailbox :
    let c : Chip := { paired with pr := { paired.pr with fences := [(0, 0, 0)] } }
    (paired.fuse.variant = 0 ∧ paired.ownCell 0 = true ∧ paired.ownCell 63 = false ∧ paired.xportWrites .nvme = true)
      ∧ (c.pr.fences = [(0, 0, 0)] ∧ 0 + 100 * cycPerUs ≤ (c.atTime (10 ^ 12)).now ∧ c.cmds = []) := by decide +kernel

/-- PowerStatesChange: an inning boundary, and PS3 entered with no refuser. -/
theorem test_meets_power_states :
    let c : Chip := { served with pm := { served.pm with wanted := some 3 } }
    served.calm ∧ (served.own (mkUnit kSTORE 0) = 0 ∧ served.um.inning < served.inning ∧ served.sb.sbs = [])
      ∧ (c.get E.PS_CURRENT < 3 ∧ c.firstRefuser = none ∧ c.issuedClass = none) := by
  exact ⟨calm_of _ (by decide +kernel) rfl (by decide +kernel), by decide +kernel, by decide +kernel⟩

/-- SuppliesAndClocks: the rails up with a reference to lose, and a hold to end. -/
theorem test_meets_supplies :
    let c : Chip := { served with pm := { Pm.initial with clock := 1, vrEn := true, vrGood := true } }
    (c.railsUp = true ∧ c.isReady = true ∧ c.pm.clock = 1) ∧ ((served.set E.SUPPLY_HOLD_UNTIL 5).get E.SUPPLY_HOLD_UNTIL ≤ served.now) := by
  decide +kernel

/-- TemperatureIsControlled: eight valid samples of 100 °C, and a step to rise above the level. -/
theorem test_meets_temperature :
    let l := List.replicate 8 (some (1600 : Int))
    let c := ((served.set E.THERM_STATE 2).set E.TJ 1800)
    (served.get E.SENSOR_FAULT = 0 ∧ served.diodeAverage l = some 1600 ∧ 1600 ≤ 16 * (served.get E.THERM_THROTTLE : Int)
        ∧ served.get E.THERM_STATE = 0 ∧ served.get E.THROTTLE_STEP = 0)
      ∧ (c.get E.THERM_STATE = 2 ∧ 16 * (c.get E.THERM_THROTTLE : Int) < c.getS E.TJ
        ∧ c.th.stepT + c.get E.THROTTLE_RISE * cycPerMs ≤ (c.atTime (10 ^ 12)).now) := by decide +kernel

/-- ManagementIsAnswered: 256 entries of an index, the greatest endpoint identifier, and a session that is idle. -/
theorem test_meets_management :
    let x := Sess.opened 1 0 0
    let c : Chip := { served with mg := { served.mg with key := some 0, sessions := [x] } }
    (served.awake = true ∧ (0x100000 : Nat) % 256 + 256 ≤ 256 ∧ (254 : Nat) ≤ 254)
      ∧ (c.session 1 = some x ∧ x.lastT + c.get E.FLIAD_IDLE * cycPerSec ≤ (c.atTime (10 ^ 15)).now) := by decide +kernel

/-- EventsAreKept: an own address, and a second that has ended. -/
theorem test_meets_events :
    let c := (served.set E.MGMT_ENABLE 1).set E.MGMT_LINK 1
    (c.mgmtUp = true ∧ c.ownAddress (linkLocal c.fuse.mac) = true)
      ∧ (served.boot.run.railsOff = false ∧ served.ev.sec < secOf (served.atTime (10 ^ 12)).now) := by decide +kernel

/-- StartRuns: before power, with the main input to come, and before the first and the last step of a start. -/
theorem test_meets_start :
    let c : Chip := { Chip.initial with boot := { Boot.initial with run := .rails }, pm := { Pm.initial with vrEn := true },
                                        ports := [{ Port.initial 0 with perst := false }, Port.initial 1] }
    let d : Chip := { served with boot := { served.boot with run := .starting, step := 7 } }
    Chip.initial.boot.run = .dark ∧ c.mayStart = true ∧ (d.step8Waits = false ∧ d.ft.sanitizeStep = 0) := by decide +kernel

/-- PowerGoodLossIsCounted, with the rails up. -/
theorem test_meets_rails_up :
    ({ Chip.initial with pm := { Pm.initial with vrEn := true, vrGood := true } } : Chip).railsUp = true := by decide

end Sys2Proof.Tests
end

section
/-! Proofs of the family of scope: the units that the fuses take away (R2), and the two copies of the system area (R23, R192). -/
namespace Sys2Proof.Machine

/-! ### A unit whose own state is ABSENT reports ABSENT (R15) -/

theorem Chip.reportWith_of_absent {c : Chip} {u : Nat} (h : c.own u = 0) (derived : Nat) : c.reportWith u derived = 0 :=
  if_pos h

theorem Chip.reportLevel_of_absent {c : Chip} {u : Nat} (h : c.own u = 0) (n : Nat) : c.reportLevel n u = 0 := by
  cases n with
  | zero => exact Chip.reportWith_of_absent h 0
  | succ n => exact Chip.reportWith_of_absent h _

theorem Chip.reported_of_absent {c : Chip} {u : Nat} (h : c.own u = 0) : c.reported u = 0 := by
  unfold Chip.reported
  extract_lets k
  split
  · exact Chip.reportWith_of_absent h _
  · exact Chip.reportLevel_of_absent h _

/-! ### What a step leaves of the fuses and of the fused-off units (R2) -/

/-- From chip b to chip c the part stays the same one, and the records of the units that its fuses take away are unchanged. -/
def Chip.keepsFusedOff (b c : Chip) : Prop :=
  c.fuse.variant = b.fuse.variant ∧ ∀ u, fusedOff b.fuse.variant u = true → c.unitRec u = b.unitRec u

theorem Chip.keepsFusedOff_of_same {b c : Chip} (hu : c.un = b.un) (hf : c.fuse = b.fuse) : b.keepsFusedOff c :=
  ⟨congrArg Fuse.variant hf, fun u _ => Chip.unitRec_congr hu (congrArg Fuse.variant hf) u⟩

/-- The end of a command keeps them, whatever its effect. -/
theorem Chip.keepsFusedOff_seal (b c : Chip) : b.keepsFusedOff (b.seal c) :=
  ⟨Chip.seal_variant b c, fun _ hu => Chip.unitRec_seal_off c hu⟩

/-- A start, whose tags are all new, keeps them by the same rule. -/
theorem Chip.keepsFusedOff_keep (b c : Chip) (tags : Store) : b.keepsFusedOff ((b.keep c).withTags tags) :=
  ⟨rfl, fun u hu => (Chip.withTags_unitRec _ tags u).trans (Chip.unitRec_keep c hu)⟩

/-- A moment of the chip has the units and the fuses of the chip, so that what is kept from then on is kept from before it. -/
theorem Chip.keepsFusedOff_atTime {b c : Chip} {t : Nat} (h : (b.atTime t).keepsFusedOff c) : b.keepsFusedOff c := by
  obtain ⟨hv, hr⟩ := h
  exact ⟨hv, fun u hu => (hr u hu).trans (Chip.unitRec_congr rfl rfl u)⟩

/-- Every step keeps them: an effect and a start end with the rule that keeps them, and the passing of time touches neither. -/
theorem step_keepsFusedOff {s t : State} (h : step s = .next t) : s.chip.keepsFusedOff t.chip := by
  obtain ⟨r, ⟨t0, f, rfl⟩ | ⟨t0, inp, rfl⟩ | ⟨t0, rfl⟩ | rfl⟩ := step_form s t h
  · exact Chip.keepsFusedOff_atTime (Chip.keepsFusedOff_seal _ _)
  · exact Chip.keepsFusedOff_atTime (Chip.keepsFusedOff_keep _ _ [])
  · exact Chip.keepsFusedOff_of_same rfl rfl
  · exact Chip.keepsFusedOff_of_same rfl rfl

theorem step_fusedOff_absent {s t : State} (hs : ∀ u, fusedOff s.chip.fuse.variant u = true → s.chip.own u = 0)
    (h : step s = .next t) : t.chip.fuse.variant = s.chip.fuse.variant
      ∧ ∀ u, fusedOff t.chip.fuse.variant u = true → t.chip.own u = 0 ∧ t.chip.reported u = 0 := by
  obtain ⟨hv, hr⟩ := step_keepsFusedOff h
  refine ⟨hv, fun u hu => ?_⟩
  rw [hv] at hu
  have ho : t.chip.own u = 0 := (congrArg UnitRec.own (hr u hu)).trans (hs u hu)
  exact ⟨ho, Chip.reported_of_absent ho⟩

theorem UnitRec.default_own_of_fusedOff {v u : Nat} (h : fusedOff v u = true) : (UnitRec.default v u).own = 0 :=
  if_pos h

/-! ### The units of an S9616-SP that are fused off (R2) -/

theorem fusedOff_sp_quad_ddr : ∀ q, q < 4 →
    (fusedOff 2 (mkUnit kQUAD q) = true ↔ 2 ≤ q) ∧ (fusedOff 2 (mkUnit kDDR q) = true ↔ 2 ≤ q) := by decide

theorem fusedOff_sp_chan_hard : ∀ k, k < 32 →
    (fusedOff 2 (mkUnit kCHAN k) = true ↔ 16 ≤ k) ∧ (fusedOff 2 (mkUnit kLDPC k) = true ↔ 16 ≤ k) := by decide

theorem fusedOff_sp_soft : ∀ k, k < 16 → (fusedOff 2 (mkUnit kLDPC (32 + k)) = true ↔ 8 ≤ k) := by decide

/-! ### The channels of the system area (R2, R23, R192) -/

/-- The channel of the second copy, by the variant that is fused. -/
theorem Chip.lastCopy_eq (c : Chip) : (if c.halved = true then 15 else 31) = if c.fuse.variant = 2 then 15 else 31 := by
  simp only [Chip.halved, decide_eq_true_eq]

theorem Chip.sysAreaOk_iff {c : Chip} {last : Nat} (hl : last = if c.fuse.variant = 2 then 15 else 31) :
    c.sysAreaOk = true ↔ (c.boot.copies.getD 0 false = true ∧ c.present (mkUnit kCHAN 0) = true)
      ∨ (c.boot.copies.getD 1 false = true ∧ c.present (mkUnit kCHAN last) = true) := by
  rw [← c.lastCopy_eq] at hl
  rw [Chip.sysAreaOk, ← hl, Bool.or_eq_true, Bool.and_eq_true, Bool.and_eq_true]

theorem Chip.mem_ringCopies_iff {c : Chip} {last : Nat} (hl : last = if c.fuse.variant = 2 then 15 else 31) (ch : Nat) :
    ch ∈ c.ringCopies ↔ (ch = 0 ∨ ch = last) ∧ c.reported (mkUnit kCHAN ch) ≠ 4 := by
  rw [← c.lastCopy_eq] at hl
  rw [Chip.ringCopies, ← hl, List.mem_filter, List.mem_pair, decide_eq_true_eq]

end Sys2Proof.Machine

open Sys2Proof.Machine

/-- Settles O5: every step ends with the record that a fused-off unit had before it, so that an ABSENT one stays ABSENT; the
units of the S9616-SP and the channels of the system area are read off their definitions. -/
theorem fusedOffStaysAbsent : Obligations.FusedOffStaysAbsent :=
  ⟨fun _ _ hs h => step_fusedOff_absent hs h, fusedOff_sp_quad_ddr, fusedOff_sp_chan_hard, fusedOff_sp_soft,
    fun _ _ h => UnitRec.default_own_of_fusedOff h, fun _ _ hl => ⟨Chip.sysAreaOk_iff hl, Chip.mem_ringCopies_iff hl⟩⟩
end

section
/-! Proofs of the family of supplies: the loss of VR_PGOOD (R410), by way of the newest event record (R462, R464). -/
namespace Sys2Proof.Machine

/-! ### The newest record of the ring (R462 to R464) -/

/-- The record that is written is the newest of the ring, also where it overwrites the oldest of a full one. -/
theorem Chip.record_getLast? (c : Chip) (time src ev sev unit : Nat) (params : List Nat) :
    (c.record time src ev sev unit params).ev.ring.getLast?
      = some { time := time, src := src, sev := sev, ev := ev, unit := unit, num := c.get E.EVT_NEXT, params := params } := by
  unfold Chip.record
  extract_lets n r lapped ring _ e1 e2 c1 c2 c3 _ _
  have h2 : e2.ring = ring := by unfold e2; split <;> rfl
  have h3 : c3.ev = e2 := by unfold c3 c2; split <;> simp only [Chip.countAt_ev] <;> rfl
  have hl : ring.getLast? = some r := by
    unfold ring
    split_ifs with hf
    · have hlen : 65536 ≤ c.ev.ring.length := of_decide_eq_true hf
      rw [List.drop_append_of_le_length (by omega), List.getLast?_concat]
    · exact List.getLast?_concat
  split_ifs
  · rw [Chip.countAt_ev, h3, h2, hl]
  · rw [Chip.setAt_ev, h3, h2, hl]
  · rw [h3, h2, hl]

/-- An event that neither its severity nor the rate of its source holds back is the newest record, of this moment. -/
theorem Chip.event_getLast? {c : Chip} {src sev : Nat} (hs : c.get E.EVT_MIN_SEVERITY ≤ sev)
    (hr : secCount c.ev.written src 0 c.now < c.get E.EVT_RATE_MAX) (ev unit : Nat) (params : List Nat) :
    (c.event src ev sev unit params).ev.ring.getLast?
      = some { time := c.stamp, src := src, sev := sev, ev := ev, unit := unit, num := c.get E.EVT_NEXT, params := params } := by
  unfold Chip.event Chip.eventAt
  rw [if_neg (Nat.not_lt.2 hs), if_neg (Nat.not_le.2 hr), Chip.record_getLast?]
  rfl

/-! ### Notices that write no record -/

/-- The free-superblock ratio is a matter of the media alone (R134, R151). -/
theorem Chip.freeRatio_congr {b c : Chip} (hm : c.md = b.md) : c.freeRatio = b.freeRatio := by
  unfold Chip.freeRatio Chip.freeSbs Chip.allSbs Chip.goodBlocks
  rw [hm]

/-- Where no unit has changed, the partner reports what it did, and the media and GC_URGENT are as they were, notices write no event
record: what telemetry and the ANA state raise are Asynchronous Events, which are no records of the ring. -/
theorem Chip.notices_ev {b c : Chip} (ho : ∀ u, c.own u = b.own u) (hp : c.partnerStates = b.partnerStates) (hm : c.md = b.md)
    (hg : c.get E.GC_URGENT = b.get E.GC_URGENT) : (b.notices c).ev = c.ev := by
  unfold Chip.notices
  rw [Chip.unitNotices_same ho hp]
  extract_lets _ _ _ c0 c1 low
  have h0 : c0.ev = c.ev ∧ c0.dict = c.dict ∧ c0.md = c.md := by
    unfold c0; split
    · exact ⟨rfl, rfl, rfl⟩
    · exact ⟨Chip.raiseAeAll_ev .., Chip.raiseAeAll_dict .., Chip.raiseAeAll_md ..⟩
  have h1 : c1.ev = c.ev ∧ c1.dict = c.dict ∧ c1.md = c.md := by
    unfold c1; split
    · exact h0
    · rwa [Chip.raiseAeAll_ev, Chip.raiseAeAll_dict, Chip.raiseAeAll_md]
  obtain ⟨hev, hdict, hmd⟩ := h1
  have hurgent : c1.get E.GC_URGENT = b.get E.GC_URGENT := (Chip.getAt_congr (congrArg Dict.vals hdict) _ _).trans hg
  have hlow : low c1 = low b := by unfold low; rw [Chip.freeRatio_congr (hmd.trans hm), hurgent]
  rw [hlow, bne_self_eq_false, Bool.and_false, if_neg Bool.false_ne_true, hev]

/-! ### The effect of a loss of VR_PGOOD (R410) -/

/-- The effect of VR_PGOOD_LOSS while the rails are up. -/
def Chip.losePgood (c : Chip) : Chip := (c.count E.PGOOD_LOSSES 1).event 0x509 0 1 noUnit []

theorem exec_vrPgoodLoss_eq_run (s : State) (t : Nat) :
    exec (.vrPgoodLoss t) s = run s t fun c => c.when c.railsUp Chip.losePgood := exec_vrPgoodLoss s t

theorem Chip.keeps_losePgood (c : Chip) : c.keeps c.losePgood [.dict, .ev, .lg] :=
  Chip.keeps_mono (Chip.keeps_trans (Chip.keeps_countAt c _ _ _) (Chip.keeps_event _ _ _ _ _ _)) (by decide)

theorem Chip.keepsEntries_losePgood (c : Chip) : c.keepsEntries c.losePgood [E.PGOOD_LOSSES] :=
  Chip.keepsEntries_mono (Chip.keepsEntries_trans (Chip.keepsEntries_countAt c _ _ _) (Chip.keepsEntries_event _ _ _ _ _ _ [])) (by simp)

theorem Chip.getAt_losePgood (c : Chip) : c.losePgood.getAt E.PGOOD_LOSSES 0 = min (topOf E.PGOOD_LOSSES) (c.getAt E.PGOOD_LOSSES 0 + 1) := by
  unfold Chip.losePgood
  rw [Chip.getAt_event _ _ _ _ _ _ (by decide), Chip.getAt_countAt_same _ _ _ _ (by decide)]

@[simp] theorem Chip.losePgood_out (c : Chip) : c.losePgood.out = c.out := by simp [Chip.losePgood]

/-- The newest record after the loss, where severity 1 is recorded and source 0x509 is within its rate. -/
theorem Chip.losePgood_newest {c : Chip} (hs : c.get E.EVT_MIN_SEVERITY ≤ 1)
    (hr : secCount c.ev.written 0x509 0 c.now < c.get E.EVT_RATE_MAX) :
    c.losePgood.ev.ring.getLast?.map (fun r => (r.src, r.time)) = some (0x509, c.stamp) := by
  have hget : ∀ e, e ∉ meters → e ≠ E.PGOOD_LOSSES → (c.count E.PGOOD_LOSSES 1).get e = c.get e := fun e hm hn =>
    Chip.getAt_countAt_ne c _ _ _ hm fun h => hn h.1
  have hstamp : (c.count E.PGOOD_LOSSES 1).stamp = c.stamp := by unfold Chip.stamp; rw [Chip.countAt_now]
  unfold Chip.losePgood
  rw [Chip.event_getLast? (by rwa [hget _ (by decide) (by decide)])
    (by rwa [Chip.countAt_ev, Chip.countAt_now, hget _ (by decide) (by decide)]), Option.map_some, hstamp]

/-- The loss changes no unit, no partner and no media, so that its own record stays the newest. -/
theorem Chip.notices_losePgood_ev (c : Chip) : (c.notices c.losePgood).ev = c.losePgood.ev := by
  have hk := c.keeps_losePgood
  have hboot : c.losePgood.boot = c.boot := hk .boot (by decide)
  have hpr : c.losePgood.pr = c.pr := hk .pr (by decide)
  refine Chip.notices_ev (Chip.own_congr (hk .un (by decide)) (hk .fuse (by decide))) ?_ (hk .md (by decide))
    (c.keepsEntries_losePgood _ _ (by decide) (by decide))
  unfold Chip.partnerStates
  rw [hboot, hpr]

end Sys2Proof.Machine

open Sys2Proof.Machine

/-- Settles O56: with the rails up the effect is one count and one event, and the notices at the end of the step add no record
to that event's. -/
theorem powerGoodLossIsCounted : Obligations.PowerGoodLossIsCounted := by
  intro s t hup
  have hrails : (s.chip.atTime t).railsUp = true := hup
  refine Completes.of_run (exec_vrPgoodLoss_eq_run s t) ?_
  rw [Chip.when, if_pos hrails]
  refine ⟨?_, by simp, Chip.keeps_notes t (Chip.keeps_mono (Chip.keeps_losePgood _) (by decide)),
    Chip.keepsEntries_end t (Chip.keepsEntries_losePgood _), fun hs hr => ?_⟩
  · unfold Chip.counts
    rw [Chip.getAt_end _ _ (by decide), Chip.getAt_losePgood, Chip.getAt_atTime]
  · rw [Chip.seal_ev, Chip.notices_losePgood_ev]
    exact Chip.losePgood_newest hs hr
end

section
/-! Proofs of the family of the machine: what every command and every step keeps (R381, R382, R414, R442, R457), and the chip before
power is first applied. -/
namespace Sys2Proof.Machine

/-! ### Legal generation tags (R381, R382) -/

/-- A tag that a table may list: a 12-bit number above 1. -/
def TagListed (v : Nat) : Prop := 2 ≤ v ∧ v ≤ 0xFFF

/-- A legal table of tags: keys in order, once each, and only tags that may be listed. -/
def Store.TagsLegal (s : Store) : Prop :=
  s.Pairwise (fun a b => keyLt a.1 b.1 = true) ∧ ∀ p ∈ s, TagListed p.2

theorem Chip.tagsLegal_iff (c : Chip) : c.tagsLegal ↔ c.dict.tags.TagsLegal := Iff.rfl

theorem Store.tagsLegal_nil : Store.TagsLegal [] := ⟨List.Pairwise.nil, by simp⟩

/-- What is read of a legal table: a tag of 1 to 12 bits' worth, 1 where none is listed. -/
theorem Store.TagsLegal.get {s : Store} (h : s.TagsLegal) (k : Nat × Nat) : 1 ≤ s.get 1 k ∧ s.get 1 k ≤ 0xFFF := by
  obtain ⟨-, hv⟩ := h
  induction s with
  | nil => simp [Store.get]
  | cons p r ih =>
    obtain ⟨hp, hr⟩ := List.forall_mem_cons.1 hv
    rw [Store.get]
    split
    · exact ⟨Nat.le_of_succ_le hp.1, hp.2⟩
    · exact ih hr

/-- The tag after a legal one is 1 or may be listed. -/
theorem nextTag_legal {v : Nat} (h : v ≤ 0xFFF) (h1 : 1 ≤ v) : nextTag v = 1 ∨ TagListed (nextTag v) := by
  unfold nextTag TagListed
  split <;> omega

theorem Store.TagsLegal.put {s : Store} (h : s.TagsLegal) (k : Nat × Nat) {v : Nat} (hv : v = 1 ∨ TagListed v) :
    (s.put 1 k v).TagsLegal := by
  obtain ⟨hs, hl⟩ := h
  have he := Store.pairwise_erase k hs
  unfold Store.put
  split
  · exact ⟨he, fun p hp => hl p (Store.mem_erase hp)⟩
  · next hn =>
    refine ⟨Store.pairwise_insert k v he (Store.erase_no_key k s), fun p hp => ?_⟩
    obtain rfl | hp := Store.mem_insert.1 hp
    · exact hv.resolve_left hn
    · exact hl p (Store.mem_erase hp)

/-- Something that holds of a chip and that every element's change keeps holds after all of them. -/
theorem Chip.each_induct {α : Type} {P : Chip → Prop} {f : Chip → α → Chip} (hf : ∀ c x, P c → P (f c x)) (l : List α) {c : Chip} (h : P c) :
    P (c.each l f) := by
  induction l generalizing c with
  | nil => exact h
  | cons x l ih => exact ih (hf c x h)

theorem Chip.retag_tagsLegal (b : Chip) (d : Desc) {c : Chip} (h : c.tagsLegal) : (Chip.retag b c d).tagsLegal := by
  refine Chip.each_induct (P := Chip.tagsLegal) (fun c p h => ?_) _ h
  dsimp only
  split
  · exact h
  · obtain ⟨h1, h2⟩ := Store.TagsLegal.get h (p.1, p.2.1)
    exact Store.TagsLegal.put h _ (nextTag_legal h2 h1)

theorem Chip.each_retag_tagsLegal (b : Chip) (rows : List Desc) {c : Chip} (h : c.tagsLegal) : (c.each rows (Chip.retag b)).tagsLegal :=
  Chip.each_induct (P := Chip.tagsLegal) (fun _ d => Chip.retag_tagsLegal b d) rows h

theorem Chip.newTags_legal {b : Chip} (c : Chip) (h : b.tagsLegal) : (b.newTags c).TagsLegal := by
  have he : b.newTags c = ((c.withTags b.dict.tags).each allRows (Chip.retag b)).dict.tags := by unfold Chip.newTags Chip.withTags; rfl
  rw [he]
  exact (Chip.tagsLegal_iff _).1 (Chip.each_retag_tagsLegal b allRows h)

/-- Every step keeps the table legal: an effect ends with tags that follow from the ones before it, a start with none
listed, and the passing of time touches none. -/
theorem step_tagsLegal {s t : State} (hs : s.chip.tagsLegal) (h : step s = .next t) : t.chip.tagsLegal := by
  obtain ⟨r, ⟨t0, f, rfl⟩ | ⟨t0, inp, rfl⟩ | ⟨t0, rfl⟩ | rfl⟩ := step_form s t h
  · rw [Chip.tagsLegal_iff, Chip.seal_dict_tags]
    exact Chip.newTags_legal (b := s.chip.atTime t0) _ hs
  · exact Store.tagsLegal_nil
  · exact hs
  · exact hs

/-! ### Fuses (R442, R457) -/

/-- What one-time fuses allow between two moments: the floor of versions rises or stays, a revoked key stays revoked, and no other fuse changes. -/
def Fuse.BlownInto (a b : Fuse) : Prop :=
  a.svnFloor ≤ b.svnFloor ∧ (∀ k : Fin 4, a.keyRevoked.getD k false = true → b.keyRevoked.getD k false = true)
    ∧ b.variant = a.variant ∧ b.deviceId = a.deviceId ∧ b.keyDigests = a.keyDigests ∧ b.serial = a.serial ∧ b.mac = a.mac ∧ b.secret = a.secret

theorem Fuse.blownInto_refl (a : Fuse) : a.BlownInto a := ⟨Nat.le_refl _, fun _ h => h, rfl, rfl, rfl, rfl, rfl, rfl⟩

/-- A key that is revoked before is revoked in the fuses that a command leaves. -/
theorem Fuse.blown_keyRevoked {a : Fuse} (b : Fuse) {k : Nat} (h : a.keyRevoked.getD k false = true) :
    (a.blown b).keyRevoked.getD k false = true := by
  have hk : k < a.keyRevoked.length := by
    by_contra hn
    rw [List.getD_eq_default _ _ (by omega)] at h
    exact Bool.false_ne_true h
  rw [List.getD_eq_getElem _ _ hk] at h
  rw [List.getD_eq_getElem _ _ (by simpa [Fuse.blown] using hk)]
  simp [Fuse.blown, h]

theorem Fuse.blownInto_blown (a b : Fuse) : a.BlownInto (a.blown b) :=
  ⟨Nat.le_max_left _ _, fun _ h => Fuse.blown_keyRevoked b h, rfl, rfl, rfl, rfl, rfl, rfl⟩

/-- Every step blows fuses at most: an effect and a start end with the rule of one-time fuses. -/
theorem step_fuse_blownInto {s t : State} (h : step s = .next t) : s.chip.fuse.BlownInto t.chip.fuse := by
  obtain ⟨r, ⟨t0, f, rfl⟩ | ⟨t0, inp, rfl⟩ | ⟨t0, rfl⟩ | rfl⟩ := step_form s t h
  · exact Fuse.blownInto_blown _ _
  · exact Fuse.blownInto_blown _ _
  · exact Fuse.blownInto_refl _
  · exact Fuse.blownInto_refl _

/-! ### Every command goes on (R414) -/

/-- A command with an effect goes on at the moment it names, or now where that is past. -/
theorem run_goesOn (s : State) (t : Nat) (f : Chip → Chip) :
    ∃ r, run s t f = .next r ∧ r.pending = s.pending ∧ s.chip.now ≤ r.chip.now :=
  ⟨_, run_eq s t f, rfl, Nat.le_max_left _ _⟩

/-- A start goes on, whether or not it may begin. -/
theorem execStart_goesOn (t : Nat) (inp : StartInput) (s : State) :
    ∃ r, execStart t inp s = .next r ∧ r.pending = s.pending ∧ s.chip.now ≤ r.chip.now := by
  unfold execStart
  dsimp only
  split
  · exact ⟨_, rfl, rfl, Nat.le_max_left _ _⟩
  · exact ⟨_, rfl, rfl, Nat.le_max_left _ _⟩

end Sys2Proof.Machine

open Sys2Proof.Machine

/-- Settles O1: a step is defined by the command in front. -/
theorem stepRunsFrontCommand : Obligations.StepRunsFrontCommand := fun _ _ _ => rfl

/-- Settles O2: an idle step is one tick, which changes the time and what goes out alone. -/
theorem emptyQueueTicks : Obligations.EmptyQueueTicks := by
  intro s hp
  refine ⟨tick s, by rw [step, hp], hp, rfl, fun p _ => by cases p <;> rfl, fun h => ?_, fun h => ?_, fun h0 h3 => ?_⟩
    <;> simp [tick, clockStep, *]

/-- Settles O3: every command is an effect at a moment or a start, and both go on. -/
theorem everyCommandGoesOn : Obligations.EveryCommandGoesOn := by
  intro i s
  obtain ⟨t, f, h⟩ | ⟨t, inp, rfl⟩ := exec_form i s
  · rw [h]
    exact run_goesOn s t f
  · rw [exec_start]
    exact execStart_goesOn t inp s

/-- Settles O4: the step keeps the table legal, and what is read of a legal table is a tag of 12 bits. -/
theorem tagsStayLegal : Obligations.TagsStayLegal := fun _ _ hs h =>
  have ht := step_tagsLegal hs h
  ⟨ht, fun _ _ => Store.TagsLegal.get ht _⟩

/-- Settles O6: by the form of a step, which ends with the rule of one-time fuses. -/
theorem fusesOnlyBlow : Obligations.FusesOnlyBlow := fun _ _ h => step_fuse_blownInto h

/-- Settles O7: by the values of the chip at reset; an entry that is not stored reads as its default. -/
theorem resetState : Obligations.ResetState := by
  refine ⟨rfl, rfl, rfl, rfl, rfl, rfl, rfl, rfl, rfl, rfl, rfl, rfl, rfl, rfl, ?_, fun _ _ => rfl, Store.tagsLegal_nil, fun _ _ => rfl⟩
  simp [State.reset, Chip.initial, Port.initial]
end

section
/-! Frames as rewriting rules: under a list that names what an operation may change, a chip is kept after the operation exactly when it was
kept before it. `simp` takes a frame apart with them, operation by operation. -/
namespace Sys2Proof.Machine

/-- A part that is the same across one change can be compared on either side of it. -/
theorem Chip.same_iff {a b c : Chip} {p : Area} (h : b.same c p) : a.same c p ↔ a.same b p := by
  cases p <;> exact ⟨fun h' => (Eq.symm h).trans h', fun h' => Eq.trans h h'⟩

theorem Chip.keeps_iff {a b c : Chip} {l m : List Area} (h : b.keeps c m) (hm : ∀ p ∈ m, p ∈ l) : a.keeps c l ↔ a.keeps b l :=
  forall_congr' fun p => forall_congr' fun hp => Chip.same_iff (h p fun hn => hp (hm p hn))

theorem Chip.keepsEntries_iff {a b c : Chip} {l m : List Nat} (h : b.keepsEntries c m) (hm : ∀ e ∈ m, e ∈ l) :
    a.keepsEntries c l ↔ a.keepsEntries b l :=
  forall_congr' fun e => forall_congr' fun i => forall_congr' fun hp => forall_congr' fun he => by
    rw [h e i (fun hn => hp (hm e hn)) he]

@[simp] theorem Chip.keeps_self (a : Chip) (l : List Area) : a.keeps a l := Chip.keeps_refl a l
@[simp] theorem Chip.keepsEntries_self (a : Chip) (l : List Nat) : a.keepsEntries a l := Chip.keepsEntries_refl a l

/-- The parts that notes may change, as a condition that `simp` decides. -/
@[simp] theorem mem_notePart (p : Area) : p ∈ notePart ↔ p = .dict ∨ p = .ev ∨ p = .fns ∨ p = .cmds ∨ p = .um ∨ p = .lg := by
  simp [notePart]

@[simp] theorem Chip.keeps_ite_iff {p : Prop} [Decidable p] {a b d : Chip} {l : List Area} :
    a.keeps (if p then b else d) l ↔ if p then a.keeps b l else a.keeps d l := by split <;> rfl

@[simp] theorem Chip.keepsEntries_ite_iff {p : Prop} [Decidable p] {a b d : Chip} {l : List Nat} :
    a.keepsEntries (if p then b else d) l ↔ if p then a.keepsEntries b l else a.keepsEntries d l := by split <;> rfl

theorem Chip.keeps_each_iff {α : Type} {f : Chip → α → Chip} {a c : Chip} {l : List Area} (hf : ∀ (c : Chip) x, c.keeps (f c x) l) (xs : List α) :
    a.keeps (c.each xs f) l ↔ a.keeps c l := Chip.keeps_iff (Chip.keeps_each hf xs c) fun _ h => h

theorem Chip.keepsEntries_each {α : Type} {f : Chip → α → Chip} {l : List Nat} (hf : ∀ (c : Chip) x, c.keepsEntries (f c x) l) (xs : List α) (c : Chip) :
    c.keepsEntries (c.each xs f) l :=
  Chip.each_frame (fun a b => a.keepsEntries b l) (fun c => c.keepsEntries_refl l)
    (fun _ _ _ h h' => Chip.keepsEntries_mono (Chip.keepsEntries_trans h h') (by simp)) f hf xs c

theorem Chip.keepsEntries_each_iff {α : Type} {f : Chip → α → Chip} {a c : Chip} {l : List Nat} (hf : ∀ (c : Chip) x, c.keepsEntries (f c x) l)
    (xs : List α) : a.keepsEntries (c.each xs f) l ↔ a.keepsEntries c l := Chip.keepsEntries_iff (Chip.keepsEntries_each hf xs c) fun _ h => h

/-- A change of parts alone is a frame where the parts are listed: what is left to show of each part of a chip given field by field. -/
theorem Chip.keeps_of_fields {a b : Chip} {l : List Area} (h : ∀ p, p ∉ l → a.same b p) : a.keeps b l := h

/-! ### Frames of the parts -/

section
variable {a c : Chip} {l : List Area}
@[simp] theorem Chip.keeps_setAt_iff (h0 : Area.dict ∈ l) (e i v : Nat) : a.keeps (c.setAt e i v) l ↔ a.keeps c l :=
  Chip.keeps_iff (Chip.keeps_setAt c e i v) (by simp [h0])
@[simp] theorem Chip.keeps_countAt_iff (h0 : Area.dict ∈ l) (e i n : Nat) : a.keeps (c.countAt e i n) l ↔ a.keeps c l :=
  Chip.keeps_iff (Chip.keeps_countAt c e i n) (by simp [h0])
theorem Chip.keeps_countOct (c : Chip) (e i k : Nat) : c.keeps (c.countOct e i k) [.dict] := by
  intro p hp; cases p <;> simp_all [Chip.same]
@[simp] theorem Chip.keeps_countOct_iff (h0 : Area.dict ∈ l) (e i k : Nat) : a.keeps (c.countOct e i k) l ↔ a.keeps c l :=
  Chip.keeps_iff (Chip.keeps_countOct c e i k) (by simp [h0])
theorem Chip.keeps_countOct64 (c : Chip) (e k n : Nat) : c.keeps (c.countOct64 e k n) [.dict] := by
  intro p hp; cases p <;> simp_all [Chip.same]
@[simp] theorem Chip.keeps_countOct64_iff (h0 : Area.dict ∈ l) (e k n : Nat) : a.keeps (c.countOct64 e k n) l ↔ a.keeps c l :=
  Chip.keeps_iff (Chip.keeps_countOct64 c e k n) (by simp [h0])
@[simp] theorem Chip.keeps_event_iff (h0 : Area.dict ∈ l) (h1 : Area.ev ∈ l) (h2 : Area.lg ∈ l) (src ev sev unit : Nat) (ps : List Nat) : a.keeps (c.event src ev sev unit ps) l ↔ a.keeps c l :=
  Chip.keeps_iff (Chip.keeps_event c src ev sev unit ps) (by simp [h0, h1, h2])
@[simp] theorem Chip.keeps_eventFirst_iff (h0 : Area.dict ∈ l) (h1 : Area.ev ∈ l) (h2 : Area.lg ∈ l) (src ev sev unit : Nat) (ps : List Nat) : a.keeps (c.eventFirst src ev sev unit ps) l ↔ a.keeps c l :=
  Chip.keeps_iff (Chip.keeps_eventFirst c src ev sev unit ps) (by simp [h0, h1, h2])
@[simp] theorem Chip.keeps_finish_iff (h0 : Area.cmds ∈ l) (h1 : Area.um ∈ l) (h st d0 d1 : Nat) : a.keeps (c.finish h st d0 d1) l ↔ a.keeps c l :=
  Chip.keeps_iff (Chip.keeps_finish c h st d0 d1) (by simp [h0, h1])
@[simp] theorem Chip.keeps_setCmd_iff (h0 : Area.cmds ∈ l) (x : Cmd) : a.keeps (c.setCmd x) l ↔ a.keeps c l :=
  Chip.keeps_iff (Chip.keeps_setCmd c x) (by simp [h0])
@[simp] theorem Chip.keeps_dropCmd_iff (h0 : Area.cmds ∈ l) (h : Nat) : a.keeps (c.dropCmd h) l ↔ a.keeps c l :=
  Chip.keeps_iff (Chip.keeps_dropCmd c h) (by simp [h0])
@[simp] theorem Chip.keeps_setFn_iff (h0 : Area.fns ∈ l) (f : Fn) : a.keeps (c.setFn f) l ↔ a.keeps c l :=
  Chip.keeps_iff (Chip.keeps_setFn c f) (by simp [h0])
@[simp] theorem Chip.keeps_setPort_iff (h0 : Area.ports ∈ l) (q : Port) : a.keeps (c.setPort q) l ↔ a.keeps c l :=
  Chip.keeps_iff (Chip.keeps_setPort c q) (by simp [h0])
@[simp] theorem Chip.keeps_raiseAe_iff (h0 : Area.fns ∈ l) (h1 : Area.cmds ∈ l) (h2 : Area.um ∈ l) (port fn type info page : Nat) : a.keeps (c.raiseAe port fn type info page) l ↔ a.keeps c l :=
  Chip.keeps_iff (Chip.keeps_raiseAe c port fn type info page) (by simp [h0, h1, h2])
theorem Chip.keeps_raiseAeAll (c : Chip) (type info page : Nat) : c.keeps (c.raiseAeAll type info page) [.fns, .cmds, .um] := by
  intro p hp; cases p <;> simp_all [Chip.same]
@[simp] theorem Chip.keeps_raiseAeAll_iff (h0 : Area.fns ∈ l) (h1 : Area.cmds ∈ l) (h2 : Area.um ∈ l) (type info page : Nat) : a.keeps (c.raiseAeAll type info page) l ↔ a.keeps c l :=
  Chip.keeps_iff (Chip.keeps_raiseAeAll c type info page) (by simp [h0, h1, h2])
theorem Chip.keeps_setSq (c : Chip) (q : Sq) : c.keeps (c.setSq q) [.qs] := by
  intro p hp; cases p <;> simp_all [Chip.same]
@[simp] theorem Chip.keeps_setSq_iff (h0 : Area.qs ∈ l) (q : Sq) : a.keeps (c.setSq q) l ↔ a.keeps c l :=
  Chip.keeps_iff (Chip.keeps_setSq c q) (by simp [h0])
theorem Chip.keeps_setCq (c : Chip) (q : Cq) : c.keeps (c.setCq q) [.qs] := by
  intro p hp; cases p <;> simp_all [Chip.same]
@[simp] theorem Chip.keeps_setCq_iff (h0 : Area.qs ∈ l) (q : Cq) : a.keeps (c.setCq q) l ↔ a.keeps c l :=
  Chip.keeps_iff (Chip.keeps_setCq c q) (by simp [h0])
theorem Chip.keeps_unlock (c : Chip) (h : Nat) : c.keeps (c.unlock h) [.lk] := by
  intro p hp; cases p <;> simp_all [Chip.same]
@[simp] theorem Chip.keeps_unlock_iff (h0 : Area.lk ∈ l) (h : Nat) : a.keeps (c.unlock h) l ↔ a.keeps c l :=
  Chip.keeps_iff (Chip.keeps_unlock c h) (by simp [h0])
theorem Chip.keeps_releaseWork (c : Chip) (h : Nat) : c.keeps (c.releaseWork h) [.um] := by
  intro p hp; cases p <;> simp_all [Chip.same]
@[simp] theorem Chip.keeps_releaseWork_iff (h0 : Area.um ∈ l) (h : Nat) : a.keeps (c.releaseWork h) l ↔ a.keeps c l :=
  Chip.keeps_iff (Chip.keeps_releaseWork c h) (by simp [h0])
theorem Chip.keeps_setSb (c : Chip) (q : Sb) : c.keeps (c.setSb q) [.sb] := by
  intro p hp; cases p <;> simp_all [Chip.same]
@[simp] theorem Chip.keeps_setSb_iff (h0 : Area.sb ∈ l) (q : Sb) : a.keeps (c.setSb q) l ↔ a.keeps c l :=
  Chip.keeps_iff (Chip.keeps_setSb c q) (by simp [h0])
theorem Chip.keeps_setRow (c : Chip) (r : Row) : c.keeps (c.setRow r) [.sb] := by
  intro p hp; cases p <;> simp_all [Chip.same]
@[simp] theorem Chip.keeps_setRow_iff (h0 : Area.sb ∈ l) (r : Row) : a.keeps (c.setRow r) l ↔ a.keeps c l :=
  Chip.keeps_iff (Chip.keeps_setRow c r) (by simp [h0])
theorem Chip.keeps_setDie (c : Chip) (x : Die) : c.keeps (c.setDie x) [.md] := by
  intro p hp; cases p <;> simp_all [Chip.same]
@[simp] theorem Chip.keeps_setDie_iff (h0 : Area.md ∈ l) (x : Die) : a.keeps (c.setDie x) l ↔ a.keeps c l :=
  Chip.keeps_iff (Chip.keeps_setDie c x) (by simp [h0])
theorem Chip.keeps_setChan (c : Chip) (k : Chan) : c.keeps (c.setChan k) [.md] := by
  intro p hp; cases p <;> simp_all [Chip.same]
@[simp] theorem Chip.keeps_setChan_iff (h0 : Area.md ∈ l) (k : Chan) : a.keeps (c.setChan k) l ↔ a.keeps c l :=
  Chip.keeps_iff (Chip.keeps_setChan c k) (by simp [h0])
theorem Chip.keeps_setTgt (c : Chip) (x : Tgt) : c.keeps (c.setTgt x) [.md] := by
  intro p hp; cases p <;> simp_all [Chip.same]
@[simp] theorem Chip.keeps_setTgt_iff (h0 : Area.md ∈ l) (x : Tgt) : a.keeps (c.setTgt x) l ↔ a.keeps c l :=
  Chip.keeps_iff (Chip.keeps_setTgt c x) (by simp [h0])
theorem Chip.keeps_setUnit (c : Chip) (r : UnitRec) : c.keeps (c.setUnit r) [.un] := by
  intro p hp; cases p <;> simp_all [Chip.same]
@[simp] theorem Chip.keeps_setUnit_iff (h0 : Area.un ∈ l) (r : UnitRec) : a.keeps (c.setUnit r) l ↔ a.keeps c l :=
  Chip.keeps_iff (Chip.keeps_setUnit c r) (by simp [h0])
theorem Chip.keeps_setStream (c : Chip) (s : JStream) : c.keeps (c.setStream s) [.ft] := by
  intro p hp; cases p <;> simp_all [Chip.same]
@[simp] theorem Chip.keeps_setStream_iff (h0 : Area.ft ∈ l) (s : JStream) : a.keeps (c.setStream s) l ↔ a.keeps c l :=
  Chip.keeps_iff (Chip.keeps_setStream c s) (by simp [h0])
theorem Chip.keeps_setNs (c : Chip) (n : Ns) : c.keeps (c.setNs n) [.ft] := by
  intro p hp; cases p <;> simp_all [Chip.same]
@[simp] theorem Chip.keeps_setNs_iff (h0 : Area.ft ∈ l) (n : Ns) : a.keeps (c.setNs n) l ↔ a.keeps c l :=
  Chip.keeps_iff (Chip.keeps_setNs c n) (by simp [h0])
theorem Chip.keeps_setSlot (c : Chip) (s : Slot) : c.keeps (c.setSlot s) [.ft] := by
  intro p hp; cases p <;> simp_all [Chip.same]
@[simp] theorem Chip.keeps_setSlot_iff (h0 : Area.ft ∈ l) (s : Slot) : a.keeps (c.setSlot s) l ↔ a.keeps c l :=
  Chip.keeps_iff (Chip.keeps_setSlot c s) (by simp [h0])
theorem Chip.keeps_setSession (c : Chip) (s : Sess) : c.keeps (c.setSession s) [.mg] := by
  intro p hp; cases p <;> simp_all [Chip.same]
@[simp] theorem Chip.keeps_setSession_iff (h0 : Area.mg ∈ l) (s : Sess) : a.keeps (c.setSession s) l ↔ a.keeps c l :=
  Chip.keeps_iff (Chip.keeps_setSession c s) (by simp [h0])
theorem Chip.keeps_setTask (c : Chip) (k : Task) : c.keeps (c.setTask k) [.rd] := by
  intro p hp; cases p <;> simp_all [Chip.same]
@[simp] theorem Chip.keeps_setTask_iff (h0 : Area.rd ∈ l) (k : Task) : a.keeps (c.setTask k) l ↔ a.keeps c l :=
  Chip.keeps_iff (Chip.keeps_setTask c k) (by simp [h0])
theorem Chip.keeps_setWin5 (c : Chip) (w : Win5) : c.keeps (c.setWin5 w) [.wins] := by
  intro p hp; cases p <;> simp_all [Chip.same]
@[simp] theorem Chip.keeps_setWin5_iff (h0 : Area.wins ∈ l) (w : Win5) : a.keeps (c.setWin5 w) l ↔ a.keeps c l :=
  Chip.keeps_iff (Chip.keeps_setWin5 c w) (by simp [h0])
theorem Chip.keeps_clearPending (c : Chip) (h : Nat) : c.keeps (c.clearPending h) [.book] := by
  intro p hp; cases p <;> simp_all [Chip.same]
@[simp] theorem Chip.keeps_clearPending_iff (h0 : Area.book ∈ l) (h : Nat) : a.keeps (c.clearPending h) l ↔ a.keeps c l :=
  Chip.keeps_iff (Chip.keeps_clearPending c h) (by simp [h0])
theorem Chip.keeps_dropTasks (c : Chip) (h : Nat) : c.keeps (c.dropTasks h) [.rd, .wins] := by
  intro p hp; cases p <;> simp_all [Chip.same]
@[simp] theorem Chip.keeps_dropTasks_iff (h0 : Area.rd ∈ l) (h1 : Area.wins ∈ l) (h : Nat) : a.keeps (c.dropTasks h) l ↔ a.keeps c l :=
  Chip.keeps_iff (Chip.keeps_dropTasks c h) (by simp [h0, h1])
@[simp] theorem Chip.keeps_emit_iff (o : Out) : a.keeps (c.emit o) l ↔ a.keeps c l :=
  Chip.keeps_iff (Chip.keeps_emit c o []) (by simp)
end

section
variable {a c : Chip} {l : List Nat}
@[simp] theorem Chip.keepsEntries_finish_iff (h st d0 d1 : Nat) : a.keepsEntries (c.finish h st d0 d1) l ↔ a.keepsEntries c l :=
  Chip.keepsEntries_iff (Chip.keepsEntries_vals (by simp) []) (by simp)
@[simp] theorem Chip.keepsEntries_setCmd_iff (x : Cmd) : a.keepsEntries (c.setCmd x) l ↔ a.keepsEntries c l :=
  Chip.keepsEntries_iff (Chip.keepsEntries_vals (by simp) []) (by simp)
@[simp] theorem Chip.keepsEntries_dropCmd_iff (h : Nat) : a.keepsEntries (c.dropCmd h) l ↔ a.keepsEntries c l :=
  Chip.keepsEntries_iff (Chip.keepsEntries_vals (by simp) []) (by simp)
@[simp] theorem Chip.keepsEntries_setFn_iff (f : Fn) : a.keepsEntries (c.setFn f) l ↔ a.keepsEntries c l :=
  Chip.keepsEntries_iff (Chip.keepsEntries_vals (by simp) []) (by simp)
@[simp] theorem Chip.keepsEntries_setPort_iff (q : Port) : a.keepsEntries (c.setPort q) l ↔ a.keepsEntries c l :=
  Chip.keepsEntries_iff (Chip.keepsEntries_vals (by simp) []) (by simp)
@[simp] theorem Chip.keepsEntries_raiseAe_iff (port fn type info page : Nat) : a.keepsEntries (c.raiseAe port fn type info page) l ↔ a.keepsEntries c l :=
  Chip.keepsEntries_iff (Chip.keepsEntries_vals (by simp) []) (by simp)
@[simp] theorem Chip.keepsEntries_raiseAeAll_iff (type info page : Nat) : a.keepsEntries (c.raiseAeAll type info page) l ↔ a.keepsEntries c l :=
  Chip.keepsEntries_iff (Chip.keepsEntries_vals (by simp) []) (by simp)
@[simp] theorem Chip.keepsEntries_setSq_iff (q : Sq) : a.keepsEntries (c.setSq q) l ↔ a.keepsEntries c l :=
  Chip.keepsEntries_iff (Chip.keepsEntries_vals (by simp) []) (by simp)
@[simp] theorem Chip.keepsEntries_setCq_iff (q : Cq) : a.keepsEntries (c.setCq q) l ↔ a.keepsEntries c l :=
  Chip.keepsEntries_iff (Chip.keepsEntries_vals (by simp) []) (by simp)
@[simp] theorem Chip.keepsEntries_unlock_iff (h : Nat) : a.keepsEntries (c.unlock h) l ↔ a.keepsEntries c l :=
  Chip.keepsEntries_iff (Chip.keepsEntries_vals (by simp) []) (by simp)
@[simp] theorem Chip.keepsEntries_releaseWork_iff (h : Nat) : a.keepsEntries (c.releaseWork h) l ↔ a.keepsEntries c l :=
  Chip.keepsEntries_iff (Chip.keepsEntries_vals (by simp) []) (by simp)
@[simp] theorem Chip.keepsEntries_setSb_iff (q : Sb) : a.keepsEntries (c.setSb q) l ↔ a.keepsEntries c l :=
  Chip.keepsEntries_iff (Chip.keepsEntries_vals (by simp) []) (by simp)
@[simp] theorem Chip.keepsEntries_setRow_iff (r : Row) : a.keepsEntries (c.setRow r) l ↔ a.keepsEntries c l :=
  Chip.keepsEntries_iff (Chip.keepsEntries_vals (by simp) []) (by simp)
@[simp] theorem Chip.keepsEntries_setDie_iff (x : Die) : a.keepsEntries (c.setDie x) l ↔ a.keepsEntries c l :=
  Chip.keepsEntries_iff (Chip.keepsEntries_vals (by simp) []) (by simp)
@[simp] theorem Chip.keepsEntries_setChan_iff (k : Chan) : a.keepsEntries (c.setChan k) l ↔ a.keepsEntries c l :=
  Chip.keepsEntries_iff (Chip.keepsEntries_vals (by simp) []) (by simp)
@[simp] theorem Chip.keepsEntries_setTgt_iff (x : Tgt) : a.keepsEntries (c.setTgt x) l ↔ a.keepsEntries c l :=
  Chip.keepsEntries_iff (Chip.keepsEntries_vals (by simp) []) (by simp)
@[simp] theorem Chip.keepsEntries_setUnit_iff (r : UnitRec) : a.keepsEntries (c.setUnit r) l ↔ a.keepsEntries c l :=
  Chip.keepsEntries_iff (Chip.keepsEntries_vals (by simp) []) (by simp)
@[simp] theorem Chip.keepsEntries_setStream_iff (s : JStream) : a.keepsEntries (c.setStream s) l ↔ a.keepsEntries c l :=
  Chip.keepsEntries_iff (Chip.keepsEntries_vals (by simp) []) (by simp)
@[simp] theorem Chip.keepsEntries_setNs_iff (n : Ns) : a.keepsEntries (c.setNs n) l ↔ a.keepsEntries c l :=
  Chip.keepsEntries_iff (Chip.keepsEntries_vals (by simp) []) (by simp)
@[simp] theorem Chip.keepsEntries_setSlot_iff (s : Slot) : a.keepsEntries (c.setSlot s) l ↔ a.keepsEntries c l :=
  Chip.keepsEntries_iff (Chip.keepsEntries_vals (by simp) []) (by simp)
@[simp] theorem Chip.keepsEntries_setSession_iff (s : Sess) : a.keepsEntries (c.setSession s) l ↔ a.keepsEntries c l :=
  Chip.keepsEntries_iff (Chip.keepsEntries_vals (by simp) []) (by simp)
@[simp] theorem Chip.keepsEntries_setTask_iff (k : Task) : a.keepsEntries (c.setTask k) l ↔ a.keepsEntries c l :=
  Chip.keepsEntries_iff (Chip.keepsEntries_vals (by simp) []) (by simp)
@[simp] theorem Chip.keepsEntries_setWin5_iff (w : Win5) : a.keepsEntries (c.setWin5 w) l ↔ a.keepsEntries c l :=
  Chip.keepsEntries_iff (Chip.keepsEntries_vals (by simp) []) (by simp)
@[simp] theorem Chip.keepsEntries_clearPending_iff (h : Nat) : a.keepsEntries (c.clearPending h) l ↔ a.keepsEntries c l :=
  Chip.keepsEntries_iff (Chip.keepsEntries_vals (by simp) []) (by simp)
@[simp] theorem Chip.keepsEntries_dropTasks_iff (h : Nat) : a.keepsEntries (c.dropTasks h) l ↔ a.keepsEntries c l :=
  Chip.keepsEntries_iff (Chip.keepsEntries_vals (by simp) []) (by simp)
@[simp] theorem Chip.keepsEntries_emit_iff (o : Out) : a.keepsEntries (c.emit o) l ↔ a.keepsEntries c l := Iff.rfl
end

@[simp] theorem Chip.keepsEntries_setAt_iff {a c : Chip} {l : List Nat} {e : Nat} (h : e ∈ l) (i v : Nat) :
    a.keepsEntries (c.setAt e i v) l ↔ a.keepsEntries c l := Chip.keepsEntries_iff (Chip.keepsEntries_setAt c e i v) (by simpa using h)
@[simp] theorem Chip.keepsEntries_countAt_iff {a c : Chip} {l : List Nat} {e : Nat} (h : e ∈ l) (i n : Nat) :
    a.keepsEntries (c.countAt e i n) l ↔ a.keepsEntries c l := Chip.keepsEntries_iff (Chip.keepsEntries_countAt c e i n) (by simpa using h)
@[simp] theorem Chip.keepsEntries_event_iff {a c : Chip} {l : List Nat} (src ev sev unit : Nat) (ps : List Nat) :
    a.keepsEntries (c.event src ev sev unit ps) l ↔ a.keepsEntries c l :=
  Chip.keepsEntries_iff (Chip.keepsEntries_event c src ev sev unit ps []) (by simp)
@[simp] theorem Chip.keepsEntries_eventFirst_iff {a c : Chip} {l : List Nat} (src ev sev unit : Nat) (ps : List Nat) :
    a.keepsEntries (c.eventFirst src ev sev unit ps) l ↔ a.keepsEntries c l :=
  Chip.keepsEntries_iff (m := []) (fun _ _ _ h => Chip.getAt_eventFirst c src ev sev unit ps h) (by simp)

/-- Entries are read from the dictionary's values, whatever the other parts are. -/
theorem Chip.keepsEntries_dict {a b c : Chip} {l : List Nat} (h : b.dict.vals = c.dict.vals) : a.keepsEntries b l ↔ a.keepsEntries c l :=
  Chip.keepsEntries_iff (m := []) (Chip.keepsEntries_vals h []) (by simp)

/-! ### The end of a step -/

/-- The frame at the end of a step, where the list names what notes may change. -/
theorem Chip.keeps_ended {c c' : Chip} {m : List Area} (t : Nat) (h : (c.atTime t).keeps c' m) (hf : .fuse ∉ m) (hm : ∀ p ∈ notePart, p ∈ m) :
    c.keeps ((c.atTime t).seal ((c.atTime t).notices c')) m :=
  Chip.keeps_close t h hf fun p hp => (List.mem_append.1 hp).elim id (hm p)

/-- The end of a step, as `Completes.of_run` leaves it. -/
theorem Completes.of_admin {i : Instr} {s : State} {P : Chip → Prop} {t h op : Nat} {x : Cmd} {g : Chip → Cmd → Chip} (hw : s.chip.adminWaits h op x)
    (he : exec i s = run s t fun c => c.adminCmd h op g)
    (hp : P ((s.chip.atTime t).seal ((s.chip.atTime t).notices (g (s.chip.atTime t) x)))) : Completes i s P :=
  Completes.of_run he (by rw [Chip.adminCmd_eq (Chip.adminWaits_atTime hw t)]; exact hp)

theorem Completes.of_feature {i : Instr} {s : State} {P : Chip → Prop} {t h fid : Nat} {x : Cmd} {g : Chip → Cmd → Fn → Chip}
    (hw : s.chip.adminWaits h 0x09 x) (hf : x.dw 10 % 256 = fid) (he : exec i s = run s t fun c => c.setFeature h fid g)
    (hp : P ((s.chip.atTime t).seal ((s.chip.atTime t).notices (g (s.chip.atTime t) x (s.chip.fnOf x.port x.fn))))) : Completes i s P :=
  Completes.of_run he (by rw [Chip.setFeature_eq (Chip.adminWaits_atTime hw t) hf]; exact hp)

/-- A counter at the end of a step, from what the effect leaves in it. -/
theorem Chip.counts_end {c c' : Chip} {e i n : Nat} (t : Nat) (he : e ∉ eventMeters) (h : c.counts c' e i n) :
    c.counts ((c.atTime t).seal ((c.atTime t).notices c')) e i n := by
  unfold Chip.counts at *
  rw [Chip.getAt_end _ _ he, h]

/-! What a function holds, but for its Asynchronous Events, is what the effect left. -/

theorem Fn.eq_of_noAe {α : Type} (get : Fn → α) (hg : ∀ f : Fn, get f.noAe = get f) {f g : Fn} (h : f.noAe = g.noAe) : get f = get g := by
  rw [← hg f, h, hg g]

section
variable (b c : Chip) (p k : Nat)
@[simp] theorem Chip.notices_fn_en : ((b.notices c).fnOf p k).en = (c.fnOf p k).en := Fn.eq_of_noAe Fn.en (fun _ => rfl) (Chip.noAe_notices b c p k)
@[simp] theorem Chip.notices_fn_rdy : ((b.notices c).fnOf p k).rdy = (c.fnOf p k).rdy := Fn.eq_of_noAe Fn.rdy (fun _ => rfl) (Chip.noAe_notices b c p k)
@[simp] theorem Chip.notices_fn_shst : ((b.notices c).fnOf p k).shst = (c.fnOf p k).shst := Fn.eq_of_noAe Fn.shst (fun _ => rfl) (Chip.noAe_notices b c p k)
@[simp] theorem Chip.notices_fn_ams : ((b.notices c).fnOf p k).ams = (c.fnOf p k).ams := Fn.eq_of_noAe Fn.ams (fun _ => rfl) (Chip.noAe_notices b c p k)
@[simp] theorem Chip.notices_fn_asqs : ((b.notices c).fnOf p k).asqs = (c.fnOf p k).asqs := Fn.eq_of_noAe Fn.asqs (fun _ => rfl) (Chip.noAe_notices b c p k)
@[simp] theorem Chip.notices_fn_acqs : ((b.notices c).fnOf p k).acqs = (c.fnOf p k).acqs := Fn.eq_of_noAe Fn.acqs (fun _ => rfl) (Chip.noAe_notices b c p k)
@[simp] theorem Chip.notices_fn_ab : ((b.notices c).fnOf p k).ab = (c.fnOf p k).ab := Fn.eq_of_noAe Fn.ab (fun _ => rfl) (Chip.noAe_notices b c p k)
@[simp] theorem Chip.notices_fn_hpw : ((b.notices c).fnOf p k).hpw = (c.fnOf p k).hpw := Fn.eq_of_noAe Fn.hpw (fun _ => rfl) (Chip.noAe_notices b c p k)
@[simp] theorem Chip.notices_fn_mpw : ((b.notices c).fnOf p k).mpw = (c.fnOf p k).mpw := Fn.eq_of_noAe Fn.mpw (fun _ => rfl) (Chip.noAe_notices b c p k)
@[simp] theorem Chip.notices_fn_lpw : ((b.notices c).fnOf p k).lpw = (c.fnOf p k).lpw := Fn.eq_of_noAe Fn.lpw (fun _ => rfl) (Chip.noAe_notices b c p k)
@[simp] theorem Chip.notices_fn_thOver : ((b.notices c).fnOf p k).thOver = (c.fnOf p k).thOver := Fn.eq_of_noAe Fn.thOver (fun _ => rfl) (Chip.noAe_notices b c p k)
@[simp] theorem Chip.notices_fn_thUnder : ((b.notices c).fnOf p k).thUnder = (c.fnOf p k).thUnder := Fn.eq_of_noAe Fn.thUnder (fun _ => rfl) (Chip.noAe_notices b c p k)
@[simp] theorem Chip.notices_fn_coalThr : ((b.notices c).fnOf p k).coalThr = (c.fnOf p k).coalThr := Fn.eq_of_noAe Fn.coalThr (fun _ => rfl) (Chip.noAe_notices b c p k)
@[simp] theorem Chip.notices_fn_coalTime : ((b.notices c).fnOf p k).coalTime = (c.fnOf p k).coalTime := Fn.eq_of_noAe Fn.coalTime (fun _ => rfl) (Chip.noAe_notices b c p k)
@[simp] theorem Chip.notices_fn_vecNoCoal : ((b.notices c).fnOf p k).vecNoCoal = (c.fnOf p k).vecNoCoal := Fn.eq_of_noAe Fn.vecNoCoal (fun _ => rfl) (Chip.noAe_notices b c p k)
@[simp] theorem Chip.notices_fn_coal : ((b.notices c).fnOf p k).coal = (c.fnOf p k).coal := Fn.eq_of_noAe Fn.coal (fun _ => rfl) (Chip.noAe_notices b c p k)
@[simp] theorem Chip.notices_fn_apste : ((b.notices c).fnOf p k).apste = (c.fnOf p k).apste := Fn.eq_of_noAe Fn.apste (fun _ => rfl) (Chip.noAe_notices b c p k)
@[simp] theorem Chip.notices_fn_apst : ((b.notices c).fnOf p k).apst = (c.fnOf p k).apst := Fn.eq_of_noAe Fn.apst (fun _ => rfl) (Chip.noAe_notices b c p k)
@[simp] theorem Chip.notices_fn_aeConfig : ((b.notices c).fnOf p k).aeConfig = (c.fnOf p k).aeConfig := Fn.eq_of_noAe Fn.aeConfig (fun _ => rfl) (Chip.noAe_notices b c p k)
@[simp] theorem Chip.notices_fn_granted : ((b.notices c).fnOf p k).granted = (c.fnOf p k).granted := Fn.eq_of_noAe Fn.granted (fun _ => rfl) (Chip.noAe_notices b c p k)
@[simp] theorem Chip.notices_fn_ioCreated : ((b.notices c).fnOf p k).ioCreated = (c.fnOf p k).ioCreated := Fn.eq_of_noAe Fn.ioCreated (fun _ => rfl) (Chip.noAe_notices b c p k)
@[simp] theorem Chip.notices_fn_flr : ((b.notices c).fnOf p k).flr = (c.fnOf p k).flr := Fn.eq_of_noAe Fn.flr (fun _ => rfl) (Chip.noAe_notices b c p k)
@[simp] theorem Chip.notices_fn_flrT : ((b.notices c).fnOf p k).flrT = (c.fnOf p k).flrT := Fn.eq_of_noAe Fn.flrT (fun _ => rfl) (Chip.noAe_notices b c p k)
@[simp] theorem Chip.notices_fn_dstate : ((b.notices c).fnOf p k).dstate = (c.fnOf p k).dstate := Fn.eq_of_noAe Fn.dstate (fun _ => rfl) (Chip.noAe_notices b c p k)
@[simp] theorem Chip.notices_fn_cmse : ((b.notices c).fnOf p k).cmse = (c.fnOf p k).cmse := Fn.eq_of_noAe Fn.cmse (fun _ => rfl) (Chip.noAe_notices b c p k)
@[simp] theorem Chip.notices_fn_cmbOct : ((b.notices c).fnOf p k).cmbOct = (c.fnOf p k).cmbOct := Fn.eq_of_noAe Fn.cmbOct (fun _ => rfl) (Chip.noAe_notices b c p k)
@[simp] theorem Chip.notices_fn_cmbBase : ((b.notices c).fnOf p k).cmbBase = (c.fnOf p k).cmbBase := Fn.eq_of_noAe Fn.cmbBase (fun _ => rfl) (Chip.noAe_notices b c p k)
@[simp] theorem Chip.notices_fn_shadow : ((b.notices c).fnOf p k).shadow = (c.fnOf p k).shadow := Fn.eq_of_noAe Fn.shadow (fun _ => rfl) (Chip.noAe_notices b c p k)
@[simp] theorem Chip.notices_fn_others : ((b.notices c).fnOf p k).others = (c.fnOf p k).others := Fn.eq_of_noAe Fn.others (fun _ => rfl) (Chip.noAe_notices b c p k)
@[simp] theorem Chip.notices_fn_changedNs : ((b.notices c).fnOf p k).changedNs = (c.fnOf p k).changedNs := Fn.eq_of_noAe Fn.changedNs (fun _ => rfl) (Chip.noAe_notices b c p k)
@[simp] theorem Chip.notices_fn_shnT : ((b.notices c).fnOf p k).shnT = (c.fnOf p k).shnT := Fn.eq_of_noAe Fn.shnT (fun _ => rfl) (Chip.noAe_notices b c p k)
@[simp] theorem Chip.notices_fn_psMp : ((b.notices c).fnOf p k).psMp = (c.fnOf p k).psMp := Fn.eq_of_noAe Fn.psMp (fun _ => rfl) (Chip.noAe_notices b c p k)
@[simp] theorem Chip.notices_fn_cfg : ((b.notices c).fnOf p k).cfg = (c.fnOf p k).cfg := Fn.eq_of_noAe Fn.cfg (fun _ => rfl) (Chip.noAe_notices b c p k)
@[simp] theorem Chip.notices_fn_pba : ((b.notices c).fnOf p k).pba = (c.fnOf p k).pba := Fn.eq_of_noAe Fn.pba (fun _ => rfl) (Chip.noAe_notices b c p k)
end

end Sys2Proof.Machine
end

section
/-! Proofs of the family of features (R74, R75, R79, R400): fields that a Set Features writes into its function. -/
namespace Sys2Proof.Machine

/-- A command that writes its function and ends with success: it is answered, the function holds what was written but for its Asynchronous
Events, and nothing but functions, commands and notes has changed. -/
theorem Completes.of_setFn {i : Instr} {s : State} {t h op : Nat} {x : Cmd} {g : Chip → Cmd → Chip} {f : Fn} {P : Chip → Prop}
    (hw : s.chip.adminWaits h op x) (he : exec i s = run s t fun c => c.adminCmd h op g)
    (hg : g (s.chip.atTime t) x = ((s.chip.atTime t).setFn f).finish x.h stOk 0 0) (hp : f.port = x.port) (hk : f.fn = x.fn)
    (ha : f.aers = (s.chip.fnOf x.port x.fn).aers)
    (hP : ∀ c : Chip, c.answered h stOk 0 0 → (c.fnOf x.port x.fn).noAe = f.noAe → s.chip.keeps c notePart → P c) : Completes i s P := by
  refine Completes.of_admin hw he ?_
  rw [hg, Chip.adminWaits_h hw]
  obtain ⟨h1, h2⟩ := Chip.setFn_end (b := s.chip.atTime t) (Chip.adminWaits_atTime hw t) hp hk ha stOk 0 0
  exact hP _ h1 h2 (Chip.keeps_notes t (by simp))

/-- The same for a Set Features of one feature. -/
theorem Completes.of_setFeature {i : Instr} {s : State} {t h fid : Nat} {x : Cmd} {g : Chip → Cmd → Fn → Chip} {f : Fn} {P : Chip → Prop}
    (hw : s.chip.adminWaits h 0x09 x) (hf : x.dw 10 % 256 = fid) (he : exec i s = run s t fun c => c.setFeature h fid g)
    (hg : g (s.chip.atTime t) x (s.chip.fnOf x.port x.fn) = ((s.chip.atTime t).setFn f).finish x.h stOk 0 0) (hp : f.port = x.port)
    (hk : f.fn = x.fn) (ha : f.aers = (s.chip.fnOf x.port x.fn).aers)
    (hP : ∀ c : Chip, c.answered h stOk 0 0 → (c.fnOf x.port x.fn).noAe = f.noAe → s.chip.keeps c notePart → P c) : Completes i s P :=
  Completes.of_setFn hw he (by rw [Chip.fnOf_atTime, if_pos hf]; exact hg) hp hk ha hP

/-- A field of a function that no Asynchronous Event touches, read from what the function holds apart from them. -/
theorem Fn.field_of_noAe {α : Type} (get : Fn → α) {f g : Fn} (h : f.noAe = g.noAe) (hg : ∀ f : Fn, get f.noAe = get f := by intro; rfl) :
    get f = get g := Fn.eq_of_noAe get hg h

end Sys2Proof.Machine

open Sys2Proof Sys2Proof.Machine

/-- Settles O8: each of the five rows writes its function and ends with success. -/
theorem featureFieldsAreStored : Obligations.FeatureFieldsAreStored := by
  intro s t h x
  refine ⟨fun hw hf => ?_, fun hw hf => ?_, fun hw hf hv => ?_, fun table hw hf ht => ?_, fun hw h6 h8 => ?_⟩
  · exact Completes.of_setFeature hw hf (exec_setFeaturesArbitration s t h) rfl (Chip.fnOf_port _ _ _) (Chip.fnOf_fn _ _ _) rfl
      fun _ ha hn hk => ⟨ha, Fn.field_of_noAe Fn.ab hn, Fn.field_of_noAe Fn.lpw hn, Fn.field_of_noAe Fn.mpw hn, Fn.field_of_noAe Fn.hpw hn, hk⟩
  · exact Completes.of_setFeature hw hf (exec_setFeaturesInterruptCoalescing s t h) rfl (Chip.fnOf_port _ _ _) (Chip.fnOf_fn _ _ _) rfl
      fun _ ha hn hk => ⟨ha, Fn.field_of_noAe Fn.coalThr hn, Fn.field_of_noAe Fn.coalTime hn, hk⟩
  · refine Completes.of_setFeature hw hf (exec_setFeaturesInterruptVectorConfig s t h) (if_neg (Nat.not_le.2 hv)) (Chip.fnOf_port _ _ _)
      (Chip.fnOf_fn _ _ _) rfl fun c ha hn hk => ?_
    have hc := Fn.field_of_noAe Fn.vecNoCoal hn
    refine ⟨ha, ?_, fun v hne => ?_, hk⟩ <;> rw [hc] <;> dsimp only <;> split <;> simp_all
  · have hany : (table.any fun e => decide (e.itptMs ≠ 0) && decide (e.itps < 3 ∨ 4 < e.itps)) = false := by
      rw [List.any_eq_false]
      intro e he
      have := ht e he
      simp only [Bool.and_eq_true, decide_eq_true_eq]
      omega
    refine Completes.of_setFeature hw hf (exec_setFeaturesApst s t h table) (if_neg (by rw [hany]; exact Bool.false_ne_true))
      (Chip.fnOf_port _ _ _) (Chip.fnOf_fn _ _ _) rfl fun c ha hn hk => ⟨ha, ?_, Fn.field_of_noAe Fn.apst hn, hk⟩
    rw [Fn.field_of_noAe Fn.apste hn, decide_eq_true_eq]
  · exact Completes.of_setFn hw (exec_doorbellBufferConfig s t h) (if_neg (by omega)) (Chip.fnOf_port _ _ _) (Chip.fnOf_fn _ _ _) rfl
      fun _ ha hn hk => ⟨ha, Fn.field_of_noAe Fn.shadow hn, hk⟩
end

section
/-! Refutations by a program that waits in a die: leaving a non-operational state starts it (R403), and with its transfer its page is folded into
the accumulator of its row (R240), so that the superblocks' part of the chip changes where the statement's frame says that it does not. -/
namespace Sys2Proof.Machine

/-- What the end of a completed command keeps is kept by its effect, of the parts that notes leave alone. -/
theorem Completes.keeps_sb {i : Instr} {s : State} {P : Chip → Prop} {t : Nat} {f : Chip → Chip} {l : List Area} (h : Completes i s P)
    (he : exec i s = run s t f) (hk : ∀ c, P c → s.chip.keeps c l) (hl : .sb ∉ l) : (f (s.chip.atTime t)).sb = s.chip.sb := by
  obtain ⟨r, hr, -, hp⟩ := h
  rw [he, run_eq] at hr
  injection hr with hr
  have hsb : r.chip.sb = s.chip.sb := hk _ hp .sb hl
  rw [← hr] at hsb
  simpa using hsb

/-- A program of one page that waits for its die. -/
def waitingProgram : Op :=
  { kind := .program, cls := 1, qlc := false, block := 0, plane := 0, issueT := 0, resumeT := 0, doneProg := 0, suspends := 0, suspended := false,
    suspendT := none, task := 0, row := 1, member := 1, retries := 0, confirmed := false, senses := 0, levels := [], pollT := 0, allow := 0,
    page := [1], bus := 0, charged := 0, chargedAt := 0 }

/-- The open superblock and the open row that the program writes into. -/
def waitingSb : Sb :=
  { idx := 0, qlc := false, p2 := false, kind := .host, state := .open, members := [], pages := 4, rows := 4, placed := [], closeT := 0, patches := [],
    stress := 0, dueT := none, marked := none, firstMark := false, patrolT := 0, patrolRow := 0, overdue := false, exposed := false, inWork := false,
    stream := 0, pend := [], used := 0, seq0 := none, record := [], spoilt := [] }

def waitingRow : Row :=
  { id := 1, sb := 0, row := 0, entries := [], passed := [], failed := [], filler := [], quad := 0, acc := 0, since := 0, closing := false,
    parityIssued := false, spanWait := false, more := 0, folded := [] }

/-- A unit that is fitted and ONLINE. -/
def onlineUnit (u : Nat) : UnitRec := { UnitRec.default 0 u with own := 1, prior := 1, cause := 0 }

/-- A submission queue with one entry. -/
def oneEntrySq (qid : Nat) : Sq :=
  { port := 0, fn := 0, qid := qid, size := 2, head := 0, tail := 1, base := 0, prio := 0, cq := qid, cls := 3, floor := 4, deleting := false,
    fetched := 0, completed := 0, refused := 0, eventIdx := 0, drain := false }

/-- In service and in PS3, with the program waiting in the one die and every wake source but 5 and 6 enabled, as they are by default. -/
def asleep : Chip :=
  ({ Chip.initial with
    boot := { Boot.initial with run := .ready }
    un := { units := [onlineUnit (mkUnit kTGT 0), onlineUnit (mkUnit kLUN 0)], spreads := [], cores := [] }
    sb := { Sbs.initial with sbs := [waitingSb], rows := [waitingRow] }
    md := { Md.initial with dies := [{ lun := 0, planes := 4, good := 0, blocks := [], ops := [waitingProgram], temp := none, tempAge := 0,
                                       tempT := 0, times := [] }] } } : Chip).set E.PS_CURRENT 3

/-- A Power Management feature command for PS0. -/
def requestPs0 : Cmd := { Chip.initial.newCmd (oneEntrySq 0) [0x09, 0, 0, 0, 0, 0, 0, 0, 0, 0, 0x02, 0] with h := 1 }

theorem requestPs0_adminWaits : ({ asleep with cmds := [requestPs0] } : Chip).adminWaits 1 0x09 requestPs0 :=
  ⟨rfl, rfl, rfl, rfl, rfl, rfl, by decide, .inl rfl, fun _ hf => absurd hf List.not_mem_nil⟩

end Sys2Proof.Machine

open Sys2Proof Sys2Proof.Machine

/-- Refutes O9: a request for PS0 in PS3 starts the waiting program, which changes the superblocks' part, not in the frame of Power Management. -/
theorem not_featureRequestsAreServed : ¬ Obligations.FeatureRequestsAreServed := by
  intro h
  obtain ⟨hpm, -⟩ := h { chip := { asleep with cmds := [requestPs0] }, pending := [] } 0 1 requestPs0
  have hsb := Completes.keeps_sb (hpm requestPs0_adminWaits (by decide) (by decide) (by decide))
    (exec_setFeaturesPowerManagement _ _ _) (fun c ⟨_, _, _, hk, _⟩ => hk) (by decide)
  exact absurd hsb (by decide +kernel)

/-- Refutes O19: a submission doorbell in PS3 starts the waiting program, which changes the superblocks' part, not in the frame. -/
theorem not_doorbellsMoveQueues : ¬ Obligations.DoorbellsMoveQueues := by
  intro h
  obtain ⟨hsq, -⟩ := h
    { chip := { asleep with fns := [{ Fn.initial 0 0 with en := true, rdy := true }], qs := { Qs.initial with sqs := [oneEntrySq 1] } }, pending := [] }
    0 0 0 0x1008 4 0 0 none (by decide) (by decide) (by decide) (by decide) (by decide) rfl (by decide)
  have hsb := Completes.keeps_sb (hsq (oneEntrySq 1) (by decide) (by decide) rfl (by decide)) (exec_doorbellWrite _ _ _ _ _ _ _ _)
    (fun c ⟨_, hk⟩ => hk) (by decide)
  exact absurd hsb (by decide +kernel)

/-- Refutes O54: a wake source in PS3 starts the waiting program, which changes the superblocks' part, not in the frame. -/
theorem not_powerStatesChange : ¬ Obligations.PowerStatesChange := by
  intro h
  obtain ⟨-, -, -, hwake, -⟩ := h { chip := asleep, pending := [] } 0 (by decide)
  have hsb := Completes.keeps_sb (hwake 3 [] (by decide) (.inl rfl) (by decide)) (exec_wakeExit _ _ _ _) (fun c ⟨_, _, _, _, hk⟩ => hk) (by decide)
  exact absurd hsb (by decide +kernel)
end

section
/-! Proofs of the family of I/O queues (R70, R71, R72, R91): what a queue number names after a queue is set or dropped, and the four rows. -/
namespace Sys2Proof.Machine

/-! ### Queues by number -/

theorem Chip.sqOf_setSq_same (c : Chip) (q : Sq) : (c.setSq q).sqOf q.port q.fn q.qid = some q :=
  find_upsert _ _ (by simp) _

theorem Chip.cqOf_setCq_same (c : Chip) (q : Cq) : (c.setCq q).cqOf q.port q.fn q.qid = some q :=
  find_upsert _ _ (by simp) _

theorem Chip.sqOf_congr {a b : Chip} (h : b.qs = a.qs) (p f k : Nat) : b.sqOf p f k = a.sqOf p f k := by unfold Chip.sqOf; rw [h]
theorem Chip.cqOf_congr {a b : Chip} (h : b.qs = a.qs) (p f k : Nat) : b.cqOf p f k = a.cqOf p f k := by unfold Chip.cqOf; rw [h]

@[simp] theorem Chip.sqOf_end (b c : Chip) (p f k : Nat) : (b.seal (b.notices c)).sqOf p f k = c.sqOf p f k :=
  Chip.sqOf_congr (by simp) p f k
@[simp] theorem Chip.cqOf_end (b c : Chip) (p f k : Nat) : (b.seal (b.notices c)).cqOf p f k = c.cqOf p f k :=
  Chip.cqOf_congr (by simp) p f k

/-- A chip with other queues, and nothing else changed. -/
def Chip.withQs (c : Chip) (qs : Qs) : Chip := { c with qs := qs }

@[simp] theorem Chip.withQs_qs (c : Chip) (qs : Qs) : (c.withQs qs).qs = qs := rfl

@[simp] theorem Chip.keeps_withQs_iff {a c : Chip} {l : List Area} (h : .qs ∈ l) (qs : Qs) : a.keeps (c.withQs qs) l ↔ a.keeps c l :=
  Chip.keeps_iff (m := [.qs]) (fun p hp => by cases p <;> first | rfl | simp at hp) (by simpa using h)

@[simp] theorem Chip.setSq_cqs (c : Chip) (q : Sq) : (c.setSq q).qs.cqs = c.qs.cqs := rfl
@[simp] theorem Chip.setCq_sqs (c : Chip) (q : Cq) : (c.setCq q).qs.sqs = c.qs.sqs := rfl

/-- A queue row that ends with success, having changed queues and its function alone. -/
theorem Completes.of_queue {i : Instr} {s : State} {t h op : Nat} {x : Cmd} {g : Chip → Cmd → Chip} {c1 : Chip} {f : Fn} {P : Chip → Prop}
    (hw : s.chip.adminWaits h op x) (he : exec i s = run s t fun c => c.adminCmd h op g)
    (hg : g (s.chip.atTime t) x = (c1.setFn f).finish x.h stOk 0 0) (hk : (s.chip.atTime t).keeps c1 [.qs, .dict, .ev, .lg])
    (hf : f.aers = (s.chip.fnOf x.port x.fn).aers)
    (hP : ∀ c : Chip, c.answered h stOk 0 0 → c.qs = c1.qs → (c.fnOf x.port x.fn).noAe = ((c1.setFn f).fnOf x.port x.fn).noAe →
      s.chip.keeps c (.qs :: notePart) → P c) : Completes i s P := by
  refine Completes.of_admin hw he ?_
  have hw' := Chip.adminWaits_atTime hw t
  have hn : c1.notHeld h := Chip.keeps_notHeld hk (by decide) (Chip.adminWaits_notHeld hw')
  have hk1 : (s.chip.atTime t).keeps c1 (.qs :: notePart) := Chip.keeps_mono hk (by decide)
  rw [hg, Chip.adminWaits_h hw]
  refine hP _ (Chip.answered_of hw' (Chip.notHeld_setFn hn ?_) ?_ _ _ _ _) (by simp) (by simp [Chip.noAe_notices]) (Chip.keeps_ended t ?_ (by decide) (by decide))
  · rw [hf]; exact Chip.notHeld_fnOf (Chip.adminWaits_notHeld hw) _ _
  · rw [Chip.cmd_setFn]; exact Chip.keeps_cmd hk (by decide) h
  · simpa using hk1

/-! ### The rows, where their terms allow them -/

/-- The completion queue that a Create I/O Completion Queue names: empty and in phase 1. -/
def Cmd.newCq (x : Cmd) : Cq :=
  { port := x.port, fn := x.fn, qid := bits (x.dw 10) 15 0, size := bits (x.dw 10) 31 16 + 1, head := 0, tail := 0, phase := 1,
    base := x.dw 6 + x.dw 7 * 2 ^ 32, vector := bits (x.dw 11) 31 16, ien := decide (bit (x.dw 11) 1 = 1), eventIdx := 0 }

/-- The submission queue that a Create I/O Submission Queue names: empty, with the class that its priority maps to. -/
def Chip.newSq (c : Chip) (x : Cmd) : Sq :=
  { port := x.port, fn := x.fn, qid := bits (x.dw 10) 15 0, size := bits (x.dw 10) 31 16 + 1, head := 0, tail := 0,
    base := x.dw 6 + x.dw 7 * 2 ^ 32, prio := bits (x.dw 11) 2 1, cq := bits (x.dw 11) 31 16,
    cls := c.classFor x.port x.fn (bits (x.dw 10) 15 0) (bits (x.dw 11) 2 1), floor := c.floorOf x.port x.fn, deleting := false, fetched := 0,
    completed := 0, refused := 0, eventIdx := 0, drain := false }

theorem Chip.createCq_of_terms {c : Chip} {x : Cmd} (hq : c.qidOk x (bits (x.dw 10) 15 0) = true) (hn : c.cqOf x.port x.fn (bits (x.dw 10) 15 0) = none)
    (hs : 1 ≤ bits (x.dw 10) 31 16) (hc : bit (x.dw 11) 0 = 1) (hm : c.inCmb x (x.dw 6 + x.dw 7 * 2 ^ 32) = false) (hv : bits (x.dw 11) 31 16 < 2048) :
    c.createCq x = ((c.setCq x.newCq).setFn { c.fnOf x.port x.fn with ioCreated := true }).finish x.h stOk 0 0 := by
  unfold Chip.createCq
  simp only [hq, hn, hc, at', hm]
  rw [if_neg (by simp), if_neg (by omega), if_neg (by simp), if_neg (by omega)]
  rfl

/-- The event of a class that is raised changes neither queues nor functions. -/
theorem Chip.createSq_of_terms {c : Chip} {x : Cmd} (hq : c.qidOk x (bits (x.dw 10) 15 0) = true) (hn : c.sqOf x.port x.fn (bits (x.dw 10) 15 0) = none)
    (hs : 1 ≤ bits (x.dw 10) 31 16) (h0 : bits (x.dw 11) 31 16 ≠ 0) (hcq : (c.cqOf x.port x.fn (bits (x.dw 11) 31 16)).isSome = true)
    (hc : bit (x.dw 11) 0 = 1) : ∃ c1 : Chip, c.keeps c1 [.dict, .ev, .lg] ∧
    c.createSq x = ((c1.setSq (c.newSq x)).setFn { c.fnOf x.port x.fn with ioCreated := true }).finish x.h stOk 0 0 := by
  unfold Chip.createSq
  simp only [hq, hn, hc, at']
  rw [if_neg (by simp), if_neg (by omega), if_neg (by simp [h0, Option.isSome_iff_ne_none.1 hcq]), if_neg (by simp)]
  exact ⟨_, by simp, rfl⟩

theorem Chip.deleteCq_of_terms {c : Chip} {x : Cmd} (h0 : bits (x.dw 10) 15 0 ≠ 0) (hs : (c.cqOf x.port x.fn (bits (x.dw 10) 15 0)).isSome = true)
    (hu : ∀ q ∈ c.qs.sqs, ¬ (q.port = x.port ∧ q.fn = x.fn ∧ q.cq = bits (x.dw 10) 15 0 ∧ q.qid ≠ 0)) :
    ∃ coal, c.deleteCq x = ((c.withQs { c.qs with cqs := drop' (fun r => decide (r.port = x.port ∧ r.fn = x.fn ∧ r.qid = bits (x.dw 10) 15 0)) c.qs.cqs }).setFn
      { c.fnOf x.port x.fn with coal := coal }).finish x.h stOk 0 0 := by
  unfold Chip.deleteCq
  have hany : (c.qs.sqs.any fun q => decide (q.port = x.port ∧ q.fn = x.fn ∧ q.cq = bits (x.dw 10) 15 0 ∧ q.qid ≠ 0)) = false := by
    simpa [List.any_eq_false] using hu
  dsimp only
  rw [if_neg (by simp [h0, Option.isSome_iff_ne_none.1 hs]), if_neg (by rw [hany]; exact Bool.false_ne_true)]
  exact ⟨_, rfl⟩

/-- Queues without the submission queue that a Delete I/O Submission Queue names. -/
def Qs.without (k : Qs) (x : Cmd) : Qs :=
  { k with sqs := drop' (fun r => decide (r.port = x.port ∧ r.fn = x.fn ∧ r.qid = bits (x.dw 10) 15 0)) k.sqs }

/-- With none of its commands in the controller a submission queue goes at once. -/
theorem Chip.deleteSq_of_terms {c : Chip} {x : Cmd} {q : Sq} (h0 : bits (x.dw 10) 15 0 ≠ 0) (hq : c.sqOf x.port x.fn (bits (x.dw 10) 15 0) = some q)
    (hn : ∀ y ∈ c.cmds, ¬ (y.port = x.port ∧ y.fn = x.fn ∧ y.qid = bits (x.dw 10) 15 0)) :
    ∃ qs : Qs, qs.cqs = c.qs.cqs ∧ (qs.sqs.find? fun r => decide (r.port = x.port ∧ r.fn = x.fn ∧ r.qid = bits (x.dw 10) 15 0)) = none
      ∧ c.deleteSq x = ((c.withQs qs).setAt E.QB_CLASS (qWord x.port x.fn (bits (x.dw 10) 15 0)) 4).finish x.h stOk 0 0 := by
  have hmine : (c.cmds.filter fun y => decide (y.port = x.port ∧ y.fn = x.fn ∧ y.qid = bits (x.dw 10) 15 0)) = [] :=
    List.filter_eq_nil_iff.2 fun y hy => by simpa using hn y hy
  obtain ⟨hp, hf, hi⟩ : q.port = x.port ∧ q.fn = x.fn ∧ q.qid = bits (x.dw 10) 15 0 := by simpa using List.find?_some hq
  have hbusy : ∀ d : Chip, d.cmds = c.cmds → d.queueBusy q = false := fun d hd => by
    unfold Chip.queueBusy
    rw [hd, hp, hf, hi, List.any_eq_false]
    intro y hy
    simp [hn y hy]
  unfold Chip.deleteSq
  dsimp only
  rw [if_neg h0, hq]
  simp only [hmine]
  split
  · split
    · next hb => exact absurd ((hbusy _ rfl).symm.trans hb) Bool.false_ne_true
    · exact ⟨c.qs.without x, rfl, find_drop_same _ _, rfl⟩
  · split
    · next hb => exact absurd ((hbusy _ rfl).symm.trans hb) Bool.false_ne_true
    · exact ⟨(c.setSq { q with deleting := true, head := q.tail }).qs.without x, rfl, find_drop_same _ _, rfl⟩

end Sys2Proof.Machine

open Sys2Proof Sys2Proof.Machine

/-- Settles O10: each row takes its last branch, which sets or drops its queue. -/
theorem queuesAreCreatedAndDeleted : Obligations.QueuesAreCreatedAndDeleted := by
  intro s t h x
  refine ⟨fun hw hq hn hs hc hm hv => ?_, fun hw hq hn hs h0 hcq hc => ?_, fun hw h0 hs hu => ?_, fun q hw h0 hq hn => ?_⟩
  · refine Completes.of_queue hw (exec_createIoCompletionQueue s t h)
      (Chip.createCq_of_terms (c := s.chip.atTime t) hq hn hs hc hm hv) (by simp) rfl fun c ha hqs hf hk => ⟨ha, ?_, ?_, hk, ?_⟩
    · rw [Chip.cqOf_congr hqs]; exact Chip.cqOf_setCq_same _ _
    · rw [Fn.field_of_noAe Fn.ioCreated hf, Chip.fnOf_setFn_self _ (by simp) (by simp)]
    · rw [hqs, Chip.setCq_sqs, Chip.atTime_qs]
  · obtain ⟨c1, hk1, he⟩ := Chip.createSq_of_terms (c := s.chip.atTime t) hq hn hs h0 hcq hc
    refine Completes.of_queue hw (exec_createIoSubmissionQueue s t h) he (by simpa using Chip.keeps_mono hk1 (by decide)) rfl
      fun c ha hqs hf hk => ⟨ha, ?_, ?_, hk, ?_⟩
    · rw [Chip.sqOf_congr hqs]; exact Chip.sqOf_setSq_same _ _
    · rw [Fn.field_of_noAe Fn.ioCreated hf, Chip.fnOf_setFn_self _ (by simp) (by simp)]
    · rw [hqs, Chip.setSq_cqs, hk1 .qs (by decide), Chip.atTime_qs]
  · obtain ⟨coal, he⟩ := Chip.deleteCq_of_terms (c := s.chip.atTime t) h0 hs hu
    refine Completes.of_queue hw (exec_deleteIoCompletionQueue s t h) he (by simp) rfl fun c ha hqs _ hk => ⟨ha, ?_, hk, ?_⟩
    · rw [Chip.cqOf_congr hqs]; exact find_drop_same _ _
    · rw [hqs]; rfl
  · obtain ⟨qs, hcq, hnone, he⟩ := Chip.deleteSq_of_terms (c := s.chip.atTime t) h0 hq hn
    refine Completes.of_admin hw (exec_deleteIoSubmissionQueue s t h) ?_
    rw [he, Chip.adminWaits_h hw]
    have hk : (s.chip.atTime t).keeps (((s.chip.atTime t).withQs qs).setAt E.QB_CLASS (qWord x.port x.fn (bits (x.dw 10) 15 0)) 4) [.qs, .dict] := by
      simp
    refine ⟨Chip.answered_keeps (Chip.adminWaits_atTime hw t) hk (by decide) (by decide) _ _ _ _, ?_, ?_, ?_⟩
    · rw [Chip.sqOf_end]; simpa [Chip.sqOf] using hnone
    · exact Chip.keeps_ended t (by simp) (by decide) (by decide)
    · simp [hcq]
end

section
/-! Proofs of the family of what the host reads (R80, R90, R378, R466). -/
namespace Sys2Proof.Machine

/-- A change of one part is a frame of that part. -/
theorem Chip.keeps_part {a b : Chip} {p : Area} (h : ∀ q, q ≠ p → a.same b q) : a.keeps b [p] := fun q hq => h q (by simpa using hq)

/-! ### Frames of one part -/

section
variable {a c : Chip} {l : List Area}
@[simp] theorem Chip.keeps_with_fuse (h : .fuse ∈ l) (v : Fuse) : a.keeps { c with fuse := v } l ↔ a.keeps c l :=
  Chip.keeps_iff (Chip.keeps_part (p := .fuse) fun q hq => by cases q <;> first | rfl | exact absurd rfl hq) (by simpa using h)
@[simp] theorem Chip.keeps_with_boot (h : .boot ∈ l) (v : Boot) : a.keeps { c with boot := v } l ↔ a.keeps c l :=
  Chip.keeps_iff (Chip.keeps_part (p := .boot) fun q hq => by cases q <;> first | rfl | exact absurd rfl hq) (by simpa using h)
@[simp] theorem Chip.keeps_with_dict (h : .dict ∈ l) (v : Dict) : a.keeps { c with dict := v } l ↔ a.keeps c l :=
  Chip.keeps_iff (Chip.keeps_part (p := .dict) fun q hq => by cases q <;> first | rfl | exact absurd rfl hq) (by simpa using h)
@[simp] theorem Chip.keeps_with_ev (h : .ev ∈ l) (v : Ev) : a.keeps { c with ev := v } l ↔ a.keeps c l :=
  Chip.keeps_iff (Chip.keeps_part (p := .ev) fun q hq => by cases q <;> first | rfl | exact absurd rfl hq) (by simpa using h)
@[simp] theorem Chip.keeps_with_un (h : .un ∈ l) (v : Un) : a.keeps { c with un := v } l ↔ a.keeps c l :=
  Chip.keeps_iff (Chip.keeps_part (p := .un) fun q hq => by cases q <;> first | rfl | exact absurd rfl hq) (by simpa using h)
@[simp] theorem Chip.keeps_with_fns (h : .fns ∈ l) (v : List Fn) : a.keeps { c with fns := v } l ↔ a.keeps c l :=
  Chip.keeps_iff (Chip.keeps_part (p := .fns) fun q hq => by cases q <;> first | rfl | exact absurd rfl hq) (by simpa using h)
@[simp] theorem Chip.keeps_with_ports (h : .ports ∈ l) (v : List Port) : a.keeps { c with ports := v } l ↔ a.keeps c l :=
  Chip.keeps_iff (Chip.keeps_part (p := .ports) fun q hq => by cases q <;> first | rfl | exact absurd rfl hq) (by simpa using h)
@[simp] theorem Chip.keeps_with_qs (h : .qs ∈ l) (v : Qs) : a.keeps { c with qs := v } l ↔ a.keeps c l :=
  Chip.keeps_iff (Chip.keeps_part (p := .qs) fun q hq => by cases q <;> first | rfl | exact absurd rfl hq) (by simpa using h)
@[simp] theorem Chip.keeps_with_cmds (h : .cmds ∈ l) (v : List Cmd) : a.keeps { c with cmds := v } l ↔ a.keeps c l :=
  Chip.keeps_iff (Chip.keeps_part (p := .cmds) fun q hq => by cases q <;> first | rfl | exact absurd rfl hq) (by simpa using h)
@[simp] theorem Chip.keeps_with_nextH (h : .nextH ∈ l) (v : Nat) : a.keeps { c with nextH := v } l ↔ a.keeps c l :=
  Chip.keeps_iff (Chip.keeps_part (p := .nextH) fun q hq => by cases q <;> first | rfl | exact absurd rfl hq) (by simpa using h)
@[simp] theorem Chip.keeps_with_lk (h : .lk ∈ l) (v : Lk) : a.keeps { c with lk := v } l ↔ a.keeps c l :=
  Chip.keeps_iff (Chip.keeps_part (p := .lk) fun q hq => by cases q <;> first | rfl | exact absurd rfl hq) (by simpa using h)
@[simp] theorem Chip.keeps_with_um (h : .um ∈ l) (v : Um) : a.keeps { c with um := v } l ↔ a.keeps c l :=
  Chip.keeps_iff (Chip.keeps_part (p := .um) fun q hq => by cases q <;> first | rfl | exact absurd rfl hq) (by simpa using h)
@[simp] theorem Chip.keeps_with_ft (h : .ft ∈ l) (v : Ft) : a.keeps { c with ft := v } l ↔ a.keeps c l :=
  Chip.keeps_iff (Chip.keeps_part (p := .ft) fun q hq => by cases q <;> first | rfl | exact absurd rfl hq) (by simpa using h)
@[simp] theorem Chip.keeps_with_sb (h : .sb ∈ l) (v : Sbs) : a.keeps { c with sb := v } l ↔ a.keeps c l :=
  Chip.keeps_iff (Chip.keeps_part (p := .sb) fun q hq => by cases q <;> first | rfl | exact absurd rfl hq) (by simpa using h)
@[simp] theorem Chip.keeps_with_md (h : .md ∈ l) (v : Md) : a.keeps { c with md := v } l ↔ a.keeps c l :=
  Chip.keeps_iff (Chip.keeps_part (p := .md) fun q hq => by cases q <;> first | rfl | exact absurd rfl hq) (by simpa using h)
@[simp] theorem Chip.keeps_with_rd (h : .rd ∈ l) (v : Rd) : a.keeps { c with rd := v } l ↔ a.keeps c l :=
  Chip.keeps_iff (Chip.keeps_part (p := .rd) fun q hq => by cases q <;> first | rfl | exact absurd rfl hq) (by simpa using h)
@[simp] theorem Chip.keeps_with_lost (h : .lost ∈ l) (v : List Lost) : a.keeps { c with lost := v } l ↔ a.keeps c l :=
  Chip.keeps_iff (Chip.keeps_part (p := .lost) fun q hq => by cases q <;> first | rfl | exact absurd rfl hq) (by simpa using h)
@[simp] theorem Chip.keeps_with_st (h : .st ∈ l) (v : Store9) : a.keeps { c with st := v } l ↔ a.keeps c l :=
  Chip.keeps_iff (Chip.keeps_part (p := .st) fun q hq => by cases q <;> first | rfl | exact absurd rfl hq) (by simpa using h)
@[simp] theorem Chip.keeps_with_book (h : .book ∈ l) (v : Book) : a.keeps { c with book := v } l ↔ a.keeps c l :=
  Chip.keeps_iff (Chip.keeps_part (p := .book) fun q hq => by cases q <;> first | rfl | exact absurd rfl hq) (by simpa using h)
@[simp] theorem Chip.keeps_with_wins (h : .wins ∈ l) (v : List Win5) : a.keeps { c with wins := v } l ↔ a.keeps c l :=
  Chip.keeps_iff (Chip.keeps_part (p := .wins) fun q hq => by cases q <;> first | rfl | exact absurd rfl hq) (by simpa using h)
@[simp] theorem Chip.keeps_with_pr (h : .pr ∈ l) (v : Pr) : a.keeps { c with pr := v } l ↔ a.keeps c l :=
  Chip.keeps_iff (Chip.keeps_part (p := .pr) fun q hq => by cases q <;> first | rfl | exact absurd rfl hq) (by simpa using h)
@[simp] theorem Chip.keeps_with_mg (h : .mg ∈ l) (v : Mg) : a.keeps { c with mg := v } l ↔ a.keeps c l :=
  Chip.keeps_iff (Chip.keeps_part (p := .mg) fun q hq => by cases q <;> first | rfl | exact absurd rfl hq) (by simpa using h)
@[simp] theorem Chip.keeps_with_pm (h : .pm ∈ l) (v : Pm) : a.keeps { c with pm := v } l ↔ a.keeps c l :=
  Chip.keeps_iff (Chip.keeps_part (p := .pm) fun q hq => by cases q <;> first | rfl | exact absurd rfl hq) (by simpa using h)
@[simp] theorem Chip.keeps_with_th (h : .th ∈ l) (v : Th) : a.keeps { c with th := v } l ↔ a.keeps c l :=
  Chip.keeps_iff (Chip.keeps_part (p := .th) fun q hq => by cases q <;> first | rfl | exact absurd rfl hq) (by simpa using h)
@[simp] theorem Chip.keeps_with_fw (h : .fw ∈ l) (v : Fw) : a.keeps { c with fw := v } l ↔ a.keeps c l :=
  Chip.keeps_iff (Chip.keeps_part (p := .fw) fun q hq => by cases q <;> first | rfl | exact absurd rfl hq) (by simpa using h)
@[simp] theorem Chip.keeps_with_lg (h : .lg ∈ l) (v : Lg) : a.keeps { c with lg := v } l ↔ a.keeps c l :=
  Chip.keeps_iff (Chip.keeps_part (p := .lg) fun q hq => by cases q <;> first | rfl | exact absurd rfl hq) (by simpa using h)
@[simp] theorem Chip.keeps_with_rnd (h : .rnd ∈ l) (v : Nat) : a.keeps { c with rnd := v } l ↔ a.keeps c l :=
  Chip.keeps_iff (Chip.keeps_part (p := .rnd) fun q hq => by cases q <;> first | rfl | exact absurd rfl hq) (by simpa using h)
@[simp] theorem Chip.keeps_with_free (h : .free ∈ l) (v : Nat) : a.keeps { c with free := v } l ↔ a.keeps c l :=
  Chip.keeps_iff (Chip.keeps_part (p := .free) fun q hq => by cases q <;> first | rfl | exact absurd rfl hq) (by simpa using h)
end

/-! ### Answers -/

/-- An admin command that ends after changes which left it waiting: it is answered with its status and result. -/
theorem Completes.of_answer {i : Instr} {s : State} {t h op st d0 d1 : Nat} {x : Cmd} {g : Chip → Cmd → Chip} {c1 : Chip} {P : Chip → Prop}
    (hw : s.chip.adminWaits h op x) (he : exec i s = run s t fun c => c.adminCmd h op g)
    (hg : g (s.chip.atTime t) x = c1.finish x.h st d0 d1) (hn : c1.notHeld h) (hc : c1.cmd h = s.chip.cmd h)
    (hP : ((s.chip.atTime t).seal ((s.chip.atTime t).notices (c1.finish h st d0 d1))).answered h st d0 d1 →
      P ((s.chip.atTime t).seal ((s.chip.atTime t).notices (c1.finish h st d0 d1)))) : Completes i s P := by
  refine Completes.of_admin hw he ?_
  rw [hg, Chip.adminWaits_h hw]
  exact hP (Chip.answered_of (Chip.adminWaits_atTime hw t) hn hc _ _ _ _)

/-- The same, where the changes left commands and functions as they were. -/
theorem Completes.of_answer_keeps {i : Instr} {s : State} {t h op st d0 d1 : Nat} {x : Cmd} {g : Chip → Cmd → Chip} {c1 : Chip} {P : Chip → Prop}
    {l : List Area} (hw : s.chip.adminWaits h op x) (he : exec i s = run s t fun c => c.adminCmd h op g)
    (hg : g (s.chip.atTime t) x = c1.finish x.h st d0 d1) (hk : (s.chip.atTime t).keeps c1 l) (hf : .fns ∉ l) (hc : .cmds ∉ l)
    (hP : ((s.chip.atTime t).seal ((s.chip.atTime t).notices (c1.finish h st d0 d1))).answered h st d0 d1 →
      P ((s.chip.atTime t).seal ((s.chip.atTime t).notices (c1.finish h st d0 d1)))) : Completes i s P :=
  Completes.of_answer hw he hg (Chip.keeps_notHeld hk hf (Chip.adminWaits_notHeld hw)) (Chip.keeps_cmd hk hc h) hP

/-- Reading a log page unmasks its Asynchronous Events: it changes functions, none of which holds another request, and the log's account. -/
theorem Chip.keeps_afterLog (c : Chip) (x : Cmd) : c.keeps (c.afterLog x) [.fns, .lg] := by
  unfold Chip.afterLog
  extract_lets lid f c1 f1 c2
  have h1 : c.keeps c1 [.fns, .lg] := by simp [c1]
  have h2 : c.keeps c2 [.fns, .lg] := by simp [c2, h1]
  split
  · exact (Chip.keeps_with_lg (by simp) _).2 h2
  · exact h2

theorem Chip.notHeld_afterLog {c : Chip} {h : Nat} (hn : c.notHeld h) (x : Cmd) : (c.afterLog x).notHeld h := by
  have hset : ∀ {d : Chip} {f : Fn}, d.notHeld h → f.aers = (d.fnOf x.port x.fn).aers → (d.setFn f).notHeld h := fun hd hf =>
    Chip.notHeld_setFn hd (hf ▸ Chip.notHeld_fnOf hd _ _)
  unfold Chip.afterLog
  extract_lets lid f c1 f1 c2
  have h1 : c1.notHeld h := by unfold c1; split; exacts [hn, hset hn rfl]
  have h2 : c2.notHeld h := by unfold c2; split; exacts [hset h1 rfl, h1]
  split
  · exact h2
  · exact h2

@[simp] theorem Chip.afterLog_out (c : Chip) (x : Cmd) : (c.afterLog x).out = c.out := by
  unfold Chip.afterLog
  dsimp only
  split_ifs <;> rfl

end Sys2Proof.Machine

namespace Sys2Proof.Machine

theorem Chip.mem_out_end {b c : Chip} {o : Out} (h : o ∈ c.out) : o ∈ (b.seal (b.notices c)).out := by simpa using h

theorem Chip.mem_out_emit (c : Chip) (o : Out) : o ∈ (c.emit o).out := by simp [Chip.emit]

/-- The octets that a Get Log Page sends of a page. -/
def Cmd.logPart (x : Cmd) (size : Nat) (oct : Nat → Nat) : List Nat :=
  (List.range (min (4 * (bits (x.dw 10) 31 16 + bits (x.dw 11) 15 0 * 65536 + 1)) (size - (x.dw 12 + x.dw 13 * 2 ^ 32)))).map
    fun i => oct (x.dw 12 + x.dw 13 * 2 ^ 32 + i)

theorem Chip.getLog_of_page {c : Chip} {x : Cmd} {size : Nat} {oct : Nat → Nat} (hc : ¬ (x.dw 10 % 256 = 7 ∧ bit (x.dw 10) 8 = 1))
    (hp : c.logPage x = some (size, oct)) (hs : x.dw 12 + x.dw 13 * 2 ^ 32 ≤ size) (h4 : (x.dw 12 + x.dw 13 * 2 ^ 32) % 4 = 0) :
    c.getLog x = ((c.emit (.octets x.h (x.logPart size oct))).afterLog x).finish x.h stOk 0 0 := by
  unfold Chip.getLog
  simp only [if_neg hc, hp, at']
  exact if_neg (by omega)

/-- A function that holds one more request, and one that has told an event. -/
def Fn.holding (f : Fn) (h : Nat) : Fn := { f with aers := f.aers ++ [h] }
def Fn.told (f : Fn) (e : Nat × Nat × Nat) : Fn :=
  { f with aesPending := f.aesPending.erase e, aeMasked := (e.1 * 256 + e.2.2) :: f.aeMasked }

theorem Chip.holdAer_of_room {c : Chip} {x : Cmd} (hp : (c.fnOf x.port x.fn).aesPending = []) (hl : (c.fnOf x.port x.fn).aers.length < 16) :
    c.holdAer x = (c.setFn ((c.fnOf x.port x.fn).holding x.h)).setCmd { x with phase := .working } := by
  have hf : (c.fnOf x.port x.fn).aesPending.find? (fun e => !(c.fnOf x.port x.fn).aeMasked.contains (e.1 * 256 + e.2.2)) = none := by rw [hp]; rfl
  unfold Chip.holdAer
  dsimp only
  rw [hf]
  exact if_neg (Nat.not_le.2 hl)

theorem Chip.holdAer_of_event {c : Chip} {x : Cmd} {e : Nat × Nat × Nat} (he : (c.fnOf x.port x.fn).aesPending.find? (fun e =>
      !(c.fnOf x.port x.fn).aeMasked.contains (e.1 * 256 + e.2.2)) = some e) :
    c.holdAer x = (c.setFn ((c.fnOf x.port x.fn).told e)).finish x.h stOk (e.1 + e.2.1 * 256 + e.2.2 * 65536) 0 := by
  unfold Chip.holdAer
  dsimp only
  rw [he]
  rfl

theorem Chip.dictGet_of_terms {c : Chip} {x : Cmd} (h0 : x.fn = 0) (h1 : bits (x.dw 10) 7 0 = 0) (h2 : bits (x.dw 11) 31 9 = 0)
    (h3 : 1 ≤ bits (x.dw 11) 8 0) (h4 : bits (x.dw 11) 8 0 ≤ 256) (h5 : bits (x.dw 10) 31 8 % 256 + bits (x.dw 11) 8 0 ≤ 256)
    (h6 : x.dw 12 ≤ 1052672) (h7 : sumOf ((c.getRecords .nvme (bits (x.dw 10) 31 8) (bits (x.dw 11) 8 0)).1.map recordOctets) ≤ x.dw 12) :
    c.dictGet x = ((c.count E.DICT_READS (bits (x.dw 11) 8 0)).emit
      (.recs x.h (c.getRecords .nvme (bits (x.dw 10) 31 8) (bits (x.dw 11) 8 0)).1)).finish x.h stOk 0 0 := by
  unfold Chip.dictGet
  dsimp only
  rw [if_neg (by omega), if_neg (by omega)]
  rfl

end Sys2Proof.Machine

open Sys2Proof Sys2Proof.Machine

/-- Settles O11: each row answers its command; what it sends stays in the outputs to the end of the step. -/
theorem adminReadsAreAnswered : Obligations.AdminReadsAreAnswered := by
  intro s t h x
  refine ⟨fun l hw hl => ?_, fun size oct hw hc hp hsz hal => ?_, fun hw => ?_, fun hw hp hl => ?_, fun e hw he => ?_,
    fun hw h0 h1 h2 h3 h4 h5 h6 h7 => ?_⟩
  · refine Completes.of_answer_keeps (l := []) hw (exec_identify s t h) (by rw [hl]; rfl) (by simp) (by simp) (by simp) fun ha =>
      ⟨ha, Chip.mem_out_end ?_, Chip.keeps_ended t (by simp) (by decide) (by decide), Chip.keepsEntries_end t (by simp)⟩
    rw [Chip.finish_out, ← Chip.adminWaits_h hw]
    exact Chip.mem_out_emit _ _
  · refine Completes.of_answer hw (exec_getLogPage s t h) (Chip.getLog_of_page hc hp hsz hal) (Chip.notHeld_afterLog (c := (s.chip.atTime t).emit _)
      (Chip.adminWaits_notHeld hw) x)
      (Chip.keeps_cmd (Chip.keeps_afterLog _ x) (by decide) h) fun ha => ⟨ha, Chip.keeps_ended t ?_ (by decide) (by decide), Chip.mem_out_end ?_⟩
    · rw [Chip.keeps_finish_iff (by decide) (by decide)]
      exact Chip.keeps_mono (Chip.keeps_afterLog _ x) (by decide)
    · rw [Chip.finish_out, Chip.afterLog_out, Chip.adminWaits_h hw]
      exact Chip.mem_out_emit _ _
  · refine Completes.of_answer_keeps (l := [.dict]) hw (exec_abort s t h) rfl (by simp) (by simp) (by simp) fun ha =>
      ⟨ha, ?_, Chip.keeps_ended t (by simp) (by decide) (by decide), Chip.keepsEntries_end t (by simp)⟩
    refine Chip.counts_end t (by decide) ?_
    unfold Chip.counts
    rw [Chip.getAt_finish, Chip.getAt_countAt_same _ _ _ _ (by decide), Chip.getAt_atTime]
  · refine Completes.of_admin hw (exec_asynchronousEventRequest s t h) ?_
    rw [Chip.holdAer_of_room (c := s.chip.atTime t) hp hl]
    refine ⟨?_, ?_, Chip.keeps_ended t (by simp) (by decide) (by decide), Chip.keepsEntries_end t (by simp)⟩ <;>
      obtain ⟨hf, hc⟩ := Chip.notices_quiet (b := s.chip.atTime t) (c := ((s.chip.atTime t).setFn (((s.chip.atTime t).fnOf x.port x.fn).holding x.h)).setCmd { x with phase := .working }) (fun _ => rfl) rfl rfl rfl
    · rw [Chip.fnOf_seal, Chip.fnOf_congr hf, Chip.fnOf_setCmd, Chip.fnOf_setFn_self _ (f := Fn.holding _ _) (Chip.fnOf_port _ _ _) (Chip.fnOf_fn _ _ _), Chip.adminWaits_h hw]
      rfl
    · rw [Chip.cmd_seal, Chip.cmd_congr hc, ← Chip.adminWaits_h hw]
      have hx : ((s.chip.atTime t).setFn (((s.chip.atTime t).fnOf x.port x.fn).holding x.h)).cmd x.h = some x := by
        rw [Chip.cmd_setFn, Chip.adminWaits_h hw]; exact hw.1
      rw [Chip.cmd_setCmd_same (x := { x with phase := .working }) hx]
      rfl
  · refine Completes.of_answer hw (exec_asynchronousEventRequest s t h) (Chip.holdAer_of_event (c := s.chip.atTime t) he)
      (Chip.notHeld_setFn (Chip.adminWaits_notHeld hw) (Chip.notHeld_fnOf (Chip.adminWaits_notHeld hw) _ _)) rfl fun ha =>
      ⟨ha, Chip.keeps_ended t (by simp) (by decide) (by decide), Chip.keepsEntries_end t (by simp)⟩
  · refine Completes.of_answer_keeps (l := [.dict]) hw (exec_dictionaryGet s t h) (Chip.dictGet_of_terms h0 h1 h2 h3 h4 h5 h6 h7) (by simp)
      (by simp) (by simp) fun ha => ⟨ha, Chip.mem_out_end ?_, Chip.keeps_ended t (by simp) (by decide) (by decide), Chip.keepsEntries_end t (by simp)⟩
    rw [Chip.finish_out, Chip.adminWaits_h hw]
    exact Chip.mem_out_emit _ _
end

section
/-! Proofs of the family of self-tests (R94, R95). -/
namespace Sys2Proof.Machine

/-- The chip at the end of the step of a command that was ended after the changes `c1`. -/
def Chip.answeredEnd (b c1 : Chip) (h st d0 d1 : Nat) : Chip := b.seal (b.notices (c1.finish h st d0 d1))

section
variable (b c1 : Chip) (h st d0 d1 : Nat)
theorem Chip.answeredEnd_getAt {e i v : Nat} (he : e ∉ eventMeters) (hv : c1.getAt e i = v) : (b.answeredEnd c1 h st d0 d1).getAt e i = v := by
  unfold Chip.answeredEnd
  rw [Chip.getAt_end _ _ he, Chip.getAt_finish, hv]

@[simp] theorem Chip.answeredEnd_ft : (b.answeredEnd c1 h st d0 d1).ft = c1.ft := by simp [Chip.answeredEnd]
@[simp] theorem Chip.answeredEnd_fw : (b.answeredEnd c1 h st d0 d1).fw = c1.fw := by simp [Chip.answeredEnd]
@[simp] theorem Chip.answeredEnd_pr : (b.answeredEnd c1 h st d0 d1).pr = c1.pr := by simp [Chip.answeredEnd]
@[simp] theorem Chip.answeredEnd_boot : (b.answeredEnd c1 h st d0 d1).boot = c1.boot := by simp [Chip.answeredEnd]

/-- Fields of the log part that notes leave alone. -/
@[simp] theorem Chip.answeredEnd_stOwner : (b.answeredEnd c1 h st d0 d1).lg.stOwner = c1.lg.stOwner := by
  obtain ⟨_, _, _, _, _, _, _, hn⟩ := Chip.notices_frame b (c1.finish h st d0 d1)
  simp [Chip.answeredEnd, hn]

@[simp] theorem Chip.answeredEnd_selfTests : (b.answeredEnd c1 h st d0 d1).lg.selfTests = c1.lg.selfTests := by
  obtain ⟨_, _, _, _, _, _, _, hn⟩ := Chip.notices_frame b (c1.finish h st d0 d1)
  simp [Chip.answeredEnd, hn]

@[simp] theorem Chip.answeredEnd_sanLog : (b.answeredEnd c1 h st d0 d1).lg.sanLog = c1.lg.sanLog := by
  obtain ⟨_, _, _, _, _, _, _, hn⟩ := Chip.notices_frame b (c1.finish h st d0 d1)
  simp [Chip.answeredEnd, hn]
end

/-- An admin command that ends after changes which left commands and functions as they were: it is answered, and the changes and notes are
all that happened. -/
theorem Completes.of_answer_frame {i : Instr} {s : State} {t h op st d0 d1 : Nat} {x : Cmd} {g : Chip → Cmd → Chip} {c1 : Chip} {P : Chip → Prop}
    {l : List Area} {es : List Nat} (hw : s.chip.adminWaits h op x) (he : exec i s = run s t fun c => c.adminCmd h op g)
    (hg : g (s.chip.atTime t) x = c1.finish x.h st d0 d1) (hk : (s.chip.atTime t).keeps c1 l) (hks : (s.chip.atTime t).keepsEntries c1 es)
    (hf : .fns ∉ l) (hc : .cmds ∉ l) (hu : .fuse ∉ l)
    (hP : ∀ c : Chip, c = (s.chip.atTime t).answeredEnd c1 h st d0 d1 → c.answered h st d0 d1 → s.chip.keeps c (l ++ notePart) →
      s.chip.keepsEntries c es → P c) : Completes i s P :=
  Completes.of_answer_keeps hw he hg hk hf hc fun ha => hP _ rfl ha
    (Chip.keeps_ended t ((Chip.keeps_finish_iff (by simp) (by simp) _ _ _ _).2 (Chip.keeps_mono hk (by simp +contextual))) (by simp [hu])
      (by simp +contextual)) (Chip.keepsEntries_end t ((Chip.keepsEntries_finish_iff _ _ _ _).2 hks))

/-- The chip with a self-test under way at its first segment, for the function that asked. -/
def Chip.testing (c : Chip) (x : Cmd) (code failing : Nat) : Chip :=
  (({ c with lg := { c.lg with stOwner := some (x.port, x.fn), stFailing := if failing ≤ 3 then failing else 0, stLeft := [], stTotal := 0 } }).set
    E.ST_STATE code).set E.ST_SEGMENT 1

/-- The chip with the self-test over, as `Chip.endSelfTest` leaves it while one runs. -/
def Chip.testEnded (c : Chip) (result segment : Nat) : Chip :=
  ((({ c with lg := { c.lg with selfTests := ((c.get E.ST_STATE, result, segment) :: c.lg.selfTests).take 20, stOwner := none, stFailing := 0,
                                stLeft := [], stTotal := 0 } }).dropTasks testH).set E.ST_STATE 0).set E.ST_SEGMENT 0

theorem Chip.endSelfTest_running {c : Chip} (h : c.get E.ST_STATE ≠ 0) (result segment : Nat) : c.endSelfTest result segment = c.testEnded result segment :=
  if_neg h

theorem Chip.keeps_testing (c : Chip) (x : Cmd) (code failing : Nat) : c.keeps (c.testing x code failing) [.lg, .dict] := by
  simp [Chip.testing]

theorem Chip.keepsEntries_testing (c : Chip) (x : Cmd) (code failing : Nat) :
    c.keepsEntries (c.testing x code failing) [E.ST_STATE, E.ST_SEGMENT] := by
  unfold Chip.testing
  rw [Chip.keepsEntries_setAt_iff (by simp), Chip.keepsEntries_setAt_iff (by simp)]
  exact Chip.keepsEntries_vals rfl _

theorem Chip.keeps_testEnded (c : Chip) (result segment : Nat) : c.keeps (c.testEnded result segment) [.lg, .dict, .rd, .wins] := by
  simp [Chip.testEnded]

theorem Chip.keepsEntries_testEnded (c : Chip) (result segment : Nat) :
    c.keepsEntries (c.testEnded result segment) [E.ST_STATE, E.ST_SEGMENT] := by
  unfold Chip.testEnded
  rw [Chip.keepsEntries_setAt_iff (by simp), Chip.keepsEntries_setAt_iff (by simp), Chip.keepsEntries_dropTasks_iff]
  exact Chip.keepsEntries_vals rfl _

/-- Both tests start alike. -/
theorem Completes.of_startSelfTest {i : Instr} {s : State} {t h failing code : Nat} {x : Cmd} (hw : s.chip.adminWaits h 0x14 x)
    (he : exec i s = run s t fun c => c.startSelfTest h code failing) (hx : bits (x.dw 10) 3 0 = code) (hs : s.chip.get E.ST_STATE = 0) :
    Completes i s fun c => c.answered h stOk 0 0 ∧ c.get E.ST_STATE = code ∧ c.get E.ST_SEGMENT = 1 ∧ c.lg.stOwner = some (x.port, x.fn)
      ∧ s.chip.keeps c notePart ∧ s.chip.keepsEntries c [E.ST_STATE, E.ST_SEGMENT] := by
  refine Completes.of_answer_frame hw he (c1 := (s.chip.atTime t).testing x code failing) ?_ (Chip.keeps_testing _ _ _ _)
    (Chip.keepsEntries_testing _ _ _ _) (by decide) (by decide) (by decide)
    fun c hc ha hk hks => ⟨ha, ?_, ?_, ?_, Chip.keeps_mono hk (by decide), hks⟩
  · rw [if_neg (by simpa using hx), if_neg (by simpa using hs)]; rfl
  all_goals subst hc
  · exact Chip.answeredEnd_getAt _ _ _ _ _ _ (by decide) (by simp [Chip.testing, Chip.getAt_setAt])
  · exact Chip.answeredEnd_getAt _ _ _ _ _ _ (by decide) (by simp [Chip.testing, Chip.getAt_setAt])
  · rw [Chip.answeredEnd_stOwner]; rfl

end Sys2Proof.Machine

open Sys2Proof Sys2Proof.Machine

/-- Settles O15: what starts a test and what ends it are answered with success. -/
theorem selfTestsStartAndEnd : Obligations.SelfTestsStartAndEnd := by
  intro s t h failing x hw
  refine ⟨Completes.of_startSelfTest hw (exec_deviceSelfTestShort s t h failing),
    Completes.of_startSelfTest hw (exec_deviceSelfTestExtended s t h failing), fun hx hs => ?_⟩
  have hg : (s.chip.atTime t).endSelfTest 1 0 = (s.chip.atTime t).testEnded 1 0 := Chip.endSelfTest_running (c := s.chip.atTime t) hs 1 0
  refine Completes.of_answer_frame hw (exec_deviceSelfTestAbort s t h) (c1 := (s.chip.atTime t).testEnded 1 0) ?_ (Chip.keeps_testEnded _ _ _)
    (Chip.keepsEntries_testEnded _ _ _) (by decide) (by decide) (by decide)
    fun c hc ha hk hks => ⟨ha, ?_, ?_, ?_, ?_, Chip.keeps_mono hk (by decide), hks⟩
  · rw [← hg]; simp only [hx]; rfl
  all_goals subst hc
  · exact Chip.answeredEnd_getAt _ _ _ _ _ _ (by decide) (by simp [Chip.testEnded, Chip.getAt_setAt])
  · exact Chip.answeredEnd_getAt _ _ _ _ _ _ (by decide) (by simp [Chip.testEnded, Chip.getAt_setAt])
  · rw [Chip.answeredEnd_stOwner]; rfl
  · rw [Chip.answeredEnd_selfTests]; rfl
end

section
/-! Proofs of the family of firmware images (R93, R444, R445, R447). -/
namespace Sys2Proof.Machine

/-- A row that ends an admin command that waits, after changes which left commands and functions as they were. -/
theorem Completes.of_ended {i : Instr} {s : State} {t h op st d0 d1 : Nat} {x : Cmd} {f : Chip → Chip} {c1 : Chip} {P : Chip → Prop}
    {l : List Area} {es : List Nat} (hw : s.chip.adminWaits h op x) (he : exec i s = run s t f)
    (hg : f (s.chip.atTime t) = c1.finish h st d0 d1) (hk : (s.chip.atTime t).keeps c1 l) (hks : (s.chip.atTime t).keepsEntries c1 es)
    (hf : .fns ∉ l) (hc : .cmds ∉ l) (hu : .fuse ∉ l)
    (hP : ∀ c : Chip, c = (s.chip.atTime t).answeredEnd c1 h st d0 d1 → c.answered h st d0 d1 → s.chip.keeps c (l ++ notePart) →
      s.chip.keepsEntries c es → P c) : Completes i s P := by
  refine Completes.of_run he ?_
  rw [hg]
  exact hP _ rfl (Chip.answered_keeps (Chip.adminWaits_atTime hw t) hk hf hc _ _ _ _)
    (Chip.keeps_ended t ((Chip.keeps_finish_iff (by simp) (by simp) _ _ _ _).2 (Chip.keeps_mono hk (by simp +contextual))) (by simp [hu])
      (by simp +contextual)) (Chip.keepsEntries_end t ((Chip.keepsEntries_finish_iff _ _ _ _).2 hks))

/-- Counters at the end of the step of a command that was ended. -/
theorem Chip.counts_answeredEnd {a b c1 : Chip} {h st d0 d1 e i n : Nat} (he : e ∉ eventMeters) (hc : a.counts c1 e i n) :
    a.counts (b.answeredEnd c1 h st d0 d1) e i n := Chip.answeredEnd_getAt _ _ _ _ _ _ he hc

/-- A chip with other firmware state, and nothing else changed. -/
def Chip.withFw (c : Chip) (fw : Fw) : Chip := { c with fw := fw }

@[simp] theorem Chip.withFw_fw (c : Chip) (fw : Fw) : (c.withFw fw).fw = fw := rfl
@[simp] theorem Chip.getAt_withFw (c : Chip) (fw : Fw) (e i : Nat) : (c.withFw fw).getAt e i = c.getAt e i := rfl
@[simp] theorem Chip.keeps_withFw_iff {a c : Chip} {l : List Area} (h : .fw ∈ l) (fw : Fw) : a.keeps (c.withFw fw) l ↔ a.keeps c l :=
  Chip.keeps_with_fw h fw
@[simp] theorem Chip.keepsEntries_withFw_iff {a c : Chip} {l : List Nat} (fw : Fw) : a.keepsEntries (c.withFw fw) l ↔ a.keepsEntries c l := Iff.rfl

/-! ### Checks and slots -/

theorem Chip.checkSlot_pass {c : Chip} {slot : Nat} {i : Image} (h : c.imageCheck i = 0) : c.checkSlot slot i = (true, c) := if_pos h

/-- An image that fails is reported, and nothing else happens. -/
theorem Chip.checkSlot_fail {c : Chip} {slot : Nat} {i : Image} (h : c.imageCheck i ≠ 0) :
    c.checkSlot slot i = (false, c.event 0x587 0 4 noUnit [slot, c.imageCheck i]) := if_neg h

/-- The firmware state with the image downloaded in a slot. -/
def Fw.filled (f : Fw) (k : Nat) : Fw := { f with slots := f.slots.set (k - 1) (imageOf f.down) }

section
variable {c : Chip} {k : Nat} (h1 : 1 ≤ k) (h3 : k ≤ 3)
include h1 h3

theorem Chip.writeSlot_pass (hr : k ≠ c.get E.FW_RUNNING_SLOT) (hd : c.fw.complete = true) (hi : c.imageCheck (imageOf c.fw.down) = 0) :
    c.writeSlot k = (stOk, c.withFw (c.fw.filled k)) := by
  unfold Chip.writeSlot
  rw [if_neg (by omega), if_neg (by simp [hd])]
  dsimp only
  rw [Chip.checkSlot_pass hi, if_pos rfl]
  rfl

theorem Chip.writeSlot_fail (hr : k ≠ c.get E.FW_RUNNING_SLOT) (hd : c.fw.complete = true) (hi : c.imageCheck (imageOf c.fw.down) ≠ 0) :
    c.writeSlot k = (stFwImage, c.event 0x587 0 4 noUnit [k, c.imageCheck (imageOf c.fw.down)]) := by
  unfold Chip.writeSlot
  rw [if_neg (by omega), if_neg (by simp [hd])]
  dsimp only
  rw [Chip.checkSlot_fail hi, if_neg (by simp)]

theorem Chip.choosePending_pass (hi : c.imageCheck (c.slotImage k) = 0) : c.choosePending k = (stOk, c.set E.FW_PENDING_SLOT k) := by
  unfold Chip.choosePending
  rw [if_neg (by omega)]
  dsimp only
  rw [Chip.checkSlot_pass hi, if_pos rfl]

theorem Chip.choosePending_fail (hi : c.imageCheck (c.slotImage k) ≠ 0) :
    c.choosePending k = (stFwImage, c.event 0x587 0 4 noUnit [k, c.imageCheck (c.slotImage k)]) := by
  unfold Chip.choosePending
  rw [if_neg (by omega)]
  dsimp only
  rw [Chip.checkSlot_fail hi, if_neg (by simp)]
end

theorem Chip.endCommit_ok (c : Chip) (h : Nat) : c.endCommit h stOk = (c.count E.FW_COMMITS 1).finish h stOk 0 0 := by
  unfold Chip.endCommit; rw [if_pos rfl]

theorem Chip.endCommit_image (c : Chip) (h : Nat) : c.endCommit h stFwImage = c.finish h stFwImage 0 0 := by
  unfold Chip.endCommit; rw [if_neg (by decide)]

/-- A commit of the action it names, with an image that does not pass: it ends with Invalid Firmware Image, and notes are all that happened. -/
theorem Completes.of_badImage {i : Instr} {s : State} {t h action slot check : Nat} {x : Cmd} {g : Chip → Cmd → Chip} {P : Chip → Prop}
    (hw : s.chip.adminWaits h 0x10 x) (he : exec i s = run s t fun c => c.fwCommit h action g) (ha : bits (x.dw 10) 5 3 = action)
    (hg : g (s.chip.atTime t) x = ((s.chip.atTime t).event 0x587 0 4 noUnit [slot, check]).finish h stFwImage 0 0)
    (hP : ∀ c : Chip, c.answered h stFwImage 0 0 → c.fw = s.chip.fw → s.chip.keeps c notePart → s.chip.keepsEntries c [] → P c) :
    Completes i s P := by
  refine Completes.of_ended hw he (l := [.dict, .ev, .lg]) (c1 := (s.chip.atTime t).event 0x587 0 4 noUnit [slot, check]) ?_ (by simp)
    (by simp) (by decide) (by decide) (by decide) fun c hc hans hk hks => hP c hans ?_ (Chip.keeps_mono hk (by decide)) hks
  · rw [Chip.fwCommit, Chip.adminCmd_eq (Chip.adminWaits_atTime hw t), if_pos ha, hg]
  · subst hc; simp

/-- A commit of the action it names that succeeds. -/
theorem Completes.of_commit {i : Instr} {s : State} {t h action : Nat} {x : Cmd} {g : Chip → Cmd → Chip} {c1 : Chip} {P : Chip → Prop}
    {es : List Nat} (hw : s.chip.adminWaits h 0x10 x) (he : exec i s = run s t fun c => c.fwCommit h action g) (ha : bits (x.dw 10) 5 3 = action)
    (hg : g (s.chip.atTime t) x = (c1.count E.FW_COMMITS 1).finish h stOk 0 0) (hk : (s.chip.atTime t).keeps c1 [.fw, .dict, .ev, .lg])
    (hks : (s.chip.atTime t).keepsEntries c1 es) (hes : E.FW_COMMITS ∈ es) (h0 : c1.getAt E.FW_COMMITS 0 = s.chip.getAt E.FW_COMMITS 0)
    (hP : ∀ c : Chip, c.answered h stOk 0 0 → c.fw = c1.fw →
      (∀ e i v, e ∉ eventMeters → ¬ (e = E.FW_COMMITS ∧ i = 0) → c1.getAt e i = v → c.getAt e i = v) → s.chip.counts c E.FW_COMMITS 0 1 →
      s.chip.keeps c (.fw :: notePart) → s.chip.keepsEntries c es → P c) : Completes i s P := by
  refine Completes.of_ended hw he (l := [.fw, .dict, .ev, .lg]) (c1 := c1.count E.FW_COMMITS 1) ?_ (by simp [hk]) (by simp [hks, hes])
    (by decide) (by decide) (by decide) fun c hc hans hk hks => hP c hans ?_ ?_ ?_ (Chip.keeps_mono hk (by decide)) hks
  · rw [Chip.fwCommit, Chip.adminCmd_eq (Chip.adminWaits_atTime hw t), if_pos ha, hg]
  all_goals subst hc
  · simp
  · exact fun e i v he hn hv => Chip.answeredEnd_getAt _ _ _ _ _ _ he
      ((Chip.getAt_countAt_ne _ _ _ _ (notMeter he) hn).trans hv)
  · refine Chip.counts_answeredEnd (by decide) ?_
    unfold Chip.counts
    rw [Chip.getAt_countAt_same _ _ _ _ (by decide), h0]

/-- The three actions that complete, by what the checks say. -/
theorem Chip.writeSlot_ends {c : Chip} {x : Cmd} {k : Nat} (h : Nat) (hs : c.commitSlotOf x = k) (h1 : 1 ≤ k) (h3 : k ≤ 3)
    (hr : k ≠ c.get E.FW_RUNNING_SLOT) (hd : c.fw.complete = true) :
    (c.writeSlot (c.commitSlotOf x)).2.endCommit h (c.writeSlot (c.commitSlotOf x)).1 =
      if c.imageCheck (imageOf c.fw.down) = 0 then ((c.withFw (c.fw.filled k)).count E.FW_COMMITS 1).finish h stOk 0 0
      else (c.event 0x587 0 4 noUnit [k, c.imageCheck (imageOf c.fw.down)]).finish h stFwImage 0 0 := by
  rw [hs]
  split
  case isTrue hi => rw [Chip.writeSlot_pass h1 h3 hr hd hi, Chip.endCommit_ok]
  case isFalse hi => rw [Chip.writeSlot_fail h1 h3 hr hd hi, Chip.endCommit_image]

theorem Chip.writePending_ends {c : Chip} {x : Cmd} {k : Nat} (h : Nat) (hs : c.commitSlotOf x = k) (h1 : 1 ≤ k) (h3 : k ≤ 3)
    (hr : k ≠ c.get E.FW_RUNNING_SLOT) (hd : c.fw.complete = true) :
    (c.writePending (c.commitSlotOf x)).2.endCommit h (c.writePending (c.commitSlotOf x)).1 =
      if c.imageCheck (imageOf c.fw.down) = 0 then (((c.withFw (c.fw.filled k)).set E.FW_PENDING_SLOT k).count E.FW_COMMITS 1).finish h stOk 0 0
      else (c.event 0x587 0 4 noUnit [k, c.imageCheck (imageOf c.fw.down)]).finish h stFwImage 0 0 := by
  unfold Chip.writePending
  rw [hs]
  split
  case isTrue hi => rw [Chip.writeSlot_pass h1 h3 hr hd hi, if_pos rfl, Chip.endCommit_ok]
  case isFalse hi => rw [Chip.writeSlot_fail h1 h3 hr hd hi, if_neg (show stFwImage ≠ stOk by decide), Chip.endCommit_image]

theorem Chip.choosePending_ends {c : Chip} {k : Nat} (h : Nat) (h1 : 1 ≤ k) (h3 : k ≤ 3) :
    (c.choosePending k).2.endCommit h (c.choosePending k).1 =
      if c.imageCheck (c.slotImage k) = 0 then ((c.set E.FW_PENDING_SLOT k).count E.FW_COMMITS 1).finish h stOk 0 0
      else (c.event 0x587 0 4 noUnit [k, c.imageCheck (c.slotImage k)]).finish h stFwImage 0 0 := by
  split
  case isTrue hi => rw [Chip.choosePending_pass h1 h3 hi, Chip.endCommit_ok]
  case isFalse hi => rw [Chip.choosePending_fail h1 h3 hi, Chip.endCommit_image]

/-- A piece that follows on, or begins anew, is kept. -/
theorem Chip.download_of_terms {c : Chip} {x : Cmd} (piece : Nat) (h1 : 4 * (x.dw 10 + 1) % 4096 = 0) (h2 : 4 * x.dw 11 % 4096 = 0)
    (h3 : 4 * x.dw 11 + 4 * (x.dw 10 + 1) ≤ 16 * 2 ^ 20) (h4 : x.dw 11 = 0 ∨ 4 * x.dw 11 = c.fw.downOct) :
    c.download x piece = (c.withFw { c.fw with down := (if x.dw 11 = 0 then 0 else c.fw.down) + piece % 256 ^ (4 * (x.dw 10 + 1)) * 256 ^ (4 * x.dw 11), downOct := 4 * x.dw 11 + 4 * (x.dw 10 + 1) }).finish
      x.h stOk 0 0 := by
  unfold Chip.download
  dsimp only
  rw [if_neg (by omega), if_neg (by omega), if_neg (by omega)]
  have h0 : (4 * x.dw 11 = 0) = (x.dw 11 = 0) := by simp
  simp only [h0]
  rfl

end Sys2Proof.Machine

open Sys2Proof Sys2Proof.Machine

/-- Settles O13: each row by what the image checks say. -/
theorem firmwareIsDownloadedAndCommitted : Obligations.FirmwareIsDownloadedAndCommitted := by
  intro s t h x
  refine ⟨fun piece hw h1 h2 h3 h4 => ?_, fun k hw ha hs h1 h3 hr hd => ?_, fun k hw ha hs h1 h3 hr hd => ?_, fun k hw ha hs h1 h3 => ?_,
    fun hw ha => ?_⟩
  · refine Completes.of_answer_frame (l := [.fw]) (es := []) hw (exec_firmwareImageDownload s t h piece)
      (Chip.download_of_terms (c := s.chip.atTime t) piece h1 h2 h3 h4) (by simp) (by simp) (by decide) (by decide) (by decide)
      fun c hc hans hk hks => ⟨hans, hk, hks, ?_⟩
    subst hc
    simp
  · have he := Chip.writeSlot_ends (c := s.chip.atTime t) h hs h1 h3 hr hd
    by_cases hi : s.chip.imageCheck (imageOf s.chip.fw.down) = 0
    · exact Completes.of_commit hw (exec_firmwareCommitReplace s t h) ha (c1 := (s.chip.atTime t).withFw (s.chip.fw.filled k)) (es := [E.FW_COMMITS])
        (he.trans (if_pos hi)) (by simp) (by simp) (by simp) rfl
        fun c hans hfw _ hcnt hk hks => ⟨fun _ => ⟨hans, hfw, hcnt, hks⟩, fun hn => absurd hi hn, hk⟩
    · exact Completes.of_badImage hw (exec_firmwareCommitReplace s t h) ha (he.trans (if_neg hi))
        fun c hans hfw hk hks => ⟨fun h0 => absurd h0 hi, fun _ => ⟨hans, hfw, hks⟩, Chip.keeps_mono hk (by decide)⟩
  · have he := Chip.writePending_ends (c := s.chip.atTime t) h hs h1 h3 hr hd
    by_cases hi : s.chip.imageCheck (imageOf s.chip.fw.down) = 0
    · exact Completes.of_commit hw (exec_firmwareCommitReplaceActivate s t h) ha
        (c1 := ((s.chip.atTime t).withFw (s.chip.fw.filled k)).set E.FW_PENDING_SLOT k) (es := [E.FW_COMMITS, E.FW_PENDING_SLOT])
        (he.trans (if_pos hi)) (by simp) (by simp) (by simp) (by simp [Chip.getAt_setAt])
        fun c hans hfw hv hcnt hk hks => ⟨fun _ => ⟨hans, hfw, hv _ _ _ (by decide) (by decide) (by simp [Chip.getAt_setAt]), hcnt, hks⟩,
          fun hn => absurd hi hn, hk⟩
    · exact Completes.of_badImage hw (exec_firmwareCommitReplaceActivate s t h) ha (he.trans (if_neg hi))
        fun c hans hfw hk hks => ⟨fun h0 => absurd h0 hi, fun _ => ⟨hans, hfw, hks⟩, Chip.keeps_mono hk (by decide)⟩
  · have he := Chip.choosePending_ends (c := s.chip.atTime t) (k := bits (x.dw 10) 2 0) h (hs ▸ h1) (hs ▸ h3)
    subst hs
    by_cases hi : s.chip.imageCheck (s.chip.slotImage (bits (x.dw 10) 2 0)) = 0
    · refine Completes.of_ended hw (exec_firmwareCommitActivate s t h) (l := [.dict]) (es := [E.FW_COMMITS, E.FW_PENDING_SLOT])
        (c1 := ((s.chip.atTime t).set E.FW_PENDING_SLOT (bits (x.dw 10) 2 0)).count E.FW_COMMITS 1) ?_ (by simp) (by simp) (by decide) (by decide) (by decide)
        fun c hc hans hk hks => ⟨fun _ => ⟨hans, ?_, ?_, hks⟩, fun hn => absurd hi hn, Chip.keeps_mono hk (by decide)⟩
      · rw [Chip.fwCommit, Chip.adminCmd_eq (Chip.adminWaits_atTime hw t), if_pos ha]
        exact he.trans (if_pos hi)
      all_goals subst hc
      · exact Chip.answeredEnd_getAt _ _ _ _ _ _ (by decide)
          ((Chip.getAt_countAt_ne _ _ _ _ (by decide) (by decide)).trans (by simp [Chip.getAt_setAt]))
      · refine Chip.counts_answeredEnd (by decide) ?_
        unfold Chip.counts
        rw [Chip.getAt_countAt_same _ _ _ _ (by decide)]
        simp [Chip.getAt_setAt]
    · exact Completes.of_badImage hw (exec_firmwareCommitActivate s t h) ha (he.trans (if_neg hi))
        fun c hans hfw hk hks => ⟨fun h0 => absurd h0 hi, fun _ => ⟨hans, hks⟩, hk⟩
  · exact Completes.of_answer_frame (l := []) (es := []) (c1 := s.chip.atTime t) hw (exec_firmwareCommitInvalid s t h) (if_pos ha) (by simp) (by simp)
      (by decide) (by decide) (by decide) fun c _ hans hk hks => ⟨hans, hk, hks⟩
end

section
/-! Proofs of the family of activations without reset (R93, R447). -/
namespace Sys2Proof.Machine

/-- Firmware state in which a command has asked for an activation, and in which its draining began. -/
def Fw.asked (f : Fw) (h slot : Nat) : Fw := { f with fwaH := some h, fwaT := none, fwaSlot := slot }
def Fw.drainsFrom (f : Fw) (now : Nat) : Fw := { f with fwaT := some now }

/-- The chip in which the image of its activation runs, before the commit is counted. -/
def Chip.activated (c : Chip) : Chip :=
  ((((((c.withFw { c.fw with fwaH := none, lastRan := c.fw.fwaSlot }).set E.FWA_LAST_DRAIN (c.fwaRan / cycPerUs)).set E.FWA_LAST_RESULT 0).set
    E.FW_RUNNING_SLOT c.fw.fwaSlot).set E.FW_PENDING_SLOT 0).count E.FW_ACTIVATIONS 1).event 0x58B 0 2 noUnit [1, 0]

theorem Chip.fwaActivate_eq (c : Chip) (h : Nat) : c.fwaActivate h = (c.activated.count E.FW_COMMITS 1).finish h stOk 0 0 := Chip.endCommit_ok _ h

theorem Chip.fwaDrains_of_free {c : Chip} (hh : c.fw.fwaH.isSome = true) (ht : c.fw.fwaT = none) (hd : c.fwaDeciding = false) :
    c.fwaDrains = c.withFw (c.fw.drainsFrom c.now) := by
  unfold Chip.fwaDrains
  rw [if_pos ⟨hh, by simp [ht], by simp [hd]⟩]
  rfl

theorem Chip.fwaBusy_congr {c c' : Chip} (h : c'.cmds = c.cmds) : c'.fwaBusy = c.fwaBusy := by
  unfold Chip.fwaBusy Chip.ioAdmitted Chip.fwaDeciding; rw [h]

theorem Chip.fwaDeciding_of_busy {c : Chip} (h : c.fwaBusy = false) : c.fwaDeciding = false := (Bool.or_eq_false_iff.1 h).2

/-- The chip whose activation of a slot has nothing to wait for. -/
def Chip.chosen (c : Chip) (h slot : Nat) : Chip := (c.set E.FW_PENDING_SLOT slot).withFw ((c.fw.asked h slot).drainsFrom c.now)

/-- With nothing to wait for, the image of the slot runs at once. -/
theorem Chip.activateNow_of_idle {c : Chip} {x : Cmd} {k : Nat} (hn : c.fw.fwaH = none) (hf : c.get E.FORMAT_STATE = 0) (hs : c.ft.sanitizeStep = 0)
    (hd : c.fw.complete = false) (hk : bits (x.dw 10) 2 0 = k) (h1 : 1 ≤ k) (h3 : k ≤ 3) (hi : c.imageCheck (c.slotImage k) = 0)
    (hb : c.fwaBusy = false) : c.activateNow x = ((c.chosen x.h k).activated.count E.FW_COMMITS 1).finish x.h stOk 0 0 := by
  have hdrain : ((c.set E.FW_PENDING_SLOT k).withFw (c.fw.asked x.h k)).fwaDrains = c.chosen x.h k :=
    Chip.fwaDrains_of_free rfl rfl (Chip.fwaDeciding_of_busy ((Chip.fwaBusy_congr (c := c) rfl).trans hb))
  have hbusy : (c.chosen x.h k).fwaBusy = false := (Chip.fwaBusy_congr (c := c) rfl).trans hb
  unfold Chip.activateNow
  rw [hn]
  simp only [hd, hk, Bool.false_eq_true, if_false, Chip.choosePending_pass h1 h3 hi]
  rw [if_neg (by simp [hf, hs]), if_neg (by simp)]
  change (if ((c.set E.FW_PENDING_SLOT k).withFw (c.fw.asked x.h k)).fwaDrains.fwaBusy then _ else
    ((c.set E.FW_PENDING_SLOT k).withFw (c.fw.asked x.h k)).fwaDrains.fwaActivate x.h) = _
  rw [hdrain, hbusy, if_neg Bool.false_ne_true, Chip.fwaActivate_eq]

theorem Chip.chosen_fwaRan (c : Chip) (h slot : Nat) : (c.chosen h slot).fwaRan = 0 := Nat.sub_self c.now

theorem Chip.keeps_chosen (c : Chip) (h slot : Nat) : c.keeps (c.chosen h slot) [.fw, .dict] := by simp [Chip.chosen]

theorem Chip.keepsEntries_chosen (c : Chip) (h slot : Nat) : c.keepsEntries (c.chosen h slot) [E.FW_PENDING_SLOT] := by simp [Chip.chosen]

theorem Chip.keeps_activated (c : Chip) : c.keeps c.activated [.fw, .dict, .ev, .lg] := by simp [Chip.activated]

theorem Chip.keepsEntries_activated (c : Chip) : c.keepsEntries c.activated
    [E.FW_RUNNING_SLOT, E.FW_PENDING_SLOT, E.FWA_LAST_RESULT, E.FWA_LAST_DRAIN, E.FW_ACTIVATIONS] := by simp [Chip.activated]

@[simp] theorem Chip.activated_fw (c : Chip) : c.activated.fw = { c.fw with fwaH := none, lastRan := c.fw.fwaSlot } := by simp [Chip.activated]

/-- What an activation leaves in the entries that it sets, and in the one that it counts. -/
theorem Chip.getAt_activated (c : Chip) : c.activated.getAt E.FW_RUNNING_SLOT 0 = c.fw.fwaSlot ∧ c.activated.getAt E.FW_PENDING_SLOT 0 = 0
    ∧ c.activated.getAt E.FWA_LAST_RESULT 0 = 0 ∧ c.activated.getAt E.FWA_LAST_DRAIN 0 = c.fwaRan / cycPerUs
    ∧ c.counts c.activated E.FW_ACTIVATIONS 0 1 := by
  unfold Chip.activated Chip.counts
  refine ⟨?_, ?_, ?_, ?_, ?_⟩ <;> rw [Chip.getAt_event _ _ _ _ _ _ (by decide)]
  case refine_5 => rw [Chip.getAt_countAt_same _ _ _ _ (by decide)]; simp [Chip.getAt_setAt]
  all_goals
    rw [Chip.getAt_countAt_ne _ _ _ _ (by decide) (by decide)]
    simp [Chip.getAt_setAt]

/-- The chip in which an activation has been given up after the time since it began. -/
def Chip.gaveUp (c : Chip) (since : Nat) : Chip :=
  (((c.withFw { c.fw with fwaH := none }).set E.FWA_LAST_DRAIN ((c.now - since) / cycPerUs)).set E.FWA_LAST_RESULT 1).event 0x58B 0 2 noUnit [1, 1]

theorem Chip.fwaExpires_of_limit {c : Chip} {h since : Nat} (hh : c.fw.fwaH = some h) (hb : c.fwaBusy = true) (ht : c.fw.fwaT = some since)
    (hl : since + c.get E.FWA_DRAIN_LIMIT * cycPerMs ≤ c.now) : c.fwaExpires = (c.gaveUp since).finish h stFwMaxTime 0 0 := by
  have hran : c.fwaRan = c.now - since := by simp [Chip.fwaRan, ht]
  unfold Chip.fwaExpires
  rw [hh]
  dsimp only
  rw [hran, if_neg (by rw [hb]; simp; omega)]
  rfl

end Sys2Proof.Machine

open Sys2Proof Sys2Proof.Machine

/-- Settles O14: an activation with nothing to wait for runs at once, and one past its limit is given up. -/
theorem firmwareActivatesWithoutReset : Obligations.FirmwareActivatesWithoutReset := by
  intro s t h x
  refine ⟨fun k hw ha hn hf hs hd hk h1 h3 hi hb => ?_, fun since hw hh hb ht hl => ?_⟩
  · obtain ⟨hrun, hpend, hres, hdrain, hcount⟩ := ((s.chip.atTime t).chosen h k).getAt_activated
    rw [Chip.chosen_fwaRan, Nat.zero_div] at hdrain
    have hks := Chip.keepsEntries_trans (Chip.keepsEntries_chosen (s.chip.atTime t) h k) (Chip.keepsEntries_activated _)
    have h0 : ((s.chip.atTime t).chosen h k).getAt E.FW_ACTIVATIONS 0 = s.chip.getAt E.FW_ACTIVATIONS 0 :=
      Chip.keepsEntries_chosen (s.chip.atTime t) h k _ _ (by decide) (by decide)
    unfold Chip.counts at hcount
    rw [h0] at hcount
    refine Completes.of_commit hw (exec_firmwareCommitActivateNoReset s t h) ha
      (Chip.activateNow_of_idle (c := s.chip.atTime t) hn hf hs hd hk h1 h3 hi hb |>.trans (by rw [Chip.adminWaits_h hw]))
      (Chip.keeps_mono (Chip.keeps_trans (Chip.keeps_chosen _ h k) (Chip.keeps_activated _)) (by decide))
      (Chip.keepsEntries_mono hks (m := [E.FW_RUNNING_SLOT, E.FW_PENDING_SLOT, E.FWA_LAST_RESULT, E.FWA_LAST_DRAIN, E.FW_ACTIVATIONS, E.FW_COMMITS]) (by decide))
      (by simp) (hks E.FW_COMMITS 0 (by decide) (by decide))
      fun c hans hfw hv hcnt hk hks => ⟨hans, hv _ _ _ (by decide) (by decide) hrun, hv _ _ _ (by decide) (by decide) hpend,
        hv _ _ _ (by decide) (by decide) hres, hv _ _ _ (by decide) (by decide) hdrain, hv _ _ _ (by decide) (by decide) hcount, hcnt, ?_, hk, hks⟩
    rw [hfw, Chip.activated_fw]
    rfl
  · refine Completes.of_ended hw (exec_fwaDrainLimitExpiry s t) (l := [.fw, .dict, .ev, .lg]) (es := [E.FWA_LAST_RESULT, E.FWA_LAST_DRAIN])
      (Chip.fwaExpires_of_limit (c := s.chip.atTime t) hh hb ht hl) (by simp [Chip.gaveUp]) (by simp [Chip.gaveUp]) (by decide) (by decide) (by decide)
      fun c hc hans hk hks => ⟨hans, ?_, ?_, ?_, Chip.keeps_mono hk (by decide), hks⟩ <;> subst hc
    · refine Chip.answeredEnd_getAt _ _ _ _ _ _ (by decide) ?_
      rw [Chip.gaveUp, Chip.getAt_event _ _ _ _ _ _ (by decide)]; simp [Chip.getAt_setAt]
    · refine Chip.answeredEnd_getAt _ _ _ _ _ _ (by decide) ?_
      rw [Chip.gaveUp, Chip.getAt_event _ _ _ _ _ _ (by decide)]; simp [Chip.getAt_setAt]
    · simp [Chip.gaveUp]
end

section
/-! Proofs of the family of Sanitize (R162, R163), and the end of a step that changes nothing which the rules of units look at. -/
namespace Sys2Proof.Machine

/-- Changes of parts that the rules of units do not look at leave a calm chip calm; of the flash translation, they leave its sizes and namespaces. -/
theorem Chip.calm_of_keeps {b c : Chip} {l : List Area} {es : List Nat} (hk : b.keeps c l) (hks : b.keepsEntries c es)
    (hl : ∀ p ∈ [Area.un, .fuse, .boot, .pr, .md, .sb, .st], p ∉ l) (hes : ∀ e ∈ calmEntries, e ∉ es) (h1 : c.ft.kept = b.ft.kept)
    (h2 : c.ft.nss = b.ft.nss) (h3 : c.ft.sizeMib = b.ft.sizeMib) (h4 : c.ft.target = b.ft.target) (h : b.calm) : c.calm := by
  have hun : c.un = b.un := hk .un (hl _ (by simp))
  have hfuse : c.fuse = b.fuse := hk .fuse (hl _ (by simp))
  have hboot : c.boot = b.boot := hk .boot (hl _ (by simp))
  have hpr : c.pr = b.pr := hk .pr (hl _ (by simp))
  have hmd : c.md = b.md := hk .md (hl _ (by simp))
  have hsb : c.sb = b.sb := hk .sb (hl _ (by simp))
  have hst : c.st = b.st := hk .st (hl _ (by simp))
  have hps : c.partnerStates = b.partnerStates := by unfold Chip.partnerStates; rw [hboot, hpr]
  have hm : ∀ e ∈ calmEntries, e ∉ eventMeters := by decide
  exact Chip.calm_congr (Chip.reported_congr hun hfuse hps) (Chip.own_congr hun hfuse) hfuse hboot hmd (by rw [hsb]) (by rw [hst]) (by rw [hst]) h1
    (by unfold Chip.topGranule; rw [h2]) h3 h4 (fun e he => hks e 0 (hes e he) (hm e he)) h

/-- A row of `runUnits` whose effect leaves a calm chip calm in this way ends as its effect left it. -/
theorem Completes.of_units_keeps {i : Instr} {s : State} {P : Chip → Prop} {t : Nat} {f : Chip → Chip} {c1 : Chip} {l : List Area} {es : List Nat}
    (he : exec i s = runUnits s t f) (hg : f (s.chip.atTime t) = c1) (hk : (s.chip.atTime t).keeps c1 l)
    (hks : (s.chip.atTime t).keepsEntries c1 es) (hl : ∀ p ∈ [Area.un, .fuse, .boot, .pr, .md, .sb, .st], p ∉ l)
    (hes : ∀ e ∈ calmEntries, e ∉ es) (h1 : c1.ft.kept = s.chip.ft.kept) (h2 : c1.ft.nss = s.chip.ft.nss)
    (h3 : c1.ft.sizeMib = s.chip.ft.sizeMib) (h4 : c1.ft.target = s.chip.ft.target) (hc : s.chip.calm)
    (hp : P ((s.chip.atTime t).seal ((s.chip.atTime t).notices c1))) : Completes i s P := by
  have hboot : c1.boot = s.chip.boot := hk .boot (hl _ (by simp))
  have hpr : c1.pr = s.chip.pr := hk .pr (hl _ (by simp))
  subst hg
  exact Completes.of_units he (hk .un (hl _ (by simp))) (hk .fuse (hl _ (by simp))) (by unfold Chip.partnerStates; rw [hboot, hpr]) (by rw [hboot])
    (Chip.calm_of_keeps (b := s.chip.atTime t) hk hks hl hes h1 h2 h3 h4 (Chip.calm_congr (b := s.chip) (Chip.reported_congr rfl rfl rfl) (fun _ => rfl)
      rfl rfl rfl rfl rfl rfl rfl rfl rfl rfl (fun _ _ => rfl) hc)) hp

/-- An entry at the end of a step, where the effect left it. -/
theorem Chip.get_end {b c : Chip} {e i v : Nat} (he : e ∉ eventMeters) (h : c.getAt e i = v) : (b.seal (b.notices c)).getAt e i = v := by
  rw [Chip.getAt_end _ _ he, h]

/-- The log of the last Sanitize, which no note changes. -/
theorem Chip.notices_sanLog (b c : Chip) : (b.notices c).lg.sanLog = c.lg.sanLog := by
  obtain ⟨_, _, _, _, _, _, _, h⟩ := Chip.notices_frame b c
  rw [h]

theorem Chip.event_sanLog (c : Chip) (src ev sev unit : Nat) (ps : List Nat) : (c.event src ev sev unit ps).lg.sanLog = c.lg.sanLog := by
  obtain ⟨_, _, _, h⟩ := c.event_frame src ev sev unit ps
  rw [h]

/-- The chip with a Sanitize of a kind and pattern begun. -/
def Chip.sanitizing (c : Chip) (kind pattern : Nat) : Chip :=
  (({ c with ft := { c.ft with sanitizeStep := 1, sanitizeKind := kind, sanitizePattern := pattern }, lg := { c.lg with sanLog := kind } }).set
    E.SANITIZE_STATE 1).event 0x308 0 1 noUnit [1, 0]

theorem Chip.keeps_sanitizing (c : Chip) (kind pattern : Nat) : c.keeps (c.sanitizing kind pattern) [.ft, .lg, .dict, .ev] := by
  unfold Chip.sanitizing
  rw [Chip.keeps_event_iff (by simp) (by simp) (by simp), Chip.keeps_setAt_iff (by simp)]
  exact fun p hp => by cases p <;> first | rfl | simp at hp

theorem Chip.keepsEntries_sanitizing (c : Chip) (kind pattern : Nat) : c.keepsEntries (c.sanitizing kind pattern) [E.SANITIZE_STATE] := by
  unfold Chip.sanitizing
  rw [Chip.keepsEntries_event_iff, Chip.keepsEntries_setAt_iff (by simp)]
  exact Chip.keepsEntries_vals rfl _

/-- A command that is admitted and another than the one set stays so. -/
theorem Chip.ioAdmitted_setCmd {c : Chip} {x y : Cmd} {p : Cmd → Bool} (hy : y ∈ c.cmds) (hne : y.h ≠ x.h) (ha : y.admin = false) (hp : y.posted = false)
    (hph : y.phase = .admitted) (hpy : p y = true) : (c.setCmd x).ioAdmitted p = true := by
  unfold Chip.ioAdmitted
  rw [List.any_eq_true]
  exact ⟨y, List.mem_map.2 ⟨y, hy, by simp [hne]⟩, by simp [ha, hp, hph, hpy]⟩

/-- With no self-test running, no I/O waiting in admission and some admitted, a Sanitize is begun and waits. -/
theorem Chip.startSanitize_of_io {c : Chip} {x y : Cmd} (failed : Bool) (hp : c.pairBlocks = false) (hs : c.ft.sanitizeStep = 0)
    (ha : x.dw 10 % 8 ∈ [2, 3, 4]) (ht : c.get E.ST_STATE = 0) (hw : ∀ z ∈ c.cmds, z.admin = false → z.phase ≠ .fetched ∧ z.phase ≠ .waiting)
    (hy : y ∈ c.cmds) (hne : y.h ≠ x.h) (hya : y.admin = false) (hyp : y.posted = false) (hph : y.phase = .admitted) :
    c.startSanitize x failed = (c.sanitizing (x.dw 10) (x.dw 11)).setCmd { x with phase := .working } := by
  have hk := c.keeps_sanitizing (x.dw 10) (x.dw 11)
  have hcm : (c.sanitizing (x.dw 10) (x.dw 11)).cmds = c.cmds := hk .cmds (by decide)
  have hend : (c.sanitizing (x.dw 10) (x.dw 11)).endSelfTest 9 0 = c.sanitizing (x.dw 10) (x.dw 11) :=
    if_pos ((c.keepsEntries_sanitizing _ _ E.ST_STATE 0 (by decide) (by decide)).trans ht)
  have hnil : ((c.sanitizing (x.dw 10) (x.dw 11)).cmds.filter fun y => !y.admin && decide (y.phase = .fetched ∨ y.phase = .waiting)) = [] := by
    rw [hcm, List.filter_eq_nil_iff]
    intro z hz
    cases hza : z.admin <;> simp
    exact hw z hz hza
  have hio : ((c.sanitizing (x.dw 10) (x.dw 11)).setCmd { x with phase := .working }).ioAdmitted (fun _ => true) = true :=
    Chip.ioAdmitted_setCmd (by rw [hcm]; exact hy) hne hya hyp hph rfl
  unfold Chip.startSanitize
  simp only [hp, hs]
  rw [if_neg (by simp), if_neg (by simp), if_neg (by simp at ha ⊢; omega)]
  change (((c.sanitizing (x.dw 10) (x.dw 11)).endSelfTest 9 0).each
    (((c.sanitizing (x.dw 10) (x.dw 11)).endSelfTest 9 0).cmds.filter _) _ |>.setCmd { x with phase := .working }).sanitizeWork failed = _
  rw [hend, hnil]
  exact if_pos (.inr hio)

end Sys2Proof.Machine

open Sys2Proof Sys2Proof.Machine

/-- Settles O16: the command is taken, with nothing to abort and I/O to wait for. -/
theorem sanitizeStarts : Obligations.SanitizeStarts := by
  intro s t h failed x y i hw hr hp hs hst hcalm hnone hy hyh hya hyp hyph hi
  obtain ⟨action, he, hx, hmem⟩ : ∃ action, exec i s = runUnits s t (fun c => c.sanitizeRow h action failed) ∧ x.dw 10 % 8 = action ∧ action ∈ [2, 3, 4] := by
    rcases hi with ⟨rfl, hx⟩ | ⟨rfl, hx⟩ | ⟨rfl, hx⟩
    · exact ⟨4, rfl, hx, by decide⟩
    · exact ⟨2, rfl, hx, by decide⟩
    · exact ⟨3, rfl, hx, by decide⟩
  have hxh : x.h = h := Chip.adminWaits_h hw
  have hn := Chip.adminWaits_notHeld hw
  obtain ⟨hcmd, hadm, hop, hph, -, -, -, hfw, -⟩ := hw
  have hg : (s.chip.atTime t).sanitizeRow h action failed = ((s.chip.atTime t).sanitizing (x.dw 10) (x.dw 11)).setCmd { x with phase := .working } := by
    unfold Chip.sanitizeRow
    rw [show (s.chip.atTime t).cmd h = some x from hcmd]
    dsimp only
    rw [if_neg (by simp [hadm, hop, hx, show (s.chip.atTime t).isReady = true from hr, hfw]), if_pos hph]
    exact Chip.startSanitize_of_io (c := s.chip.atTime t) failed hp hs (hx ▸ hmem) hst hnone hy (hxh ▸ hyh) hya hyp hyph
  have hk := (s.chip.atTime t).keeps_sanitizing (x.dw 10) (x.dw 11)
  have hks := (s.chip.atTime t).keepsEntries_sanitizing (x.dw 10) (x.dw 11)
  have hft : ((s.chip.atTime t).sanitizing (x.dw 10) (x.dw 11)).ft = { s.chip.ft with sanitizeStep := 1, sanitizeKind := x.dw 10, sanitizePattern := x.dw 11 } := by
    simp [Chip.sanitizing]
  refine Completes.of_units_keeps (l := [.ft, .lg, .dict, .ev, .cmds]) (es := [E.SANITIZE_STATE]) he hg
    (by rw [Chip.keeps_setCmd_iff (by simp)]; exact Chip.keeps_mono hk (by decide)) (by rw [Chip.keepsEntries_setCmd_iff]; exact hks) (by decide)
    (by decide) (by rw [Chip.setCmd_ft, hft]) (by rw [Chip.setCmd_ft, hft]) (by rw [Chip.setCmd_ft, hft]) (by rw [Chip.setCmd_ft, hft]) hcalm
    ⟨?_, ?_, ?_, ?_, ?_, ?_⟩
  · rw [Chip.cmd_seal, Chip.cmd_notices _ (Chip.keeps_notHeld (c := s.chip.atTime t) (l := [.ft, .lg, .dict, .ev, .cmds]) ?_ (by decide) hn)]
    · subst hxh
      exact Chip.cmd_setCmd_same (x := { x with phase := .working }) (y := x) ((Chip.keeps_cmd hk (by decide) _).trans hcmd)
    · rw [Chip.keeps_setCmd_iff (by simp)]; exact Chip.keeps_mono hk (by decide)
  · refine Chip.get_end (by decide) ?_
    rw [Chip.getAt_setCmd, Chip.sanitizing, Chip.getAt_event _ _ _ _ _ _ (by decide)]
    simp [Chip.getAt_setAt]
  · simpa using hft
  · rw [Chip.seal_lg, Chip.notices_sanLog, Chip.setCmd_lg, Chip.sanitizing, Chip.event_sanLog]
    rfl
  · refine Chip.keeps_ended t ?_ (by decide) (by decide)
    rw [Chip.keeps_setCmd_iff (by simp)]
    exact Chip.keeps_mono hk (by decide)
  · exact Chip.keepsEntries_end t (by rw [Chip.keepsEntries_setCmd_iff]; exact hks)
end

section
/-! Steps that no notice follows: where nothing that the notices look at has changed, the step ends as its effect left it (R463). -/
namespace Sys2Proof.Machine

/-- The entries that notices look at. -/
def noticeEntries : List Nat := [E.TELEM_CTRL_GEN, E.PAIR_STATE, E.DETACHED, E.PAIR_SOLO_WRITES, E.GC_URGENT]

/-- Changes of other parts and entries than those that notices look at raise none. -/
theorem Chip.notices_still {b c : Chip} {l : List Area} (hk : b.keeps c l) (hl : ∀ p ∈ [Area.un, .fuse, .boot, .pr, .md], p ∉ l)
    (he : ∀ e ∈ noticeEntries, c.getAt e 0 = b.getAt e 0) : b.notices c = c := by
  have hun : c.un = b.un := hk .un (hl _ (by simp))
  have hfuse : c.fuse = b.fuse := hk .fuse (hl _ (by simp))
  have hboot : c.boot = b.boot := hk .boot (hl _ (by simp))
  have hpr : c.pr = b.pr := hk .pr (hl _ (by simp))
  have hmd : c.md = b.md := hk .md (hl _ (by simp))
  have hps : c.partnerStates = b.partnerStates := by unfold Chip.partnerStates; rw [hboot, hpr]
  have hana : c.anaState = b.anaState := by
    have h1 : c.get E.PAIR_STATE = b.get E.PAIR_STATE := he _ (by decide)
    have h2 : c.get E.DETACHED = b.get E.DETACHED := he _ (by decide)
    have h3 : c.get E.PAIR_SOLO_WRITES = b.get E.PAIR_SOLO_WRITES := he _ (by decide)
    unfold Chip.anaState Chip.soloRefuses Chip.ownIndex
    rw [h1, h2, h3, hboot, hpr]
  have hratio : c.freeRatio = b.freeRatio := by unfold Chip.freeRatio Chip.allSbs Chip.freeSbs Chip.goodBlocks; rw [hmd]
  have htelem : b.get E.TELEM_CTRL_GEN = c.get E.TELEM_CTRL_GEN := (he _ (by decide)).symm
  have hurgent : c.get E.GC_URGENT = b.get E.GC_URGENT := he _ (by decide)
  unfold Chip.notices
  rw [Chip.unitNotices_same (Chip.own_congr hun hfuse) hps]
  dsimp only
  rw [if_pos htelem, if_pos hana.symm]
  exact if_neg (by simp [hratio, hurgent])

/-- A record that is not of severity 5 captures no telemetry. -/
theorem Chip.telemGen_record (c : Chip) (time src ev unit : Nat) {sev : Nat} (ps : List Nat) (h : sev ≠ 5) :
    (c.record time src ev sev unit ps).getAt E.TELEM_CTRL_GEN 0 = c.getAt E.TELEM_CTRL_GEN 0 := by
  unfold Chip.record
  extract_lets n r lapped ring _ e1 e2 c1 c2 c3 g
  have h1 : c1.getAt E.TELEM_CTRL_GEN 0 = c.getAt E.TELEM_CTRL_GEN 0 := by
    unfold c1; rw [Chip.getAt_setAt, if_neg (by decide)]; rfl
  have h2 : c2.getAt E.TELEM_CTRL_GEN 0 = c.getAt E.TELEM_CTRL_GEN 0 := (Chip.getAt_countAt_ne _ _ _ _ (by decide) (by decide)).trans h1
  have h3 : c3.getAt E.TELEM_CTRL_GEN 0 = c.getAt E.TELEM_CTRL_GEN 0 := by
    unfold c3
    split
    · exact (Chip.getAt_countAt_ne _ _ _ _ (by decide) (by decide)).trans h2
    · exact h2
  rw [if_neg h, h3]

theorem Chip.telemGen_eventAt (c : Chip) (time src ev unit : Nat) {sev : Nat} (ps : List Nat) (h : sev ≠ 5) :
    (c.eventAt time src ev sev unit ps).getAt E.TELEM_CTRL_GEN 0 = c.getAt E.TELEM_CTRL_GEN 0 := by
  unfold Chip.eventAt
  split
  · exact Chip.getAt_countAt_ne _ _ _ _ (by decide) (by decide)
  · split
    · exact (Chip.getAt_countAt_ne _ _ _ _ (by decide) (by decide)).trans rfl
    · exact (Chip.telemGen_record _ time src ev unit ps h).trans rfl

/-- An event that is not of severity 5 changes no entry that notices look at. -/
theorem Chip.noticeEntry_event (c : Chip) (src ev unit : Nat) {sev : Nat} (ps : List Nat) (h : sev ≠ 5) {e : Nat} (he : e ∈ noticeEntries) :
    (c.event src ev sev unit ps).getAt e 0 = c.getAt e 0 := by
  by_cases ht : e = E.TELEM_CTRL_GEN
  · rw [ht]; exact Chip.telemGen_eventAt c c.stamp src ev unit ps h
  · exact Chip.getAt_event _ _ _ _ _ _ (by revert ht; revert he; revert e; decide)

theorem Chip.noticeEntry_countAt (c : Chip) {a : Nat} (item n : Nat) (h : a ∉ noticeEntries) {e : Nat} (he : e ∈ noticeEntries) :
    (c.countAt a item n).getAt e 0 = c.getAt e 0 :=
  Chip.getAt_countAt_ne _ _ _ _ (by revert he; revert e; decide) fun hn => h (hn.1 ▸ he)

theorem Chip.noticeEntry_setAt (c : Chip) {a : Nat} (item v : Nat) (h : a ∉ noticeEntries) {e : Nat} (he : e ∈ noticeEntries) :
    (c.setAt a item v).getAt e 0 = c.getAt e 0 := by
  rw [Chip.getAt_setAt]
  exact if_neg fun hn : e = a ∧ 0 = item => h (hn.1 ▸ he)

/-- The end of a step that raised no notice. -/
theorem Completes.of_still {i : Instr} {s : State} {P : Chip → Prop} {t : Nat} {f : Chip → Chip} {l : List Area} (he : exec i s = run s t f)
    (hk : (s.chip.atTime t).keeps (f (s.chip.atTime t)) l) (hl : ∀ p ∈ [Area.un, .fuse, .boot, .pr, .md], p ∉ l)
    (hn : ∀ e ∈ noticeEntries, (f (s.chip.atTime t)).getAt e 0 = s.chip.getAt e 0) (hp : P ((s.chip.atTime t).seal (f (s.chip.atTime t)))) :
    Completes i s P :=
  Completes.of_run he (by rw [Chip.notices_still hk hl hn]; exact hp)

/-- The frame of a step that raised no notice: its changes, and the tags of the dictionary. -/
theorem Chip.keeps_sealed {c c' : Chip} {l : List Area} (t : Nat) (h : (c.atTime t).keeps c' l) (hf : .fuse ∉ l) (hd : .dict ∈ l) :
    c.keeps ((c.atTime t).seal c') l := by
  intro p hp
  have h2 := h p hp
  cases p
  case fuse =>
    have hfu : c'.fuse = c.fuse := h .fuse hf
    show (Fuse.blown c.fuse _) = c.fuse
    rw [hfu, Fuse.blown_self]
  case un => show Un.hold c.fuse.variant c.un _ = c.un; rw [show _ = c.un from h2, Un.hold_self]
  case dict => exact absurd hd hp
  all_goals exact h2

theorem Chip.keepsEntries_sealed {c c' : Chip} {l : List Nat} (t : Nat) (h : (c.atTime t).keepsEntries c' l) :
    c.keepsEntries ((c.atTime t).seal c') l := fun e i h1 h2 => (Chip.getAt_seal _ _ _ _).trans (h e i h1 h2)

/-! ### Counters of parts of a wide entry -/

theorem Chip.getAt_countOct64_ne (c : Chip) {a e i : Nat} (k n : Nat) (hm : e ∉ meters) (hn : e ≠ a) : (c.countOct64 a k n).getAt e i = c.getAt e i := by
  unfold Chip.countOct64
  dsimp only
  rw [Chip.getAt_saturates _ _ _ _ _ hm, Chip.getAt_setAt, if_neg fun h => hn h.1]

theorem Chip.getAt_countOct_ne (c : Chip) {a e i : Nat} (item k : Nat) (hm : e ∉ meters) (hn : e ≠ a) : (c.countOct a item k).getAt e i = c.getAt e i := by
  unfold Chip.countOct
  dsimp only
  rw [Chip.getAt_saturates _ _ _ _ _ hm, Chip.getAt_setAt, if_neg fun h => hn h.1]

@[simp] theorem Chip.keepsEntries_countOct64_iff {a c : Chip} {l : List Nat} {e : Nat} (h : e ∈ l) (k n : Nat) :
    a.keepsEntries (c.countOct64 e k n) l ↔ a.keepsEntries c l :=
  Chip.keepsEntries_iff (m := [e]) (fun e' i h1 h2 => Chip.getAt_countOct64_ne c k n (notMeter h2) (by simpa using h1)) (by simpa using h)

@[simp] theorem Chip.keepsEntries_countOct_iff {a c : Chip} {l : List Nat} {e : Nat} (h : e ∈ l) (i k : Nat) :
    a.keepsEntries (c.countOct e i k) l ↔ a.keepsEntries c l :=
  Chip.keepsEntries_iff (m := [e]) (fun e' j h1 h2 => Chip.getAt_countOct_ne c i k (notMeter h2) (by simpa using h1)) (by simpa using h)

/-- Pages of the system programmed: they are counted, and nothing else. -/
theorem Chip.keeps_countSystem (c : Chip) (n : Nat) : c.keeps (c.countSystem n) [.dict] := by simp [Chip.countSystem]

@[simp] theorem Chip.keeps_countSystem_iff {a c : Chip} {l : List Area} (h : .dict ∈ l) (n : Nat) : a.keeps (c.countSystem n) l ↔ a.keeps c l :=
  Chip.keeps_iff (Chip.keeps_countSystem c n) (by simpa using h)

@[simp] theorem Chip.keepsEntries_countSystem_iff {a c : Chip} {l : List Nat} (h1 : E.NAND_PAGES_PROGRAMMED ∈ l) (h2 : E.PROGRAM_SOURCES ∈ l) (n : Nat) :
    a.keepsEntries (c.countSystem n) l ↔ a.keepsEntries c l := by simp [Chip.countSystem, h1, h2]

theorem Chip.noticeEntry_countSystem (c : Chip) (n : Nat) {e : Nat} (he : e ∈ noticeEntries) : (c.countSystem n).getAt e 0 = c.getAt e 0 :=
  (Chip.getAt_countOct64_ne _ _ _ (by revert he; revert e; decide) (by revert he; revert e; decide)).trans
    (Chip.noticeEntry_countAt c 0 n (by decide) he)

end Sys2Proof.Machine
end

section
/-! Proofs of the family of events and interrupts (R79, R386, R464, R465, R467). -/
namespace Sys2Proof.Machine

/-- A row whose condition holds. -/
theorem Chip.when_true {c : Chip} {b : Bool} {f : Chip → Chip} (h : b = true) : c.when b f = f c := by unfold Chip.when; rw [if_pos h]

theorem run_when {s : State} {t : Nat} {b : Chip → Bool} {f : Chip → Chip} (hb : b (s.chip.atTime t) = true) :
    run s t (fun c => c.when (b c) f) = run s t f := by
  rw [run_eq, run_eq, Chip.when_true hb]

theorem Completes.of_when {i : Instr} {s : State} {P : Chip → Prop} {t : Nat} {b : Chip → Bool} {f : Chip → Chip}
    (he : exec i s = run s t fun c => c.when (b c) f) (hb : b (s.chip.atTime t) = true)
    (hp : P ((s.chip.atTime t).seal ((s.chip.atTime t).notices (f (s.chip.atTime t))))) : Completes i s P :=
  Completes.of_run he (by rw [Chip.when_true hb]; exact hp)

@[simp] theorem Chip.keeps_detectDuplicates_iff (a c : Chip) (l : List Area) : a.keeps c.detectDuplicates l ↔ a.keeps c l := by
  unfold Chip.detectDuplicates; simp

@[simp] theorem Chip.detectDuplicates_vals (c : Chip) : c.detectDuplicates.dict.vals = c.dict.vals := by
  unfold Chip.detectDuplicates; split <;> rfl

/-! ### The records of a second that ends -/

/-- What records and suppressed events leave: nothing but the log's own parts changed, in the same second, with no telemetry captured. -/
def Chip.logged (c d : Chip) : Prop :=
  c.keeps d [.dict, .ev, .lg] ∧ c.keepsEntries d [] ∧ d.ev.sec = c.ev.sec ∧ d.getAt E.TELEM_CTRL_GEN 0 = c.getAt E.TELEM_CTRL_GEN 0

theorem Chip.logged_refl (c : Chip) : c.logged c := ⟨Chip.keeps_refl _ _, Chip.keepsEntries_refl _ _, rfl, rfl⟩

theorem Chip.logged_trans {a b c : Chip} (h : a.logged b) (h' : b.logged c) : a.logged c := by
  obtain ⟨h1, h2, h3, h4⟩ := h
  obtain ⟨g1, g2, g3, g4⟩ := h'
  exact ⟨Chip.keeps_mono (Chip.keeps_trans h1 g1) (by decide), Chip.keepsEntries_mono (Chip.keepsEntries_trans h2 g2) (by decide), g3.trans h3, g4.trans h4⟩

theorem Chip.logged_ev (c : Chip) {ev : Ev} (h : ev.sec = c.ev.sec) : c.logged { c with ev := ev } :=
  ⟨by simp, Chip.keepsEntries_vals rfl _, h, rfl⟩

theorem Chip.logged_count (c : Chip) {e : Nat} (n : Nat) (h : e ∈ eventMeters) (ht : e ≠ E.TELEM_CTRL_GEN) : c.logged (c.count e n) :=
  ⟨by simp, fun a i _ h2 => Chip.getAt_countAt_ne _ _ _ _ (notMeter h2) fun hn => h2 (hn.1 ▸ h), by simp,
    Chip.getAt_countAt_ne _ _ _ _ (by decide) fun hn => ht hn.1.symm⟩

theorem Chip.record_sec (c : Chip) (time src ev sev unit : Nat) (ps : List Nat) : (c.record time src ev sev unit ps).ev.sec = c.ev.sec := by
  unfold Chip.record
  extract_lets n r lapped ring _ e1 e2 c1 c2 c3 _ _
  have h2 : e2.sec = c.ev.sec := by unfold e2; split <;> rfl
  have h3 : c3.ev = e2 := by unfold c3 c2; split <;> simp only [Chip.countAt_ev] <;> rfl
  split_ifs
  · rw [Chip.countAt_ev, h3, h2]
  · rw [Chip.setAt_ev, h3, h2]
  · rw [h3, h2]

theorem Chip.keeps_record (c : Chip) (time src ev sev unit : Nat) (ps : List Nat) : c.keeps (c.record time src ev sev unit ps) [.dict, .ev, .lg] := by
  obtain ⟨v, e, t, h⟩ := OnlyEv.record c time src ev sev unit ps
  rw [h]
  exact fun p hp => by cases p <;> first | rfl | simp at hp

theorem Chip.logged_record (c : Chip) (time src ev unit : Nat) {sev : Nat} (ps : List Nat) (h : sev ≠ 5) : c.logged (c.record time src ev sev unit ps) :=
  ⟨c.keeps_record time src ev sev unit ps, fun _ _ _ h2 => Chip.getAt_record c time src ev sev unit ps h2, c.record_sec time src ev sev unit ps,
    c.telemGen_record time src ev unit ps h⟩

theorem Chip.logged_ev_count (c : Chip) {ev : Ev} (he : ev.sec = c.ev.sec) {e : Nat} (n : Nat) (h : e ∈ eventMeters) (ht : e ≠ E.TELEM_CTRL_GEN) :
    c.logged (({ c with ev := ev } : Chip).count e n) := Chip.logged_trans (c.logged_ev he) (Chip.logged_count _ n h ht)

theorem Chip.logged_ev_record (c : Chip) {e : Ev} (he : e.sec = c.ev.sec) (time src ev unit : Nat) {sev : Nat} (ps : List Nat) (h : sev ≠ 5) :
    c.logged (({ c with ev := e } : Chip).record time src ev sev unit ps) := Chip.logged_trans (c.logged_ev he) (Chip.logged_record _ time src ev unit ps h)

theorem Chip.logged_eventAt (c : Chip) (time src ev unit : Nat) {sev : Nat} (ps : List Nat) (h : sev ≠ 5) : c.logged (c.eventAt time src ev sev unit ps) := by
  unfold Chip.eventAt
  split
  · exact c.logged_count 1 (by decide) (by decide)
  · split
    · refine c.logged_ev_count ?_ 1 ?_ ?_
      exacts [rfl, by decide, by decide]
    · refine c.logged_ev_record ?_ time src ev unit ps h
      rfl

/-- The chip in its new second, before the records of the old one. -/
def Chip.newSecond (c : Chip) : Chip :=
  ({ c with ev := { c.ev with written := c.running c.ev.written, suppressed := c.running c.ev.suppressed, firsts := c.running c.ev.firsts,
                              refusals := c.running c.ev.refusals, sec := secOf c.now } }).count E.POWER_ON_TIME (secOf c.now - c.ev.sec)

theorem Chip.keeps_newSecond (c : Chip) : c.keeps c.newSecond [.dict, .ev] := by simp [Chip.newSecond]

theorem Chip.keepsEntries_newSecond (c : Chip) : c.keepsEntries c.newSecond [E.POWER_ON_TIME] := by
  unfold Chip.newSecond
  rw [Chip.keepsEntries_countAt_iff (by simp)]
  exact Chip.keepsEntries_vals rfl _

theorem Chip.noticeEntry_newSecond (c : Chip) {e : Nat} (he : e ∈ noticeEntries) : c.newSecond.getAt e 0 = c.getAt e 0 :=
  (Chip.noticeEntry_countAt _ 0 _ (by decide) he).trans rfl

theorem Chip.counts_newSecond (c : Chip) : c.counts c.newSecond E.POWER_ON_TIME 0 (secOf c.now - c.ev.sec) :=
  Chip.getAt_countAt_same _ _ _ _ (by decide)

theorem Chip.logged_secondEnds (c : Chip) : c.newSecond.logged c.secondEnds := by
  unfold Chip.secondEnds
  extract_lets refusals held _ ev c1 c2
  have h2 : c1.logged c2 := by
    refine Chip.each_frame Chip.logged Chip.logged_refl (fun _ _ _ => Chip.logged_trans) _ (fun d a => ?_) _ _
    exact d.logged_eventAt _ _ _ _ _ (by decide)
  refine Chip.logged_trans h2 (Chip.each_frame Chip.logged Chip.logged_refl (fun _ _ _ => Chip.logged_trans) _ (fun d a => ?_) _ _)
  split
  · exact d.logged_count 1 (by decide) (by decide)
  · exact d.logged_record _ _ _ _ _ (by decide)

/-! ### Excerpt pages and interrupts -/

/-- The chip with a page of the event excerpt programmed. -/
def Chip.paged (c : Chip) : Chip :=
  ({ c with ev := { c.ev with pages := (c.ev.pages ++ [c.ev.page.take 512]).drop ((c.ev.pages ++ [c.ev.page.take 512]).length - 8),
                              page := c.ev.page.drop 512, pageT := c.now } }).countSystem c.ringCopies.length

theorem Chip.excerptPage_full {c : Chip} (h : 512 ≤ c.ev.page.length) : c.excerptPage = c.paged := by
  unfold Chip.excerptPage
  dsimp only
  rw [if_neg]
  · rfl
  · rw [List.length_take]; omega

theorem Chip.keeps_paged (c : Chip) : c.keeps c.paged [.ev, .dict] := by simp [Chip.paged]

theorem Chip.keepsEntries_paged (c : Chip) : c.keepsEntries c.paged [E.NAND_PAGES_PROGRAMMED, E.PROGRAM_SOURCES] := by
  unfold Chip.paged
  rw [Chip.keepsEntries_countSystem_iff (by simp) (by simp)]
  exact Chip.keepsEntries_vals rfl _

theorem Chip.noticeEntry_paged (c : Chip) {e : Nat} (he : e ∈ noticeEntries) : c.paged.getAt e 0 = c.getAt e 0 := by
  unfold Chip.paged
  rw [Chip.noticeEntry_countSystem _ _ he]
  exact Chip.getAt_congr rfl e 0

@[simp] theorem Chip.paged_ev (c : Chip) : c.paged.ev = { c.ev with pages := (c.ev.pages ++ [c.ev.page.take 512]).drop ((c.ev.pages ++ [c.ev.page.take 512]).length - 8), page := c.ev.page.drop 512, pageT := c.now } := by
  unfold Chip.paged Chip.countSystem
  rw [Chip.countOct64_ev, Chip.countAt_ev]

/-- A message changes its function's pending bits at most, and goes out where neither the function nor the vector is masked. -/
theorem Chip.keeps_message (c : Chip) (port fn vector : Nat) : c.keeps (c.message port fn vector) [.fns] := by
  unfold Chip.message; dsimp only; split <;> simp

theorem Chip.message_vals (c : Chip) (port fn vector : Nat) : (c.message port fn vector).dict.vals = c.dict.vals := by
  unfold Chip.message; dsimp only; split_ifs <;> rfl

theorem Chip.message_coal (c : Chip) (port fn vector : Nat) : ((c.message port fn vector).fnOf port fn).coal = (c.fnOf port fn).coal := by
  unfold Chip.message; dsimp only; split
  · rfl
  · split
    · refine (congrArg Fn.coal (Chip.fnOf_setFn_self c ?_ ?_)).trans ?_
      exacts [Chip.fnOf_port _ _ _, Chip.fnOf_fn _ _ _, rfl]
    · rw [Chip.fnOf_emit]

theorem Chip.message_out {c : Chip} {port fn vector : Nat} (hx : (c.fnOf port fn).cfg.msix = true) (hm : (c.fnOf port fn).cfg.msixMask = false)
    (hv : ∀ v ∈ (c.fnOf port fn).cfg.vectors, v.vector = vector → v.masked = false) : .msix port fn vector ∈ (c.message port fn vector).out := by
  unfold Chip.message
  dsimp only
  rw [if_neg (by simp [hx]), if_neg]
  · exact Chip.mem_out_emit _ _
  · simp only [hm, Bool.false_or, List.any_eq_true, not_exists, not_and]
    intro v hvm hvv
    simp only [Bool.and_eq_true, decide_eq_true_eq] at hvv
    simp [hv v hvm hvv.1] at hvv

/-- A function without the coalescing delay of a vector. -/
def Fn.delivered (f : Fn) (vector : Nat) : Fn := { f with coal := drop' (fun (q : Coal) => decide (q.vector = vector)) f.coal }

theorem Chip.coalesced_due {c : Chip} {port fn vector : Nat} {k : Coal} (hk : ((c.fnOf port fn).coal.find? fun q => decide (q.vector = vector)) = some k)
    (hs : k.since + (c.fnOf port fn).coalTime * 100 * cycPerUs ≤ c.now) :
    c.coalesced port fn vector = (c.setFn ((c.fnOf port fn).delivered vector)).message port fn vector := by
  unfold Chip.coalesced
  dsimp only
  rw [hk]
  exact if_pos hs

end Sys2Proof.Machine

open Sys2Proof Sys2Proof.Machine

/-- Settles O59: what answers goes out as it is, and no notice follows a second, a page or an answer. -/
theorem eventsAreKept : Obligations.EventsAreKept := by
  intro s t
  refine ⟨fun a ident hu ha => ⟨?_, ?_⟩, fun speed hr he h3 hne => ?_, fun p hu hp => ?_, fun hd ho hs => ?_, fun hr => ⟨fun hl hp => ?_, fun port fn vector k hk hs => ?_⟩⟩
  · have hg : (s.chip.atTime t).when ((s.chip.atTime t).mgmtUp && (s.chip.atTime t).ownAddress a) (fun c => c.emit (.signal 10 0 a))
        = (s.chip.atTime t).emit (.signal 10 0 a) := Chip.when_true (Bool.and_eq_true_iff.2 ⟨hu, ha⟩)
    refine Completes.of_still (l := []) (exec_neighborSolicitation s t a) (by rw [hg]; simp) (by decide) (by rw [hg]; exact fun _ _ => rfl) ?_
    rw [hg]
    exact ⟨rfl, Chip.keeps_sealed t (by simp) (by decide) (by decide), Chip.keepsEntries_sealed t (by simp)⟩
  · have hg : (s.chip.atTime t).when ((s.chip.atTime t).mgmtUp && (s.chip.atTime t).ownAddress a) (fun c => c.emit (.signal 11 0 ident))
        = (s.chip.atTime t).emit (.signal 11 0 ident) := Chip.when_true (Bool.and_eq_true_iff.2 ⟨hu, ha⟩)
    refine Completes.of_still (l := []) (exec_icmpv6Echo s t a ident) (by rw [hg]; simp) (by decide) (by rw [hg]; exact fun _ _ => rfl) ?_
    rw [hg]
    exact ⟨rfl, Chip.keeps_sealed t (by simp) (by decide) (by decide), Chip.keepsEntries_sealed t (by simp)⟩
  · refine Completes.of_when (exec_mgmtLinkChange s t speed) (Bool.and_eq_true_iff.2 ⟨hr, decide_eq_true ⟨he, h3, hne⟩⟩) ?_
    refine ⟨Chip.get_end (by decide) ?_, Chip.keeps_ended t (by dsimp only; split <;> simp) (by decide) (by decide), Chip.keepsEntries_end t ?_⟩
    · have hv : (((s.chip.atTime t).set E.MGMT_LINK speed).event 0x585 0 1 noUnit [speed]).getAt E.MGMT_LINK 0 = speed := by
        rw [Chip.getAt_event _ _ _ _ _ _ (by decide), Chip.getAt_setAt, if_pos ⟨rfl, rfl⟩]
      dsimp only
      split
      · exact (Chip.getAt_congr (by simp) _ _).trans hv
      · exact hv
    · dsimp only
      split
      · rw [Chip.keepsEntries_dict (Chip.detectDuplicates_vals _)]; simp
      · simp
  · refine Completes.of_when (exec_mgmtRxDrop s t p) (Bool.and_eq_true_iff.2 ⟨hu, decide_eq_true hp⟩) ?_
    refine ⟨Chip.counts_end t (by decide) ?_, Chip.keeps_ended t (by simp) (by decide) (by decide), Chip.keepsEntries_end t (by simp)⟩
    exact Chip.getAt_countAt_same _ _ _ _ (by decide)
  · obtain ⟨hk, hks, hsec, ht⟩ := (s.chip.atTime t).logged_secondEnds
    have hk' : (s.chip.atTime t).keeps (s.chip.atTime t).secondEnds [.dict, .ev, .lg] := by
      exact Chip.keeps_mono (Chip.keeps_trans (Chip.keeps_newSecond _) hk) (by decide)
    have hcond : (decide ((s.chip.atTime t).boot.run ≠ .dark) && !(s.chip.atTime t).boot.run.railsOff
        && decide ((s.chip.atTime t).ev.sec < secOf (s.chip.atTime t).now)) = true := by
      rw [Bool.and_eq_true_iff, Bool.and_eq_true_iff]
      exact ⟨⟨decide_eq_true hd, by rw [show (s.chip.atTime t).boot.run.railsOff = false from ho]; rfl⟩, decide_eq_true hs⟩
    refine Completes.of_when (exec_eventSecondEnd s t) hcond ?_
    rw [Chip.notices_still hk' (by decide) fun e he => ?_]
    · refine ⟨hsec.trans ?_, ?_, Chip.keeps_mono (Chip.keeps_sealed t hk' (by decide) (by decide)) (by decide),
        Chip.keepsEntries_sealed t (Chip.keepsEntries_mono (Chip.keepsEntries_trans (Chip.keepsEntries_newSecond _) hks) (by decide))⟩
      · unfold Chip.newSecond; rw [Chip.countAt_ev]
      · exact (Chip.getAt_seal _ _ _ _).trans ((hks _ _ (by decide) (by decide)).trans (s.chip.atTime t).counts_newSecond)
    · by_cases htg : e = E.TELEM_CTRL_GEN
      · subst htg; exact ht.trans (Chip.noticeEntry_newSecond _ he)
      · exact (hks e 0 (by simp) (by revert htg; revert he; revert e; decide)).trans (Chip.noticeEntry_newSecond _ he)
  · refine Completes.of_when (exec_excerptPageProgram s t) hr ?_
    rw [Chip.excerptPage_full (c := s.chip.atTime t) hl, Chip.notices_still (Chip.keeps_paged _) (by decide) fun e he => Chip.noticeEntry_paged _ he]
    refine ⟨?_, ?_, ?_, Chip.keeps_mono (Chip.keeps_sealed t (Chip.keeps_paged _) (by decide) (by decide)) (by decide),
      Chip.keepsEntries_sealed t (Chip.keepsEntries_paged _)⟩
    · rw [Chip.seal_ev, Chip.paged_ev]; simp
    · rw [Chip.seal_ev, Chip.paged_ev]; simp
    · rw [Chip.seal_ev, Chip.paged_ev]; simp
  · refine Completes.of_when (exec_interruptCoalescingTime s t port fn vector) hr ?_
    have hf : ((s.chip.atTime t).setFn (((s.chip.atTime t).fnOf port fn).delivered vector)).fnOf port fn = (s.chip.fnOf port fn).delivered vector :=
      Chip.fnOf_setFn_self _ (Chip.fnOf_port _ _ _) (Chip.fnOf_fn _ _ _)
    rw [Chip.coalesced_due (c := s.chip.atTime t) hk hs]
    refine ⟨fun hx hm hv => Chip.mem_out_end (Chip.message_out ?_ ?_ ?_), ?_, Chip.keeps_ended t ?_ (by decide) (by decide), Chip.keepsEntries_end t ?_⟩
    · rw [hf]; exact hx
    · rw [hf]; exact hm
    · rw [hf]; exact hv
    · rw [Chip.fnOf_seal, Chip.notices_fn_coal, Chip.message_coal, hf]
      simp [Fn.delivered, drop']
    · rw [Chip.keeps_iff (Chip.keeps_message _ _ _ _) (by decide)]; simp
    · rw [Chip.keepsEntries_dict (Chip.message_vals _ _ _ _)]; simp
end

section
/-! Frames of the operations that rows share: frames of the Rally link, what a command gives back, and the states of units. -/
namespace Sys2Proof.Machine

@[simp] theorem Chip.keeps_with_st_pr {a c : Chip} {l : List Area} (h0 : Area.st ∈ l) (h1 : Area.pr ∈ l) (v : Store9) (w : Pr) :
    a.keeps { c with st := v, pr := w } l ↔ a.keeps c l :=
  Chip.keeps_iff (m := [.st, .pr]) (fun p hp => by cases p <;> first | rfl | simp at hp) (by simp [h0, h1])

/-- Where the dictionary is kept, so are its entries. -/
theorem Chip.keepsEntries_of_keeps {a b : Chip} {l : List Area} (h : a.keeps b l) (hd : .dict ∉ l) (m : List Nat) : a.keepsEntries b m :=
  Chip.keepsEntries_vals (congrArg Dict.vals (h .dict hd)) m

/-! ### The Rally link -/

/-- The entries that sending frames counts. -/
def sendEntries : List Nat := [E.RALLY_FRAMES_TX, E.MIRRORED_BYTES, E.RESYNC_BYTES, E.RALLY_SEQ_EPOCH]

theorem Chip.keeps_transmit (c : Chip) (f : Sent) : c.keeps (c.transmit f) [.pr, .dict] := by
  unfold Chip.transmit
  extract_lets p ack g w t next c1 c2 c3
  have h1 : c.keeps c1 [.pr, .dict] := (Chip.keeps_emit_iff _).2 ((Chip.keeps_with_pr (by simp) _).2 (Chip.keeps_refl _ _))
  have h3 : c.keeps c3 [.pr, .dict] := by unfold c3 c2; split_ifs <;> simp [h1]
  split
  · exact (Chip.keeps_countAt_iff (by simp) _ _ _).2 h3
  · exact h3

theorem Chip.keeps_sendFrame (c : Chip) (kind xfer : Nat) (last : Bool) (fields : List Nat) (blocks : List Blk) :
    c.keeps (c.sendFrame kind xfer last fields blocks) [.pr, .dict] := by
  unfold Chip.sendFrame
  extract_lets f q
  split
  · exact Chip.keeps_refl _ _
  · split
    · exact Chip.keeps_transmit _ _
    · simp

theorem Chip.keepsEntries_transmit (c : Chip) (f : Sent) : c.keepsEntries (c.transmit f) sendEntries := by
  unfold Chip.transmit
  extract_lets p ack g w t next c1 c2 c3
  have h1 : c.keepsEntries c1 sendEntries := Chip.keepsEntries_vals rfl _
  have h3 : c.keepsEntries c3 sendEntries := by unfold c3 c2 sendEntries at *; split_ifs <;> simp [h1]
  split
  · exact (Chip.keepsEntries_countAt_iff (by simp [sendEntries]) _ _).2 h3
  · exact h3

theorem Chip.keepsEntries_sendFrame (c : Chip) (kind xfer : Nat) (last : Bool) (fields : List Nat) (blocks : List Blk) :
    c.keepsEntries (c.sendFrame kind xfer last fields blocks) sendEntries := by
  unfold Chip.sendFrame
  extract_lets f q
  split
  · exact Chip.keepsEntries_refl _ _
  · split
    · exact Chip.keepsEntries_transmit _ _
    · exact Chip.keepsEntries_vals rfl _

section
variable {a c : Chip} {l : List Area} {m : List Nat}
@[simp] theorem Chip.keeps_sendFrame_iff (h0 : Area.pr ∈ l) (h1 : Area.dict ∈ l) (kind xfer : Nat) (last : Bool) (fields : List Nat)
    (blocks : List Blk) : a.keeps (c.sendFrame kind xfer last fields blocks) l ↔ a.keeps c l :=
  Chip.keeps_iff (Chip.keeps_sendFrame c kind xfer last fields blocks) (by simp [h0, h1])

@[simp] theorem Chip.keepsEntries_sendFrame_iff (h0 : ∀ e ∈ sendEntries, e ∈ m) (kind xfer : Nat) (last : Bool) (fields : List Nat)
    (blocks : List Blk) : a.keepsEntries (c.sendFrame kind xfer last fields blocks) m ↔ a.keepsEntries c m :=
  Chip.keepsEntries_iff (Chip.keepsEntries_sendFrame c kind xfer last fields blocks) h0
end

/-! ### What a command gives back -/

theorem Chip.keeps_guestGone (c : Chip) : c.keeps c.guestGone [.pr, .st] := by
  unfold Chip.guestGone
  split <;> exact fun p hp => by cases p <;> first | rfl | simp at hp

theorem Chip.keeps_freeSlot (c : Chip) (id : Nat) : c.keeps (c.freeSlot id) [.ft, .pr, .st] := by
  unfold Chip.freeSlot
  split
  · exact Chip.keeps_refl _ _
  · extract_lets _ c1 c2 _
    have h1 : c.keeps c1 [.ft, .pr, .st] := by simp [c1]
    have h2 : c.keeps c2 [.ft, .pr, .st] := by
      unfold c2
      split
      · exact (Chip.keeps_iff (Chip.keeps_guestGone _) (by simp)).2 h1
      · exact h1
    split
    · exact (Chip.keeps_with_st (by simp) _).2 h2
    · exact h2

theorem Chip.keeps_giveBack (c : Chip) (h : Nat) : c.keeps (c.giveBack h) [.ft, .pr, .st, .cmds, .book, .lk, .um] := by
  unfold Chip.giveBack
  extract_lets ids c1 _ _ c2 c3
  have h1 : c.keeps c1 [.ft, .pr, .st, .cmds, .book, .lk, .um] := Chip.keeps_mono (Chip.keeps_each Chip.keeps_freeSlot _ _) (by decide)
  have h2 : c.keeps c2 [.ft, .pr, .st, .cmds, .book, .lk, .um] := by
    unfold c2
    split
    · exact h1
    · exact (Chip.keeps_setCmd_iff (by simp) _).2 ((Chip.keeps_with_st_pr (by simp) (by simp) _ _).2 h1)
  have h3 : c.keeps c3 [.ft, .pr, .st, .cmds, .book, .lk, .um] := by unfold c3; split <;> simp [h2]
  simp [h3]

theorem Chip.keeps_abortXfer (c : Chip) (h : Nat) : c.keeps (c.abortXfer h) [.pr, .dict, .cmds] := by
  unfold Chip.abortXfer
  split
  · exact Chip.keeps_refl _ _
  · extract_lets l q c1 _
    have h1 : c.keeps c1 [.pr, .dict, .cmds] := by
      unfold c1
      split
      · split <;> simp
      · simp
    rw [Chip.keeps_sendFrame_iff (by simp) (by simp)]
    exact (Chip.keeps_with_pr (by simp) _).2 h1

theorem Chip.keeps_undo (c : Chip) (h : Nat) : c.keeps (c.undo h) [.pr, .dict, .cmds, .ft, .st, .book, .lk, .um] :=
  Chip.keeps_mono (Chip.keeps_trans (c.keeps_abortXfer h) ((c.abortXfer h).keeps_giveBack h)) (by decide)

theorem Chip.keepsEntries_abortXfer (c : Chip) (h : Nat) : c.keepsEntries (c.abortXfer h) sendEntries := by
  unfold Chip.abortXfer
  split
  · exact Chip.keepsEntries_refl _ _
  · extract_lets l q c1 _
    have h1 : c.keepsEntries c1 sendEntries := by
      unfold c1
      split
      · split <;> simp
      · simp
    rw [Chip.keepsEntries_sendFrame_iff (by simp)]
    exact Chip.keepsEntries_trans h1 (Chip.keepsEntries_vals rfl []) |> fun h => Chip.keepsEntries_mono h (by simp)

theorem Chip.keepsEntries_undo (c : Chip) (h : Nat) : c.keepsEntries (c.undo h) sendEntries :=
  Chip.keepsEntries_mono (Chip.keepsEntries_trans (c.keepsEntries_abortXfer h)
    (Chip.keepsEntries_of_keeps ((c.abortXfer h).keeps_giveBack h) (by decide) [])) (by simp)

/-! ### The state of the pair and of units -/

theorem Chip.keeps_setPairState (c : Chip) (st cause : Nat) : c.keeps (c.setPairState st cause) [.dict, .ev, .lg, .pr] := by
  unfold Chip.setPairState
  extract_lets old c1
  have h1 : c.keeps c1 [.dict, .ev, .lg, .pr] := by simp [c1]
  split
  · exact Chip.keeps_refl _ _
  · split
    · exact (Chip.keeps_sendFrame_iff (by simp) (by simp) _ _ _ _ _).2 h1
    · exact h1

theorem Chip.keepsEntries_setPairState (c : Chip) (st cause : Nat) :
    c.keepsEntries (c.setPairState st cause) (E.PAIR_STATE :: E.SOLO_SINCE :: sendEntries) := by
  unfold Chip.setPairState
  extract_lets old c1
  have h1 : c.keepsEntries c1 (E.PAIR_STATE :: E.SOLO_SINCE :: sendEntries) := by simp [c1]
  split
  · exact Chip.keepsEntries_refl _ _
  · split
    · exact (Chip.keepsEntries_sendFrame_iff (by decide) _ _ _ _ _).2 h1
    · exact h1

/-- The state asked for is the state. -/
theorem Chip.pairState_setPairState (c : Chip) (st cause : Nat) : (c.setPairState st cause).getAt E.PAIR_STATE 0 = st := by
  unfold Chip.setPairState
  extract_lets old c1
  have h1 : c1.getAt E.PAIR_STATE 0 = st := by
    unfold c1
    rw [Chip.getAt_event _ _ _ _ _ _ (by decide), Chip.getAt_setAt, if_neg (by decide), Chip.getAt_setAt, if_pos ⟨rfl, rfl⟩]
  split
  · assumption
  · split
    · exact (Chip.keepsEntries_sendFrame c1 _ _ _ _ _ _ 0 (by decide) (by decide)).trans h1
    · exact h1

section
variable {a c : Chip} {l : List Area} {m : List Nat}
@[simp] theorem Chip.keeps_setPairState_iff (h0 : Area.dict ∈ l) (h1 : Area.ev ∈ l) (h2 : Area.lg ∈ l) (h3 : Area.pr ∈ l) (st cause : Nat) :
    a.keeps (c.setPairState st cause) l ↔ a.keeps c l := Chip.keeps_iff (Chip.keeps_setPairState c st cause) (by simp [h0, h1, h2, h3])

theorem Chip.keeps_setOwn (c : Chip) (u own cause : Nat) : c.keeps (c.setOwn u own cause) [.un] := by simp [Chip.setOwn]

theorem Chip.keeps_freeProbes (c : Chip) : c.keeps c.freeProbes [.un] := by
  refine Chip.keeps_each (fun d r => ?_) _ _
  dsimp only
  split_ifs <;> simp

theorem Chip.keeps_retire (c : Chip) (u cause : Nat) : c.keeps (c.retire u cause) [.un] := by
  unfold Chip.retire
  exact Chip.keeps_mono (Chip.keeps_trans (Chip.keeps_trans (Chip.keeps_setUnit c _) (Chip.keeps_setOwn _ u 4 cause)) (Chip.keeps_freeProbes _)) (by decide)

theorem Chip.keeps_permanentFault (c : Chip) (u cause : Nat) : c.keeps (c.permanentFault u cause) [.un] := by
  unfold Chip.permanentFault
  split
  · exact Chip.keeps_retire _ _ _
  · exact Chip.keeps_refl _ _

theorem Chip.keeps_setDegraded (c : Chip) (u : Nat) (b : Bool) : c.keeps (c.setDegraded u b) [.un] := by
  unfold Chip.setDegraded
  extract_lets r want
  split
  · exact Chip.keeps_setOwn _ _ _ _
  · split <;> simp

/-- Records of units are no entries of the dictionary. -/
theorem Chip.setOwn_vals (c : Chip) (u own cause : Nat) : (c.setOwn u own cause).dict.vals = c.dict.vals := rfl

theorem Chip.freeProbes_vals (c : Chip) : c.freeProbes.dict.vals = c.dict.vals :=
  congrArg Dict.vals (c.keeps_freeProbes .dict (by simp))

theorem Chip.retire_vals (c : Chip) (u cause : Nat) : (c.retire u cause).dict.vals = c.dict.vals :=
  congrArg Dict.vals (c.keeps_retire u cause .dict (by simp))
end

end Sys2Proof.Machine
end

section
/-! Proofs of the family of power-up and the start (R382, R434, R435). -/
namespace Sys2Proof.Machine

/-! ### The rails -/

theorem Chip.keeps_wakeStore (c : Chip) : c.keeps c.wakeStore [.st, .dict, .ev, .lg] := by
  unfold Chip.wakeStore; dsimp only; split <;> simp

theorem Chip.keeps_vaonUp (c : Chip) : c.keeps c.vaonUp [.boot, .pm] := fun p hp => by cases p <;> first | rfl | simp at hp

theorem Chip.keeps_pgoodLate (c : Chip) : c.keeps c.pgoodLate [.boot, .pm] := fun p hp => by cases p <;> first | rfl | simp at hp

theorem Chip.keepsEntries_wakeStore (c : Chip) : c.keepsEntries c.wakeStore [E.GAUGE_STATE] := by
  unfold Chip.wakeStore
  dsimp only
  split
  · exact Chip.keepsEntries_refl _ _
  · simp only [Chip.keepsEntries_event_iff, Chip.set]
    rw [Chip.keepsEntries_setAt_iff (by simp)]
    exact Chip.keepsEntries_vals rfl _

/-! ### What the first step of a start takes away -/

theorem Chip.keeps_endSelfTest (c : Chip) (result segment : Nat) : c.keeps (c.endSelfTest result segment) [.dict, .rd, .wins, .lg] := by
  unfold Chip.endSelfTest; dsimp only; split <;> simp

theorem Chip.keeps_halfWritten (c : Chip) : c.keeps c.halfWritten [.dict] := by
  unfold Chip.halfWritten; dsimp only; split_ifs <;> simp

theorem Chip.keeps_startVals (c : Chip) : c.keeps c.startVals [.dict] := by
  unfold Chip.startVals
  extract_lets d keep _ v
  exact (Chip.keeps_with_dict (by simp) _).2 c.keeps_halfWritten

theorem Chip.keeps_startEvents (c : Chip) : c.keeps c.startEvents [.dict, .ev] := by
  unfold Chip.startEvents; simp

theorem Chip.startEvents_ring (c : Chip) : c.startEvents.ev.ring = [] := rfl

/-- The chip with which a start cleans: its values and events are those that stay. -/
def Chip.kept (c : Chip) : Chip := ((c.endSelfTest 2 0).startVals).startEvents

theorem Chip.keeps_kept (c : Chip) : c.keeps c.kept [.dict, .rd, .wins, .lg, .ev] :=
  Chip.keeps_mono (Chip.keeps_trans (Chip.keeps_trans (c.keeps_endSelfTest 2 0) (Chip.keeps_startVals _)) (Chip.keeps_startEvents _)) (by decide)

/-- What was in flight is away: no command, lock, slot, map or task is left. -/
structure Chip.Clean (c : Chip) : Prop where
  cmds : c.cmds = []
  locks : c.lk.main = []
  slots : c.ft.slots = []
  map : c.ft.map = []
  tasks : c.rd.tasks = []
  joined : c.pr.joined = false

theorem Chip.clean_startClean (c : Chip) : c.startClean.startNss.Clean := ⟨rfl, rfl, rfl, rfl, rfl, rfl⟩

theorem Chip.startClean_boot (c : Chip) : c.startClean.startNss.boot = { c.boot with cfs := false, maint := false, found := none } := rfl

theorem Chip.keeps_coreRetired (c : Chip) (k : Nat) : c.keeps (c.coreRetired k) [.dict, .ev, .lg, .un] := by
  unfold Chip.coreRetired
  extract_lets u _ c1
  have h1 : c.keeps c1 [.dict, .ev, .lg, .un] := by simp [c1]
  split_ifs
  · exact Chip.keeps_refl _ _
  · exact Chip.keeps_mono (Chip.keeps_trans h1 (Chip.keeps_permanentFault _ _ _)) (by decide)
  · exact Chip.keeps_mono (Chip.keeps_trans h1 (Chip.keeps_setDegraded _ _ _)) (by decide)

/-- The chip behind the strap, with the cores retired that failed. -/
def Chip.strapped (c : Chip) (inp : StartInput) : Chip :=
  { c.kept.startClean.startNss with pr := { c.kept.startClean.startNss.pr with strap := if freshCause c.boot.cause then inp.pairId else c.pr.strap } }

theorem Chip.step1_eq (c : Chip) (inp : StartInput) :
    c.step1 inp = (c.strapped inp).each inp.badCores Chip.coreRetired
    ∨ c.step1 inp = (((c.strapped inp).each inp.badCores Chip.coreRetired).set E.THROTTLE_STEP 8).set E.THROTTLE_FACTOR
        (((c.strapped inp).each inp.badCores Chip.coreRetired).stepFactor 8) := by
  unfold Chip.step1
  extract_lets c0 strap c1
  split
  · exact .inr rfl
  · exact .inl rfl

theorem Chip.keeps_step1 (c : Chip) (inp : StartInput) : (c.strapped inp).keeps (c.step1 inp) [.dict, .ev, .lg, .un] := by
  have h : (c.strapped inp).keeps ((c.strapped inp).each inp.badCores Chip.coreRetired) [.dict, .ev, .lg, .un] := Chip.keeps_each Chip.keeps_coreRetired _ _
  rcases c.step1_eq inp with he | he <;> rw [he]
  · exact h
  · simp [Chip.set, h]

theorem Chip.keeps_step1_noCores (c : Chip) {inp : StartInput} (hi : inp.badCores = []) : (c.strapped inp).keeps (c.step1 inp) [.dict] := by
  rcases c.step1_eq inp with he | he <;> rw [he, hi]
  · exact Chip.keeps_refl _ _
  · simp [Chip.set, Chip.each]

theorem Chip.step1_clean (c : Chip) (inp : StartInput) : (c.step1 inp).Clean := by
  have h := c.keeps_step1 inp
  have hc := c.kept.clean_startClean
  exact ⟨(h .cmds (by decide)).trans hc.cmds, (congrArg _ (h .lk (by decide))).trans hc.locks, (congrArg _ (h .ft (by decide))).trans hc.slots,
    (congrArg _ (h .ft (by decide))).trans hc.map, (congrArg _ (h .rd (by decide))).trans hc.tasks, (congrArg _ (h .pr (by decide))).trans hc.joined⟩

theorem Chip.step1_boot (c : Chip) (inp : StartInput) : (c.step1 inp).boot = { c.boot with cfs := false, maint := false, found := none } := by
  have h := (c.keeps_kept .boot (by decide) : c.kept.boot = c.boot)
  exact (c.keeps_step1 inp .boot (by decide)).trans (by show { c.kept.boot with cfs := false, maint := false, found := none } = _; rw [h])

theorem Chip.step1_vrGood (c : Chip) (inp : StartInput) : (c.step1 inp).pm.vrGood = c.pm.vrGood := by
  have h := (c.keeps_kept .pm (by decide) : c.kept.pm = c.pm)
  exact (congrArg _ (c.keeps_step1 inp .pm (by decide))).trans (by show c.kept.pm.vrGood = _; rw [h])

theorem Chip.step1_fuse (c : Chip) (inp : StartInput) : (c.step1 inp).fuse = c.fuse :=
  (c.keeps_step1 inp .fuse (by decide)).trans (c.keeps_kept .fuse (by decide))

theorem Chip.step1_un (c : Chip) {inp : StartInput} (hi : inp.badCores = []) : (c.step1 inp).un = c.un :=
  (c.keeps_step1_noCores hi .un (by decide)).trans (c.keeps_kept .un (by decide))

theorem Chip.step1_ring (c : Chip) {inp : StartInput} (hi : inp.badCores = []) : (c.step1 inp).ev.ring = [] :=
  (congrArg _ (c.keeps_step1_noCores hi .ev (by decide))).trans (Chip.startEvents_ring _)

/-! ### A start of one step -/

/-- The chip as a start begins. -/
def Chip.began (c : Chip) (inp : StartInput) (last : Nat) : Chip :=
  { c with boot := { c.boot with run := .starting, step := 0, fetchHeld := true }, pm := { c.pm with vrGood := true },
           fw := { c.fw with startT := c.now - nth inp.times (last - 1) * cycPerUs, startTimes := [] } }

def Chip.timed (c : Chip) (l : List Nat) : Chip := { c with fw := { c.fw with startTimes := l } }

def Chip.stepped (c : Chip) (n : Nat) : Chip := { c with boot := { c.boot with step := max n c.boot.step } }

theorem Chip.startStep_one {c : Chip} {inp : StartInput} (hr : c.boot.run = .starting) (hs : c.boot.step = 0) :
    ∃ l, c.startStep inp 1 = ((c.timed l).step1 inp).stepped 1 := by
  unfold Chip.startStep
  rw [if_neg (by simp [hr, hs])]
  extract_lets time times _ c0 c1
  refine ⟨times, ?_⟩
  rw [if_pos]
  · rfl
  · exact (congrArg Boot.run (c0.step1_boot inp)).trans hr

theorem Chip.start_one {c : Chip} {inp : StartInput} (hr : c.boot.run ≠ .starting) (hu : inp.upto = 1) :
    ∃ l, c.start inp = (((c.began inp 1).timed l).step1 inp).stepped 1 := by
  obtain ⟨l, hl⟩ := Chip.startStep_one (c := c.began inp 1) (inp := inp) rfl rfl
  refine ⟨l, Eq.trans ?_ hl⟩
  unfold Chip.start
  extract_lets last _ _ _ began
  have hn : last = 1 := by simp [last, hu]
  have hb : began = c.began inp last := if_neg hr
  rw [hb, hn]
  rfl

theorem Chip.keeps_unitNotices (b c : Chip) : c.keeps (b.unitNotices c) notePart := by
  obtain ⟨v, e, a, h⟩ := b.unitNotices_frame c
  rw [h]
  exact fun p hp => by cases p <;> first | rfl | simp [notePart] at hp

theorem Chip.keep_fuse {c d : Chip} (h : d.fuse = c.fuse) : (c.keep d).fuse = c.fuse := by
  show c.fuse.blown d.fuse = _; rw [h, Fuse.blown_self]

/-- The end of a start: what it took is noted, and every generation tag is 1. -/
def Chip.startEnd (c : Chip) (inp : StartInput) : Chip := (c.keep (c.unitNotices (c.start inp))).withTags []

theorem Completes.of_start {s : State} {t : Nat} {inp : StartInput} {P : Chip → Prop} (h : s.chip.mayStart = true ∨ s.chip.boot.run = .starting)
    (hp : P ((s.chip.atTime t).startEnd inp)) : Completes (.start t inp) s P := by
  refine ⟨{ s with chip := (s.chip.atTime t).startEnd inp }, ?_, rfl, hp⟩
  rw [exec_start]
  unfold execStart
  exact if_pos (by rw [Bool.or_eq_true, decide_eq_true_iff]; exact h)

theorem Chip.keeps_startEnd (c : Chip) (inp : StartInput) : (c.start inp).keeps (c.startEnd inp) (.fuse :: .un :: notePart) := by
  have h := c.keeps_unitNotices (c.start inp)
  intro p hp
  have h2 := h p fun hn => hp (by simp [hn])
  cases p <;> first | exact h2 | simp [notePart] at hp

/-! ### The eighth step -/

/-- Slots are all that a command gives back of the flash translation's state. -/
theorem Chip.freeSlot_ft (c : Chip) (id : Nat) : ∃ l, (c.freeSlot id).ft = { c.ft with slots := l } := by
  unfold Chip.freeSlot
  split
  · exact ⟨_, rfl⟩
  · extract_lets _ c1 c2 _
    refine ⟨_, Eq.trans (b := c1.ft) ?_ rfl⟩
    have h2 : c2.ft = c1.ft := by
      unfold c2
      split
      · exact c1.keeps_guestGone .ft (by decide)
      · rfl
    split <;> exact h2

/-- The state of service that a row may leave: how far a start is, and whether a Sanitize is in work. -/
def Chip.sameStage (c d : Chip) : Prop :=
  d.boot.run = c.boot.run ∧ d.boot.step = c.boot.step ∧ d.boot.fetchHeld = c.boot.fetchHeld ∧ d.fw.readyT = c.fw.readyT
    ∧ d.ft.sanitizeStep = c.ft.sanitizeStep

theorem Chip.sameStage_refl (c : Chip) : c.sameStage c := ⟨rfl, rfl, rfl, rfl, rfl⟩

theorem Chip.sameStage_trans {a b c : Chip} (h : a.sameStage b) (h' : b.sameStage c) : a.sameStage c := by
  obtain ⟨h1, h2, h3, h4, h5⟩ := h
  obtain ⟨g1, g2, g3, g4, g5⟩ := h'
  exact ⟨g1.trans h1, g2.trans h2, g3.trans h3, g4.trans h4, g5.trans h5⟩

theorem Chip.sameStage_of_keeps {c d : Chip} {l : List Area} (h : c.keeps d l) (hl : ∀ p ∈ [Area.boot, .fw, .ft], p ∉ l) : c.sameStage d := by
  have hb : d.boot = c.boot := h .boot (hl _ (by simp))
  have hf : d.fw = c.fw := h .fw (hl _ (by simp))
  have ht : d.ft = c.ft := h .ft (hl _ (by simp))
  unfold Chip.sameStage
  rw [hb, hf, ht]
  exact ⟨rfl, rfl, rfl, rfl, rfl⟩

theorem Chip.sameStage_each {α : Type} {f : Chip → α → Chip} (hf : ∀ (c : Chip) x, c.sameStage (f c x)) (xs : List α) (c : Chip) : c.sameStage (c.each xs f) :=
  Chip.each_frame Chip.sameStage Chip.sameStage_refl (fun _ _ _ => Chip.sameStage_trans) _ hf _ _

theorem Chip.sameStage_freeSlot (c : Chip) (id : Nat) : c.sameStage (c.freeSlot id) := by
  obtain ⟨l, h⟩ := c.freeSlot_ft id
  have hk := c.keeps_freeSlot id
  exact ⟨congrArg Boot.run (hk .boot (by decide)), congrArg Boot.step (hk .boot (by decide)), congrArg Boot.fetchHeld (hk .boot (by decide)),
    congrArg Fw.readyT (hk .fw (by decide)), by rw [h]⟩

theorem Chip.sameStage_giveBack (c : Chip) (h : Nat) : c.sameStage (c.giveBack h) := by
  unfold Chip.giveBack
  extract_lets ids c1 _ _ c2 c3
  have h2 : c1.keeps c2 [.pr, .st, .cmds, .book, .lk, .um] := by
    unfold c2
    split
    · exact Chip.keeps_refl _ _
    · exact (Chip.keeps_setCmd_iff (by simp) _).2 ((Chip.keeps_with_st_pr (by simp) (by simp) _ _).2 (Chip.keeps_refl _ _))
  have h3 : c1.keeps c3 [.pr, .st, .cmds, .book, .lk, .um] := by unfold c3; split <;> simp [h2]
  have h4 : c1.keeps ((c3.unlock h).releaseWork h) [.pr, .st, .cmds, .book, .lk, .um] := by simp [h3]
  exact Chip.sameStage_trans (Chip.sameStage_each Chip.sameStage_freeSlot ids c) (Chip.sameStage_of_keeps h4 (by decide))

theorem Chip.sameStage_fail (c : Chip) (h st : Nat) : c.sameStage (c.fail h st) := Chip.sameStage_of_keeps (c.keeps_finish h st 0 0) (by decide)

theorem Chip.sameStage_maintain (c : Chip) (faults : Nat) : c.sameStage (c.maintain faults) := by
  unfold Chip.maintain
  extract_lets old merged c1 _ c2 c3
  have h1 : c.sameStage c1 := Chip.sameStage_of_keeps (l := [.dict]) (by simp [c1, Chip.set]) (by decide)
  have h3 : c1.sameStage c3 := by
    refine Chip.sameStage_trans (b := c2) ?_ (Chip.sameStage_of_keeps (l := [.dict, .ev, .lg]) (by simp [c3]) (by decide))
    refine Chip.sameStage_trans (b := { c1 with boot := { c1.boot with maint := true, maintT := c1.now } }) ⟨rfl, rfl, rfl, rfl, rfl⟩ ?_
    exact Chip.sameStage_of_keeps (l := [.dict]) (by simp only [c2, Chip.set, Chip.count]; simp; exact Chip.keeps_refl _ _) (by decide)
  split
  · exact h1
  · refine Chip.sameStage_trans h1 (Chip.sameStage_trans h3 (Chip.sameStage_each (fun d x => ?_) _ _))
    exact Chip.sameStage_trans (d.sameStage_giveBack x.h) (Chip.sameStage_fail _ _ _)

theorem Chip.sameStage_endNotReady (c : Chip) (l : List Cmd) : c.sameStage (c.endNotReady l) := by
  refine Chip.sameStage_each (fun d x => ?_) l c
  have h1 : d.sameStage (d.undo x.h) := Chip.sameStage_trans (Chip.sameStage_of_keeps (d.keeps_abortXfer x.h) (by decide)) (Chip.sameStage_giveBack _ _)
  exact Chip.sameStage_trans h1 (Chip.sameStage_trans (Chip.sameStage_of_keeps (Chip.keeps_dropTasks _ x.h) (by decide)) (Chip.sameStage_fail _ _ _))

theorem Chip.sameStage_enterMaintenance (c : Chip) (faults : Nat) : c.sameStage (c.enterMaintenance faults) := by
  unfold Chip.enterMaintenance
  extract_lets c1 c2 dead
  have h1 : c.sameStage c1 := by unfold c1; split; exacts [c.sameStage_refl, c.sameStage_maintain faults]
  have h2 : c1.sameStage c2 := c1.sameStage_endNotReady _
  split_ifs
  · exact h1
  · exact Chip.sameStage_trans h1 (Chip.sameStage_trans h2 ⟨rfl, rfl, rfl, rfl, rfl⟩)
  · exact Chip.sameStage_trans h1 h2

theorem Chip.keeps_setWt (c : Chip) (atInning : Bool) : c.keeps (c.setWt atInning) [.dict, .ev, .lg] := by
  unfold Chip.setWt
  extract_lets w old c1 sev c2
  have h1 : c.keeps c1 [.dict, .ev, .lg] := by simp [c1, Chip.set]
  have h2 : c.keeps c2 [.dict, .ev, .lg] := by simp [c2, h1]
  split_ifs <;> simp [h1, h2]

theorem Chip.keeps_makeReady (c : Chip) (port fn : Nat) : c.keeps (c.makeReady port fn) [.fns, .qs] := by
  unfold Chip.makeReady Chip.adminQueues
  dsimp only
  split <;> simp

/-- The chip that gives service, before the start looks for missing units and takes up what it left. -/
def Chip.inService (c : Chip) : Chip :=
  { c with boot := { c.boot with run := .ready, step := 8, fetchHeld := false }, fw := { c.fw with readyT := c.now } }

/-- The chip that has looked for missing units, and its record of the start. -/
def Chip.lookedOver (c : Chip) : Chip := (c.enterMaintenance c.floorFaults).setWt false

def Chip.startNoted (c : Chip) : Chip := c.event 0x586 0 1 noUnit (c.boot.cause :: c.fw.startTimes.map fun t => min 255 (t / 100000))

def Chip.allReady (c : Chip) : Chip := c.each (c.fns.map fun f => (f.port, f.fn)) fun c p => c.makeReady p.1 p.2

/-- The eighth step before it takes up a Sanitize. -/
def Chip.toResume (c : Chip) : Chip := c.lookedOver.startNoted.allReady

theorem Chip.step8_eq (c : Chip) : c.step8 = c.inService.toResume.resumeSanitize := rfl

theorem Chip.sameStage_lookedOver (c : Chip) : c.sameStage c.lookedOver :=
  Chip.sameStage_trans (c.sameStage_enterMaintenance _) (Chip.sameStage_of_keeps (Chip.keeps_setWt _ _) (by decide))

theorem Chip.sameStage_startNoted (c : Chip) : c.sameStage c.startNoted :=
  Chip.sameStage_of_keeps (Chip.keeps_event c 0x586 0 1 noUnit _) (by decide)

theorem Chip.sameStage_makeReady (c : Chip) (p : Nat × Nat) : c.sameStage (c.makeReady p.1 p.2) :=
  Chip.sameStage_of_keeps (c.keeps_makeReady p.1 p.2) (by decide)

theorem Chip.sameStage_allReady (c : Chip) : c.sameStage c.allReady := by
  have h := Chip.sameStage_each (f := fun (c : Chip) (p : Nat × Nat) => c.makeReady p.1 p.2) Chip.sameStage_makeReady (c.fns.map fun f => (f.port, f.fn)) c
  exact h

theorem Chip.sameStage_toResume (c : Chip) : c.sameStage c.toResume :=
  Chip.sameStage_trans c.sameStage_lookedOver (Chip.sameStage_trans (Chip.sameStage_startNoted _) (Chip.sameStage_allReady _))

theorem Chip.sameStage_step8 {c : Chip} (h : c.ft.sanitizeStep = 0) : c.inService.sameStage c.step8 := by
  have hs := c.inService.sameStage_toResume
  obtain ⟨-, -, -, -, hz⟩ := id hs
  have h8 : c.step8 = c.inService.toResume := (c.step8_eq).trans (if_pos (hz.trans h))
  rw [h8]
  exact hs

theorem Chip.each_self {α : Type} {f : Chip → α → Chip} {c : Chip} {xs : List α} (hf : ∀ x ∈ xs, f c x = c) : c.each xs f = c := by
  induction xs with
  | nil => rfl
  | cons x xs ih =>
    show (f c x).each xs f = c
    rw [hf x (by simp)]
    exact ih fun y hy => hf y (by simp [hy])

theorem Chip.each_append {α : Type} (f : Chip → α → Chip) (c : Chip) (xs ys : List α) : c.each (xs ++ ys) f = (c.each xs f).each ys f :=
  List.foldl_append

theorem Chip.each_singleton {α : Type} (f : Chip → α → Chip) (c : Chip) (x : α) : c.each [x] f = f c x := rfl

theorem Chip.startStep_other {c : Chip} {inp : StartInput} {n : Nat} (h : c.boot.step + 1 ≠ n) : c.startStep inp n = c := by
  unfold Chip.startStep; rw [if_pos (.inr (.inl h))]

theorem Chip.startStep_eight {c : Chip} {inp : StartInput} (hr : c.boot.run = .starting) (hs : c.boot.step = 7) (hw : c.step8Waits = false)
    (hz : c.ft.sanitizeStep = 0) : ∃ l, c.startStep inp 8 = (c.timed l).step8 := by
  unfold Chip.startStep
  rw [if_neg (by simp [hr, hs, hw])]
  extract_lets time times _ c0 c1
  have hc : c1 = c0.step8 := rfl
  obtain ⟨h1, -⟩ := Chip.sameStage_step8 (c := c0) hz
  rw [hc, show c0.step8.boot.run = .ready from h1]
  exact ⟨times, if_neg (by decide)⟩

theorem Chip.start_eight {c : Chip} {inp : StartInput} (hr : c.boot.run = .starting) (hs : c.boot.step = 7) (hw : c.step8Waits = false)
    (hz : c.ft.sanitizeStep = 0) (hu : inp.upto = 8) : ∃ l, c.start inp = (c.timed l).step8 := by
  obtain ⟨l, hl⟩ := Chip.startStep_eight (inp := inp) hr hs hw hz
  refine ⟨l, Eq.trans ?_ hl⟩
  unfold Chip.start
  extract_lets last _ _ _ began
  have hn : last = 7 + 1 := by simp [last, hu]
  have hb : began = c := if_pos hr
  have h7 : c.each (List.range 7) (fun c k => c.startStep inp (k + 1)) = c :=
    Chip.each_self fun k hk => Chip.startStep_other (by rw [hs]; rw [List.mem_range] at hk; omega)
  rw [hb, hn, List.range_succ, Chip.each_append, h7, Chip.each_singleton]

/-- What a start of one step answers. -/
theorem Chip.oneStep_end {c : Chip} {inp : StartInput} {l : List Nat} (h : c.start inp = (((c.began inp 1).timed l).step1 inp).stepped 1) :
    (c.startEnd inp).boot.run = .starting ∧ (c.startEnd inp).boot.step = 1 ∧ (c.startEnd inp).boot.fetchHeld = true
      ∧ (c.startEnd inp).pm.vrGood = true ∧ (c.startEnd inp).cmds = [] ∧ (c.startEnd inp).lk.main = [] ∧ (c.startEnd inp).ft.slots = []
      ∧ (c.startEnd inp).ft.map = [] ∧ (c.startEnd inp).rd.tasks = []
      ∧ (inp.badCores = [] → c.partnerStates = [] → (c.startEnd inp).ev.ring = []) ∧ (c.startEnd inp).dict.tags = [] ∧ (c.startEnd inp).fuse = c.fuse := by
  have hb := ((c.began inp 1).timed l).step1_boot inp
  have hc := ((c.began inp 1).timed l).step1_clean inp
  have hs : (c.startEnd inp).boot = (c.start inp).boot := c.keeps_startEnd inp .boot (by decide)
  have hf : (c.start inp).fuse = c.fuse := by rw [h]; exact Chip.step1_fuse _ inp
  refine ⟨?_, ?_, ?_, ?_, ?_, ?_, ?_, ?_, ?_, fun hi hp => ?_, rfl, ?_⟩
  · rw [hs, h]; exact congrArg Boot.run hb
  · rw [hs, h]; exact congrArg (fun b : Boot => max 1 b.step) hb
  · rw [hs, h]; exact congrArg Boot.fetchHeld hb
  · exact (congrArg Pm.vrGood (c.keeps_startEnd inp .pm (by decide))).trans (by rw [h]; exact Chip.step1_vrGood _ inp)
  · exact (Chip.unitNotices_cmds c _).trans (by rw [h]; exact hc.cmds)
  · exact (congrArg Lk.main (c.keeps_startEnd inp .lk (by decide))).trans (by rw [h]; exact hc.locks)
  · exact (congrArg Ft.slots (c.keeps_startEnd inp .ft (by decide))).trans (by rw [h]; exact hc.slots)
  · exact (congrArg Ft.map (c.keeps_startEnd inp .ft (by decide))).trans (by rw [h]; exact hc.map)
  · exact (congrArg Rd.tasks (c.keeps_startEnd inp .rd (by decide))).trans (by rw [h]; exact hc.tasks)
  · have hun : (c.start inp).un = c.un := by rw [h]; exact Chip.step1_un _ hi
    have hps : (c.start inp).partnerStates = c.partnerStates := by
      rw [hp, h]; exact if_neg fun hn => by have := hc.joined; exact absurd (hn.2.symm.trans this) (by decide)
    show (c.unitNotices (c.start inp)).ev.ring = []
    rw [Chip.unitNotices_same (Chip.own_congr hun hf) hps, h]
    exact Chip.step1_ring _ hi
  · exact (Chip.keep_fuse ((c.keeps_unitNotices _ .fuse (by decide)).trans hf))

end Sys2Proof.Machine

open Sys2Proof Sys2Proof.Machine

/-- Settles O60: a start of one step leaves what the first step clears, and the eighth step ends it in service. -/
theorem startRuns : Obligations.StartRuns := by
  intro s t
  refine ⟨fun hd => ?_, fun hr hb => ?_, fun hr he hg hb => ?_, fun inp hm hu => ?_, fun inp hr hs hw hz hu => ?_⟩
  · refine Completes.of_when (exec_vaonUp s t) (decide_eq_true hd) ?_
    have hk : (s.chip.atTime t).keeps (s.chip.atTime t).vaonUp ([.boot, .pm] ++ notePart) := Chip.keeps_mono (Chip.keeps_vaonUp _) (by decide)
    refine ⟨?_, ?_, Chip.keeps_ended t hk (by decide) (by decide), Chip.keepsEntries_end t (Chip.keepsEntries_vals rfl _)⟩
    · rw [Chip.seal_boot, Chip.notices_boot]; rfl
    · rw [Chip.seal_pm, Chip.notices_pm]; rfl
  · refine Completes.of_when (exec_main12vGood s t) (decide_eq_true ⟨hr, hb⟩) ?_
    have hk : (s.chip.atTime t).keeps (s.chip.atTime t).mainGood ([.boot, .pm, .st] ++ notePart) := by
      unfold Chip.mainGood
      refine (Chip.keeps_iff (Chip.keeps_wakeStore _) (by decide)).2 ?_
      exact fun p hp => by cases p <;> first | rfl | simp at hp
    refine ⟨?_, ?_, Chip.keeps_ended t hk (by decide) (by decide), Chip.keepsEntries_end t ?_⟩
    · rw [Chip.seal_boot, Chip.notices_boot]; exact Chip.keeps_wakeStore _ .boot (by decide)
    · rw [Chip.seal_pm, Chip.notices_pm]; exact Chip.keeps_wakeStore _ .pm (by decide)
    · unfold Chip.mainGood
      refine (Chip.keepsEntries_iff (m := [E.GAUGE_STATE]) (fun e i h1 h2 => Chip.keepsEntries_wakeStore _ e i h1 h2) (by decide)).2 ?_
      exact Chip.keepsEntries_vals rfl _
  · refine Completes.of_when (exec_vrPgoodTimeout s t) ?_ ?_
    · simp only [Bool.and_eq_true, decide_eq_true_eq, Bool.not_eq_true']
      exact ⟨⟨⟨hr, he⟩, hg⟩, hb⟩
    have hk : (s.chip.atTime t).keeps (s.chip.atTime t).pgoodLate ([.boot, .pm] ++ notePart) := Chip.keeps_mono (Chip.keeps_pgoodLate _) (by decide)
    refine ⟨?_, ?_, Chip.keeps_ended t hk (by decide) (by decide), Chip.keepsEntries_end t (Chip.keepsEntries_vals rfl _)⟩
    · rw [Chip.seal_boot, Chip.notices_boot]; rfl
    · rw [Chip.seal_pm, Chip.notices_pm]; rfl
  · have hr : (s.chip.atTime t).boot.run = .rails := by
      have := hm
      unfold Chip.mayStart at this
      simp only [Bool.and_eq_true, decide_eq_true_eq] at this
      exact this.1.1
    obtain ⟨l, hl⟩ := Chip.start_one (c := s.chip.atTime t) (inp := inp) (by rw [hr]; decide) hu
    exact Completes.of_start (.inl hm) (Chip.oneStep_end hl)
  · obtain ⟨l, hl⟩ := Chip.start_eight (c := s.chip.atTime t) (inp := inp) hr hs hw hz hu
    have hk := (s.chip.atTime t).keeps_startEnd inp
    obtain ⟨h1, h2, h3, h4, -⟩ := Chip.sameStage_step8 (c := (s.chip.atTime t).timed l) hz
    rw [hl] at hk
    refine Completes.of_start (.inr hr) ⟨?_, ?_, ?_, ?_, rfl⟩
    · exact (congrArg Boot.run (hk .boot (by decide))).trans h1
    · exact (congrArg Boot.step (hk .boot (by decide))).trans h2
    · exact (congrArg Boot.fetchHeld (hk .boot (by decide))).trans h3
    · exact (congrArg Fw.readyT (hk .fw (by decide))).trans h4
end

section
/-! Frames of the operations of dies and rows. -/
namespace Sys2Proof.Machine

/-! ### Dies -/

section
variable {a c : Chip} {l : List Area}

theorem Chip.keeps_chargeRes (c : Chip) (r : Res) (k n : Nat) : c.keeps (c.chargeRes r k n) [.um] := by simp [Chip.chargeRes]
@[simp] theorem Chip.keeps_chargeRes_iff (h : Area.um ∈ l) (r : Res) (k n : Nat) : a.keeps (c.chargeRes r k n) l ↔ a.keeps c l :=
  Chip.keeps_iff (Chip.keeps_chargeRes c r k n) (by simp [h])

theorem Chip.keeps_foldIn (c : Chip) (o : Op) : c.keeps (c.foldIn o) [.sb] := by simp [Chip.foldIn]

theorem Chip.keeps_beginTransfer (c : Chip) (lun : Nat) (o : Op) : c.keeps (c.beginTransfer lun o) [.um, .sb] := by
  unfold Chip.beginTransfer
  extract_lets c1
  have h1 : c.keeps c1 [.um, .sb] := by unfold c1; split <;> simp
  split
  · exact (Chip.keeps_iff (Chip.keeps_foldIn _ _) (by simp)).2 ((Chip.keeps_emit_iff _).2 h1)
  · exact h1

theorem Chip.keeps_chargeStarted (c : Chip) (before after : Die) : c.keeps (c.chargeStarted before after) [.um, .sb] := by
  refine Chip.keeps_each (fun d p => ?_) _ _
  split
  · exact (Chip.keeps_iff (Chip.keeps_beginTransfer _ _ _) (by simp)).2 (by simp)
  · exact Chip.keeps_refl _ _

theorem Chip.keeps_selectVolume (c : Chip) (lun : Nat) : c.keeps (c.selectVolume lun) [.md] := by
  unfold Chip.selectVolume
  dsimp only
  split
  · split <;> simp
  · exact Chip.keeps_refl _ _
@[simp] theorem Chip.keeps_selectVolume_iff (h : Area.md ∈ l) (lun : Nat) : a.keeps (c.selectVolume lun) l ↔ a.keeps c l :=
  Chip.keeps_iff (Chip.keeps_selectVolume c lun) (by simp [h])

/-- What work on dies may change. -/
def diePart : List Area := [.um, .sb, .md]

theorem Chip.keeps_startDie (c : Chip) (before after : Die) : c.keeps (c.startDie before after) diePart := by
  unfold Chip.startDie
  extract_lets new pairs d
  refine (Chip.keeps_iff (Chip.keeps_chargeStarted _ _ _) (by simp [diePart])).2 ?_
  rw [Chip.keeps_setDie_iff (by simp [diePart])]
  split <;> simp [diePart]

theorem Chip.keeps_resumeOp (c : Chip) (d : Die) (o : Op) : c.keeps (c.resumeOp d o) diePart := by
  simp [Chip.resumeOp, diePart]

theorem Chip.keeps_issueSuspend (c : Chip) (d : Die) (o : Op) : c.keeps (c.issueSuspend d o) diePart := by
  simp [Chip.issueSuspend, diePart]

theorem Chip.keeps_kickDie (c : Chip) (lun : Nat) : c.keeps (c.kickDie lun) diePart := by
  unfold Chip.kickDie
  split
  · exact Chip.keeps_refl _ _
  · extract_lets apart r
    split
    · exact Chip.keeps_refl _ _
    · split
      · split_ifs
        · exact Chip.keeps_startDie _ _ _
        · exact Chip.keeps_resumeOp _ _ _
        · exact Chip.keeps_refl _ _
        · exact Chip.keeps_issueSuspend _ _ _
        · exact Chip.keeps_refl _ _
      · split <;> exact Chip.keeps_startDie _ _ _

theorem Chip.keeps_queueOp (c : Chip) (lun : Nat) (o : Op) : c.keeps (c.queueOp lun o) diePart := by
  unfold Chip.queueOp
  split
  · exact Chip.keeps_refl _ _
  · exact (Chip.keeps_iff (Chip.keeps_kickDie _ _) (fun _ h => h)).2 (by simp [diePart])

theorem Chip.keeps_setBlock (c : Chip) (b : Block) : c.keeps (c.setBlock b) [.md] := by
  unfold Chip.setBlock; split <;> simp
@[simp] theorem Chip.keeps_setBlock_iff (h : Area.md ∈ l) (b : Block) : a.keeps (c.setBlock b) l ↔ a.keeps c l :=
  Chip.keeps_iff (Chip.keeps_setBlock c b) (by simp [h])

/-! ### Rows -/

theorem Chip.keeps_programPage (c : Chip) (s : Sb) (r : Row) (m cls : Nat) (ws : List Nat) : c.keeps (c.programPage s r m cls ws) diePart := by
  unfold Chip.programPage
  split
  · exact Chip.keeps_refl _ _
  · extract_lets o
    exact (Chip.keeps_iff (Chip.keeps_queueOp _ _ _) (fun _ h => h)).2 (by simp [diePart])

theorem Chip.keeps_rowProgress (c : Chip) (id : Nat) : c.keeps (c.rowProgress id) diePart := by
  unfold Chip.rowProgress
  split
  · exact Chip.keeps_refl _ _
  · split
    · exact Chip.keeps_refl _ _
    · extract_lets ready c1 ps
      split
      · refine (Chip.keeps_each_iff (fun d p => Chip.keeps_programPage d _ _ _ _ _) _).2 ?_
        simp [c1, diePart]
      · exact Chip.keeps_refl _ _

theorem Chip.keeps_padRow (c : Chip) (id : Nat) : c.keeps (c.padRow id) (.dict :: diePart) := by
  unfold Chip.padRow
  split
  · exact Chip.keeps_refl _ _
  · split
    · exact Chip.keeps_refl _ _
    · extract_lets free r1 c1
      refine (Chip.keeps_iff (Chip.keeps_rowProgress _ _) (by decide)).2 ?_
      refine (Chip.keeps_each_iff (fun d m => Chip.keeps_mono (Chip.keeps_programPage d _ _ _ _ _) (by decide)) _).2 ?_
      simp [c1, diePart]

theorem Chip.keeps_openRow {c d : Chip} {s : Sb} (h : c.openRow s = some d) : c.keeps d [.sb] := by
  unfold Chip.openRow at h
  extract_lets n r l next at h
  split at h
  · rw [← Option.some.inj h]; simp
  · simp at h

theorem Chip.keeps_rowReady {c d : Chip} {p : Sb → Bool} {r : Row} {s : Sb} (h : c.rowReady p = some (r, s, d)) : c.keeps d [.sb] := by
  unfold Chip.rowReady at h
  split at h
  · injection h with h; obtain rfl := congrArg (fun x : Row × Sb × Chip => x.2.2) h; exact Chip.keeps_refl _ _
  · split at h
    · simp at h
    · next c1 hc =>
      obtain ⟨x, -, hx⟩ := Option.map_eq_some_iff.1 h
      obtain rfl : c1 = d := congrArg (fun x : Row × Sb × Chip => x.2.2) hx
      obtain ⟨s', -, hs⟩ := List.exists_of_findSome?_eq_some hc
      split at hs
      · exact Chip.keeps_openRow hs
      · simp at hs

theorem Chip.keeps_fillOne {c d : Chip} (h : c.fillOne = some d) : c.keeps d (.ft :: diePart) := by
  unfold Chip.fillOne at h
  split at h
  · simp at h
  · split at h
    · rw [← Option.some.inj h]; simp
    · extract_lets p2 at h
      split at h
      · simp at h
      · next hr =>
        split at h
        · simp at h
        · rw [← Option.some.inj h, Chip.keeps_iff (Chip.keeps_programPage _ _ _ _ _ _) (by decide)]
          have := Chip.keeps_mono (m := .ft :: diePart) (Chip.keeps_rowReady hr) (by decide)
          simp [diePart] at this ⊢
          exact this

theorem Chip.keeps_fillN (n : Nat) (c : Chip) : c.keeps (Chip.fillN n c) (.dict :: .ev :: .lg :: .ft :: diePart) := by
  induction n generalizing c with
  | zero => exact Chip.keeps_refl _ _
  | succ n ih =>
    unfold Chip.fillN
    split
    · next h => exact Chip.keeps_mono (Chip.keeps_trans (Chip.keeps_fillOne h) (ih _)) (by decide)
    · split <;> simp

theorem Chip.keeps_fillRows (c : Chip) : c.keeps c.fillRows (.dict :: .ev :: .lg :: .ft :: diePart) := Chip.keeps_fillN _ _

theorem Chip.keeps_drainCrucible (c : Chip) : c.keeps c.drainCrucible (.dict :: .ev :: .lg :: .ft :: diePart) := by
  unfold Chip.drainCrucible
  extract_lets c1
  exact (Chip.keeps_each_iff (fun d i => Chip.keeps_mono (d.keeps_padRow i) (by decide)) _).2 c.keeps_fillRows

end
end Sys2Proof.Machine
end

section
/-! Proofs of the family of supplies and clocks (R56, R409, R411, R415). -/
namespace Sys2Proof.Machine

/-! ### Requests of a voltage -/

theorem length_takeWhile_lt_iff {α : Type} (p : α → Bool) (l : List α) : (l.takeWhile p).length < l.length ↔ ∃ x ∈ l, p x = false := by
  induction l with
  | nil => simp
  | cons x l ih => cases hx : p x <;> simp [hx, ih]

theorem Chip.each_pmbWrite_vals (c : Chip) (l : List Nat) (code v : Nat) : (c.each l fun c _ => c.pmbWrite code v).dict.vals = c.dict.vals :=
  Chip.each_frame (fun a b => b.dict.vals = a.dict.vals) (fun _ => rfl) (fun _ _ _ h h' => h'.trans h) (fun c _ => c.pmbWrite code v) (fun _ _ => rfl) l c

theorem Chip.keeps_each_pmbWrite (c : Chip) (l : List Nat) (code v : Nat) : c.keeps (c.each l fun c _ => c.pmbWrite code v) [] :=
  Chip.keeps_each (fun d _ => by simp [Chip.pmbWrite]) _ _

/-- The chip after the attempts of a request, with n retries counted. -/
def Chip.tried (c : Chip) (mv n : Nat) (l : List Nat) : Chip := (c.each l fun c _ => c.pmbWrite pmbVout mv).count E.PMB_RETRIES n

theorem Chip.keeps_tried (c : Chip) (mv n : Nat) (l : List Nat) : c.keeps (c.tried mv n l) [.dict] := by
  simp [Chip.tried, Chip.keeps_mono (c.keeps_each_pmbWrite l pmbVout mv)]

theorem Chip.keepsEntries_tried (c : Chip) (mv n : Nat) (l : List Nat) : c.keepsEntries (c.tried mv n l) [E.PMB_RETRIES] := by
  unfold Chip.tried
  rw [Chip.keepsEntries_countAt_iff (by simp)]
  exact Chip.keepsEntries_vals (Chip.each_pmbWrite_vals _ _ _ _) _

theorem Chip.pmbus_ok (c : Chip) (mv : Nat) {l : List Nat} (h : 0 ∈ l.take 4) :
    ∃ n k, c.pmbus mv l = ((((c.tried mv n k).set E.VCORE_TARGET mv).set E.PMB_LAST_RESULT 0), true) := by
  unfold Chip.pmbus
  extract_lets tried fails ok sent c1 r
  have ho : ok = true := decide_eq_true ((length_takeWhile_lt_iff _ _).2 ⟨0, h, by decide⟩)
  rw [if_pos ho]
  exact ⟨_, _, rfl⟩

theorem Chip.pmbus_failed (c : Chip) (mv : Nat) {l : List Nat} (h : 0 ∉ l.take 4) :
    ∃ n k r, (c.pmbus mv l).1 = ((((c.tried mv n k).pmbWrite pmbVout (c.get E.VCORE_TARGET)).count E.PMB_FAILS 1).set E.PMB_LAST_RESULT (min 4 r)).event
      0x508 0 4 noUnit [0, r] := by
  unfold Chip.pmbus
  extract_lets tried fails ok sent c1 r
  have ho : ¬ ok = true := by
    refine fun hn => h ?_
    obtain ⟨x, hx, h0⟩ := (length_takeWhile_lt_iff _ _).1 (of_decide_eq_true hn)
    simp at h0
    exact h0 ▸ hx
  rw [if_neg ho]
  exact ⟨_, _, _, rfl⟩

/-- What a request that succeeds leaves. -/
theorem Chip.pmbus_ok_frame (c : Chip) (mv : Nat) {l : List Nat} (h : 0 ∈ l.take 4) :
    (c.pmbus mv l).2 = true ∧ c.keeps (c.pmbus mv l).1 [.dict] ∧ c.keepsEntries (c.pmbus mv l).1 [E.PMB_RETRIES, E.VCORE_TARGET, E.PMB_LAST_RESULT]
      ∧ (c.pmbus mv l).1.getAt E.VCORE_TARGET 0 = mv ∧ (c.pmbus mv l).1.getAt E.PMB_LAST_RESULT 0 = 0 := by
  obtain ⟨n, k, hp⟩ := c.pmbus_ok mv h
  rw [hp]
  refine ⟨rfl, by simp [Chip.set, c.keeps_tried], ?_, ?_, ?_⟩
  · simp only [Chip.set]
    rw [Chip.keepsEntries_setAt_iff (by simp), Chip.keepsEntries_setAt_iff (by simp)]
    exact Chip.keepsEntries_mono (c.keepsEntries_tried _ _ _) (by decide)
  · simp only [Chip.set]
    rw [Chip.getAt_setAt, if_neg (by decide), Chip.getAt_setAt, if_pos ⟨rfl, rfl⟩]
  · simp only [Chip.set]
    rw [Chip.getAt_setAt, if_pos ⟨rfl, rfl⟩]

/-- What a request that fails leaves. -/
theorem Chip.pmbus_failed_frame (c : Chip) (mv : Nat) {l : List Nat} (h : 0 ∉ l.take 4) :
    c.keeps (c.pmbus mv l).1 [.dict, .ev, .lg] ∧ c.keepsEntries (c.pmbus mv l).1 [E.PMB_RETRIES, E.PMB_FAILS, E.PMB_LAST_RESULT]
      ∧ c.counts (c.pmbus mv l).1 E.PMB_FAILS 0 1 := by
  obtain ⟨n, k, r, hp⟩ := c.pmbus_failed mv h
  have hk := c.keepsEntries_tried mv n k
  rw [hp]
  refine ⟨?_, ?_, ?_⟩
  · simp [Chip.set, Chip.pmbWrite, Chip.keeps_mono (c.keeps_tried mv n k)]
  · simp only [Chip.set, Chip.count, Chip.keepsEntries_event_iff]
    rw [Chip.keepsEntries_setAt_iff (by simp), Chip.keepsEntries_countAt_iff (by simp)]
    exact Chip.keepsEntries_mono hk (by decide)
  · unfold Chip.counts
    rw [Chip.getAt_event _ _ _ _ _ _ (by decide)]
    simp only [Chip.set]
    rw [Chip.getAt_setAt, if_neg (by decide), Chip.count, Chip.getAt_countAt_same _ _ _ _ (by decide)]
    exact congrArg (fun v => min _ (v + 1)) (hk E.PMB_FAILS 0 (by decide) (by decide))

/-- The words of pages one behind the other, page 0 lowest. -/
def wordsUpTo (g : Nat → Nat) (n : Nat) : Nat := sumOf ((List.range n).map fun p => at' (g p) (16 * p))

theorem wordsUpTo_succ (g : Nat → Nat) (n : Nat) : wordsUpTo g (n + 1) = wordsUpTo g n + g n * 2 ^ (16 * n) := by
  unfold wordsUpTo sumOf at'
  rw [List.range_succ, List.map_append, List.foldl_append]
  rfl

theorem wordsUpTo_lt {g : Nat → Nat} (hg : ∀ p, g p < 2 ^ 16) (n : Nat) : wordsUpTo g n < 2 ^ (16 * n) := by
  induction n with
  | zero => exact Nat.one_pos
  | succ n ih =>
    rw [wordsUpTo_succ]
    calc wordsUpTo g n + g n * 2 ^ (16 * n) < 2 ^ (16 * n) + g n * 2 ^ (16 * n) := Nat.add_lt_add_right ih _
      _ = (g n + 1) * 2 ^ (16 * n) := by ring
      _ ≤ 2 ^ 16 * 2 ^ (16 * n) := Nat.mul_le_mul_right _ (hg n)
      _ = 2 ^ (16 * (n + 1)) := by rw [← pow_add]; congr 1; ring

/-- Each page's word stands in its 16 bits. -/
theorem bits_wordsUpTo {g : Nat → Nat} (hg : ∀ p, g p < 2 ^ 16) {n p : Nat} (hp : p < n) : bits (wordsUpTo g n) (16 * p + 15) (16 * p) = g p := by
  have hw : 16 * p + 15 + 1 - 16 * p = 16 := by omega
  unfold bits
  rw [hw]
  induction n with
  | zero => omega
  | succ n ih =>
    have hpos : 0 < 2 ^ (16 * p) := Nat.two_pow_pos _
    rw [wordsUpTo_succ]
    by_cases h : p = n
    · subst h
      rw [Nat.add_mul_div_right _ _ hpos, Nat.div_eq_of_lt (wordsUpTo_lt hg p), Nat.zero_add, Nat.mod_eq_of_lt (hg p)]
    · have hs : g n * 2 ^ (16 * n) = g n * 2 ^ (16 * (n - p - 1)) * 2 ^ 16 * 2 ^ (16 * p) := by
        rw [mul_assoc, mul_assoc, ← pow_add, ← pow_add]; congr 2; omega
      rw [hs, Nat.add_mul_div_right _ _ hpos, Nat.add_mul_mod_self_right, ih (by omega)]

/-- A chip with the times of a request of AVS that succeeds. -/
def Chip.avsTaken (c d : Chip) (rise : Bool) : Chip :=
  { d with pm := { d.pm with avsT := c.now, marginT := if rise then c.now else c.pm.marginT, vcoreFails := 0 } }

theorem Chip.avs_ok (c : Chip) (step : Nat) (rise : Bool) {l : List Nat} (hl : 0 ∈ l.take 4) :
    c.avs step rise l = c.avsTaken (c.pmbus (c.coreMv (if rise then c.get E.VCORE_TARGET + step else c.get E.VCORE_TARGET - step)) l).1 rise := by
  obtain ⟨h2, -⟩ := c.pmbus_ok_frame (c.coreMv (if rise then c.get E.VCORE_TARGET + step else c.get E.VCORE_TARGET - step)) hl
  unfold Chip.avs
  extract_lets cur r fails _ _ c1 _ c2
  have hf : fails = 0 := if_pos h2
  have h1 : c1 = c.avsTaken r.1 rise := by
    show { r.1 with pm := { r.1.pm with avsT := c.now, marginT := if rise then c.now else c.pm.marginT, vcoreFails := fails } } = _
    rw [hf]
    rfl
  rw [if_pos (by rw [hf]; decide), h1]

/-- A request of AVS that succeeds, at the end of its step. -/
theorem Chip.avs_end {c : Chip} (t step : Nat) (rise : Bool) {l : List Nat} (hl : 0 ∈ l.take 4) :
    let d := (c.atTime t).seal ((c.atTime t).notices ((c.atTime t).avs step rise l))
    d.get E.VCORE_TARGET = c.coreMv (if rise then c.get E.VCORE_TARGET + step else c.get E.VCORE_TARGET - step)
      ∧ d.pm = { c.pm with avsT := (c.atTime t).now, marginT := if rise then (c.atTime t).now else c.pm.marginT, vcoreFails := 0 }
      ∧ c.keeps d (.pm :: notePart) ∧ c.keepsEntries d [E.PMB_RETRIES, E.VCORE_TARGET, E.PMB_LAST_RESULT] := by
  obtain ⟨-, hk, hks, hv, -⟩ := Chip.pmbus_ok_frame (c.atTime t)
    (c.coreMv (if rise then c.get E.VCORE_TARGET + step else c.get E.VCORE_TARGET - step)) hl
  dsimp only
  rw [(c.atTime t).avs_ok step rise hl]
  refine ⟨Chip.get_end (by decide) hv, ?_, Chip.keeps_ended t ?_ (by decide) (by decide), Chip.keepsEntries_end t hks⟩
  · rw [Chip.seal_pm, Chip.notices_pm]
    exact congrArg (fun p : Pm => { p with avsT := (c.atTime t).now, marginT := if rise then (c.atTime t).now else c.pm.marginT, vcoreFails := 0 })
      (hk .pm (by decide))
  · unfold Chip.avsTaken
    rw [Chip.keeps_with_pm (by simp)]
    exact Chip.keeps_mono hk (by decide)

/-! ### The reference clock -/

theorem Chip.keeps_refLost (c : Chip) : c.keeps c.refLost ([.pm, .boot, .ft, .sb, .md] ++ notePart) := by
  unfold Chip.refLost
  extract_lets _ _ c1
  refine (Chip.keeps_iff (Chip.keeps_drainCrucible _) (by decide)).2 ?_
  rw [Chip.keeps_event_iff (by decide) (by decide) (by decide)]
  exact fun p hp => by cases p <;> first | rfl | simp at hp

theorem Chip.refLost_parts (c : Chip) : c.refLost.pm = { c.pm with clock := 2, holdoverT := some c.now } ∧ c.refLost.boot = { c.boot with fetchHeld := true } := by
  unfold Chip.refLost
  extract_lets _ _ c1
  have h := (c1.event 0x50B 0 4 noUnit [0]).keeps_drainCrucible
  exact ⟨(h .pm (by decide)).trans (Chip.event_pm _ _ _ _ _ _), (h .boot (by decide)).trans (Chip.event_boot _ _ _ _ _ _)⟩

/-- The chip on its reference clock again. -/
def Chip.relocked (c : Chip) : Chip :=
  { c with pm := { c.pm with clock := 1, holdoverT := none }, boot := { c.boot with fetchHeld := decide (3 ≤ c.get E.PS_CURRENT) } }

theorem Chip.refBack_eq {c : Chip} {t0 : Nat} (h : c.pm.holdoverT = some t0) (ht : c.now ≤ t0 + cycPerSec) :
    c.refBack = ((c.relocked.count E.PLL_LOCKS 1).count E.REF_LOSSES 1).event 0x50B 0 1 noUnit [1] := by
  unfold Chip.refBack
  simp only [h, if_pos ht]
  rfl

theorem Chip.keeps_relocked (c : Chip) : c.keeps c.relocked [.pm, .boot] := fun p hp => by cases p <;> first | rfl | simp at hp

/-- The chip whose clock has gone, with its cores halted. -/
def Chip.clockless (c : Chip) : Chip :=
  { c with pm := { c.pm with clock := 0, holdoverT := none }, boot := { c.boot with run := .halted, cfs := true } }

theorem Chip.holdoverEnds_eq {c : Chip} {t0 : Nat} (h : c.pm.holdoverT = some t0) (ht : t0 + cycPerSec ≤ c.now) : c.holdoverEnds = c.clockless := by
  unfold Chip.holdoverEnds
  simp only [h, if_pos ht]
  rfl

theorem Chip.keeps_clockless (c : Chip) : c.keeps c.clockless [.pm, .boot] := fun p hp => by cases p <;> first | rfl | simp at hp

end Sys2Proof.Machine

open Sys2Proof Sys2Proof.Machine

/-- Settles O55: what each row does is its equation, and the frames follow. -/
theorem suppliesAndClocks : Obligations.SuppliesAndClocks := by
  intro s t
  refine ⟨fun hu => ⟨fun mv l hl => ?_, fun mv l hl => ?_, fun status => ?_, fun step rise l hr he hs ha hm h5 h25 hd hl => ?_⟩, fun h0 ht => ?_,
    fun hr => ⟨fun hc => ?_, fun t0 h0 ht => ?_, fun t0 h0 ht => ?_⟩⟩
  · obtain ⟨-, hk, hks, hv, h0⟩ := Chip.pmbus_ok_frame (s.chip.atTime t) (s.chip.coreMv mv) hl
    exact Completes.of_when (exec_pmbusRequest s t mv l) hu
      ⟨Chip.get_end (by decide) hv, Chip.get_end (by decide) h0, Chip.keeps_ended t (Chip.keeps_mono hk (by decide)) (by decide) (by decide),
        Chip.keepsEntries_end t hks⟩
  · obtain ⟨hk, hks, hc⟩ := Chip.pmbus_failed_frame (s.chip.atTime t) (s.chip.coreMv mv) hl
    exact Completes.of_when (exec_pmbusRequest s t mv l) hu
      ⟨Chip.get_end (by decide) (hks _ 0 (by decide) (by decide)), Chip.counts_end t (by decide) hc,
        Chip.keeps_ended t (Chip.keeps_mono hk (by decide)) (by decide) (by decide), Chip.keepsEntries_end t hks⟩
  · have hv := fun p hp => bits_wordsUpTo (g := fun p => nth status p % 65536) (n := 7) (p := p) (fun p => Nat.mod_lt _ (by decide)) hp
    refine Completes.of_when (exec_pmbAlert s t status) hu ⟨fun p hp => ?_, Chip.keeps_ended t ?_ (by decide) (by decide), Chip.keepsEntries_end t ?_⟩
    · refine Eq.trans (congrArg (fun v => bits v (16 * p + 15) (16 * p)) (Chip.get_end (by decide) ?_)) (hv p hp)
      rw [Chip.getAt_event _ _ _ _ _ _ (by decide), Chip.set, Chip.getAt_setAt, if_pos ⟨rfl, rfl⟩]
      rfl
    · simp [Chip.set, Chip.pmbWrite]
    · simp only [Chip.keepsEntries_event_iff, Chip.set]
      rw [Chip.keepsEntries_setAt_iff (by simp)]
      exact Chip.keepsEntries_vals rfl _
  · refine Completes.of_when (exec_avsAdjust s t step rise l) ?_ (Chip.avs_end t step rise hl)
    simp only [Bool.and_eq_true, decide_eq_true_eq, Chip.mayFall, Bool.or_eq_true]
    exact ⟨⟨⟨hr, hu⟩, he, hs, ha, h5, h25, hd⟩, hm⟩
  · refine Completes.of_when (exec_supplyHoldEnd s t) (decide_eq_true ⟨h0, ht⟩)
      ⟨Chip.get_end (by decide) ?_, Chip.keeps_ended t (by simp [Chip.set]) (by decide) (by decide), Chip.keepsEntries_end t ?_⟩
    · rw [Chip.getAt_event _ _ _ _ _ _ (by decide), Chip.set, Chip.getAt_setAt, if_pos ⟨rfl, rfl⟩]
    · simp [Chip.set]
  · obtain ⟨hp, hb⟩ := (s.chip.atTime t).refLost_parts
    refine Completes.of_when (exec_refclkLoss s t) (Bool.and_eq_true_iff.2 ⟨hr, decide_eq_true hc⟩)
      ⟨?_, ?_, Chip.keeps_ended t (Chip.keeps_refLost _) (by decide) (by decide)⟩
    · rw [Chip.seal_pm, Chip.notices_pm, hp]; rfl
    · rw [Chip.seal_boot, Chip.notices_boot, hb]; rfl
  · refine Completes.of_when (exec_refclkReturn s t) hr ?_
    rw [Chip.refBack_eq (c := s.chip.atTime t) h0 ht]
    refine ⟨?_, Chip.counts_end t (by decide) ?_, Chip.counts_end t (by decide) ?_, Chip.keeps_ended t ?_ (by decide) (by decide), Chip.keepsEntries_end t ?_⟩
    · rw [Chip.seal_pm, Chip.notices_pm, Chip.event_pm, Chip.count, Chip.countAt_pm, Chip.count, Chip.countAt_pm]; rfl
    · unfold Chip.counts
      rw [Chip.getAt_event _ _ _ _ _ _ (by decide), Chip.count, Chip.getAt_countAt_ne _ _ _ _ (by decide) (by decide), Chip.count,
        Chip.getAt_countAt_same _ _ _ _ (by decide)]
      rfl
    · unfold Chip.counts
      rw [Chip.getAt_event _ _ _ _ _ _ (by decide), Chip.count, Chip.getAt_countAt_same _ _ _ _ (by decide), Chip.count,
        Chip.getAt_countAt_ne _ _ _ _ (by decide) (by decide)]
      rfl
    · simp [Chip.keeps_mono (Chip.keeps_relocked _)]
    · simp only [Chip.keepsEntries_event_iff, Chip.count]
      rw [Chip.keepsEntries_countAt_iff (by simp), Chip.keepsEntries_countAt_iff (by simp)]
      exact Chip.keepsEntries_vals rfl _
  · refine Completes.of_when (exec_holdoverExpiry s t) hr ?_
    rw [Chip.holdoverEnds_eq (c := s.chip.atTime t) h0 ht]
    refine ⟨?_, ?_, Chip.keeps_ended t (Chip.keeps_mono (Chip.keeps_clockless _) (by decide)) (by decide) (by decide), Chip.keepsEntries_end t (Chip.keepsEntries_vals rfl _)⟩
    · rw [Chip.seal_boot, Chip.notices_boot]; rfl
    · rw [Chip.seal_pm, Chip.notices_pm]; rfl
end

section
/-! Proofs of the family of Pair Control (R349, R358). -/
namespace Sys2Proof.Machine

/-! ### What the pair holds while frames are sent -/

/-- What the pair holds apart from the sending side of its link. -/
def Pr.held (p : Pr) : Pr :=
  { p with window := [], sendNext := 0, credits := 0, back := 0, slotsFreed := 0, lastAckT := 0, replayT := none, queue := [] }

theorem Chip.transmit_held (c : Chip) (f : Sent) : (c.transmit f).pr.held = c.pr.held := by
  unfold Chip.transmit
  extract_lets p ack g w t next c1 c2 c3
  have h1 : c1.pr.held = c.pr.held := rfl
  have h2 : c2.pr = c1.pr := Chip.countAt_pr _ _ _ _
  have h3 : c3.pr = c2.pr := by unfold c3; split_ifs <;> simp
  split
  · simp [h3, h2, h1]
  · rw [h3, h2, h1]

theorem Chip.sendFrame_held (c : Chip) (kind xfer : Nat) (last : Bool) (fields : List Nat) (blocks : List Blk) :
    (c.sendFrame kind xfer last fields blocks).pr.held = c.pr.held := by
  unfold Chip.sendFrame
  extract_lets f _ q
  split_ifs
  · rfl
  · exact c.transmit_held f
  · rfl

theorem Chip.setPairState_held (c : Chip) (st cause : Nat) : (c.setPairState st cause).pr.held = c.pr.held := by
  unfold Chip.setPairState
  extract_lets old c1
  have h1 : c1.pr = c.pr := by simp [c1, Chip.set]
  split_ifs
  · rfl
  · rw [Chip.sendFrame_held, h1]
  · rw [h1]

theorem Chip.setPairState_diverged (c : Chip) (st cause : Nat) : (c.setPairState st cause).pr.diverged = c.pr.diverged :=
  (congrArg Pr.diverged (c.setPairState_held st cause) :)

theorem Chip.setPairState_replays (c : Chip) (st cause : Nat) : (c.setPairState st cause).pr.replays = c.pr.replays :=
  (congrArg Pr.replays (c.setPairState_held st cause) :)

theorem Chip.detached_sendFrame (c : Chip) (kind xfer : Nat) (last : Bool) (fields : List Nat) (blocks : List Blk) :
    (c.sendFrame kind xfer last fields blocks).getAt E.DETACHED 0 = c.getAt E.DETACHED 0 :=
  c.keepsEntries_sendFrame kind xfer last fields blocks _ _ (by decide) (by decide)

theorem Chip.detached_setPairState (c : Chip) (st cause : Nat) : (c.setPairState st cause).getAt E.DETACHED 0 = c.getAt E.DETACHED 0 :=
  c.keepsEntries_setPairState st cause _ _ (by decide) (by decide)

/-- What Pair Control may change. -/
def pairPart : List Area := [.pr, .dict, .ev, .lg]

/-! ### A source for the regions that differ -/

/-- A resynchronisation as it begins. -/
def Chip.resyncing (c : Chip) : Chip :=
  ({ c with pr := { c.pr with pendingGr := c.pr.peerMarks, source := decide (c.pr.marks ≠ []), diverged := [], resyncT := c.now,
                              resyncBytes := c.get E.RESYNC_BYTES, replays := c.pr.unconfirmed } }).setPairState 2 1

theorem Chip.beginResync_eq (c : Chip) : c.beginResync = c.resyncing.replayReady.resyncDone := rfl

theorem Chip.keeps_resyncing (c : Chip) : c.keeps c.resyncing pairPart := by
  unfold Chip.resyncing
  rw [Chip.keeps_setPairState_iff (by decide) (by decide) (by decide) (by decide), Chip.keeps_with_pr (by decide)]
  exact Chip.keeps_refl _ _

theorem Chip.resyncing_replays (c : Chip) : c.resyncing.pr.replays = c.pr.unconfirmed := Chip.setPairState_replays _ _ _

theorem Chip.resyncing_diverged (c : Chip) : c.resyncing.pr.diverged = [] := Chip.setPairState_diverged _ _ _

theorem Chip.replayReady_none {c : Chip} (h : c.pr.replays = []) : c.replayReady = c := by
  unfold Chip.replayReady
  simp only [h]
  show ({ c with pr := { c.pr with replays := [] } } : Chip) = c
  rw [← h]

/-- The end of a resynchronisation leaves it as it is, or ends in SYNCED. -/
theorem Chip.resyncDone_frame (c : Chip) (hd : c.pr.diverged = []) (h3 : c.getAt E.PAIR_STATE 0 ≠ 3) :
    c.keeps c.resyncDone pairPart ∧ c.resyncDone.pr.diverged = [] ∧ c.resyncDone.getAt E.PAIR_STATE 0 ≠ 3 := by
  unfold Chip.resyncDone
  extract_lets open' p dirty _ c1 s
  split_ifs
  · exact ⟨Chip.keeps_refl _ _, hd, h3⟩
  · refine ⟨?_, ?_, ?_⟩
    · rw [Chip.keeps_event_iff (by decide) (by decide) (by decide), Chip.keeps_setPairState_iff (by decide) (by decide) (by decide) (by decide),
        Chip.keeps_with_pr (by decide)]
      exact (Chip.keeps_with_pr (by decide) _).2 (Chip.keeps_refl _ _)
    · rw [Chip.event_pr, Chip.setPairState_diverged]; exact hd
    · rw [Chip.getAt_event _ _ _ _ _ _ (by decide), Chip.pairState_setPairState]; decide
  · exact ⟨(Chip.keeps_with_pr (by decide) _).2 (Chip.keeps_refl _ _), hd, h3⟩

theorem Chip.beginResync_frame {c : Chip} (h : c.pr.unconfirmed = []) :
    c.keeps c.beginResync pairPart ∧ c.beginResync.pr.diverged = [] ∧ c.beginResync.getAt E.PAIR_STATE 0 ≠ 3 := by
  have h2 : c.resyncing.getAt E.PAIR_STATE 0 = 2 := Chip.pairState_setPairState _ _ _
  rw [c.beginResync_eq, Chip.replayReady_none (c.resyncing_replays.trans h)]
  obtain ⟨hk, hd, h3⟩ := c.resyncing.resyncDone_frame c.resyncing_diverged (by rw [h2]; decide)
  exact ⟨Chip.keeps_mono (Chip.keeps_trans c.keeps_resyncing hk) (by decide), hd, h3⟩

theorem Chip.chooseSource_frame (c : Chip) (ctl : Nat) (h : c.pr.unconfirmed = []) :
    c.keeps (c.chooseSource ctl) pairPart ∧ (c.chooseSource ctl).pr.diverged = [] ∧ (c.chooseSource ctl).getAt E.PAIR_STATE 0 ≠ 3 := by
  unfold Chip.chooseSource
  extract_lets p mine out marks peer own theirs dirty
  have ho : own = [] := by unfold own p; split <;> simp [h]
  have hu : ∀ q : Pr, q.unconfirmed = [] → (({ c with pr := q } : Chip).event 0x488 0 3 noUnit [ctl]).pr.unconfirmed = [] := fun q hq => by
    rw [Chip.event_pr]; exact hq
  obtain ⟨hk, hd, h3⟩ := Chip.beginResync_frame (hu { p with marks := marks, peerMarks := peer, unconfirmed := own, peerUnconf := theirs, mapDirty := dirty } ho)
  refine ⟨(Chip.keeps_iff hk fun _ h => h).2 ?_, hd, h3⟩
  rw [Chip.keeps_event_iff (by decide) (by decide) (by decide)]
  exact (Chip.keeps_with_pr (by decide) _).2 (Chip.keeps_refl _ _)

/-! ### The maps, and the answer -/

theorem Chip.keeps_sendMaps (c : Chip) : c.keeps c.sendMaps [.pr, .dict] := by
  unfold Chip.sendMaps
  extract_lets c1 us c2
  rw [Chip.keeps_sendFrame_iff (by decide) (by decide)]
  refine (Chip.keeps_each_iff (fun d k => Chip.keeps_sendFrame d _ _ _ _ _) _).2 ?_
  exact Chip.keeps_each (fun d k => Chip.keeps_sendFrame d _ _ _ _ _) _ _

theorem Chip.detached_sendMaps (c : Chip) : c.sendMaps.getAt E.DETACHED 0 = c.getAt E.DETACHED 0 := by
  refine (?_ : c.keepsEntries c.sendMaps sendEntries) _ _ (by decide) (by decide)
  unfold Chip.sendMaps
  extract_lets c1 us c2
  rw [Chip.keepsEntries_sendFrame_iff (fun _ h => h)]
  refine (Chip.keepsEntries_each_iff (fun d k => Chip.keepsEntries_sendFrame d _ _ _ _ _) _).2 ?_
  exact Chip.keepsEntries_each (fun d k => Chip.keepsEntries_sendFrame d _ _ _ _ _) _ _

theorem Chip.pairDword_congr {c d : Chip} (hp : d.pr = c.pr) (h1 : d.get E.PAIR_STATE = c.get E.PAIR_STATE) (h2 : d.get E.DETACHED = c.get E.DETACHED) :
    d.pairDword = c.pairDword := by
  unfold Chip.pairDword
  rw [hp, h1, h2]

/-- A reply gives the state of the pair as the command leaves it. -/
theorem Completes.of_pairReply {i : Instr} {s : State} {t h action : Nat} {x : Cmd} {g : Chip → Cmd → Chip} {c1 : Chip} {P : Chip → Prop}
    (hw : s.chip.adminWaits h 0xC9 x) (h10 : bits (x.dw 10) 31 4 = 0) (h11 : bits (x.dw 11) 31 1 = 0) (ha : bits (x.dw 10) 3 0 = action)
    (hm : action ≠ 0 → s.chip.boot.pairMode ≠ 0) (he : exec i s = run s t fun c => c.pairCmd h action g)
    (hg : g (s.chip.atTime t) x = c1.pairReply h) (hk : (s.chip.atTime t).keeps c1 pairPart)
    (hP : ∀ c : Chip, c.answered h stOk c.pairDword c.pr.marks.length → c.pr = c1.pr → (∀ e v, e ∉ eventMeters → c1.getAt e 0 = v → c.get e = v) →
      c.pairDword = c1.pairDword → s.chip.keeps c (.pr :: notePart) → P c) : Completes i s P := by
  refine Completes.of_answer_keeps hw he (st := stOk) (d0 := c1.pairDword) (d1 := c1.pr.marks.length) (c1 := c1) (l := pairPart) ?_ hk (by decide) (by decide) fun hans => ?_
  · rw [if_neg, if_neg (by simpa using ha), if_neg (by simp [h10, h11]), if_neg (fun hn => hm hn.1 hn.2), hg, Chip.adminWaits_h hw]
    · rfl
    · omega
  · have hget : ∀ e v, e ∉ eventMeters → c1.getAt e 0 = v →
        ((s.chip.atTime t).seal ((s.chip.atTime t).notices (c1.finish h stOk c1.pairDword c1.pr.marks.length))).get e = v := fun e v hn hv =>
      Chip.get_end hn ((Chip.getAt_finish _ _ _ _ _ _ _).trans hv)
    have hpr : ((s.chip.atTime t).seal ((s.chip.atTime t).notices (c1.finish h stOk c1.pairDword c1.pr.marks.length))).pr = c1.pr := by simp
    have hd : ((s.chip.atTime t).seal ((s.chip.atTime t).notices (c1.finish h stOk c1.pairDword c1.pr.marks.length))).pairDword = c1.pairDword :=
      Chip.pairDword_congr hpr (hget _ _ (by decide) rfl) (hget _ _ (by decide) rfl)
    refine hP _ ?_ hpr hget hd (Chip.keeps_ended t ((Chip.keeps_finish_iff (by decide) (by decide) _ _ _ _).2 (Chip.keeps_mono hk (by decide))) (by decide) (by decide))
    rw [hd, hpr]
    exact hans

end Sys2Proof.Machine

open Sys2Proof Sys2Proof.Machine

/-- Settles O18: each action changes the pair, and its reply gives what it left. -/
theorem pairControlIsServed : Obligations.PairControlIsServed := by
  intro s t h x hw h10 h11
  refine ⟨fun ha => ?_, fun ha hm h3 hu => ?_, fun ha hm h3 hd => ?_, fun ha hm hd => ?_⟩
  · refine Completes.of_answer_frame hw (exec_pairControlStatus s t h) (st := stOk) (d0 := s.chip.pairDword) (d1 := s.chip.pr.marks.length) (c1 := s.chip.atTime t) (l := []) (es := []) ?_ (Chip.keeps_refl _ _)
      (Chip.keepsEntries_refl _ _) (by decide) (by decide) (by decide) fun c _ hans hk hks => ⟨hans, hk, hks⟩
    rw [if_neg (by omega), if_neg (by simpa using ha), if_neg (by simp [h10, h11]), if_neg (fun hn => hn.1 rfl), Chip.adminWaits_h hw]
    rfl
  · obtain ⟨hk, hd, hs⟩ := (s.chip.atTime t).chooseSource_frame (bit (x.dw 11) 0) hu
    exact Completes.of_pairReply hw h10 h11 ha (fun _ => hm) (exec_pairControlChooseSource s t h)
      (if_neg fun hn => hn h3) hk fun c hans hpr hget _ hkc => ⟨hans, by rw [hget _ _ (by decide) rfl]; exact hs, by rw [hpr]; exact hd, hkc⟩
  · refine Completes.of_pairReply hw h10 h11 ha (fun _ => hm) (exec_pairControlDetach s t h) (if_neg fun hn => hn.elim h3 fun h => h hd) ?_
      fun c hans hpr hget _ hkc => ⟨hans, hget _ _ (by decide) (Chip.pairState_setPairState _ _ _), hget _ _ (by decide) ?_, hkc⟩
    · rw [Chip.keeps_setPairState_iff (by decide) (by decide) (by decide) (by decide), Chip.set, Chip.keeps_setAt_iff (by decide),
        Chip.keeps_sendFrame_iff (by decide) (by decide)]
      exact Chip.keeps_refl _ _
    · rw [Chip.detached_setPairState, Chip.set, Chip.getAt_setAt, if_pos ⟨rfl, rfl⟩]
  · have hk1 : ((s.chip.atTime t).set E.DETACHED 0).keeps (((s.chip.atTime t).set E.DETACHED 0).sendFrame 0x40 0 true
        [4, (s.chip.atTime t).get E.PAIR_STATE] []) pairPart := (Chip.keeps_sendFrame_iff (by decide) (by decide) _ _ _ _ _).2 (Chip.keeps_refl _ _)
    have hk0 : (s.chip.atTime t).keeps ((s.chip.atTime t).set E.DETACHED 0) pairPart := (Chip.keeps_setAt_iff (by decide) _ _ _).2 (Chip.keeps_refl _ _)
    have h0 : ((s.chip.atTime t).set E.DETACHED 0).getAt E.DETACHED 0 = 0 := by rw [Chip.set, Chip.getAt_setAt, if_pos ⟨rfl, rfl⟩]
    refine Completes.of_pairReply hw h10 h11 ha (fun _ => hm) (exec_pairControlRejoin s t h) (if_neg hd) ?_
      fun c hans hpr hget _ hkc => ⟨hans, hget _ _ (by decide) ?_, hkc⟩
    · split
      · exact Chip.keeps_mono (Chip.keeps_trans (Chip.keeps_trans hk0 hk1) (Chip.keeps_sendMaps _)) (by decide)
      · exact Chip.keeps_mono (Chip.keeps_trans hk0 hk1) (by decide)
    · split
      · rw [Chip.detached_sendMaps, Chip.detached_sendFrame, h0]
      · rw [Chip.detached_sendFrame, h0]
end

section
/-! Steps that can change units, and what such a step leaves as its effect made it. -/
namespace Sys2Proof.Machine

/-- What the consequences of a change of units may reach. -/
def settlePart : List Area := [.boot, .dict, .ev, .cmds, .lk, .um, .ft, .sb, .md, .rd, .lost, .st, .book, .wins, .pr, .lg]

theorem Chip.keeps_settle (b c : Chip) : c.keeps (b.settle c) settlePart := by
  intro p hp
  cases p
  case fuse => exact Chip.settle_fuse b c
  case un => exact Chip.settle_un b c
  case fns => exact Chip.settle_fns b c
  case ports => exact Chip.settle_ports b c
  case qs => exact Chip.settle_qs b c
  case nextH => exact Chip.settle_nextH b c
  case mg => exact Chip.settle_mg b c
  case pm => exact Chip.settle_pm b c
  case th => exact Chip.settle_th b c
  case fw => exact Chip.settle_fw b c
  case rnd => exact Chip.settle_rnd b c
  case free => exact Chip.settle_free b c
  all_goals simp [settlePart] at hp

/-- A row that can change units, where its condition holds. -/
theorem Completes.of_unitsWhen {i : Instr} {s : State} {P : Chip → Prop} {t : Nat} {b : Chip → Bool} {f : Chip → Chip}
    (he : exec i s = runUnits s t fun c => c.when (b c) f) (hb : b (s.chip.atTime t) = true)
    (hp : P ((s.chip.atTime t).seal ((s.chip.atTime t).notices ((s.chip.atTime t).settle (f (s.chip.atTime t)))))) : Completes i s P :=
  Completes.of_run (he.trans (runUnits_eq s t _)) (by rw [Chip.when_true hb]; exact hp)

/-- The frame of a step that can change units. -/
theorem Chip.keeps_settled {c c' : Chip} {m : List Area} (t : Nat) (h : (c.atTime t).keeps c' m) (hf : .fuse ∉ m) (hm : ∀ p ∈ settlePart ++ notePart, p ∈ m) :
    c.keeps ((c.atTime t).seal ((c.atTime t).notices ((c.atTime t).settle c'))) m :=
  Chip.keeps_ended t ((Chip.keeps_iff (Chip.keeps_settle _ _) fun p hp => hm p (List.mem_append_left _ hp)).2 h) hf
    fun p hp => hm p (List.mem_append_right _ hp)

/-- A unit at the end of such a step is as the effect left it. -/
theorem Chip.unitRec_settled {b c : Chip} {u : Nat} (hu : fusedOff b.fuse.variant u = false) (hv : c.fuse = b.fuse) :
    (b.seal (b.notices (b.settle c))).unitRec u = c.unitRec u := by
  rw [Chip.unitRec_end hu (by rw [Chip.settle_fuse, hv])]
  exact Chip.unitRec_congr (Chip.settle_un b c) (by rw [Chip.settle_fuse]) u

theorem Chip.portOf_settled (b c : Chip) (k : Nat) : (b.seal (b.notices (b.settle c))).portOf k = c.portOf k := by
  rw [Chip.portOf_seal, Chip.portOf_notices]
  exact Chip.portOf_congr (Chip.settle_ports b c) k

/-- A record of a unit is what the unit then has. -/
theorem Chip.unitRec_setUnit (c : Chip) (r : UnitRec) : (c.setUnit r).unitRec r.unit = r := by
  unfold Chip.unitRec Chip.setUnit
  dsimp only
  rw [find_upsert _ r (by simp)]

theorem Chip.unitRec_unit (c : Chip) (u : Nat) : (c.unitRec u).unit = u := by
  unfold Chip.unitRec
  split
  · next h => simpa using List.find?_some h
  · rfl

theorem Chip.unitRec_setUnit_of {c : Chip} {r : UnitRec} {u : Nat} (h : r.unit = u) : (c.setUnit r).unitRec u = r := h ▸ c.unitRec_setUnit r

theorem Chip.own_setUnit_of {c : Chip} {r : UnitRec} {u own : Nat} (h : r.unit = u) (ho : r.own = own) : (c.setUnit r).own u = own := by
  rw [Chip.own, Chip.unitRec_setUnit_of h, ho]

theorem Chip.own_setOwn (c : Chip) (u own cause : Nat) : (c.setOwn u own cause).own u = own :=
  Chip.own_setUnit_of (c.unitRec_unit u) rfl

/-- A unit that is ONLINE or DEGRADED is the one that is asked for. -/
theorem Chip.own_setDegraded {c : Chip} {u : Nat} (b : Bool) (h : c.own u = 1 ∨ c.own u = 2) : (c.setDegraded u b).own u = if b then 2 else 1 := by
  unfold Chip.setDegraded
  extract_lets r want
  split
  · exact c.own_setOwn u want r.cause
  · next hn =>
    have hw : c.own u = want := by
      by_contra hne
      exact hn ⟨h, hne⟩
    split
    · next h3 => exact absurd h (by rw [show c.own u = 3 from h3]; decide)
    · exact hw

end Sys2Proof.Machine
end

section
/-! Proofs of the family of links (R99, R100, R113, R115, R121 to R123). -/
namespace Sys2Proof.Machine

/-- A row whose effect looks at the chip from before its condition. -/
theorem Completes.of_whenOn {i : Instr} {s : State} {P : Chip → Prop} {t : Nat} {b : Chip → Bool} {f : Chip → Chip → Chip}
    (he : exec i s = run s t fun c => c.when (b c) (f c)) (hb : b (s.chip.atTime t) = true)
    (hp : P ((s.chip.atTime t).seal ((s.chip.atTime t).notices (f (s.chip.atTime t) (s.chip.atTime t))))) : Completes i s P :=
  Completes.of_run he (by rw [Chip.when_true hb]; exact hp)

theorem Chip.portOf_setPort_of {c : Chip} {p : Port} {k : Nat} (h : p.port = k) : (c.setPort p).portOf k = p := h ▸ c.portOf_setPort_same p

/-! ### Time that a slower link adds -/

theorem Chip.keeps_hostTime (c : Chip) (h ps : Nat) : c.keeps (c.hostTime h ps) [.cmds, .dict] := by
  unfold Chip.hostTime
  split
  · exact Chip.keeps_refl _ _
  · rw [Chip.count, Chip.keeps_countAt_iff (by simp)]
    refine Chip.keeps_each (fun d k => ?_) _ _
    split <;> simp

theorem Chip.keepsEntries_hostTime (c : Chip) (h ps : Nat) : c.keepsEntries (c.hostTime h ps) [E.HOST_DELAY] := by
  unfold Chip.hostTime
  split
  · exact Chip.keepsEntries_refl _ _
  · rw [Chip.count, Chip.keepsEntries_countAt_iff (by simp)]
    refine Chip.keepsEntries_each (fun d k => ?_) _ _
    split <;> exact Chip.keepsEntries_vals rfl _

theorem Chip.keeps_portSlower (b c : Chip) (port : Nat) : c.keeps (b.portSlower c port) [.cmds, .dict] := by
  unfold Chip.portSlower
  extract_lets old new
  split
  · exact Chip.keeps_refl _ _
  · exact Chip.keeps_each (fun d x => d.keeps_hostTime _ _) _ _

theorem Chip.keepsEntries_portSlower (b c : Chip) (port : Nat) : c.keepsEntries (b.portSlower c port) [E.HOST_DELAY] := by
  unfold Chip.portSlower
  extract_lets old new
  split
  · exact Chip.keepsEntries_refl _ _
  · exact Chip.keepsEntries_each (fun d x => d.keepsEntries_hostTime _ _) _ _

theorem Chip.portOf_portSlower (b c : Chip) (port k : Nat) : (b.portSlower c port).portOf k = c.portOf k :=
  Chip.portOf_congr (b.keeps_portSlower c port .ports (by decide)) k

/-! ### Training -/

/-- A port with its link trained. -/
def Port.trainedAs (p : Port) (g w : Nat) (flit : Bool) (now mode : Nat) : Port :=
  { p with link := 2, gen := g, width := w, trained := w, rateWidth := w, flit := flit, idleSince := now, sris := decide (mode = 1) }

theorem Chip.trained_frame {c : Chip} {port gen width g w : Nat} {flit : Bool} (hg : g = min (c.get E.LINK_MAX_GEN) (if flit then gen else min 5 gen))
    (hw : w = min c.portLanes width) (ho : c.own (mkUnit kPORT port) = 1 ∨ c.own (mkUnit kPORT port) = 2) :
    (c.trained port gen width flit).portOf port = (c.portOf port).trainedAs g w flit c.now (c.get E.CLOCK_MODE)
      ∧ (c.trained port gen width flit).own (mkUnit kPORT port) = (if g < c.get E.LINK_MAX_GEN ∨ w < c.portLanes then 2 else 1)
      ∧ c.keeps (c.trained port gen width flit) [.cmds, .dict, .un, .ports, .ev, .lg] := by
  subst hg hw
  unfold Chip.trained
  extract_lets p g w low c1 c2
  have h1 : c.keeps c1 [.dict] := by unfold c1; split <;> simp
  have h2 : c.keeps c2 [.dict, .ports, .ev, .lg] := by simp [c2, Chip.keeps_mono h1]
  have hu : c2.own (mkUnit kPORT port) = c.own (mkUnit kPORT port) := Chip.own_congr (h2 .un (by decide)) (h2 .fuse (by decide)) _
  have h3 : c2.keeps (c.portSlower (c2.setDegraded (mkUnit kPORT port) low) port) [.cmds, .dict, .un] :=
    Chip.keeps_mono (Chip.keeps_trans (c2.keeps_setDegraded _ _) (Chip.keeps_portSlower _ _ _)) (by decide)
  refine ⟨?_, ?_, Chip.keeps_mono (Chip.keeps_trans h2 h3) (by decide)⟩
  · refine (Chip.portOf_congr (h3 .ports (by decide)) port).trans ?_
    rw [Chip.portOf_event]
    exact Chip.portOf_setPort_of (c.portOf_port port)
  · have h4 := Chip.keeps_portSlower c (c2.setDegraded (mkUnit kPORT port) low) port
    rw [Chip.own_congr (h4 .un (by decide)) (h4 .fuse (by decide)), Chip.own_setDegraded low (by rw [hu]; exact ho)]
    simp only [low, decide_eq_true_eq]
    rfl

/-! ### Rest -/

theorem Chip.leaveL1_eq {c : Chip} {port : Nat} (h : 4 ≤ (c.portOf port).link ∧ (c.portOf port).link ≤ 6) :
    c.leaveL1 port = c.setPort { c.portOf port with link := if (c.portOf port).width < (c.portOf port).trained then 3 else 2, clkreq := true, idleSince := c.now } :=
  if_pos h

/-- A port with another maximum payload, and the time that it costs. -/
def Chip.mpsSet (c : Chip) (port mps : Nat) : Chip :=
  c.portSlower (if (c.portCmds port).isEmpty then c.setPort { c.portOf port with mps := mps }
    else (c.setPort { c.portOf port with mps := mps }).event 0x28A 0 1 (c.unitIdent (mkUnit kPORT port)) [mps]) port

theorem Chip.mpsSet_frame (c : Chip) (port mps : Nat) : (c.mpsSet port mps).portOf port = { c.portOf port with mps := mps }
    ∧ c.keeps (c.mpsSet port mps) [.ports, .dict, .ev, .lg, .cmds] ∧ c.keepsEntries (c.mpsSet port mps) [E.HOST_DELAY] := by
  unfold Chip.mpsSet
  refine ⟨?_, (Chip.keeps_iff (Chip.keeps_portSlower _ _ _) (by decide)).2 ?_, (Chip.keepsEntries_iff (Chip.keepsEntries_portSlower _ _ _) (by simp)).2 ?_⟩
  · rw [Chip.portOf_portSlower]
    split
    · exact Chip.portOf_setPort_of (c.portOf_port port)
    · rw [Chip.portOf_event]; exact Chip.portOf_setPort_of (c.portOf_port port)
  · split <;> simp
  · split
    · exact Chip.keepsEntries_vals rfl _
    · rw [Chip.keepsEntries_event_iff]; exact Chip.keepsEntries_vals rfl _

end Sys2Proof.Machine

open Sys2Proof Sys2Proof.Machine

/-- Settles O33: each row sets its port, and what a change of rate costs the commands of the port is all that follows. -/
theorem linksTrainAndRest : Obligations.LinksTrainAndRest := by
  intro s t port p hp
  subst hp
  refine ⟨fun hu hr => ?_, fun gen width flit g w hu hr hg1 hg6 hwd hg hw ho hf => ?_, fun k hr hl hk hi => ?_, fun h4 h6 => ?_, fun mps hp hm hn => ?_⟩
  · refine Completes.of_whenOn (exec_perstDeassertion s t port) (Bool.and_eq_true_iff.2 ⟨hu, hr⟩) ⟨?_, Chip.keeps_ended t (by simp) (by decide) (by decide),
      Chip.keepsEntries_end t (Chip.keepsEntries_vals rfl _)⟩
    rw [Chip.portOf_seal, Chip.portOf_notices]
    exact Chip.portOf_setPort_of (s.chip.portOf_port port)
  · obtain ⟨h1, h2, h3⟩ := Chip.trained_frame (c := s.chip.atTime t) (flit := flit) hg hw ho
    refine Completes.of_unitsWhen (exec_linkTrained s t port gen width flit) ?_ ⟨?_, ?_, Chip.keeps_settled t (Chip.keeps_mono h3 (by decide)) (by decide) (by decide)⟩
    · simp only [Bool.and_eq_true, Bool.not_eq_true', decide_eq_true_eq]
      exact ⟨⟨⟨hu, hr⟩, hg1, hg6⟩, by simpa using hwd⟩
    · rw [Chip.portOf_settled, h1]; rfl
    · exact (congrArg UnitRec.own (Chip.unitRec_settled (b := s.chip.atTime t) hf (h3 .fuse (by decide)))).trans h2
  · refine Completes.of_whenOn (exec_aspmL1Entry s t port k) ?_ ⟨?_, fun hn => ?_, Chip.keeps_ended t ?_ (by decide) (by decide), Chip.keepsEntries_end t ?_⟩
    · simp only [Bool.and_eq_true, Bool.or_eq_true, decide_eq_true_eq]
      exact ⟨⟨⟨hr, by rcases hl with h | h | h <;> simp_all⟩, hk⟩, hi⟩
    · rw [Chip.portOf_seal, Chip.portOf_notices]
      split
      · exact Chip.portOf_setPort_of (s.chip.portOf_port port)
      · exact Chip.portOf_setPort_of (s.chip.portOf_port port)
    · refine Chip.mem_out_end ?_
      dsimp only
      split
      · next h => exact absurd h hn
      · exact Chip.mem_out_emit _ _
    · dsimp only; split <;> simp
    · dsimp only; split <;> exact Chip.keepsEntries_vals rfl _
  · refine Completes.of_when (exec_l1Exit s t port) (decide_eq_true ⟨h4, h6⟩) ?_
    rw [Chip.leaveL1_eq (c := s.chip.atTime t) ⟨h4, h6⟩]
    refine ⟨?_, Chip.keeps_ended t (by simp) (by decide) (by decide), Chip.keepsEntries_end t (Chip.keepsEntries_vals rfl _)⟩
    rw [Chip.portOf_seal, Chip.portOf_notices]
    exact Chip.portOf_setPort_of (s.chip.portOf_port port)
  · refine Completes.of_whenOn (exec_mpsChange s t port mps) ?_ ⟨?_, Chip.keeps_ended t ?_ (by decide) (by decide), Chip.keepsEntries_end t ?_⟩
    · simp only [Bool.and_eq_true, decide_eq_true_eq]
      exact ⟨⟨hp, by simpa using hm⟩, hn⟩
    · rw [Chip.portOf_seal, Chip.portOf_notices]; exact ((s.chip.atTime t).mpsSet_frame port mps).1
    · exact Chip.keeps_mono ((s.chip.atTime t).mpsSet_frame port mps).2.1 (by decide)
    · exact ((s.chip.atTime t).mpsSet_frame port mps).2.2
end

section
/-! Refutation by time: whether the commitments of a port fit a narrower width is asked of the innings from the step's time on (R120), which are
other innings than those from the state's time on. -/
namespace Sys2Proof.Machine

/-- What the end of a completed command has of a port is what its effect left. -/
theorem Completes.portOf_effect {i : Instr} {s : State} {P : Chip → Prop} {t k : Nat} {f : Chip → Chip} {p : Port} (h : Completes i s P)
    (he : exec i s = run s t f) (hk : ∀ c, P c → c.portOf k = p) : (f (s.chip.atTime t)).portOf k = p := by
  obtain ⟨r, hr, -, hp⟩ := h
  rw [he, run_eq] at hr
  injection hr with hr
  have hq := hk _ hp
  rw [← hr, Chip.portOf_seal, Chip.portOf_notices] at hq
  exact hq

/-- A port in L0 in flit mode at 16 lanes of generation 6. -/
def flitPort : Port := { Port.initial 0 with perst := false, link := 2, gen := 6, width := 16, trained := 16, rateWidth := 16, flit := true }

/-- In service at time 0, with all of the port's time taken in inning 64, the first behind the ledger's innings. -/
def takenLater : Chip :=
  { Chip.initial with
    boot := { Boot.initial with run := .ready }
    ports := [flitPort]
    um := { Um.initial with ledger := [{ h := 1, res := .portOut 0, inning := 64, tokens := 1000 }] } }

end Sys2Proof.Machine

open Sys2Proof Sys2Proof.Machine

/-- Refutes O34: eight lanes fit the port's commitments at the state's time, and an inning later, when they are asked for, they do not. -/
theorem not_linksCarryWidthsAndObjects : ¬ Obligations.LinksCarryWidthsAndObjects := by
  intro h
  obtain ⟨-, hn, -⟩ := h { chip := takenLater, pending := [] } cycPerInning 0 flitPort (by decide)
  have hp := Completes.portOf_effect (hn 8 (by decide) (by decide) (by decide) (by decide +kernel)) (exec_l0pWidthRequest _ _ _ _) fun c ⟨h, _⟩ => h
  exact absurd (congrArg Port.rateWidth hp) (by decide +kernel)
end

section
/-! Proofs of the family of the BAR4 window (R380 to R383). -/
namespace Sys2Proof.Machine

/-- The windows of the ports are no concern of notes. -/
theorem Chip.wins_end (b c : Chip) : (b.seal (b.notices c)).dict.wins = c.dict.wins := by
  obtain ⟨_, _, _, _, _, _, _, h⟩ := b.notices_frame c
  rw [Chip.seal_dict_wins, h]

theorem Chip.wins_countAt (c : Chip) (a item n : Nat) : (c.countAt a item n).dict.wins = c.dict.wins := by
  obtain ⟨v, h⟩ := c.countAt_frame a item n
  rw [h]

theorem Chip.wins_setWin {c : Chip} {port : Nat} {w0 : Win} (h : c.dict.wins[port]? = some w0) (w : Win) : (c.setWin port w).dict.wins[port]? = some w := by
  unfold Chip.setWin
  exact List.getElem?_set_self (List.getElem?_eq_some_iff.1 h).1

theorem Chip.keeps_setWin (c : Chip) (port : Nat) (w : Win) : c.keeps (c.setWin port w) [.dict] := by simp [Chip.setWin]

theorem Chip.winOf_some {c : Chip} {port : Nat} {w : Win} (h : c.winOf port = some w) : c.dict.wins[port]? = some w := by
  unfold Chip.winOf at h
  split at h
  · exact h
  · simp at h

theorem Chip.slotAccess_some {c : Chip} {port slot index : Nat} {w : Win} (h : c.slotAccess port slot index = some w) : ∃ w0, c.dict.wins[port]? = some w0 := by
  unfold Chip.slotAccess at h
  split at h
  · simp at h
  · obtain ⟨w0, h0, -⟩ := Option.map_eq_some_iff.1 h
    exact ⟨w0, Chip.winOf_some h0⟩

theorem Chip.readDword0_one {c : Chip} {port a : Nat} {w : Win} {d : Desc} (hd : descOf a = some d) (hn : d.type.cells = 1) :
    c.readDword0 port w a = ((c.setWin port w).count E.DICT_READS 1).emit
      (.reply (.bar4 port) 0 0 [c.readEntry (.bar4 port) a % 2 ^ 20 + at' (c.tagSeen (.bar4 port) a) 20]) := by
  unfold Chip.readDword0
  simp only [hd, hn]
  rfl

/-- A window with a dword of a cell staged. -/
def Win.staged (w : Win) (a v : Nat) : Win :=
  { (if w.stageAddr = a then w else { w with stageAddr := a, stage1 := none, stage2 := none }) with stage1 := some v }

theorem Win.staged_parts (w : Win) (a v : Nat) : (w.staged a v).stageAddr = a ∧ (w.staged a v).stage1 = some v := by
  unfold Win.staged
  split
  · next h => exact ⟨h, rfl⟩
  · exact ⟨rfl, rfl⟩

theorem Chip.stageCell_one {c : Chip} {port a v : Nat} {w : Win} {d : Desc} (hd : descOf a = some d) (hn : d.type.cells = 2) :
    c.stageCell port w a 1 v = c.setWin port (w.staged a (v % 2 ^ 20)) := by
  unfold Chip.stageCell
  simp only [hd, Option.map_some, Option.getD_some, hn]
  rfl

/-- A window with the octets of an entry latched. -/
def Win.latched (w : Win) (a v n tag : Nat) : Win := { w with octSelect := a, octBuf := v, octLen := n, octTag := tag }

theorem Chip.selectOct_oct {c : Chip} {port a : Nat} {w : Win} {d : Desc} (hd : descOf a = some d) (ht : d.type = .oct) :
    c.selectOct port a w = (c.setWin port (w.latched a (c.readEntry (.bar4 port) a) d.octets (c.tagSeen (.bar4 port) a))).count E.DICT_READS 1 := by
  unfold Chip.selectOct
  simp only [hd, ht]
  rfl

end Sys2Proof.Machine

open Sys2Proof Sys2Proof.Machine

/-- Settles O36: a read of a cell replies and counts, and a staged dword or a latched buffer stands in the port's window. -/
theorem windowIsRead : Obligations.WindowIsRead := by
  intro s t port w d
  refine ⟨fun slot index sub a hw ha hd hn hs => ?_, fun slot index sub value a hw ha hd hn => ?_, fun addr hw hd ht => ?_⟩
  · subst ha
    refine Completes.of_run (exec_cellDword0Read s t port slot index sub) ?_
    rw [show (s.chip.atTime t).slotAccess port slot index = some w from hw]
    dsimp only
    rw [Chip.when_true (by rw [show (s.chip.atTime t).stalledRead port index = false from hs]; rfl), Chip.readDword0_one hd hn]
    refine ⟨Chip.mem_out_end (Chip.mem_out_emit _ _), Chip.counts_end t (by decide) ?_, Chip.keeps_ended t ?_ (by decide) (by decide), Chip.keepsEntries_end t ?_⟩
    · exact Chip.getAt_countAt_same _ _ _ _ (by decide)
    · simp [Chip.keeps_mono (Chip.keeps_setWin _ port w)]
    · refine (Chip.keepsEntries_countAt_iff (by simp) _ _).2 ?_
      exact Chip.keepsEntries_vals rfl _
  · subst ha
    obtain ⟨w0, h0⟩ := Chip.slotAccess_some hw
    obtain ⟨h1, h2⟩ := w.staged_parts (index * 256 + sub % 256) (value % 2 ^ 20)
    refine Completes.of_run (exec_cellUpperWrite s t port slot index sub 1 value) ?_
    rw [show (s.chip.atTime t).slotAccess port slot index = some w from hw]
    dsimp only
    rw [Chip.stageCell_one hd hn]
    refine ⟨?_, Chip.keeps_ended t (Chip.keeps_mono (Chip.keeps_setWin _ _ _) (by decide)) (by decide) (by decide), Chip.keepsEntries_end t (Chip.keepsEntries_vals rfl _)⟩
    rw [Chip.wins_end, Chip.wins_setWin (c := s.chip.atTime t) h0, Option.map_some, h1, h2]
  · refine Completes.of_run (exec_octSelect s t port addr) ?_
    rw [show (s.chip.atTime t).winOf port = some w from hw]
    dsimp only
    rw [Chip.selectOct_oct hd ht]
    refine ⟨?_, Chip.keeps_ended t ?_ (by decide) (by decide), Chip.keepsEntries_end t ?_⟩
    · rw [Chip.wins_end, Chip.count, Chip.wins_countAt, Chip.wins_setWin (c := s.chip.atTime t) (Chip.winOf_some hw)]
      rfl
    · simp [Chip.keeps_mono (Chip.keeps_setWin _ _ _)]
    · refine (Chip.keepsEntries_countAt_iff (by simp) _ _).2 ?_
      exact Chip.keepsEntries_vals rfl _
end

section
/-! Writes of dictionary entries: what a write stores, counts and reports, before its effect (R368 to R372). -/
namespace Sys2Proof.Machine

/-! ### Checks -/

/-- A value that every check leaves is stored as it is, with no report. -/
theorem runChecks_pass {fs : List (Nat → Nat)} {v : Nat} (h : ∀ f ∈ fs, f v = v) : runChecks fs v = (v, 0) := by
  unfold runChecks
  suffices hs : ∀ n, fs.foldl (fun (p : Nat × Nat) f => (f p.1, if f p.1 = p.1 then p.2 else p.2 + 1)) (v, n) = (v, n) from hs 0
  intro n
  induction fs with
  | nil => rfl
  | cons f fs ih =>
    rw [List.foldl_cons, h f (by simp), if_pos rfl]
    exact ih fun g hg => h g (by simp [hg])

/-- The checks that a write of an entry passes through. -/
def Chip.checksOf (c : Chip) (d : Desc) (a item : Nat) : List (Nat → Nat) :=
  d.checks ++ c.ownChecks a item ++ if d.scope = .device then [c.bound a] else []

/-! ### Reports -/

/-- The entries that count clamps and their reports. -/
def clampEntries : List Nat := [E.CLAMP_NEXT, E.CLAMP_REFUSALS, E.CLAMP_TOTAL]

/-- A chip that differs by values, clamp reports and events alone, at the same moment. -/
def Chip.noted (c d : Chip) : Prop :=
  c.keeps d [.dict, .ev, .lg] ∧ c.keepsEntries d clampEntries ∧ ∃ v k, d.dict = { c.dict with vals := v, clamps := k } ∧ d.now = c.now

theorem Chip.noted_refl (c : Chip) : c.noted c := ⟨Chip.keeps_refl _ _, Chip.keepsEntries_refl _ _, _, _, rfl, rfl⟩

theorem Chip.noted_trans {a b c : Chip} (h : a.noted b) (h' : b.noted c) : a.noted c := by
  obtain ⟨h1, h2, v, k, h3, h4⟩ := h
  obtain ⟨g1, g2, w, l, g3, g4⟩ := h'
  exact ⟨Chip.keeps_mono (Chip.keeps_trans h1 g1) (by decide), Chip.keepsEntries_mono (Chip.keepsEntries_trans h2 g2) (by decide), w, l, by rw [g3, h3], by rw [g4, h4]⟩

theorem Chip.noted_set (c : Chip) {e : Nat} (v : Nat) (h : e ∈ clampEntries) : c.noted (c.set e v) :=
  ⟨by simp [Chip.set], (Chip.keepsEntries_setAt_iff h _ _).2 (Chip.keepsEntries_refl _ _), _, _, rfl, rfl⟩

theorem Chip.noted_count (c : Chip) {e : Nat} (n : Nat) (h : e ∈ clampEntries) : c.noted (c.count e n) := by
  obtain ⟨v, hv⟩ := c.countAt_frame e 0 n
  exact ⟨by simp, (Chip.keepsEntries_countAt_iff h _ _).2 (Chip.keepsEntries_refl _ _), v, c.dict.clamps, congrArg Chip.dict hv, by rw [Chip.count, hv]⟩

theorem Chip.noted_eventFirst (c : Chip) (src ev sev unit : Nat) (ps : List Nat) : c.noted (c.eventFirst src ev sev unit ps) := by
  obtain ⟨v, e, a, h⟩ := c.eventFirst_frame src ev sev unit ps
  exact ⟨by simp, by simp, v, c.dict.clamps, congrArg Chip.dict h, by rw [h]⟩

theorem Chip.noted_report (c : Chip) (x : Xport) (kind a fn written stored : Nat) : c.noted (c.report x kind a fn written stored) := by
  unfold Chip.report
  extract_lets n r keep ring _ c1 c2
  have h0 : c.noted { c with dict := { c.dict with clamps := ring } } := ⟨by simp, Chip.keepsEntries_vals rfl _, _, _, rfl, rfl⟩
  have h1 : c.noted c1 := Chip.noted_trans h0 (Chip.noted_set _ _ (by decide))
  have h2 : c.noted c2 := by
    unfold c2
    split <;> exact Chip.noted_trans h1 (Chip.noted_count _ _ (by decide))
  exact Chip.noted_trans h2 (Chip.noted_eventFirst _ _ _ _ _ _)

/-! ### Storing -/

/-- A write of an entry that bounds no other stores the checked value; reports may follow. -/
theorem Chip.storeWrite_noted {c : Chip} {a : Nat} (x : Xport) (d : Desc) (item v len kind : Nat) (h : dependents a = []) :
    (c.setAt a item (runChecks (c.checksOf d a item) (enteredValue d (c.getAt a item) v len)).1).noted (c.storeWrite x d a item v len kind).1 := by
  unfold Chip.storeWrite
  extract_lets v0 own r signed n off written stored c1 c2
  rw [h]
  exact Chip.each_frame Chip.noted Chip.noted_refl (fun _ _ _ => Chip.noted_trans) _ (fun c _ => c.noted_report _ _ _ _ _ _) _ _

/-- A write that every check passes, to an entry whose values are not signed, stores the value and does no more. -/
theorem Chip.storeWrite_pass {c : Chip} {a item v len : Nat} {d : Desc} (x : Xport) (kind : Nat) (h : dependents a = []) (hs : d.type ≠ .s20)
    (hp : ∀ f ∈ c.checksOf d a item, f (enteredValue d (c.getAt a item) v len) = enteredValue d (c.getAt a item) v len) :
    c.storeWrite x d a item v len kind = (c.setAt a item (enteredValue d (c.getAt a item) v len), false) := by
  unfold Chip.storeWrite
  extract_lets v0 own r signed n off written stored c1 c2
  have hr : r = (v0, 0) := runChecks_pass hp
  have hn : n = 0 := by simp [n, hr, signed, hs]
  have hc1 : c1 = c.setAt a item v0 := by show c.setAt a item r.1 = _; rw [hr]
  have hc : c2 = c.setAt a item v0 := by
    show c1.each (List.range n) _ = _
    rw [hn, hc1]
    rfl
  rw [h, hn, hc]
  rfl

/-! ### Single writes -/

/-- An entry that is stored as it is written: no mailbox cell and no cell of a peer window. -/
def plainEntry (a : Nat) : Bool := !([0x5840, 0x5841, 0x5180, 0x5181, 0x5190, 0x5191].contains (idxOf a))

/-- The chip after a write with its value v stored. -/
def Chip.wrote (c c1 : Chip) (a item v : Nat) : Prop :=
  c.keeps c1 [.dict, .ev, .lg] ∧ c.keepsEntries c1 (a :: E.DICT_WRITES :: clampEntries) ∧ c1.getAt a item = v
    ∧ ∃ w k, c1.dict = { c.dict with vals := w, clamps := k } ∧ c1.now = c.now

theorem Chip.wrote_of_noted {c c1 : Chip} {a item v : Nat} (h : ((c.count E.DICT_WRITES 1).setAt a item v).noted c1) (ha : a ∉ clampEntries)
    (hm : a ∉ eventMeters) : c.wrote c1 a item v := by
  obtain ⟨h1, h2, w, k, h3, h4⟩ := h
  obtain ⟨u, hu⟩ := c.countAt_frame E.DICT_WRITES 0 1
  have hd : ((c.count E.DICT_WRITES 1).setAt a item v).dict = { c.dict with vals := ((c.count E.DICT_WRITES 1).setAt a item v).dict.vals } := by
    rw [Chip.count, hu]; rfl
  refine ⟨Chip.keeps_mono (Chip.keeps_trans (b := (c.count E.DICT_WRITES 1).setAt a item v) (l := [.dict]) (by simp) h1) (by decide), ?_, ?_, w, k, by rw [h3, hd], by rw [h4, Chip.count, hu]; rfl⟩
  · refine Chip.keepsEntries_mono (Chip.keepsEntries_trans (b := (c.count E.DICT_WRITES 1).setAt a item v) (l := [a, E.DICT_WRITES]) ?_ h2) (by simp)
    rw [Chip.keepsEntries_setAt_iff (by simp), Chip.count, Chip.keepsEntries_countAt_iff (by simp)]
    exact Chip.keepsEntries_refl _ _
  · rw [h2 a item ha hm, Chip.getAt_setAt, if_pos ⟨rfl, rfl⟩]

section
variable {c : Chip} {x : Xport} {a v len : Nat} {d : Desc}

theorem Chip.writeBy_eq (hr : c.isReady = true) (hw : c.xportWrites x = true) (v len tag : Nat) :
    c.writeBy x a v len tag = (c.writeOne x a v len tag).1.emit (.reply x 2 (c.writeOne x a v len tag).2 []) := by
  unfold Chip.writeBy
  rw [Chip.when_true (by rw [hr, hw]; rfl)]

theorem Chip.refusal_none (hd : descOf a = some d) (ho : d.access ≠ .ro) (hb : c.actionBusy a = false) : c.refusal x a 0 = none := by
  unfold Chip.refusal
  simp only [hd]
  rw [if_neg ho, if_neg (by simp), if_neg (by simp [hb])]

theorem Chip.applyWrite_plain (hd : descOf a = some d) (hi : c.ignored a = false) (hp : plainEntry a = true) (hp' : d.access ≠ .rwp) :
    c.applyWrite x a v len = (c.effect ((c.count E.DICT_WRITES 1).storeWrite x d a (c.itemOf x a) v len 1).1 x a (c.itemOf x a),
      ((c.count E.DICT_WRITES 1).storeWrite x d a (c.itemOf x a) v len 1).2) := by
  unfold Chip.applyWrite
  simp only [hd, hi]
  simp only [plainEntry, List.contains_cons, List.contains_nil, Bool.or_false, Bool.not_eq_true', Bool.or_eq_false_iff, beq_eq_false_iff_ne] at hp
  obtain ⟨h1, h2, h3, h4, h5, h6⟩ := hp
  rw [if_neg (by simp), if_neg h1, if_neg h2, if_neg (by simp [h3, h4]), if_neg (by simp [h5, h6]), if_neg hp']

/-- A write that starts an action: the value is stored, and the action starts with it. -/
theorem Chip.writeBy_action (hr : c.isReady = true) (hw : c.xportWrites x = true) (hd : descOf a = some d) (hx : d.access = .x)
    (hi : c.ignored a = false) (hb : c.actionBusy a = false) (hdep : dependents a = []) (hp : plainEntry a = true)
    (he : ∀ (b e : Chip) (i : Nat), b.effect e x a i = e) (ha : a ∉ clampEntries) (hm : a ∉ eventMeters) :
    ∃ c1 k, c.writeBy x a v len 0 = (c1.startAction x a).emit (.reply x 2 k []) ∧ c.wrote c1 a (c.itemOf x a)
      (runChecks ((c.count E.DICT_WRITES 1).checksOf d a (c.itemOf x a)) (enteredValue d ((c.count E.DICT_WRITES 1).getAt a (c.itemOf x a)) v len)).1 := by
  have hact : isAction a = true := by unfold isAction; simp only [hd, hx]; rfl
  have hn := Chip.storeWrite_noted (c := c.count E.DICT_WRITES 1) x d (c.itemOf x a) v len 1 hdep
  have ho : c.writeOne x a v len 0 = ((((c.count E.DICT_WRITES 1).storeWrite x d a (c.itemOf x a) v len 1).1).startAction x a,
      if ((c.count E.DICT_WRITES 1).storeWrite x d a (c.itemOf x a) v len 1).2 then 5 else 0) := by
    unfold Chip.writeOne
    rw [if_neg (by simp [hi]), Chip.refusal_none hd (by rw [hx]; decide) hb]
    dsimp only
    rw [Chip.applyWrite_plain hd hi hp (by rw [hx]; decide), he, if_pos hact]
  exact ⟨_, _, by rw [Chip.writeBy_eq hr hw, ho], Chip.wrote_of_noted hn ha hm⟩

/-- A write of a value that every check passes, of an entry that starts nothing. -/
theorem Chip.writeBy_pass (hr : c.isReady = true) (hw : c.xportWrites x = true) (hd : descOf a = some d) (ho : d.access ≠ .ro) (hx : d.access ≠ .x)
    (hp' : d.access ≠ .rwp) (hi : c.ignored a = false) (hb : c.actionBusy a = false) (hdep : dependents a = []) (hp : plainEntry a = true)
    (hs : d.type ≠ .s20) (hv : enteredValue d ((c.count E.DICT_WRITES 1).getAt a (c.itemOf x a)) v len = v)
    (hc : ∀ f ∈ (c.count E.DICT_WRITES 1).checksOf d a (c.itemOf x a), f v = v) :
    c.writeBy x a v len 0 = (c.effect ((c.count E.DICT_WRITES 1).setAt a (c.itemOf x a) v) x a (c.itemOf x a)).emit (.reply x 2 0 []) := by
  have hact : isAction a = false := by unfold isAction; simp only [hd, hx]; rfl
  have h1 : c.writeOne x a v len 0 = (c.effect ((c.count E.DICT_WRITES 1).setAt a (c.itemOf x a) v) x a (c.itemOf x a), 0) := by
    unfold Chip.writeOne
    rw [if_neg (by simp [hi]), Chip.refusal_none hd ho hb]
    dsimp only
    rw [Chip.applyWrite_plain hd hi hp hp', Chip.storeWrite_pass x 1 hdep hs (by rw [hv]; exact hc), hv, hact]
    rfl
  rw [Chip.writeBy_eq hr hw, h1]

end
end Sys2Proof.Machine
end

section
/-! Proofs of the family of peer windows (R325, R328, R329). -/
namespace Sys2Proof.Machine

/-- Entries that every part has are not ignored. -/
theorem Chip.ignored_false {c : Chip} {a : Nat} (h : ¬(0x5800 ≤ a / 256 ∧ a / 256 ≤ 0x5BFF)) (h' : idxOf a ≠ 0x5181 ∧ idxOf a ≠ 0x5191) : c.ignored a = false := by
  unfold Chip.ignored Chip.noPair
  rw [decide_eq_false h]
  simp [h'.1, h'.2]

/-! ### A window read back -/

theorem Chip.win5_port (c : Chip) (p w : Nat) : (c.win5 p w).port = p ∧ (c.win5 p w).win = w := by
  unfold Chip.win5
  split
  · next h => simpa using List.find?_some h
  · exact ⟨rfl, rfl⟩

theorem Chip.win5_setWin5 {c : Chip} {v : Win5} {p w : Nat} (hp : v.port = p) (hw : v.win = w) : (c.setWin5 v).win5 p w = v := by
  subst hp hw
  unfold Chip.win5 Chip.setWin5
  dsimp only
  rw [find_upsert _ v (by simp)]

theorem Chip.win5_congr {c d : Chip} (h : d.wins = c.wins) (p w : Nat) : d.win5 p w = c.win5 p w := by unfold Chip.win5; rw [h]

theorem Chip.win5_end (b c : Chip) (p w : Nat) : (b.seal (b.notices c)).win5 p w = c.win5 p w :=
  Chip.win5_congr (by rw [Chip.seal_wins, Chip.notices_wins]) p w

/-! ### Commands of a window -/

/-- A window with the fields that its entries give, as it is armed. -/
def Chip.armed (c : Chip) (p w : Nat) : Win5 :=
  { port := p, win := w, state := 1, base := c.getAt E.PW_BASE (winItem p w), size := c.getAt E.PW_SIZE (winItem p w),
    dbAddr := c.getAt E.PW_DB_ADDR (winItem p w), dbSize := c.getAt E.PW_DB_SIZE (winItem p w), template := c.getAt E.PW_DB_TEMPLATE (winItem p w),
    fieldA := c.getAt E.PW_DB_FIELD_A (winItem p w), fieldB := c.getAt E.PW_DB_FIELD_B (winItem p w), maxWork := c.getAt E.PW_MAX_WORK (winItem p w),
    owner := c.getAt E.PW_OWNER (winItem p w), ordered := decide (c.getAt E.PW_ORDERED (winItem p w) = 1), timeoutMs := c.getAt E.PW_TIMEOUT (winItem p w),
    count := 0, accepted := 0, timers := [], users := [], reading := [] }

theorem Chip.armWin_eq {c : Chip} {p w : Nat} (h : (c.win5 p w).state = 0) (hf : c.winFieldsOk (winItem p w) = true) :
    c.armWin p w = (((((c.setWin5 (c.armed p w)).setAt E.PW_CMD_RESULT (winItem p w) 0).setAt E.PW_DOORBELLS (winItem p w) 0).setAt E.PW_BYTES
      (winItem p w) 0).set (E.PW_CONSUMED0 + winItem p w) 0).set (E.PW_FAULT0 + winItem p w) 0 := by
  unfold Chip.armWin
  dsimp only
  rw [if_neg (by simp [h]), if_neg (by simp [hf])]
  rfl

/-- A window as it is retired. -/
def Win5.retired (v : Win5) : Win5 := { v with state := 2, users := [], timers := [], reading := [] }

/-- A window that no command uses, as it is retired. -/
theorem Chip.retireWin_unused {c : Chip} {p w : Nat} (cause : Nat) (h : (c.win5 p w).state = 1) (hu : (c.win5 p w).users = []) (hr : (c.win5 p w).reading = []) :
    c.retireWin p w cause none = ((c.setWin5 (c.win5 p w).retired).setAt E.PW_RETIRE_CAUSE
      (winItem p w) cause).event (0x410 + cause) 0 4 (c.unitIdent (mkUnit kPORT p)) [p, w] := by
  unfold Chip.retireWin
  dsimp only
  rw [if_neg (by simp [h]), hu, hr]
  rfl

theorem Chip.retireWin_frame {c : Chip} {p w : Nat} (cause : Nat) (h : (c.win5 p w).state = 1) (hu : (c.win5 p w).users = []) (hr : (c.win5 p w).reading = []) :
    ((c.retireWin p w cause none).win5 p w).state = 2 ∧ (c.retireWin p w cause none).getAt E.PW_RETIRE_CAUSE (winItem p w) = cause
      ∧ c.keeps (c.retireWin p w cause none) [.wins, .dict, .ev, .lg] ∧ c.keepsEntries (c.retireWin p w cause none) [E.PW_RETIRE_CAUSE] := by
  obtain ⟨h1, h2⟩ := c.win5_port p w
  rw [c.retireWin_unused cause h hu hr]
  refine ⟨?_, ?_, by simp [Chip.keeps_mono (Chip.keeps_setWin5 c _)], ?_⟩
  · rw [Chip.win5_congr (Chip.event_wins _ _ _ _ _ _), Chip.win5_congr (Chip.setAt_wins _ _ _ _), Chip.win5_setWin5 (v := (c.win5 p w).retired) h1 h2]
    rfl
  · rw [Chip.getAt_event _ _ _ _ _ _ (by decide), Chip.getAt_setAt, if_pos ⟨rfl, rfl⟩]
  · rw [Chip.keepsEntries_event_iff, Chip.keepsEntries_setAt_iff (by simp)]
    exact Chip.keepsEntries_vals rfl _

/-! ### The window that a command names -/

/-- What a write left alone is read as before. -/
theorem Chip.wrote_getAt {c c1 : Chip} {a item v : Nat} (h : c.wrote c1 a item v) {e i : Nat} (h1 : e ≠ a) (h2 : e ∉ E.DICT_WRITES :: clampEntries)
    (h3 : e ∉ eventMeters) : c1.getAt e i = c.getAt e i := h.2.1 e i (by simp only [List.mem_cons, not_or] at h2 ⊢; exact ⟨h1, h2⟩) h3

theorem winItem_split (it : Nat) : winItem (it / 256) (it % 256) = it := by unfold winItem; omega

theorem Chip.itemOf_pwCmd (c : Chip) (x : Xport) : c.itemOf x E.PW_CMD = c.sel x E.PW_SELECT := rfl

/-- A command to the selected window: it is stored, and acts on the window. -/
theorem Chip.writeBy_pwCmd {c : Chip} {x : Xport} {v : Nat} (hr : c.isReady = true) (hw : c.xportWrites x = true) (h1 : 1 ≤ v) (h3 : v ≤ 3) :
    ∃ c1 k, c.writeBy x E.PW_CMD v 0 0 = ((if v = 1 then c1.armWin (c.itemOf x E.PW_CMD / 256) (c.itemOf x E.PW_CMD % 256)
        else if v = 2 then c1.removeWin (c.itemOf x E.PW_CMD / 256) (c.itemOf x E.PW_CMD % 256)
        else c1.clearWin (c.itemOf x E.PW_CMD / 256) (c.itemOf x E.PW_CMD % 256))).emit (.reply x 2 k []) ∧ c.wrote c1 E.PW_CMD (c.itemOf x E.PW_CMD) v := by
  obtain ⟨c1, k, he, hc⟩ := Chip.writeBy_action (a := E.PW_CMD) (v := v) (len := 0) hr hw rfl rfl (Chip.ignored_false (by decide) (by decide)) rfl rfl rfl
    (fun _ _ _ => rfl) (by decide) (by decide)
  rw [runChecks_pass] at hc
  · have hi : c1.itemOf x E.PW_CMD = c.itemOf x E.PW_CMD := Chip.wrote_getAt hc (e := E.PW_SELECT) (by decide) (by decide) (by decide)
    have hv : c1.getAt E.PW_CMD (c1.itemOf x E.PW_CMD) = v := by rw [hi]; exact hc.2.2.1
    refine ⟨c1, k, he.trans ?_, hc⟩
    have hs : c1.startAction x E.PW_CMD = if c1.getAt E.PW_CMD (c1.itemOf x E.PW_CMD) = 1 then c1.armWin (c1.winSel x).1 (c1.winSel x).2
        else if c1.getAt E.PW_CMD (c1.itemOf x E.PW_CMD) = 2 then c1.removeWin (c1.winSel x).1 (c1.winSel x).2
        else c1.clearWin (c1.winSel x).1 (c1.winSel x).2 := rfl
    have hw : c1.winSel x = (c.itemOf x E.PW_CMD / 256, c.itemOf x E.PW_CMD % 256) := by rw [← hi]; rfl
    rw [hs, hv, hw]
  · intro f hf
    have hl : (c.count E.DICT_WRITES 1).checksOf ⟨0x51000E, 0x51000E, "PW_CMD", .u20, .x, 0, 0, 1, 3, [], [], 0, .item, 0, 0⟩ E.PW_CMD (c.itemOf x E.PW_CMD)
        = [within 1 3] := rfl
    rw [hl, List.mem_singleton] at hf
    subst hf
    show within 1 3 v = v
    unfold within
    omega

/-! ### Cells of windows -/

/-- A row of a table whose other rows lie below or above it is the one that is found. -/
theorem find_row_of_apart {l : List Desc} {row : Desc} {a : Nat} (hm : row ∈ l) (h : ∀ r ∈ l, r.last < row.addr ∨ row.last < r.addr ∨ r = row)
    (h1 : row.addr ≤ a) (h2 : a ≤ row.last) : l.find? (fun d => decide (d.addr ≤ a) && decide (a ≤ d.last)) = some row := by
  cases hf : l.find? (fun d => decide (d.addr ≤ a) && decide (a ≤ d.last)) with
  | none =>
    rw [List.find?_eq_none] at hf
    exact absurd (hf row hm) (by simp [h1, h2])
  | some r =>
    have hr := List.find?_some hf
    simp only [Bool.and_eq_true, decide_eq_true_eq] at hr
    rcases h r (List.mem_of_find?_eq_some hf) with h | h | h
    · omega
    · omega
    · rw [h]

/-- The row of the cells of a port's windows: consumed counts, or fault codes. -/
def cellRow (base : Nat) (name : String) : Desc := ⟨base, base + 255, name, .u20, .rw, 0, 0, 0, 1048575, [], [], 0, .device, 0, 0⟩

theorem cellRow_apart : ∀ row ∈ [cellRow 0x518000 "PW_CONSUMED", cellRow 0x518100 "PW_CONSUMED", cellRow 0x519000 "PW_FAULT", cellRow 0x519100 "PW_FAULT"],
    row ∈ dictRowsC ∧ ∀ r ∈ dictRowsC, r.last < row.addr ∨ row.last < r.addr ∨ r = row := by decide +kernel

theorem descOf_cell {row : Desc} {a : Nat} (hr : row ∈ [cellRow 0x518000 "PW_CONSUMED", cellRow 0x518100 "PW_CONSUMED", cellRow 0x519000 "PW_FAULT",
    cellRow 0x519100 "PW_FAULT"]) (h1 : row.addr ≤ a) (h2 : a ≤ row.last) (hlo : 0x518000 ≤ a) (hhi : a < 0x520000) : descOf a = some row := by
  obtain ⟨hm, hu⟩ := cellRow_apart row hr
  unfold descOf rowsFor
  rw [if_neg (by omega), if_neg (by omega), if_pos (by omega)]
  exact find_row_of_apart hm hu h1 h2

theorem Chip.bound_cell (c : Chip) {a : Nat} (hlo : 0x518000 ≤ a) (hhi : a < 0x520000) (v : Nat) : c.bound a v = v := by
  have hne : ∀ e, e < 0x518000 ∨ 0x520000 ≤ e → a ≠ e := fun e he => by omega
  unfold Chip.bound
  simp only [hne E.DIE_SPARE_MIN (by decide), hne E.GC_URGENT (by decide), hne E.NAND_RATE_FLOOR (by decide), hne E.TIMEOUT_READ (by decide),
    hne E.TIMEOUT_PROGRAM (by decide), hne E.REFRESH_INT1 (by decide), hne E.REFRESH_INT2 (by decide), hne E.REFRESH_INT3 (by decide),
    hne E.BUCKET_BOUNDS (by decide), hne E.STORE_V_CUT (by decide), hne E.MIRROR_SLOTS (by decide), hne E.PS1_MP (by decide), hne E.PS2_MP (by decide),
    hne E.PS4_MP (by decide), hne E.IDLE_PS4 (by decide), hne E.VCORE_MAX (by decide), hne E.THERM_THROTTLE (by decide),
    hne E.THERM_SHUTDOWN (by decide), if_false]

theorem dependents_cell {a : Nat} (hlo : 0x518000 ≤ a) (hhi : a < 0x520000) : dependents a = [] := by
  have hne : ∀ e, e < 0x518000 ∨ 0x520000 ≤ e → a ≠ e := fun e he => by omega
  unfold dependents
  simp only [hne E.SPARE_INIT (by decide), hne E.GC_START (by decide), hne E.NAND_RATE_MAX (by decide), hne E.TR_WORST_SLC (by decide),
    hne E.TR_WORST_QLC (by decide), hne E.TPROG_WORST_SLC (by decide), hne E.REFRESH_INT0 (by decide), hne E.REFRESH_INT1 (by decide),
    hne E.REFRESH_INT2 (by decide), hne E.STORE_V_FULL (by decide), hne E.STORE_KIND (by decide), hne E.STORE_CELLS (by decide),
    hne E.CRU_SIZE (by decide), hne E.PS0_MP (by decide), hne E.PS1_MP (by decide), hne E.PS3_MP (by decide), hne E.IDLE_PS3 (by decide),
    hne E.VCORE_MIN (by decide), hne E.THERM_WARN (by decide), hne E.THERM_THROTTLE (by decide), or_self, if_false]

theorem Chip.ownChecks_cell (c : Chip) {a : Nat} (hlo : 0x518000 ≤ a) (hhi : a < 0x520000) (item : Nat) : c.ownChecks a item = [] := by
  have hne : ∀ e, e < 0x518000 ∨ 0x520000 ≤ e → a ≠ e := fun e he => by omega
  have hb : isBudget a = false := by
    unfold isBudget idxOf
    have : ¬ (a / 256 ≤ 0x2040) := by omega
    simp [this]
  unfold Chip.ownChecks
  simp only [hne E.UNIT_SELECT (by decide), hne E.UNIT_RETIRE (by decide), hb, hne E.NAND_RATE_MAX (by decide), hne E.NAND_RATE_FLOOR (by decide),
    hne E.PORT_MODE (by decide), hne E.PW_SELECT (by decide), hne E.PW_OWNER (by decide), hne E.LAYOUT_FAMILY (by decide), hne E.ZT_ORDER (by decide),
    hne E.ZT_ENTRIES (by decide), hne E.HOUSEKEEPING_WAKE (by decide), hne E.BUCKET_BOUNDS (by decide), hne E.THROTTLE_FACTORS (by decide),
    or_self, false_and, if_false, Bool.false_eq_true]

section
variable {c : Chip} {x : Xport} {port win v : Nat}

theorem Chip.itemOf_device {c : Chip} {x : Xport} {a : Nat} {d : Desc} (hd : descOf a = some d) (hs : d.scope = .device) : c.itemOf x a = 0 := by
  unfold Chip.itemOf
  simp only [hd]
  exact if_pos hs

/-- A write of a cell is checked against 20 bits alone, and stored. -/
theorem Chip.storeWrite_cell (c : Chip) (x : Xport) {row : Desc} {a : Nat} (hr : row ∈ [cellRow 0x518000 "PW_CONSUMED", cellRow 0x518100 "PW_CONSUMED",
    cellRow 0x519000 "PW_FAULT", cellRow 0x519100 "PW_FAULT"]) (hlo : 0x518000 ≤ a) (hhi : a < 0x520000) (hv : v < 2 ^ 20) :
    c.storeWrite x row a 0 v 0 1 = (c.setAt a 0 v, false) := by
  have hrow : row.type = .u20 ∧ row.scope = .device ∧ row.checks = [within 0 1048575] := by
    simp only [List.mem_cons, List.not_mem_nil, or_false] at hr
    rcases hr with rfl | rfl | rfl | rfl <;> exact ⟨rfl, rfl, rfl⟩
  obtain ⟨ht, hsc, hc⟩ := hrow
  have he : enteredValue row (c.getAt a 0) v 0 = v := by unfold enteredValue; simp only [ht]
  rw [Chip.storeWrite_pass x 1 (dependents_cell hlo hhi) (by rw [ht]; decide) (by
    rw [he]
    intro f hf
    unfold Chip.checksOf at hf
    rw [hc, Chip.ownChecks_cell c hlo hhi, if_pos hsc] at hf
    simp only [List.append_nil, List.cons_append, List.nil_append, List.mem_cons, List.not_mem_nil, or_false] at hf
    rcases hf with rfl | rfl
    · unfold within; omega
    · exact c.bound_cell hlo hhi v), he]

theorem Chip.writeOne_cell {row : Desc} {a : Nat} (hr : row ∈ [cellRow 0x518000 "PW_CONSUMED", cellRow 0x518100 "PW_CONSUMED",
    cellRow 0x519000 "PW_FAULT", cellRow 0x519100 "PW_FAULT"]) (hd : descOf a = some row) (hi : c.ignored a = false) (hlo : 0x518000 ≤ a) (hhi : a < 0x520000) :
    c.writeOne x a v 0 0 = ((c.applyWrite x a v 0).1, if (c.applyWrite x a v 0).2 then 5 else 0) := by
  have hrow : row.access = .rw := by
    simp only [List.mem_cons, List.not_mem_nil, or_false] at hr
    rcases hr with rfl | rfl | rfl | rfl <;> rfl
  have hact : isAction a = false := by unfold isAction; simp only [hd, hrow]; rfl
  have hb : c.actionBusy a = false := by
    unfold Chip.actionBusy
    rw [if_neg (by simp only [E.TAP_CHECK_RUN]; omega), if_neg (by simp only [E.PROOF_RUN]; omega), if_neg (by simp only [E.IMAGE_FLUSH]; omega)]
  unfold Chip.writeOne
  rw [if_neg (by simp [hi]), Chip.refusal_none hd (by rw [hrow]; decide) hb, hact]
  rfl

/-- The row of a window's cell. -/
theorem descOf_winCell (hp : port ≤ 1) (hw : win ≤ 255) :
    (∃ row ∈ [cellRow 0x518000 "PW_CONSUMED", cellRow 0x518100 "PW_CONSUMED", cellRow 0x519000 "PW_FAULT", cellRow 0x519100 "PW_FAULT"],
        descOf (E.PW_CONSUMED0 + winItem port win) = some row ∧ row.scope = .device)
      ∧ ∃ row ∈ [cellRow 0x518000 "PW_CONSUMED", cellRow 0x518100 "PW_CONSUMED", cellRow 0x519000 "PW_FAULT", cellRow 0x519100 "PW_FAULT"],
        descOf (E.PW_FAULT0 + winItem port win) = some row ∧ row.scope = .device := by
  unfold winItem E.PW_CONSUMED0 E.PW_FAULT0
  interval_cases port
  · exact ⟨⟨_, List.mem_cons_self, descOf_cell List.mem_cons_self (by simp only [cellRow]; omega) (by simp only [cellRow]; omega) (by omega) (by omega), rfl⟩,
      ⟨cellRow 0x519000 "PW_FAULT", by simp, descOf_cell (by simp) (by simp only [cellRow]; omega) (by simp only [cellRow]; omega) (by omega) (by omega), rfl⟩⟩
  · exact ⟨⟨cellRow 0x518100 "PW_CONSUMED", by simp, descOf_cell (by simp) (by simp only [cellRow]; omega) (by simp only [cellRow]; omega) (by omega) (by omega), rfl⟩,
      ⟨cellRow 0x519100 "PW_FAULT", by simp, descOf_cell (by simp) (by simp only [cellRow]; omega) (by simp only [cellRow]; omega) (by omega) (by omega), rfl⟩⟩

theorem Chip.ignored_winCell (hp : port ≤ 1) (hw : win ≤ 255) (hs : port = 0 ∨ c.singlePort = false) :
    c.ignored (E.PW_CONSUMED0 + winItem port win) = false ∧ c.ignored (E.PW_FAULT0 + winItem port win) = false := by
  unfold Chip.ignored Chip.noPair winItem E.PW_CONSUMED0 E.PW_FAULT0 idxOf
  rcases hs with rfl | hs
  · refine ⟨?_, ?_⟩ <;> simp <;> omega
  · rw [hs]
    refine ⟨?_, ?_⟩ <;> simp <;> omega

/-- A write of a consumed count reaches its window; what the cell held is put back first. -/
theorem Chip.writeBy_consumed (hr : c.isReady = true) (hx : c.xportWrites x = true) (hp : port ≤ 1) (hw : win ≤ 255) (hs : port = 0 ∨ c.singlePort = false)
    (hv : v < 2 ^ 20) : c.writeBy x (E.PW_CONSUMED0 + winItem port win) v 0 0
      = ((((c.count E.DICT_WRITES 1).setAt (E.PW_CONSUMED0 + winItem port win) 0 v).setAt (E.PW_CONSUMED0 + winItem port win) 0
          ((c.count E.DICT_WRITES 1).getAt (E.PW_CONSUMED0 + winItem port win) 0)).consumed port win v).emit (.reply x 2 0 []) := by
  obtain ⟨⟨row, hrow, hd, hsc⟩, -⟩ := descOf_winCell hp hw
  obtain ⟨hi, -⟩ := c.ignored_winCell hp hw hs
  have hlo : 0x518000 ≤ E.PW_CONSUMED0 + winItem port win := by unfold E.PW_CONSUMED0; omega
  have hhi : E.PW_CONSUMED0 + winItem port win < 0x520000 := by unfold E.PW_CONSUMED0 winItem; omega
  have hidx : idxOf (E.PW_CONSUMED0 + winItem port win) = 0x5180 + port := by unfold idxOf E.PW_CONSUMED0 winItem; omega
  have hmod : (E.PW_CONSUMED0 + winItem port win) % 256 = win := by unfold E.PW_CONSUMED0 winItem; omega
  have ha : c.applyWrite x (E.PW_CONSUMED0 + winItem port win) v 0 = ((((c.count E.DICT_WRITES 1).setAt (E.PW_CONSUMED0 + winItem port win) 0 v).setAt
      (E.PW_CONSUMED0 + winItem port win) 0 ((c.count E.DICT_WRITES 1).getAt (E.PW_CONSUMED0 + winItem port win) 0)).consumed port win v, false) := by
    unfold Chip.applyWrite
    simp only [hd, hi, Chip.itemOf_device hd hsc, hidx, hmod]
    rw [if_neg (by simp), if_neg (by omega), if_neg (by omega), if_pos (by omega), Chip.storeWrite_cell _ x hrow hlo hhi hv]
    simp only [Chip.getAt_setAt, and_self, if_true, Nat.add_sub_cancel_left]
  rw [Chip.writeBy_eq hr hx, Chip.writeOne_cell hrow hd hi hlo hhi, ha]
  rfl

theorem Chip.writeBy_fault (hr : c.isReady = true) (hx : c.xportWrites x = true) (hp : port ≤ 1) (hw : win ≤ 255) (hs : port = 0 ∨ c.singlePort = false)
    (hv : v < 2 ^ 20) : c.writeBy x (E.PW_FAULT0 + winItem port win) v 0 0
      = ((((c.count E.DICT_WRITES 1).setAt (E.PW_FAULT0 + winItem port win) 0 v)).faulted port win v).emit (.reply x 2 0 []) := by
  obtain ⟨-, ⟨row, hrow, hd, hsc⟩⟩ := descOf_winCell hp hw
  obtain ⟨-, hi⟩ := c.ignored_winCell hp hw hs
  have hlo : 0x518000 ≤ E.PW_FAULT0 + winItem port win := by unfold E.PW_FAULT0; omega
  have hhi : E.PW_FAULT0 + winItem port win < 0x520000 := by unfold E.PW_FAULT0 winItem; omega
  have hidx : idxOf (E.PW_FAULT0 + winItem port win) = 0x5190 + port := by unfold idxOf E.PW_FAULT0 winItem; omega
  have hmod : (E.PW_FAULT0 + winItem port win) % 256 = win := by unfold E.PW_FAULT0 winItem; omega
  have ha : c.applyWrite x (E.PW_FAULT0 + winItem port win) v 0 = ((((c.count E.DICT_WRITES 1).setAt (E.PW_FAULT0 + winItem port win) 0 v)).faulted port win v, false) := by
    unfold Chip.applyWrite
    simp only [hd, hi, Chip.itemOf_device hd hsc, hidx, hmod]
    rw [if_neg (by simp), if_neg (by omega), if_neg (by omega), if_neg (by omega), if_pos (by omega), Chip.storeWrite_cell _ x hrow hlo hhi hv]
    simp only [Chip.getAt_setAt, and_self, if_true, Nat.add_sub_cancel_left]
  rw [Chip.writeBy_eq hr hx, Chip.writeOne_cell hrow hd hi hlo hhi, ha]
  rfl
end

theorem cell_notMeter {a : Nat} (hlo : 0x518000 ≤ a) (hhi : a < 0x520000) : a ∉ eventMeters := fun h => by
  have hm : ∀ e ∈ eventMeters, e < 0x518000 ∨ 0x520000 ≤ e := by decide
  have := hm a h
  omega

/-- A window with a count accepted. -/
def Win5.taken (k : Win5) (v : Nat) : Win5 := { k with accepted := v % 2 ^ 20, timers := k.timers.drop (serialDist 20 k.accepted v) }

theorem Chip.consumed_frame {c : Chip} {p w v : Nat} (hv : v < 2 ^ 20) (h : serialDist 20 (c.win5 p w).accepted v ≤ serialDist 20 (c.win5 p w).accepted (c.win5 p w).count) :
    (c.consumed p w v).win5 p w = { c.win5 p w with accepted := v, timers := (c.win5 p w).timers.drop (serialDist 20 (c.win5 p w).accepted v) }
      ∧ (c.consumed p w v).getAt (E.PW_CONSUMED0 + winItem p w) 0 = v ∧ c.keeps (c.consumed p w v) [.wins, .dict] := by
  obtain ⟨h1, h2⟩ := c.win5_port p w
  have he : c.consumed p w v = (c.setWin5 ((c.win5 p w).taken v)).set (E.PW_CONSUMED0 + winItem p w) (v % 2 ^ 20) := by
    unfold Chip.consumed
    dsimp only
    rw [if_neg (Nat.not_lt.2 h)]
    rfl
  rw [he]
  refine ⟨?_, ?_, by simp [Chip.set, Chip.keeps_mono (Chip.keeps_setWin5 c _)]⟩
  · rw [Chip.set, Chip.win5_congr (Chip.setAt_wins _ _ _ _), Chip.win5_setWin5 (v := (c.win5 p w).taken v) h1 h2]
    unfold Win5.taken
    rw [Nat.mod_eq_of_lt hv]
  · rw [Chip.set, Chip.getAt_setAt, if_pos ⟨rfl, rfl⟩, Nat.mod_eq_of_lt hv]

theorem Chip.armWin_frame {c : Chip} {p w : Nat} (h : (c.win5 p w).state = 0) (hf : c.winFieldsOk (winItem p w) = true) :
    (c.armWin p w).win5 p w = c.armed p w ∧ (c.armWin p w).getAt E.PW_CMD_RESULT (winItem p w) = 0 ∧ (c.armWin p w).getAt E.PW_DOORBELLS (winItem p w) = 0
      ∧ (c.armWin p w).getAt E.PW_BYTES (winItem p w) = 0 ∧ c.keeps (c.armWin p w) [.wins, .dict] := by
  have hne : ∀ e, e < 0x518000 → e ≠ E.PW_CONSUMED0 + winItem p w ∧ e ≠ E.PW_FAULT0 + winItem p w := fun e he => by
    unfold E.PW_CONSUMED0 E.PW_FAULT0; omega
  rw [Chip.armWin_eq h hf]
  refine ⟨?_, ?_, ?_, ?_, by simp [Chip.set, Chip.keeps_mono (Chip.keeps_setWin5 c _)]⟩
  · simp only [Chip.set]
    rw [Chip.win5_congr (Chip.setAt_wins _ _ _ _), Chip.win5_congr (Chip.setAt_wins _ _ _ _), Chip.win5_congr (Chip.setAt_wins _ _ _ _),
      Chip.win5_congr (Chip.setAt_wins _ _ _ _), Chip.win5_congr (Chip.setAt_wins _ _ _ _)]
    exact Chip.win5_setWin5 (v := c.armed p w) rfl rfl
  all_goals
    simp only [Chip.set, Chip.getAt_setAt]
    rw [if_neg fun hn => (hne _ (by decide)).2 hn.1, if_neg fun hn => (hne _ (by decide)).1 hn.1]
    simp

theorem Chip.removeWin_frame {c : Chip} {p w : Nat} (h : (c.win5 p w).state = 1) (hu : (c.win5 p w).users = []) (hr : (c.win5 p w).reading = []) :
    ((c.removeWin p w).win5 p w).state = 2 ∧ (c.removeWin p w).getAt E.PW_RETIRE_CAUSE (winItem p w) = 2
      ∧ (c.removeWin p w).getAt E.PW_CMD_RESULT (winItem p w) = 0 ∧ c.keeps (c.removeWin p w) [.wins, .dict, .ev, .lg] := by
  obtain ⟨h1, h2, h3, -⟩ := Chip.retireWin_frame 2 h hu hr
  have he : c.removeWin p w = (c.retireWin p w 2 none).setAt E.PW_CMD_RESULT (winItem p w) 0 := if_neg (by simp [h])
  rw [he]
  refine ⟨?_, ?_, ?_, by simp [h3]⟩
  · rw [Chip.win5_congr (Chip.setAt_wins _ _ _ _)]; exact h1
  · rw [Chip.getAt_setAt, if_neg (by simp)]; exact h2
  · rw [Chip.getAt_setAt, if_pos ⟨rfl, rfl⟩]

theorem Chip.clearWin_frame {c : Chip} {p w : Nat} (h : (c.win5 p w).state = 2) (hu : (c.win5 p w).users = []) (hr : (c.win5 p w).reading = []) :
    ((c.clearWin p w).win5 p w).state = 0 ∧ (c.clearWin p w).getAt E.PW_CMD_RESULT (winItem p w) = 0 ∧ c.keeps (c.clearWin p w) [.wins, .dict] := by
  obtain ⟨h1, h2⟩ := c.win5_port p w
  have he : c.clearWin p w = (c.setWin5 { c.win5 p w with state := 0 }).setAt E.PW_CMD_RESULT (winItem p w) 0 := if_neg (by simp [h, hu, hr])
  rw [he]
  refine ⟨?_, ?_, by simp [Chip.keeps_mono (Chip.keeps_setWin5 c _)]⟩
  · rw [Chip.win5_congr (Chip.setAt_wins _ _ _ _), Chip.win5_setWin5 (v := { c.win5 p w with state := 0 }) h1 h2]
  · rw [Chip.getAt_setAt, if_pos ⟨rfl, rfl⟩]

/-- A command to a window, as its step ends. -/
theorem Completes.of_pwCmd {i : Instr} {s : State} {t it v : Nat} {x : Xport} {f : Chip → Nat → Nat → Chip} {P : Chip → Prop} (hr : s.chip.isReady = true)
    (hx : s.chip.xportWrites x = true) (hit : it = s.chip.itemOf x E.PW_CMD) (h1 : 1 ≤ v) (h3 : v ≤ 3) (he : exec i s = writeActionRow s t x E.PW_CMD v 0)
    (hf : ∀ (c : Chip) (p w : Nat), (if v = 1 then c.armWin p w else if v = 2 then c.removeWin p w else c.clearWin p w) = f c p w)
    (hk : ∀ c1 : Chip, (s.chip.atTime t).wrote c1 E.PW_CMD it v → c1.keeps (f c1 (it / 256) (it % 256)) [.wins, .dict, .ev, .lg])
    (hP : ∀ c1 c : Chip, (s.chip.atTime t).wrote c1 E.PW_CMD it v → (∀ p w, c1.win5 p w = s.chip.win5 p w) →
      (∀ e, e ≠ E.PW_CMD → e ∉ E.DICT_WRITES :: clampEntries → e ∉ eventMeters → c1.getAt e it = s.chip.getAt e it) →
      (∀ p w, c.win5 p w = (f c1 (it / 256) (it % 256)).win5 p w) →
      (∀ e n, e ∉ eventMeters → (f c1 (it / 256) (it % 256)).getAt e it = n → c.getAt e it = n) → s.chip.keeps c (.wins :: notePart) → P c) :
    Completes i s P := by
  obtain ⟨c1, n, hw, hc⟩ := Chip.writeBy_pwCmd (c := s.chip.atTime t) (v := v) hr hx h1 h3
  rw [show (s.chip.atTime t).itemOf x E.PW_CMD = it from hit.symm, hf] at hw
  rw [show (s.chip.atTime t).itemOf x E.PW_CMD = it from hit.symm] at hc
  refine Completes.of_run (f := fun c => c.writeBy x E.PW_CMD v 0 0) he ?_
  rw [hw]
  refine hP c1 _ hc (fun p w => Chip.win5_congr (hc.1 .wins (by decide)) p w) (fun e g1 g2 g3 => Chip.wrote_getAt hc g1 g2 g3)
    (fun p w => (Chip.win5_end _ _ _ _).trans (Chip.win5_congr rfl p w)) (fun e v g1 g2 => Chip.get_end g1 g2)
    (Chip.keeps_ended t ((Chip.keeps_emit_iff _).2 (Chip.keeps_mono (Chip.keeps_trans hc.1 (hk c1 hc)) (by decide))) (by decide) (by decide))

theorem Chip.faulted_eq (c : Chip) (p w : Nat) {v : Nat} (h : v ≠ 0) : c.faulted p w v = (c.set (E.PW_FAULT0 + winItem p w) v).retireWin p w 3 none := if_neg h

theorem Chip.keeps_stored (c : Chip) (a v : Nat) : c.keeps ((c.count E.DICT_WRITES 1).setAt a 0 v) [.dict] :=
  (Chip.keeps_setAt_iff (by decide) ..).2 ((Chip.keeps_countAt_iff (by decide) ..).2 (Chip.keeps_refl c _))

theorem Chip.consumed_stored {c : Chip} {p w v u a : Nat} (hv : v < 2 ^ 20)
    (h : serialDist 20 (c.win5 p w).accepted v ≤ serialDist 20 (c.win5 p w).accepted (c.win5 p w).count) :
    ((((c.count E.DICT_WRITES 1).setAt a 0 v).setAt a 0 u).consumed p w v).win5 p w
        = { c.win5 p w with accepted := v, timers := (c.win5 p w).timers.drop (serialDist 20 (c.win5 p w).accepted v) }
      ∧ ((((c.count E.DICT_WRITES 1).setAt a 0 v).setAt a 0 u).consumed p w v).getAt (E.PW_CONSUMED0 + winItem p w) 0 = v
      ∧ c.keeps ((((c.count E.DICT_WRITES 1).setAt a 0 v).setAt a 0 u).consumed p w v) [.wins, .dict] := by
  have hk := (Chip.keeps_setAt_iff (by decide) a 0 u).2 (c.keeps_stored a v)
  have hwin := Chip.win5_congr (hk .wins (by decide)) p w
  obtain ⟨g1, g2, g3⟩ := Chip.consumed_frame hv (by rw [hwin]; exact h)
  exact ⟨by rw [g1, hwin], g2, Chip.keeps_mono (Chip.keeps_trans hk g3) (by decide)⟩

theorem Chip.faulted_stored {c : Chip} {p w : Nat} (v : Nat) (hm : E.PW_FAULT0 + winItem p w ∉ eventMeters) (hne : E.PW_FAULT0 + winItem p w ≠ E.PW_RETIRE_CAUSE)
    (h : (c.win5 p w).state = 1) (hu : (c.win5 p w).users = []) (hr : (c.win5 p w).reading = []) :
    (((((c.count E.DICT_WRITES 1).setAt (E.PW_FAULT0 + winItem p w) 0 v).set (E.PW_FAULT0 + winItem p w) v).retireWin p w 3 none).win5 p w).state = 2
      ∧ (((c.count E.DICT_WRITES 1).setAt (E.PW_FAULT0 + winItem p w) 0 v).set (E.PW_FAULT0 + winItem p w) v |>.retireWin p w 3 none).getAt
          E.PW_RETIRE_CAUSE (winItem p w) = 3
      ∧ (((c.count E.DICT_WRITES 1).setAt (E.PW_FAULT0 + winItem p w) 0 v).set (E.PW_FAULT0 + winItem p w) v |>.retireWin p w 3 none).getAt
          (E.PW_FAULT0 + winItem p w) 0 = v
      ∧ c.keeps (((c.count E.DICT_WRITES 1).setAt (E.PW_FAULT0 + winItem p w) 0 v).set (E.PW_FAULT0 + winItem p w) v |>.retireWin p w 3 none)
          [.wins, .dict, .ev, .lg] := by
  have hk := (Chip.keeps_setAt_iff (by decide) (E.PW_FAULT0 + winItem p w) 0 v).2 (c.keeps_stored (E.PW_FAULT0 + winItem p w) v)
  have hwin := Chip.win5_congr (hk .wins (by decide)) p w
  obtain ⟨g1, g2, g3, g4⟩ := Chip.retireWin_frame (c := (((c.count E.DICT_WRITES 1).setAt (E.PW_FAULT0 + winItem p w) 0 v).set (E.PW_FAULT0 + winItem p w) v)) 3
    (by rw [Chip.set, hwin]; exact h) (by rw [Chip.set, hwin]; exact hu) (by rw [Chip.set, hwin]; exact hr)
  refine ⟨g1, g2, (g4 _ 0 (by simpa using hne) hm).trans ?_, Chip.keeps_mono (Chip.keeps_trans hk g3) (by decide)⟩
  rw [Chip.set, Chip.getAt_setAt, if_pos ⟨rfl, rfl⟩]

theorem Chip.winTimeout_due {c : Chip} {p w t0 : Nat} {r : List Nat} (ht : (c.win5 p w).timers = t0 :: r) (h : (c.win5 p w).state = 1)
    (hle : t0 + (c.win5 p w).timeoutMs * cycPerMs ≤ c.now) : c.winTimeout p w = c.retireWin p w 1 none := by
  unfold Chip.winTimeout
  simp only [ht]
  exact if_pos ⟨h, hle⟩

/-- The fields of a window are those of the entries. -/
theorem Chip.winFieldsOk_congr {c d : Chip} {it : Nat} (h : ∀ e ∈ [E.PW_DB_SIZE, E.PW_BASE, E.PW_SIZE, E.PW_DB_ADDR, E.PW_DB_FIELD_A, E.PW_DB_FIELD_B],
    d.getAt e it = c.getAt e it) : d.winFieldsOk it = c.winFieldsOk it := by
  unfold Chip.winFieldsOk
  simp only [h E.PW_DB_SIZE (by simp), h E.PW_BASE (by simp), h E.PW_SIZE (by simp), h E.PW_DB_ADDR (by simp), h E.PW_DB_FIELD_A (by simp),
    h E.PW_DB_FIELD_B (by simp)]

end Sys2Proof.Machine

open Sys2Proof Sys2Proof.Machine

/-- Settles O39: a command or a cell reaches its window, which changes as its row says, and no other command is touched. -/
theorem windowsAreManaged : Obligations.WindowsAreManaged := by
  intro s t x it p w hr hx hit hp hw
  subst hp hw
  have hitem : winItem (it / 256) (it % 256) = it := winItem_split it
  refine ⟨fun h0 hf => ?_, fun h1 hu hrd => ?_, fun h2 hu hrd => ?_, fun port win k hp hw hs hk => ?_⟩
  · have hfields : ∀ {c1 : Chip}, (s.chip.atTime t).wrote c1 E.PW_CMD it 1 → c1.winFieldsOk it = true := fun hc => by
      rw [← hf]
      exact Chip.winFieldsOk_congr (c := s.chip) fun e he => Chip.wrote_getAt hc (by revert he; revert e; decide) (by revert he; revert e; decide)
        (by revert he; revert e; decide)
    have hfree : ∀ {c1 : Chip}, (s.chip.atTime t).wrote c1 E.PW_CMD it 1 → (c1.win5 (it / 256) (it % 256)).state = 0 := fun hc => by
      rw [Chip.win5_congr (c := s.chip) (hc.1 .wins (by decide))]; exact h0
    refine Completes.of_pwCmd (f := Chip.armWin) hr hx hit (by decide) (by decide) (exec_pwArm s t x) (fun _ _ _ => if_pos rfl)
      (fun c1 hc => Chip.keeps_mono (Chip.armWin_frame (hfree hc) (by rw [hitem]; exact hfields hc)).2.2.2.2 (by decide)) fun c1 c hc _ hg hwin hget hk => ?_
    obtain ⟨g1, g2, g3, g4, -⟩ := Chip.armWin_frame (hfree hc) (by rw [hitem]; exact hfields hc)
    rw [hitem] at g2 g3 g4
    rw [hwin, g1]
    unfold Chip.armed
    dsimp only
    rw [hitem]
    exact ⟨rfl, hg _ (by decide) (by decide) (by decide), hg _ (by decide) (by decide) (by decide), rfl, rfl, hget _ _ (by decide) g2,
      hget _ _ (by decide) g3, hget _ _ (by decide) g4, hk⟩
  · have hrem : ∀ {c1 : Chip}, (s.chip.atTime t).wrote c1 E.PW_CMD it 2 → _ := fun {c1} hc => by
      have e := Chip.win5_congr (c := s.chip) (d := c1) (hc.1 .wins (by decide)) (it / 256) (it % 256)
      exact Chip.removeWin_frame (c := c1) (p := it / 256) (w := it % 256) (by rw [e]; exact h1) (by rw [e]; exact hu) (by rw [e]; exact hrd)
    refine Completes.of_pwCmd (f := Chip.removeWin) hr hx hit (by decide) (by decide) (exec_pwRemove s t x) (fun _ _ _ => by rw [if_neg (by decide), if_pos rfl])
      (fun c1 hc => (hrem hc).2.2.2) fun c1 c hc _ _ hwin hget hk => ?_
    obtain ⟨g1, g2, g3, -⟩ := hrem hc
    rw [hitem] at g2 g3
    exact ⟨by rw [hwin]; exact g1, hget _ _ (by decide) g2, hget _ _ (by decide) g3, hk⟩
  · have hclr : ∀ {c1 : Chip}, (s.chip.atTime t).wrote c1 E.PW_CMD it 3 → _ := fun {c1} hc => by
      have e := Chip.win5_congr (c := s.chip) (d := c1) (hc.1 .wins (by decide)) (it / 256) (it % 256)
      exact Chip.clearWin_frame (c := c1) (p := it / 256) (w := it % 256) (by rw [e]; exact h2) (by rw [e]; exact hu) (by rw [e]; exact hrd)
    refine Completes.of_pwCmd (f := Chip.clearWin) hr hx hit (by decide) (by decide) (exec_pwClear s t x) (fun _ _ _ => by rw [if_neg (by decide), if_neg (by decide)])
      (fun c1 hc => Chip.keeps_mono (hclr hc).2.2 (by decide)) fun c1 c hc _ _ hwin hget hk => ?_
    obtain ⟨g1, g2, -⟩ := hclr hc
    rw [hitem] at g2
    exact ⟨by rw [hwin]; exact g1, hget _ _ (by decide) g2, hk⟩
  · subst hk
    have hmod : port % 2 = port ∧ win % 256 = win := by omega
    have hlo : 0x518000 ≤ E.PW_CONSUMED0 + winItem port win ∧ E.PW_CONSUMED0 + winItem port win < 0x520000 := by unfold E.PW_CONSUMED0 winItem; omega
    have hlo' : 0x518000 ≤ E.PW_FAULT0 + winItem port win ∧ E.PW_FAULT0 + winItem port win < 0x520000 := by unfold E.PW_FAULT0 winItem; omega
    refine ⟨fun v hv hle => ?_, fun v h0 hv h1 hu hrd => ?_, fun t0 r ht hle h1 hu hrd => ?_⟩
    · have he : exec (.pwConsumedWrite t x port win v) s = run s t fun c => c.writeBy x (E.PW_CONSUMED0 + winItem port win) v 0 0 := by
        rw [exec_pwConsumedWrite, execPwConsumedWrite, hmod.1, hmod.2]; rfl
      refine Completes.of_run he ?_
      rw [Chip.writeBy_consumed (c := s.chip.atTime t) hr hx hp hw hs hv]
      have hwin : (s.chip.atTime t).win5 port win = s.chip.win5 port win := Chip.win5_congr rfl port win
      obtain ⟨g1, g2, g3⟩ := Chip.consumed_stored (c := s.chip.atTime t) (p := port) (w := win) (a := E.PW_CONSUMED0 + winItem port win) hv
        (by rw [hwin]; exact hle)
      refine ⟨?_, Chip.get_end (cell_notMeter hlo.1 hlo.2) ((Chip.getAt_emit _ _ _ _).trans g2), Chip.keeps_ended t ((Chip.keeps_emit_iff _).2 (Chip.keeps_mono g3 (by decide))) (by decide) (by decide)⟩
      rw [Chip.win5_end, Chip.win5_congr (Chip.emit_wins _ _), g1, hwin]
    · have he : exec (.pwFaultWrite t x port win v) s = run s t fun c => c.writeBy x (E.PW_FAULT0 + winItem port win) v 0 0 := by
        rw [exec_pwFaultWrite, execPwFaultWrite, hmod.1, hmod.2]; rfl
      refine Completes.of_run he ?_
      rw [Chip.writeBy_fault (c := s.chip.atTime t) hr hx hp hw hs hv, Chip.faulted_eq _ _ _ (by omega)]
      obtain ⟨g1, g2, g3, g4⟩ := Chip.faulted_stored (c := s.chip.atTime t) v (cell_notMeter hlo'.1 hlo'.2) (by rw [E.PW_RETIRE_CAUSE]; omega) h1 hu hrd
      refine ⟨?_, Chip.get_end (by decide) g2, Chip.get_end (cell_notMeter hlo'.1 hlo'.2) g3,
        Chip.keeps_ended t ((Chip.keeps_emit_iff _).2 (Chip.keeps_mono g4 (by decide))) (by decide) (by decide)⟩
      rw [Chip.win5_end, Chip.win5_congr (Chip.emit_wins _ _), g1]
    · refine Completes.of_when (exec_pwTimeout s t port win) hr ?_
      rw [Chip.winTimeout_due (c := s.chip.atTime t) ht h1 hle]
      obtain ⟨g1, g2, g3, -⟩ := Chip.retireWin_frame (c := s.chip.atTime t) 1 h1 hu hrd
      exact ⟨by rw [Chip.win5_end, g1], Chip.get_end (by decide) g2, Chip.keeps_ended t (Chip.keeps_mono g3 (by decide)) (by decide) (by decide)⟩
end

section
/-! Proofs of the family of actions that take a picture or start a check (R31, R277, R286, R288, R374). -/
namespace Sys2Proof.Machine

/-! ### Frames -/

theorem Chip.keepsEntries_padRow (c : Chip) (id : Nat) : c.keepsEntries (c.padRow id) [E.CRU_PAD_UNITS] := by
  unfold Chip.padRow
  split
  · exact Chip.keepsEntries_refl _ _
  · split
    · exact Chip.keepsEntries_refl _ _
    · extract_lets free r1 c1
      refine (Chip.keepsEntries_iff (m := []) (Chip.keepsEntries_of_keeps (Chip.keeps_rowProgress _ _) (by decide) _) (by simp)).2 ?_
      refine (Chip.keepsEntries_each_iff (fun d m => Chip.keepsEntries_of_keeps (Chip.keeps_programPage d _ _ _ _ _) (by decide) _) _).2 ?_
      exact (Chip.keepsEntries_countAt_iff (by simp) _ _).2 (Chip.keepsEntries_vals rfl _)

theorem Chip.keepsEntries_fillN (n : Nat) (c : Chip) : c.keepsEntries (Chip.fillN n c) [] := by
  induction n generalizing c with
  | zero => exact Chip.keepsEntries_refl _ _
  | succ n ih =>
    unfold Chip.fillN
    split
    · next h => exact Chip.keepsEntries_trans (Chip.keepsEntries_of_keeps (Chip.keeps_fillOne h) (by decide) []) (ih _)
    · split
      · simp
      · exact Chip.keepsEntries_refl _ _

theorem Chip.keepsEntries_drainCrucible (c : Chip) : c.keepsEntries c.drainCrucible [E.CRU_PAD_UNITS] := by
  unfold Chip.drainCrucible
  extract_lets c1
  exact (Chip.keepsEntries_each_iff (fun d i => d.keepsEntries_padRow i) _).2 (Chip.keepsEntries_mono (Chip.keepsEntries_fillN _ _) (by simp))

theorem Chip.get_set (c : Chip) (a v e : Nat) : (c.set a v).get e = if e = a then v else c.get e := by
  rw [Chip.set, Chip.get, Chip.getAt_setAt]
  simp only [and_true]

theorem Chip.keepsEntries_setWt (c : Chip) (b : Bool) : c.keepsEntries (c.setWt b) [E.WT_CAUSE] := by
  unfold Chip.setWt
  extract_lets w old c1 sev c2
  have h1 : c.keepsEntries c1 [E.WT_CAUSE] := Chip.keepsEntries_setAt _ _ _ _
  have h2 : c.keepsEntries c2 [E.WT_CAUSE] := (Chip.keepsEntries_event_iff ..).2 h1
  split
  · exact Chip.keepsEntries_refl _ _
  · split
    · exact Chip.keepsEntries_refl _ _
    · split
      · split
        · exact h2
        · exact (Chip.keepsEntries_event_iff ..).2 h2
      · exact h1

/-- An entry after a write's answer, as the step ends. -/
theorem Chip.get_replied {b c : Chip} {o : Out} {e i v : Nat} (he : e ∉ eventMeters) (h : c.getAt e i = v) : (b.seal (b.notices (c.emit o))).getAt e i = v :=
  Chip.get_end he ((Chip.getAt_emit _ _ _ _).trans h)

/-! ### Taking a picture -/

/-- The entry has a value for each transport. -/
def perTransport (a : Nat) : Bool := (descOf a).any fun d => decide (d.scope = .transport)

theorem Chip.itemOf_perTransport (c : Chip) (x : Xport) {a : Nat} (h : perTransport a = true) : c.itemOf x a = Xport.item x := by
  obtain ⟨d, hd, hs⟩ := (Option.any_eq_true _ _).1 h
  rw [decide_eq_true_eq] at hs
  unfold Chip.itemOf
  simp only [hd, hs]
  rfl

/-- Values stored for one transport. -/
def Chip.putAll (c : Chip) (x : Xport) (l : List (Nat × Nat)) : Chip := l.foldl (fun c p => c.setAt p.1 (Xport.item x) p.2) c

theorem Chip.keeps_putAll (c : Chip) (x : Xport) (l : List (Nat × Nat)) : c.keeps (c.putAll x l) [.dict] :=
  Chip.keeps_each (f := fun c (p : Nat × Nat) => c.setAt p.1 (Xport.item x) p.2) (fun d _ => Chip.keeps_setAt d _ _ _) l c

theorem Chip.getAt_putAll_of_notMem {c : Chip} {x : Xport} {l : List (Nat × Nat)} {a : Nat} (h : a ∉ l.map Prod.fst) (i : Nat) :
    (c.putAll x l).getAt a i = c.getAt a i := by
  induction l generalizing c with
  | nil => rfl
  | cons p l ih =>
    rw [List.map_cons, List.mem_cons, not_or] at h
    rw [Chip.putAll, List.foldl_cons]
    refine (ih (c := c.setAt p.1 (Xport.item x) p.2) h.2).trans ?_
    rw [Chip.getAt_setAt, if_neg fun hn => h.1 hn.1]

/-- The last value stored for an entry is read back. -/
theorem Chip.getAt_putAll {c : Chip} {x : Xport} {a v : Nat} (l m : List (Nat × Nat)) (h : a ∉ m.map Prod.fst) :
    (c.putAll x (l ++ (a, v) :: m)).getAt a (Xport.item x) = v := by
  rw [Chip.putAll, List.foldl_append, List.foldl_cons]
  refine (Chip.getAt_putAll_of_notMem (c := Chip.setAt _ _ _ _) h _).trans ?_
  rw [Chip.getAt_setAt, if_pos ⟨rfl, rfl⟩]

theorem Chip.foldl_put (c : Chip) (x : Xport) {l : List (Nat × Nat)} (h : ∀ p ∈ l, perTransport p.1 = true) :
    l.foldl (fun c p => c.put x p.1 p.2) c = c.putAll x l := by
  induction l generalizing c with
  | nil => rw [Chip.putAll, List.foldl_nil, List.foldl_nil]
  | cons p l ih =>
    rw [List.foldl_cons, Chip.putAll, List.foldl_cons, Chip.put, Chip.itemOf_perTransport _ x (h p (by simp))]
    exact ih _ fun q hq => h q (by simp [hq])

/-- The values of a snapshot. -/
def Chip.snapValues (c : Chip) (x : Xport) : List (Nat × Nat) :=
  [(E.SNAP_GEN, (c.getAt E.SNAP_GEN (Xport.item x) + 1) % 2 ^ 20), (E.SNAP_TIME, c.stamp), (E.SNAP_SERVICE, c.serviceLevel), (E.SNAP_CTL_STATE, c.reported (mkUnit kCTL 0)),
   (E.SNAP_FLOOR, c.get E.FLOOR_FAULTS), (E.SNAP_FUNCS, (c.fns.filter Fn.en).length), (E.SNAP_QPAIRS, c.pairsHeld),
   (E.SNAP_ADMITTED, c.admittedOpen), (E.SNAP_DIRTY, c.dirtyUnits * 16384)]

theorem Chip.takeSnap_eq (c : Chip) (x : Xport) : c.takeSnap x = c.putAll x (c.snapValues x) := by
  unfold Chip.takeSnap
  rw [Chip.itemOf_perTransport c x (a := E.SNAP_GEN) rfl, Chip.foldl_put _ _ (by simp only [List.forall_mem_cons]; exact ⟨rfl, rfl, rfl, rfl, rfl, rfl, rfl, rfl, rfl, by simp⟩)]
  rfl

theorem Chip.takeSnap_frame (c : Chip) (x : Xport) : (c.takeSnap x).getAt E.SNAP_TIME (Xport.item x) = c.stamp
    ∧ (c.takeSnap x).getAt E.SNAP_GEN (Xport.item x) = (c.getAt E.SNAP_GEN (Xport.item x) + 1) % 2 ^ 20
    ∧ (c.takeSnap x).getAt E.SNAP_FUNCS (Xport.item x) = (c.fns.filter Fn.en).length ∧ c.keeps (c.takeSnap x) [.dict] := by
  rw [Chip.takeSnap_eq]
  exact ⟨Chip.getAt_putAll ((c.snapValues x).take 1) ((c.snapValues x).drop 2) (by simp [snapValues, E.SNAP_TIME, E.SNAP_SERVICE, E.SNAP_CTL_STATE, E.SNAP_FLOOR, E.SNAP_FUNCS, E.SNAP_QPAIRS, E.SNAP_ADMITTED, E.SNAP_DIRTY]),
    Chip.getAt_putAll [] ((c.snapValues x).drop 1) (by simp [snapValues, E.SNAP_GEN, E.SNAP_TIME, E.SNAP_SERVICE, E.SNAP_CTL_STATE, E.SNAP_FLOOR, E.SNAP_FUNCS, E.SNAP_QPAIRS, E.SNAP_ADMITTED, E.SNAP_DIRTY]),
    Chip.getAt_putAll ((c.snapValues x).take 5) ((c.snapValues x).drop 6) (by simp [snapValues, E.SNAP_FUNCS, E.SNAP_QPAIRS, E.SNAP_ADMITTED, E.SNAP_DIRTY]), c.keeps_putAll x _⟩

/-- What is captured of a queue that is there. -/
theorem Chip.captureQueue_frame {c : Chip} {x : Xport} {q : Sq} (hq : c.sqAt (c.sel x E.QSEL) = some q) (hd : q.deleting = false)
    (hf : (c.fnOf (bit (c.sel x E.QSEL) 35) (bits (c.sel x E.QSEL) 34 26)).flr = 0) :
    (c.captureQueue x).getAt E.Q_STATE (Xport.item x) = 1 ∧ (c.captureQueue x).getAt E.Q_SQ_HEAD (Xport.item x) = q.head
      ∧ (c.captureQueue x).getAt E.Q_SQ_TAIL (Xport.item x) = q.tail ∧ c.keeps (c.captureQueue x) [.dict] := by
  unfold Chip.captureQueue
  extract_lets w port fn q' k mine promised oldest due state active next cq sq
  have hq' : q' = some q := hq
  have hs : state = 1 := by
    unfold state
    rw [hq']
    dsimp only
    rw [hd, hf]
    rfl
  have hl : ∀ p ∈ [(E.Q_STATE, state), (E.Q_SQ_HEAD, sq Sq.head), (E.Q_SQ_TAIL, sq Sq.tail), (E.Q_CQ_HEAD, cq Cq.head), (E.Q_CQ_TAIL, cq Cq.tail),
      (E.Q_CQ_PHASE, cq Cq.phase), (E.Q_INFLIGHT, mine.length), (E.Q_CLASS, if q'.isSome then c.classInForce w else 0),
      (E.Q_OLDEST_DUE, min max60 (due.getD 0)), (E.Q_BASES, sq Sq.base % 2 ^ 64 + at' (cq Cq.base % 2 ^ 64) 64), (E.Q_NEXT, next)], perTransport p.1 = true := by
    simp only [List.forall_mem_cons]
    exact ⟨rfl, rfl, rfl, rfl, rfl, rfl, rfl, rfl, rfl, rfl, rfl, by simp⟩
  rw [Chip.foldl_put c x hl]
  have hsq : ∀ f : Sq → Nat, sq f = f q := fun f => by unfold sq; rw [hq']; rfl
  refine ⟨?_, ?_, ?_, c.keeps_putAll x _⟩
  · exact (Chip.getAt_putAll [] _ (by simp only [List.map_cons, List.map_nil]; decide)).trans hs
  · exact (Chip.getAt_putAll [_] _ (by simp only [List.map_cons, List.map_nil]; decide)).trans (hsq _)
  · exact (Chip.getAt_putAll [_, _] _ (by simp only [List.map_cons, List.map_nil]; decide)).trans (hsq _)

/-- The word of a queue gives its port, function and identifier back. -/
theorem bits_qWord {port fn qid : Nat} (hp : port ≤ 1) (hf : fn ≤ 511) (hq : qid ≤ 65535) :
    bit (qWord port fn qid) 35 = port ∧ bits (qWord port fn qid) 34 26 = fn ∧ bits (qWord port fn qid) 15 0 = qid := by
  unfold bit bits qWord at'
  omega

/-- The checks of QSEL leave the word of a queue. -/
theorem checks_qWord {port fn qid : Nat} (hp : port ≤ 1) (hf : fn ≤ 511) (hq : qid ≤ 65535) : ∀ f ∈
    [fun v => v % 2 ^ 40, fun v => setBits v 39 36 0, fun v => setBits v 25 16 0, fun v => setBits v 35 35 (within 0 1 (bits v 35 35)),
      fun v => setBits v 34 26 (within 0 511 (bits v 34 26)), fun v => setBits v 15 0 (within 0 65535 (bits v 15 0))], f (qWord port fn qid) = qWord port fn qid := by
  simp only [List.forall_mem_cons]
  unfold setBits within bits qWord at'
  refine ⟨by omega, by omega, by omega, by omega, by omega, by omega, by simp⟩

theorem Chip.sel_stored (c : Chip) (x : Xport) (v : Nat) : ((c.count E.DICT_WRITES 1).setAt E.QSEL (Xport.item x) v).sel x E.QSEL = v := by
  rw [Chip.sel, Chip.getAt_setAt, if_pos ⟨rfl, rfl⟩]

theorem Chip.keeps_storedAt (c : Chip) (a i v : Nat) : c.keeps ((c.count E.DICT_WRITES 1).setAt a i v) [.dict] :=
  (Chip.keeps_setAt_iff (by decide) ..).2 ((Chip.keeps_countAt_iff (by decide) ..).2 (Chip.keeps_refl c _))

/-! ### Asking for work -/

theorem Chip.proofReady_congr {c d : Chip} {m : List Area} (h : c.keeps d m) (h1 : .boot ∉ m) (h2 : .st ∉ m) (h3 : .un ∉ m) (h4 : .fuse ∉ m) :
    d.proofReady = c.proofReady := by
  unfold Chip.proofReady Chip.isReady Chip.own
  rw [h .boot h1, h .st h2, Chip.unitRec_congr (h .un h3) (congrArg Fuse.variant (h .fuse h4))]

theorem Chip.proof_of_proofReady {c : Chip} (h : c.proofReady = true) : c.st.proof = false := by
  unfold Chip.proofReady at h
  simp only [Bool.and_eq_true, Bool.not_eq_true'] at h
  exact h.1.2

theorem Chip.bit_wtCauses {c : Chip} (h : c.get E.PREPARE_STATE ≠ 0) : bit c.wtCauses 3 = 1 := by
  unfold Chip.wtCauses bit
  simp only [h, ne_eq, not_false_eq_true, decide_true, Bool.or_true, if_true]
  split_ifs <;> omega

theorem Chip.setWt_wt {c : Chip} {b : Bool} (h : c.wtCauses ≠ 0) : (c.setWt b).get E.WT_CAUSE = c.wtCauses := by
  unfold Chip.setWt
  extract_lets w old c1 sev c2
  have h1 : c1.get E.WT_CAUSE = w := by unfold c1 Chip.set Chip.get; rw [Chip.getAt_setAt, if_pos ⟨rfl, rfl⟩]
  have h2 : c2.get E.WT_CAUSE = w := (Chip.getAt_event _ _ _ _ _ _ (by decide)).trans h1
  split
  · next he => exact he.symm
  · rw [if_neg (fun hn => h hn.1)]
    split
    · split
      · exact h2
      · exact (Chip.getAt_event _ _ _ _ _ _ (by decide)).trans h2
    · exact h1

theorem Chip.tapsAsked_eq {c : Chip} (h1 : c.st.present = true) (h2 : c.st.proof = false) (h3 : c.st.tapCheck = 0) :
    c.tapsAsked = { c with st := { c.st with tapCheck := 1, tapT := c.now, tapOpen := 0 } } := by
  unfold Chip.tapsAsked Chip.startTaps
  rw [if_neg (by simp [h1, h2]), if_neg (by simp [h1, h2, h3])]

/-- A proof as it begins. -/
def Chip.proving (c : Chip) : Chip := ({ c with st := { c.st with proof := true, hold := true, tapCheck := 0 } }).set E.GAUGE_STATE 4

theorem Chip.startProof_frame (c : Chip) : c.startProof.st.proof = true ∧ c.startProof.st.hold = true ∧ c.startProof.get E.GAUGE_STATE = 4
    ∧ c.keeps c.startProof (.st :: .dict :: .ev :: .lg :: .ft :: diePart) := by
  have hk : c.keeps c.proving [.st, .dict] := by simp [Chip.proving, Chip.set]
  have hg : c.proving.get E.GAUGE_STATE = 4 := by rw [Chip.proving, Chip.get_set, if_pos rfl]
  have he : c.startProof = if c.get E.PROOF_MIN_SLOTS ≤ c.st.dirty then c.proving.drainCrucible else c.proving := rfl
  have hd := c.proving.keeps_drainCrucible
  rw [he]
  split
  · have hs := hd .st (by decide)
    exact ⟨(congrArg Store9.proof hs).trans rfl, (congrArg Store9.hold hs).trans rfl,
      ((Chip.keepsEntries_drainCrucible _) _ 0 (by decide) (by decide)).trans hg, Chip.keeps_mono (Chip.keeps_trans hk hd) (by decide)⟩
  · exact ⟨rfl, rfl, hg, Chip.keeps_mono hk (by decide)⟩

/-- The Crucible as it is drained for a removal. -/
def Chip.preparing (c : Chip) : Chip := ((c.set E.PREPARE_STATE 1).setWt false).drainCrucible

theorem Chip.preparing_frame (c : Chip) : c.preparing.get E.PREPARE_STATE = 1 ∧ bit (c.preparing.get E.WT_CAUSE) 3 = 1
    ∧ c.keeps c.preparing (.dict :: .ev :: .lg :: .ft :: diePart) := by
  have hp : (c.set E.PREPARE_STATE 1).get E.PREPARE_STATE = 1 := by rw [Chip.get_set, if_pos rfl]
  have hb := Chip.bit_wtCauses (c := c.set E.PREPARE_STATE 1) (by rw [hp]; decide)
  have hw : (c.set E.PREPARE_STATE 1).wtCauses ≠ 0 := fun h0 => by rw [h0] at hb; exact absurd hb (by decide)
  have hd := Chip.keepsEntries_drainCrucible ((c.set E.PREPARE_STATE 1).setWt false)
  refine ⟨(hd E.PREPARE_STATE 0 (by decide) (by decide)).trans ?_, ?_, ?_⟩
  · exact (Chip.keepsEntries_setWt _ _ E.PREPARE_STATE 0 (by decide) (by decide)).trans hp
  · rw [Chip.get, Chip.preparing, hd E.WT_CAUSE 0 (by decide) (by decide), ← Chip.get, Chip.setWt_wt hw]
    exact hb
  · refine Chip.keeps_mono (Chip.keeps_trans (m := .dict :: .ev :: .lg :: .ft :: diePart) (l := [.dict, .ev, .lg]) ?_ (Chip.keeps_drainCrucible _)) (by decide)
    exact (Chip.keeps_iff (Chip.keeps_setWt _ _) (by decide)).2 (by simp [Chip.set])

theorem Chip.prepareAsked_frame {c : Chip} (h : c.get E.PREPARE_STATE = 0) :
    ((c.prepareAsked 1).get E.PREPARE_STATE = 1 ∨ (c.prepareAsked 1).get E.PREPARE_STATE = 2) ∧ bit ((c.prepareAsked 1).get E.WT_CAUSE) 3 = 1
      ∧ c.keeps (c.prepareAsked 1) (.dict :: .ev :: .lg :: .ft :: diePart) := by
  have he : c.prepareAsked 1 = c.preparing.prepared := by
    unfold Chip.prepareAsked
    rw [if_neg (by decide), if_neg (by simp [h])]
    rfl
  obtain ⟨h1, h2, h3⟩ := c.preparing_frame
  rw [he]
  unfold Chip.prepared
  split
  · refine ⟨.inr (by rw [Chip.get_set, if_pos rfl]), ?_, (Chip.keeps_setAt_iff (by decide) _ _ _).2 h3⟩
    rw [Chip.get_set, if_neg (by decide)]
    exact h2
  · exact ⟨.inl h1, h2, h3⟩

/-! ### The image -/

/-- The images of a chip, and whether one is being written. -/
def Chip.sameImages (c d : Chip) : Prop := d.dict.writing = c.dict.writing ∧ d.dict.slotA = c.dict.slotA ∧ d.dict.slotB = c.dict.slotB

theorem Chip.sameImages_trans {a b c : Chip} (h : a.sameImages b) (h' : b.sameImages c) : a.sameImages c :=
  ⟨h'.1.trans h.1, h'.2.1.trans h.2.1, h'.2.2.trans h.2.2⟩

theorem Chip.sameImages_countAt (c : Chip) (e i n : Nat) : c.sameImages (c.countAt e i n) := by
  obtain ⟨v, h⟩ := c.countAt_frame e i n
  rw [h]
  exact ⟨rfl, rfl, rfl⟩

theorem Chip.sameImages_end (b c : Chip) : c.sameImages (b.seal (b.notices c)) := by
  obtain ⟨v, _, _, _, _, _, _, h⟩ := b.notices_frame c
  unfold Chip.sameImages
  rw [Chip.seal_dict_writing, Chip.seal_dict_slotA, Chip.seal_dict_slotB, h]
  exact ⟨rfl, rfl, rfl⟩

theorem Chip.sameImages_countSystem (c : Chip) (n : Nat) : c.sameImages (c.countSystem n) := by
  obtain ⟨v, h⟩ : OnlyVals (c.count E.NAND_PAGES_PROGRAMMED n) (c.countSystem n) := (OnlyVals.set _ _ _ _).trans (.saturates _ _ _ _ _)
  rw [h]
  exact c.sameImages_countAt E.NAND_PAGES_PROGRAMMED 0 n

theorem Chip.sameImages_programCopies (c : Chip) (n : Nat) : c.sameImages (c.programCopies n) := by
  refine Chip.sameImages_trans ?_ (Chip.sameImages_countSystem _ _)
  refine Chip.each_frame Chip.sameImages (fun _ => ⟨rfl, rfl, rfl⟩) (fun _ _ _ => Chip.sameImages_trans) _ (fun d x => ?_) _ _
  exact ⟨rfl, rfl, rfl⟩

theorem Chip.keeps_programCopies (c : Chip) (n : Nat) : c.keeps (c.programCopies n) [.um, .dict] := by
  unfold Chip.programCopies Chip.countSystem
  simp only [Chip.count, Chip.keeps_countOct64_iff (a := c) (l := [Area.um, .dict]) (by decide), Chip.keeps_countAt_iff (a := c) (l := [Area.um, .dict]) (by decide)]
  exact Chip.keeps_each (fun d x => Chip.keeps_mono (d.keeps_chargeRes _ _ _) (by decide)) _ _

theorem Chip.keepsEntries_programCopies (c : Chip) (n : Nat) : c.keepsEntries (c.programCopies n) [E.NAND_PAGES_PROGRAMMED, E.PROGRAM_SOURCES] := by
  unfold Chip.programCopies Chip.countSystem
  refine (Chip.keepsEntries_countOct64_iff (by decide) ..).2 ((Chip.keepsEntries_countAt_iff (by decide) ..).2 ?_)
  exact Chip.keepsEntries_each (fun d x => Chip.keepsEntries_of_keeps (d.keeps_chargeRes _ _ _) (by decide) _) _ _

/-- The image that an image write leaves. -/
def Chip.newImage (c : Chip) : ImgSlot :=
  ImgSlot.sealed { valid := true, seq := match (if c.intoA then c.slotOk c.dict.slotB else c.slotOk c.dict.slotA) with
      | some p => (p.seq + 1) % 2 ^ 32
      | none => 1, variant := c.fuse.variant, fw := c.runningVersion, recs := c.dict.snap, crc := 0 }

/-- The dictionary with the image written in its slot. -/
def Chip.withImage (c : Chip) : Chip :=
  { c with dict := if c.intoA then { c.dict with writing := false, snap := [], slotA := some c.newImage }
                   else { c.dict with writing := false, snap := [], slotB := some c.newImage } }

theorem Chip.endImage_eq (c : Chip) : c.endImage = (c.withImage.count E.IMAGE_WRITES 1).programCopies (cdiv c.newImage.octets.length 16384) := rfl

theorem Chip.imageStep_eq {c : Chip} (h : c.dict.writing = true) (hn : ∀ y ∈ c.endImage.cmds, y.admin = true → y.opcode ≠ 0xC5) : c.imageStep = c.endImage := by
  have hw : c.endImage.cmds.filter (fun x => x.admin && decide (x.opcode = 0xC5 ∧ x.phase = .working ∧ x.work ≠ 0)) = [] := by
    rw [List.filter_eq_nil_iff]
    intro y hy
    simp only [Bool.and_eq_true, decide_eq_true_eq, not_and]
    exact fun ha ho => absurd ho (hn y hy ha)
  unfold Chip.imageStep
  rw [if_pos h]
  unfold Chip.imageEnds
  extract_lets c1 waiting c2
  have hnil : waiting = [] := hw
  have h2 : c2 = c1 := by unfold c2; rw [hnil]; rfl
  rw [h2, hnil]
  rfl

theorem Chip.withImage_frame (c : Chip) : c.withImage.dict.writing = false ∧ (c.withImage.dict.slotA = some c.newImage ∨ c.withImage.dict.slotB = some c.newImage)
    ∧ c.withImage.dict.vals = c.dict.vals ∧ c.keeps c.withImage [.dict] := by
  unfold Chip.withImage
  split
  · exact ⟨rfl, .inl rfl, rfl, fun p hp => by cases p <;> first | rfl | simp at hp⟩
  · exact ⟨rfl, .inr rfl, rfl, fun p hp => by cases p <;> first | rfl | simp at hp⟩

theorem Chip.endImage_frame (c : Chip) : c.endImage.dict.writing = false ∧ (c.endImage.dict.slotA = some c.newImage ∨ c.endImage.dict.slotB = some c.newImage)
    ∧ c.counts c.endImage E.IMAGE_WRITES 0 1 ∧ c.keeps c.endImage [.um, .dict]
    ∧ c.keepsEntries c.endImage [E.IMAGE_WRITES, E.NAND_PAGES_PROGRAMMED, E.PROGRAM_SOURCES] := by
  obtain ⟨h1, h2, h3, h4⟩ := c.withImage_frame
  have hs : c.withImage.sameImages c.endImage := by
    rw [Chip.endImage_eq]
    exact Chip.sameImages_trans (Chip.sameImages_countAt _ _ _ _) (Chip.sameImages_programCopies _ _)
  have he : c.withImage.getAt E.IMAGE_WRITES 0 = c.getAt E.IMAGE_WRITES 0 := Chip.getAt_congr h3 _ _
  have hc : c.withImage.counts (c.withImage.count E.IMAGE_WRITES 1) E.IMAGE_WRITES 0 1 := Chip.getAt_countAt_same _ _ _ _ (by decide)
  have hp := (c.withImage.count E.IMAGE_WRITES 1).keepsEntries_programCopies (cdiv c.newImage.octets.length 16384)
  refine ⟨hs.1.trans h1, ?_, ?_, ?_, ?_⟩
  · rw [hs.2.1, hs.2.2]; exact h2
  · unfold Chip.counts at hc ⊢
    rw [Chip.endImage_eq, hp _ _ (by decide) (by decide), hc, he]
  · rw [Chip.endImage_eq]
    refine Chip.keeps_mono (Chip.keeps_trans (Chip.keeps_trans h4 (Chip.keeps_countAt _ _ _ _)) (Chip.keeps_programCopies _ _)) (by decide)
  · rw [Chip.endImage_eq]
    exact Chip.keepsEntries_mono (Chip.keepsEntries_trans (Chip.keepsEntries_trans (Chip.keepsEntries_vals h3 []) (Chip.keepsEntries_countAt _ _ _ _)) hp) (by decide)

end Sys2Proof.Machine

open Sys2Proof Sys2Proof.Machine

/-- Settles O37: the write that asks for an action stores its value, and the action starts; an image write ends in a slot. -/
theorem actionsStart : Obligations.ActionsStart := by
  intro s t x hr hx
  refine ⟨fun v => ?_, fun port fn qid q hp hf hq hs hd hfl => ?_, fun v h1 h2 h3 => ?_, fun v h => ?_, fun h => ?_, fun v h => ?_, fun hw hn => ?_⟩
  · obtain ⟨c1, n, he, hk, hg, hv, w, k, hdict, hnow⟩ := Chip.writeBy_action (c := s.chip.atTime t) (x := x) (a := E.SNAP_TAKE) (v := v) (len := 0) hr hx rfl rfl
      (Chip.ignored_false (by decide) (by decide)) rfl rfl rfl (fun _ _ _ => rfl) (by decide) (by decide)
    refine Completes.of_run (f := fun c => c.writeBy x E.SNAP_TAKE v 0 0) rfl ?_
    obtain ⟨h1, h2, h3, h4⟩ := c1.takeSnap_frame x
    have hact : c1.startAction x E.SNAP_TAKE = c1.takeSnap x := rfl
    rw [he, hact, Chip.itemOf_perTransport _ x (a := E.SNAP_TIME) rfl, Chip.itemOf_perTransport _ x (a := E.SNAP_GEN) rfl, Chip.itemOf_perTransport _ x (a := E.SNAP_FUNCS) rfl]
    refine ⟨Chip.get_replied (by decide) (h1.trans ?_), Chip.get_replied (by decide) (h2.trans ?_), Chip.get_replied (by decide) (h3.trans ?_),
      Chip.keeps_ended t ((Chip.keeps_emit_iff _).2 (Chip.keeps_mono (Chip.keeps_trans hk h4) (by decide))) (by decide) (by decide)⟩
    · unfold Chip.stamp; rw [hnow]
    · rw [hg _ _ (by decide) (by decide)]; rfl
    · rw [hk .fns (by decide)]; rfl
  · refine Completes.of_run (f := fun c => c.writeBy x E.QSEL (qWord port fn qid) 0 0) rfl ?_
    rw [Chip.writeBy_pass (c := s.chip.atTime t) (x := x) (a := E.QSEL) (len := 0) hr hx rfl (by decide) (by decide) (by decide)
      (Chip.ignored_false (by decide) (by decide)) rfl rfl rfl (by decide) rfl (checks_qWord hp hf hq), Chip.itemOf_perTransport _ x (a := E.QSEL) rfl,
      Chip.itemOf_perTransport _ x (a := E.Q_STATE) rfl, Chip.itemOf_perTransport _ x (a := E.Q_SQ_HEAD) rfl, Chip.itemOf_perTransport _ x (a := E.Q_SQ_TAIL) rfl]
    have hsel := Chip.sel_stored (s.chip.atTime t) x (qWord port fn qid)
    obtain ⟨b1, b2, b3⟩ := bits_qWord hp hf hq
    obtain ⟨h1, h2, h3, h4⟩ := Chip.captureQueue_frame (x := x) (c := ((s.chip.atTime t).count E.DICT_WRITES 1).setAt E.QSEL (Xport.item x) (qWord port fn qid)) (q := q)
      (by rw [hsel, Chip.sqAt, b1, b2, b3]; exact hs) hd (by rw [hsel, b1, b2]; exact hfl)
    exact ⟨Chip.get_replied (by decide) h1, Chip.get_replied (by decide) h2, Chip.get_replied (by decide) h3,
      Chip.keeps_ended t ((Chip.keeps_emit_iff _).2 (Chip.keeps_mono (Chip.keeps_trans (Chip.keeps_storedAt _ _ _ _) h4) (by decide))) (by decide) (by decide)⟩
  · obtain ⟨c1, n, he, hk, hg, hv, w, k, hdict, hnow⟩ := Chip.writeBy_action (c := s.chip.atTime t) (x := x) (a := E.TAP_CHECK_RUN) (v := v) (len := 0) hr hx rfl rfl
      (Chip.ignored_false (by decide) (by decide)) (decide_eq_false (not_not_intro h3)) rfl rfl (fun _ _ _ => rfl) (by decide) (by decide)
    refine Completes.of_run (f := fun c => c.writeBy x E.TAP_CHECK_RUN v 0 0) rfl ?_
    have hst : c1.st = s.chip.st := hk .st (by decide)
    have hact : c1.startAction x E.TAP_CHECK_RUN = { c1 with st := { c1.st with tapCheck := 1, tapT := c1.now, tapOpen := 0 } } :=
      Chip.tapsAsked_eq (by rw [hst]; exact h1) (by rw [hst]; exact h2) (by rw [hst]; exact h3)
    rw [he, hact]
    refine ⟨?_, Chip.keeps_ended t ((Chip.keeps_emit_iff _).2 ((Chip.keeps_with_st (by decide) _).2 (Chip.keeps_mono hk (by decide)))) (by decide) (by decide)⟩
    rw [Chip.seal_st, Chip.notices_st, Chip.emit_st, hst, hnow]
  · obtain ⟨c1, n, he, hk, hg, hv, w, k, hdict, hnow⟩ := Chip.writeBy_action (c := s.chip.atTime t) (x := x) (a := E.PROOF_RUN) (v := v) (len := 0) hr hx rfl rfl
      (Chip.ignored_false (by decide) (by decide)) (Chip.proof_of_proofReady h) rfl rfl (fun _ _ _ => rfl) (by decide) (by decide)
    refine Completes.of_run (f := fun c => c.writeBy x E.PROOF_RUN v 0 0) rfl ?_
    have hp : c1.proofReady = true := (Chip.proofReady_congr hk (by decide) (by decide) (by decide) (by decide)).trans h
    have hact : c1.startAction x E.PROOF_RUN = c1.startProof := if_pos hp
    obtain ⟨h1, h2, h3, h4⟩ := c1.startProof_frame
    rw [he, hact]
    refine ⟨?_, ?_, Chip.get_replied (by decide) h3, Chip.keeps_ended t ((Chip.keeps_emit_iff _).2 (Chip.keeps_mono (Chip.keeps_trans hk h4) (by decide))) (by decide) (by decide)⟩
    · rw [Chip.seal_st, Chip.notices_st]; exact h1
    · rw [Chip.seal_st, Chip.notices_st]; exact h2
  · obtain ⟨c1, n, he, hk, hg, hv, w, k, hdict, hnow⟩ := Chip.writeBy_action (c := s.chip.atTime t) (x := x) (a := E.STORE_PREPARE) (v := 1) (len := 0) hr hx rfl rfl
      (Chip.ignored_false (by decide) (by decide)) rfl rfl rfl (fun _ _ _ => rfl) (by decide) (by decide)
    refine Completes.of_run (f := fun c => c.writeBy x E.STORE_PREPARE 1 0 0) rfl ?_
    have h0 : c1.get E.PREPARE_STATE = 0 := (hg _ 0 (by decide) (by decide)).trans h
    have hv1 : c1.getAt E.STORE_PREPARE 0 = 1 := hv
    have hact : c1.startAction x E.STORE_PREPARE = c1.prepareAsked (c1.getAt E.STORE_PREPARE 0) := rfl
    obtain ⟨h1, h2, h3⟩ := Chip.prepareAsked_frame h0
    rw [he, hact, hv1]
    refine ⟨h1.imp (Chip.get_replied (by decide)) (Chip.get_replied (by decide)), ?_,
      Chip.keeps_ended t ((Chip.keeps_emit_iff _).2 (Chip.keeps_mono (Chip.keeps_trans hk h3) (by decide))) (by decide) (by decide)⟩
    rw [Chip.get, Chip.get_replied (by decide) rfl]
    exact h2
  · obtain ⟨c1, n, he, hk, hg, hv, w, k, hdict, hnow⟩ := Chip.writeBy_action (c := s.chip.atTime t) (x := x) (a := E.IMAGE_FLUSH) (v := v) (len := 0) hr hx rfl rfl
      (Chip.ignored_false (by decide) (by decide)) h rfl rfl (fun _ _ _ => rfl) (by decide) (by decide)
    refine Completes.of_run (f := fun c => c.writeBy x E.IMAGE_FLUSH v 0 0) rfl ?_
    have hact : c1.startAction x E.IMAGE_FLUSH = c1.beginImage := rfl
    rw [he, hact]
    refine ⟨(Chip.sameImages_end _ _).1, Chip.keeps_ended t ((Chip.keeps_emit_iff _).2 ((Chip.keeps_with_dict (by decide) _).2 (Chip.keeps_mono hk (by decide)))) (by decide) (by decide)⟩
  · refine Completes.of_when (exec_imageWrite s t) hr ?_
    obtain ⟨h1, h2, h3, h4, h5⟩ := (s.chip.atTime t).endImage_frame
    rw [Chip.imageStep_eq (c := s.chip.atTime t) hw (by rw [h4 .cmds (by decide)]; exact hn)]
    obtain ⟨g1, g2, g3⟩ := Chip.sameImages_end (s.chip.atTime t) (s.chip.atTime t).endImage
    refine ⟨g1.trans h1, ⟨(s.chip.atTime t).newImage, by rw [g2, g3]; exact h2, rfl, rfl⟩, Chip.counts_end t (by decide) h3,
      Chip.keeps_ended t (Chip.keeps_mono h4 (by decide)) (by decide) (by decide), Chip.keepsEntries_end t h5⟩
end

section
/-! Proofs of the family of single writes (R368, R382, R383). -/
namespace Sys2Proof.Machine

/-- The chip with a value entered, and the write counted. -/
def Chip.entered (c : Chip) (a item v : Nat) : Chip := (c.count E.DICT_WRITES 1).setAt a item v

theorem Chip.keeps_entered (c : Chip) (a item v : Nat) : c.keeps (c.entered a item v) [.dict] := c.keeps_storedAt a item v

theorem Chip.keepsEntries_entered (c : Chip) (a item v : Nat) : c.keepsEntries (c.entered a item v) [a, E.DICT_WRITES] := by
  unfold Chip.entered
  exact (Chip.keepsEntries_setAt_iff (by simp) _ _).2 ((Chip.keepsEntries_countAt_iff (by simp) _ _).2 (Chip.keepsEntries_refl _ _))

theorem Chip.entered_same (c : Chip) (a item v : Nat) : (c.entered a item v).getAt a item = v := by
  rw [Chip.entered, Chip.getAt_setAt, if_pos ⟨rfl, rfl⟩]

theorem Chip.wins_entered (c : Chip) (a item v : Nat) : (c.entered a item v).dict.wins = c.dict.wins := Chip.wins_countAt _ _ _ _

theorem Chip.counts_entered (c : Chip) {a : Nat} (ha : a ≠ E.DICT_WRITES) (item v : Nat) : c.counts (c.entered a item v) E.DICT_WRITES 0 1 := by
  unfold Chip.counts Chip.entered
  rw [Chip.getAt_setAt, if_neg fun h => ha h.1.symm]
  exact Chip.getAt_countAt_same _ _ _ _ (by decide)

theorem Chip.getAt_entered_of_ne (c : Chip) {a item e i : Nat} (v : Nat) (h : (e, i) ≠ (a, item)) (h1 : e ≠ E.DICT_WRITES) (h2 : e ∉ eventMeters) :
    (c.entered a item v).getAt e i = c.getAt e i := by
  rw [Chip.entered, Chip.getAt_setAt, if_neg fun hn => h (by rw [hn.1, hn.2])]
  exact (Chip.keepsEntries_countAt c E.DICT_WRITES 0 1) e i (by simpa using h1) h2

section
variable {c : Chip} {x : Xport} {a v len : Nat} {d : Desc}

/-- A write of a value that every check passes, of an entry that starts nothing: what is applied. -/
theorem Chip.applyWrite_pass (hd : descOf a = some d) (hp' : d.access ≠ .rwp) (hi : c.ignored a = false) (hdep : dependents a = []) (hp : plainEntry a = true)
    (hs : d.type ≠ .s20) (hv : enteredValue d ((c.count E.DICT_WRITES 1).getAt a (c.itemOf x a)) v len = v)
    (hc : ∀ f ∈ (c.count E.DICT_WRITES 1).checksOf d a (c.itemOf x a), f v = v) (he : ∀ (b e : Chip) (i : Nat), b.effect e x a i = e) :
    c.applyWrite x a v len = (c.entered a (c.itemOf x a) v, false) := by
  rw [Chip.applyWrite_plain hd hi hp hp', Chip.storeWrite_pass x 1 hdep hs (by rw [hv]; exact hc), hv, he]
  rfl

theorem Chip.writeOne_pass (hd : descOf a = some d) (ho : d.access = .rw) (hi : c.ignored a = false) (hb : c.actionBusy a = false)
    (ha : c.applyWrite x a v len = (c.entered a (c.itemOf x a) v, false)) : c.writeOne x a v len 0 = (c.entered a (c.itemOf x a) v, 0) := by
  have hact : isAction a = false := by unfold isAction; simp only [hd, ho]; rfl
  unfold Chip.writeOne
  rw [if_neg (by simp [hi]), Chip.refusal_none hd (by rw [ho]; decide) hb]
  dsimp only
  rw [ha, hact]
  rfl
end

/-! ### LUN_SELECT and PW_BASE -/

theorem Chip.applyWrite_lunSelect (c : Chip) (x : Xport) {v : Nat} (hv : v ≤ 2047) : c.applyWrite x E.LUN_SELECT v 0 = (c.entered E.LUN_SELECT (Xport.item x) v, false) := by
  rw [← Chip.itemOf_perTransport c x (a := E.LUN_SELECT) rfl]
  refine Chip.applyWrite_pass rfl (by decide) (Chip.ignored_false (by decide) (by decide)) rfl rfl (by decide) rfl (fun f hf => ?_) (fun _ _ _ => rfl)
  have hl : ∀ g ∈ [within 0 2047], g v = v := by
    simp only [List.forall_mem_singleton]
    unfold within
    omega
  exact hl f hf

theorem Chip.writeOne_lunSelect (c : Chip) (x : Xport) {v : Nat} (hv : v ≤ 2047) : c.writeOne x E.LUN_SELECT v 0 0 = (c.entered E.LUN_SELECT (Xport.item x) v, 0) := by
  rw [Chip.writeOne_pass rfl rfl (Chip.ignored_false (by decide) (by decide)) rfl
    (by rw [Chip.itemOf_perTransport c x (a := E.LUN_SELECT) rfl]; exact c.applyWrite_lunSelect x hv), Chip.itemOf_perTransport c x (a := E.LUN_SELECT) rfl]

theorem Chip.writeOne_pwBase {c : Chip} {x : Xport} {v it : Nat} (hit : it = c.itemOf x E.PW_BASE) (hv : v < 2 ^ 64) (hc : c.getAt E.PW_BASE it < 2 ^ 64) :
    c.writeOne x E.PW_BASE v 8 0 = (c.entered E.PW_BASE it v, 0) := by
  subst hit
  refine Chip.writeOne_pass rfl rfl (Chip.ignored_false (by decide) (by decide)) rfl ?_
  refine Chip.applyWrite_pass rfl (by decide) (Chip.ignored_false (by decide) (by decide)) rfl rfl (by decide) ?_ (fun f hf => ?_) (fun _ _ _ => rfl)
  · have hg : (c.count E.DICT_WRITES 1).getAt E.PW_BASE (c.itemOf x E.PW_BASE) = c.getAt E.PW_BASE (c.itemOf x E.PW_BASE) :=
      (Chip.keepsEntries_countAt c E.DICT_WRITES 0 1) _ _ (by decide) (by decide)
    rw [hg]
    show v % 2 ^ 64 + c.getAt E.PW_BASE (c.itemOf x E.PW_BASE) / 2 ^ 64 * 2 ^ 64 = v
    omega
  · have hl : ∀ g ∈ ([] : List (Nat → Nat)), g v = v := by simp
    exact hl f hf

/-- The record that sets LUN_SELECT. -/
abbrev lunRec (v : Nat) : DictRec := { addr := E.LUN_SELECT, type := DType.u20.code, tag := 0, value := v, octets := 0 }

/-- A Dictionary Set of one LUN_SELECT record. -/
theorem Chip.dictSet_lunSelect {c : Chip} {y : Cmd} {v : Nat} (hv : v ≤ 2047) (hf : y.fn = 0) (h1 : bits (y.dw 10) 7 0 = 0) (h2 : bits (y.dw 11) 31 9 = 0)
    (h3 : bits (y.dw 11) 8 0 = 1) (h4 : y.dw 12 ≤ 1052672) :
    c.dictSet y [lunRec v]
      = (c.entered E.LUN_SELECT (Xport.item .nvme) v).finish y.h stOk 1 0 := by
  have hfail : c.recordFails .nvme (lunRec v) = none := by
    unfold Chip.recordFails
    rw [if_neg (by rw [Chip.ignored_false (a := E.LUN_SELECT) (by decide) (by decide)]; decide), Chip.refusal_none (a := E.LUN_SELECT) rfl (by decide) rfl]
    rfl
  have hw : c.writeRecords .nvme [lunRec v]
      = (c.entered E.LUN_SELECT (Xport.item .nvme) v, none, 0) := by
    have ha : isAction E.LUN_SELECT = false := rfl
    unfold Chip.writeRecords
    simp only [List.length_singleton, List.range_one, List.zip_cons_cons, List.zip_nil_left, List.findSome?_cons, List.findSome?_nil, hfail, Option.map_none,
      List.filter_cons, List.filter_nil, ha, Bool.not_false, if_true, Bool.false_eq_true, if_false, List.foldl_cons, List.foldl_nil]
    rw [show recValue (lunRec v) = (v, 0) from rfl, c.applyWrite_lunSelect .nvme hv]
    rfl
  unfold Chip.dictSet
  dsimp only
  rw [if_neg (by simp [hf]), if_neg (by simp [h1, h2, h3, h4]), hw]
  have hk : [lunRec v].any recKept = false := rfl
  have hi : idxOf (lunRec v).addr ≠ 0x5841 := fun h => absurd (show idxOf E.LUN_SELECT = 0x5841 from h) (by decide)
  have hm : ([lunRec v].any fun r => decide (idxOf r.addr = 0x5841)) = false := by
    rw [List.any_cons, List.any_nil, decide_eq_false hi]
    rfl
  dsimp only
  rw [if_pos (by rw [hk, hm]; exact ⟨rfl, rfl⟩), if_neg (by rw [hk]; simp)]
  rfl

/-- A cell's write of LUN_SELECT, as the window shows it. -/
theorem Chip.commitCell_lunSelect {c : Chip} {port v : Nat} {w : Win} (hv : v ≤ 2047) :
    c.commitCell port w E.LUN_SELECT v = c.winStatus ((c.setWin port { w with stageAddr := 0, stage1 := none, stage2 := none }).entered E.LUN_SELECT
      (Xport.item (.bar4 port)) v) port E.LUN_SELECT 0 := by
  have hd : descOf E.LUN_SELECT = some ⟨0x342004, 0x342004, "LUN_SELECT", .u20, .rw, 0, 0, 0, 2047, [], [], 0, .transport, 0, 0⟩ := rfl
  have ht : bits v 31 20 = 0 := by unfold bits; omega
  have hm : v % 2 ^ 20 = v := by omega
  unfold Chip.commitCell
  simp only [hd, ht, hm]
  rw [if_neg (by decide)]
  have hj : w.joined ⟨0x342004, 0x342004, "LUN_SELECT", .u20, .rw, 0, 0, 0, 2047, [], [], 0, .transport, 0, 0⟩ E.LUN_SELECT (c.readEntry (.bar4 port) E.LUN_SELECT) v = v := rfl
  rw [hj, Chip.writeOne_lunSelect _ _ hv]

theorem mod_two_pow_of_lt {v m n : Nat} (h : v < 2 ^ m) (hn : m ≤ n) : v % 2 ^ n = v :=
  Nat.mod_eq_of_lt (h.trans_le (Nat.pow_le_pow_right (by decide) hn))

theorem Chip.commitOct_pwBase {c : Chip} {port v it : Nat} {w : Win} (hit : it = c.itemOf (.bar4 port) E.PW_BASE) (hv : v < 2 ^ 64)
    (hc : c.getAt E.PW_BASE it < 2 ^ 64) : ∃ w', c.commitOct port E.PW_BASE 8 0 v w = c.winStatus ((c.setWin port w').entered E.PW_BASE it v) port E.PW_BASE 0 := by
  refine ⟨{ w with octBuf := v % 2 ^ 32768, octWlen := 8, octWtag := 0 }, ?_⟩
  have hd : descOf E.PW_BASE = some ⟨0x510003, 0x510003, "PW_BASE", .oct, .rw, 0, 0, 0, 8, [], [], 0, .item, 8, 0⟩ := rfl
  have hm : v % 2 ^ 32768 = v := mod_two_pow_of_lt hv (by decide)
  unfold Chip.commitOct
  simp only [hd, hm, if_true]
  have hw := Chip.writeOne_pwBase (c := c.setWin port { w with octBuf := v, octWlen := 8, octWtag := 0 }) (x := .bar4 port) (it := it) hit hv hc
  rw [show min 4096 8 = 8 from rfl, show 0 % 4096 = 0 from rfl, hw]

/-- The window of a port after the status of a write is entered: its status is the write's. -/
theorem Chip.winStatus_frame (b : Chip) {c : Chip} {port : Nat} {w : Win} (hw : c.dict.wins[port]? = some w) (a status : Nat) :
    (∃ w', (b.winStatus c port a status).dict.wins[port]? = some w' ∧ w'.status = status ∧ w'.stageAddr = w.stageAddr)
      ∧ (b.winStatus c port a status).dict.vals = c.dict.vals ∧ c.keeps (b.winStatus c port a status) [.dict] ∧ (b.winStatus c port a status).out = c.out := by
  unfold Chip.winStatus
  simp only [hw]
  exact ⟨⟨_, Chip.wins_setWin hw _, rfl, rfl⟩, rfl, Chip.keeps_setWin _ _ _, rfl⟩

/-- A write through a port's window, as its step ends on a calm chip. -/
theorem Completes.of_cellWrite {i : Instr} {s : State} {t a item v port : Nat} {w w' : Win} {b : Chip} {f : Chip → Chip} {P : Chip → Prop} (hcalm : s.chip.calm)
    (hw : s.chip.dict.wins[port]? = some w) (he : exec i s = runUnits s t f)
    (hg : f (s.chip.atTime t) = b.winStatus (((s.chip.atTime t).setWin port w').entered a item v) port a 0) (ha : a ∉ calmEntries) (hm : a ∉ eventMeters)
    (hP : ∀ c : Chip, c.getAt a item = v → (∃ u, c.dict.wins[port]? = some u ∧ u.status = 0 ∧ u.stageAddr = w'.stageAddr) → s.chip.keeps c notePart →
      s.chip.keepsEntries c [a, E.DICT_WRITES] → P c) : Completes i s P := by
  have hwin : (((s.chip.atTime t).setWin port w').entered a item v).dict.wins[port]? = some w' := by
    rw [Chip.wins_entered]
    exact Chip.wins_setWin (c := s.chip.atTime t) hw w'
  obtain ⟨⟨u, hu, hs, hst⟩, hv, hk, -⟩ := b.winStatus_frame hwin a 0
  have hk' : (s.chip.atTime t).keeps (b.winStatus (((s.chip.atTime t).setWin port w').entered a item v) port a 0) [.dict] :=
    Chip.keeps_mono (Chip.keeps_trans (Chip.keeps_trans (Chip.keeps_setWin _ _ _) (Chip.keeps_entered _ _ _ _)) hk) (by decide)
  have hks : (s.chip.atTime t).keepsEntries (b.winStatus (((s.chip.atTime t).setWin port w').entered a item v) port a 0) [a, E.DICT_WRITES] :=
    (Chip.keepsEntries_dict hv).2 (Chip.keepsEntries_trans (Chip.keepsEntries_vals (b := (s.chip.atTime t).setWin port w') rfl []) (Chip.keepsEntries_entered _ _ _ _))
  have hft := hk' .ft (by decide)
  refine Completes.of_units_keeps (l := [.dict]) (es := [a, E.DICT_WRITES]) he hg hk' hks (by decide) (fun e h hn => ?_) (by rw [hft]; rfl) (by rw [hft]; rfl)
    (by rw [hft]; rfl) (by rw [hft]; rfl) hcalm (hP _ ?_ ⟨u, ?_, hs, hst⟩ (Chip.keeps_ended t (Chip.keeps_mono hk' (by decide)) (by decide) (by decide))
      (Chip.keepsEntries_end t hks))
  · rw [List.mem_cons, List.mem_singleton] at hn
    rcases hn with rfl | rfl
    · exact ha h
    · exact absurd h (by decide)
  · exact Chip.get_end hm ((Chip.getAt_congr hv _ _).trans (Chip.entered_same _ _ _ _))
  · rw [Chip.wins_end, hu]

end Sys2Proof.Machine

open Sys2Proof Sys2Proof.Machine

/-- Settles O35: on a calm chip the write stores its value, and no unit, map or command follows. -/
theorem entriesAreWritten : Obligations.EntriesAreWritten := by
  intro s t v hr hcalm
  refine ⟨fun x hv hx => ?_, fun h y hv hw hf h1 h2 h3 h4 => ?_, fun port slot w hv hw => ?_, fun port w it hw hit hv hb => ?_⟩
  · have he : exec (.dictionaryWrite t x E.LUN_SELECT v 0) s = runUnits s t fun c => c.writeBy x E.LUN_SELECT v 0 0 := rfl
    have hg : (s.chip.atTime t).writeBy x E.LUN_SELECT v 0 0 = ((s.chip.atTime t).entered E.LUN_SELECT (Xport.item x) v).emit (.reply x 2 0 []) := by
      rw [Chip.writeBy_eq (c := s.chip.atTime t) hr hx, Chip.writeOne_lunSelect _ x hv]
    have hk := (s.chip.atTime t).keeps_entered E.LUN_SELECT (Xport.item x) v
    refine Completes.of_units_keeps (l := [.dict]) (es := [E.LUN_SELECT, E.DICT_WRITES]) he hg ((Chip.keeps_emit_iff _).2 hk)
      ((Chip.keepsEntries_dict rfl).2 ((s.chip.atTime t).keepsEntries_entered _ _ _)) (by decide) (by decide) rfl rfl rfl rfl hcalm ?_
    refine ⟨Chip.get_replied (by decide) (Chip.entered_same _ _ _ _), Chip.mem_out_end (Chip.mem_out_emit _ _), ?_,
      Chip.keeps_ended t ((Chip.keeps_emit_iff _).2 (Chip.keeps_mono hk (by decide))) (by decide) (by decide), fun e item g1 g2 g3 => ?_⟩
    · exact Chip.counts_end t (by decide) (Chip.counts_entered _ (by decide) _ _)
    · exact Chip.get_replied g2 (Chip.getAt_entered_of_ne _ _ g3 (by simpa using g1) g2)
  · have he : exec (.dictionarySet t h [lunRec v]) s = runUnits s t fun c => c.adminCmd h 0xC5 fun c x => c.dictSet x [lunRec v] := rfl
    have hk := (s.chip.atTime t).keeps_entered E.LUN_SELECT (Xport.item .nvme) v
    have hks := (s.chip.atTime t).keepsEntries_entered E.LUN_SELECT (Xport.item .nvme) v
    refine Completes.of_units_keeps (l := [.dict, .cmds, .um]) (es := [E.LUN_SELECT, E.DICT_WRITES])
      (c1 := ((s.chip.atTime t).entered E.LUN_SELECT (Xport.item .nvme) v).finish h stOk 1 0) he ?_
      ((Chip.keeps_finish_iff (by simp) (by simp) _ _ _ _).2 (Chip.keeps_mono hk (by decide))) ((Chip.keepsEntries_finish_iff _ _ _ _).2 hks) (by decide) (by decide)
      (by simp [Chip.entered]) (by simp [Chip.entered]) (by simp [Chip.entered]) (by simp [Chip.entered]) hcalm ⟨?_, ?_, ?_, ?_⟩
    · rw [Chip.adminCmd_eq (Chip.adminWaits_atTime hw t), Chip.dictSet_lunSelect hv hf h1 h2 h3 h4, Chip.adminWaits_h hw]
    · exact Chip.answered_of (Chip.adminWaits_atTime hw t) (Chip.keeps_notHeld hk (by decide) (Chip.adminWaits_notHeld hw)) (Chip.keeps_cmd hk (by decide) h) _ _ _ _
    · exact Chip.get_end (by decide) ((Chip.getAt_finish ..).trans (Chip.entered_same _ _ _ _))
    · exact Chip.keeps_ended t ((Chip.keeps_finish_iff (by simp [notePart]) (by simp [notePart]) _ _ _ _).2 (Chip.keeps_mono hk (by decide))) (by decide) (by decide)
    · exact Chip.keepsEntries_end t ((Chip.keepsEntries_finish_iff _ _ _ _).2 hks)
  · obtain ⟨w0, h0⟩ := Chip.slotAccess_some hw
    refine Completes.of_cellWrite hcalm (a := E.LUN_SELECT) (w := w0) (w' := { w with stageAddr := 0, stage1 := none, stage2 := none }) (port := port) (item := Xport.item (.bar4 port))
      (v := v) (b := s.chip.atTime t) h0 (exec_cellDword0Write s t port slot (E.LUN_SELECT / 256) (E.LUN_SELECT % 256) v) ?_ (by decide) (by decide) fun c g1 g2 g3 g4 => ?_
    · rw [show (s.chip.atTime t).slotAccess port slot (E.LUN_SELECT / 256) = some w from hw]
      exact Chip.commitCell_lunSelect hv
    · obtain ⟨u, hu, hs, ha⟩ := g2
      exact ⟨g1, by rw [hu, Option.map_some, hs, ha], g3, g4⟩
  · obtain ⟨w', he⟩ := Chip.commitOct_pwBase (c := s.chip.atTime t) (w := w) hit hv hb
    refine Completes.of_cellWrite hcalm (a := E.PW_BASE) (w' := w') (port := port) (item := it) (v := v) (b := s.chip.atTime t) (Chip.winOf_some hw)
      (exec_octCommit s t port E.PW_BASE 8 0 v) ?_ (by decide) (by decide) fun c g1 g2 g3 g4 => ?_
    · rw [show (s.chip.atTime t).winOf port = some w from hw]
      exact he
    · obtain ⟨u, hu, hs, -⟩ := g2
      exact ⟨g1, by rw [hu, Option.map_some, hs], g3, g4⟩
end

section
/-! Proofs of the family of deliveries into a window (R326, R327). -/
namespace Sys2Proof.Machine

/-- The command h is in both chips the same but for the time that was added for the host. -/
def Chip.heldUp (h : Nat) (a b : Chip) : Prop := ∀ x, a.cmd h = some x → ∃ e, b.cmd h = some { x with extraPs := e }

theorem Chip.heldUp_trans {h : Nat} {a b c : Chip} (hab : a.heldUp h b) (hbc : b.heldUp h c) : a.heldUp h c := fun x hx => by
  obtain ⟨e, he⟩ := hab x hx
  obtain ⟨f, hf⟩ := hbc _ he
  exact ⟨f, hf⟩

theorem Chip.heldUp_hostTime (h : Nat) (c : Chip) (k ps : Nat) : c.heldUp h (c.hostTime k ps) := by
  unfold Chip.hostTime
  split
  · exact fun x hx => ⟨x.extraPs, hx⟩
  · refine Chip.heldUp_trans (b := c.each _ _) ?_ fun x hx => ⟨x.extraPs, (Chip.cmd_congr (Chip.countAt_cmds _ _ _ _) h).trans hx⟩
    refine Chip.each_frame (Chip.heldUp h) (fun _ x hx => ⟨x.extraPs, hx⟩) (fun _ _ _ => Chip.heldUp_trans) _ (fun d m x hx => ?_) _ _
    by_cases hm : m = h
    · subst hm
      have hh := Chip.cmd_h hx
      simp only [hx]
      exact ⟨x.extraPs + ps, by subst hh; exact Chip.cmd_setCmd_same (x := { x with extraPs := x.extraPs + ps }) hx⟩
    · split
      · next y hy => exact ⟨x.extraPs, (Chip.cmd_setCmd_ne _ _ (by rw [show Cmd.h _ = m from Chip.cmd_h hy]; exact hm)).trans hx⟩
      · exact ⟨x.extraPs, hx⟩

/-- A window after a doorbell for the command h. -/
def Win5.rung (w : Win5) (h now : Nat) : Win5 :=
  { w with count := (w.count + 1) % 2 ^ 20, timers := w.timers ++ [now], users := w.users.erase h }

/-- A delivery from the window's own port: the chip with the doorbell written, and counted. -/
def Chip.rungHere (c : Chip) (x : Cmd) (w : Win5) (p win : Nat) : Chip :=
  let c1 := (c.setWin5 (w.rung x.h c.now)).emit (.peer p win w.dbAddr (if w.dbSize = 0 then 4 else 8) (w.doorbell (x.dw 15) x.dw0 (x.dw 14)))
  (c1.setAt E.PW_DOORBELLS (winItem p win) (min max60 (c1.getAt E.PW_DOORBELLS (winItem p win) + 1))).count E.SB_SEG_READS 1

theorem Chip.ringPeer_here {c : Chip} {x : Cmd} (hp : x.segWin / 256 = x.port) :
    c.ringPeer x = (c.rungHere x (c.win5 (x.segWin / 256) (x.segWin % 256)) (x.segWin / 256) (x.segWin % 256)).finish x.h stOk x.dw0 x.dw1 := by
  have haway : decide (x.segWin / 256 ≠ x.port) = false := decide_eq_false fun hn => hn hp
  unfold Chip.ringPeer
  dsimp only
  rw [haway]
  rfl

theorem Chip.rungHere_frame (c : Chip) (x : Cmd) {w : Win5} {p win : Nat} (hp : w.port = p) (hw : w.win = win) : (c.rungHere x w p win).win5 p win = w.rung x.h c.now
    ∧ .peer p win w.dbAddr (if w.dbSize = 0 then 4 else 8) (w.doorbell (x.dw 15) x.dw0 (x.dw 14)) ∈ (c.rungHere x w p win).out
    ∧ c.keeps (c.rungHere x w p win) [.wins, .dict] ∧ c.keepsEntries (c.rungHere x w p win) [E.PW_DOORBELLS, E.SB_SEG_READS] := by
  unfold Chip.rungHere
  extract_lets c1
  have hk : c.keeps c1 [.wins, .dict] := by simp [c1, Chip.keeps_mono (Chip.keeps_setWin5 c _)]
  refine ⟨?_, ?_, ?_, ?_⟩
  · rw [Chip.win5_congr (Chip.countAt_wins _ _ _ _), Chip.win5_congr (Chip.setAt_wins _ _ _ _), Chip.win5_congr (Chip.emit_wins _ _)]
    exact Chip.win5_setWin5 (v := w.rung x.h c.now) hp hw
  · rw [Chip.count, Chip.countAt_out, Chip.setAt_out]
    exact Chip.mem_out_emit _ _
  · exact (Chip.keeps_countAt_iff (by decide) ..).2 ((Chip.keeps_setAt_iff (by decide) ..).2 hk)
  · exact (Chip.keepsEntries_countAt_iff (by decide) ..).2 ((Chip.keepsEntries_setAt_iff (by decide) ..).2 (Chip.keepsEntries_vals rfl _))

/-- A window with the read of the command h ended. -/
def Win5.readDone (w : Win5) (h : Nat) : Win5 := { w with reading := w.reading.erase h }

/-- How much later than the host's limit the read behind a doorbell has ended. -/
def Chip.readLate (c : Chip) (x : Cmd) : Nat := (c.nowPs - x.resolvedPs) - c.get E.HOST_LAT_LIMIT * 1000

/-- The chip with the read behind a doorbell ended. -/
def Chip.readEnded (c : Chip) (x : Cmd) (w : Win5) (p : Nat) : Chip :=
  ((((c.setWin5 (w.readDone x.h)).portEnds p).setCmd { x with peerPs := x.peerPs + c.readLate x }).hostTime x.h (c.readLate x)).count E.SB_SEG_READS 1

theorem Chip.readBehind_ok (c : Chip) (x : Cmd) :
    c.readBehind x true = (c.readEnded x (c.win5 (x.segWin / 256) (x.segWin % 256)) (x.segWin / 256)).finish x.h stOk x.dw0 x.dw1 := rfl

theorem Chip.keeps_portEnds (c : Chip) (p : Nat) : c.keeps (c.portEnds p) [.ports] := by simp [Chip.portEnds]

theorem Chip.readEnded_frame {c : Chip} {x : Cmd} {w : Win5} {p win : Nat} (hx : c.cmd x.h = some x) (hp : w.port = p) (hw : w.win = win) :
    (c.readEnded x w p).win5 p win = w.readDone x.h
    ∧ (∃ y, (c.readEnded x w p).cmd x.h = some y ∧ y.silent = x.silent ∧ y.posted = x.posted)
    ∧ c.keeps (c.readEnded x w p) [.wins, .ports, .cmds, .dict] ∧ c.keepsEntries (c.readEnded x w p) [E.SB_SEG_READS, E.HOST_DELAY] := by
  have h1 : c.keeps ((c.setWin5 (w.readDone x.h)).portEnds p) [.wins, .ports] := Chip.keeps_trans (Chip.keeps_setWin5 c _) (Chip.keeps_portEnds _ _)
  have h2 : c.keeps (((c.setWin5 (w.readDone x.h)).portEnds p).setCmd { x with peerPs := x.peerPs + c.readLate x }) [.wins, .ports, .cmds] :=
    (Chip.keeps_setCmd_iff (by decide) _).2 (Chip.keeps_mono h1 (by decide))
  have h3 := Chip.keeps_hostTime (((c.setWin5 (w.readDone x.h)).portEnds p).setCmd { x with peerPs := x.peerPs + c.readLate x }) x.h (c.readLate x)
  unfold Chip.readEnded
  refine ⟨?_, ?_, ?_, ?_⟩
  · rw [Chip.win5_congr (Chip.countAt_wins _ _ _ _), Chip.win5_congr (h3 .wins (by decide)), Chip.win5_congr (Chip.setCmd_wins _ _),
      Chip.win5_congr (Chip.keeps_portEnds _ _ .wins (by decide))]
    exact Chip.win5_setWin5 (v := w.readDone x.h) hp hw
  · have hc : ((c.setWin5 (w.readDone x.h)).portEnds p).cmd x.h = some x := (Chip.keeps_cmd h1 (by decide) _).trans hx
    obtain ⟨e, he⟩ := Chip.heldUp_hostTime x.h (((c.setWin5 (w.readDone x.h)).portEnds p).setCmd { x with peerPs := x.peerPs + c.readLate x }) x.h (c.readLate x) _
      (Chip.cmd_setCmd_same (x := { x with peerPs := x.peerPs + c.readLate x }) hc)
    exact ⟨_, (Chip.cmd_congr (Chip.countAt_cmds _ _ _ _) _).trans he, rfl, rfl⟩
  · exact (Chip.keeps_countAt_iff (by decide) ..).2 (Chip.keeps_mono (Chip.keeps_trans h2 h3) (by decide))
  · refine (Chip.keepsEntries_countAt_iff (by decide) ..).2 (Chip.keepsEntries_mono (Chip.keepsEntries_trans (Chip.keepsEntries_of_keeps h2 (by decide) []) (Chip.keepsEntries_hostTime _ _ _)) (by decide))

/-- A command that is neither silent nor posted is answered by its end. -/
theorem Chip.answered_finish_of {c : Chip} {h : Nat} {y : Cmd} (hy : c.cmd h = some y) (hs : y.silent = false) (hp : y.posted = false) (hn : c.notHeld h) (b : Chip)
    (status dw0 dw1 : Nat) : (b.seal (b.notices (c.finish h status dw0 dw1))).answered h status dw0 dw1 :=
  Chip.answered_end ((Chip.notHeld_finish _ _ _ _ _ _).2 hn) ⟨_, Chip.cmd_finish_same c hy hs hp, rfl, rfl, rfl, rfl⟩

end Sys2Proof.Machine

open Sys2Proof Sys2Proof.Machine

/-- Settles O40: the doorbell's write, or the read behind it, ends the command with success. -/
theorem deliveriesEnd : Obligations.DeliveriesEnd := by
  intro s t h x k hr hx hn hadm hop hph hs hp hk
  have hh : x.h = h := Chip.cmd_h hx
  obtain ⟨hport, hwin⟩ := s.chip.win5_port (x.segWin / 256) (x.segWin % 256)
  rw [← hk] at hport hwin
  have hwin5 : (s.chip.atTime t).win5 (x.segWin / 256) (x.segWin % 256) = k := (Chip.win5_congr rfl _ _).trans hk.symm
  refine ⟨fun h1 h2 h3 => ?_, fun h1 => ?_⟩
  · refine Completes.of_run (exec_peerDoorbell s t h) ?_
    rw [show (s.chip.atTime t).cmd h = some x from hx]
    dsimp only
    rw [Chip.when_true (by rw [hwin5, h2, hadm, show (s.chip.atTime t).isReady = true from hr]; simp [hop, hph, h1]), Chip.ringPeer_here h3, hwin5, hh]
    obtain ⟨g1, g2, g3, g4⟩ := (s.chip.atTime t).rungHere_frame x hport hwin
    rw [hport, hwin]
    refine ⟨Chip.answered_finish_of ((Chip.keeps_cmd g3 (by decide) h).trans hx) hs hp (Chip.keeps_notHeld g3 (by decide) hn) _ _ _ _, ?_, ?_, ?_, ?_, ?_⟩
    · refine Chip.mem_out_end ?_
      rw [Chip.finish_out]
      exact g2
    · rw [Chip.win5_end, Chip.win5_congr (Chip.finish_wins ..), g1]
      rfl
    · rw [Chip.win5_end, Chip.win5_congr (Chip.finish_wins ..), g1]
      rfl
    · exact Chip.keeps_ended t ((Chip.keeps_finish_iff (by decide) (by decide) _ _ _ _).2 (Chip.keeps_mono g3 (by decide))) (by decide) (by decide)
    · exact Chip.keepsEntries_end t ((Chip.keepsEntries_finish_iff _ _ _ _).2 g4)
  · refine Completes.of_run (exec_doorbellReadCompletion s t h true) ?_
    rw [show (s.chip.atTime t).cmd h = some x from hx]
    dsimp only
    rw [Chip.when_true (by rw [hadm, show (s.chip.atTime t).isReady = true from hr]; simp [hop, hph, h1]), Chip.readBehind_ok, hwin5]
    obtain ⟨g1, ⟨y, g2, g3, g4⟩, g5, g6⟩ := Chip.readEnded_frame (c := s.chip.atTime t) (w := k) (by rw [hh]; exact hx) hport hwin
    rw [hport, hwin, hh]
    refine ⟨Chip.answered_finish_of (by rw [← hh]; exact g2) (g3.trans hs) (g4.trans hp) (Chip.keeps_notHeld g5 (by decide) hn) _ _ _ _, ?_, ?_, ?_⟩
    · rw [Chip.win5_end, Chip.win5_congr (Chip.finish_wins ..), g1, hh]
      rfl
    · exact Chip.keeps_ended t ((Chip.keeps_finish_iff (by decide) (by decide) _ _ _ _).2 (Chip.keeps_mono g5 (by decide))) (by decide) (by decide)
    · exact Chip.keepsEntries_end t ((Chip.keepsEntries_finish_iff _ _ _ _).2 g6)
end

section
/-! What a fault charged to a unit reaches: the records of units alone (R18 to R20). -/
namespace Sys2Proof.Machine

theorem Chip.keeps_fence (c : Chip) (u : Nat) : c.keeps (c.fence u) [.un] := by
  unfold Chip.fence
  extract_lets r c1
  exact (Chip.keeps_iff (Chip.keeps_setOwn _ _ _ _) (by decide)).2 (Chip.keeps_setUnit _ _)

theorem Chip.keeps_countFault (c : Chip) (u : Nat) : c.keeps (c.countFault u) [.un] := by
  unfold Chip.countFault
  extract_lets r c1
  have h1 : c.keeps c1 [.un] := Chip.keeps_setUnit _ _
  split_ifs
  · exact h1
  · exact (Chip.keeps_iff (Chip.keeps_fence _ _) (by decide)).2 h1
  · exact (Chip.keeps_iff (Chip.keeps_retire _ _ _) (by decide)).2 h1
  · exact Chip.keeps_refl _ _

theorem Chip.keeps_withdraw (c : Chip) (l : List (Nat × Nat)) : c.keeps (c.withdraw l) [.un] :=
  Chip.keeps_each (fun d _ => Chip.keeps_setUnit d _) l c

theorem Chip.keeps_setSpread (c : Chip) (s : Spread) : c.keeps (c.setSpread s) [.un] := by simp [Chip.setSpread]

theorem Chip.keeps_chargeN (n : Nat) (c : Chip) (u : Nat) : c.keeps (Chip.chargeN n c u) [.un] := by
  induction n generalizing c u with
  | zero => exact Chip.keeps_countFault c u
  | succ n ih =>
    unfold Chip.chargeN
    split
    · exact Chip.keeps_refl _ _
    · split
      · exact Chip.keeps_countFault c u
      · split
        · extract_lets s kids first
          split
          · exact Chip.keeps_refl _ _
          · split
            · exact (Chip.keeps_iff (ih _ _) (by decide)).2 ((Chip.keeps_iff (Chip.keeps_withdraw _ _) (by decide)).2 (Chip.keeps_setSpread _ _))
            · exact (Chip.keeps_iff (Chip.keeps_countFault _ _) (by decide)).2 (Chip.keeps_setSpread _ _)
        · exact Chip.keeps_countFault c u

theorem Chip.keeps_endProbe (c : Chip) (u : Nat) (pass : Bool) : c.keeps (c.endProbe u pass) [.un] := by
  unfold Chip.endProbe
  dsimp only
  split_ifs
  · exact (Chip.keeps_iff (Chip.keeps_setOwn _ _ _ _) (by decide)).2 (Chip.keeps_setUnit _ _)
  · exact Chip.keeps_retire _ _ _
  · exact Chip.keeps_refl _ _

theorem Chip.keeps_chargeFault (c : Chip) (u : Nat) : c.keeps (c.chargeFault u) [.un] := by
  unfold Chip.chargeFault
  split_ifs
  · exact Chip.keeps_endProbe _ _ _
  · exact Chip.keeps_refl _ _
  · exact Chip.keeps_chargeN _ _ _

section
variable {a c : Chip} {l : List Area}
@[simp] theorem Chip.keeps_chargeFault_iff (h : Area.un ∈ l) (u : Nat) : a.keeps (c.chargeFault u) l ↔ a.keeps c l :=
  Chip.keeps_iff (Chip.keeps_chargeFault c u) (by simp [h])
@[simp] theorem Chip.keepsEntries_chargeFault_iff {m : List Nat} (u : Nat) : a.keepsEntries (c.chargeFault u) m ↔ a.keepsEntries c m :=
  Chip.keepsEntries_dict (congrArg Dict.vals (Chip.keeps_chargeFault c u .dict (by decide)))
end

end Sys2Proof.Machine
end

section
/-! Proofs of the family of the gauge (R270 to R275). -/
namespace Sys2Proof.Machine

/-! ### A scan -/

/-- A code that is in range and in time. -/
def cleanCode (a : AdcCode) : Prop := a.overRange = false ∧ a.late = false

/-- A code as it counts in a scan without marks. -/
def sampleOf (a : AdcCode) (offset : Int) : Sample := { code := a.code - offset, ok := true, settling := false }

theorem markScan_clean (offset : Int) {l : List AdcCode} (h : ∀ a ∈ l, cleanCode a) (k : Nat) : markScan 0 offset l k 0 = (l.map fun a => sampleOf a offset, 0) := by
  induction l generalizing k with
  | nil => rfl
  | cons a l ih =>
    obtain ⟨h1, h2⟩ := h a (by simp)
    have hb : bit 0 k = 0 := by simp [bit]
    unfold markScan
    simp only [h1, h2, hb, Bool.false_eq_true, if_false, Nat.zero_sub]
    rw [ih fun b hb => h b (by simp [hb])]
    rfl

/-- The codes of a scan of 16 slots, slot by slot. -/
theorem codes_slots {l : List AdcCode} (h : l.length = 16) (d : AdcCode) : ((List.range 16).map fun k => l.getD k d) = l := by
  rw [← h]
  refine List.ext_getElem (by simp) fun i h1 h2 => ?_
  simp [List.getElem?_eq_getElem h2]

theorem lateRuns_clean {l : List AdcCode} (h : l.length = 16) (hc : ∀ a ∈ l, cleanCode a) (d : AdcCode) (old : List Nat) :
    ((List.range 16).map fun k => if (l.getD k d).late then nth old k + 1 else 0) = List.replicate 16 0 := by
  rw [List.eq_replicate_iff]
  refine ⟨by simp, fun n hn => ?_⟩
  obtain ⟨k, hk, rfl⟩ := List.mem_map.1 hn
  have hlt : k < l.length := by rw [h]; exact List.mem_range.1 hk
  rw [List.getD_eq_getElem _ _ hlt, (hc _ (List.getElem_mem hlt)).2, if_neg (by decide)]

theorem findIdx_clean {l : List AdcCode} (hc : ∀ a ∈ l, cleanCode a) : l.findIdx? AdcCode.overRange = none := by
  rw [List.findIdx?_eq_none_iff]
  exact fun a ha => (hc a ha).1

/-- What the gauge leaves of a scan's own readings: the current and the entries that are not its own. -/
def Chip.gauged (a b : Chip) : Prop := b.st.lastI = a.st.lastI ∧ a.keepsEntries b [E.CELL_V, E.GAUGE_STATE] ∧ a.keeps b [.st, .dict, .ev, .un, .lg]

theorem Chip.gauged_refl (a : Chip) : a.gauged a := ⟨rfl, Chip.keepsEntries_refl _ _, Chip.keeps_refl _ _⟩

theorem Chip.gauged_trans {a b c : Chip} (h : a.gauged b) (h' : b.gauged c) : a.gauged c :=
  ⟨h'.1.trans h.1, Chip.keepsEntries_mono (Chip.keepsEntries_trans h.2.1 h'.2.1) (by decide), Chip.keeps_mono (Chip.keeps_trans h.2.2 h'.2.2) (by decide)⟩

theorem Chip.gauged_event (a : Chip) (src ev sev unit : Nat) (ps : List Nat) : a.gauged (a.event src ev sev unit ps) :=
  ⟨by rw [Chip.event_st], by simp, by simp⟩

theorem Chip.gauged_st (a : Chip) {st : Store9} (h : st.lastI = a.st.lastI) : a.gauged { a with st := st } :=
  ⟨h, Chip.keepsEntries_vals rfl _, by simp⟩

theorem Chip.gauged_set (a : Chip) {e : Nat} (h : e ∈ [E.CELL_V, E.GAUGE_STATE]) (v : Nat) : a.gauged (a.set e v) :=
  ⟨rfl, (Chip.keepsEntries_setAt_iff h _ _).2 (Chip.keepsEntries_refl _ _), by simp [Chip.set]⟩

theorem Chip.gauged_storeFault (a : Chip) : a.gauged a.storeFault := by
  have hk := a.keeps_chargeFault (mkUnit kSTORE 0)
  exact ⟨congrArg Store9.lastI (hk .st (by decide)), Chip.keepsEntries_of_keeps hk (by decide) _, Chip.keeps_mono hk (by decide)⟩

theorem Chip.gauged_startTaps (a : Chip) : a.gauged a.startTaps := by
  unfold Chip.startTaps
  split
  · exact a.gauged_refl
  · exact a.gauged_st rfl

theorem Chip.gauged_limitWoken (a : Chip) (o : Int) : a.gauged (a.limitWoken o) := by
  unfold Chip.limitWoken
  split
  · exact a.gauged_refl
  · exact a.gauged_st rfl

theorem Chip.gauged_fullAnchor (a : Chip) : a.gauged a.fullAnchor := by
  unfold Chip.fullAnchor
  extract_lets q first due _ c1 c2
  have h1 : a.gauged c1 := a.gauged_st rfl
  have h2 : a.gauged c2 := by
    unfold c2
    split
    · exact Chip.gauged_trans h1 (Chip.gauged_set _ (by decide) _)
    · exact h1
  split
  · exact h2
  · exact Chip.gauged_trans h2 (Chip.gauged_event _ _ _ _ _ _)

theorem Chip.gauged_anchors (a : Chip) (uv na : Int) (done : Bool) : a.gauged (a.anchors uv na done) := by
  unfold Chip.anchors
  extract_lets full peak low fell _ c1 _ c2 o
  have h1 : a.gauged c1 := a.gauged_st (st := { a.st with peakI := peak, lowRun := low, chgDoneLow := done }) rfl
  have h2 : a.gauged c2 := by
    unfold c2
    split
    · exact Chip.gauged_trans h1 (Chip.gauged_fullAnchor _)
    · split
      · exact Chip.gauged_trans h1 (Chip.gauged_st c1 (st := { c1.st with atFull := false }) rfl)
      · exact h1
  split
  · exact Chip.gauged_trans (Chip.gauged_trans h2 (Chip.gauged_st c2 (st := { c2.st with qa := 0 }) rfl)) (Chip.gauged_event _ _ _ _ _ _)
  · exact h2

theorem Chip.gauged_correctDown (a : Chip) (o : Int) : a.gauged (a.correctDown o) := by
  unfold Chip.correctDown
  extract_lets full high q size
  split
  · exact Chip.gauged_trans (Chip.gauged_st a (st := { a.st with highRun := 0, qa := min a.st.qa q }) rfl) (Chip.gauged_event _ _ _ _ _ _)
  · exact a.gauged_st rfl

theorem Chip.gauged_storeFaults (a : Chip) (o na : Int) : a.gauged (a.storeFaults o na) := by
  unfold Chip.storeFaults
  extract_lets full step none' _ c1 c2
  have h1 : a.gauged c1 := a.gauged_st rfl
  have h2 : a.gauged c2 := by
    unfold c2
    split
    · exact Chip.gauged_trans h1 (Chip.gauged_storeFault _)
    · exact h1
  split
  · exact Chip.gauged_trans h2 (Chip.gauged_storeFault _)
  · exact h2

theorem Chip.gauged_scanCells (a : Chip) (uv : Int) (cells : List Int) : a.gauged (a.scanCells uv cells) := by
  unfold Chip.scanCells
  extract_lets vmax lim above run off devs runs _ c1 c2
  have h1 : a.gauged c1 := Chip.gauged_trans (Chip.gauged_st a (st := { a.st with overRun := run, chgOff := off, suspects := runs }) rfl)
    (Chip.gauged_set _ (e := E.CELL_V) (by decide) _)
  have h2 : a.gauged c2 := by
    unfold c2
    split
    · exact Chip.gauged_trans h1 (Chip.gauged_event _ _ _ _ _ _)
    · exact h1
  split
  · exact Chip.gauged_trans h2 (Chip.gauged_startTaps _)
  · exact h2

theorem Chip.countCharge_lastI (c : Chip) (na : Int) : (c.countCharge na).st.lastI = na := rfl

theorem Chip.keeps_countCharge (c : Chip) (na : Int) : c.keeps (c.countCharge na) [.st] := by simp [Chip.countCharge]

/-- A scan whose stack voltage and current are good: what it stores. -/
theorem Chip.gaugeScan_frame {c : Chip} {ss : List Sample} {codes : List AdcCode} {v i : Sample} {z : AdcCode} (done : Bool) (hp : c.st.present = true)
    (hh : c.st.hibernate = false) (hz : codes[10]? = some z) (hzo : z.overRange = false) (hv : ss[1]? = some v) (hi : ss[10]? = some i) (hvo : v.ok = true)
    (hio : i.ok = true) :
    (c.gaugeScan ss codes done).st.lastI = c.currentNa i.code ∧ (c.gaugeScan ss codes done).get E.STORE_I = ofInt 20 (c.currentNa i.code / 1000000)
      ∧ (c.gaugeScan ss codes done).get E.STORE_V_STACK = (tapUv v.code / 1000).toNat
      ∧ c.keepsEntries (c.gaugeScan ss codes done) [E.CELL_V, E.GAUGE_STATE, E.STORE_I, E.STORE_V_STACK]
      ∧ c.keeps (c.gaugeScan ss codes done) [.st, .dict, .ev, .un, .lg] := by
  have hv' : ∀ d, ss.getD 1 d = v := fun d => by rw [List.getD, hv]; rfl
  have hi' : ∀ d, ss.getD 10 d = i := fun d => by rw [List.getD, hi]; rfl
  have hz' : ∀ d, codes.getD 10 d = z := fun d => by rw [List.getD, hz]; rfl
  unfold Chip.gaugeScan
  extract_lets at1 raw na uv side both low _ c1 c2 c3 o c4 c5 n
  rw [if_neg (by simp [hp, hh]), if_pos (by unfold at1; rw [hv', hi']; exact ⟨hvo, hio⟩)]
  have hna : na = c.currentNa i.code := by unfold na at1; rw [hi', if_pos hio]
  have huv : uv = tapUv v.code := by unfold uv at1; rw [hv']
  have hside : side = 0 := by unfold side raw; rw [hz', hzo]; rfl
  have hboth : both = false := by unfold both; rw [hside]; simp
  have h2 : c2 = c1 := by unfold c2; rw [hboth]; rfl
  have hk1 : c.keeps c1 [.st] := by
    unfold c1
    exact (Chip.keeps_iff (Chip.keeps_countCharge _ _) (by decide)).2 (by simp)
  have hl3 : c3.st.lastI = c.currentNa i.code := by rw [← hna]; unfold c3; rw [h2]; rfl
  have hs3 : c3.get E.STORE_I = ofInt 20 (c.currentNa i.code / 1000000) := by rw [← hna]; exact (Chip.get_set c2 _ _ _).trans (if_pos rfl)
  have he3 : c.keepsEntries c3 [E.STORE_I] := (Chip.keepsEntries_setAt_iff (by decide) _ _).2 (by rw [h2]; exact Chip.keepsEntries_of_keeps hk1 (by decide) _)
  have hk3 : c.keeps c3 [.st, .dict] := (Chip.keeps_setAt_iff (by decide) _ _ _).2 (by rw [h2]; exact Chip.keeps_mono hk1 (by decide))
  have hw := c3.gauged_limitWoken o
  have hc5 : ((c3.limitWoken o).set E.STORE_V_STACK (uv / 1000).toNat).gauged c5 :=
    Chip.gauged_trans (Chip.gauged_trans (Chip.gauged_anchors _ _ _ _) (Chip.gauged_correctDown _ _)) (Chip.gauged_storeFaults _ _ _)
  suffices hs : ∀ d, ((c3.limitWoken o).set E.STORE_V_STACK (uv / 1000).toNat).gauged d → d.st.lastI = c.currentNa i.code
      ∧ d.get E.STORE_I = ofInt 20 (c.currentNa i.code / 1000000) ∧ d.get E.STORE_V_STACK = (tapUv v.code / 1000).toNat
      ∧ c.keepsEntries d [E.CELL_V, E.GAUGE_STATE, E.STORE_I, E.STORE_V_STACK] ∧ c.keeps d [.st, .dict, .ev, .un, .lg] by
    split
    · exact hs _ (Chip.gauged_trans hc5 (Chip.gauged_scanCells _ _ _))
    · exact hs _ hc5
  intro d hd
  refine ⟨hd.1.trans (hw.1.trans hl3), ?_, ?_, ?_, ?_⟩
  · refine (hd.2.1 E.STORE_I 0 (by decide) (by decide)).trans ?_
    rw [Chip.set, Chip.getAt_setAt, if_neg (by decide)]
    exact (hw.2.1 E.STORE_I 0 (by decide) (by decide)).trans hs3
  · refine (hd.2.1 E.STORE_V_STACK 0 (by decide) (by decide)).trans ?_
    rw [Chip.set, Chip.getAt_setAt, if_pos ⟨rfl, rfl⟩, huv]
  · exact Chip.keepsEntries_mono (Chip.keepsEntries_trans (Chip.keepsEntries_trans he3 ((Chip.keepsEntries_setAt_iff (l := [E.CELL_V, E.GAUGE_STATE, E.STORE_V_STACK])
      (by decide) _ _).2 (Chip.keepsEntries_mono hw.2.1 (by decide)))) hd.2.1) (by decide)
  · exact Chip.keeps_mono (Chip.keeps_trans (Chip.keeps_trans hk3 ((Chip.keeps_setAt_iff (by decide) _ _ _).2 hw.2.2)) hd.2.2) (by decide)

/-! ### The whole scan -/

theorem Chip.keepsEntries_supplyMonitors (c : Chip) (m : List Sample) : c.keepsEntries (c.supplyMonitors m) [E.V12_MAIN, E.V3V3_AUX, E.VCORE_SENSE] := by
  unfold Chip.supplyMonitors
  simp only [List.foldl_cons, List.foldl_nil]
  have h : ∀ (d : Chip) (k e n : Nat), e ∈ [E.V12_MAIN, E.V3V3_AUX, E.VCORE_SENSE] → d.keepsEntries (match m[k]? with
      | some x => if x.ok then d.set e (ofInt 20 (x.code * 5 / (n : Nat))) else d
      | none => d) [E.V12_MAIN, E.V3V3_AUX, E.VCORE_SENSE] := fun d k e n he => by
    split
    · split
      · exact (Chip.keepsEntries_setAt_iff he _ _).2 (Chip.keepsEntries_refl _ _)
      · exact Chip.keepsEntries_refl _ _
    · exact Chip.keepsEntries_refl _ _
  exact Chip.keepsEntries_mono (Chip.keepsEntries_trans (Chip.keepsEntries_trans (h c _ _ _ (by decide)) (h _ _ _ _ (by decide))) (h _ _ _ _ (by decide))) (by decide)

theorem Chip.keeps_supplyMonitors (c : Chip) (m : List Sample) : c.keeps (c.supplyMonitors m) [.dict] := by
  unfold Chip.supplyMonitors
  refine Chip.keeps_each (f := fun c (p : Nat × Nat × Nat) => match m[p.1]? with
    | some x => if x.ok then c.set p.2.1 (ofInt 20 (x.code * 5 / (p.2.2 : Nat))) else c
    | none => c) (fun d p => ?_) _ _
  split
  · split
    · simp [Chip.set]
    · exact Chip.keeps_refl _ _
  · exact Chip.keeps_refl _ _

theorem Chip.keeps_prepared (c : Chip) : c.keeps c.prepared [.dict] := by
  unfold Chip.prepared
  split
  · simp [Chip.set]
  · exact Chip.keeps_refl _ _

theorem Chip.keepsEntries_prepared (c : Chip) : c.keepsEntries c.prepared [E.PREPARE_STATE] := by
  unfold Chip.prepared
  split
  · exact (Chip.keepsEntries_setAt_iff (by decide) _ _).2 (Chip.keepsEntries_refl _ _)
  · exact Chip.keepsEntries_refl _ _

theorem Chip.keeps_storeState (c : Chip) : c.keeps c.storeState [.un] := Chip.keeps_setDegraded _ _ _

/-- A scan's own account, before the gauge takes it. -/
def Chip.sampled (c : Chip) (raw overs : Nat) (late : List Nat) (ss : List Sample) : Chip :=
  (((({ c with st := { c.st with settling := 0, lateRuns := late } }).set E.ADC_SAMPLES raw).count E.ADC_SCANS 1).count E.ADC_OVERRANGE overs).supplyMonitors ss

theorem Chip.sampled_frame (c : Chip) (raw overs : Nat) (late : List Nat) (ss : List Sample) :
    (c.sampled raw overs late ss).st = { c.st with settling := 0, lateRuns := late } ∧ c.counts (c.sampled raw overs late ss) E.ADC_SCANS 0 1
      ∧ c.keeps (c.sampled raw overs late ss) [.st, .dict]
      ∧ c.keepsEntries (c.sampled raw overs late ss) [E.ADC_SAMPLES, E.ADC_SCANS, E.ADC_OVERRANGE, E.V12_MAIN, E.V3V3_AUX, E.VCORE_SENSE] := by
  have hk : c.keeps (c.sampled raw overs late ss) [.st, .dict] := by
    unfold Chip.sampled
    refine (Chip.keeps_iff (Chip.keeps_supplyMonitors _ _) (by decide)).2 ((Chip.keeps_countAt_iff (by decide) _ _ _).2 ((Chip.keeps_countAt_iff (by decide) _ _ _).2 ?_))
    simp [Chip.set]
  have hm := Chip.keepsEntries_supplyMonitors (((({ c with st := { c.st with settling := 0, lateRuns := late } }).set E.ADC_SAMPLES raw).count E.ADC_SCANS 1).count
    E.ADC_OVERRANGE overs) ss
  refine ⟨?_, ?_, hk, ?_⟩
  · unfold Chip.sampled
    rw [Chip.keeps_supplyMonitors _ _ .st (by decide), Chip.count, Chip.count, Chip.countAt_st, Chip.countAt_st]
    rfl
  · unfold Chip.counts Chip.sampled
    rw [hm _ _ (by decide) (by decide), Chip.count, Chip.getAt_countAt_ne _ _ _ _ (by decide) (by decide), Chip.count, Chip.getAt_countAt_same _ _ _ _ (by decide), Chip.set,
      Chip.getAt_setAt, if_neg (by decide)]
    rfl
  · refine Chip.keepsEntries_mono (Chip.keepsEntries_trans (l := [E.ADC_SAMPLES, E.ADC_SCANS, E.ADC_OVERRANGE]) ?_ hm) (by decide)
    exact (Chip.keepsEntries_countAt_iff (by decide) _ _).2 ((Chip.keepsEntries_countAt_iff (by decide) _ _).2 ((Chip.keepsEntries_setAt_iff (by decide) _ _).2
      (Chip.keepsEntries_vals rfl _)))

/-- A scan without marks, as the gauge takes it. -/
theorem Chip.scan_clean {c : Chip} {codes : List AdcCode} (done : Bool) (hl : codes.length = 16) (hc : ∀ a ∈ codes, cleanCode a)
    (hf : newFails codes (List.replicate 16 0) = 0) (ho : c.get E.ADC_SLOT_FAILS = 0) (hs : c.st.settling = 0) {z : AdcCode} (hz : codes[15]? = some z) :
    ∃ raw overs late, c.scan codes done = ((((c.sampled raw overs late (codes.map fun a => sampleOf a z.code)).gaugeScan (codes.map fun a => sampleOf a z.code)
      codes done).prepared).storeState) := by
  unfold Chip.scan
  extract_lets at1 late old fails m overs was raw _ c1 c2' c2 c3
  have hlate : late = List.replicate 16 0 := lateRuns_clean hl hc _ _
  have hfails : fails = 0 := by unfold fails; rw [hlate, hf]
  have h15 : at1 15 = z := by unfold at1; rw [List.getD, hz]; rfl
  have hm : m = (codes.map fun a => sampleOf a z.code, 0) := by
    unfold m
    rw [hfails, h15, hs, show (List.range 16).map at1 = codes from codes_slots hl _]
    exact markScan_clean _ hc 0
  have hc2 : c2 = c2' := by unfold c2; rw [findIdx_clean hc]
  have hc3 : c3 = c2' := by unfold c3; rw [if_pos (by rw [hfails]; exact ho.symm), hc2]
  refine ⟨raw, overs, late, ?_⟩
  rw [hc3]
  unfold c2' c1
  rw [hm]
  rfl

/-- A scan without marks: what it stores, where the gauge runs. -/
theorem Chip.scan_frame {c : Chip} {codes : List AdcCode} (done : Bool) (hp : c.st.present = true) (hh : c.st.hibernate = false) (hl : codes.length = 16)
    (hc : ∀ a ∈ codes, cleanCode a) (hf : newFails codes (List.replicate 16 0) = 0) (ho : c.get E.ADC_SLOT_FAILS = 0) (hs : c.st.settling = 0) {v i z : AdcCode}
    (hv : codes[1]? = some v) (hi : codes[10]? = some i) (hz : codes[15]? = some z) :
    (c.scan codes done).st.lastI = c.currentNa (i.code - z.code) ∧ (c.scan codes done).get E.STORE_I = ofInt 20 (c.currentNa (i.code - z.code) / 1000000)
      ∧ (c.scan codes done).get E.STORE_V_STACK = (tapUv (v.code - z.code) / 1000).toNat ∧ c.counts (c.scan codes done) E.ADC_SCANS 0 1
      ∧ (c.scan codes done).boot = c.boot := by
  obtain ⟨raw, overs, late, he⟩ := Chip.scan_clean done hl hc hf ho hs hz
  obtain ⟨h1, h2, h3, h4⟩ := c.sampled_frame raw overs late (codes.map fun a => sampleOf a z.code)
  have hss : ∀ {k : Nat} {a : AdcCode}, codes[k]? = some a → (codes.map fun a => sampleOf a z.code)[k]? = some (sampleOf a z.code) := fun ha => by
    rw [List.getElem?_map, ha]; rfl
  obtain ⟨g1, g2, g3, g4, g5⟩ := Chip.gaugeScan_frame (c := c.sampled raw overs late (codes.map fun a => sampleOf a z.code)) done (by rw [h1]; exact hp) (by rw [h1]; exact hh)
    hi (hc _ (List.mem_of_getElem? hi)).1 (hss hv) (hss hi) rfl rfl
  have hna : (c.sampled raw overs late (codes.map fun a => sampleOf a z.code)).currentNa (sampleOf i z.code).code = c.currentNa (i.code - z.code) := by
    unfold Chip.currentNa
    rw [Chip.get, h4 E.STORE_SHUNT 0 (by decide) (by decide)]
    rfl
  rw [hna] at g1 g2
  rw [he]
  have hst := fun (d : Chip) => Chip.keeps_trans (Chip.keeps_prepared d) (Chip.keeps_storeState d.prepared)
  have hen := fun (d : Chip) => Chip.keepsEntries_trans (Chip.keepsEntries_prepared d) (Chip.keepsEntries_of_keeps (Chip.keeps_storeState d.prepared) (by decide) [])
  refine ⟨(congrArg Store9.lastI (hst _ .st (by decide))).trans g1, (hen _ _ 0 (by decide) (by decide)).trans g2, (hen _ _ 0 (by decide) (by decide)).trans g3, ?_, ?_⟩
  · unfold Chip.counts at h2 ⊢
    rw [hen _ E.ADC_SCANS 0 (by decide) (by decide), g4 E.ADC_SCANS 0 (by decide) (by decide), h2]
  · exact (hst _ .boot (by decide)).trans ((g5 .boot (by decide)).trans (h3 .boot (by decide)))

/-! ### The store comes and goes -/

/-- A check of the taps, as it starts. -/
theorem Chip.startTaps_eq {c : Chip} (h1 : c.st.present = true) (h2 : c.st.proof = false) (h3 : c.st.tapCheck = 0) :
    c.startTaps = { c with st := { c.st with tapCheck := 1, tapT := c.now, tapOpen := 0 } } := by
  unfold Chip.startTaps
  rw [if_neg (by simp [h1, h2, h3])]

theorem Chip.insertStore_frame {c : Chip} {vstk : Nat} (h1 : c.st.present = false) (h2 : 500 < vstk) (h3 : c.own (mkUnit kSTORE 0) ≠ 4) :
    (c.insertStore vstk).st.present = true ∧ (c.insertStore vstk).st.tapCheck = 1
      ∧ (c.insertStore vstk).st.qa = min (c.get E.STORE_C_RATED * (c.get E.STORE_V_FULL - c.get E.STORE_V_CUT) * 1000)
          ((vstk - c.get E.STORE_V_CUT) * c.get E.STORE_C_RATED * 1000)
      ∧ (c.insertStore vstk).get E.GAUGE_STATE = 1 ∧ (c.insertStore vstk).get E.STORE_V_STACK = vstk ∧ c.keeps (c.insertStore vstk) [.st, .dict, .ev, .lg]
      ∧ c.keepsEntries (c.insertStore vstk) [E.STORE_C, E.STORE_ESR, E.STORE_C_FIRST, E.GAUGE_STATE, E.PREPARE_STATE, E.STORE_V_STACK, E.CELL_FAULT_CELL] := by
  unfold Chip.insertStore
  rw [if_neg (by rw [h1]; simp only [Bool.false_eq_true, false_or, not_or]; exact ⟨Nat.not_le.2 h2, h3⟩)]
  extract_lets cr c1 q _ c2 c3
  have hst : (c3.event 0x381 0 1 noUnit [q / 10 ^ 6]).st = { Store9.initial with present := true, qa := q, dirty := c.st.dirty, lateRuns := c.st.lateRuns } := by
    rw [Chip.event_st]; rfl
  have hc1 : ∀ e, e ∉ [E.STORE_C, E.STORE_ESR, E.STORE_C_FIRST] → c1.get e = c.get e := fun e he => by
    simp only [List.mem_cons, List.not_mem_nil, or_false, not_or] at he
    obtain ⟨e1, e2, e3⟩ := he
    unfold c1
    rw [Chip.get_set, if_neg e3, Chip.get_set, if_neg e2, Chip.get_set, if_neg e1]
  have hcr : c1.get E.STORE_C = cr := by
    unfold c1
    rw [Chip.get_set, if_neg (by decide), Chip.get_set, if_neg (by decide), Chip.get_set, if_pos rfl]
  have hq : q = min (c.get E.STORE_C_RATED * (c.get E.STORE_V_FULL - c.get E.STORE_V_CUT) * 1000) ((vstk - c.get E.STORE_V_CUT) * c.get E.STORE_C_RATED * 1000) := by
    unfold q Chip.fullCharge
    rw [hcr, hc1 _ (by decide), hc1 _ (by decide)]
  rw [Chip.startTaps_eq (by rw [hst]) (by rw [hst]; rfl) (by rw [hst]; rfl)]
  have hg : ∀ e, e ∉ eventMeters → ∀ n, c3.get e = n → ({ c3.event 0x381 0 1 noUnit [q / 10 ^ 6] with
      st := { (c3.event 0x381 0 1 noUnit [q / 10 ^ 6]).st with tapCheck := 1, tapT := (c3.event 0x381 0 1 noUnit [q / 10 ^ 6]).now, tapOpen := 0 } } : Chip).get e = n :=
    fun e he n hn => (Chip.getAt_event _ _ _ _ _ _ he).trans hn
  refine ⟨by dsimp only; rw [hst], rfl, by dsimp only; rw [hst]; exact hq, hg _ (by decide) _ ?_, hg _ (by decide) _ ?_, ?_, ?_⟩
  · unfold c3
    rw [Chip.get_set, if_neg (by decide), Chip.get_set, if_neg (by decide), Chip.get_set, if_neg (by decide), Chip.get_set, if_pos rfl]
  · unfold c3
    rw [Chip.get_set, if_neg (by decide), Chip.get_set, if_pos rfl]
  · refine (Chip.keeps_with_st (by decide) _).2 ?_
    refine (Chip.keeps_event_iff (by decide) (by decide) (by decide) _ _ _ _ _).2 ?_
    simp only [c3, Chip.set]
    iterate 4 refine (Chip.keeps_setAt_iff (by decide) _ _ _).2 ?_
    refine (Chip.keeps_with_st (by decide) _).2 ?_
    simp only [c1, Chip.set]
    iterate 3 refine (Chip.keeps_setAt_iff (by decide) _ _ _).2 ?_
    exact Chip.keeps_refl _ _
  · refine (Chip.keepsEntries_dict (c := c3.event 0x381 0 1 noUnit [q / 10 ^ 6]) rfl).2 ?_
    rw [Chip.keepsEntries_event_iff]
    simp only [c3, Chip.set]
    iterate 4 refine (Chip.keepsEntries_setAt_iff (by decide) _ _).2 ?_
    have h2 : c.keepsEntries c1 [E.STORE_C, E.STORE_ESR, E.STORE_C_FIRST, E.GAUGE_STATE, E.PREPARE_STATE, E.STORE_V_STACK, E.CELL_FAULT_CELL] := by
      simp only [c1, Chip.set]
      iterate 3 refine (Chip.keepsEntries_setAt_iff (by decide) _ _).2 ?_
      exact Chip.keepsEntries_refl _ _
    exact (Chip.keepsEntries_dict rfl).2 h2

theorem Chip.removeStore_frame {c : Chip} (h : c.st.present = true) : c.removeStore.own (mkUnit kSTORE 0) = 0 ∧ (c.removeStore.unitRec (mkUnit kSTORE 0)).cause = 6
    ∧ c.removeStore.st.present = false ∧ c.removeStore.get E.GAUGE_STATE = 0 ∧ c.keeps c.removeStore [.un, .st, .dict] := by
  unfold Chip.removeStore
  rw [if_neg (by simp [h])]
  extract_lets u c1 c2 _ c3
  have h1 : c.keeps c1 [.un] := by
    unfold c1
    split
    · exact Chip.keeps_retire _ _ _
    · exact Chip.keeps_refl _ _
  have hu : ∀ v, (c3.set E.GAUGE_STATE v).unitRec u = c2.unitRec u := fun v => rfl
  have hr : c2.unitRec u = { c1.unitRec u with own := 0, cause := 6, lastChange := if (c1.unitRec u).own = 0 then (c1.unitRec u).lastChange else c1.stamp } :=
    Chip.unitRec_setUnit_of (c1.unitRec_unit u)
  refine ⟨by rw [Chip.own, hu, hr], by rw [hu, hr], rfl, (Chip.get_set c3 _ _ _).trans (if_pos rfl), ?_⟩
  refine (Chip.keeps_setAt_iff (by decide) _ _ _).2 ((Chip.keeps_with_st (by decide) _).2 ?_)
  exact (Chip.keeps_iff (Chip.keeps_setOwn _ _ _ _) (by decide)).2 (Chip.keeps_mono h1 (by decide))

theorem fusedOff_store (variant : Nat) : fusedOff variant (mkUnit kSTORE 0) = false := by
  unfold fusedOff
  have hk : unitKind (mkUnit kSTORE 0) = kSTORE := rfl
  rw [hk]
  simp [kSTORE, kRALLY, kPAIR, kPORT, kQUAD, kCHAN, kTGT, kLUN, kDDR, kLDPC]

/-! ### Sleep and waking -/

/-- The chip with its gauge asleep. -/
def Chip.asleep (c : Chip) : Chip :=
  (({ c with st := { c.st with hibernate := true, estimate := decide (c.get E.GAUGE_STATE = 1) } }).set E.GAUGE_STATE 3).event 0x389 0 1 noUnit []

theorem Chip.asleep_frame (c : Chip) : c.asleep.st.hibernate = true ∧ c.asleep.get E.GAUGE_STATE = 3 ∧ c.keeps c.asleep [.st, .dict, .ev, .lg]
    ∧ c.keepsEntries c.asleep [E.GAUGE_STATE] := by
  unfold Chip.asleep
  refine ⟨by rw [Chip.event_st]; rfl, ?_, by simp [Chip.set], ?_⟩
  · rw [Chip.get, Chip.getAt_event _ _ _ _ _ _ (by decide)]
    exact (Chip.get_set _ _ _ _).trans (if_pos rfl)
  · rw [Chip.keepsEntries_event_iff]
    exact (Chip.keepsEntries_setAt_iff (by decide) _ _).2 (Chip.keepsEntries_vals rfl _)

theorem Chip.wakeGauge_frame {c : Chip} (vstk : Nat) (na : Int) (h : c.st.hibernate = true) : (c.wakeGauge vstk na).st.hibernate = false
    ∧ (c.wakeGauge vstk na).get E.STORE_V_STACK = vstk ∧ (c.wakeGauge vstk na).get E.GAUGE_STATE = (if c.st.estimate then 1 else 2)
    ∧ (c.wakeGauge vstk na).st.qa = min c.st.qa ((c.ocv (vstk * 1000) na - (c.get E.STORE_V_CUT : Int) * 1000).toNat * c.get E.STORE_C)
    ∧ c.keeps (c.wakeGauge vstk na) [.st, .dict, .ev, .lg] ∧ c.keepsEntries (c.wakeGauge vstk na) [E.STORE_V_STACK, E.GAUGE_STATE] := by
  unfold Chip.wakeGauge
  rw [if_neg (by simp [h])]
  extract_lets o q _ st
  refine ⟨by rw [Chip.event_st]; rfl, ?_, ?_, by rw [Chip.event_st]; rfl, ?_, ?_⟩
  · rw [Chip.get, Chip.getAt_event _ _ _ _ _ _ (by decide)]
    exact (Chip.get_set _ _ _ _).trans (if_pos rfl)
  · rw [Chip.get, Chip.getAt_event _ _ _ _ _ _ (by decide)]
    exact ((Chip.get_set _ _ _ _).trans (if_neg (by decide))).trans ((Chip.get_set _ _ _ _).trans (if_pos rfl))
  · refine (Chip.keeps_event_iff (by decide) (by decide) (by decide) _ _ _ _ _).2 ((Chip.keeps_setAt_iff (by decide) _ _ _).2 ((Chip.keeps_setAt_iff (by decide) _ _ _).2 ?_))
    exact (Chip.keeps_with_st (by decide) _).2 (Chip.keeps_refl _ _)
  · rw [Chip.keepsEntries_event_iff]
    exact (Chip.keepsEntries_setAt_iff (by decide) _ _).2 ((Chip.keepsEntries_setAt_iff (by decide) _ _).2 (Chip.keepsEntries_vals rfl _))

end Sys2Proof.Machine

open Sys2Proof Sys2Proof.Machine

/-- Settles O48: what a scan, a store that comes or goes, and the gauge's sleep and waking store. -/
theorem gaugeFollowsTheStore : Obligations.GaugeFollowsTheStore := by
  intro s t
  refine ⟨fun codes done v i z hr hp hh ho hs hl hc hf hv hi hz => ?_, fun vstk h1 h2 h3 => ?_, fun h => ?_, fun h1 h2 h3 h4 => ?_, fun vstk na h => ?_⟩
  · obtain ⟨h1, h2, h3, h4, h5⟩ := Chip.scan_frame (c := s.chip.atTime t) done hp hh hl hc hf ho hs hv hi hz
    have hidle : ((s.chip.atTime t).scan codes done).isReady = false := by unfold Chip.isReady; rw [h5]; exact hr
    refine Completes.of_run ((exec_adcScan s t codes done).trans (runUnits_eq s t _)) ?_
    rw [Chip.settle_idle _ hidle]
    refine ⟨Chip.get_end (by decide) h3, Chip.get_end (by decide) h2, ?_, Chip.counts_end t (by decide) h4⟩
    rw [Chip.seal_st, Chip.notices_st, h1]
    rfl
  · refine Completes.of_run (exec_storeInserted s t vstk) ?_
    obtain ⟨g1, g2, g3, g4, g5, g6, g7⟩ := Chip.insertStore_frame (c := s.chip.atTime t) h1 h2 h3
    refine ⟨?_, ?_, ?_, Chip.get_end (by decide) g4, Chip.get_end (by decide) g5, Chip.keeps_ended t (Chip.keeps_mono g6 (by decide)) (by decide) (by decide), Chip.keepsEntries_end t g7⟩
    · rw [Chip.seal_st, Chip.notices_st, g1]
    · rw [Chip.seal_st, Chip.notices_st, g2]
    · rw [Chip.seal_st, Chip.notices_st, g3]
      rfl
  · obtain ⟨g1, g2, g3, g4, g5⟩ := Chip.removeStore_frame (c := s.chip.atTime t) h
    have hd := (s.chip.atTime t).removeStore.keeps_drainCrucible
    have hu := Chip.unitRec_settled (b := s.chip.atTime t) (c := (s.chip.atTime t).removeStore.drainCrucible) (fusedOff_store s.chip.fuse.variant)
      ((hd .fuse (by decide)).trans (g5 .fuse (by decide)))
    have hr : (s.chip.atTime t).removeStore.drainCrucible.unitRec (mkUnit kSTORE 0) = (s.chip.atTime t).removeStore.unitRec (mkUnit kSTORE 0) :=
      Chip.unitRec_congr (hd .un (by decide)) (congrArg Fuse.variant (hd .fuse (by decide))) _
    refine Completes.of_run ((exec_storeRemoved s t).trans (runUnits_eq s t _)) ⟨?_, ?_, fun hr => ?_⟩
    · rw [Chip.own, hu, hr]; exact g1
    · rw [hu, hr]; exact g2
    · have hb : (s.chip.atTime t).removeStore.drainCrucible.boot = s.chip.boot := (hd .boot (by decide)).trans (g5 .boot (by decide))
      rw [Chip.settle_idle _ (by unfold Chip.isReady; rw [hb]; exact hr)]
      refine ⟨?_, Chip.get_end (by decide) ((Chip.keepsEntries_drainCrucible _ _ 0 (by decide) (by decide)).trans g4)⟩
      rw [Chip.seal_st, Chip.notices_st, hd .st (by decide), g3]
  · refine Completes.of_when (exec_gaugeHibernate s t) ?_ ?_
    · rw [show (s.chip.atTime t).st.present = true from h1, show (s.chip.atTime t).st.hibernate = false from h2, show (s.chip.atTime t).gaugeMaySleep = true from h3]
      exact decide_eq_true h4
    · obtain ⟨g1, g2, g3, g4⟩ := (s.chip.atTime t).asleep_frame
      exact ⟨by rw [Chip.seal_st, Chip.notices_st]; exact g1, Chip.get_end (by decide) g2, Chip.keeps_ended t (Chip.keeps_mono g3 (by decide)) (by decide) (by decide),
        Chip.keepsEntries_end t g4⟩
  · refine Completes.of_run (exec_gaugeWake s t vstk na) ?_
    obtain ⟨g1, g2, g3, g4, g5, g6⟩ := Chip.wakeGauge_frame (c := s.chip.atTime t) vstk na h
    refine ⟨?_, Chip.get_end (by decide) g2, Chip.get_end (by decide) g3, ?_, Chip.keeps_ended t (Chip.keeps_mono g5 (by decide)) (by decide) (by decide),
      Chip.keepsEntries_end t g6⟩
    · rw [Chip.seal_st, Chip.notices_st]; exact g1
    · rw [Chip.seal_st, Chip.notices_st]; exact g4
end

section
/-! Proofs of the family of checks of the store and the loss of power (R277, R284, R286, R290, R291, R294). -/
namespace Sys2Proof.Machine

/-- A row of `runUnits` whose effect leaves a calm chip calm: the parts that the service floor, write-through and the Crucible's size read are as before. -/
theorem Completes.of_calmUnits {i : Instr} {s : State} {P : Chip → Prop} {t : Nat} {f : Chip → Chip} {c1 : Chip} {l : List Area} {es : List Nat}
    (he : exec i s = runUnits s t f) (hg : f (s.chip.atTime t) = c1) (hk : (s.chip.atTime t).keeps c1 l)
    (hks : (s.chip.atTime t).keepsEntries c1 es) (hl : ∀ p ∈ [Area.un, .fuse, .boot, .md], p ∉ l) (hes : ∀ e ∈ calmEntries, e ∉ es)
    (hpart : c1.partnerStates = s.chip.partnerStates) (hsb : c1.sb.eligible = s.chip.sb.eligible) (hpres : c1.st.present = s.chip.st.present)
    (hqa : c1.st.qa = s.chip.st.qa) (hft : c1.ft = s.chip.ft) (hc : s.chip.calm) (hp : P ((s.chip.atTime t).seal ((s.chip.atTime t).notices c1))) : Completes i s P := by
  have hun : c1.un = s.chip.un := hk .un (hl _ (by simp))
  have hfuse : c1.fuse = s.chip.fuse := hk .fuse (hl _ (by simp))
  have hboot : c1.boot = s.chip.boot := hk .boot (hl _ (by simp))
  have hm : ∀ e ∈ calmEntries, e ∉ eventMeters := by decide
  subst hg
  exact Completes.of_units he hun hfuse hpart (by rw [hboot]) (Chip.calm_congr (b := s.chip) (Chip.reported_congr hun hfuse hpart) (Chip.own_congr hun hfuse) hfuse hboot
    (hk .md (hl _ (by simp))) hsb hpres hqa (by rw [hft]) (by unfold Chip.topGranule; rw [hft]) (by rw [hft]) (by rw [hft]) (fun e he => hks e 0 (hes e he) (hm e he)) hc) hp

theorem Chip.partnerStates_of_keeps {c d : Chip} {m : List Area} (h : c.keeps d m) (hb : .boot ∉ m) (hp : .pr ∉ m) : d.partnerStates = c.partnerStates := by
  unfold Chip.partnerStates
  rw [h .boot hb, h .pr hp]

/-! ### Taps and proofs -/

/-- A check of the taps, one tap on. -/
def Chip.tapped (c : Chip) (tap moved : Nat) : Chip :=
  { c with st := { c.st with tapOpen := if c.get E.TAP_OPEN_MV < moved then c.st.tapOpen + 2 ^ (tap - 1) else c.st.tapOpen, tapCheck := tap + 1, tapT := c.now } }

theorem Chip.tapEnds_eq {c : Chip} {tap : Nat} (moved : Nat) (h0 : tap ≠ 0) (h1 : c.st.tapCheck = tap) (h2 : tap < c.get E.STORE_CELLS)
    (h3 : c.st.tapT + 2 * cycPerMs ≤ c.now) : c.tapEnds tap moved = c.tapped tap moved := by
  unfold Chip.tapEnds
  rw [if_neg (by simp only [h1, ne_eq, not_true_eq_false, h0, false_or]; omega)]
  exact if_neg (Nat.not_le.2 h2)

theorem Chip.startProof_eq {c : Chip} (h : c.st.dirty < c.get E.PROOF_MIN_SLOTS) : c.startProof = c.proving := if_neg (Nat.not_le.2 h)

/-- A proof that ends with the result r, not 1. -/
def Chip.proofOver (c : Chip) (r : Nat) : Chip :=
  (({ c with st := { c.st with proof := false, hold := false, atFull := false } }).set E.GAUGE_STATE 2).set E.PROOF_RESULT r

theorem Chip.endProof_margin {c : Chip} {p : ProofInput} (h0 : c.st.proof = true) (h1 : p.result ≠ 5) (h2 : c.own (mkUnit kSTORE 0) < 3) (h3 : p.fall < c.get E.PROOF_DV) :
    c.endProof p = (c.proofOver 2).event 0x384 0 1 noUnit
      [2, (c.proofOver 2).get E.STORE_C, (c.proofOver 2).get E.STORE_ESR, (c.proofOver 2).get E.FLUSH_COST_LEARNED] := by
  have hres : (if p.result = 5 ∨ 3 ≤ c.own (mkUnit kSTORE 0) then 5 else if c.get E.PROOF_DV ≤ p.fall then 1 else 2) = 2 := by
    rw [if_neg (by rintro (h | h) <;> omega), if_neg (Nat.not_le.2 h3)]
  unfold Chip.endProof
  rw [if_neg (by simp [h0]), hres]
  exact if_pos (by decide)

theorem Chip.proofOver_frame (c : Chip) (r : Nat) : (c.proofOver r).st = { c.st with proof := false, hold := false, atFull := false }
    ∧ (c.proofOver r).get E.PROOF_RESULT = r ∧ (c.proofOver r).get E.GAUGE_STATE = 2 ∧ c.keeps (c.proofOver r) [.st, .dict]
    ∧ c.keepsEntries (c.proofOver r) [E.GAUGE_STATE, E.PROOF_RESULT] := by
  unfold Chip.proofOver
  refine ⟨rfl, (Chip.get_set _ _ _ _).trans (if_pos rfl), ((Chip.get_set _ _ _ _).trans (if_neg (by decide))).trans ((Chip.get_set _ _ _ _).trans (if_pos rfl)), ?_, ?_⟩
  · exact (Chip.keeps_setAt_iff (by decide) _ _ _).2 ((Chip.keeps_setAt_iff (by decide) _ _ _).2 ((Chip.keeps_with_st (by decide) _).2 (Chip.keeps_refl _ _)))
  · exact (Chip.keepsEntries_setAt_iff (by decide) _ _).2 ((Chip.keepsEntries_setAt_iff (by decide) _ _).2 (Chip.keepsEntries_vals rfl _))

/-! ### The loss of power -/

theorem Chip.raiseAeAll_noFns {c : Chip} {k : List Cmd} (hc : c.cmds = k ∧ c.fns = []) (type info page : Nat) :
    (c.raiseAeAll type info page).cmds = k ∧ (c.raiseAeAll type info page).fns = [] := by
  have h : c.raiseAeAll type info page = c := by
    unfold Chip.raiseAeAll
    rw [hc.2]
    rfl
  rw [h]
  exact hc

/-- Where no function is there, a step's notices reach no command and no function. -/
theorem Chip.notices_noFns {b c : Chip} (h : c.fns = []) : (b.notices c).cmds = c.cmds ∧ (b.notices c).fns = [] := by
  obtain ⟨v, e, a, hu⟩ := b.unitNotices_frame c
  have hcu : (b.unitNotices c).cmds = c.cmds ∧ (b.unitNotices c).fns = [] := by rw [hu]; exact ⟨rfl, h⟩
  unfold Chip.notices
  extract_lets u cap lg c0 c1 low
  have h0 : c0.cmds = c.cmds ∧ c0.fns = [] := by
    unfold c0
    split
    · exact hcu
    · refine Chip.raiseAeAll_noFns ?_ _ _ _
      exact hcu
  have h1 : c1.cmds = c.cmds ∧ c1.fns = [] := by
    unfold c1
    split
    · exact h0
    · exact Chip.raiseAeAll_noFns h0 _ _ _
  split
  · rw [Chip.event_cmds, Chip.event_fns]
    exact h1
  · exact h1

/-- The cores halted and the links off after a loss of power. -/
def Chip.powerless (c : Chip) (returns : Bool) : Chip :=
  { (c.haltCores (if returns then .rails else .standby)).physOff with
    boot := { (c.haltCores (if returns then .rails else .standby)).physOff.boot with
      cause := if returns then 3 else 0, trained := false, railsT := (c.haltCores (if returns then .rails else .standby)).physOff.now } }

theorem Chip.powerFail_ready {c : Chip} (h : c.isReady = true) (reason : Nat) (returns : Bool) (f : FlushInput) :
    c.powerFail reason returns f = (c.flushSteps (if c.fw.shn = 0 then reason else 4) returns f).powerless returns := by
  unfold Chip.powerFail
  rw [show c.boot.run = .ready from of_decide_eq_true h]
  rfl

theorem Chip.powerless_frame (c : Chip) (returns : Bool) : (c.powerless returns).boot.run = (if returns then .rails else .standby)
    ∧ (c.powerless returns).boot.cause = (if returns then 3 else 0) ∧ (c.powerless returns).cmds = [] ∧ (c.powerless returns).fns = [] ∧ (c.powerless returns).ft = c.ft
    ∧ (c.powerless returns).pr.up = false ∧ (returns = false → (c.powerless returns).pm.vrEn = false ∧ (c.powerless returns).pm.clock = 3)
    ∧ (c.powerless returns).boot.hallmark = c.boot.hallmark := by
  refine ⟨rfl, rfl, rfl, rfl, rfl, rfl, ?_, rfl⟩
  rintro rfl
  exact ⟨rfl, rfl⟩

theorem Chip.flushSteps_frame (c : Chip) (reason : Nat) (returned : Bool) (f : FlushInput) : (c.flushSteps reason returned f).ft.slots = []
    ∧ (5 ≤ f.reached → ∃ m, (c.flushSteps reason returned f).boot.hallmark = some m ∧ m.reason = reason ∧ m.session = c.get E.BOOT_COUNT ∧ m.time = c.stamp
        ∧ m.pages = f.pages ∧ m.energy = f.energy)
    ∧ (f.reached < 5 → (c.flushSteps reason returned f).boot.hallmark = none) := by
  unfold Chip.flushSteps
  extract_lets
  split
  · next h => exact ⟨rfl, fun h5 => absurd h (Nat.not_lt.2 h5), fun _ => rfl⟩
  · next h => exact ⟨rfl, fun _ => ⟨_, rfl, rfl, rfl, rfl, rfl, rfl⟩, fun h5 => absurd h5 h⟩

end Sys2Proof.Machine

open Sys2Proof Sys2Proof.Machine

/-- Settles O49: what each check of the store and the loss of power leave. -/
theorem storeIsProven : Obligations.StoreIsProven := by
  intro s t
  refine ⟨fun tap moved hc h0 h1 h2 h3 => ?_, fun hr hd h1 h2 h3 => ?_, fun hp h1 h2 h3 => ?_, fun p hc h0 h1 h2 h3 => ?_, fun low returns f hr hl => ?_⟩
  · have hk : (s.chip.atTime t).keeps ((s.chip.atTime t).tapped tap moved) [.st] := (Chip.keeps_with_st (by decide) _).2 (Chip.keeps_refl _ _)
    have hks : (s.chip.atTime t).keepsEntries ((s.chip.atTime t).tapped tap moved) [] := Chip.keepsEntries_vals rfl _
    refine Completes.of_calmUnits (exec_tapCheck s t tap moved) (Chip.tapEnds_eq (c := s.chip.atTime t) moved h0 h1 h2 h3) hk hks (by decide) (by simp) rfl rfl rfl rfl rfl hc
      ⟨?_, Chip.keeps_ended t (Chip.keeps_mono hk (by decide)) (by decide) (by decide), Chip.keepsEntries_end t hks⟩
    rw [Chip.seal_st, Chip.notices_st]
    rfl
  · refine Completes.of_when (exec_tapCheckInterval s t) ?_ ?_
    · rw [show (s.chip.atTime t).isReady = true from hr]
      exact decide_eq_true hd
    · rw [Chip.startTaps_eq (c := s.chip.atTime t) h3 h2 h1]
      refine ⟨?_, Chip.keeps_ended t ((Chip.keeps_with_st (by decide) _).2 (Chip.keeps_refl _ _)) (by decide) (by decide), Chip.keepsEntries_end t (Chip.keepsEntries_vals rfl _)⟩
      rw [Chip.seal_st, Chip.notices_st]
      rfl
  · refine Completes.of_when (exec_proofInterval s t) ?_ ?_
    · rw [show (s.chip.atTime t).proofReady = true from hp, decide_eq_true (show (s.chip.atTime t).get E.STORE_C_FIRST = 0 ∧ (s.chip.atTime t).get E.GAUGE_STATE = 2 from ⟨h1, h2⟩)]
      simp
    · have hk : (s.chip.atTime t).keeps (s.chip.atTime t).proving [.st, .dict] := (Chip.keeps_setAt_iff (by decide) _ _ _).2 ((Chip.keeps_with_st (by decide) _).2 (Chip.keeps_refl _ _))
      rw [Chip.startProof_eq (c := s.chip.atTime t) h3]
      refine ⟨?_, Chip.get_end (by decide) ((Chip.get_set _ _ _ _).trans (if_pos rfl)), Chip.keeps_ended t (Chip.keeps_mono hk (by decide)) (by decide) (by decide),
        Chip.keepsEntries_end t ((Chip.keepsEntries_setAt_iff (by decide) _ _).2 (Chip.keepsEntries_vals rfl _))⟩
      rw [Chip.seal_st, Chip.notices_st]
      rfl
  · obtain ⟨g1, g2, g3, g4, g5⟩ := (s.chip.atTime t).proofOver_frame 2
    have hk := (Chip.keeps_event_iff (a := s.chip.atTime t) (l := [.st, .dict, .ev, .lg]) (by decide) (by decide) (by decide) 0x384 0 1 noUnit
      [2, ((s.chip.atTime t).proofOver 2).get E.STORE_C, ((s.chip.atTime t).proofOver 2).get E.STORE_ESR, ((s.chip.atTime t).proofOver 2).get E.FLUSH_COST_LEARNED]).2
      (Chip.keeps_mono g4 (by decide))
    refine Completes.of_calmUnits (exec_proofEnd s t p) (Chip.endProof_margin (c := s.chip.atTime t) h0 h1 h2 h3) (es := [E.GAUGE_STATE, E.PROOF_RESULT])
      hk ((Chip.keepsEntries_event_iff _ _ _ _ _).2 g5) (by decide) (by decide)
      (Chip.partnerStates_of_keeps hk (by decide) (by decide)) (congrArg Sbs.eligible (hk .sb (by decide))) (by rw [Chip.event_st, g1]; rfl)
      (by rw [Chip.event_st, g1]; rfl) (hk .ft (by decide)) hc ⟨?_, ?_, ?_, ?_, ?_⟩
    · rw [Chip.seal_st, Chip.notices_st, Chip.event_st, g1]
      rfl
    · exact Chip.get_end (by decide) ((Chip.getAt_event _ _ _ _ _ _ (by decide)).trans g2)
    · exact Chip.get_end (by decide) ((Chip.getAt_event _ _ _ _ _ _ (by decide)).trans g3)
    · exact Chip.keeps_ended t (Chip.keeps_mono hk (by decide)) (by decide) (by decide)
    · exact Chip.keepsEntries_end t ((Chip.keepsEntries_event_iff _ _ _ _ _).2 g5)
  · refine Completes.of_when (exec_powerFailTrigger s t low returns f) hl ?_
    rw [Chip.powerFail_ready (c := s.chip.atTime t) hr]
    obtain ⟨g1, g2, g3⟩ := (s.chip.atTime t).flushSteps_frame (if (s.chip.atTime t).fw.shn = 0 then low.reason else 4) returns f
    obtain ⟨h1, h2, h3, h4, h5, h6, h7, h8⟩ := ((s.chip.atTime t).flushSteps (if (s.chip.atTime t).fw.shn = 0 then low.reason else 4) returns f).powerless_frame returns
    obtain ⟨n1, n2⟩ := Chip.notices_noFns (b := s.chip.atTime t) h4
    rw [Chip.seal_boot, Chip.notices_boot, Chip.seal_cmds, n1, Chip.seal_fns, n2, Chip.seal_ft, Chip.notices_ft, Chip.seal_pr, Chip.notices_pr, Chip.seal_pm, Chip.notices_pm,
      h1, h2, h3, h5, h6, h8]
    exact ⟨rfl, rfl, rfl, rfl, g1, rfl, h7, g2, g3⟩
end

section
/-! What the end of a read reaches (R36, R319). -/
namespace Sys2Proof.Machine

theorem Chip.keeps_dropReads (c : Chip) (h : Nat) : c.keeps (c.dropReads h) [.rd] := by simp [Chip.dropReads, Chip.unpin]

theorem Chip.keeps_toPeer (c : Chip) (port win base octets n : Nat) : c.keeps (c.toPeer port win base octets n) [] :=
  Chip.keeps_each (fun d _ => (Chip.keeps_emit_iff _).2 (Chip.keeps_refl d _)) _ c

/-- What the end of a read may reach. -/
def readPart : List Area := [.rd, .wins, .dict, .cmds, .um, .lg]

theorem Chip.keeps_deliverSegment (c : Chip) (x : Cmd) (n : Ns) (e : SbEntry) : c.keeps (c.deliverSegment x n e) readPart := by
  unfold Chip.deliverSegment
  extract_lets r d bytes cut clipped dw1 p w it c1 bytes' c2
  have h0 : c.keeps clipped readPart := by
    refine (Chip.keeps_countAt_iff (by decide) _ _ _).2 ?_
    split
    · exact (Chip.keeps_countAt_iff (by decide) _ _ _).2 (Chip.keeps_refl _ _)
    · exact Chip.keeps_refl _ _
  split
  · refine (Chip.keeps_setCmd_iff (by decide) _).2 ((Chip.keeps_setAt_iff (by decide) _ _ _).2 ?_)
    exact (Chip.keeps_iff (Chip.keeps_dropReads _ _) (by decide)).2 ((Chip.keeps_iff (Chip.keeps_toPeer _ _ _ _ _ _) (by decide)).2 h0)
  · have h2 : c.keeps c2 readPart := by
      unfold c2
      split
      · exact h0
      · exact (Chip.keeps_emit_iff _).2 h0
    refine (Chip.keeps_finish_iff (by decide) (by decide) _ _ _ _).2 ((Chip.keeps_countAt_iff (by decide) _ _ _).2 ?_)
    exact (Chip.keeps_dropTasks_iff (by decide) (by decide) _).2 ((Chip.keeps_iff (Chip.keeps_dropReads _ _) (by decide)).2 h2)

theorem Chip.keeps_endRead (c : Chip) (h : Nat) : c.keeps (c.endRead h) readPart := by
  unfold Chip.endRead
  split
  · exact Chip.keeps_refl _ _
  · split
    · exact Chip.keeps_refl _ _
    · split
      · split
        · exact Chip.keeps_refl _ _
        · split
          · exact Chip.keeps_refl _ _
          · exact Chip.keeps_deliverSegment _ _ _ _
      · split
        · exact Chip.keeps_refl _ _
        · extract_lets got c1 lg units
          have h1 : c.keeps c1 readPart := Chip.keeps_mono (Chip.keeps_dropReads _ _) (by decide)
          split
          · exact (Chip.keeps_finish_iff (by decide) (by decide) _ _ _ _).2 h1
          · split
            · exact (Chip.keeps_finish_iff (by decide) (by decide) _ _ _ _).2 h1
            · refine (Chip.keeps_finish_iff (by decide) (by decide) _ _ _ _).2 ((Chip.keeps_emit_iff _).2 ((Chip.keeps_countAt_iff (by decide) _ _ _).2 ?_))
              exact (Chip.keeps_with_lg (by decide) _).2 h1

theorem Chip.keeps_unpause (c : Chip) (x : Cmd) : c.keeps (c.unpause x) readPart := by
  unfold Chip.unpause
  split
  · exact Chip.keeps_refl _ _
  · extract_lets c1
    have h1 : c.keeps c1 readPart := (Chip.keeps_iff (Chip.keeps_hostTime _ _ _) (by decide)).2 ((Chip.keeps_setCmd_iff (by decide) _).2 (Chip.keeps_refl _ _))
    split
    · exact (Chip.keeps_iff (Chip.keeps_endRead _ _) (by decide)).2 h1
    · exact h1

end Sys2Proof.Machine
end

section
/-! Proofs of the family of device power states and the controller memory buffer (R110, R118). -/
namespace Sys2Proof.Machine

theorem Chip.each_mem_induct {α : Type} {P : Chip → Prop} {f : Chip → α → Chip} {l : List α} (hf : ∀ c, ∀ x ∈ l, P c → P (f c x)) {c : Chip} (h : P c) :
    P (c.each l f) := by
  induction l generalizing c with
  | nil => exact h
  | cons x l ih => exact ih (fun d y hy => hf d y (by simp [hy])) (hf c x (by simp) h)

/-! ### D3hot -/

/-- A command as it pauses. -/
def Chip.pauseCmd (c : Chip) (x : Cmd) : Chip := if x.paused.isSome then c else c.setCmd { x with paused := some c.now }

theorem Chip.keeps_pauseCmd (c : Chip) (x : Cmd) : c.keeps (c.pauseCmd x) [.cmds] := by
  unfold Chip.pauseCmd
  split
  · exact Chip.keeps_refl _ _
  · exact (Chip.keeps_setCmd_iff (by decide) _).2 (Chip.keeps_refl _ _)

theorem Chip.cmd_pauseCmd_ne (c : Chip) {x : Cmd} {h : Nat} (hn : x.h ≠ h) : (c.pauseCmd x).cmd h = c.cmd h := by
  unfold Chip.pauseCmd
  split
  · rfl
  · exact Chip.cmd_setCmd_ne _ _ hn

theorem Chip.cmd_pauseCmd_same {c : Chip} {x : Cmd} (hx : c.cmd x.h = some x) : ((c.pauseCmd x).cmd x.h).map Cmd.paused = some (some (x.paused.getD c.now)) := by
  unfold Chip.pauseCmd
  split
  · next h =>
    obtain ⟨p, hp⟩ := Option.isSome_iff_exists.1 h
    rw [hx, Option.map_some, hp]
    rfl
  · next h =>
    rw [Chip.cmd_setCmd_same (x := { x with paused := some c.now }) hx, Option.map_some, Option.not_isSome_iff_eq_none.1 h]
    rfl

theorem Chip.pauseCmd_now (c : Chip) (x : Cmd) : (c.pauseCmd x).now = c.now := by
  unfold Chip.pauseCmd
  split <;> rfl

theorem Chip.cmd_each_pause {l : List Cmd} {h : Nat} (hl : ∀ z ∈ l, z.h ≠ h) {c : Chip} : (c.each l Chip.pauseCmd).cmd h = c.cmd h :=
  Chip.each_mem_induct (P := fun d => d.cmd h = c.cmd h) (fun d z hz hd => (d.cmd_pauseCmd_ne (hl z hz)).trans hd) rfl

/-- Of commands with handles of their own, each is paused in its turn. -/
theorem Chip.cmd_paused {l : List Cmd} (hl : (l.map Cmd.h).Nodup) {x : Cmd} (hx : x ∈ l) {c : Chip} (hc : ∀ y ∈ l, c.cmd y.h = some y) :
    ((c.each l Chip.pauseCmd).cmd x.h).map Cmd.paused = some (some (x.paused.getD c.now)) := by
  induction l generalizing c with
  | nil => simp at hx
  | cons y l ih =>
    rw [List.map_cons, List.nodup_cons] at hl
    have hne : ∀ z ∈ l, y.h ≠ z.h := fun z hz he => hl.1 (he ▸ List.mem_map_of_mem hz)
    rw [Chip.each, List.foldl_cons]
    rcases List.mem_cons.1 hx with rfl | hx
    · have hkeep : ((c.pauseCmd x).each l Chip.pauseCmd).cmd x.h = (c.pauseCmd x).cmd x.h := by
        refine Chip.cmd_each_pause fun z hz => ?_
        exact fun he => hne z hz he.symm
      exact (congrArg (Option.map Cmd.paused) hkeep).trans (Chip.cmd_pauseCmd_same (hc x (by simp)))
    · have h := ih hl.2 hx (c := c.pauseCmd y) fun z hz => (c.cmd_pauseCmd_ne (hne z hz)).trans (hc z (by simp [hz]))
      rw [Chip.pauseCmd_now] at h
      exact h

theorem Chip.mayChangeD_ready {c : Chip} (h : c.isReady = true) : c.mayChangeD = true := by
  unfold Chip.mayChangeD Chip.serves
  rw [h]
  rfl

theorem find_of_nodup {l : List Cmd} (hl : (l.map Cmd.h).Nodup) {x : Cmd} (hx : x ∈ l) : l.find? (fun y => decide (y.h = x.h)) = some x := by
  induction l with
  | nil => simp at hx
  | cons y l ih =>
    rw [List.map_cons, List.nodup_cons] at hl
    rcases List.mem_cons.1 hx with rfl | hx
    · simp
    · rw [List.find?_cons_of_neg (by simpa using fun he : y.h = x.h => hl.1 (he ▸ List.mem_map_of_mem hx)), ih hl.2 hx]

/-- A function set, and its commands paused. -/
theorem Chip.paused_frame {c : Chip} {g : Fn} {port fn : Nat} (hp : g.port = port) (hf : g.fn = fn) (ha : g.aers = (c.fnOf port fn).aers) (hnd : (c.cmds.map Cmd.h).Nodup) :
    ((c.setFn g).each (c.pausable port fn) Chip.pauseCmd).fnOf port fn = g ∧ c.keeps ((c.setFn g).each (c.pausable port fn) Chip.pauseCmd) [.fns, .cmds]
      ∧ ∀ x ∈ c.pausable port fn, (((c.setFn g).each (c.pausable port fn) Chip.pauseCmd).cmd x.h).map Cmd.paused = some (some (x.paused.getD c.now))
        ∧ (c.notHeld x.h → ((c.setFn g).each (c.pausable port fn) Chip.pauseCmd).notHeld x.h) := by
  have hk : (c.setFn g).keeps ((c.setFn g).each (c.pausable port fn) Chip.pauseCmd) [.cmds] := Chip.keeps_each (fun d x => d.keeps_pauseCmd x) _ _
  refine ⟨(Chip.fnOf_congr (hk .fns (by decide)) _ _).trans (Chip.fnOf_setFn_self c hp hf), Chip.keeps_trans (Chip.keeps_setFn c g) hk, fun x hx => ⟨?_, fun hn => ?_⟩⟩
  · refine Chip.cmd_paused (hnd.sublist (List.Sublist.map _ List.filter_sublist)) hx fun y hy => ?_
    exact find_of_nodup hnd (List.mem_filter.1 hy).1
  · exact Chip.keeps_notHeld hk (by decide) (Chip.notHeld_setFn hn (ha ▸ Chip.notHeld_fnOf hn _ _))

/-! ### D0 -/

theorem Chip.keeps_badDoorbell (c : Chip) (port fn qid info : Nat) : c.keeps (c.badDoorbell port fn qid info) notePart := by
  unfold Chip.badDoorbell
  extract_lets c1
  have h1 : c.keeps c1 notePart := (Chip.keeps_eventFirst_iff (by decide) (by decide) (by decide) _ _ _ _ _).2 (Chip.keeps_refl _ _)
  split
  · exact (Chip.keeps_raiseAe_iff (by decide) (by decide) (by decide) _ _ _ _ _).2 h1
  · exact h1

theorem Chip.noAe_badDoorbell (c : Chip) (port fn qid info p k : Nat) : ((c.badDoorbell port fn qid info).fnOf p k).noAe = (c.fnOf p k).noAe := by
  unfold Chip.badDoorbell
  extract_lets c1
  have h1 : (c1.fnOf p k).noAe = (c.fnOf p k).noAe := congrArg Fn.noAe (Chip.fnOf_congr (Chip.eventFirst_fns _ _ _ _ _ _) p k)
  split
  · exact (Chip.noAe_raiseAe _ _ _ _ _ _ _ _).trans h1
  · exact h1

theorem Chip.keeps_portWorks (c : Chip) (port : Nat) : c.keeps (c.portWorks port) [.ports] := by
  unfold Chip.portWorks
  extract_lets p v c1
  have h1 : c.keeps c1 [.ports] := (Chip.keeps_setPort_iff (by decide) _).2 (Chip.keeps_refl _ _)
  split
  · exact h1
  · exact (Chip.keeps_emit_iff _).2 h1

/-- What a tail read from its shadow reaches. -/
theorem Chip.keeps_readShadow (c : Chip) (port fn qid tail : Nat) : c.keeps (c.readShadow port fn qid tail) ([.qs, .ports] ++ notePart) := by
  unfold Chip.readShadow
  split
  · exact Chip.keeps_refl _ _
  · split
    · exact Chip.keeps_mono (Chip.keeps_badDoorbell _ _ _ _ _) (by decide)
    · exact (Chip.keeps_iff (Chip.keeps_portWorks _ _) (by decide)).2 ((Chip.keeps_setSq_iff (by decide) _).2 (Chip.keeps_refl _ _))

theorem Chip.noAe_readShadow (c : Chip) (port fn qid tail p k : Nat) : ((c.readShadow port fn qid tail).fnOf p k).noAe = (c.fnOf p k).noAe := by
  unfold Chip.readShadow
  split
  · rfl
  · next q _ =>
    split
    · exact Chip.noAe_badDoorbell _ _ _ _ _ _ _
    · exact congrArg Fn.noAe (Chip.fnOf_congr (Chip.keeps_portWorks (c.setSq { q with tail := tail }) port .fns (by decide)) p k)

/-- The tails that the host has left in the shadows of a function, or of every function of its port. -/
def Chip.readShadows (c : Chip) (port : Nat) (w : Waking) : Chip :=
  c.each w.tails fun c q => if w.fn = 0 ∨ q.1 = w.fn then c.readShadow port q.1 q.2.1 q.2.2 else c

theorem Chip.keeps_readShadows (c : Chip) (port : Nat) (w : Waking) : c.keeps (c.readShadows port w) ([.qs, .ports] ++ notePart) :=
  Chip.keeps_each (fun d q => by
    split
    · exact d.keeps_readShadow _ _ _ _
    · exact Chip.keeps_refl _ _) _ c

theorem Chip.noAe_readShadows (c : Chip) (port : Nat) (w : Waking) (p k : Nat) : ((c.readShadows port w).fnOf p k).noAe = (c.fnOf p k).noAe :=
  Chip.each_induct (P := fun d => (d.fnOf p k).noAe = (c.fnOf p k).noAe) (fun d q hd => by
    split
    · exact (Chip.noAe_readShadow _ _ _ _ _ _ _).trans hd
    · exact hd) _ rfl

/-- A function as it comes to D0. -/
def Chip.toD0 (c : Chip) (f : Fn) (port : Nat) (w : Waking) : Chip :=
  let c1 := (c.setFn { f with dstate := 0 }).readShadows port w
  c1.each (c1.cmds.filter fun x => decide (x.port = port ∧ (w.fn = 0 ∨ x.fn = w.fn)) && !c1.inD3 x.port x.fn) Chip.unpause

theorem Chip.toD0_frame {c : Chip} {f : Fn} {port : Nat} {w : Waking} (hp : f.port = port) (hf : f.fn = w.fn) :
    ((c.toD0 f port w).fnOf port w.fn).noAe = ({ f with dstate := 0 } : Fn).noAe ∧ c.keeps (c.toD0 f port w) ([.rd, .wins, .qs, .ports] ++ notePart) := by
  unfold Chip.toD0
  extract_lets c1
  have hu : c1.keeps (c1.each (c1.cmds.filter fun x => decide (x.port = port ∧ (w.fn = 0 ∨ x.fn = w.fn)) && !c1.inD3 x.port x.fn) Chip.unpause) readPart := Chip.keeps_each (fun d x => d.keeps_unpause x) _ _
  have h1 : c.keeps c1 ([.qs, .ports] ++ notePart) := (Chip.keeps_iff (Chip.keeps_readShadows _ _ _) (by decide)).2 ((Chip.keeps_setFn_iff (by decide) _).2 (Chip.keeps_refl _ _))
  refine ⟨?_, Chip.keeps_mono (Chip.keeps_trans h1 hu) (by decide)⟩
  refine (congrArg Fn.noAe (Chip.fnOf_congr (hu .fns (by decide)) _ _)).trans ((Chip.noAe_readShadows _ _ _ _ _).trans ?_)
  exact congrArg Fn.noAe (Chip.fnOf_setFn_self _ (f := { f with dstate := 0 }) hp hf)

/-! ### The controller memory buffer -/

theorem Chip.placeDram_frame (c : Chip) : c.placeDram.ft.cmbMib = c.ft.cmbMib ∧ c.keeps c.placeDram [.ft, .dict, .ev, .lg] ∧ c.keepsEntries c.placeDram [] := by
  unfold Chip.placeDram
  extract_lets m fit keep want now _ c1
  have hk : c.keeps c1 [.ft, .dict, .ev, .lg] := (Chip.keeps_with_ft (by decide) _).2 ((Chip.keeps_with_ft (by decide) _).2 (Chip.keeps_refl _ _))
  have he : c.keepsEntries c1 [] := Chip.keepsEntries_vals rfl _
  split
  · exact ⟨rfl, hk, he⟩
  · refine ⟨by rw [Chip.event_ft]; rfl, (Chip.keeps_event_iff (by decide) (by decide) (by decide) _ _ _ _ _).2 hk, (Chip.keepsEntries_event_iff _ _ _ _ _).2 he⟩

theorem Chip.keeps_fitGrant (c : Chip) : c.keeps c.fitGrant [.pr, .st] := by
  unfold Chip.fitGrant
  extract_lets fit less
  split
  · exact Chip.keeps_refl _ _
  · exact fun p hp => by cases p <;> first | rfl | simp at hp

/-- A function with a buffer. -/
def withBuffer (f : Fn) (n base : Nat) : Fn := { f with cmse := true, cmbOct := n, cmbBase := base }

/-- The chip with the buffer of a function taken. -/
def Chip.buffered (c : Chip) (port fn base : Nat) : Chip :=
  let c1 := (c.setFn (withBuffer (c.fnOf port fn) (c.bar2Ctrl port fn) base)).setPort
    { c.portOf port with bar2Held := (c.portOf port).bar2Held.filter fun q => decide (q.1 ≠ fn) }
  ({ c1 with ft := { c1.ft with cmbMib := c1.ft.cmbMib + c.bar2Ctrl port fn } }).set E.CMB_RESERVED (c1.ft.cmbMib + c.bar2Ctrl port fn)

theorem Chip.reserveCmb_eq {c : Chip} {port fn : Nat} (base : Nat) (h : (c.fnOf port fn).cmse = false)
    (h1 : c.bar2Ctrl port fn ≤ c.ddrMib (fun o => o == 1 || o == 2) - c.fixedMib c.bookOn - c.ft.cmbMib) (h2 : c.ft.cmbMib + c.bar2Ctrl port fn ≤ 65536) :
    c.reserveCmb port fn base = (c.buffered port fn base).placeDram.fitGrant := by
  unfold Chip.reserveCmb
  dsimp only
  rw [if_neg (by rw [h]; decide), if_pos ⟨h1, h2⟩]
  rfl

theorem Chip.bar2Mib_none {c : Chip} {port fn : Nat} (h : ∀ q ∈ (c.portOf port).bar2Held, q.1 ≠ fn) : c.bar2Mib port fn = c.bar2Ctrl port fn := by
  unfold Chip.bar2Mib
  rw [List.find?_eq_none.2 fun q hq => by simpa using h q hq]

theorem Chip.bar2Mib_congr {c d : Chip} {port : Nat} (h : d.portOf port = c.portOf port) (fn : Nat) : d.bar2Mib port fn = c.bar2Mib port fn := by
  unfold Chip.bar2Mib Chip.bar2Ctrl
  rw [h]

theorem Chip.buffered_frame (c : Chip) (port fn base : Nat) :
    (c.buffered port fn base).fnOf port fn = withBuffer (c.fnOf port fn) (c.bar2Ctrl port fn) base
      ∧ (c.buffered port fn base).ft.cmbMib = c.ft.cmbMib + c.bar2Ctrl port fn ∧ (c.buffered port fn base).get E.CMB_RESERVED = c.ft.cmbMib + c.bar2Ctrl port fn
      ∧ (c.buffered port fn base).bar2Mib port fn = c.bar2Ctrl port fn ∧ c.keeps (c.buffered port fn base) [.fns, .ports, .ft, .dict]
      ∧ c.keepsEntries (c.buffered port fn base) [E.CMB_RESERVED] := by
  unfold Chip.buffered
  extract_lets _ c1 _
  have h1 : c.keeps c1 [.fns, .ports] := (Chip.keeps_setPort_iff (by decide) _).2 ((Chip.keeps_setFn_iff (by decide) _).2 (Chip.keeps_refl _ _))
  have hft : c1.ft = c.ft := h1 .ft (by decide)
  have hport : c1.portOf port = { c.portOf port with bar2Held := (c.portOf port).bar2Held.filter fun q => decide (q.1 ≠ fn) } := Chip.portOf_setPort_of (c.portOf_port port)
  have hb : c1.bar2Mib port fn = c.bar2Ctrl port fn := by
    rw [Chip.bar2Mib_none (by rw [hport]; intro q hq; simpa using (List.mem_filter.1 hq).2)]
    unfold Chip.bar2Ctrl
    rw [hport]
  rw [hft]
  refine ⟨?_, rfl, (Chip.get_set _ _ _ _).trans (if_pos rfl), (Chip.bar2Mib_congr (c := c1) rfl fn).trans hb, ?_, ?_⟩
  · refine (Chip.fnOf_congr (c := c.setFn (withBuffer (c.fnOf port fn) (c.bar2Ctrl port fn) base)) rfl port fn).trans ?_
    exact (Chip.fnOf_setFn_self c (f := withBuffer (c.fnOf port fn) (c.bar2Ctrl port fn) base) (c.fnOf_key port fn).1 (c.fnOf_key port fn).2)
  · exact (Chip.keeps_setAt_iff (by decide) _ _ _).2 ((Chip.keeps_with_ft (by decide) _).2 (Chip.keeps_mono h1 (by decide)))
  · exact (Chip.keepsEntries_setAt_iff (by decide) _ _).2 (Chip.keepsEntries_vals rfl _)

end Sys2Proof.Machine

open Sys2Proof Sys2Proof.Machine

/-- Settles O31: a change of D-state, the turning off of the link and the taking of a buffer reach no more than their function, its commands and its port. -/
theorem functionsChangePowerState : Obligations.FunctionsChangePowerState := by
  intro s t port fn f hf
  obtain ⟨hfp, hff⟩ : f.port = port ∧ f.fn = fn := hf ▸ s.chip.fnOf_key port fn
  refine ⟨fun hr hu hd hnd => ?_, fun w hw hr hd => ?_, fun hu h0 hd hl => ?_, fun base hr he hc h1 h2 => ?_⟩
  · refine Completes.of_whenOn (f := fun a c => (c.setFn { a.fnOf port fn with dstate := 3 }).each (c.pausable port fn) Chip.pauseCmd) (exec_d3hotEntry s t port fn) ?_ ?_
    · rw [show (s.chip.atTime t).mayChangeD = true from Chip.mayChangeD_ready hr, show (s.chip.atTime t).portUsed port = true from hu]
      exact decide_eq_true (show ((s.chip.atTime t).fnOf port fn).dstate = 0 from hf ▸ hd)
    · rw [show (s.chip.atTime t).fnOf port fn = f from hf]
      obtain ⟨g1, g2, g3⟩ := Chip.paused_frame (c := s.chip.atTime t) (g := { f with dstate := 3 }) hfp hff (show f.aers = (s.chip.fnOf port fn).aers by rw [hf]) hnd
      refine ⟨by rw [Chip.noAe_end, g1], Chip.keeps_ended t (Chip.keeps_mono g2 (by decide)) (by decide) (by decide),
        Chip.keepsEntries_end t (Chip.keepsEntries_of_keeps g2 (by decide) _), fun x hx hn => ?_⟩
      obtain ⟨k1, k2⟩ := g3 x hx
      rw [Chip.cmd_seal, Chip.cmd_notices _ (k2 hn)]
      exact k1
  · subst hw
    refine Completes.of_whenOn (f := fun a c => c.toD0 (a.fnOf port w.fn) port w) (exec_d0Entry s t port w) ?_ ?_
    · rw [show (s.chip.atTime t).mayChangeD = true from Chip.mayChangeD_ready hr]
      exact decide_eq_true (show ((s.chip.atTime t).fnOf port w.fn).dstate = 3 from hf ▸ hd)
    · rw [show (s.chip.atTime t).fnOf port w.fn = f from hf]
      obtain ⟨g1, g2⟩ := Chip.toD0_frame (c := s.chip.atTime t) hfp hff
      exact ⟨by rw [Chip.noAe_end, g1], Chip.keeps_ended t g2 (by decide) (by decide)⟩
  · refine Completes.of_whenOn (f := fun a c => (c.setPort { a.portOf port with readyL23 := true, link := 7 }).emit (.signal 4 port 1)) (exec_pmeTurnOff s t port) ?_ ?_
    · rw [show (s.chip.atTime t).portUsed port = true from hu, decide_eq_true (show ((s.chip.atTime t).fnOf port 0).dstate = 3 from h0 ▸ hf ▸ hd)]
      exact decide_eq_true hl
    · refine ⟨?_, Chip.mem_out_end (Chip.mem_out_emit _ _), Chip.keeps_ended t ((Chip.keeps_emit_iff _).2 ((Chip.keeps_setPort_iff (by decide) _).2 (Chip.keeps_refl _ _))) (by decide)
        (by decide), Chip.keepsEntries_end t (Chip.keepsEntries_vals rfl _)⟩
      rw [Chip.portOf_seal, Chip.portOf_notices]
      exact (Chip.portOf_congr (Chip.emit_ports _ _) port).trans (Chip.portOf_setPort_of (c := s.chip.atTime t) (p := { s.chip.portOf port with readyL23 := true, link := 7 })
        (s.chip.portOf_port port))
  · refine Completes.of_when (exec_cmbEnable s t port fn base) ?_ ?_
    · rw [show (s.chip.atTime t).isReady = true from hr]; exact he
    · obtain ⟨g1, g2, g3, g4, g5, g6⟩ := (s.chip.atTime t).buffered_frame port fn base
      obtain ⟨p1, p2, p3⟩ := ((s.chip.atTime t).buffered port fn base).placeDram_frame
      have hk := Chip.keeps_trans p2 ((s.chip.atTime t).buffered port fn base).placeDram.keeps_fitGrant
      have hks := Chip.keepsEntries_trans p3 (Chip.keepsEntries_of_keeps ((s.chip.atTime t).buffered port fn base).placeDram.keeps_fitGrant (by decide) [])
      have hff : ((s.chip.atTime t).buffered port fn base).placeDram.fitGrant.ft.cmbMib = s.chip.ft.cmbMib + s.chip.bar2Ctrl port fn :=
        (congrArg Ft.cmbMib (((s.chip.atTime t).buffered port fn base).placeDram.keeps_fitGrant .ft (by decide))).trans (p1.trans g2)
      have hport := Chip.portOf_congr (hk .ports (by decide)) port
      rw [Chip.reserveCmb_eq (c := s.chip.atTime t) base (hf ▸ hc) h1 h2]
      refine ⟨?_, by rw [Chip.seal_ft, Chip.notices_ft, hff], Chip.get_end (by decide) ((hks _ 0 (by decide) (by decide)).trans g3), ?_,
        Chip.keeps_ended t (Chip.keeps_mono (Chip.keeps_trans g5 hk) (by decide)) (by decide) (by decide),
        Chip.keepsEntries_end t (Chip.keepsEntries_mono (Chip.keepsEntries_trans g6 hks) (by decide))⟩
      · rw [Chip.noAe_end, Chip.fnOf_congr (hk .fns (by decide)), g1, show (s.chip.atTime t).fnOf port fn = f from hf]
        rfl
      · refine (Chip.bar2Mib_congr (c := (s.chip.atTime t).buffered port fn base) ?_ fn).trans g4
        rw [Chip.portOf_seal, Chip.portOf_notices, hport]
end

section
/-! Proofs of the family of the junction temperature (R420 to R423). -/
namespace Sys2Proof.Machine

/-! ### The step of throttling -/

theorem Chip.holdSupply_frame (b c : Chip) : (b.holdSupply c).th = c.th ∧ (b.holdSupply c).now = c.now ∧ c.keeps (b.holdSupply c) notePart
    ∧ c.keepsEntries (b.holdSupply c) [E.SUPPLY_HOLD_UNTIL] := by
  unfold Chip.holdSupply
  split
  · extract_lets old hold _ c1
    have hk : c.keeps c1 notePart := (Chip.keeps_setAt_iff (by decide) _ _ _).2 ((Chip.keeps_with_um (by decide) _).2 (Chip.keeps_refl _ _))
    have hs : c.keepsEntries c1 [E.SUPPLY_HOLD_UNTIL] := (Chip.keepsEntries_setAt_iff (by decide) _ _).2 (Chip.keepsEntries_vals rfl _)
    split
    · exact ⟨rfl, rfl, hk, hs⟩
    · exact ⟨Chip.event_th _ _ _ _ _ _, Chip.event_now _ _ _ _ _ _, (Chip.keeps_event_iff (by decide) (by decide) (by decide) _ _ _ _ _).2 hk,
        (Chip.keepsEntries_event_iff _ _ _ _ _).2 hs⟩
  · exact ⟨rfl, rfl, Chip.keeps_refl _ _, Chip.keepsEntries_refl _ _⟩

/-- The entries that follow a step of throttling. -/
def stepEntries : List Nat := [E.THROTTLE_STEP, E.THROTTLE_FACTOR, E.SUPPLY_HOLD_UNTIL]

/-- The temperature's state with a step of throttling taken at a time. -/
def Th.steppedAt (h : Th) (now : Nat) : Th := { h with stepT := now }

theorem Chip.setStep_frame {c : Chip} {n : Nat} (h : n ≠ c.get E.THROTTLE_STEP) : (c.setStep n).get E.THROTTLE_STEP = n ∧ (c.setStep n).th = c.th.steppedAt c.now
    ∧ (c.setStep n).now = c.now ∧ c.keeps (c.setStep n) (.th :: notePart) ∧ c.keepsEntries (c.setStep n) stepEntries := by
  unfold Chip.setStep
  rw [if_neg h]
  extract_lets c1
  obtain ⟨hth, hnow, hk, hs⟩ := c.holdSupply_frame { c1 with th := { c1.th with stepT := c1.now } }
  have hv : c1.get E.THROTTLE_STEP = n := by
    refine (Chip.getAt_event _ _ _ _ _ _ (by decide)).trans ((Chip.get_set _ _ _ _).trans ?_)
    rw [if_neg (by decide)]
    exact (Chip.get_set _ _ _ _).trans (if_pos rfl)
  have h1 : c.keeps c1 (.th :: notePart) := (Chip.keeps_event_iff (by decide) (by decide) (by decide) _ _ _ _ _).2
    ((Chip.keeps_setAt_iff (by decide) _ _ _).2 ((Chip.keeps_setAt_iff (by decide) _ _ _).2 (Chip.keeps_refl _ _)))
  have h2 : c.keepsEntries c1 stepEntries := (Chip.keepsEntries_event_iff _ _ _ _ _).2
    ((Chip.keepsEntries_setAt_iff (by decide) _ _).2 ((Chip.keepsEntries_setAt_iff (by decide) _ _).2 (Chip.keepsEntries_refl _ _)))
  have hn : c1.now = c.now := Chip.event_now _ _ _ _ _ _
  have ht : c1.th = c.th := Chip.event_th _ _ _ _ _ _
  refine ⟨(hs E.THROTTLE_STEP 0 (by decide) (by decide)).trans hv, hth.trans ?_, hnow.trans hn, ?_, ?_⟩
  · unfold Th.steppedAt
    rw [← ht, ← hn]
  · exact Chip.keeps_mono (Chip.keeps_trans ((Chip.keeps_with_th (by decide) _).2 h1) hk) (by decide)
  · exact Chip.keepsEntries_mono (Chip.keepsEntries_trans (b := { c1 with th := { c1.th with stepT := c1.now } })
      (Chip.keepsEntries_trans h2 (Chip.keepsEntries_vals rfl [])) hs) (by decide)

/-- The chip with a step of throttling taken now. -/
def Chip.stepTimed (c : Chip) : Chip := { c with th := c.th.steppedAt c.now }

theorem Chip.stepUp_eq {c : Chip} (hs : c.get E.THERM_STATE = 2) (hf : c.get E.SENSOR_FAULT = 0) (ht : c.th.stepT + c.get E.THROTTLE_RISE * cycPerMs ≤ c.now)
    (hl : 16 * (c.get E.THERM_THROTTLE : Int) < c.getS E.TJ) : c.stepUp = (c.setStep (min 8 (c.get E.THROTTLE_STEP + 1))).stepTimed := by
  unfold Chip.stepUp
  rw [if_pos ⟨hs, hf, ht⟩, decide_eq_true hl]
  rfl

/-- The step that follows within THROTTLE, which is the last one at most. -/
theorem Chip.stepTimed_frame (c : Chip) : (c.setStep (min 8 (c.get E.THROTTLE_STEP + 1))).stepTimed.get E.THROTTLE_STEP = min 8 (c.get E.THROTTLE_STEP + 1)
    ∧ (c.setStep (min 8 (c.get E.THROTTLE_STEP + 1))).stepTimed.th = c.th.steppedAt c.now
    ∧ c.keeps (c.setStep (min 8 (c.get E.THROTTLE_STEP + 1))).stepTimed (.th :: notePart)
    ∧ c.keepsEntries (c.setStep (min 8 (c.get E.THROTTLE_STEP + 1))).stepTimed stepEntries := by
  by_cases hn : min 8 (c.get E.THROTTLE_STEP + 1) = c.get E.THROTTLE_STEP
  · rw [show c.setStep (min 8 (c.get E.THROTTLE_STEP + 1)) = c from if_pos hn]
    exact ⟨hn.symm, rfl, (Chip.keeps_with_th (by decide) _).2 (Chip.keeps_refl _ _), Chip.keepsEntries_vals rfl _⟩
  · obtain ⟨g1, g2, g3, g4, g5⟩ := Chip.setStep_frame hn
    refine ⟨g1, ?_, (Chip.keeps_with_th (by decide) _).2 g4, Chip.keepsEntries_mono (Chip.keepsEntries_trans (b := c.setStep (min 8 (c.get E.THROTTLE_STEP + 1))) (m := []) g5 (Chip.keepsEntries_vals rfl [])) (by decide)⟩
    unfold Chip.stepTimed
    rw [g2, g3]
    rfl

theorem Chip.stepDown_eq {c : Chip} (hs : c.get E.THERM_STATE ≠ 2) (hf : c.get E.SENSOR_FAULT = 0) (h0 : c.get E.THROTTLE_STEP ≠ 0)
    (ht : c.th.stepT + c.get E.THROTTLE_RELEASE * cycPerMs ≤ c.now) (hh : c.th.hotT = 0 ∨ c.th.hotT + c.get E.THROTTLE_RELEASE * cycPerMs ≤ c.now) :
    c.stepDown = c.setStep (c.get E.THROTTLE_STEP - 1) := if_pos ⟨hs, hf, h0, ht, hh⟩

/-! ### A valid average -/

/-- The entries that an average may set below THROTTLE. -/
def averageEntries : List Nat := [E.TJ, E.TJ_MAX, E.THERM_STATE]

theorem nextRuns_below {level hyst up down : Nat} {avg : Int} (h : avg ≤ 16 * (level : Int)) : (nextRuns level hyst avg up down).1 = 0 := by
  unfold nextRuns
  rw [if_neg (by omega)]
  split <;> rfl

/-- A fourth average in a row above a level is what its run reaches four at. -/
theorem nextRuns_four {level hyst up down : Nat} {avg : Int} : 4 ≤ (nextRuns level hyst avg up down).1 ↔ 16 * (level : Int) < avg ∧ 3 ≤ up := by
  unfold nextRuns
  split
  · simp only
    omega
  · split <;> simp only <;> omega

theorem Chip.takeAverage_frame {c : Chip} {avg : Int} (h1 : avg ≤ 16 * (c.get E.THERM_THROTTLE : Int)) (h2 : avg ≤ 16 * (c.get E.THERM_SHUTDOWN : Int)) :
    (c.takeAverage avg).get E.TJ = ofInt 20 avg ∧ (c.takeAverage avg).th.lastValid = some avg ∧ (c.takeAverage avg).th.invalid = 0 ∧ (c.takeAverage avg).th.thrUp = 0
      ∧ (c.takeAverage avg).th.shutUp = 0 ∧ (4 ≤ (c.takeAverage avg).th.warnUp ↔ 16 * (c.get E.THERM_WARN : Int) < avg ∧ 3 ≤ c.th.warnUp)
      ∧ c.keeps (c.takeAverage avg) (.th :: notePart) ∧ c.keepsEntries (c.takeAverage avg) [E.TJ, E.TJ_MAX] := by
  refine ⟨?_, rfl, rfl, nextRuns_below h1, nextRuns_below h2, nextRuns_four, ?_, ?_⟩
  · refine (Chip.get_set _ _ _ _).trans ?_
    rw [if_neg (by decide)]
    exact (Chip.get_set _ _ _ _).trans (if_pos rfl)
  · exact (Chip.keeps_setAt_iff (by decide) _ _ _).2 ((Chip.keeps_setAt_iff (by decide) _ _ _).2 ((Chip.keeps_with_th (by decide) _).2 (Chip.keeps_refl _ _)))
  · exact (Chip.keepsEntries_setAt_iff (by decide) _ _).2 ((Chip.keepsEntries_setAt_iff (by decide) _ _).2 (Chip.keepsEntries_vals rfl _))

theorem Chip.countMs_rested {c : Chip} (h : c.get E.THROTTLE_STEP = 0) : c.countMs.th.lastValid = c.th.lastValid ∧ c.countMs.th.invalid = c.th.invalid
    ∧ c.countMs.th.thrUp = c.th.thrUp ∧ c.countMs.th.shutUp = c.th.shutUp ∧ c.countMs.th.warnUp = c.th.warnUp ∧ c.countMs.dict = c.dict
    ∧ c.keeps c.countMs (.th :: notePart) := by
  unfold Chip.countMs
  extract_lets s th c1
  rw [if_neg (by omega)]
  exact ⟨rfl, rfl, rfl, rfl, rfl, rfl, (Chip.keeps_with_th (by decide) _).2 (Chip.keeps_refl _ _)⟩

/-- With NORMAL and no run at THROTTLE, the levels only bring WARNING. -/
theorem Chip.levels_normal {c : Chip} (hs : c.get E.THERM_STATE = 0) (hu : c.th.thrUp = 0) : c.levels.th = c.th
    ∧ c.levels.get E.THERM_STATE = (if 4 ≤ c.th.warnUp then 1 else 0) ∧ c.keeps c.levels (.th :: notePart) ∧ c.keepsEntries c.levels [E.THERM_STATE] := by
  unfold Chip.levels
  extract_lets s
  rw [if_neg (by omega)]
  by_cases hw : 4 ≤ c.th.warnUp
  · rw [if_pos ⟨hs, hw⟩, if_pos hw]
    unfold Chip.setTherm
    rw [if_neg (by omega)]
    extract_lets sev c1
    rw [if_neg (by decide), if_neg (by omega)]
    exact ⟨Chip.event_th _ _ _ _ _ _, (Chip.getAt_event _ _ _ _ _ _ (by decide)).trans ((Chip.get_set _ _ _ _).trans (if_pos rfl)),
      (Chip.keeps_event_iff (by decide) (by decide) (by decide) _ _ _ _ _).2 ((Chip.keeps_setAt_iff (by decide) _ _ _).2 (Chip.keeps_refl _ _)),
      (Chip.keepsEntries_event_iff _ _ _ _ _).2 ((Chip.keepsEntries_setAt_iff (by decide) _ _).2 (Chip.keepsEntries_refl _ _))⟩
  · rw [if_neg (fun h => hw h.2), if_neg (by omega), if_neg (by omega), if_neg hw]
    exact ⟨rfl, hs, Chip.keeps_refl _ _, Chip.keepsEntries_refl _ _⟩

/-- In service, without a sensor fault and below THROTTLE and SHUTDOWN, an average is taken and the levels follow. -/
theorem Chip.junction_below {c : Chip} {l : List (Option Int)} {avg : Int} (f : FlushInput) (hr : c.isReady = true) (hf : c.get E.SENSOR_FAULT = 0)
    (ha : c.diodeAverage l = some avg) (h1 : avg ≤ 16 * (c.get E.THERM_THROTTLE : Int)) (h2 : avg ≤ 16 * (c.get E.THERM_SHUTDOWN : Int))
    (hs : c.get E.THERM_STATE = 0) (h0 : c.get E.THROTTLE_STEP = 0) :
    (c.junction l f).get E.TJ = ofInt 20 avg ∧ (c.junction l f).th.lastValid = some avg ∧ (c.junction l f).th.invalid = 0 ∧ (c.junction l f).th.thrUp = 0
      ∧ (c.junction l f).th.shutUp = 0
      ∧ (c.junction l f).get E.THERM_STATE = (if 16 * (c.get E.THERM_WARN : Int) < avg ∧ 3 ≤ c.th.warnUp then 1 else 0)
      ∧ c.keeps (c.junction l f) (.th :: notePart) ∧ c.keepsEntries (c.junction l f) averageEntries := by
  obtain ⟨g1, g2, g3, g4, g5, g6, g7, g8⟩ := Chip.takeAverage_frame h1 h2
  have hz : (c.takeAverage avg).get E.THROTTLE_STEP = 0 := (g8 E.THROTTLE_STEP 0 (by decide) (by decide)).trans h0
  obtain ⟨m1, m2, m3, m4, m5, m6, m7⟩ := Chip.countMs_rested hz
  have hrun : c.boot.run = .ready := of_decide_eq_true hr
  have hj : c.junction l f = (c.takeAverage avg).countMs.levels := by
    unfold Chip.junction
    extract_lets broken
    rw [ha]
    have hb : broken = false := decide_eq_false (by rw [hf]; decide)
    dsimp only
    rw [if_neg (by rw [hrun]; decide), hb, if_neg (by decide), if_neg (by rw [m4, g5]; decide)]
  have hd : (c.takeAverage avg).countMs.get E.THERM_STATE = 0 := by
    refine (Chip.getAt_congr (congrArg Dict.vals m6) _ _).trans ((g8 E.THERM_STATE 0 (by decide) (by decide)).trans hs)
  obtain ⟨l1, l2, l3, l4⟩ := Chip.levels_normal hd (m3.trans g4)
  rw [hj, l1, m1, m2, m3, m4, l2, m5]
  refine ⟨(l4 E.TJ 0 (by decide) (by decide)).trans ((Chip.getAt_congr (congrArg Dict.vals m6) _ _).trans g1), g2, g3, g4, g5, by simp only [g6], ?_, ?_⟩
  · exact Chip.keeps_mono (Chip.keeps_trans (Chip.keeps_trans g7 m7) l3) (by decide)
  · exact Chip.keepsEntries_mono (Chip.keepsEntries_trans (Chip.keepsEntries_trans g8 (Chip.keepsEntries_vals (congrArg Dict.vals m6) [])) l4) (by decide)

theorem Chip.tempEvents_frame (b c : Chip) : (b.tempEvents c).th = c.th ∧ (b.tempEvents c).dict.vals = c.dict.vals ∧ c.keeps (b.tempEvents c) notePart := by
  unfold Chip.tempEvents
  refine Chip.each_induct (P := fun d => d.th = c.th ∧ d.dict.vals = c.dict.vals ∧ c.keeps d notePart) (fun d x hd => ?_) _ ⟨rfl, rfl, Chip.keeps_refl _ _⟩
  obtain ⟨d1, d2, d3⟩ := hd
  exact ⟨(Chip.raiseAe_th ..).trans d1, (congrArg Dict.vals (Chip.raiseAe_dict ..)).trans d2, (Chip.keeps_raiseAe_iff (by decide) (by decide) (by decide) ..).2 d3⟩


end Sys2Proof.Machine

open Sys2Proof Sys2Proof.Machine

/-- Settles O57. -/
theorem temperatureIsControlled : Obligations.TemperatureIsControlled := by
  unfold Obligations.TemperatureIsControlled
  intro s t hr hf
  refine ⟨fun l f avg hc ha h1 h2 hs h0 => ?_, fun hs ht hl => ?_, fun hs h0 ht hh => ?_⟩
  · obtain ⟨g1, g2, g3, g4, g5, g6, g7, g8⟩ := Chip.junction_below (c := s.chip.atTime t) f hr hf ha h1 h2 hs h0
    obtain ⟨e1, e2, e3⟩ := (s.chip.atTime t).tempEvents_frame ((s.chip.atTime t).junction l f)
    have hk := Chip.keeps_mono (m := .th :: notePart) (Chip.keeps_trans g7 e3) (by decide)
    have hks := Chip.keepsEntries_mono (m := averageEntries) (Chip.keepsEntries_trans g8 (Chip.keepsEntries_vals e2 [])) (by decide)
    refine Completes.of_calmUnits (exec_junctionAverage s t l f) (Chip.when_true (decide_eq_true (Or.inl (of_decide_eq_true hr)))) hk hks (by decide) (by decide)
      (Chip.partnerStates_of_keeps hk (by decide) (by decide)) (congrArg Sbs.eligible (hk .sb (by decide))) (by rw [hk .st (by decide)]; rfl)
      (by rw [hk .st (by decide)]; rfl) (hk .ft (by decide)) hc ⟨?_, ?_, ?_, ?_, ?_, ?_, ?_, ?_⟩
    · exact Chip.get_end (by decide) ((Chip.getAt_congr e2 _ _).trans g1)
    · rw [Chip.seal_th, Chip.notices_th, e1]
      exact g2
    · rw [Chip.seal_th, Chip.notices_th, e1]
      exact g3
    · rw [Chip.seal_th, Chip.notices_th, e1]
      exact g4
    · rw [Chip.seal_th, Chip.notices_th, e1]
      exact g5
    · exact Chip.get_end (by decide) ((Chip.getAt_congr e2 _ _).trans g6)
    · exact Chip.keeps_ended t hk (by decide) (by decide)
    · exact Chip.keepsEntries_end t hks
  · obtain ⟨g1, g2, g3, g4⟩ := (s.chip.atTime t).stepTimed_frame
    refine Completes.of_when (exec_throttleRise s t) hr ?_
    rw [Chip.stepUp_eq (c := s.chip.atTime t) hs hf ht hl]
    refine ⟨Chip.get_end (by decide) g1, ?_, Chip.keeps_ended t g3 (by decide) (by decide), Chip.keepsEntries_end t g4⟩
    rw [Chip.seal_th, Chip.notices_th]
    exact g2
  · have hn : s.chip.get E.THROTTLE_STEP - 1 ≠ s.chip.get E.THROTTLE_STEP := by omega
    obtain ⟨g1, g2, -, g3, g4⟩ := Chip.setStep_frame (c := s.chip.atTime t) hn
    refine Completes.of_when (exec_throttleRelease s t) hr ?_
    rw [Chip.stepDown_eq (c := s.chip.atTime t) hs hf h0 ht hh]
    refine ⟨Chip.get_end (by decide) g1, ?_, Chip.keeps_ended t g3 (by decide) (by decide), Chip.keepsEntries_end t g4⟩
    rw [Chip.seal_th, Chip.notices_th]
    exact g2
end

section
/-! Proofs of the family of completions (R36, R78). -/
namespace Sys2Proof.Machine

/-! ### Notices, one at a time -/

/-- What events and telemetry captures leave, and each Asynchronous Event, notices leave. -/
theorem Chip.notices_induct {P : Chip → Prop} (hev : ∀ a b : Chip, b.cmds = a.cmds → b.fns = a.fns → P a → P b)
    (hae : ∀ (a : Chip) p f type info page, P a → P (a.raiseAe p f type info page)) (b : Chip) {c : Chip} (hc : P c) : P (b.notices c) := by
  have hall : ∀ (d : Chip) x y z, P d → P (d.raiseAeAll x y z) := fun d x y z hd =>
    Chip.each_induct (f := fun c (g : Fn) => c.raiseAe g.port g.fn x y z) (fun e g he => hae e _ _ _ _ _ he) _ hd
  have hi : ∀ (q : Prop) [Decidable q] (a d : Chip), P a → P d → P (if q then a else d) := fun q _ a d ha hd => by split <;> assumption
  unfold Chip.notices
  extract_lets cu _ _ c0 c1 low
  have hu : P cu := hev c cu (Chip.unitNotices_cmds _ _) (Chip.unitNotices_fns _ _) hc
  have h0 : P c0 := hi _ _ _ hu (hall _ _ _ _ (hev cu _ rfl rfl hu))
  have h1 : P c1 := hi _ _ _ h0 (hall _ _ _ _ h0)
  exact hi _ _ _ (hev c1 _ (Chip.event_cmds _ _ _ _ _ _) (Chip.event_fns _ _ _ _ _ _) h1) h1

theorem Chip.cmd_finish_none {c : Chip} {h : Nat} (hc : c.cmd h = none) (k st d0 d1 : Nat) : (c.finish k st d0 d1).cmd h = none := by
  by_cases hk : h = k
  · subst hk
    unfold Chip.finish
    rw [hc]
    exact hc
  · exact (Chip.cmd_finish_ne c (fun e => hk e.symm)).trans hc

/-- A handle that no command bears stays so. -/
theorem Chip.cmd_raiseAe_none {c : Chip} {h : Nat} (hc : c.cmd h = none) (p f type info page : Nat) : (c.raiseAe p f type info page).cmd h = none := by
  unfold Chip.raiseAe
  dsimp only
  split
  · exact hc
  · split
    · exact hc
    · exact Chip.cmd_finish_none (c := c.setFn _) hc _ _ _ _

theorem Chip.cmd_end_none {b c : Chip} {h : Nat} (hc : c.cmd h = none) : (b.seal (b.notices c)).cmd h = none := by
  rw [Chip.cmd_seal]
  exact Chip.notices_induct (P := fun d => d.cmd h = none) (fun a d hd _ ha => (Chip.cmd_congr hd h).trans ha)
    (fun a p f type info page ha => Chip.cmd_raiseAe_none ha p f type info page) b hc

/-! ### Commands whose time the host adds to -/

/-- Each command of the second chip is one of the first but for the time that was added for the host. -/
def Chip.slowed (a b : Chip) : Prop := ∀ y ∈ b.cmds, ∃ z ∈ a.cmds, ∃ e, y = { z with extraPs := e }

theorem Chip.slowed_refl (a : Chip) : a.slowed a := fun y hy => ⟨y, hy, y.extraPs, rfl⟩

theorem Chip.slowed_trans {a b c : Chip} (hab : a.slowed b) (hbc : b.slowed c) : a.slowed c := fun y hy => by
  obtain ⟨z, hz, e, rfl⟩ := hbc y hy
  obtain ⟨w, hw, f, rfl⟩ := hab z hz
  exact ⟨w, hw, e, rfl⟩

theorem Chip.slowed_hostTime (c : Chip) (h ps : Nat) : c.slowed (c.hostTime h ps) := by
  unfold Chip.hostTime
  split
  · exact Chip.slowed_refl c
  · refine Chip.slowed_trans (b := c.each _ _) (Chip.each_frame Chip.slowed Chip.slowed_refl (fun _ _ _ => Chip.slowed_trans) _ (fun d k => ?_) _ _)
      fun y hy => ⟨y, by rwa [Chip.count, Chip.countAt_cmds] at hy, y.extraPs, rfl⟩
    split
    · next x hx =>
      intro y hy
      obtain ⟨w, hw, rfl⟩ := List.mem_map.1 hy
      by_cases hk : w.h = x.h
      · exact ⟨x, List.mem_of_find?_eq_some hx, x.extraPs + ps, if_pos (decide_eq_true hk)⟩
      · exact ⟨w, hw, w.extraPs, if_neg (by simpa using hk)⟩
    · exact Chip.slowed_refl d

theorem Chip.postable_slowed {a b : Chip} {m : List Area} {es : List Nat} (hk : a.keeps b m) (hm : ∀ p ∈ [Area.fns, .pr], p ∉ m) (hs : a.keepsEntries b es)
    (he : ∀ e ∈ [E.WT_CAUSE, E.PAIR_STATE], e ∉ es) (x : Cmd) (n : Nat) : b.postable { x with extraPs := n } = a.postable x := by
  have hpr : b.pr = a.pr := hk .pr (hm _ (by simp))
  have hwt : b.get E.WT_CAUSE = a.get E.WT_CAUSE := hs _ 0 (he _ (by simp)) (by decide)
  have hps : b.get E.PAIR_STATE = a.get E.PAIR_STATE := hs _ 0 (he _ (by simp)) (by decide)
  unfold Chip.postable Chip.inD3 Chip.awaitsDone Chip.writeThrough
  rw [hpr, hwt, hps, Chip.fnOf_congr (hk .fns (hm _ (by simp))), Chip.fnOf_congr (hk .fns (hm _ (by simp)))]
  rfl

theorem Chip.earlierPosts_slowed {a b : Chip} {m : List Area} {es : List Nat} (hk : a.keeps b m) (hm : ∀ p ∈ [Area.fns, .pr, .qs], p ∉ m) (hs : a.keepsEntries b es)
    (he : ∀ e ∈ [E.WT_CAUSE, E.PAIR_STATE], e ∉ es) (hc : a.slowed b) {x : Cmd} {n : Nat} (h0 : a.earlierPosts x = []) : b.earlierPosts { x with extraPs := n } = [] := by
  refine List.filter_eq_nil_iff.2 fun y hy => ?_
  obtain ⟨z, hz, e, rfl⟩ := hc y hy
  have hn := List.filter_eq_nil_iff.1 h0 z hz
  have hq : ∀ w : Cmd, b.cqIdOf w = a.cqIdOf w := fun w => by
    unfold Chip.cqIdOf
    rw [Chip.sqOf_congr (hk .qs (hm _ (by simp)))]
  rw [Chip.postable_slowed hk (fun p hp => hm p (by revert hp; simp; tauto)) hs he, hq, hq]
  exact hn

/-! ### A completion -/

theorem Chip.keeps_interrupt (c : Chip) (port fn vector : Nat) (admin : Bool) : c.keeps (c.interrupt port fn vector admin) [.fns] := by
  unfold Chip.interrupt
  extract_lets f k
  split
  · exact Chip.keeps_message _ _ _ _
  · split
    · exact (Chip.keeps_iff (Chip.keeps_message _ _ _ _) (by decide)).2 ((Chip.keeps_setFn_iff (by decide) _).2 (Chip.keeps_refl _ _))
    · exact (Chip.keeps_setFn_iff (by decide) _).2 (Chip.keeps_refl _ _)

theorem Chip.mem_out_message {c : Chip} {o : Out} (h : o ∈ c.out) (port fn vector : Nat) : o ∈ (c.message port fn vector).out := by
  unfold Chip.message
  dsimp only
  split
  · exact h
  · split
    · exact h
    · exact List.mem_append_left _ h

theorem Chip.mem_out_interrupt {c : Chip} {o : Out} (h : o ∈ c.out) (port fn vector : Nat) (admin : Bool) : o ∈ (c.interrupt port fn vector admin).out := by
  unfold Chip.interrupt
  extract_lets f k
  split
  · exact Chip.mem_out_message h _ _ _
  · split
    · exact Chip.mem_out_message (c := c.setFn _) h _ _ _
    · exact h

theorem Chip.keeps_leaveL1 (c : Chip) (port : Nat) : c.keeps (c.leaveL1 port) [.ports] := by
  unfold Chip.leaveL1
  dsimp only
  split
  · exact (Chip.keeps_setPort_iff (by decide) _).2 (Chip.keeps_refl _ _)
  · exact Chip.keeps_refl _ _

theorem Chip.keeps_useContext (c : Chip) (port fn qid : Nat) : c.keeps (c.useContext port fn qid) [.qs, .dict] := by
  unfold Chip.useContext
  dsimp only
  split <;> exact (Chip.keeps_countAt_iff (by decide) _ _ _).2 ((Chip.keeps_with_qs (by decide) _).2 (Chip.keeps_refl _ _))

theorem Chip.keeps_noteLate (c : Chip) (x : Cmd) : c.keeps (c.noteLate x) notePart := by
  unfold Chip.noteLate
  split
  · extract_lets c1
    have h1 : c.keeps c1 notePart := (Chip.keeps_countAt_iff (by decide) _ _ _).2 (Chip.keeps_refl _ _)
    split
    · exact h1
    · exact (Chip.keeps_eventFirst_iff (by decide) (by decide) (by decide) _ _ _ _ _).2 h1
  · exact Chip.keeps_refl _ _

/-- What a completion reaches. -/
def postPart : List Area := [.qs, .pm, .ports] ++ notePart

/-- A completion queue with an entry more. -/
def Cq.posted (q : Cq) : Cq := { q with tail := (q.tail + 1) % q.size, phase := if q.tail + 1 = q.size then 1 - q.phase else q.phase }

/-- A completion queue with room takes the entry of a command. -/
theorem Chip.post_frame {c : Chip} {x : Cmd} {sq : Sq} {q : Cq} (hs : c.sqOf x.port x.fn x.qid = some sq) (hq : c.cqOf x.port x.fn sq.cq = some q) (hf : q.isFull = false) :
    .cqe x.port x.fn q.qid x.qid x.cid sq.head q.phase x.status x.dw0 x.dw1 ∈ (c.post x).out ∧ (c.post x).cmd x.h = none
      ∧ (c.post x).cqOf x.port x.fn q.qid = some q.posted ∧ ((c.post x).sqOf x.port x.fn x.qid).map Sq.completed = some ((sq.completed + 1) % 2 ^ 40)
      ∧ c.keeps (c.post x) postPart := by
  unfold Chip.post
  simp -zeta only [hs, hq, hf, Bool.false_eq_true, if_false]
  extract_lets wrap c1 c2 refused c3 n e errs log c4 c5' pmB c5a idle c5
  obtain ⟨qp, qf⟩ : q.port = x.port ∧ q.fn = x.fn := by
    have := List.find?_some hq
    simp only [decide_eq_true_eq] at this
    exact ⟨this.1, this.2.1⟩
  obtain ⟨sp, sf, sk⟩ : sq.port = x.port ∧ sq.fn = x.fn ∧ sq.qid = x.qid := by simpa using List.find?_some hs
  have h1 : c.keeps c1 postPart := by
    refine (Chip.keeps_emit_iff _).2 ((Chip.keeps_iff (Chip.keeps_useContext _ _ _ _) (by decide)).2 ?_)
    exact (Chip.keeps_iff (Chip.keeps_leaveL1 _ _) (by decide)).2 (Chip.keeps_mono (Chip.keeps_noteLate _ _) (by decide))
  have h3 : c.keeps c3 postPart := (Chip.keeps_setSq_iff (by decide) _).2 ((Chip.keeps_setCq_iff (by decide) _).2 h1)
  have h4 : c.keeps c4 postPart ∧ c4.qs = c3.qs ∧ c4.out = c1.out := by
    unfold c4
    split
    · exact ⟨h3, rfl, rfl⟩
    · exact ⟨(Chip.keeps_with_lg (by decide) _).2 h3, rfl, rfl⟩
  obtain ⟨k4, q4, o4⟩ := h4
  have ho : .cqe x.port x.fn q.qid x.qid x.cid sq.head q.phase x.status x.dw0 x.dw1 ∈ c4.out := by
    rw [o4]
    exact List.mem_append_right _ (List.mem_singleton.2 rfl)
  have h5 : c.keeps c5' postPart ∧ c5'.qs = c3.qs ∧ .cqe x.port x.fn q.qid x.qid x.cid sq.head q.phase x.status x.dw0 x.dw1 ∈ c5'.out := by
    unfold c5'
    split
    · exact ⟨(Chip.keeps_iff (Chip.keeps_interrupt _ _ _ _ _) (by decide)).2 k4, ((Chip.keeps_interrupt c4 x.port x.fn q.vector (decide (x.qid = 0))) .qs (by decide)).trans q4,
        Chip.mem_out_interrupt ho _ _ _ _⟩
    · exact ⟨k4, q4, ho⟩
  obtain ⟨k5, q5, o5⟩ := h5
  have hqs : (c5.dropCmd x.h).qs = c3.qs := q5
  refine ⟨o5, find_drop_same _ _, ?_, ?_, (Chip.keeps_dropCmd_iff (by decide) _).2 ((Chip.keeps_setPort_iff (by decide) _).2 ((Chip.keeps_with_pm (by decide) _).2 k5))⟩
  · rw [Chip.cqOf_congr hqs, ← qp, ← qf]
    have h2 : c2 = c1.setCq q.posted := by
      unfold c2 wrap Cq.posted
      simp only [decide_eq_true_eq]
    exact (congrArg (fun d => Chip.cqOf d q.port q.fn q.qid) h2).trans (Chip.cqOf_setCq_same c1 q.posted)
  · rw [Chip.sqOf_congr hqs, ← sp, ← sf, ← sk]
    exact congrArg (Option.map Sq.completed) (Chip.sqOf_setSq_same c2 _)

end Sys2Proof.Machine

open Sys2Proof Sys2Proof.Machine

/-- Settles O25. -/
theorem completionIsPosted : Obligations.CompletionIsPosted := by
  unfold Obligations.CompletionIsPosted
  intro s t h stallNs x sq q hx hp hsil he hs hq hf
  obtain ⟨e, hy⟩ := Chip.heldUp_hostTime h (s.chip.atTime t) h (stallNs * 1000) x hx
  have hk := (s.chip.atTime t).keeps_hostTime h (stallNs * 1000)
  have hks := (s.chip.atTime t).keepsEntries_hostTime h (stallNs * 1000)
  have hxh : x.h = h := Chip.cmd_h hx
  have hpost : ((s.chip.atTime t).hostTime h (stallNs * 1000)).postable { x with extraPs := e } = true :=
    (Chip.postable_slowed hk (by decide) hks (by decide) x e).trans hp
  have hnone : ((s.chip.atTime t).hostTime h (stallNs * 1000)).earlierPosts { x with extraPs := e } = [] :=
    Chip.earlierPosts_slowed hk (by decide) hks (by decide) (Chip.slowed_hostTime _ _ _) he
  have hqs : ((s.chip.atTime t).hostTime h (stallNs * 1000)).qs = s.chip.qs := hk .qs (by decide)
  obtain ⟨g1, g2, g3, g4, g5⟩ := Chip.post_frame (c := (s.chip.atTime t).hostTime h (stallNs * 1000)) (x := { x with extraPs := e }) (sq := sq) (q := q)
    ((Chip.sqOf_congr hqs _ _ _).trans hs) ((Chip.cqOf_congr hqs _ _ _).trans hq) hf
  refine Completes.of_run (exec_completionPost s t ⟨h, stallNs⟩) ?_
  dsimp only
  rw [show (s.chip.atTime t).cmd h = some x from hx]
  dsimp only
  rw [show (s.chip.atTime t).postable x = true from hp, Bool.not_true, if_neg (by decide)]
  rw [show ({ h := h, hostNs := stallNs } : Served).hostNs * 1000 = stallNs * 1000 from rfl, hy]
  dsimp only
  have hc : ((s.chip.atTime t).hostTime h (stallNs * 1000)).complete { x with extraPs := e }
      = ((s.chip.atTime t).hostTime h (stallNs * 1000)).post { x with extraPs := e } := by
    unfold Chip.complete
    rw [hpost, hnone]
    dsimp only
    rw [hsil]
    rfl
  rw [hc]
  exact ⟨Chip.mem_out_end g1, Chip.cmd_end_none (hxh ▸ g2), (Chip.cqOf_end _ _ _ _ _).trans g3, (congrArg (Option.map Sq.completed) (Chip.sqOf_end _ _ _ _ _)).trans g4,
    Chip.keeps_ended t (Chip.keeps_mono (m := postPart) (Chip.keeps_trans hk g5) (by decide)) (by decide) (by decide)⟩
end

section
/-! Refutation by the program that waits in a die: a shutdown of one function leaves a non-operational state, which starts it (R403, R448). -/
open Sys2Proof Sys2Proof.Machine

/-- Refutes O29: the shutdown of a VF in PS3 starts the waiting program, which changes the superblocks' part, not in the frame. -/
theorem not_shutdownsComplete : ¬ Obligations.ShutdownsComplete := by
  intro h
  obtain ⟨hone, -⟩ := h { chip := { asleep with fns := [{ Fn.initial 0 1 with en := true }] }, pending := [] } 0 0 1 { Fn.initial 0 1 with en := true }
    { issued := none, pages := 0, energy := 0, micros := 0, reached := 0, mainLost := false } rfl (by decide) (by decide) rfl
  have hsb := Completes.keeps_sb (hone _ (.inl rfl) rfl rfl (fun x hx => absurd hx List.not_mem_nil) (by decide) (.inl (by decide)))
    (exec_shutdownNormal _ _ _ _ _) (fun c ⟨_, hk, _⟩ => hk) (by decide)
  exact absurd hsb (by decide +kernel)
end

section
/-! What the end of a function reaches (R91, R115, R436): its commands, its queues and its buffer go, and the other functions stay as they are. -/
namespace Sys2Proof.Machine

/-- The parts that the end of a function reaches. -/
def clearPart : List Area := [.ports, .qs, .lk, .ft, .fw, .rd, .st, .book, .wins, .pr] ++ notePart

/-- From a to b a function may have ended: its own record is free, the others and the count of its resets are as before. -/
def Chip.fnCleared (port fn : Nat) (a b : Chip) : Prop :=
  a.keeps b clearPart ∧ b.now = a.now ∧ (∀ i, b.getAt E.FLR_COUNT i = a.getAt E.FLR_COUNT i) ∧ (∀ p k, ¬ (p = port ∧ k = fn) → b.fnOf p k = a.fnOf p k)
    ∧ ∀ g ∈ b.fns, g ∈ a.fns ∨ (g.port = port ∧ g.fn = fn)

section
variable {port fn : Nat} {a b c : Chip}

theorem Chip.fnCleared_refl (port fn : Nat) (a : Chip) : a.fnCleared port fn a :=
  ⟨Chip.keeps_refl _ _, rfl, fun _ => rfl, fun _ _ _ => rfl, fun _ h => .inl h⟩

theorem Chip.fnCleared_trans (h : a.fnCleared port fn b) (h' : b.fnCleared port fn c) : a.fnCleared port fn c := by
  obtain ⟨h1, h2, h3, h4, h5⟩ := h
  obtain ⟨g1, g2, g3, g4, g5⟩ := h'
  refine ⟨Chip.keeps_mono (Chip.keeps_trans h1 g1) (by decide), g2.trans h2, fun i => (g3 i).trans (h3 i), fun p k hk => (g4 p k hk).trans (h4 p k hk), fun g hg => ?_⟩
  rcases g5 g hg with h | h
  · exact h5 g h
  · exact .inr h

/-- What leaves the functions and the count of resets alone ends none. -/
theorem Chip.fnCleared_of {m : List Area} {es : List Nat} (hk : a.keeps b m) (hs : a.keepsEntries b es) (hn : b.now = a.now) (hf : .fns ∉ m)
    (hm : ∀ p ∈ m, p ∈ clearPart) (he : E.FLR_COUNT ∉ es) : a.fnCleared port fn b :=
  ⟨Chip.keeps_mono hk hm, hn, fun i => hs E.FLR_COUNT i he (by decide), fun p k _ => Chip.fnOf_congr (hk .fns hf) p k, fun g hg => .inl (by rwa [hk .fns hf] at hg)⟩

theorem Chip.fnCleared_setFn (a : Chip) {f : Fn} (hp : f.port = port) (hf : f.fn = fn) : a.fnCleared port fn (a.setFn f) := by
  refine ⟨(Chip.keeps_setFn_iff (by decide) _).2 (Chip.keeps_refl _ _), rfl, fun _ => rfl, fun p k hk => Chip.fnOf_setFn_ne _ _ fun h => ?_, fun g hg => ?_⟩
  · exact hk ⟨h.1.symm.trans hp, h.2.symm.trans hf⟩
  · rcases mem_upsert hg with rfl | h
    · exact .inr ⟨hp, hf⟩
    · exact .inl h

end

/-! ### Commands -/

theorem Chip.transmit_now (c : Chip) (f : Sent) : (c.transmit f).now = c.now := by
  unfold Chip.transmit
  extract_lets p ack g w t next c1 c2 c3
  have h2 : c2.now = c.now := Chip.countAt_now _ _ _ _
  have h3 : c3.now = c.now := by
    unfold c3
    split
    · exact (Chip.countAt_now _ _ _ _).trans h2
    · split
      · exact (Chip.countAt_now _ _ _ _).trans h2
      · exact h2
  split
  · exact (Chip.countAt_now _ _ _ _).trans h3
  · exact h3

theorem Chip.sendFrame_now (c : Chip) (kind xfer : Nat) (last : Bool) (fields : List Nat) (blocks : List Blk) : (c.sendFrame kind xfer last fields blocks).now = c.now := by
  unfold Chip.sendFrame
  extract_lets f q
  split
  · rfl
  · split
    · exact Chip.transmit_now _ _
    · rfl

theorem Chip.freeSlot_now (c : Chip) (id : Nat) : (c.freeSlot id).now = c.now := by
  unfold Chip.freeSlot Chip.guestGone
  dsimp only
  split
  · rfl
  · split_ifs <;> rfl

theorem Chip.each_now {α : Type} {f : Chip → α → Chip} (hf : ∀ (c : Chip) x, (f c x).now = c.now) (l : List α) (c : Chip) : (c.each l f).now = c.now :=
  Chip.each_frame (fun a b => b.now = a.now) (fun _ => rfl) (fun _ _ _ h h' => h'.trans h) _ hf l c

theorem Chip.abortXfer_now (c : Chip) (h : Nat) : (c.abortXfer h).now = c.now := by
  unfold Chip.abortXfer
  split
  · rfl
  · extract_lets l q c1 _
    refine (Chip.sendFrame_now _ _ _ _ _ _).trans ?_
    unfold c1
    split
    · split <;> rfl
    · rfl

theorem Chip.giveBack_now (c : Chip) (h : Nat) : (c.giveBack h).now = c.now := by
  unfold Chip.giveBack
  extract_lets ids c1 _ _ c2 c3
  have h1 : c1.now = c.now := Chip.each_now Chip.freeSlot_now _ _
  have h2 : c2.now = c.now := by
    unfold c2
    split
    · exact h1
    · exact h1
  have h3 : c3.now = c.now := by
    unfold c3
    split
    · exact h2
    · exact (Chip.clearPending_now _ _).trans h2
  exact h3

theorem Chip.undo_now (c : Chip) (h : Nat) : (c.undo h).now = c.now := (Chip.giveBack_now _ _).trans (Chip.abortXfer_now _ _)

/-- The entries that the end of commands counts. -/
def endEntries : List Nat := E.SQ_DEL_ABORTS :: sendEntries

theorem Chip.endCmd_frame (c : Chip) (x : Cmd) (post : Bool) : (c.endCmd x post).now = c.now ∧ c.keepsEntries (c.endCmd x post) endEntries
    ∧ c.keeps (c.endCmd x post) [.dict, .cmds, .lk, .um, .ft, .rd, .st, .book, .wins, .pr] := by
  unfold Chip.endCmd
  split
  · split
    · exact ⟨rfl, Chip.keepsEntries_refl _ _, Chip.keeps_refl _ _⟩
    · split
      · exact ⟨rfl, (Chip.keepsEntries_dropCmd_iff _).2 (Chip.keepsEntries_refl _ _), (Chip.keeps_dropCmd_iff (by decide) _).2 (Chip.keeps_refl _ _)⟩
      · exact ⟨rfl, (Chip.keepsEntries_setCmd_iff _).2 (Chip.keepsEntries_refl _ _), (Chip.keeps_setCmd_iff (by decide) _).2 (Chip.keeps_refl _ _)⟩
  · extract_lets c1
    have h1 : c1.now = c.now := (Chip.dropTasks_now _ _).trans (Chip.undo_now _ _)
    have h2 : c.keepsEntries c1 endEntries := Chip.keepsEntries_mono (Chip.keepsEntries_trans (Chip.keepsEntries_undo c x.h) (Chip.keepsEntries_vals rfl [])) (by decide)
    have h3 : c.keeps c1 [.dict, .cmds, .lk, .um, .ft, .rd, .st, .book, .wins, .pr] :=
      (Chip.keeps_dropTasks_iff (by decide) (by decide) _).2 (Chip.keeps_mono (Chip.keeps_undo c x.h) (by decide))
    split
    · split
      · exact ⟨h1, (Chip.keepsEntries_dropCmd_iff _).2 h2, (Chip.keeps_dropCmd_iff (by decide) _).2 h3⟩
      · split
        · exact ⟨h1, h2, h3⟩
        · exact ⟨(Chip.countAt_now _ _ _ _).trans ((Chip.finish_now _ _ _ _ _).trans h1),
            (Chip.keepsEntries_countAt_iff (by decide) _ _).2 ((Chip.keepsEntries_finish_iff _ _ _ _).2 (Chip.keepsEntries_trans h2 (Chip.keepsEntries_vals rfl []) |> fun h => Chip.keepsEntries_mono h (by decide))),
            (Chip.keeps_countAt_iff (by decide) _ _ _).2 ((Chip.keeps_finish_iff (by decide) (by decide) _ _ _ _).2 ((Chip.keeps_dropTasks_iff (by decide) (by decide) _).2 h3))⟩
    · exact ⟨h1, (Chip.keepsEntries_dropCmd_iff _).2 h2, (Chip.keeps_dropCmd_iff (by decide) _).2 h3⟩

theorem Chip.endFn_frame (c : Chip) (port fn : Nat) : (c.endFn port fn).now = c.now ∧ c.keepsEntries (c.endFn port fn) endEntries
    ∧ c.keeps (c.endFn port fn) [.dict, .cmds, .lk, .um, .ft, .rd, .st, .book, .wins, .pr] :=
  ⟨Chip.each_now (fun d x => (d.endCmd_frame x false).1) _ _, Chip.keepsEntries_each (fun d x => (d.endCmd_frame x false).2.1) _ _,
    Chip.keeps_each (fun d x => (d.endCmd_frame x false).2.2) _ _⟩

theorem Chip.fnCleared_endFn (c : Chip) (port fn : Nat) : c.fnCleared port fn (c.endFn port fn) := by
  obtain ⟨h1, h2, h3⟩ := c.endFn_frame port fn
  exact Chip.fnCleared_of h3 h2 h1 (by decide) (by decide) (by decide)

/-! ### Queues and the buffer -/

/-- The entries of a function's queues as they are without queues. -/
def Chip.unqueued (c : Chip) (port fn : Nat) : Chip :=
  c.each (c.qs.sqs.filter fun q => decide (q.port = port ∧ q.fn = fn)) fun c q => c.setAt E.QB_CLASS (qWord port fn q.qid) 4

theorem Chip.unqueued_frame (c : Chip) (port fn : Nat) : (c.unqueued port fn).now = c.now ∧ c.keepsEntries (c.unqueued port fn) [E.QB_CLASS] ∧ c.keeps (c.unqueued port fn) [.dict] :=
  ⟨Chip.each_now (f := fun c (q : Sq) => c.setAt E.QB_CLASS (qWord port fn q.qid) 4) (fun d x => rfl) _ _, Chip.keepsEntries_each (fun d x => (Chip.keepsEntries_setAt_iff (by decide) _ _).2 (Chip.keepsEntries_refl _ _)) _ _,
    Chip.keeps_each (fun d x => (Chip.keeps_setAt_iff (by decide) _ _ _).2 (Chip.keeps_refl _ _)) _ _⟩

/-- A function without queues. -/
def Fn.unqueued (f : Fn) : Fn := { f with granted := 0, ioCreated := false, coal := [], shadow := false }

theorem Chip.dropQueues_frame (c : Chip) (port fn : Nat) : (c.dropQueues port fn).fnOf port fn = (c.fnOf port fn).unqueued
    ∧ (∀ q ∈ (c.dropQueues port fn).qs.sqs, ¬ (q.port = port ∧ q.fn = fn)) ∧ (∀ q ∈ (c.dropQueues port fn).qs.cqs, ¬ (q.port = port ∧ q.fn = fn))
    ∧ (c.dropQueues port fn).now = c.now ∧ c.keepsEntries (c.dropQueues port fn) [E.QB_CLASS] ∧ c.keeps (c.dropQueues port fn) [.dict, .qs, .fns]
    ∧ c.fnCleared port fn (c.dropQueues port fn) := by
  obtain ⟨h1, h2, h3⟩ := c.unqueued_frame port fn
  have hq : ∃ qs, c.dropQueues port fn = ((c.unqueued port fn).withQs qs).setFn (c.fnOf port fn).unqueued
      ∧ (∀ q ∈ qs.sqs, ¬ (q.port = port ∧ q.fn = fn)) ∧ (∀ q ∈ qs.cqs, ¬ (q.port = port ∧ q.fn = fn)) :=
    ⟨_, rfl, fun q hq => not_and_or.2 (by simpa [not_and_or] using (List.mem_filter.1 hq).2), fun q hq => not_and_or.2 (by simpa [not_and_or] using (List.mem_filter.1 hq).2)⟩
  obtain ⟨qs, he, hs, hc⟩ := hq
  have hk : c.keeps ((c.unqueued port fn).withQs qs) [.dict, .qs] := (Chip.keeps_with_qs (by decide) _).2 (Chip.keeps_mono h3 (by decide))
  have hks : c.keepsEntries ((c.unqueued port fn).withQs qs) [E.QB_CLASS] := Chip.keepsEntries_mono (Chip.keepsEntries_trans h2 (Chip.keepsEntries_vals rfl [])) (by decide)
  rw [he]
  refine ⟨Chip.fnOf_setFn_self _ (Chip.fnOf_port _ _ _) (Chip.fnOf_fn _ _ _), hs, hc, h1, (Chip.keepsEntries_setFn_iff _).2 hks,
    (Chip.keeps_setFn_iff (by decide) _).2 (Chip.keeps_mono hk (by decide)), ?_⟩
  exact Chip.fnCleared_trans (Chip.fnCleared_of hk hks h1 (by decide) (by decide) (by decide)) (Chip.fnCleared_setFn _ (Chip.fnOf_port _ _ _) (Chip.fnOf_fn _ _ _))

theorem Chip.placeDram_now (c : Chip) : c.placeDram.now = c.now := by
  unfold Chip.placeDram
  extract_lets m fit keep want now _ c1
  split
  · rfl
  · exact Chip.event_now _ _ _ _ _ _

theorem Chip.fitGrant_now (c : Chip) : c.fitGrant.now = c.now := by
  unfold Chip.fitGrant
  dsimp only
  split <;> rfl

theorem Chip.freeCmb_frame (c : Chip) (port fn : Nat) : c.fnCleared port fn (c.freeCmb port fn) ∧ c.keeps (c.freeCmb port fn) [.dict, .ev, .fns, .ft, .st, .pr, .lg] := by
  unfold Chip.freeCmb
  split
  · next h =>
    have hr : c.fnCleared port fn (c.releaseCmb port fn) ∧ c.keeps (c.releaseCmb port fn) [.fns, .ft, .dict] := by
      unfold Chip.releaseCmb
      dsimp only
      rw [if_pos h]
      generalize hg : ({ c.fnOf port fn with cmse := false, cmbOct := 0 } : Fn) = g
      have hp : g.port = port ∧ g.fn = fn := by
        subst hg
        exact ⟨Chip.fnOf_port _ _ _, Chip.fnOf_fn _ _ _⟩
      have hk : (c.setFn g).keeps _ [.ft, .dict] := (Chip.keeps_setAt_iff (by decide) E.CMB_RESERVED 0 ((c.setFn g).ft.cmbMib - (c.fnOf port fn).cmbOct)).2
        ((Chip.keeps_with_ft (by decide) { (c.setFn g).ft with cmbMib := (c.setFn g).ft.cmbMib - (c.fnOf port fn).cmbOct }).2 (Chip.keeps_refl _ _))
      refine ⟨Chip.fnCleared_trans (Chip.fnCleared_setFn c hp.1 hp.2) (Chip.fnCleared_of hk (es := [E.CMB_RESERVED])
        ((Chip.keepsEntries_setAt_iff (by decide) _ _).2 (Chip.keepsEntries_vals rfl _)) rfl (by decide) (by decide) (by decide)), ?_⟩
      exact Chip.keeps_trans (l := [.fns]) ((Chip.keeps_setFn_iff (by decide) _).2 (Chip.keeps_refl _ _)) hk
    obtain ⟨-, p1, p2⟩ := (c.releaseCmb port fn).placeDram_frame
    have g1 := (c.releaseCmb port fn).placeDram.keeps_fitGrant
    refine ⟨Chip.fnCleared_trans hr.1 (Chip.fnCleared_trans (Chip.fnCleared_of p1 p2 (Chip.placeDram_now _) (by decide) (by decide) (by decide))
      (Chip.fnCleared_of g1 (Chip.keepsEntries_of_keeps g1 (by decide) []) (Chip.fitGrant_now _) (by decide) (by decide) (by decide))),
      Chip.keeps_mono (Chip.keeps_trans hr.2 (Chip.keeps_trans p1 g1)) (by decide)⟩
  · exact ⟨Chip.fnCleared_refl _ _ _, Chip.keeps_refl _ _⟩

/-! ### What lapses with commands -/

theorem Chip.lapse_frame (c : Chip) : c.lapse.now = c.now ∧ c.keepsEntries c.lapse [E.FORMAT_STATE] ∧ c.keeps c.lapse [.dict, .ft, .fw] := by
  unfold Chip.lapse
  extract_lets _ c1 runs free nss _ c2
  have h1 : c1.now = c.now ∧ c.keepsEntries c1 [E.FORMAT_STATE] ∧ c.keeps c1 [.dict, .ft, .fw] := by
    unfold c1
    split
    · exact ⟨rfl, Chip.keepsEntries_refl _ _, Chip.keeps_refl _ _⟩
    · split
      · unfold Chip.fwaDrains
        split
        · exact ⟨rfl, Chip.keepsEntries_vals rfl _, (Chip.keeps_with_fw (by decide) _).2 (Chip.keeps_refl _ _)⟩
        · exact ⟨rfl, Chip.keepsEntries_refl _ _, Chip.keeps_refl _ _⟩
      · exact ⟨rfl, Chip.keepsEntries_vals rfl _, (Chip.keeps_with_fw (by decide) _).2 (Chip.keeps_refl _ _)⟩
  obtain ⟨a1, a2, a3⟩ := h1
  have h2 : c2.now = c.now ∧ c.keepsEntries c2 [E.FORMAT_STATE] ∧ c.keeps c2 [.dict, .ft, .fw] :=
    ⟨a1, Chip.keepsEntries_mono (Chip.keepsEntries_trans a2 (Chip.keepsEntries_vals (b := c1) rfl [])) (by decide), (Chip.keeps_with_ft (by decide) _).2 a3⟩
  obtain ⟨b1, b2, b3⟩ := h2
  split
  · exact ⟨b1, b2, b3⟩
  · exact ⟨b1, (Chip.keepsEntries_setAt_iff (by decide) _ _).2 b2, (Chip.keeps_setAt_iff (by decide) _ _ _).2 b3⟩

theorem Chip.fnCleared_lapse (c : Chip) (port fn : Nat) : c.fnCleared port fn c.lapse := by
  obtain ⟨h1, h2, h3⟩ := c.lapse_frame
  exact Chip.fnCleared_of h3 h2 h1 (by decide) (by decide) (by decide)

theorem Chip.fnCleared_endSelfTest (c : Chip) (port fn result segment : Nat) : c.fnCleared port fn (c.endSelfTest result segment) := by
  refine Chip.fnCleared_of (c.keeps_endSelfTest result segment) (es := [E.ST_STATE, E.ST_SEGMENT]) ?_ ?_ (by decide) (by decide) (by decide)
  · unfold Chip.endSelfTest
    dsimp only
    split
    · exact Chip.keepsEntries_refl _ _
    · exact (Chip.keepsEntries_setAt_iff (by decide) _ _).2 ((Chip.keepsEntries_setAt_iff (by decide) _ _).2 (Chip.keepsEntries_vals rfl _))
  · unfold Chip.endSelfTest
    dsimp only
    split <;> rfl

theorem Chip.fnCleared_dropDownload (c : Chip) (port fn : Nat) : c.fnCleared port fn c.dropDownload :=
  Chip.fnCleared_of (m := [.fw]) (es := []) ((Chip.keeps_with_fw (by decide) _).2 (Chip.keeps_refl _ _)) (Chip.keepsEntries_vals rfl _) rfl (by decide) (by decide) (by decide)

theorem Store.get_filter {d : Nat} {k : Nat × Nat} {q : (Nat × Nat) × Nat → Bool} (h : ∀ v, q (k, v) = true) (s : Store) : Store.get d k (s.filter q) = Store.get d k s := by
  induction s with
  | nil => rfl
  | cons p r ih =>
    by_cases hk : p.1 = k
    · have hq : q p = true := by
        rw [show p = (k, p.2) by rw [← hk]]
        exact h p.2
      rw [List.filter_cons_of_pos hq]
      unfold Store.get
      rw [if_pos hk, if_pos hk]
    · by_cases hq : q p = true
      · rw [List.filter_cons_of_pos hq]
        unfold Store.get
        rw [if_neg hk, if_neg hk, ih]
      · rw [List.filter_cons_of_neg hq]
        conv_rhs => unfold Store.get
        rw [if_neg hk, ih]

theorem Chip.fnCleared_resetFnEntries (c : Chip) (port fn : Nat) : c.fnCleared port fn (c.resetFnEntries port fn) := by
  refine ⟨fun p hp => by cases p <;> first | rfl | exact absurd (by decide) hp, rfl, fun i => Store.get_filter (fun v => ?_) _, fun _ _ _ => rfl, fun _ h => .inl h⟩
  have hd : ∃ d, descOf E.FLR_COUNT = some d ∧ d.access = .ro := ⟨_, rfl, rfl⟩
  obtain ⟨d, hd, ha⟩ := hd
  dsimp only
  rw [hd]
  simp [ha]

end Sys2Proof.Machine
end

section
/-! Proofs of the families of controllers and of function-level resets (R68, R75, R91, R115, R116, R436). -/
namespace Sys2Proof.Machine

/-! ### The end of a function -/

theorem Chip.clearFn_frame (c : Chip) (port fn : Nat) : c.fnCleared port fn (c.clearFn port fn)
    ∧ (∀ q ∈ (c.clearFn port fn).qs.sqs, ¬ (q.port = port ∧ q.fn = fn)) ∧ ∀ q ∈ (c.clearFn port fn).qs.cqs, ¬ (q.port = port ∧ q.fn = fn) := by
  unfold Chip.clearFn
  extract_lets c1 c2
  obtain ⟨-, d2, d3, -, -, -, d7⟩ := (c.endFn port fn).dropQueues_frame port fn
  obtain ⟨f1, f2⟩ := ((c.endFn port fn).dropQueues port fn).freeCmb_frame port fn
  have h1 : c.fnCleared port fn c1 := Chip.fnCleared_trans (c.fnCleared_endFn port fn) (Chip.fnCleared_trans d7 (Chip.fnCleared_trans f1 (Chip.fnCleared_lapse _ _ _)))
  have q1 : c1.qs = ((c.endFn port fn).dropQueues port fn).qs :=
    ((((c.endFn port fn).dropQueues port fn).freeCmb port fn).lapse_frame.2.2 .qs (by decide)).trans (f2 .qs (by decide))
  have h2 : c.fnCleared port fn c2 ∧ c2.qs = c1.qs := by
    unfold c2
    split
    · exact ⟨Chip.fnCleared_trans h1 (Chip.fnCleared_endSelfTest _ _ _ _ _), c1.keeps_endSelfTest 2 0 .qs (by decide)⟩
    · exact ⟨h1, rfl⟩
  have h3 : c.fnCleared port fn (if fn = 0 then c2.dropDownload else c2) ∧ (if fn = 0 then c2.dropDownload else c2).qs = c1.qs := by
    split
    · exact ⟨Chip.fnCleared_trans h2.1 (Chip.fnCleared_dropDownload _ _ _), h2.2⟩
    · exact h2
  refine ⟨h3.1, ?_, ?_⟩
  · rw [h3.2, q1]
    exact d2
  · rw [h3.2, q1]
    exact d3

/-- A function of which its enabling is cleared, as it is then. -/
def Fn.disabled (f : Fn) (port fn : Nat) : Fn := { Fn.initial port fn with dstate := f.dstate, flr := f.flr, flrT := f.flrT, cfg := f.cfg }

theorem Chip.disable_frame (c : Chip) (port fn : Nat) : (c.disable port fn).fnOf port fn = (c.fnOf port fn).disabled port fn
    ∧ (∀ q ∈ (c.disable port fn).qs.sqs, ¬ (q.port = port ∧ q.fn = fn)) ∧ (∀ q ∈ (c.disable port fn).qs.cqs, ¬ (q.port = port ∧ q.fn = fn))
    ∧ c.keeps (c.disable port fn) clearPart := by
  obtain ⟨⟨h1, -⟩, h2, h3⟩ := c.clearFn_frame port fn
  exact ⟨Chip.fnOf_setFn_self (c.clearFn port fn) (f := (c.fnOf port fn).disabled port fn) rfl rfl, h2, h3,
    (Chip.keeps_setPort_iff (by decide) _).2 ((Chip.keeps_setFn_iff (by decide) _).2 h1)⟩

/-! ### Enabling -/

/-- A function with other pending bits. -/
def Fn.withPba (f : Fn) (pba : List Nat) : Fn := { f with pba := pba }

theorem Chip.message_fnOf (c : Chip) (port fn vector : Nat) : ∃ pba, (c.message port fn vector).fnOf port fn = (c.fnOf port fn).withPba pba := by
  unfold Chip.message
  dsimp only
  split
  · exact ⟨_, rfl⟩
  · split
    · exact ⟨_, Chip.fnOf_setFn_self c (f := (c.fnOf port fn).withPba _) (Chip.fnOf_port _ _ _) (Chip.fnOf_fn _ _ _)⟩
    · exact ⟨_, rfl⟩

theorem Chip.unmasked_frame (c : Chip) (port fn : Nat) : (∃ pba, (c.unmasked port fn).fnOf port fn = (c.fnOf port fn).withPba pba) ∧ c.keeps (c.unmasked port fn) [.fns]
    ∧ c.keepsEntries (c.unmasked port fn) [] := by
  unfold Chip.unmasked
  extract_lets f
  refine Chip.each_induct (P := fun d => (∃ pba, d.fnOf port fn = (c.fnOf port fn).withPba pba) ∧ c.keeps d [.fns] ∧ c.keepsEntries d []) (fun d v hd => ?_) _ ?_
  · obtain ⟨⟨pba, h1⟩, h2, h3⟩ := hd
    obtain ⟨pba', h4⟩ := d.message_fnOf port fn v
    exact ⟨⟨pba', h4.trans (by rw [h1]; rfl)⟩, (Chip.keeps_iff (Chip.keeps_message _ _ _ _) (by decide)).2 h2,
      Chip.keepsEntries_mono (Chip.keepsEntries_trans h3 (Chip.keepsEntries_vals (Chip.message_vals _ _ _ _) [])) (by decide)⟩
  · exact ⟨⟨[], Chip.fnOf_setFn_self c (f := f.withPba []) (Chip.fnOf_port _ _ _) (Chip.fnOf_fn _ _ _)⟩, (Chip.keeps_setFn_iff (by decide) _).2 (Chip.keeps_refl _ _),
      (Chip.keepsEntries_setFn_iff _).2 (Chip.keepsEntries_refl _ _)⟩

/-- A function whose host has configured it. -/
def Fn.configured (f : Fn) (g : FnCfg) (pba : List Nat) : Fn := { f with cfg := g, pba := pba }

theorem Chip.fnExists_congr {a b : Chip} {port : Nat} (hb : b.boot = a.boot) (hc : (b.portOf port).cfg = (a.portOf port).cfg)
    (hn : (b.portOf port).numVfs = (a.portOf port).numVfs) {fn : Nat} : b.fnExists port fn = a.fnExists port fn := by
  unfold Chip.fnExists Chip.portUsed
  dsimp only
  rw [hb, hc, hn]

theorem Chip.takeConfig_frame (c : Chip) (port fn : Nat) (g : EnableCfg) : (∃ pba, (c.takeConfig port fn g).fnOf port fn = (c.fnOf port fn).configured g.fn pba)
    ∧ (c.takeConfig port fn g).fnExists port fn = (c.setPort { c.portOf port with cfg := g.pf }).fnExists port fn
    ∧ c.keeps (c.takeConfig port fn g) [.ports, .fns] ∧ c.keepsEntries (c.takeConfig port fn g) [] := by
  unfold Chip.takeConfig
  extract_lets p aer c0 resized _ c1
  have hp : p.port = port := c.portOf_port port
  have hf : c1.fnOf port fn = c.fnOf port fn := Chip.fnOf_congr rfl _ _
  generalize hg : ({ c1.fnOf port fn with cfg := g.fn } : Fn) = f
  have hfp : f.port = port ∧ f.fn = fn := by
    subst hg
    exact ⟨Chip.fnOf_port _ _ _, Chip.fnOf_fn _ _ _⟩
  obtain ⟨⟨pba, h1⟩, h2, h3⟩ := (c1.setFn f).unmasked_frame port fn
  refine ⟨⟨pba, h1.trans ?_⟩, ?_, ?_, ?_⟩
  · rw [Chip.fnOf_setFn_self c1 hfp.1 hfp.2, ← hg, hf]
    rfl
  · have hports : ((c1.setFn f).unmasked port fn).portOf port = _ := (Chip.portOf_congr (h2 .ports (by decide)) port).trans
      (Chip.portOf_setPort_of (c := c0) (p := { c0.portOf port with bar2Held := p.bar2Held ++ resized }) (c0.portOf_port port))
    have h0 : c0.portOf port = _ := Chip.portOf_setPort_of (c := c) hp
    have h4 : (c.setPort { p with cfg := g.pf }).portOf port = _ := Chip.portOf_setPort_of (c := c) hp
    refine Chip.fnExists_congr (b := (c1.setFn f).unmasked port fn) (a := c.setPort { p with cfg := g.pf }) ((h2 .boot (by decide)).trans rfl) ?_ ?_
    · rw [hports, h4]
      exact (congrArg Port.cfg h0 :)
    · rw [hports, h4]
      exact (congrArg Port.numVfs h0 :)
  · exact (Chip.keeps_iff h2 (by decide)).2 ((Chip.keeps_setFn_iff (by decide) _).2 ((Chip.keeps_setPort_iff (by decide) _).2 ((Chip.keeps_setPort_iff (by decide) _).2 (Chip.keeps_refl _ _))))
  · exact Chip.keepsEntries_mono (Chip.keepsEntries_trans (Chip.keepsEntries_vals (b := c1.setFn f) rfl []) h3) (by decide)

/-- A function that is enabled with its admin queues' sizes, and one that is ready with its states' power. -/
def Fn.enabledWith (f : Fn) (ams asqs acqs : Nat) : Fn := { f with en := true, ams := ams, asqs := asqs, acqs := acqs, shst := 0 }
def Fn.readyWith (f : Fn) (mp : List Nat) : Fn := { f with rdy := true, psMp := mp }

/-- In service, a function that is enabled with admin queues of a size in order becomes ready with them, empty. -/
theorem Chip.makeReady_frame {c : Chip} {port fn : Nat} {g : Fn} (hg : c.fnOf port fn = g) (hr : c.isReady = true) (he : g.en = true) (hn : g.rdy = false) (hf : g.flr = 0)
    (hs : 2 ≤ g.asqs ∧ g.asqs ≤ 4096 ∧ 2 ≤ g.acqs ∧ g.acqs ≤ 4096) :
    (∃ mp, (c.makeReady port fn).fnOf port fn = g.readyWith mp)
      ∧ (∃ q, (c.makeReady port fn).sqOf port fn 0 = some q ∧ q.size = g.asqs ∧ q.head = 0 ∧ q.tail = 0 ∧ q.cq = 0)
      ∧ (∃ k, (c.makeReady port fn).cqOf port fn 0 = some k ∧ k.size = g.acqs ∧ k.head = 0 ∧ k.tail = 0 ∧ k.phase = 1)
      ∧ c.keeps (c.makeReady port fn) [.qs, .fns] ∧ c.keepsEntries (c.makeReady port fn) [] := by
  have hp : g.port = port ∧ g.fn = fn := by
    subst hg
    exact ⟨Chip.fnOf_port _ _ _, Chip.fnOf_fn _ _ _⟩
  have hm : ∃ mp, c.makeReady port fn = (c.setFn (g.readyWith mp)).adminQueues port fn := by
    refine ⟨[E.PS0_MP, E.PS1_MP, E.PS2_MP, E.PS3_MP, E.PS4_MP].map c.get, ?_⟩
    unfold Chip.makeReady
    dsimp only
    rw [hg]
    refine (if_pos ?_).trans rfl
    rw [hr, he, hn, decide_eq_true hf, decide_eq_true hs]
    rfl
  obtain ⟨mp, hm⟩ := hm
  have hfn : (c.setFn (g.readyWith mp)).fnOf port fn = g.readyWith mp := Chip.fnOf_setFn_self c hp.1 hp.2
  have ha : ∃ (q : Sq) (k : Cq), c.makeReady port fn = ((c.setFn (g.readyWith mp)).setSq q).setCq k
      ∧ (q.port = port ∧ q.fn = fn ∧ q.qid = 0 ∧ q.size = g.asqs ∧ q.head = 0 ∧ q.tail = 0 ∧ q.cq = 0)
      ∧ (k.port = port ∧ k.fn = fn ∧ k.qid = 0 ∧ k.size = g.acqs ∧ k.head = 0 ∧ k.tail = 0 ∧ k.phase = 1) := by
    refine ⟨_, _, hm.trans rfl, ⟨rfl, rfl, rfl, (congrArg Fn.asqs hfn :), rfl, rfl, rfl⟩, ⟨rfl, rfl, rfl, (congrArg Fn.acqs hfn :), rfl, rfl, rfl⟩⟩
  obtain ⟨q, k, he, ⟨q1, q2, q3, q4, q5, q6, q7⟩, k1, k2, k3, k4, k5, k6, k7⟩ := ha
  rw [he]
  refine ⟨⟨mp, hfn⟩, ⟨q, ?_, q4, q5, q6, q7⟩, ⟨k, ?_, k4, k5, k6, k7⟩, ?_, ?_⟩
  · have := (c.setFn (g.readyWith mp)).sqOf_setSq_same q
    rw [q1, q2, q3] at this
    exact this
  · have := ((c.setFn (g.readyWith mp)).setSq q).cqOf_setCq_same k
    rw [k1, k2, k3] at this
    exact this
  · exact (Chip.keeps_setCq_iff (by decide) _).2 ((Chip.keeps_setSq_iff (by decide) _).2 ((Chip.keeps_setFn_iff (by decide) _).2 (Chip.keeps_refl _ _)))
  · exact (Chip.keepsEntries_setCq_iff _).2 ((Chip.keepsEntries_setSq_iff _).2 ((Chip.keepsEntries_setFn_iff _).2 (Chip.keepsEntries_refl _ _)))

end Sys2Proof.Machine

open Sys2Proof Sys2Proof.Machine

/-- Settles O28. -/
theorem controllersAreEnabledAndReset : Obligations.ControllersAreEnabledAndReset := by
  unfold Obligations.ControllersAreEnabledAndReset
  intro s t port fn f hf hr
  refine ⟨fun cfg asqs acqs hu hx he hn hflr h1 h2 h3 h4 => ?_, fun flush he hs hp => ?_⟩
  · obtain ⟨⟨pba, g1⟩, g2, g3, g4⟩ := (s.chip.atTime t).takeConfig_frame port fn cfg
    have hfn : ((s.chip.atTime t).takeConfig port fn cfg).fnOf port fn = f.configured cfg.fn pba := g1.trans (by rw [← hf]; rfl)
    have hready : ((s.chip.atTime t).takeConfig port fn cfg).isReady = true := by
      unfold Chip.isReady
      rw [g3 .boot (by decide)]
      exact hr
    have hfp : (f.configured cfg.fn pba).port = port ∧ (f.configured cfg.fn pba).fn = fn := by
      rw [← hf]
      exact ⟨Chip.fnOf_port _ _ _, Chip.fnOf_fn _ _ _⟩
    obtain ⟨⟨mp, m1⟩, ⟨q, m2⟩, ⟨k, m3⟩, m4, m5⟩ := Chip.makeReady_frame
      (Chip.fnOf_setFn_self ((s.chip.atTime t).takeConfig port fn cfg) (f := (f.configured cfg.fn pba).enabledWith cfg.ams asqs acqs) hfp.1 hfp.2) hready rfl hn hflr ⟨h1, h2, h3, h4⟩
    have hup : ((s.chip.atTime t).endpointUp && (s.chip.atTime t).portUsed port) = true := by
      rw [Bool.and_eq_true]
      refine ⟨?_, hu⟩
      unfold Chip.endpointUp
      rw [show (s.chip.atTime t).boot.run = .ready from of_decide_eq_true hr]
    have hshut : decide ((s.chip.atTime t).boot.run = .shut) = false := by
      rw [show (s.chip.atTime t).boot.run = .ready from of_decide_eq_true hr]
      rfl
    have hk := Chip.keeps_mono (m := [.qs, .ports] ++ notePart) (Chip.keeps_trans (Chip.keeps_trans g3 (Chip.keeps_setFn _ _)) m4) (by decide)
    have hks := Chip.keepsEntries_mono (m := []) (Chip.keepsEntries_trans (Chip.keepsEntries_trans g4 (Chip.keepsEntries_vals rfl [])) m5) (by decide)
    refine Completes.of_when (exec_ccEnable s t port fn cfg asqs acqs) hup ?_
    dsimp only
    rw [hfn, show (f.configured cfg.fn pba).en = false from he, hshut, g2, show (((s.chip.atTime t).setPort { (s.chip.atTime t).portOf port with cfg := cfg.pf }).fnExists port fn) = true from hx]
    have hno := (Chip.noAe_end (s.chip.atTime t) _ port fn).trans (congrArg Fn.noAe m1)
    exact ⟨Fn.field_of_noAe Fn.en hno, Fn.field_of_noAe Fn.rdy hno, Fn.field_of_noAe Fn.ams hno, Fn.field_of_noAe Fn.shst hno, Fn.field_of_noAe Fn.cfg hno,
      ⟨q, (Chip.sqOf_end _ _ _ _ _).trans m2.1, m2.2⟩, ⟨k, (Chip.cqOf_end _ _ _ _ _).trans m3.1, m3.2⟩, Chip.keeps_ended t hk (by decide) (by decide), Chip.keepsEntries_end t hks⟩
  · obtain ⟨g1, g2, g3, g4⟩ := (s.chip.atTime t).disable_frame port fn
    have hq : ((s.chip.atTime t).settle ((s.chip.atTime t).disable port fn)).qs = ((s.chip.atTime t).disable port fn).qs := Chip.settle_qs _ _
    have hd : (s.chip.atTime t).controllerReset port fn flush = (s.chip.atTime t).disable port fn := by
      unfold Chip.controllerReset
      extract_lets c1 passes
      have hrun : (s.chip.atTime t).boot.run = .ready := of_decide_eq_true hr
      rw [if_neg (by rw [hrun]; decide), if_neg (by rw [hrun]; decide), if_neg fun h => ?_]
      rcases hp with hp | hp
      · exact hp h.1
      · exact h.2.2.1 hp
    refine Completes.of_unitsWhen (exec_controllerReset s t port fn flush) ?_ ?_
    · rw [show (s.chip.atTime t).fnOf port fn = f from hf, he, decide_eq_false hs]
      simp
    · rw [hd]
      refine ⟨?_, ?_, ?_, Chip.keeps_settled t (Chip.keeps_mono g4 (by decide)) (by decide) (by decide)⟩
      · refine (Chip.noAe_end _ _ _ _).trans ((congrArg Fn.noAe (Chip.fnOf_congr (Chip.settle_fns _ _) _ _)).trans ((congrArg Fn.noAe g1).trans ?_))
        rw [show (s.chip.atTime t).fnOf port fn = f from hf]
        rfl
      · rw [Chip.seal_qs, Chip.notices_qs, hq]
        exact g2
      · rw [Chip.seal_qs, Chip.notices_qs, hq]
        exact g3
end

section
/-! Proofs of the family of function-level resets (R115, R116). -/
namespace Sys2Proof.Machine

/-! ### The functions after notices -/

theorem Chip.fnOf_mem {c : Chip} {port fn : Nat} (h : (c.fnOf port fn).rdy = true) : c.fnOf port fn ∈ c.fns := by
  revert h
  unfold Chip.fnOf
  split
  · next f hf => exact fun _ => List.mem_of_find?_eq_some hf
  · exact fun h => Bool.noConfusion (h : false = true)

/-- A raised event leaves what holds of the places of all functions. -/
theorem Chip.fns_raiseAe {Q : Nat → Nat → Prop} {c : Chip} (hc : ∀ g ∈ c.fns, Q g.port g.fn) (p f type info page : Nat) :
    ∀ g ∈ (c.raiseAe p f type info page).fns, Q g.port g.fn := by
  unfold Chip.raiseAe
  dsimp only
  split
  · exact hc
  · next h =>
    have hr : (c.fnOf p f).rdy = true := by
      by_contra hn
      exact h (.inl (by simpa using hn))
    have hm := hc _ (Chip.fnOf_mem hr)
    split
    · intro g hg
      rcases mem_upsert hg with rfl | hg
      · exact hm
      · exact hc g hg
    · intro g hg
      rw [Chip.finish_fns] at hg
      rcases mem_upsert hg with rfl | hg
      · exact hm
      · exact hc g hg

theorem Chip.fns_end {Q : Nat → Nat → Prop} {b c : Chip} (hc : ∀ g ∈ c.fns, Q g.port g.fn) : ∀ g ∈ (b.seal (b.notices c)).fns, Q g.port g.fn := by
  rw [Chip.seal_fns]
  exact Chip.notices_induct (P := fun d => ∀ g ∈ d.fns, Q g.port g.fn) (fun a d _ hf ha => by rw [hf]; exact ha)
    (fun a p f type info page ha => Chip.fns_raiseAe ha p f type info page) b hc

/-! ### Functions that go -/

theorem Chip.dropFn_frame (c : Chip) (port fn : Nat) : c.fnCleared port fn (c.dropFn port fn) ∧ ∀ g ∈ (c.dropFn port fn).fns, g ∈ c.fns ∧ ¬ (g.port = port ∧ g.fn = fn) := by
  have hm : ∀ g ∈ (c.dropFn port fn).fns, g ∈ c.fns ∧ ¬ (g.port = port ∧ g.fn = fn) := fun g hg =>
    ⟨(List.mem_filter.1 hg).1, by simpa only [Bool.not_eq_true', decide_eq_false_iff_not] using (List.mem_filter.1 hg).2⟩
  refine ⟨⟨(Chip.keeps_with_fns (by decide) _).2 (Chip.keeps_refl _ _), rfl, fun _ => rfl, fun p k hk => ?_, fun g hg => .inl (hm g hg).1⟩, hm⟩
  unfold Chip.fnOf Chip.dropFn
  dsimp only
  rw [find_drop_ne]
  intro a ha
  simp only [decide_eq_true_eq] at ha
  refine decide_eq_false ?_
  rintro ⟨h1, h2⟩
  exact hk ⟨h1.symm.trans ha.1, h2.symm.trans ha.2⟩

/-- From a to b functions of a port other than its PF may have gone. -/
def Chip.vfsCleared (port : Nat) (a b : Chip) : Prop :=
  a.keeps b clearPart ∧ (∀ i, b.getAt E.FLR_COUNT i = a.getAt E.FLR_COUNT i) ∧ b.fnOf port 0 = a.fnOf port 0

theorem Chip.vfsCleared_refl (port : Nat) (a : Chip) : a.vfsCleared port a := ⟨Chip.keeps_refl _ _, fun _ => rfl, rfl⟩

theorem Chip.vfsCleared_trans {port : Nat} {a b c : Chip} (h : a.vfsCleared port b) (h' : b.vfsCleared port c) : a.vfsCleared port c :=
  ⟨Chip.keeps_mono (Chip.keeps_trans h.1 h'.1) (by decide), fun i => (h'.2.1 i).trans (h.2.1 i), h'.2.2.trans h.2.2⟩

theorem Chip.vfsCleared_of_fn {port n : Nat} {a b : Chip} (h : a.fnCleared port n b) (hn : n ≠ 0) : a.vfsCleared port b := by
  obtain ⟨h1, -, h3, h4, -⟩ := h
  exact ⟨h1, h3, h4 port 0 fun he => hn he.2.symm⟩

/-- The PF's port with other registers. -/
theorem Chip.vfsCleared_setPort (c : Chip) (port : Nat) (p : Port) : c.vfsCleared port (c.setPort p) :=
  ⟨(Chip.keeps_setPort_iff (by decide) _).2 (Chip.keeps_refl _ _), fun _ => rfl, rfl⟩

theorem Chip.clearVf_frame (c : Chip) (port n : Nat) : c.fnCleared port n (((c.clearFn port n).resetFnEntries port n).dropFn port n)
    ∧ ∀ g ∈ (((c.clearFn port n).resetFnEntries port n).dropFn port n).fns, g ∈ c.fns ∧ ¬ (g.port = port ∧ g.fn = n) := by
  obtain ⟨h1, h2⟩ := ((c.clearFn port n).resetFnEntries port n).dropFn_frame port n
  have h0 : c.fnCleared port n ((c.clearFn port n).resetFnEntries port n) := Chip.fnCleared_trans (c.clearFn_frame port n).1 (Chip.fnCleared_resetFnEntries _ _ _)
  refine ⟨Chip.fnCleared_trans h0 h1, fun g hg => ?_⟩
  obtain ⟨hg, hn⟩ := h2 g hg
  obtain ⟨-, -, -, -, h5⟩ := h0
  rcases h5 g hg with h | h
  · exact ⟨h, hn⟩
  · exact absurd h hn

theorem Chip.clearVfs_frame (c : Chip) (port : Nat) {vfs : List Nat} (hv : 0 ∉ vfs) : c.vfsCleared port (c.clearVfs port vfs)
    ∧ ∀ g ∈ (c.clearVfs port vfs).fns, g ∈ c.fns ∧ ¬ (g.port = port ∧ g.fn ∈ vfs) := by
  suffices h : ∀ (l : List Nat) (d : Chip), 0 ∉ l → d.vfsCleared port (d.each l fun c n => ((c.clearFn port n).resetFnEntries port n).dropFn port n)
      ∧ ∀ g ∈ (d.each l fun c n => ((c.clearFn port n).resetFnEntries port n).dropFn port n).fns, g ∈ d.fns ∧ ¬ (g.port = port ∧ g.fn ∈ l) by
    obtain ⟨h1, h2⟩ := h vfs c hv
    exact ⟨Chip.vfsCleared_trans h1 (Chip.vfsCleared_setPort _ _ _), h2⟩
  intro l
  induction l with
  | nil => exact fun d _ => ⟨Chip.vfsCleared_refl _ _, fun g hg => ⟨hg, fun h => absurd h.2 List.not_mem_nil⟩⟩
  | cons n l ih =>
    intro d hl
    rw [List.mem_cons, not_or] at hl
    obtain ⟨h1, h2⟩ := d.clearVf_frame port n
    obtain ⟨i1, i2⟩ := ih _ hl.2
    refine ⟨Chip.vfsCleared_trans (Chip.vfsCleared_of_fn h1 (Ne.symm hl.1)) i1, fun g hg => ?_⟩
    obtain ⟨hg, hn⟩ := i2 g hg
    obtain ⟨hg, hm⟩ := h2 g hg
    refine ⟨hg, fun hk => ?_⟩
    rcases List.mem_cons.1 hk.2 with h | h
    · exact hm ⟨hk.1, h⟩
    · exact hn ⟨hk.1, h⟩

theorem Chip.vfsOf_pos (c : Chip) (port : Nat) : 0 ∉ c.vfsOf port := by
  intro h
  obtain ⟨f, hf, h0⟩ := List.mem_map.1 h
  exact absurd h0 (by simpa using (List.mem_filter.1 hf).2 : f.port = port ∧ f.fn ≠ 0).2

/-! ### The reset -/

/-- A function in the drain of its reset. -/
def Fn.resetAt (port fn now granted : Nat) : Fn := { Fn.initial port fn with flr := 1, flrT := now, granted := granted }

theorem Chip.flrAgain_frame (c : Chip) (port fn : Nat) : c.fnCleared port fn (c.flrAgain port fn)
    ∧ (c.flrAgain port fn).fnOf port fn = Fn.resetAt port fn (c.fnOf port fn).flrT (c.fnOf port fn).granted :=
  ⟨Chip.fnCleared_trans (Chip.fnCleared_trans (c.freeCmb_frame port fn).1 (Chip.fnCleared_resetFnEntries _ _ _)) (Chip.fnCleared_setFn _ rfl rfl),
    Chip.fnOf_setFn_self _ (f := Fn.resetAt port fn (c.fnOf port fn).flrT (c.fnOf port fn).granted) rfl rfl⟩

theorem Chip.flrPf_frame (c : Chip) (port : Nat) : c.vfsCleared port (c.flrPf port) := by
  unfold Chip.flrPf
  extract_lets draining gone
  have hd : 0 ∉ draining := fun h => c.vfsOf_pos port (List.mem_filter.1 h).1
  have hg : 0 ∉ gone := fun h => c.vfsOf_pos port (List.mem_filter.1 h).1
  have h1 : c.vfsCleared port (c.dropDownload.each draining fun c n => c.flrAgain port n) := by
    refine Chip.each_mem_induct (P := fun d => c.vfsCleared port d) (fun d n hn h => ?_) ⟨(Chip.fnCleared_dropDownload c port 1).1, fun _ => rfl, rfl⟩
    exact Chip.vfsCleared_trans h (Chip.vfsCleared_of_fn (d.flrAgain_frame port n).1 fun h0 => hd (h0 ▸ hn))
  exact Chip.vfsCleared_trans (Chip.vfsCleared_trans h1 (Chip.clearVfs_frame _ port hg).1) (Chip.vfsCleared_setPort _ _ _)

/-- A reset of a function, as it is counted. -/
def Chip.flrCounted (c : Chip) (port fn : Nat) : Chip := (c.countAt E.FLR_COUNT (fnItem port fn) 1).event 0x284 0 1 noUnit [fnItem port fn, 0]

theorem Chip.flrCounted_frame (c : Chip) (port fn : Nat) : c.counts (c.flrCounted port fn) E.FLR_COUNT (fnItem port fn) 1 ∧ (c.flrCounted port fn).now = c.now
    ∧ c.keeps (c.flrCounted port fn) clearPart ∧ (c.flrCounted port fn).fns = c.fns := by
  refine ⟨(Chip.getAt_event _ _ _ _ _ _ (by decide)).trans (Chip.getAt_countAt_same _ _ _ _ (by decide)), ?_, ?_, ?_⟩
  · exact (Chip.event_now _ _ _ _ _ _).trans (Chip.countAt_now _ _ _ _)
  · exact (Chip.keeps_event_iff (by decide) (by decide) (by decide) _ _ _ _ _).2 ((Chip.keeps_countAt_iff (by decide) _ _ _).2 (Chip.keeps_refl _ _))
  · exact (Chip.event_fns _ _ _ _ _ _).trans (Chip.countAt_fns _ _ _ _)

/-- The first steps of the reset of a function of which none runs. -/
def Chip.flrFirst (c c0 : Chip) (port fn : Nat) : Chip :=
  let reads := (c.cmds.filter fun x => decide (x.port = port ∧ x.fn = fn) && x.dmaOpen).map fun x => (fn, x.h)
  let p := c0.portOf port
  let c1 := ((c0.setPort { p with drains := (p.drains.filter fun d => decide (d.1 ≠ fn)) ++ reads }).endFn port fn).lapse
  let c2 := if c.lg.stOwner = some (port, fn) then c1.endSelfTest 2 0 else c1
  (c2.freeCmb port fn).resetFnEntries port fn

theorem Chip.flrFirst_frame (c c0 : Chip) (port fn : Nat) : c0.fnCleared port fn (c.flrFirst c0 port fn) := by
  unfold Chip.flrFirst
  extract_lets reads p c1 c2
  have h0 : ∀ q : Port, c0.fnCleared port fn (c0.setPort q) := fun q =>
    Chip.fnCleared_of (m := [.ports]) (es := []) ((Chip.keeps_setPort_iff (by decide) _).2 (Chip.keeps_refl _ _)) (Chip.keepsEntries_vals rfl _) rfl (by decide) (by decide) (by decide)
  have h1 : c0.fnCleared port fn c1 := Chip.fnCleared_trans (Chip.fnCleared_trans (h0 _) (Chip.fnCleared_endFn _ _ _)) (Chip.fnCleared_lapse _ _ _)
  have h2 : c0.fnCleared port fn c2 := by
    unfold c2
    split
    · exact Chip.fnCleared_trans h1 (Chip.fnCleared_endSelfTest _ _ _ _ _)
    · exact h1
  exact Chip.fnCleared_trans (Chip.fnCleared_trans h2 (Chip.freeCmb_frame _ _ _).1) (Chip.fnCleared_resetFnEntries _ _ _)

/-- A reset counts, and leaves its function in the drain, since now where none ran. -/
theorem Chip.beginFlr_frame (c : Chip) (port fn : Nat) : c.counts (c.beginFlr port fn) E.FLR_COUNT (fnItem port fn) 1 ∧ c.keeps (c.beginFlr port fn) clearPart
    ∧ ((c.beginFlr port fn).fnOf port fn).flr = 1
    ∧ ((c.fnOf port fn).flr ≠ 1 → (c.beginFlr port fn).fnOf port fn = Fn.resetAt port fn c.now (c.fnOf port fn).granted) := by
  obtain ⟨a1, a2, a3, a4⟩ := c.flrCounted_frame port fn
  have hfn : (c.flrCounted port fn).fnOf port fn = c.fnOf port fn := Chip.fnOf_congr a4 _ _
  have h4 : ∃ c4, c.beginFlr port fn = (if fn = 0 then c4.flrPf port else c4) ∧ (c.flrCounted port fn).fnCleared port fn c4 ∧ (c4.fnOf port fn).flr = 1
      ∧ ((c.fnOf port fn).flr ≠ 1 → c4.fnOf port fn = Fn.resetAt port fn c.now (c.fnOf port fn).granted) := by
    by_cases h : (c.fnOf port fn).flr = 1
    · obtain ⟨f1, f2⟩ := (c.flrCounted port fn).flrAgain_frame port fn
      refine ⟨(c.flrCounted port fn).flrAgain port fn, ?_, f1, congrArg Fn.flr f2, fun hn => absurd h hn⟩
      unfold Chip.beginFlr
      dsimp only
      rw [if_pos h]
      rfl
    · have g := c.flrFirst_frame (c.flrCounted port fn) port fn
      have hnow : (c.flrFirst (c.flrCounted port fn) port fn).now = c.now := g.2.1.trans a2
      have hs := Chip.fnOf_setFn_self (c.flrFirst (c.flrCounted port fn) port fn) (f := Fn.resetAt port fn c.now (c.fnOf port fn).granted) (p := port) (k := fn) rfl rfl
      refine ⟨(c.flrFirst (c.flrCounted port fn) port fn).setFn (Fn.resetAt port fn c.now (c.fnOf port fn).granted), ?_,
        Chip.fnCleared_trans g (Chip.fnCleared_setFn _ rfl rfl), congrArg Fn.flr hs, fun _ => hs⟩
      unfold Chip.beginFlr
      dsimp only
      rw [if_neg h, ← hnow]
      rfl
  obtain ⟨c4, he, ⟨b1, -, b3, -⟩, b4, b5⟩ := h4
  have hv : (c.beginFlr port fn).fnOf port fn = c4.fnOf port fn ∧ c4.keeps (c.beginFlr port fn) clearPart ∧ ∀ i, (c.beginFlr port fn).getAt E.FLR_COUNT i = c4.getAt E.FLR_COUNT i := by
    rw [he]
    split
    · next h0 =>
      subst h0
      obtain ⟨v1, v2, v3⟩ := c4.flrPf_frame port
      exact ⟨v3, v1, v2⟩
    · exact ⟨rfl, Chip.keeps_refl _ _, fun _ => rfl⟩
  obtain ⟨v1, v2, v3⟩ := hv
  refine ⟨(v3 _).trans ((b3 _).trans a1), Chip.keeps_mono (Chip.keeps_trans (Chip.keeps_trans a3 b1) v2) (by decide), ?_, fun h => v1.trans (b5 h)⟩
  rw [v1]
  exact b4

/-- The end of a drain. -/
theorem Chip.flrDone_frame {c : Chip} {port fn : Nat} (h : (c.fnOf port fn).flr = 1) :
    (∃ f, (c.flrDone port fn).fnOf port fn = f ∧ f = { (c.fnOf port fn).unqueued with flr := if (c.fnOf port fn).en then 2 else 0 })
      ∧ (∀ q ∈ (c.flrDone port fn).qs.sqs, ¬ (q.port = port ∧ q.fn = fn)) ∧ (∀ q ∈ (c.flrDone port fn).qs.cqs, ¬ (q.port = port ∧ q.fn = fn))
      ∧ (c.flrDone port fn).getAt E.FLR_LAST_DRAIN (fnItem port fn) = (c.now - (c.fnOf port fn).flrT) / cycPerUs
      ∧ c.keeps (c.flrDone port fn) (.qs :: .ports :: notePart) ∧ c.keepsEntries (c.flrDone port fn) [E.FLR_LAST_DRAIN, E.QB_CLASS] := by
  obtain ⟨d1, d2, d3, d4, d5, d6, -⟩ := c.dropQueues_frame port fn
  unfold Chip.flrDone
  dsimp only
  rw [if_pos h]
  generalize hc : ((c.dropQueues port fn).setAt E.FLR_LAST_DRAIN (fnItem port fn) ((c.now - (c.fnOf port fn).flrT) / cycPerUs)).event 0x284 0 1 noUnit
    [fnItem port fn, 1, (c.now - (c.fnOf port fn).flrT) / cycPerUs] = c1
  have hfn : c1.fnOf port fn = (c.fnOf port fn).unqueued := by
    subst hc
    exact (Chip.fnOf_congr (Chip.event_fns _ _ _ _ _ _) _ _).trans d1
  have hk : c.keeps c1 (.qs :: .ports :: notePart) := by
    subst hc
    exact (Chip.keeps_event_iff (by decide) (by decide) (by decide) _ _ _ _ _).2 ((Chip.keeps_setAt_iff (by decide) _ _ _).2 (Chip.keeps_mono d6 (by decide)))
  have hks : c.keepsEntries c1 [E.FLR_LAST_DRAIN, E.QB_CLASS] := by
    subst hc
    exact (Chip.keepsEntries_event_iff _ _ _ _ _).2 ((Chip.keepsEntries_setAt_iff (by decide) _ _).2 (Chip.keepsEntries_mono d5 (by decide)))
  have hqs : c1.qs = (c.dropQueues port fn).qs := by
    subst hc
    exact Chip.event_qs _ _ _ _ _ _
  have hv : c1.getAt E.FLR_LAST_DRAIN (fnItem port fn) = (c.now - (c.fnOf port fn).flrT) / cycPerUs := by
    subst hc
    exact (Chip.getAt_event _ _ _ _ _ _ (by decide)).trans ((Chip.getAt_setAt _ _ _ _ _ _).trans (if_pos ⟨rfl, rfl⟩))
  refine ⟨⟨_, Chip.fnOf_setFn_self c1 (Chip.fnOf_port _ _ _) (Chip.fnOf_fn _ _ _), by rw [hfn]⟩, ?_, ?_, hv, ?_, ?_⟩
  · intro q hq
    exact d2 q (hqs ▸ hq)
  · intro q hq
    exact d3 q (hqs ▸ hq)
  · exact (Chip.keeps_setPort_iff (by decide) _).2 ((Chip.keeps_setFn_iff (by decide) _).2 hk)
  · exact (Chip.keepsEntries_setPort_iff _).2 ((Chip.keepsEntries_setFn_iff _).2 hks)

end Sys2Proof.Machine

open Sys2Proof Sys2Proof.Machine

/-- Settles O30. -/
theorem functionsAreReset : Obligations.FunctionsAreReset := by
  unfold Obligations.FunctionsAreReset
  intro s t port fn f hf
  have hf' : (s.chip.atTime t).fnOf port fn = f := hf
  obtain ⟨b1, b2, b3, b4⟩ := (s.chip.atTime t).beginFlr_frame port fn
  refine ⟨fun hu hx => ?_, fun hu hx hn => ?_, fun h1 => ?_, fun hu => ?_⟩
  · refine Completes.of_when (exec_flrInitiate s t port fn) (Bool.and_eq_true _ _ ▸ ⟨hu, hx⟩) ⟨Chip.counts_end t (by decide) b1, ?_⟩
    have hno := Chip.noAe_end (s.chip.atTime t) ((s.chip.atTime t).beginFlr port fn) port fn
    exact (Fn.field_of_noAe Fn.flr hno).trans b3
  · refine Completes.of_when (exec_flrInitiate s t port fn) (Bool.and_eq_true _ _ ▸ ⟨hu, hx⟩) ⟨(Chip.noAe_end _ _ _ _).trans ?_, Chip.keeps_ended t (Chip.keeps_mono b2 (by decide)) (by decide) (by decide)⟩
    rw [b4 (by rw [hf']; exact hn), hf']
    rfl
  · obtain ⟨⟨g, d1, d2⟩, d3, d4, d5, d6, d7⟩ := Chip.flrDone_frame (c := s.chip.atTime t) (hf' ▸ h1)
    refine Completes.of_run (exec_flrDrainDone s t port fn) ⟨(Chip.noAe_end _ _ _ _).trans ?_, ?_, ?_, Chip.get_end (by decide) (d5.trans (by rw [hf'])),
      Chip.keeps_ended t d6 (by decide) (by decide), Chip.keepsEntries_end t d7⟩
    · rw [d1, d2, hf']
      rfl
    · rw [Chip.seal_qs, Chip.notices_qs]
      exact d3
    · rw [Chip.seal_qs, Chip.notices_qs]
      exact d4
  · obtain ⟨⟨c1, -, -⟩, c2⟩ := (s.chip.atTime t).clearVfs_frame port ((s.chip.atTime t).vfsOf_pos port)
    refine Completes.of_when (exec_vfEnableClear s t port) hu ⟨?_, Chip.keeps_ended t (Chip.keeps_mono c1 (by decide)) (by decide) (by decide)⟩
    refine Chip.fns_end (Q := fun p k => p = port → k = 0) fun g hg hp => ?_
    obtain ⟨hg, hn⟩ := c2 g hg
    by_contra h0
    exact hn ⟨hp, List.mem_map.2 ⟨g, List.mem_filter.2 ⟨hg, decide_eq_true ⟨hp, h0⟩⟩, rfl⟩⟩
end

section
/-! Refutation by the key that a Format replaces: with it the wrapped key goes as well (R161), and the statement keeps the old one. -/
namespace Sys2Proof.Machine

/-- What the end of a completed command has of a namespace is what its effect left. -/
theorem Completes.ns_effect {i : Instr} {s : State} {P : Chip → Prop} {t k : Nat} {f : Chip → Chip} {n : Option Ns} (h : Completes i s P)
    (he : exec i s = run s t f) (hk : ∀ c, P c → c.ns k = n) : (f (s.chip.atTime t)).ns k = n := by
  obtain ⟨r, hr, -, hp⟩ := h
  rw [he, run_eq] at hr
  injection hr with hr
  have hq := hk _ hp
  rw [← hr] at hq
  refine Eq.trans ?_ hq
  unfold Chip.ns
  rw [Chip.seal_ft, Chip.notices_ft]

/-- A namespace without granules whose wrapped key is not the one of the next key. -/
def oldKeyNs : Ns :=
  { nsid := 1, nsze := 0, ncap := 0, lbaf := 0, ext := false, p2 := false, granules := [], attached := [], key := 7, wrapped := Config.keyWrap Fuse.initial.secret Ft.initial.keyNext + 1,
    formatting := false, deleting := false, detaching := [] }

/-- A Format NVM of that namespace that asks for a new key. -/
def rekeying : Cmd := { Chip.initial.newCmd (oneEntrySq 0) [0x80, 1, 0, 0, 0, 0, 0, 0, 0, 0, 0x200, 0] with h := 1 }

def rekeyed : Chip :=
  { Chip.initial with boot := { Boot.initial with run := .ready }, cmds := [rekeying], ft := { Ft.initial with nss := [oldKeyNs] } }

theorem rekeyed_formatted : ((rekeyed.atTime 0).adminCmd 1 0x80 Chip.formatCmd).ns 1 = some { oldKeyNs with key := Ft.initial.keyNext, wrapped := Config.keyWrap Fuse.initial.secret Ft.initial.keyNext } := by
  rfl

end Sys2Proof.Machine

open Sys2Proof Sys2Proof.Machine

/-- Refutes O12: a Format with a new key for a namespace wraps that key, so its wrapped key is not the one before. -/
theorem not_namespacesAreManaged : ¬ Obligations.NamespacesAreManaged := by
  intro h
  obtain ⟨-, -, -, -, -, hformat⟩ := h { chip := rekeyed, pending := [] } 0 1 rekeying
  have hw : rekeyed.adminWaits 1 0x80 rekeying := ⟨rfl, rfl, rfl, rfl, rfl, rfl, by decide, .inl rfl, fun _ hf => absurd hf List.not_mem_nil⟩
  have hy : ∀ y ∈ rekeyed.cmds, ∀ n ∈ rekeyed.namedNs rekeying.nsid, rekeyed.onNs y n.nsid = false := by
    intro y hy n _
    rw [List.mem_singleton.1 hy]
    rfl
  have hn := Completes.ns_effect (k := 1) (hformat hw (by decide) (.inr rfl) (by decide) (by decide) (by decide) hy (by decide +kernel)) (exec_formatNvm _ _ _)
    fun c hc => (hc.2.2.1 oldKeyNs (by decide) rfl).1
  have he := congrArg (Option.map Ns.wrapped) (rekeyed_formatted.symm.trans hn)
  exact absurd (Option.some.inj he) (Nat.ne_of_lt (Nat.lt_succ_self _))
end

section
/-! Refutation by the program that waits in a die: the admission of a read starts what waits in the dies that it touches (R38, R188), and with its
transfer the page of a program is folded into the accumulator of its row (R240). -/
namespace Sys2Proof.Machine

theorem Verdict.admits_iff {v : Verdict} : v.admits = true ↔ ∃ b items work ra units members, v = .admitAs b items work ra units members := by
  cases v <;> simp [Verdict.admits]

/-- A namespace of one granule, whose first unit is on flash. -/
def readNs : Ns :=
  { nsid := 1, nsze := 1000, ncap := 1000, lbaf := 0, ext := false, p2 := false, granules := [0], attached := [0], key := 1, wrapped := 0,
    formatting := false, deleting := false, detaching := [] }

/-- A class 3 Read of its first LBA. -/
def aRead : Cmd := { Chip.initial.newCmd (oneEntrySq 1) [0x02, 1, 0, 0, 0, 0, 0, 0, 0, 0, 0, 0, 0] with h := 1 }

/-- In service, with a program waiting in the die that the Read touches. -/
def readChip : Chip :=
  { Chip.initial with
    boot := { Boot.initial with run := .ready }
    cmds := [aRead]
    un := { units := [onlineUnit (mkUnit kTGT 0), onlineUnit (mkUnit kLUN 0), onlineUnit (mkUnit kLDPC 0)], spreads := [], cores := [] }
    ft := { Ft.initial with nss := [readNs], map := [(0, 0)], loaded := [0] }
    sb := { Sbs.initial with sbs := [{ waitingSb with members := [{ lun := 0, block := 0, hintZone := 0, hintSlot := 0, hinted := false, reads := 0 }] }],
                             rows := [waitingRow] }
    md := { Md.initial with dies := [{ lun := 0, planes := 4, good := 0, blocks := [], ops := [waitingProgram], temp := none, tempAge := 0,
                                       tempT := 0, times := [] }] } }

end Sys2Proof.Machine

open Sys2Proof Sys2Proof.Machine

/-- Refutes O21: the admission of a read starts the waiting program, which changes the superblocks' part, not in the frame. -/
theorem not_commandsAreDecided : ¬ Obligations.CommandsAreDecided := by
  intro h
  obtain ⟨hadmit, -⟩ := h { chip := readChip, pending := [] } 0 1 aRead rfl fun _ hf => absurd hf List.not_mem_nil
  obtain ⟨b, items, work, ra, units, members, hv⟩ := Verdict.admits_iff.1 (show ((readChip.atTime 0).moveHeld.decide' aRead).1.admits = true by decide +kernel)
  have hd : (readChip.atTime 0).moveHeld.decide' aRead = (.admitAs b items work ra units members, ((readChip.atTime 0).moveHeld.decide' aRead).2) :=
    (Prod.mk.eta (p := (readChip.atTime 0).moveHeld.decide' aRead)).symm.trans (by rw [hv])
  have hturn : (readChip.atTime 0).turn aRead = true := by decide +kernel
  have hsplit : (readChip.atTime 0).moveHeld.splitShort ((readChip.atTime 0).moveHeld.clearsOf aRead) = false := by decide +kernel
  have hsb := Completes.keeps_sb (hadmit b items work ra units members _ rfl rfl hturn (.inr rfl) hd hsplit)
    (exec_admission _ _ _) (fun c ⟨_, _, hk⟩ => hk) (by decide)
  exact absurd hsb (by decide +kernel)
end

section
/-! Refutation by what an operation was charged: a suspend that takes effect returns it to the budget of its die (R51, R188), and the statement
keeps it with the operation. -/
namespace Sys2Proof.Machine

/-- The chip in which a step of one row ends, where it ends in one. -/
def endOf (i : Instr) (s : State) : Option Chip :=
  match exec i s with
  | .next r => some r.chip
  | _ => none

/-- What a completed command leaves of something is what its row, evaluated, leaves of it. -/
theorem Completes.value {α : Type} {i : Instr} {s : State} {P : Chip → Prop} (h : Completes i s P) (g : Chip → α) {v : α} (hk : ∀ c, P c → g c = v) :
    (endOf i s).map g = some v := by
  obtain ⟨r, hr, -, hp⟩ := h
  unfold endOf
  rw [hr]
  exact congrArg some (hk _ hp)

/-- In service with the 32 dies that service takes, idle but for those given, and 32 GiB on DDR0; without a store in write-through, for the causes that
hold. -/
def restful (busy : Nat → List Op) : Chip :=
  ({ Chip.initial with
    boot := { Boot.initial with run := .ready, ddrGib := [32, 0, 0, 0] }
    un := { units := ((List.range 8).map fun k => onlineUnit (mkUnit kTGT k)) ++ (List.range 32).map fun k => onlineUnit (mkUnit kLUN k), spreads := [],
            cores := [] }
    md := { Md.initial with dies := (List.range 32).map fun l => { lun := l, planes := 4, good := 0, blocks := [], ops := busy l, temp := none, tempAge := 0,
                                                                   tempT := 0, times := [] } }
    sb := { Sbs.initial with eligible := List.range 32 } } : Chip).set E.WT_CAUSE 25

/-- An erase that has been told to suspend and was charged, and a read of class 0 that waits for it. -/
def chargedErase : Op := { waitingProgram with kind := .erase, page := [], confirmed := true, allow := 1, suspendT := some 0, charged := 5 }
def waitingRead : Op := { waitingProgram with kind := .read, cls := 0, page := [] }

/-- The first die at that erase, the others idle. -/
def erasing : Chip := restful fun l => if l = 0 then [chargedErase, waitingRead] else []

theorem erasing_calm : erasing.calm := by
  unfold Chip.calm
  decide +kernel

end Sys2Proof.Machine

open Sys2Proof Sys2Proof.Machine

/-- Refutes O41: the suspended erase is charged nothing any more. -/
theorem not_diesRunOperations : ¬ Obligations.DiesRunOperations := by
  intro h
  obtain ⟨-, hsuspend, -⟩ := h { chip := erasing, pending := [] } 0 0
    { lun := 0, planes := 4, good := 0, blocks := [], ops := [chargedErase, waitingRead], temp := none, tempAge := 0, tempT := 0, times := [] } chargedErase rfl
    erasing_calm rfl (by decide +kernel)
  have hv := Completes.value (hsuspend 0 (by decide) rfl rfl rfl (by decide)) (fun c => ((c.dieOf 0).bind Die.current).map Op.charged) fun c hc => congrArg (Option.map Op.charged) hc.1
  exact absurd hv (by decide +kernel)
end

section
/-! Refutation by what programming a page of intents wakes: the program goes to the dies, which start a waiting program, and that changes the superblocks
(R18, R192). -/
namespace Sys2Proof.Machine

/-- An erase intent of which no page is written yet. -/
def gatheredErase : Intent := { lun := 0, block := 7, planes := 1, kind := 0, seq := 0, sb := 0, written := false, ended := false }

/-- In service with that intent gathered and a program waiting in the one die. -/
def gathering : Chip := ({ asleep with md := { asleep.md with intents := [gatheredErase] } } : Chip).set E.PS_CURRENT 0

end Sys2Proof.Machine

open Sys2Proof Sys2Proof.Machine

/-- Refutes O43: the page of intents starts the waiting program, which changes the superblocks' part, not in the frame. -/
theorem not_intentsAndFencesEnd : ¬ Obligations.IntentsAndFencesEnd := by
  intro h
  obtain ⟨hpage, -⟩ := h { chip := gathering, pending := [] } 0 (by decide)
  have hfree : gathering.ringFree = true := by decide +kernel
  have hsb := Completes.keeps_sb (hpage (by decide) hfree (by decide +kernel)) (exec_eraseIntentProgrammed _ _) (fun c ⟨_, _, _, _, hk, _⟩ => hk) (by decide)
  exact absurd hsb (by decide +kernel)
end

section
/-! Refutation by a row without a live member: no page of it is read, so its check never runs (R247). -/
namespace Sys2Proof.Machine

/-- A closed superblock with a unit in row 0, whose 32 members are all void by the row's patch. -/
def voidRowSb : Sb :=
  { waitingSb with state := .closed, placed := [{ slot := 5, unit := 3 }],
                   patches := [{ row := 0, voids := List.range 32, pReloc := none, qReloc := none }] }

/-- In service and at rest, with that superblock under patrol. -/
def voidRowChip : Chip :=
  let calm := (restful fun _ => []).set E.PS_CURRENT 0
  { calm with ft := { calm.ft with map := [(3, 5)] }, sb := { calm.sb with sbs := [voidRowSb] } }

theorem voidRowChip_calm : voidRowChip.calm := by
  unfold Chip.calm
  decide +kernel

theorem voidRowChip_rowPasses : voidRowChip.rowPasses voidRowSb 0 [] := by
  intro m hm
  have hnone : liveMembers voidRowSb 0 = [] := by decide
  exact absurd (hnone ▸ hm) List.not_mem_nil

end Sys2Proof.Machine

open Sys2Proof Sys2Proof.Machine

/-- Refutes O46: the row whose members are all void is not counted as checked. -/
theorem not_patrolAndLearning : ¬ Obligations.PatrolAndLearning := by
  intro h
  obtain ⟨hpatrol, -⟩ := h { chip := voidRowChip, pending := [] } 0
  have hrow := hpatrol 0 0 voidRowSb [] [] (by decide +kernel) voidRowChip_calm (by decide +kernel) (by decide +kernel) (by decide +kernel) (by decide +kernel)
    (by decide +kernel) (fun _ hk => absurd hk List.not_mem_nil) (fun _ hk => absurd hk List.not_mem_nil) voidRowChip_rowPasses (by decide +kernel)
  have hv := Completes.value hrow (fun c => c.getAt E.ROWS_CHECKED 0) fun c hc => hc.1
  exact absurd hv (by decide +kernel)
end

section
/-! Refutation by a move whose source cannot be read: the copy of the codewords that were not rebuilt finds the source's die retired and too few others,
so the unit is lost and the move ends as it begins (R221, R224). -/
namespace Sys2Proof.Machine

/-- A closed superblock of one unit, of whose members there is only the retired die 0. -/
def stuckSource : Sb :=
  { waitingSb with idx := 1, state := .closed, placed := [{ slot := 1, unit := 3 }],
                   members := List.replicate 2 { lun := 0, block := 0, hintZone := 0, hintSlot := 0, hinted := false, reads := 0 } }

/-- In service with die 0 retired, that unit queued for reallocation and an open superblock of the refresh stream to take it; the zone of the source has no
valid level. -/
def stuckChip : Chip :=
  { asleep with
    dict := { asleep.dict with vals := [((E.ZT_ENTRIES, 536), 0)] }
    un := { asleep.un with units := [{ onlineUnit (mkUnit kLUN 0) with own := 4 }] }
    ft := { asleep.ft with map := [(3, 2 ^ 20 + 1)] }
    sb := { asleep.sb with sbs := [{ waitingSb with stream := 3, kind := .dest, rows := 0 }, stuckSource], rows := [],
                           realloc := [(3, 2 ^ 20 + 1, [(0, 0), (1, 0), (2, 0)])] } }

end Sys2Proof.Machine

open Sys2Proof Sys2Proof.Machine

/-- Refutes O44: no move of the lost unit is left. -/
theorem not_movesBegin : ¬ Obligations.MovesBegin := by
  intro h
  obtain ⟨hrealloc, -⟩ := h { chip := stuckChip, pending := [] } 0 (by decide +kernel)
  have hmove := hrealloc 3 (2 ^ 20 + 1) [(0, 0), (1, 0), (2, 0)] (by decide +kernel) (by decide +kernel) (by decide +kernel) (by decide +kernel) (by decide +kernel)
  have hv := Completes.value hmove (fun c => c.sb.held.any fun x => decide (x.unit = 3)) (v := true) fun c hc => by
    obtain ⟨⟨x, hx, hu, -⟩, -⟩ := hc
    exact List.any_eq_true.mpr ⟨x, hx, decide_eq_true hu⟩
  exact absurd hv (by decide +kernel)
end

section
/-! Refutation by the program that waits in a die: a read whose slices have come starts what waits in the dies that it touches, and with its transfer the
page of a program is folded into the accumulator of its row (R139, R240). -/
namespace Sys2Proof.Machine

/-- The read, of class 2 and promised, and the chip in which its load ends. -/
def lateRead : Cmd := { aRead with cls := 2, phase := .admitted, promisePs := 10 ^ 15 }
def lateChip : Chip := { readChip with cmds := [lateRead] }

end Sys2Proof.Machine

open Sys2Proof Sys2Proof.Machine

/-- Refutes O47: the read starts the waiting program, which changes the superblocks' part, not in the frame. -/
theorem not_mapsAreKept : ¬ Obligations.MapsAreKept := by
  intro h
  obtain ⟨-, -, -, hload, -⟩ := h { chip := lateChip, pending := [] } 0
  obtain ⟨hplaced, -⟩ := hload 1 lateRead (by decide +kernel) (by decide +kernel) (fun _ hf => absurd hf List.not_mem_nil) (by decide +kernel)
    (by decide +kernel) (by decide +kernel) (by decide +kernel) (by decide +kernel) (by decide +kernel)
  have hsb := Completes.keeps_sb (hplaced (by decide +kernel)) (exec_touchLoadComplete _ _ _) (fun c ⟨_, _, hk, _⟩ => hk) (by decide)
  exact absurd hsb (by decide +kernel)
end

section
/-! Proofs of the reads whose LBAs are at hand (R36, R41, R319). -/
namespace Sys2Proof.Machine

/-! ### A command in its turn -/

/-- An I/O command that waits for its service is served. -/
theorem Chip.ioCmd_of_waits {c : Chip} {h op : Nat} {x : Cmd} (hw : c.ioWaits h op x) (f : Chip → Cmd → Chip) : c.ioCmd h [op] f = f c x := by
  obtain ⟨hc, hadm, hop, hph, hl, hwait, hpa, -, -, hr, -⟩ := hw
  have hew : c.endWait h = c := by
    unfold Chip.endWait
    simp only [hc, hwait]
  unfold Chip.ioCmd
  simp only [hew, hc]
  exact if_pos ⟨by rw [hadm]; rfl, by rw [hop]; simp, hph, hl, by rw [hwait]; rfl, by rw [hpa]; rfl, hr⟩

theorem Chip.ioWaits_atTime {c : Chip} {h op : Nat} {x : Cmd} (hw : c.ioWaits h op x) (t : Nat) : (c.atTime t).ioWaits h op x := hw

/-- Time added for the host leaves a command waiting for its service. -/
theorem Chip.ioWaits_hostTime {c : Chip} {h op : Nat} {x : Cmd} (hw : c.ioWaits h op x) (ps : Nat) :
    ∃ e, (c.hostTime h ps).ioWaits h op { x with extraPs := e } := by
  obtain ⟨hc, hadm, hop, hph, hl, hwait, hpa, hs, hp, hr, hn⟩ := hw
  have hk := Chip.keeps_hostTime c h ps
  obtain ⟨e, he⟩ := Chip.heldUp_hostTime h c h ps x hc
  have hlk : (c.hostTime h ps).lk = c.lk := hk .lk (by decide)
  have hboot : (c.hostTime h ps).boot = c.boot := hk .boot (by decide)
  exact ⟨e, he, hadm, hop, hph, by unfold Chip.locked; rw [hlk]; exact hl, hwait, hpa, hs, hp, by unfold Chip.isReady; rw [hboot]; exact hr,
    Chip.keeps_notHeld hk (by decide) hn⟩

theorem Chip.hostRead_zero (c : Chip) (h : Nat) : c.hostRead h 0 = c := by simp [Chip.hostRead, Chip.hostTime]

/-! ### What is at hand -/

section
variable {c d : Chip} (hft : d.ft = c.ft)
include hft

theorem Chip.newest_congr (u : Nat) : d.newest u = c.newest u := by unfold Chip.newest; rw [hft]

theorem Chip.mapOf_congr (u : Nat) : d.mapOf u = c.mapOf u := by unfold Chip.mapOf; rw [hft]

theorem heldBlocks_congr (n : Ns) (r : Nat × Nat) : heldBlocks d n r = heldBlocks c n r := by
  unfold heldBlocks Chip.lbaNow
  simp only [Chip.newest_congr hft, Chip.mapOf_congr hft]

theorem Chip.ns_congr (k : Nat) : d.ns k = c.ns k := by unfold Chip.ns; rw [hft]

theorem atHand_congr (hlost : d.lost = c.lost) (hpr : d.pr = c.pr) (hp : d.get E.PAIR_STATE = c.get E.PAIR_STATE) {us : List (Nat × List Nat)} (ha : atHand c us) :
    atHand d us := by
  intro u hu
  obtain ⟨h1, h2, h3⟩ := ha u hu
  refine ⟨by unfold Chip.isLost; rw [hlost]; exact h1, ?_, ?_⟩
  · unfold Chip.throughSource
    rw [hp, hpr, Chip.newest_congr hft]
    exact h2
  · unfold Chip.sliceLoaded
    rw [Chip.newest_congr hft, Chip.mapOf_congr hft, hft]
    exact h3
end

/-! ### The read is resolved -/

/-- The command of a read with all its blocks, which are delivered next. -/
def Cmd.readNow (x : Cmd) (bs : List Blk) (ps : Nat) : Cmd := { x with phase := .working, blocks := bs, resolved := true, resolvedPs := ps }

/-- A read's blocks are all there: its range lock is released. -/
def Chip.readHeld (c : Chip) (x : Cmd) (bs : List Blk) : Chip := (c.setCmd { x with phase := .working, blocks := bs }).resolve x.h

theorem Chip.resolveRead_atHand {c : Chip} {us : List (Nat × List Nat)} (ha : atHand c us) (x : Cmd) (n : Ns) (r : Nat × Nat) :
    c.resolveRead x n r us = (c.readHeld x (heldBlocks c n r)).endRead x.h := by
  have hlate : us.filter (fun u => (c.newest u.1).isNone && !c.sliceLoaded u.1) = [] := List.filter_eq_nil_iff.2 fun u hu => by
    obtain ⟨-, -, h | ⟨h, -⟩⟩ := ha u hu
    · cases hx : c.newest u.1 <;> simp_all
    · simp [h]
  have hlost : (us.any fun u => c.isLost u.1) = false := List.any_eq_false.2 fun u hu => by simp [(ha u hu).1]
  have hremote : us.filter (fun u => c.throughSource u.1) = [] := List.filter_eq_nil_iff.2 fun u hu => by simp [(ha u hu).2.1]
  have hflash : us.filter (fun u => !c.throughSource u.1 && (c.newest u.1).isNone && onFlash (c.mapOf u.1)) = [] := List.filter_eq_nil_iff.2 fun u hu => by
    obtain ⟨-, -, h | ⟨-, h⟩⟩ := ha u hu
    · cases hx : c.newest u.1 <;> simp_all
    · simp [h]
  unfold Chip.resolveRead
  simp only [hlate, hlost, hremote, hflash]
  rfl

theorem Chip.readHeld_frame {c : Chip} {x y : Cmd} (hc : c.cmd x.h = some y) (bs : List Blk) :
    (c.readHeld x bs).cmd x.h = some (x.readNow bs c.nowPs) ∧ (c.readHeld x bs).lk = c.lk.release x.h
    ∧ c.keeps (c.readHeld x bs) [.cmds, .lk] := by
  have h1 : (c.setCmd { x with phase := .working, blocks := bs }).cmd x.h = some { x with phase := .working, blocks := bs } :=
    Chip.cmd_setCmd_same (x := { x with phase := .working, blocks := bs }) hc
  have he : c.readHeld x bs = ((c.setCmd { x with phase := .working, blocks := bs }).setCmd (x.readNow bs c.nowPs)).unlock x.h := by
    unfold Chip.readHeld Chip.resolve
    rw [h1]
    rfl
  rw [he]
  exact ⟨Chip.cmd_setCmd_same (x := x.readNow bs c.nowPs) h1, rfl,
    (Chip.keeps_unlock_iff (by decide) _).2 ((Chip.keeps_setCmd_iff (by decide) _).2 ((Chip.keeps_setCmd_iff (by decide) _).2 (Chip.keeps_refl _ _)))⟩

/-! ### The read ends -/

theorem map_getD_zip_range {α β : Type} (ls : List α) (bs : List β) (d : β) (hl : bs.length = ls.length) :
    ((ls.zip (List.range ls.length)).map fun p => bs.getD p.2 d) = bs := by
  refine List.ext_getElem (by simp [hl]) fun i h1 h2 => ?_
  simp [h2]

/-- Without reads of its own a command has gathered the blocks that it holds. -/
theorem Chip.gathered_held {c b : Chip} {x : Cmd} {n : Ns} {r : Nat × Nat} (hf : ∀ k ∈ c.rd.tasks, k.h ≠ x.h) (hb : x.blocks = heldBlocks b n r) :
    c.gathered x n r = heldBlocks b n r := by
  have hw : ∀ u, c.wordsOf x.h u = [] := fun u => by
    unfold Chip.wordsOf
    rw [List.filter_eq_nil_iff.2 fun k hk => by simp [hf k hk]]
    rfl
  unfold Chip.gathered
  simp only [hw, if_true]
  rw [hb]
  exact map_getD_zip_range _ _ _ (by simp [heldBlocks])

section
variable {c : Chip} {h : Nat} {x : Cmd} {n : Ns} (hc : c.cmd h = some x) (hp : x.paused = none) (hn : c.ns x.nsid = some n)
include hc hp hn

theorem Chip.endRead_compare (ho : x.opcode = 0x05) :
    c.endRead h = (c.dropReads h).finish h (if c.gathered x n (x.slba, x.nlb) = x.host then stOk else stCompare) 0 0 := by
  unfold Chip.endRead
  simp only [hc, hp, hn, ho]
  rfl

theorem Chip.endRead_verify (ho : x.opcode = 0x0C) : c.endRead h = (c.dropReads h).finish h stOk 0 0 := by
  unfold Chip.endRead
  simp only [hc, hp, hn, ho]
  rfl

/-- The blocks of a Read are delivered, and counted. -/
theorem Chip.endRead_read (ho : x.opcode = 0x02) :
    ∃ d, c.endRead h = (d.emit (.data h (c.gathered x n (x.slba, x.nlb)))).finish h stOk 0 0 ∧ c.keeps d [.rd, .lg, .dict] ∧ c.keepsEntries d [E.HOST_UNITS_READ] := by
  have hk := Chip.keeps_dropReads c h
  unfold Chip.endRead
  simp only [hc, hp, hn, ho]
  refine ⟨_, rfl, (Chip.keeps_countAt_iff (by decide) _ _ _).2 ((Chip.keeps_with_lg (by decide) _).2 (Chip.keeps_mono hk (by decide))), ?_⟩
  refine (Chip.keepsEntries_countAt_iff (by decide) ..).2 (Chip.keepsEntries_of_keeps (l := [.rd, .lg]) ?_ (by decide) _)
  exact (Chip.keeps_with_lg (by decide) _).2 (Chip.keeps_mono hk (by decide))
end

/-- A segment is delivered to host memory: its octets where there are any, and its count. -/
theorem Chip.endRead_segment {c : Chip} {h : Nat} {x : Cmd} {n : Ns} {e : SbEntry} (hc : c.cmd h = some x) (hp : x.paused = none) (ho : x.opcode = 0x82)
    (he : x.seg = some e) (hn : c.ns e.nsid = some n) (hpass : x.segPasser = false) :
    ∃ d, c.endRead h = d.finish h stOk (x.delivered e) (e.gen + at' e.flags 20)
      ∧ (x.delivered e ≠ 0 → ∃ v, .data h [{ data := v, info := x.delivered e }] ∈ d.out) ∧ c.keeps d [.rd, .wins, .dict]
      ∧ c.keepsEntries d [E.HOST_UNITS_READ, E.SB_CLIPPED, E.SB_SEG_READS] := by
  have hh : x.h = h := Chip.cmd_h hc
  unfold Chip.endRead
  simp only [hc, hp, ho, he, hn]
  unfold Chip.deliverSegment
  extract_lets r d bytes cut clipped dw1 p w it c1 bytes' c2
  have h0 : c.keeps clipped [.dict] ∧ c.keepsEntries clipped [E.HOST_UNITS_READ, E.SB_CLIPPED, E.SB_SEG_READS] := by
    unfold clipped
    split <;> simp
  have h2 : c.keeps c2 [.dict] ∧ c.keepsEntries c2 [E.HOST_UNITS_READ, E.SB_CLIPPED, E.SB_SEG_READS] := by
    unfold c2
    split
    · exact h0
    · exact ⟨(Chip.keeps_emit_iff _).2 h0.1, (Chip.keepsEntries_emit_iff _).2 h0.2⟩
  have h3 : c2.keeps ((c2.dropReads h).dropTasks h) [.rd, .wins] :=
    (Chip.keeps_dropTasks_iff (by decide) (by decide) _).2 (Chip.keeps_mono (Chip.keeps_dropReads _ _) (by decide))
  rw [hh, hpass]
  refine ⟨(((c2.dropReads h).dropTasks h).count E.SB_SEG_READS 1), rfl, fun hd => ⟨cut, ?_⟩, ?_, ?_⟩
  · have hm : .data h [{ data := cut, info := d }] ∈ c2.out := by
      unfold c2
      rw [if_neg hd, hh]
      exact Chip.mem_out_emit _ _
    rw [Chip.countAt_out]
    exact hm
  · exact (Chip.keeps_countAt_iff (by decide) _ _ _).2 (Chip.keeps_mono (Chip.keeps_trans h2.1 h3) (by decide))
  · exact (Chip.keepsEntries_countAt_iff (by decide) ..).2 (Chip.keepsEntries_mono (Chip.keepsEntries_trans h2.2 (Chip.keepsEntries_of_keeps h3 (by decide) [])) (by decide))

theorem Chip.noLock_of_release {c d : Chip} {h : Nat} (hl : d.lk = c.lk.release h) : d.noLock h := by
  intro l hm he
  rw [hl] at hm
  simp [Lk.release, drop', he] at hm

/-- The command x waits in the chip as z, its lock released and the blocks of the chip before gathered. -/
def Chip.readEnds (c d : Chip) (x z : Cmd) (n : Ns) (host : List Blk) : Prop :=
  d.cmd x.h = some z ∧ z.opcode = x.opcode ∧ z.paused = x.paused ∧ z.silent = x.silent ∧ z.posted = x.posted ∧ d.ns z.nsid = some n ∧ z.host = host
    ∧ d.gathered z n (z.slba, z.nlb) = heldBlocks c n (x.slba, x.nlb) ∧ d.lk = c.lk.release x.h

/-- The read rows: with its LBAs at hand a command holds its blocks, without its lock, and ends. -/
theorem Chip.readCmd_atHand {c : Chip} {op latNs : Nat} {x : Cmd} {n : Ns} (hw : c.ioWaits x.h op x) (hn : c.ns x.nsid = some n)
    (ha : atHand c (Chip.unitCws n (x.slba, x.nlb))) (hf : ∀ k ∈ c.rd.tasks, k.h ≠ x.h) (host : List Blk) :
    ∃ d z, c.readCmd x.h op latNs host = d.endRead x.h ∧ c.readEnds d x z n host
      ∧ c.keeps d [.cmds, .lk, .dict] ∧ (c.hostRead x.h latNs).keepsEntries d [] := by
  obtain ⟨e, hw1⟩ := Chip.ioWaits_hostTime hw ((latNs - c.get E.HOST_LAT_LIMIT) * 1000)
  have hk : c.keeps (c.hostRead x.h latNs) [.cmds, .dict] := Chip.keeps_hostTime _ _ _
  have hke : c.keepsEntries (c.hostRead x.h latNs) [E.HOST_DELAY] := Chip.keepsEntries_hostTime _ _ _
  have hft := hk .ft (by decide)
  have ha1 := atHand_congr hft (hk .lost (by decide)) (hk .pr (by decide)) (hke E.PAIR_STATE 0 (by decide) (by decide)) ha
  have hc1 : (c.hostRead x.h latNs).cmd x.h = some { x with extraPs := e } := hw1.1
  obtain ⟨g1, g2, g3⟩ := Chip.readHeld_frame (c := c.hostRead x.h latNs) (x := { x with extraPs := e, host := host }) hc1 (heldBlocks c n (x.slba, x.nlb))
  have hkd := Chip.keeps_trans hk g3
  have hrd := hkd .rd (by decide)
  refine ⟨_, _, ?_, ⟨g1, rfl, rfl, rfl, rfl, (Chip.ns_congr (hkd .ft (by decide)) _).trans hn, rfl, Chip.gathered_held ?_ rfl, ?_⟩,
    Chip.keeps_mono hkd (by decide), Chip.keepsEntries_of_keeps g3 (by decide) _⟩
  · unfold Chip.readCmd
    rw [Chip.ioCmd_of_waits hw, Chip.ioCmd_of_waits (show (c.hostRead x.h latNs).ioWaits x.h op _ from hw1)]
    simp only [Chip.ns_congr hft, hn]
    exact (Chip.resolveRead_atHand ha1 _ n (x.slba, x.nlb)).trans (by rw [heldBlocks_congr hft])
  · rw [hrd]
    exact hf
  · exact g2.trans (by rw [hk .lk (by decide)])

/-- A read row that ends its command keeps what the end keeps. -/
theorem Completes.of_readEnd {i : Instr} {s : State} {t h status dw0 dw1 : Nat} {P : Chip → Prop} {f : Chip → Chip} {d : Chip} {z : Cmd} {es : List Nat}
    {m : List Area} (he : exec i s = run s t f) (hf : f (s.chip.atTime t) = d.finish h status dw0 dw1) (hz : d.cmd h = some z) (hs : z.silent = false)
    (hp : z.posted = false) (hn : s.chip.notHeld h) (hl : d.lk = s.chip.lk.release h) (hk : (s.chip.atTime t).keeps d m)
    (hm : ∀ p ∈ m, p ∈ [.lk, .rd, .wins] ++ notePart) (hke : (s.chip.atTime t).keepsEntries d es) (hfn : .fns ∉ m)
    (hP : ∀ c : Chip, c.answered h status dw0 dw1 → c.noLock h → s.chip.keeps c (m ++ notePart) → s.chip.keepsEntries c es → (∀ o ∈ d.out, o ∈ c.out) → P c) :
    Completes i s P := by
  refine Completes.of_run he ?_
  rw [hf]
  refine hP _ (Chip.answered_finish_of hz hs hp (Chip.keeps_notHeld hk hfn hn) _ _ _ _) (Chip.noLock_of_release (c := s.chip) ?_) (Chip.keeps_ended t ?_ ?_ ?_)
    (Chip.keepsEntries_end t ((Chip.keepsEntries_finish_iff _ _ _ _).2 hke)) fun o ho => Chip.mem_out_end (by rw [Chip.finish_out]; exact ho)
  · rw [Chip.seal_lk, Chip.notices_lk, Chip.finish_lk, hl]
  · exact (Chip.keeps_finish_iff (by simp) (by simp) _ _ _ _).2 (Chip.keeps_mono hk fun _ hp => List.mem_append_left _ hp)
  · intro hm'
    rcases List.mem_append.1 hm' with h1 | h1
    · exact absurd (hm _ h1) (by decide)
    · exact absurd h1 (by decide)
  · exact fun p hp => List.mem_append_right _ hp

end Sys2Proof.Machine

open Sys2Proof Sys2Proof.Machine

/-- Settles O22: the blocks are at hand, so the command is resolved and ends in the same step. -/
theorem readsDeliver : Obligations.ReadsDeliver := by
  intro s t h x n hfresh
  refine ⟨fun hw hn ha => ?_, fun latNs blocks hw hn ha => ?_, fun hw hn ha => ?_, fun e hw he hn hpass ha => ?_⟩ <;> obtain rfl : x.h = h := Chip.cmd_h hw.1
  · obtain ⟨d, z, g1, ⟨hz, hzo, hzp, hzs, hzd, hzn, -, hg, hlk⟩, g4, g5⟩ := Chip.readCmd_atHand (latNs := 0) (Chip.ioWaits_atTime hw t) hn ha hfresh []
    obtain ⟨hc, hadm, hop, hph, hl, hwait, hpa, hs, hp, hr, hnh⟩ := hw
    rw [Chip.hostRead_zero] at g5
    obtain ⟨d', k1, k2, k3⟩ := Chip.endRead_read hz (hzp.trans hpa) hzn (hzo.trans hop)
    rw [hg] at k1
    refine Completes.of_readEnd (exec_read s t x.h) (g1.trans k1) ((Chip.cmd_emit ..).trans ((Chip.keeps_cmd k2 (by decide) _).trans hz)) (hzs.trans hs)
      (hzd.trans hp) hnh ((k2 .lk (by decide)).trans hlk) ((Chip.keeps_emit_iff _).2 (Chip.keeps_trans g4 k2)) (by decide)
      ((Chip.keepsEntries_emit_iff _).2 (Chip.keepsEntries_trans g5 k3)) (by decide) ?_
    exact fun c h1 h2 h3 h4 h5 => ⟨h1, h5 _ (Chip.mem_out_emit _ _), h2, Chip.keeps_mono h3 (by decide), h4⟩
  · obtain ⟨d, z, g1, ⟨hz, hzo, hzp, hzs, hzd, hzn, hzh, hg, hlk⟩, g4, g5⟩ := Chip.readCmd_atHand (latNs := latNs) (Chip.ioWaits_atTime hw t) hn ha hfresh blocks
    obtain ⟨hc, hadm, hop, hph, hl, hwait, hpa, hs, hp, hr, hnh⟩ := hw
    have hk := Chip.keeps_dropReads d x.h
    have hke := Chip.keepsEntries_trans (Chip.keepsEntries_hostTime (s.chip.atTime t) x.h ((latNs - s.chip.get E.HOST_LAT_LIMIT) * 1000))
      (Chip.keepsEntries_trans g5 (Chip.keepsEntries_of_keeps hk (by decide) []))
    have he := Chip.endRead_compare hz (hzp.trans hpa) hzn (hzo.trans hop)
    rw [hg, hzh] at he
    exact Completes.of_readEnd (exec_compare s t ⟨x.h, latNs⟩ blocks) (g1.trans he) ((Chip.keeps_cmd hk (by decide) _).trans hz) (hzs.trans hs) (hzd.trans hp)
      hnh ((hk .lk (by decide)).trans hlk) (Chip.keeps_trans g4 hk) (by decide) hke (by decide)
      fun c h1 h2 h3 h4 _ => ⟨h1, h2, Chip.keeps_mono h3 (by decide), h4⟩
  · obtain ⟨d, z, g1, ⟨hz, hzo, hzp, hzs, hzd, hzn, -, hg, hlk⟩, g4, g5⟩ := Chip.readCmd_atHand (latNs := 0) (Chip.ioWaits_atTime hw t) hn ha hfresh []
    obtain ⟨hc, hadm, hop, hph, hl, hwait, hpa, hs, hp, hr, hnh⟩ := hw
    rw [Chip.hostRead_zero] at g5
    have hk := Chip.keeps_dropReads d x.h
    exact Completes.of_readEnd (exec_verify s t x.h) (g1.trans (Chip.endRead_verify hz (hzp.trans hpa) hzn (hzo.trans hop)))
      ((Chip.keeps_cmd hk (by decide) _).trans hz) (hzs.trans hs) (hzd.trans hp) hnh ((hk .lk (by decide)).trans hlk) (Chip.keeps_trans g4 hk) (by decide)
      (Chip.keepsEntries_trans g5 (Chip.keepsEntries_of_keeps hk (by decide) [])) (by decide) fun c h1 h2 h3 h4 _ => ⟨h1, h2, Chip.keeps_mono h3 (by decide), h4⟩
  · obtain ⟨hc, hadm, hop, hph, hl, hwait, hpa, hs, hp, hr, hnh⟩ := id hw
    obtain ⟨g1, g2, g3⟩ := Chip.readHeld_frame (c := s.chip.atTime t) (x := x) hc (heldBlocks s.chip n (s.chip.segLbas x e))
    obtain ⟨d, k1, k2, k3, k4⟩ := Chip.endRead_segment (n := n) (e := e) g1 hpa hop he ((Chip.ns_congr (g3 .ft (by decide)) _).trans hn) hpass
    have hkd := Chip.keeps_trans g3 k3
    refine Completes.of_readEnd (exec_segmentRead s t x.h) (d := d) (status := stOk) (dw0 := x.delivered e) (dw1 := e.gen + at' e.flags 20) ?_ ((Chip.keeps_cmd k3 (by decide) _).trans g1) hs hp hnh ((k3 .lk (by decide)).trans g2) hkd
      (by decide) (Chip.keepsEntries_trans (Chip.keepsEntries_of_keeps g3 (by decide) []) k4) (by decide) ?_
    · rw [Chip.ioCmd_of_waits (Chip.ioWaits_atTime hw t)]
      simp only [he, show (s.chip.atTime t).ns e.nsid = some n from hn]
      exact (Chip.resolveRead_atHand (c := s.chip.atTime t) ha x n (s.chip.segLbas x e)).trans k1
    · intro c h1 h2 h3 h4 h5
      exact ⟨h1, h2, fun hd => (k2 hd).imp fun v hv => h5 _ hv, Chip.keeps_mono h3 (by decide), h4⟩
end

section
/-! Proofs of what writes, catalogue commands and Flush do when they are served (R41, R142, R159, R160, R315, R316, R318). -/
namespace Sys2Proof.Machine

theorem Chip.ioWaits_notHeld {c : Chip} {h op : Nat} {x : Cmd} (hw : c.ioWaits h op x) : c.notHeld h := by
  obtain ⟨-, -, -, -, -, -, -, -, -, -, hn⟩ := hw
  exact hn

/-- A row that leaves a command in the controller. -/
theorem Completes.of_cmd {i : Instr} {s : State} {t h : Nat} {P : Chip → Prop} {f : Chip → Chip} {d : Chip} {y : Cmd} {es : List Nat} {m : List Area}
    (he : exec i s = run s t f) (hf : f (s.chip.atTime t) = d) (hy : d.cmd h = some y) (hn : s.chip.notHeld h) (hk : (s.chip.atTime t).keeps d m)
    (hfn : .fns ∉ m) (hfuse : .fuse ∉ m) (hke : (s.chip.atTime t).keepsEntries d es)
    (hP : ∀ c : Chip, c.cmd h = some y → c.ft = d.ft → s.chip.keeps c (m ++ notePart) → s.chip.keepsEntries c es → P c) : Completes i s P := by
  refine Completes.of_run he ?_
  rw [hf]
  refine hP _ ?_ (by simp) (Chip.keeps_ended t (Chip.keeps_mono hk fun p hp => List.mem_append_left _ hp) ?_ fun p hp => List.mem_append_right _ hp)
    (Chip.keepsEntries_end t hke)
  · rw [Chip.cmd_seal, Chip.cmd_notices _ (Chip.keeps_notHeld hk hfn hn), hy]
  · exact fun hm => (List.mem_append.1 hm).elim hfuse (by decide)

/-- A row that ends a command. -/
theorem Completes.of_end {i : Instr} {s : State} {t h status dw0 dw1 : Nat} {P : Chip → Prop} {f : Chip → Chip} {d : Chip} {y : Cmd}
    (he : exec i s = run s t f) (hf : f (s.chip.atTime t) = d.finish h status dw0 dw1) (hy : d.cmd h = some y) (hs : y.silent = false) (hp : y.posted = false)
    (hn : s.chip.notHeld h) (hk : (s.chip.atTime t).keeps d []) (hP : ∀ c : Chip, c.answered h status dw0 dw1 → s.chip.keeps c notePart →
      s.chip.keepsEntries c [] → (∀ o ∈ d.out, o ∈ c.out) → P c) : Completes i s P := by
  refine Completes.of_run he ?_
  rw [hf]
  refine hP _ (Chip.answered_finish_of hy hs hp (Chip.keeps_notHeld hk (by decide) hn) _ _ _ _) (Chip.keeps_ended t ?_ (by decide) (by decide))
    (Chip.keepsEntries_end t ((Chip.keepsEntries_finish_iff _ _ _ _).2 (Chip.keepsEntries_of_keeps hk (by decide) []))) fun o ho => Chip.mem_out_end ?_
  · exact (Chip.keeps_finish_iff (by decide) (by decide) _ _ _ _).2 (Chip.keeps_mono hk (by decide))
  · rw [Chip.finish_out]
    exact ho

/-- A row that puts a command to work. -/
theorem Completes.of_ready {i : Instr} {s : State} {t h op : Nat} {x : Cmd} (he : exec i s = run s t fun c => c.ready h op) (hw : s.chip.ioWaits h op x) :
    Completes i s fun c => c.cmd h = some { x with phase := .working } ∧ s.chip.keeps c notePart ∧ s.chip.keepsEntries c [] := by
  obtain rfl : x.h = h := Chip.cmd_h hw.1
  obtain ⟨hc, -, -, -, -, -, -, -, -, -, hn⟩ := id hw
  refine Completes.of_cmd he (Chip.ioCmd_of_waits (Chip.ioWaits_atTime hw t) _) (Chip.cmd_setCmd_same (x := { x with phase := .working }) hc) hn
    (Chip.keeps_setCmd _ _) (by decide) (by decide) (Chip.keepsEntries_of_keeps (Chip.keeps_setCmd _ _) (by decide) []) ?_
  exact fun c h1 _ h3 h4 => ⟨h1, Chip.keeps_mono h3 (by decide), h4⟩

/-- The octets of an entry that is not pending, as Look delivers them. -/
theorem SbEntry.word_kept (e : SbEntry) :
    e.word false = e.key + at' e.nsid 128 + at' e.slba 144 + at' e.length 192 + at' e.gen 232 + at' 1 252 + at' e.flags 253 := by
  unfold SbEntry.word
  rw [if_neg (by decide), Nat.add_zero]

/-! ### The data of a write -/

theorem Chip.touchSlice_frame (c : Chip) (u : Nat) :
    (c.touchSlice u).ft.slots = c.ft.slots ∧ c.keeps (c.touchSlice u) [.ft, .dict] ∧ c.keepsEntries (c.touchSlice u) [E.SLICE_LOADS_ON_TOUCH] := by
  unfold Chip.touchSlice
  extract_lets k was l src c1
  have h1 : c.keeps c1 [.ft] := (Chip.keeps_with_ft (by decide) _).2 (Chip.keeps_refl _ _)
  split
  · exact ⟨rfl, Chip.keeps_refl _ _, Chip.keepsEntries_refl _ _⟩
  · split
    · exact ⟨rfl, Chip.keeps_mono h1 (by decide), Chip.keepsEntries_of_keeps h1 (by decide) _⟩
    · exact ⟨by rw [Chip.countAt_ft], (Chip.keeps_countAt_iff (by decide) _ _ _).2 (Chip.keeps_mono h1 (by decide)),
        (Chip.keepsEntries_countAt_iff (by decide) ..).2 (Chip.keepsEntries_of_keeps h1 (by decide) _)⟩

theorem Chip.touchSlices_frame (c : Chip) (us : List Nat) :
    (c.each us Chip.touchSlice).ft.slots = c.ft.slots ∧ c.keeps (c.each us Chip.touchSlice) [.ft, .dict]
    ∧ c.keepsEntries (c.each us Chip.touchSlice) [E.SLICE_LOADS_ON_TOUCH] := by
  refine ⟨?_, Chip.keeps_each (fun d u => (d.touchSlice_frame u).2.1) us c, Chip.keepsEntries_each (fun d u => (d.touchSlice_frame u).2.2) us c⟩
  exact Chip.each_frame (fun a b => b.ft.slots = a.ft.slots) (fun _ => rfl) (fun _ _ _ h1 h2 => h2.trans h1) _ (fun d u => (d.touchSlice_frame u).1) us c

/-- The unit and the command of a Crucible slot. -/
def Slot.taken (l : Slot) : Nat × Nat := (l.unit, l.h)

/-- A whole unit of a write takes one slot. -/
theorem Chip.takeUnit_whole {c : Chip} {x y : Cmd} (hc : c.cmd x.h = some y) (n : Ns) (host : Nat → Blk) {u : Nat × Nat × Nat} (hu : u.2.2 = lbasPerUnit n.lbaf)
    (g : Nat) : (c.takeUnit x n host u g).cmd x.h = some { y with slots := y.slots ++ [c.ft.nextSlot + 1] }
      ∧ (c.takeUnit x n host u g).ft.slots.map Slot.taken = c.ft.slots.map Slot.taken ++ [(g, x.h)] ∧ c.keeps (c.takeUnit x n host u g) [.ft, .cmds] := by
  have hh : y.h = x.h := Chip.cmd_h hc
  unfold Chip.takeUnit
  extract_lets k bs c1 c2 cws
  rw [if_pos (.inl hu)]
  have h1 : c1.cmd x.h = some y := (Chip.cmd_congr (c' := c1) (c := c) rfl _).trans hc
  have hk : c.keeps c1 [.ft] := (Chip.keeps_with_ft (by decide) _).2 (Chip.keeps_refl _ _)
  have h2 : c2 = c1.setCmd { y with slots := y.slots ++ [c.ft.nextSlot + 1] } := by
    unfold c2
    simp only [h1]
    rfl
  rw [h2]
  refine ⟨?_, ?_, (Chip.keeps_setCmd_iff (by decide) _).2 (Chip.keeps_mono hk (by decide))⟩
  · rw [← hh] at h1 ⊢
    exact Chip.cmd_setCmd_same (x := { y with slots := y.slots ++ [c.ft.nextSlot + 1] }) h1
  · rw [Chip.setCmd_ft]
    simp [c1, Chip.takeSlot, Slot.taken]

/-- The chip with a slot for each of the units of a write. -/
def Chip.takeUnits (c : Chip) (x : Cmd) (n : Ns) (host : Nat → Blk) (us : List (Nat × Nat × Nat)) : Chip :=
  c.each us fun c u => match n.globalUnit u.1 with
    | none => c
    | some g => c.takeUnit x n host u g

theorem Chip.takeUnits_whole (x : Cmd) (n : Ns) (host : Nat → Blk) {us : List (Nat × Nat × Nat)} (hu : ∀ u ∈ us, u.2.2 = lbasPerUnit n.lbaf) {c : Chip} {y : Cmd}
    (hc : c.cmd x.h = some y) : (∃ l, (c.takeUnits x n host us).cmd x.h = some { y with slots := l })
      ∧ (c.takeUnits x n host us).ft.slots.map Slot.taken = c.ft.slots.map Slot.taken ++ us.filterMap (fun u => (n.globalUnit u.1).map fun g => (g, x.h))
      ∧ c.keeps (c.takeUnits x n host us) [.ft, .cmds] := by
  induction us generalizing c y with
  | nil => exact ⟨⟨y.slots, hc⟩, by simp [Chip.takeUnits, Chip.each], Chip.keeps_refl _ _⟩
  | cons u us ih =>
    have hus : ∀ v ∈ us, v.2.2 = lbasPerUnit n.lbaf := fun v hv => hu v (List.mem_cons_of_mem _ hv)
    cases hg : n.globalUnit u.1 with
    | none =>
      have hd : c.takeUnits x n host (u :: us) = c.takeUnits x n host us := by simp [Chip.takeUnits, Chip.each, hg]
      rw [hd, List.filterMap_cons_none (by rw [hg]; rfl)]
      exact ih hus hc
    | some g =>
      have hd : c.takeUnits x n host (u :: us) = (c.takeUnit x n host u g).takeUnits x n host us := by simp [Chip.takeUnits, Chip.each, hg]
      obtain ⟨g1, g2, g3⟩ := Chip.takeUnit_whole hc n host (hu u (List.mem_cons_self ..)) g
      obtain ⟨k1, k2, k3⟩ := ih hus g1
      rw [hd, List.filterMap_cons_some (by rw [hg]; rfl)]
      exact ⟨k1, by rw [k2, g2]; simp, Chip.keeps_mono (Chip.keeps_trans g3 k3) (by decide)⟩

/-- The command of a write at work, with the slots that it holds. -/
def Cmd.atWork (x : Cmd) (l : List Nat) : Cmd := { x with phase := .working, credits := 0, slots := l }
def Cmd.unpowered (x : Cmd) : Cmd := { x with energy := 0 }

/-- A write whose slices are touched, with a slot for each of its units. -/
def Chip.slotted (c : Chip) (x : Cmd) (n : Ns) (us : List (Nat × Nat × Nat)) (host : Nat → Blk) : Chip :=
  ((c.each (us.filterMap fun u => n.globalUnit u.1) Chip.touchSlice).setCmd (x.atWork [])).takeUnits x n host us

theorem Chip.takeData_eq (c : Chip) (x : Cmd) {n : Ns} (host : Nat → Blk) {us : List (Nat × Nat × Nat)} (hu : ∀ u ∈ us, u.2.2 = lbasPerUnit n.lbaf) :
    c.takeData x n us host = match (c.slotted x n us host).cmd x.h with
      | none => c.slotted x n us host
      | some y => (c.slotted x n us host).setCmd y.unpowered := by
  have hpart : us.filter (fun u => decide (u.2.2 < lbasPerUnit n.lbaf)) = [] := List.filter_eq_nil_iff.2 fun u hm => by simp [hu u hm]
  unfold Chip.takeData
  rw [hpart]
  rfl

/-- The data of whole units: a slot for each, and the command at work. -/
theorem Chip.takeData_whole {c : Chip} {x y : Cmd} (hc : c.cmd x.h = some y) (n : Ns) (host : Nat → Blk) {us : List (Nat × Nat × Nat)}
    (hu : ∀ u ∈ us, u.2.2 = lbasPerUnit n.lbaf) :
    (∃ l, (c.takeData x n us host).cmd x.h = some (x.atWork l).unpowered)
      ∧ (c.takeData x n us host).ft.slots.map Slot.taken = c.ft.slots.map Slot.taken ++ us.filterMap (fun u => (n.globalUnit u.1).map fun g => (g, x.h))
      ∧ c.keeps (c.takeData x n us host) [.ft, .cmds, .dict] ∧ c.keepsEntries (c.takeData x n us host) [E.SLICE_LOADS_ON_TOUCH] := by
  obtain ⟨t1, t2, t3⟩ := c.touchSlices_frame (us.filterMap fun u => n.globalUnit u.1)
  have hc1 := (Chip.keeps_cmd t2 (by decide) x.h).trans hc
  have hs := Chip.cmd_setCmd_same (x := x.atWork []) hc1
  have hk1 := Chip.keeps_setCmd (c.each (us.filterMap fun u => n.globalUnit u.1) Chip.touchSlice) (x.atWork [])
  obtain ⟨⟨l, k1⟩, k2, k3⟩ := Chip.takeUnits_whole x n host hu hs
  have he : c.takeData x n us host = (c.slotted x n us host).setCmd (x.atWork l).unpowered := by
    rw [Chip.takeData_eq c x host hu, show (c.slotted x n us host).cmd x.h = some (x.atWork l) from k1]
  have hk2 : c.keeps (c.slotted x n us host) [.ft, .cmds, .dict] := Chip.keeps_mono (Chip.keeps_trans (Chip.keeps_trans t2 hk1) k3) (by decide)
  rw [he]
  refine ⟨⟨l, Chip.cmd_setCmd_same (x := (x.atWork l).unpowered) k1⟩, ?_, (Chip.keeps_setCmd_iff (by decide) _).2 hk2, (Chip.keepsEntries_setCmd_iff _).2 ?_⟩
  · rw [Chip.setCmd_ft]
    exact k2.trans (by rw [Chip.setCmd_ft, t1])
  · exact Chip.keepsEntries_mono (Chip.keepsEntries_trans t3 (Chip.keepsEntries_of_keeps (Chip.keeps_trans hk1 k3) (by decide) [])) (by decide)

/-- A write of no data: the command is at work without a slot. -/
theorem Chip.takeData_nil {c : Chip} {x y : Cmd} (hc : c.cmd x.h = some y) (n : Ns) (host : Nat → Blk) :
    (c.takeData x n [] host).cmd x.h = some (x.atWork []).unpowered ∧ c.keeps (c.takeData x n [] host) [.cmds] := by
  have hs := Chip.cmd_setCmd_same (x := x.atWork []) hc
  have he : c.takeData x n [] host = (c.setCmd (x.atWork [])).setCmd (x.atWork []).unpowered := by
    rw [Chip.takeData_eq c x host (fun u hu => absurd hu List.not_mem_nil), show (c.slotted x n [] host).cmd x.h = some (x.atWork []) from hs]
    rfl
  rw [he]
  exact ⟨Chip.cmd_setCmd_same (x := (x.atWork []).unpowered) hs, by simp⟩

end Sys2Proof.Machine

open Sys2Proof Sys2Proof.Machine

/-- Settles O23: what each command leaves, by the rule of its row. -/
theorem writesAreTaken : Obligations.WritesAreTaken := by
  intro s t h x
  refine ⟨fun n latNs blocks hw hn hu => ?_, fun n hw hn hp => ?_, Completes.of_ready (exec_datasetManagement s t h), Completes.of_ready (exec_scorebookPut s t h),
    Completes.of_ready (exec_scorebookDrop s t h), fun e hw hk => ?_, fun hc hadm hop hph hs hp hn => ?_⟩
  · obtain rfl : x.h = h := Chip.cmd_h hw.1
    obtain ⟨e, hw1⟩ := Chip.ioWaits_hostTime (Chip.ioWaits_atTime hw t) ((latNs - s.chip.get E.HOST_LAT_LIMIT) * 1000)
    have hk := Chip.keeps_hostTime (s.chip.atTime t) x.h ((latNs - s.chip.get E.HOST_LAT_LIMIT) * 1000)
    have hke := Chip.keepsEntries_hostTime (s.chip.atTime t) x.h ((latNs - s.chip.get E.HOST_LAT_LIMIT) * 1000)
    obtain ⟨⟨l, g1⟩, g2, g3, g4⟩ := Chip.takeData_whole (x := { x with extraPs := e, host := blocks }) hw1.1 n (fun lba => blocks.getD (lba - x.slba) { data := 0, info := 0 }) hu
    refine Completes.of_cmd (exec_write s t ⟨x.h, latNs⟩ blocks) (h := x.h) ?_ g1 (Chip.ioWaits_notHeld hw) (Chip.keeps_trans hk g3) (by decide) (by decide)
      (Chip.keepsEntries_trans hke g4) ?_
    · dsimp only
      rw [Chip.ioCmd_of_waits (Chip.ioWaits_atTime hw t), Chip.ioCmd_of_waits (show ((s.chip.atTime t).hostRead x.h latNs).ioWaits x.h _ _ from hw1)]
      simp only [Chip.ns_congr (show ((s.chip.atTime t).hostRead x.h latNs).ft = s.chip.ft from hk .ft (by decide)), hn]
      rfl
    · intro c h1 h2 h3 h4
      refine ⟨by rw [h1]; rfl, ?_, Chip.keeps_mono h3 (by decide), h4⟩
      rw [h2]
      exact g2.trans (by rw [show ((s.chip.atTime t).hostTime x.h _).ft = s.chip.ft from hk .ft (by decide)]; rfl)
  · obtain rfl : x.h = h := Chip.cmd_h hw.1
    obtain ⟨g1, g2⟩ := Chip.takeData_nil (c := s.chip.atTime t) (show (s.chip.atTime t).cmd x.h = some x from hw.1) n (fun _ => { data := 0, info := 0 })
    refine Completes.of_cmd (exec_writeZeroes s t x.h) ?_ g1 (Chip.ioWaits_notHeld hw) g2 (by decide) (by decide) (Chip.keepsEntries_of_keeps g2 (by decide) [])
      fun c h1 _ h3 h4 => ⟨h1, Chip.keeps_mono h3 (by decide), h4⟩
    rw [Chip.ioCmd_of_waits (Chip.ioWaits_atTime hw t)]
    simp only [show (s.chip.atTime t).ns x.nsid = some n from hn, hp]
  · obtain rfl : x.h = h := Chip.cmd_h hw.1
    obtain ⟨hc, -, -, -, -, -, -, hs, hp, -, hn⟩ := id hw
    refine Completes.of_end (exec_scorebookLook s t x.h) (d := (s.chip.atTime t).emit (.octets x.h (octetsOf 32 (e.word false)))) ?_
      ((Chip.cmd_emit ..).trans hc) hs hp hn ((Chip.keeps_emit_iff _).2 (Chip.keeps_refl _ _)) fun c h1 h2 h3 h4 => ⟨h1, h2, h3, by
        rw [← e.word_kept]
        exact h4 _ (Chip.mem_out_emit _ _)⟩
    rw [Chip.ioCmd_of_waits (Chip.ioWaits_atTime hw t)]
    simp only [show (s.chip.atTime t).seenKey x = some e from hk]
  · refine Completes.of_end (exec_flush s t h) (d := s.chip.atTime t) ?_ hc hs hp hn (Chip.keeps_refl _ _) fun c h1 h2 h3 _ => ⟨h1, h2, h3⟩
    rw [show (s.chip.atTime t).cmd h = some x from hc]
    exact if_pos ⟨by rw [hadm]; rfl, hop, hph⟩
end

section
/-! Proof of the commit point of a Drop (R84, R316). -/
namespace Sys2Proof.Machine

/-! ### The entry goes -/

theorem Chip.bookRecord_frame (c : Chip) (set : Bool) (place : Nat) (e : SbEntry) :
    (c.bookRecord set place e).book.cells = c.book.cells ∧ (c.bookRecord set place e).book.stash = c.book.stash
    ∧ c.keeps (c.bookRecord set place e) [.book, .dict] ∧ c.keepsEntries (c.bookRecord set place e) [E.SB_NEXT_SEQ, E.SB_SEQ_EPOCH] := by
  unfold Chip.bookRecord
  extract_lets q r p src b c1
  have hb : b.cells = c.book.cells ∧ b.stash = c.book.stash := by
    unfold b
    split <;> exact ⟨rfl, rfl⟩
  have h0 : c.keeps { c with book := b } [.book] := (Chip.keeps_with_book (by decide) _).2 (Chip.keeps_refl _ _)
  have hk : c.keeps c1 [.book, .dict] := (Chip.keeps_setAt_iff (by decide) _ _ _).2 (Chip.keeps_mono h0 (by decide))
  have hke : c.keepsEntries c1 [E.SB_NEXT_SEQ, E.SB_SEQ_EPOCH] :=
    (Chip.keepsEntries_setAt_iff (by decide) _ _).2 (Chip.keepsEntries_of_keeps h0 (by decide) [E.SB_NEXT_SEQ, E.SB_SEQ_EPOCH])
  split
  · exact ⟨by rw [Chip.countAt_book]; exact hb.1, by rw [Chip.countAt_book]; exact hb.2, (Chip.keeps_countAt_iff (by decide) _ _ _).2 hk,
      (Chip.keepsEntries_countAt_iff (by decide) ..).2 hke⟩
  · exact ⟨hb.1, hb.2, hk, hke⟩

theorem Chip.clearEntry_frame (c : Chip) (place : Nat) :
    (c.clearEntry place).book.cells = (c.book.clear place).cells ∧ (c.clearEntry place).book.stash = (c.book.clear place).stash
    ∧ c.keeps (c.clearEntry place) [.book, .dict] ∧ c.keepsEntries (c.clearEntry place) [E.SB_NEXT_SEQ, E.SB_SEQ_EPOCH] := by
  have hk : c.keeps { c with book := c.book.clear place } [.book] := (Chip.keeps_with_book (by decide) _).2 (Chip.keeps_refl _ _)
  obtain ⟨g1, g2, g3, g4⟩ := Chip.bookRecord_frame { c with book := c.book.clear place } false place SbEntry.empty
  exact ⟨g1, g2, Chip.keeps_mono (Chip.keeps_trans hk g3) (by decide), Chip.keepsEntries_trans (Chip.keepsEntries_of_keeps hk (by decide) []) g4⟩

theorem Book.clear_cells (b : Book) {place : Nat} (hp : place < 2 ^ 31) : ∀ q ∈ (b.clear place).cells, q.1 ≠ place := by
  intro q hq he
  unfold Book.clear at hq
  rw [if_neg (Nat.not_le.2 hp)] at hq
  simp [drop', he] at hq

theorem Book.clear_stash (b : Book) {place : Nat} (hp : 2 ^ 31 ≤ place) : ∀ q ∈ (b.clear place).stash, q.1 ≠ place - 2 ^ 31 := by
  intro q hq he
  unfold Book.clear at hq
  rw [if_pos hp] at hq
  simp [drop', he] at hq

/-- A command that ends leaves no entry pending, and the places of the entries as they are. -/
theorem Chip.clearPending_places (c : Chip) (h : Nat) :
    (c.clearPending h).book.cells.map Prod.fst = c.book.cells.map Prod.fst ∧ (c.clearPending h).book.stash.map Prod.fst = c.book.stash.map Prod.fst := by
  unfold Chip.clearPending change
  constructor <;> (rw [List.map_map]; refine List.map_congr_left fun q _ => ?_; dsimp only [Function.comp]; split <;> rfl)

/-! ### Nothing waits -/

/-- A command that is answered waits as it did. -/
theorem Chip.waitH_finish (c : Chip) (h status dw0 dw1 : Nat) : ∀ y ∈ (c.finish h status dw0 dw1).cmds, ∃ z ∈ c.cmds, y.waitH = z.waitH := by
  intro y hy
  unfold Chip.finish at hy
  split at hy
  · exact ⟨y, hy, rfl⟩
  · next x hx =>
    have hm : x ∈ c.cmds := List.mem_of_find?_eq_some hx
    dsimp only at hy
    split at hy
    · exact ⟨y, List.mem_of_mem_filter hy, rfl⟩
    · simp only [Chip.setCmd, change, List.mem_map] at hy
      obtain ⟨z, hz, rfl⟩ := hy
      split
      · exact ⟨x, hm, rfl⟩
      · exact ⟨z, hz, rfl⟩

theorem Chip.wakeWaiters_none {c : Chip} {h : Nat} (hw : ∀ y ∈ c.cmds, y.waitH ≠ some h) : c.wakeWaiters h = c := by
  unfold Chip.wakeWaiters
  rw [List.filter_eq_nil_iff.2 fun y hy => by simp [hw y hy]]
  rfl

/-! ### The commit point -/

/-- The chip after a Drop's effect, its command not ended yet. -/
def Chip.dropped (c : Chip) (h place : Nat) : Chip := ((((c.clearEntry place).count E.SB_DROPS 1).dropReads h).clearPending h).unlock h

theorem Chip.dropped_frame (c : Chip) (h place : Nat) :
    (place < 2 ^ 31 → ∀ q ∈ (c.dropped h place).book.cells, q.1 ≠ place) ∧ (2 ^ 31 ≤ place → ∀ q ∈ (c.dropped h place).book.stash, q.1 ≠ place - 2 ^ 31)
    ∧ c.counts (c.dropped h place) E.SB_DROPS 0 1 ∧ (c.dropped h place).lk = c.lk.release h
    ∧ c.keeps (c.dropped h place) [.book, .lk, .rd, .dict] ∧ c.keepsEntries (c.dropped h place) [E.SB_DROPS, E.SB_NEXT_SEQ, E.SB_SEQ_EPOCH] := by
  obtain ⟨g1, g2, g3, g4⟩ := c.clearEntry_frame place
  have hr := Chip.keeps_dropReads ((c.clearEntry place).count E.SB_DROPS 1) h
  have hb : (((c.clearEntry place).count E.SB_DROPS 1).dropReads h).book = (c.clearEntry place).book :=
    (hr .book (by decide)).trans (Chip.countAt_book ..)
  obtain ⟨p1, p2⟩ := (((c.clearEntry place).count E.SB_DROPS 1).dropReads h).clearPending_places h
  rw [hb] at p1 p2
  have hk : c.keeps (((c.clearEntry place).count E.SB_DROPS 1).dropReads h) [.book, .rd, .dict] :=
    Chip.keeps_mono (Chip.keeps_trans ((Chip.keeps_countAt_iff (by decide) _ _ _).2 g3) hr) (by decide)
  have hd : ((((c.clearEntry place).count E.SB_DROPS 1).dropReads h).clearPending h).dict = ((c.clearEntry place).count E.SB_DROPS 1).dict :=
    (Chip.keeps_clearPending _ _ .dict (by decide)).trans (hr .dict (by decide))
  refine ⟨fun hp q hq => ?_, fun hp q hq => ?_, ?_, ?_, ?_, ?_⟩
  · have hm : q.1 ∈ (c.clearEntry place).book.cells.map Prod.fst := p1 ▸ List.mem_map_of_mem (f := Prod.fst) hq
    rw [g1] at hm
    obtain ⟨z, hz, he⟩ := List.mem_map.1 hm
    exact he ▸ Book.clear_cells _ hp z hz
  · have hm : q.1 ∈ (c.clearEntry place).book.stash.map Prod.fst := p2 ▸ List.mem_map_of_mem (f := Prod.fst) hq
    rw [g2] at hm
    obtain ⟨z, hz, he⟩ := List.mem_map.1 hm
    exact he ▸ Book.clear_stash _ hp z hz
  · have hv : ((c.clearEntry place).count E.SB_DROPS 1).getAt E.SB_DROPS 0 = min (topOf E.SB_DROPS) (c.getAt E.SB_DROPS 0 + 1) := by
      rw [Chip.getAt_countAt_same _ _ _ _ (by decide), g4 E.SB_DROPS 0 (by decide) (by decide)]
    exact (congrArg (fun v => Store.get (dflt E.SB_DROPS 0) (E.SB_DROPS, 0) v) (congrArg Dict.vals hd)).trans hv
  · exact congrArg (Lk.release · h) ((Chip.keeps_clearPending _ _ .lk (by decide)).trans (hk .lk (by decide)))
  · exact (Chip.keeps_unlock_iff (by decide) _).2 ((Chip.keeps_clearPending_iff (by decide) _).2 (Chip.keeps_mono hk (by decide)))
  · refine (Chip.keepsEntries_unlock_iff _).2 ((Chip.keepsEntries_clearPending_iff _).2 ?_)
    have h1 : c.keepsEntries ((c.clearEntry place).count E.SB_DROPS 1) [E.SB_DROPS, E.SB_NEXT_SEQ, E.SB_SEQ_EPOCH] :=
      (Chip.keepsEntries_countAt_iff (by decide) ..).2 (Chip.keepsEntries_mono g4 (by decide))
    exact Chip.keepsEntries_trans h1 (Chip.keepsEntries_of_keeps hr (by decide) [])

theorem recsFree (c : Chip) (x : Cmd) (ho : x.opcode = 0x89) : c.wholeOf x = [] := by
  unfold Chip.wholeOf
  split
  · rfl
  · exact if_neg (by rw [ho]; decide)

theorem Chip.dropFits {c : Chip} {x : Cmd} (ho : x.opcode = 0x89) (hroom : 1 ≤ c.bookRoom) (hj : c.journalFull = false) : c.recordsFit x = true := by
  have hw := recsFree c x ho
  have hb : c.bookNeeds x = 1 := by
    unfold Chip.bookNeeds
    exact if_neg fun h => absurd (ho.symm.trans h.1) (by decide)
  unfold Chip.recordsFit Chip.recNeeds
  rw [hw, hb]
  simp [unitRuns, recsBy, hroom, hj]

theorem Chip.dropSplits {c : Chip} {x : Cmd} (ho : x.opcode = 0x89) (hl : c.lost.length ≤ lostMax) : c.splitShort (c.clearsOf x) = false := by
  have hc : c.clearsOf x = [] := by
    unfold Chip.clearsOf
    split
    · rfl
    · rw [if_neg (by rw [ho]; decide)]
      exact recsFree c x ho
  rw [hc]
  exact decide_eq_false (Nat.not_lt.2 hl)

/-- A Drop that finds its key commits: the entry goes, and the command ends. -/
theorem Chip.commit_drop {c : Chip} {x : Cmd} {p : Nat × SbEntry} (hadm : x.admin = false) (ho : x.opcode = 0x89) (hph : x.phase = .working)
    (hpa : x.paused = none) (hsl : x.slots = []) (hf : ∀ k ∈ c.rd.tasks, k.h ≠ x.h) (hl : c.locked x.h = true) (hr : c.lk.ready x.h = true)
    (hroom : 1 ≤ c.bookRoom) (hj : c.journalFull = false) (hlost : c.lost.length ≤ lostMax) (hm : c.mirrors = false) (hk : c.findKey x.sbKey = some p) :
    c.commit x = ((c.dropped x.h p.1).finish x.h stOk p.2.gen 0).wakeWaiters x.h := by
  have hmerge : (c.rd.tasks.any fun t => decide (t.h = x.h) && t.word.isNone) = false := List.any_eq_false.2 fun k hk => by simp [hf k hk]
  have hwt : x.writeType = true := by simp [Cmd.writeType, hadm, ho]
  have hprog : c.mustProgram x = false := by simp [Chip.mustProgram, hsl]
  have hmir : c.mirrorPoint x = (c, true) := by
    unfold Chip.mirrorPoint
    rw [hm]
    rfl
  have heff : c.commitEffect x = ((c.clearEntry p.1).count E.SB_DROPS 1, some (p.2.gen, 0)) := by
    unfold Chip.commitEffect
    rw [if_neg (by rw [ho]; decide), if_pos ho, hk]
  unfold Chip.commit
  simp only [hmerge, hph, hpa, hwt, hl, hr, Chip.dropFits ho hroom hj, Chip.dropSplits ho hlost, hprog, Bool.not_true, Bool.false_eq_true, if_false, ne_eq, not_true_eq_false, Option.isSome_none,
    or_self, hmir, heff]
  rfl

end Sys2Proof.Machine

open Sys2Proof Sys2Proof.Machine

/-- Settles O24: the effect of the commit point, and the end of its command. -/
theorem dropCommits : Obligations.DropCommits := by
  intro s t h x p hc hn hadm ho hph hpa hs hp hsl hf hl hr hroom hj hlost hm hk hw
  obtain rfl : x.h = h := Chip.cmd_h hc
  obtain ⟨g1, g2, g3, g4, g5, g6⟩ := (s.chip.atTime t).dropped_frame x.h p.1
  have hc1 := (Chip.keeps_cmd g5 (by decide) x.h).trans hc
  have hwake : (((s.chip.atTime t).dropped x.h p.1).finish x.h stOk p.2.gen 0).wakeWaiters x.h = ((s.chip.atTime t).dropped x.h p.1).finish x.h stOk p.2.gen 0 := by
    refine Chip.wakeWaiters_none fun y hy => ?_
    obtain ⟨z, hz, he⟩ := Chip.waitH_finish _ _ _ _ _ y hy
    rw [he]
    exact hw z (by rw [← show ((s.chip.atTime t).dropped x.h p.1).cmds = s.chip.cmds from g5 .cmds (by decide)]; exact hz)
  refine Completes.of_run (exec_commitPoint s t x.h) ?_
  rw [show (s.chip.atTime t).cmd x.h = some x from hc]
  dsimp only
  rw [Chip.commit_drop (c := s.chip.atTime t) (p := p) hadm ho hph hpa hsl hf hl hr hroom hj hlost hm hk, hwake]
  have hend : ((s.chip.atTime t).dropped x.h p.1).keeps (((s.chip.atTime t).dropped x.h p.1).finish x.h stOk p.2.gen 0) [.cmds, .um] := Chip.keeps_finish _ _ _ _ _
  have hbook := (Chip.seal_book (s.chip.atTime t) _).trans ((Chip.notices_book (s.chip.atTime t) _).trans (hend .book (by decide)))
  refine ⟨Chip.answered_finish_of hc1 hs hp (Chip.keeps_notHeld g5 (by decide) hn) _ _ _ _, Chip.noLock_of_release (c := s.chip) ?_, ?_, ?_, ?_, ?_, ?_⟩
  · rw [Chip.seal_lk, Chip.notices_lk, Chip.finish_lk, g4]
    rfl
  · rw [hbook]
    exact g1
  · rw [hbook]
    exact g2
  · exact Chip.counts_end t (by decide) ((Chip.getAt_finish ..).trans g3)
  · exact Chip.keeps_ended t ((Chip.keeps_finish_iff (by decide) (by decide) _ _ _ _).2 (Chip.keeps_mono g5 (by decide))) (by decide) (by decide)
  · exact Chip.keepsEntries_end t ((Chip.keepsEntries_finish_iff _ _ _ _).2 g6)
end

section
/-! Proof of the expiry of commands (R39, R58). -/
namespace Sys2Proof.Machine

theorem Chip.keeps_continueReads (c : Chip) (h : Nat) : c.keeps (c.continueReads h) [.rd] := (Chip.keeps_with_rd (by decide) _).2 (Chip.keeps_refl _ _)

/-- The chip of a command that has expired, the command not ended yet. -/
def Chip.expiring (c : Chip) (h cause step : Nat) : Chip := ((((c.count E.EXPIRED 1).lateEvent cause step).continueReads h).unpin h).dropTasks h
def Chip.expired (c : Chip) (h cause step : Nat) : Chip := (c.expiring h cause step).unlock h

theorem Chip.expired_frame (c : Chip) (h cause step : Nat) :
    (c.expired h cause step).lk = c.lk.release h ∧ c.counts (c.expired h cause step) E.EXPIRED 0 1
    ∧ c.keeps (c.expired h cause step) [.rd, .wins, .lk, .dict, .ev, .lg] ∧ c.keepsEntries (c.expired h cause step) [E.EXPIRED] := by
  have h1 : c.keeps ((c.count E.EXPIRED 1).lateEvent cause step) [.dict, .ev, .lg] :=
    (Chip.keeps_eventFirst_iff (by decide) (by decide) (by decide) _ _ _ _ _).2 ((Chip.keeps_countAt_iff (by decide) _ _ _).2 (Chip.keeps_refl _ _))
  have h2 : (c.count E.EXPIRED 1).keepsEntries ((c.count E.EXPIRED 1).lateEvent cause step) [] := (Chip.keepsEntries_eventFirst_iff _ _ _ _ _).2 (Chip.keepsEntries_refl _ _)
  have h3 : ((c.count E.EXPIRED 1).lateEvent cause step).keeps (c.expiring h cause step) [.rd, .wins] := by
    unfold Chip.expiring Chip.unpin
    exact (Chip.keeps_dropTasks_iff (by decide) (by decide) _).2 ((Chip.keeps_with_rd (by decide) _).2 (Chip.keeps_mono (Chip.keeps_continueReads _ _) (by decide)))
  have h4 : (c.count E.EXPIRED 1).keepsEntries (c.expired h cause step) [] :=
    (Chip.keepsEntries_unlock_iff _).2 (Chip.keepsEntries_trans h2 (Chip.keepsEntries_of_keeps h3 (by decide) []))
  have h5 := Chip.keeps_trans h1 h3
  have hlk : (c.expiring h cause step).lk = c.lk := h5 .lk (by decide)
  refine ⟨by unfold Chip.expired Chip.unlock; rw [← hlk], ?_, (Chip.keeps_unlock_iff (by decide) _).2 (Chip.keeps_mono h5 (by decide)), ?_⟩
  · exact (h4 E.EXPIRED 0 (by decide) (by decide)).trans (Chip.getAt_countAt_same _ _ _ _ (by decide))
  · exact Chip.keepsEntries_mono (Chip.keepsEntries_trans ((Chip.keepsEntries_countAt_iff (l := [E.EXPIRED]) (by decide) ..).2 (Chip.keepsEntries_refl _ _)) h4) (by decide)

/-- A command that is no write and expires ends with its cause and the step that it reached. -/
theorem Chip.expireCmd_read {c : Chip} {x : Cmd} (hc : c.cmd x.h = some x) (hs : x.silent = false) (hp : x.posted = false) (hw : x.writeType = false) (cause : Nat) :
    c.expireCmd x.h cause = (c.expired x.h cause x.step).finish x.h stExpired (at' (min 5 x.step) 8 + cause) 0 := by
  unfold Chip.expireCmd
  simp only [hc, hs, hp, hw]
  rfl

theorem Cmd.running_iff {x : Cmd} : x.running = true ↔ x.admin = false ∧ x.paused = none ∧ x.posted = false ∧ x.silent = false
    ∧ (x.phase = .admitted ∨ x.phase = .working ∨ x.phase = .committed) := by
  unfold Cmd.running
  cases x.paused <;> simp [and_assoc]

/-- The end of a command that has expired, as the row leaves it. -/
theorem Completes.of_expired {i : Instr} {s : State} {t cause : Nat} {x : Cmd} {f : Chip → Chip} (he : exec i s = run s t f) (hi : s.chip.ioRuns x.h x)
    (hf : f (s.chip.atTime t) = ((s.chip.atTime t).expired x.h cause x.step).finish x.h stExpired (at' (min 5 x.step) 8 + cause) 0) :
    Completes i s fun c => c.answered x.h stExpired (at' (min 5 x.step) 8 + cause) 0 ∧ c.noLock x.h ∧ s.chip.counts c E.EXPIRED 0 1
      ∧ s.chip.keeps c ([.lk, .rd, .wins] ++ notePart) ∧ s.chip.keepsEntries c [E.EXPIRED] := by
  obtain ⟨hc, hrun, hn⟩ := hi
  obtain ⟨-, -, hp, hs, -⟩ := Cmd.running_iff.1 hrun
  obtain ⟨g1, g2, g3, g4⟩ := (s.chip.atTime t).expired_frame x.h cause x.step
  refine Completes.of_run he ?_
  rw [hf]
  refine ⟨Chip.answered_finish_of ((Chip.keeps_cmd g3 (by decide) _).trans hc) hs hp (Chip.keeps_notHeld g3 (by decide) hn) _ _ _ _,
    Chip.noLock_of_release (c := s.chip) ?_, Chip.counts_end t (by decide) ((Chip.getAt_finish ..).trans g2), ?_, ?_⟩
  · rw [Chip.seal_lk, Chip.notices_lk, Chip.finish_lk, g1]
    rfl
  · exact Chip.keeps_ended t ((Chip.keeps_finish_iff (by decide) (by decide) _ _ _ _).2 (Chip.keeps_mono g3 (by decide))) (by decide) (by decide)
  · exact Chip.keepsEntries_end t ((Chip.keepsEntries_finish_iff _ _ _ _).2 g4)

end Sys2Proof.Machine

open Sys2Proof Sys2Proof.Machine

/-- Settles O26: both rows expire the read at once. -/
theorem deadlinesExpire : Obligations.DeadlinesExpire := by
  intro s t h x hi hw
  obtain ⟨hc, hrun, hn⟩ := id hi
  obtain rfl : x.h = h := Chip.cmd_h hc
  obtain ⟨-, -, hp, hs, hph⟩ := Cmd.running_iff.1 hrun
  have hx := Chip.expireCmd_read (c := s.chip.atTime t) hc hs hp hw x.expiry
  refine ⟨fun hcls hdue => Completes.of_expired (exec_deadlineExpired s t x.h) hi ?_, fun hcls hlate => Completes.of_expired (exec_class2LateLimit s t x.h) hi ?_⟩
  · rw [show (s.chip.atTime t).cmd x.h = some x from hc]
    dsimp only
    unfold Chip.expireMirror
    rw [if_neg (by simp [hw])]
    unfold Chip.expireAt
    rw [if_neg (by simp [hrun, Nat.not_lt.2 hdue])]
    rcases hcls with h1 | ⟨h2, h3⟩
    · rw [if_pos h1]
      exact hx
    · rw [if_neg (by omega), if_pos ⟨h2, h3⟩]
      exact hx
  · rw [show (s.chip.atTime t).cmd x.h = some x from hc]
    dsimp only
    rw [if_pos ⟨hrun, hcls, hlate⟩]
    exact hx
end

section
/-! Proof of the errors of a link that a command meets (R37, R117). -/
namespace Sys2Proof.Machine

/-! ### Nothing waits for the command -/

/-- No command waits for the command h. -/
def Chip.awaitsNone (c : Chip) (h : Nat) : Prop := ∀ y ∈ c.cmds, y.waitH ≠ some h

theorem Chip.awaitsNone_congr {c d : Chip} {h : Nat} (he : d.cmds = c.cmds) (hw : c.awaitsNone h) : d.awaitsNone h := fun y hy => hw y (he ▸ hy)

theorem Chip.awaitsNone_cmd {c : Chip} {h k : Nat} {x : Cmd} (hw : c.awaitsNone h) (hx : c.cmd k = some x) : x.waitH ≠ some h :=
  hw x (List.mem_of_find?_eq_some hx)

theorem Chip.awaitsNone_setCmd {c : Chip} {h : Nat} {x : Cmd} (hw : c.awaitsNone h) (hx : x.waitH ≠ some h) : (c.setCmd x).awaitsNone h := by
  intro y hy
  simp only [Chip.setCmd, change, List.mem_map] at hy
  obtain ⟨z, hz, rfl⟩ := hy
  split
  · exact hx
  · exact hw z hz

theorem Chip.awaitsNone_finish {c : Chip} {h : Nat} (hw : c.awaitsNone h) (k status dw0 dw1 : Nat) : (c.finish k status dw0 dw1).awaitsNone h := fun y hy => by
  obtain ⟨z, hz, he⟩ := Chip.waitH_finish c k status dw0 dw1 y hy
  exact he ▸ hw z hz

theorem Chip.awaitsNone_hostTime {c : Chip} {h : Nat} (hw : c.awaitsNone h) (k ps : Nat) : (c.hostTime k ps).awaitsNone h := by
  unfold Chip.hostTime
  split
  · exact hw
  · refine Chip.awaitsNone_congr (Chip.countAt_cmds ..) (Chip.each_induct (P := fun c => c.awaitsNone h) (fun d m hd => ?_) _ hw)
    split
    · next x hx => exact Chip.awaitsNone_setCmd hd (Chip.awaitsNone_cmd (x := x) hd hx)
    · exact hd

/-! ### What a command gives back -/

/-- A command without what it held of credits, energy, guests, records and slots. -/
def Cmd.returned (x : Cmd) : Cmd := { x with credits := 0, energy := 0, guests := 0, recs := [], slots := [] }

/-- The chip with the energy and the guests of a command back. -/
def Chip.returned (c : Chip) (x : Cmd) : Chip :=
  ({ c with st := { c.st with dirty := c.st.dirty - x.energy }, pr := { c.pr with slotsOut := c.pr.slotsOut - x.guests } }).setCmd x.returned

theorem Chip.giveBack_unslotted {c : Chip} {h : Nat} {x : Cmd} (hc : c.cmd h = some x) (hs : ∀ l ∈ c.ft.slots, l.h ≠ h) :
    c.giveBack h = ((if h = 0 then c.returned x else (c.returned x).clearPending h).unlock h).releaseWork h := by
  have hn : c.ft.slots.filter (fun s => decide (s.h = h) && s.wseq.isNone) = [] := List.filter_eq_nil_iff.2 fun l hl => by simp [hs l hl]
  unfold Chip.giveBack
  rw [hn]
  simp only [List.map_nil, Chip.each, List.foldl_nil, hc]
  rfl

/-- What the ends of a command leave: the parts that it held of, and the store, the pair and its waiters but for what was the command's. -/
def Chip.released (c d : Chip) (x : Cmd) : Prop :=
  (∃ y, d.cmd x.h = some y ∧ y.silent = x.silent ∧ y.posted = x.posted) ∧ d.lk = c.lk.release x.h ∧ d.st.present = c.st.present ∧ d.st.qa = c.st.qa
    ∧ d.pr.joined = c.pr.joined ∧ d.pr.partnerCtl = c.pr.partnerCtl

theorem Chip.giveBack_frame {c : Chip} {x : Cmd} (hc : c.cmd x.h = some x) (hs : ∀ l ∈ c.ft.slots, l.h ≠ x.h) :
    c.released (c.giveBack x.h) x ∧ c.keeps (c.giveBack x.h) [.st, .pr, .cmds, .book, .lk, .um]
    ∧ ∀ h, c.awaitsNone h → (c.giveBack x.h).awaitsNone h := by
  have hk : c.keeps (c.returned x) [.st, .pr, .cmds] := (Chip.keeps_setCmd_iff (by decide) _).2 ((Chip.keeps_with_st_pr (by decide) (by decide) _ _).2 (Chip.keeps_refl _ _))
  have hc1 : (c.returned x).cmd x.h = some x.returned := Chip.cmd_setCmd_same (x := x.returned) (y := x) hc
  have hw : ∀ h, c.awaitsNone h → (c.returned x).awaitsNone h := fun h hw => Chip.awaitsNone_setCmd (x := x.returned) hw (Chip.awaitsNone_cmd (x := x) hw hc)
  rw [Chip.giveBack_unslotted hc hs]
  split
  · exact ⟨⟨⟨_, hc1, rfl, rfl⟩, rfl, rfl, rfl, rfl, rfl⟩,
      (Chip.keeps_releaseWork_iff (by decide) _).2 ((Chip.keeps_unlock_iff (by decide) _).2 (Chip.keeps_mono hk (by decide))), hw⟩
  · exact ⟨⟨⟨_, hc1, rfl, rfl⟩, rfl, rfl, rfl, rfl, rfl⟩,
      (Chip.keeps_releaseWork_iff (by decide) _).2 ((Chip.keeps_unlock_iff (by decide) _).2 ((Chip.keeps_clearPending_iff (by decide) _).2
        (Chip.keeps_mono hk (by decide)))), hw⟩

theorem Chip.undo_unshared {c : Chip} {h : Nat} (hx : ∀ f ∈ c.pr.xfers, f.h ≠ h) : c.undo h = c.giveBack h := by
  have hn : c.pr.xfers.find? (fun f => f.origin && decide (f.h = h) && !f.mirror) = none := List.find?_eq_none.2 fun f hf => by simp [hx f hf]
  unfold Chip.undo Chip.abortXfer
  rw [hn]

/-! ### The report -/

theorem Chip.aer_frame (c : Chip) (port fn code : Nat) : .aer port code ∈ (c.aer port fn code).out ∧ c.keeps (c.aer port fn code) [.ports, .free] := by
  refine ⟨Chip.mem_out_emit _ _, ?_⟩
  unfold Chip.aer
  extract_lets p errors headers c1
  refine (Chip.keeps_emit_iff _).2 ?_
  unfold c1
  split
  · exact Chip.keeps_refl _ _
  · split
    · exact (Chip.keeps_setPort_iff (by decide) _).2 (Chip.keeps_refl _ _)
    · exact (Chip.keeps_setPort_iff (by decide) _).2 ((Chip.keeps_with_free (by decide) _).2 (Chip.keeps_refl _ _))

theorem Chip.aer_now (c : Chip) (port fn code : Nat) : (c.aer port fn code).now = c.now := by
  unfold Chip.aer
  extract_lets p errors headers c1
  rw [Chip.emit_now]
  unfold c1
  split
  · rfl
  · split <;> rfl

/-! ### The command ends with the error -/

/-- The chip of a command that ends with Data Transfer Error and is reported, its port not charged yet. -/
def Chip.linkEnded (c : Chip) (x : Cmd) (code ps : Nat) : Chip :=
  ((((((c.hostTime x.h ps).eventFirst 0x285 0 1 noUnit [fnItem x.port x.fn]).undo x.h).dropReads x.h).dropTasks x.h).finish x.h stDataTransfer 0 0).aer x.port x.fn code

theorem Chip.linkError_eq {c : Chip} {x : Cmd} (hc : c.cmd x.h = some x) (hd : x.dmaOpen = true) (code ns : Nat) :
    c.linkError x.h code ns = ((c.linkEnded x code (ns * 1000)).chargeFault (mkUnit kPORT x.port)).wakeWaiters x.h := by
  unfold Chip.linkError
  simp only [hc, hd]
  rfl

theorem Chip.hostTime_now (c : Chip) (h ps : Nat) : (c.hostTime h ps).now = c.now := by
  unfold Chip.hostTime
  split
  · rfl
  · refine (Chip.countAt_now ..).trans (Chip.each_induct (P := fun d => d.now = c.now) (fun d m hd => ?_) _ rfl)
    split
    · exact hd
    · exact hd

/-- The parts that the end of a command with an error may change. -/
def linkPart : List Area := [.cmds, .dict, .ev, .lg, .st, .pr, .book, .lk, .um, .rd, .wins, .ports, .free]

theorem Chip.linkEnded_frame {c : Chip} {x : Cmd} (hc : c.cmd x.h = some x) (hs : x.silent = false) (hp : x.posted = false)
    (hsl : ∀ l ∈ c.ft.slots, l.h ≠ x.h) (hxf : ∀ f ∈ c.pr.xfers, f.h ≠ x.h) (hw : c.awaitsNone x.h) (code ps : Nat) :
    (c.linkEnded x code ps).answered x.h stDataTransfer 0 0 ∧ .aer x.port code ∈ (c.linkEnded x code ps).out
    ∧ (c.linkEnded x code ps).lk = c.lk.release x.h ∧ (c.linkEnded x code ps).st.present = c.st.present ∧ (c.linkEnded x code ps).st.qa = c.st.qa
    ∧ (c.linkEnded x code ps).partnerStates = c.partnerStates ∧ (c.linkEnded x code ps).now = c.now ∧ (c.linkEnded x code ps).awaitsNone x.h
    ∧ c.keeps (c.linkEnded x code ps) linkPart ∧ c.keepsEntries (c.linkEnded x code ps) [E.HOST_DELAY] := by
  obtain ⟨e, hc0⟩ := Chip.heldUp_hostTime x.h c x.h ps x hc
  have hk0 := Chip.keeps_hostTime c x.h ps
  have hke0 := Chip.keepsEntries_hostTime c x.h ps
  set c0 := (c.hostTime x.h ps).eventFirst 0x285 0 1 noUnit [fnItem x.port x.fn] with hdef
  have hk1 : c.keeps c0 [.cmds, .dict, .ev, .lg] := (Chip.keeps_eventFirst_iff (by decide) (by decide) (by decide) _ _ _ _ _).2 (Chip.keeps_mono hk0 (by decide))
  have hke1 : c.keepsEntries c0 [E.HOST_DELAY] := (Chip.keepsEntries_eventFirst_iff _ _ _ _ _).2 hke0
  have hc1 : c0.cmd x.h = some { x with extraPs := e } := (Chip.cmd_congr (by rw [hdef, Chip.eventFirst_cmds]) _).trans hc0
  have hu : c0.undo x.h = c0.giveBack x.h := Chip.undo_unshared (by rw [hk1 .pr (by decide)]; exact hxf)
  obtain ⟨⟨⟨y, hy, hys, hyp⟩, hlk, hpres, hqa, hjoin, hctl⟩, hk2, hwait⟩ := Chip.giveBack_frame (x := { x with extraPs := e }) hc1 (by rw [hk1 .ft (by decide)]; exact hsl)
  have hk3 : (c0.giveBack x.h).keeps (((c0.giveBack x.h).dropReads x.h).dropTasks x.h) [.rd, .wins] :=
    (Chip.keeps_dropTasks_iff (by decide) (by decide) _).2 (Chip.keeps_mono (Chip.keeps_dropReads _ _) (by decide))
  have hk4 := Chip.keeps_finish (((c0.giveBack x.h).dropReads x.h).dropTasks x.h) x.h stDataTransfer 0 0
  obtain ⟨haer, hk5⟩ := ((((c0.giveBack x.h).dropReads x.h).dropTasks x.h).finish x.h stDataTransfer 0 0).aer_frame x.port x.fn code
  have hkB := Chip.keeps_trans (Chip.keeps_trans hk3 hk4) hk5
  have hkA := Chip.keeps_trans hk2 hkB
  have heq : c.linkEnded x code ps = ((((c0.giveBack x.h).dropReads x.h).dropTasks x.h).finish x.h stDataTransfer 0 0).aer x.port x.fn code := by
    unfold Chip.linkEnded
    rw [← hdef, hu]
  have hst : ∀ d : Chip, (c0.giveBack x.h).keeps d ([.rd, .wins] ++ [.cmds, .um] ++ [.ports, .free]) → d.st = (c0.giveBack x.h).st ∧ d.pr = (c0.giveBack x.h).pr ∧
      d.lk = (c0.giveBack x.h).lk := fun d hd => ⟨hd .st (by decide), hd .pr (by decide), hd .lk (by decide)⟩
  obtain ⟨e1, e2, e3⟩ := hst _ hkB
  have hall : c.keeps _ _ := Chip.keeps_trans hk1 hkA
  have hw1 : c0.awaitsNone x.h := Chip.awaitsNone_congr (by rw [hdef, Chip.eventFirst_cmds]) (Chip.awaitsNone_hostTime hw x.h ps)
  rw [heq]
  refine ⟨⟨_, (Chip.keeps_cmd hk5 (by decide) _).trans (Chip.cmd_finish_same _ ((Chip.keeps_cmd hk3 (by decide) _).trans hy) (hys.trans hs) (hyp.trans hp)), rfl, rfl, rfl, rfl⟩,
    haer, ?_, ?_, ?_, ?_, ?_, ?_, Chip.keeps_mono hall (by decide), ?_⟩
  · rw [e3, hlk, hk1 .lk (by decide)]
  · rw [e1, hpres, hk1 .st (by decide)]
  · rw [e1, hqa, hk1 .st (by decide)]
  · unfold Chip.partnerStates
    rw [hall .boot (by decide), e2, hjoin, hctl, hk1 .pr (by decide)]
  · rw [Chip.aer_now, Chip.finish_now, Chip.dropTasks_now, show (Chip.dropReads (c0.giveBack x.h) x.h).now = (c0.giveBack x.h).now from rfl, Chip.giveBack_now, hdef,
      Chip.eventFirst_now, Chip.hostTime_now]
  · exact Chip.awaitsNone_congr (hk5 .cmds (by decide)) (Chip.awaitsNone_finish (Chip.awaitsNone_congr (hk3 .cmds (by decide)) (hwait x.h hw1)) x.h _ 0 0)
  · exact Chip.keepsEntries_trans hke1 (Chip.keepsEntries_of_keeps hkA (by decide) [])

/-! ### The port is charged -/

theorem Chip.ancestorOut_congr {b c : Chip} (ho : ∀ u, c.own u = b.own u) (u : Nat) : c.ancestorOut u = b.ancestorOut u := by
  unfold Chip.ancestorOut Chip.ancestorTerm
  simp only [ho]

theorem parentOf_port {p : Nat} (hp : p ≤ 1) : parentOf (mkUnit kPORT p) = some (mkUnit kCTL 0) := by
  interval_cases p <;> decide

theorem unitKind_port {p : Nat} (hp : p ≤ 1) : unitKind (mkUnit kPORT p) ≠ kTGT := by
  interval_cases p <;> decide

/-- A fault of a port in service that does not yet withdraw it is noted with its unit. -/
theorem Chip.chargeFault_port {c : Chip} {p : Nat} {r : UnitRec} (hr : r = c.unitRec (mkUnit kPORT p)) (ho : r.own = 1 ∨ r.own = 2) (hp : p ≤ 1)
    (ha : c.ancestorOut (mkUnit kPORT p) = false)
    (hl : (c.setUnit { r with faults := c.now :: r.faults }).faultCount (mkUnit kPORT p) < c.get E.TRANSIENT_LIMIT) :
    c.chargeFault (mkUnit kPORT p) = c.setUnit { r with faults := c.now :: r.faults } := by
  subst hr
  unfold Chip.chargeFault
  rw [if_neg (by rcases ho with h | h <;> rw [Chip.own, h] <;> decide)]
  unfold Chip.chargeN
  rw [if_neg (by rw [ha]; decide), parentOf_port hp]
  dsimp only
  rw [if_neg (by decide)]
  unfold Chip.countFault
  dsimp only
  rw [if_pos ho, if_pos hl]

theorem Chip.faultCount_congr {c d : Chip} {r : UnitRec} (hr : r.unit = u) (hn : d.now = c.now) (hw : d.get E.TRANSIENT_WINDOW = c.get E.TRANSIENT_WINDOW) :
    (d.setUnit r).faultCount u = (c.setUnit r).faultCount u := by
  unfold Chip.faultCount
  rw [Chip.unitRec_setUnit_of hr, Chip.unitRec_setUnit_of hr, Chip.setUnit_now, Chip.setUnit_now, hn,
    show (d.setUnit r).get E.TRANSIENT_WINDOW = d.get E.TRANSIENT_WINDOW from rfl, hw]
  rfl

/-- What is known of the command and its port where a link error meets it. -/
structure LinkFault (c : Chip) (x : Cmd) (r : UnitRec) (now : Nat) : Prop where
  cmd : c.cmd x.h = some x
  dma : x.dmaOpen = true
  silent : x.silent = false
  posted : x.posted = false
  free : c.notHeld x.h
  slots : ∀ l ∈ c.ft.slots, l.h ≠ x.h
  xfers : ∀ f ∈ c.pr.xfers, f.h ≠ x.h
  waits : c.awaitsNone x.h
  calm : c.calm
  unit : r = c.unitRec (mkUnit kPORT x.port)
  own : r.own = 1 ∨ r.own = 2
  port : x.port ≤ 1
  ancestors : c.ancestorOut (mkUnit kPORT x.port) = false
  count : (c.setUnit { r with faults := now :: r.faults }).faultCount (mkUnit kPORT x.port) < c.get E.TRANSIENT_LIMIT

/-- The record of a unit with one fault more. -/
def UnitRec.faulted (r : UnitRec) (now : Nat) : UnitRec := { r with faults := now :: r.faults }

theorem LinkFault.linkError_eq {c : Chip} {x : Cmd} {r : UnitRec} (h : LinkFault c x r c.now) (code ns : Nat) :
    c.linkError x.h code ns = (c.linkEnded x code (ns * 1000)).setUnit (r.faulted c.now) := by
  obtain ⟨-, -, -, -, -, -, hnow, hw, hk, hke⟩ := Chip.linkEnded_frame h.cmd h.silent h.posted h.slots h.xfers h.waits code (ns * 1000)
  have hun : (c.linkEnded x code (ns * 1000)).un = c.un := hk .un (by decide)
  have hfuse : (c.linkEnded x code (ns * 1000)).fuse = c.fuse := hk .fuse (by decide)
  have hrec := h.unit.trans (Chip.unitRec_congr hun (by rw [hfuse]) (mkUnit kPORT x.port)).symm
  have hch := Chip.chargeFault_port hrec h.own h.port ((Chip.ancestorOut_congr (Chip.own_congr hun hfuse) _).trans h.ancestors) (by
    rw [hnow, Chip.faultCount_congr (c := c) (by rw [h.unit, Chip.unitRec_unit]) hnow (hke E.TRANSIENT_WINDOW 0 (by decide) (by decide)),
      show (c.linkEnded x code (ns * 1000)).get E.TRANSIENT_LIMIT = c.get E.TRANSIENT_LIMIT from hke E.TRANSIENT_LIMIT 0 (by decide) (by decide)]
    exact h.count)
  rw [Chip.linkError_eq h.cmd h.dma, hch, hnow]
  exact Chip.wakeWaiters_none (Chip.awaitsNone_congr rfl hw)

/-- One fault more leaves a calm chip calm. -/
theorem LinkFault.calm_after {c : Chip} {x : Cmd} {r : UnitRec} (h : LinkFault c x r c.now) (code ns : Nat) :
    (∀ u, ((c.linkEnded x code (ns * 1000)).setUnit (r.faulted c.now)).reported u = c.reported u)
    ∧ (∀ u, ((c.linkEnded x code (ns * 1000)).setUnit (r.faulted c.now)).own u = c.own u) ∧ ((c.linkEnded x code (ns * 1000)).setUnit (r.faulted c.now)).calm := by
  obtain ⟨-, -, -, hpres, hqa, hps, hnow, hw, hk, hke⟩ := Chip.linkEnded_frame h.cmd h.silent h.posted h.slots h.xfers h.waits code (ns * 1000)
  generalize c.linkEnded x code (ns * 1000) = d at *
  have hun : d.un = c.un := hk .un (by decide)
  have hfuse : d.fuse = c.fuse := hk .fuse (by decide)
  have hu : (r.faulted c.now).unit = mkUnit kPORT x.port := by rw [h.unit]; exact Chip.unitRec_unit _ _
  have ho : ∀ u, (d.setUnit (r.faulted c.now)).own u = c.own u := fun u => by
    rw [Chip.own_setUnit _ (by rw [hu, Chip.own_congr hun hfuse, h.unit]; rfl), Chip.own_congr hun hfuse]
  have hr : ∀ u, (d.setUnit (r.faulted c.now)).reported u = c.reported u := Chip.reported_of_own ho (fun u => by
    rw [Chip.children_setUnit _ (by rw [hu]; exact unitKind_port h.port)]
    unfold Chip.children
    rw [hun]) hps
  have hm : ∀ e ∈ calmEntries, e ∉ eventMeters := by decide
  have hd : ∀ e ∈ calmEntries, e ∉ [E.HOST_DELAY] := by decide
  have hft : (d.setUnit (r.faulted c.now)).ft = c.ft := hk .ft (by decide)
  have hsb : (d.setUnit (r.faulted c.now)).sb = c.sb := hk .sb (by decide)
  exact ⟨hr, ho, Chip.calm_congr hr ho hfuse (hk .boot (by decide)) (hk .md (by decide)) (by rw [hsb]) hpres hqa (by rw [hft]) (by unfold Chip.topGranule; rw [hft])
    (by rw [hft]) (by rw [hft]) (fun e he => hke e 0 (hd e he) (hm e he)) h.calm⟩

/-- The end of a step in which a link error meets a command. -/
theorem Completes.of_linkError {i : Instr} {s : State} {t code ns : Nat} {x : Cmd} {r : UnitRec} {P : Chip → Prop} {f : Chip → Chip} {c0 : Chip}
    (he : exec i s = runUnits s t f) (hf : f (s.chip.atTime t) = c0.linkError x.h code ns) (h : LinkFault c0 x r c0.now) (hnow : c0.now = (s.chip.atTime t).now)
    (hk : (s.chip.atTime t).keeps c0 [.dict]) (hfused : fusedOff s.chip.fuse.variant (mkUnit kPORT x.port) = false)
    (hP : ∀ c : Chip, c.answered x.h stDataTransfer 0 0 → .aer x.port code ∈ c.out → c.noLock x.h → c.unitRec (mkUnit kPORT x.port) = r.faulted (s.chip.atTime t).now →
      (∀ e k, e ∉ [E.HOST_DELAY] → e ∉ eventMeters → c.getAt e k = c0.getAt e k) →
      s.chip.keeps c ([.un, .lk, .rd, .wins, .st, .book, .pr, .ports, .free] ++ notePart) → P c) : Completes i s P := by
  obtain ⟨hans, hout, hlk, -, -, -, -, -, hkl, hke⟩ := Chip.linkEnded_frame h.cmd h.silent h.posted h.slots h.xfers h.waits code (ns * 1000)
  obtain ⟨hr, ho, hcalm⟩ := h.calm_after code ns
  have heq := h.linkError_eq code ns
  have hka := Chip.keeps_trans hk hkl
  have hu : (r.faulted c0.now).unit = mkUnit kPORT x.port := by rw [h.unit]; exact Chip.unitRec_unit _ _
  generalize c0.linkEnded x code (ns * 1000) = d at *
  have hfuse : d.fuse = s.chip.fuse := hka .fuse (by decide)
  refine Completes.of_run (he.trans (runUnits_eq s t f)) ?_
  rw [hf, heq, Chip.settle_calm (b := s.chip.atTime t) ?_ ?_ ?_ hcalm]
  · obtain ⟨y, hy, hye⟩ := hans
    refine hP _ (Chip.answered_end (Chip.keeps_notHeld hkl (by decide) h.free) ⟨y, hy, hye⟩) (Chip.mem_out_end hout) (Chip.noLock_of_release (c := c0) ?_) ?_ ?_ ?_
    · rw [Chip.seal_lk, Chip.notices_lk]
      exact hlk
    · rw [Chip.unitRec_end (b := s.chip.atTime t) hfused (by rw [show (d.setUnit (r.faulted c0.now)).fuse = d.fuse from rfl, hfuse]; rfl), Chip.unitRec_setUnit_of hu, hnow]
    · intro e k h1 h2
      rw [Chip.getAt_end _ _ h2]
      exact hke e k h1 h2
    · exact Chip.keeps_ended t ((Chip.keeps_setUnit_iff (by decide) _).2 (Chip.keeps_mono hka (by decide))) (by decide) (by decide)
  · exact fun u => (hr u).trans (Chip.reported_congr (hk .un (by decide)) (hk .fuse (by decide)) (Chip.partnerStates_of_keeps hk (by decide) (by decide)) u)
  · exact fun u => (ho u).trans (Chip.own_congr (hk .un (by decide)) (hk .fuse (by decide)) u)
  · exact (congrArg Boot.maint (hka .boot (by decide))).symm

theorem Chip.calm_atTime {c : Chip} (h : c.calm) (t : Nat) : (c.atTime t).calm :=
  Chip.calm_congr (b := c) (Chip.reported_congr rfl rfl rfl) (fun _ => rfl) rfl rfl rfl rfl rfl rfl rfl rfl rfl rfl (fun _ _ => rfl) h

/-- What is known of a running command holds after a counter of the dictionary. -/
theorem LinkFault.of_runs {b c : Chip} {x : Cmd} {r : UnitRec} (hk : b.keeps c [.dict]) (hke : b.keepsEntries c [E.CPL_TIMEOUTS, E.POISONED_RX]) (hnow : c.now = b.now)
    (hi : b.ioRuns x.h x) (hph : x.phase ≠ .committed) (hs : ∀ l ∈ b.ft.slots, l.h ≠ x.h) (hx : ∀ f ∈ b.pr.xfers, f.h ≠ x.h) (hw : ∀ y ∈ b.cmds, y.waitH ≠ some x.h)
    (hc : b.calm) (hr : r = b.unitRec (mkUnit kPORT x.port)) (ho : r.own = 1 ∨ r.own = 2) (hp : x.port ≤ 1) (ha : b.ancestorOut (mkUnit kPORT x.port) = false)
    (hl : (b.setUnit { r with faults := b.now :: r.faults }).faultCount (mkUnit kPORT x.port) < b.get E.TRANSIENT_LIMIT) : LinkFault c x r c.now := by
  obtain ⟨hcmd, hrun, hn⟩ := hi
  obtain ⟨hadm, -, hpo, hsi, hphase⟩ := Cmd.running_iff.1 hrun
  have hun : c.un = b.un := hk .un (by decide)
  have hfuse : c.fuse = b.fuse := hk .fuse (by decide)
  have hft : c.ft = b.ft := hk .ft (by decide)
  have hps := Chip.partnerStates_of_keeps hk (by decide) (by decide)
  have hd : ∀ e ∈ calmEntries, e ∉ [E.CPL_TIMEOUTS, E.POISONED_RX] := by decide
  have hm : ∀ e ∈ calmEntries, e ∉ eventMeters := by decide
  refine ⟨(Chip.keeps_cmd hk (by decide) _).trans hcmd, ?_, hsi, hpo, Chip.keeps_notHeld hk (by decide) hn, hft ▸ hs, by rw [hk .pr (by decide)]; exact hx,
    Chip.awaitsNone_congr (hk .cmds (by decide)) hw, Chip.calm_of_keeps hk hke (by decide) hd (by rw [hft]) (by rw [hft]) (by rw [hft]) (by rw [hft]) hc,
    hr.trans (Chip.unitRec_congr hun (by rw [hfuse]) _).symm, ho, hp, (Chip.ancestorOut_congr (Chip.own_congr hun hfuse) _).trans ha, ?_⟩
  · unfold Cmd.dmaOpen
    rw [hpo, hsi, hadm]
    rcases hphase with h | h | h
    · simp [h]
    · simp [h]
    · exact absurd h hph
  · rw [hnow, Chip.faultCount_congr (c := b) (by rw [hr, Chip.unitRec_unit]) hnow (hke E.TRANSIENT_WINDOW 0 (by decide) (by decide)),
      show c.get E.TRANSIENT_LIMIT = b.get E.TRANSIENT_LIMIT from hke E.TRANSIENT_LIMIT 0 (by decide) (by decide)]
    exact hl

end Sys2Proof.Machine

open Sys2Proof Sys2Proof.Machine

/-- Settles O27: the command ends, and its port is charged a fault. -/
theorem linkErrorsAreReported : Obligations.LinkErrorsAreReported := by
  intro s t h x r
  refine ⟨fun hi hph hs hx hw hc hr ho hp hfu ha hl => ?_, fun port bar => ?_⟩
  · obtain rfl : x.h = h := Chip.cmd_h hi.1
    have hcmd : (s.chip.atTime t).cmd x.h = some x := hi.1
    have hfault : ∀ c : Chip, (s.chip.atTime t).keeps c [.dict] → (s.chip.atTime t).keepsEntries c [E.CPL_TIMEOUTS, E.POISONED_RX] → c.now = (s.chip.atTime t).now →
        LinkFault c x r c.now := fun c hk hke hnow => LinkFault.of_runs hk hke hnow hi hph hs hx hw (Chip.calm_atTime hc t) hr ho hp ha hl
    refine ⟨?_, fun kind => ?_⟩
    · have hcount := hfault ((s.chip.atTime t).countAt E.CPL_TIMEOUTS x.port 1) ((Chip.keeps_countAt_iff (by decide) _ _ _).2 (Chip.keeps_refl _ _))
        ((Chip.keepsEntries_countAt_iff (by decide) ..).2 (Chip.keepsEntries_refl _ _)) (Chip.countAt_now ..)
      refine Completes.of_linkError (exec_completionTimeout s t x.h) (code := 0) (ns := (s.chip.atTime t).timeoutNs x.port x.fn - (s.chip.atTime t).get E.HOST_LAT_LIMIT) ?_ hcount
        (Chip.countAt_now ..) ((Chip.keeps_countAt_iff (by decide) _ _ _).2 (Chip.keeps_refl _ _)) hfu ?_
      · rw [hcmd]
        exact if_pos hcount.dma
      · intro c h1 h2 h3 h4 h5 h6
        exact ⟨h1, h2, h3, h4, (h5 _ _ (by decide) (by decide)).trans (Chip.getAt_countAt_same _ _ _ _ (by decide)), h6⟩
    · have hcond : ∀ c : Chip, c = (if kind % 3 = 2 then (s.chip.atTime t).countAt E.POISONED_RX x.port 1 else s.chip.atTime t) →
          (s.chip.atTime t).keeps c [.dict] ∧ (s.chip.atTime t).keepsEntries c [E.CPL_TIMEOUTS, E.POISONED_RX] ∧ c.now = (s.chip.atTime t).now := by
        intro c hcd
        subst hcd
        split
        · exact ⟨(Chip.keeps_countAt_iff (by decide) _ _ _).2 (Chip.keeps_refl _ _), (Chip.keepsEntries_countAt_iff (by decide) ..).2 (Chip.keepsEntries_refl _ _),
            Chip.countAt_now ..⟩
        · exact ⟨Chip.keeps_refl _ _, Chip.keepsEntries_refl _ _, rfl⟩
      obtain ⟨k1, k2, k3⟩ := hcond _ rfl
      have hf := hfault _ k1 k2 k3
      refine Completes.of_linkError (exec_errorCompletionReceived s t x.h kind) (code := 1 + kind % 3) (ns := 0) ?_ hf k3 k1 hfu fun c h1 h2 h3 h4 _ h6 => ⟨h1, h2, h3, h4, h6⟩
      rw [hcmd]
      exact if_neg (by rw [hf.dma]; decide)
  · obtain ⟨g1, g2⟩ := (((s.chip.atTime t).countAt E.POISONED_RX port 1).eventFirst 0x285 0 1 noUnit [fnItem port bar.fn]).aer_frame port bar.fn 3
    have hk : (s.chip.atTime t).keeps (((s.chip.atTime t).countAt E.POISONED_RX port 1).eventFirst 0x285 0 1 noUnit [fnItem port bar.fn]) [.dict, .ev, .lg] :=
      (Chip.keeps_eventFirst_iff (by decide) (by decide) (by decide) _ _ _ _ _).2 ((Chip.keeps_countAt_iff (by decide) _ _ _).2 (Chip.keeps_refl _ _))
    have hke : ((s.chip.atTime t).countAt E.POISONED_RX port 1).keepsEntries
        ((((s.chip.atTime t).countAt E.POISONED_RX port 1).eventFirst 0x285 0 1 noUnit [fnItem port bar.fn]).aer port bar.fn 3) [] :=
      Chip.keepsEntries_trans (l := []) ((Chip.keepsEntries_eventFirst_iff _ _ _ _ _).2 (Chip.keepsEntries_refl _ _)) (Chip.keepsEntries_of_keeps g2 (by decide) [])
    have hc0 : (s.chip.atTime t).keepsEntries ((s.chip.atTime t).countAt E.POISONED_RX port 1) [E.POISONED_RX] :=
      (Chip.keepsEntries_countAt_iff (by decide) ..).2 (Chip.keepsEntries_refl _ _)
    refine Completes.of_run (exec_poisonedWriteReceived s t port bar) ⟨Chip.mem_out_end g1, Chip.counts_end t (by decide) ?_, ?_, ?_⟩
    · exact (hke E.POISONED_RX port (by decide) (by decide)).trans (Chip.getAt_countAt_same _ _ _ _ (by decide))
    · exact Chip.keeps_ended t (Chip.keeps_mono (Chip.keeps_trans hk g2) (by decide)) (by decide) (by decide)
    · exact Chip.keepsEntries_end t (Chip.keepsEntries_trans hc0 hke)
end

section
/-! Proofs of the family of MCTP and Fliad (R384, R385, R387 to R390). -/
namespace Sys2Proof.Machine

/-! ### How a management row ends -/

/-- The entries that the rows of the management transports change. -/
def mgmtEntries : List Nat := [E.MCTP_MSGS, E.DICT_READS, E.MCTP_EID, E.FLIAD_REQUESTS, E.LUN_SELECT, E.DICT_WRITES]

/-- A row of the management transports on a calm chip: nothing but their state and the dictionary changes, and no unit follows. -/
theorem Completes.of_mgmt {i : Instr} {s : State} {P : Chip → Prop} {t : Nat} {f : Chip → Chip} {c1 : Chip} {l : List Area} {es : List Nat}
    (he : exec i s = runUnits s t f) (hg : f (s.chip.atTime t) = c1) (hk : (s.chip.atTime t).keeps c1 (l ++ [.dict, .ev, .lg]))
    (hl : ∀ p ∈ l, p ∈ [.pm, .mg]) (hks : (s.chip.atTime t).keepsEntries c1 es) (hes : ∀ e ∈ es, e ∈ mgmtEntries) (hc : s.chip.calm)
    (hP : ∀ c : Chip, c.pm = c1.pm → c.mg = c1.mg → (∀ e k, e ∉ eventMeters → c.getAt e k = c1.getAt e k) → (∀ o ∈ c1.out, o ∈ c.out) →
      s.chip.keeps c (l ++ notePart) → s.chip.keepsEntries c es → P c) : Completes i s P := by
  have hl' : ∀ p ∈ l ++ [.dict, .ev, .lg], p ∈ [Area.pm, .mg, .dict, .ev, .lg] := fun p hp => by
    rcases List.mem_append.1 hp with h | h
    · exact List.mem_append_left [.dict, .ev, .lg] (hl p h)
    · exact List.mem_append_right [Area.pm, .mg] h
  have hnot : ∀ q ∉ [Area.pm, .mg, .dict, .ev, .lg], q ∉ l ++ [.dict, .ev, .lg] := fun q hq h => hq (hl' q h)
  have hst : c1.st = s.chip.st := hk .st (hnot _ (by decide))
  have hsb : c1.sb = s.chip.sb := hk .sb (hnot _ (by decide))
  have hcalm : ∀ e ∈ calmEntries, e ∉ mgmtEntries := by decide
  refine Completes.of_calmUnits he hg hk hks (fun p hp => hnot p ?_) (fun e h1 h2 => hcalm e h1 (hes e h2))
    (Chip.partnerStates_of_keeps (c := s.chip.atTime t) hk (hnot _ (by decide)) (hnot _ (by decide))) (by rw [hsb]) (by rw [hst]) (by rw [hst])
    (hk .ft (hnot _ (by decide))) hc (hP _ (by simp) (by simp) (fun e k h => Chip.getAt_end _ _ h) (fun o h => Chip.mem_out_end h)
      (Chip.keeps_ended t (Chip.keeps_mono hk fun p hp => ?_) ?_ fun p hp => List.mem_append_right _ hp) (Chip.keepsEntries_end t hks))
  · revert p; decide
  · rcases List.mem_append.1 hp with h | h
    · exact List.mem_append_left _ h
    · exact List.mem_append_right _ ((by decide : ∀ q ∈ [Area.dict, .ev, .lg], q ∈ notePart) p h)
  · intro h
    rcases List.mem_append.1 h with h | h
    · exact absurd (hl _ h) (by decide)
    · exact absurd h (by decide)

/-! ### The SMBus -/

/-- The held bus of a wake is released. -/
def Chip.busReleased (c : Chip) : Chip := { c with pm := { c.pm with smbusHeld := false } }

/-- A row of the SMBus whose message is good. -/
theorem Completes.of_mctp {i : Instr} {s : State} {P : Chip → Prop} {t : Nat} {f : Chip → Chip} {d : Chip} {es : List Nat} (ha : s.chip.awake = true)
    (hc : s.chip.calm) (he : exec i s = mctpRow s t true f) (hf : f (s.chip.atTime t).busReleased = d)
    (hk : (s.chip.atTime t).busReleased.keeps d [.dict, .ev, .lg]) (hks : (s.chip.atTime t).busReleased.keepsEntries d es) (hes : ∀ e ∈ es, e ∈ mgmtEntries)
    (hP : ∀ c : Chip, c.pm = { s.chip.pm with smbusHeld := false } →
      c.mg = { s.chip.mg with smbAddr := s.chip.get E.MCTP_SMB_ADDR, smbSpeed := s.chip.get E.MCTP_SMB_SPEED } →
      (∀ e k, e ∉ eventMeters → c.getAt e k = d.getAt e k) → (∀ o ∈ d.out, o ∈ c.out) → s.chip.keeps c ([.pm, .mg] ++ notePart) → s.chip.keepsEntries c es →
      P c) : Completes i s P := by
  have hb : (s.chip.atTime t).keeps (s.chip.atTime t).busReleased [.pm] := (Chip.keeps_with_pm (by simp) _).2 (Chip.keeps_refl _ _)
  have hbus : ∀ e ∈ [E.MCTP_SMB_ADDR, E.MCTP_SMB_SPEED], e ∉ mgmtEntries ∧ e ∉ eventMeters := by decide
  have hread : ∀ e ∈ [E.MCTP_SMB_ADDR, E.MCTP_SMB_SPEED], d.get e = s.chip.get e := fun e h =>
    hks e 0 (fun hn => (hbus e h).1 (hes e hn)) (hbus e h).2
  have hpm : d.pm = { s.chip.pm with smbusHeld := false } := hk .pm (by decide)
  have hmg : d.mg = s.chip.mg := hk .mg (by decide)
  refine Completes.of_mgmt (l := [.pm, .mg]) (c1 := d.takeSmb) he ?_ ((Chip.keeps_with_mg (by decide) _).2 ?_) (by decide) (es := es) ?_ hes hc ?_
  · show (s.chip.atTime t).when (s.chip.atTime t).awake (fun c => (f c.busReleased).takeSmb) = _
    rw [Chip.when_true (c := s.chip.atTime t) (b := (s.chip.atTime t).awake) ha, hf]
  · exact Chip.keeps_mono (Chip.keeps_trans hb hk) (by decide)
  · exact (Chip.keepsEntries_dict (b := d.takeSmb) (c := d) rfl).2 (Chip.keepsEntries_trans (Chip.keepsEntries_vals (b := (s.chip.atTime t).busReleased) rfl []) hks)
  · intro c h1 h2 h3 h4 h5 h6
    refine hP c (h1.trans hpm) (h2.trans ?_) h3 h4 h5 h6
    show ({ d.mg with smbAddr := d.get E.MCTP_SMB_ADDR, smbSpeed := d.get E.MCTP_SMB_SPEED } : Mg) = _
    rw [hmg, hread _ (by simp), hread _ (by simp)]

/-- A good answer to a 0x7E message. -/
theorem Chip.mctpReply_frame (c : Chip) (op status : Nat) (fields octets : List Nat) :
    c.keeps (c.mctpReply op status fields octets) [.dict] ∧ c.keepsEntries (c.mctpReply op status fields octets) [E.MCTP_MSGS]
      ∧ .reply .mctp (op + 128) status fields ∈ (c.mctpReply op status fields octets).out ∧ (∀ o ∈ c.out, o ∈ (c.mctpReply op status fields octets).out)
      ∧ c.counts (c.mctpReply op status fields octets) E.MCTP_MSGS 0 1 := by
  unfold Chip.mctpReply
  refine ⟨by simp, ?_, Chip.mem_out_emit _ _, fun o ho => by simp [Chip.emit, ho], Chip.getAt_countAt_same _ _ _ _ (by decide)⟩
  simp only [Chip.keepsEntries_emit_iff]
  exact fun e k h1 h2 => Chip.keepsEntries_countAt c E.MCTP_MSGS 0 1 e k h1 h2

theorem Chip.mctpReads_served {c : Chip} {a n : Nat} (h1 : 1 ≤ n) (h2 : n ≤ 256) (h3 : a % 256 + n ≤ 256) :
    ∃ rs body, rs.length = n ∧ c.mctpReads a n = ((c.count E.DICT_READS n).emit (.recs 0 rs)).mctpReply 1 0 [a, n] body := by
  refine ⟨(c.getRecords .mctp a n).1, mctpBody 1 0 a n 0 (c.getRecords .mctp a n).1, by simp [Chip.getRecords], ?_⟩
  unfold Chip.mctpReads
  rw [if_neg (by omega)]
  rfl

/-- A GET that is served: its records go out, and its counters count. -/
theorem Chip.mctpReads_frame {c : Chip} {a n : Nat} (h1 : 1 ≤ n) (h2 : n ≤ 256) (h3 : a % 256 + n ≤ 256) :
    c.keeps (c.mctpReads a n) [.dict] ∧ c.keepsEntries (c.mctpReads a n) [E.MCTP_MSGS, E.DICT_READS] ∧ .reply .mctp 129 0 [a, n] ∈ (c.mctpReads a n).out
      ∧ (∃ rs, .recs 0 rs ∈ (c.mctpReads a n).out ∧ rs.length = n) ∧ c.counts (c.mctpReads a n) E.MCTP_MSGS 0 1
      ∧ c.counts (c.mctpReads a n) E.DICT_READS 0 n := by
  obtain ⟨rs, body, hlen, he⟩ := c.mctpReads_served h1 h2 h3
  obtain ⟨g1, g2, g3, g4, g5⟩ := ((c.count E.DICT_READS n).emit (.recs 0 rs)).mctpReply_frame 1 0 [a, n] body
  rw [he]
  have hcnt := Chip.keepsEntries_countAt c E.DICT_READS 0 n
  refine ⟨Chip.keeps_mono (Chip.keeps_trans (Chip.keeps_countAt c E.DICT_READS 0 n) g1) (by decide), fun e i q1 q2 => ?_, g3, ⟨rs, g4 _ (Chip.mem_out_emit _ _), hlen⟩, ?_, ?_⟩
  · rw [List.mem_cons, not_or] at q1
    exact (g2 e i (by simpa using q1.1) q2).trans (hcnt e i q1.2 q2)
  · unfold Chip.counts at g5 ⊢
    rw [g5]
    exact congrArg (fun v => min (topOf E.MCTP_MSGS) (v + 1)) (hcnt E.MCTP_MSGS 0 (by decide) (by decide))
  · unfold Chip.counts
    rw [g2 _ _ (by decide) (by decide)]
    exact Chip.getAt_countAt_same _ _ _ _ (by decide)

theorem Chip.writeRecords_lunSelect (c : Chip) (x : Xport) {v : Nat} (hv : v ≤ 2047) :
    c.writeRecords x [lunRec v] = (c.entered E.LUN_SELECT (Xport.item x) v, none, 0) := by
  have hfail : c.recordFails x (lunRec v) = none := by
    unfold Chip.recordFails
    rw [if_neg (by rw [Chip.ignored_false (a := E.LUN_SELECT) (by decide) (by decide)]; decide), Chip.refusal_none (a := E.LUN_SELECT) rfl (by decide) rfl]
    rfl
  have ha : isAction E.LUN_SELECT = false := rfl
  unfold Chip.writeRecords
  simp only [List.length_singleton, List.range_one, List.zip_cons_cons, List.zip_nil_left, List.findSome?_cons, List.findSome?_nil, hfail, Option.map_none,
    List.filter_cons, List.filter_nil, ha, Bool.not_false, if_true, Bool.false_eq_true, if_false, List.foldl_cons, List.foldl_nil]
  rw [show recValue (lunRec v) = (v, 0) from rfl, c.applyWrite_lunSelect x hv]
  rfl

theorem Chip.mctpWrites_lunSelect {c : Chip} {v : Nat} (hw : c.xportWrites .mctp = true) (hv : v ≤ 2047) :
    c.mctpWrites [lunRec v] = (c.entered E.LUN_SELECT (Xport.item .mctp) v).mctpReply 2 0 [1] (mctpBody 2 0 0 1 0 []) := by
  have hk : [lunRec v].any recKept = false := rfl
  unfold Chip.mctpWrites
  rw [if_neg (by simp [hw]), if_neg (by simp)]
  simp only [c.writeRecords_lunSelect .mctp hv, hk, Bool.false_eq_true, and_false, if_false, List.length_singleton]

/-! ### Sessions of Fliad -/

theorem Chip.session_id {c : Chip} {id : Nat} {x : Sess} (h : c.session id = some x) : x.id = id := by
  simpa using List.find?_some h

theorem Chip.session_congr {c d : Chip} (h : d.mg = c.mg) (id : Nat) : d.session id = c.session id := by
  unfold Chip.session
  rw [h]

theorem find_change_same {l : List Sess} {id : Nat} {x : Sess} (h : l.find? (fun s => decide (s.id = id)) = some x) {y : Sess} (hy : y.id = id) :
    (change (fun r => decide (r.id = y.id)) (fun _ => y) l).find? (fun s => decide (s.id = id)) = some y := by
  unfold change
  induction l with
  | nil => simp at h
  | cons a l ih =>
    rw [List.map_cons, List.find?_cons]
    by_cases ha : a.id = id
    · simp [ha, hy]
    · have hl : l.find? (fun s => decide (s.id = id)) = some x := by simpa [ha] using h
      simp [ha, hy]
      simpa [hy] using ih hl

theorem Chip.session_setSession {c : Chip} {id : Nat} {x : Sess} (h : c.session id = some x) {y : Sess} (hy : y.id = x.id) :
    (c.setSession y).session id = some y := find_change_same h (hy.trans (Chip.session_id h))

theorem drop_change_session (l : List Sess) {id : Nat} {y : Sess} (hy : y.id = id) :
    drop' (fun s => decide (s.id = id)) (change (fun r => decide (r.id = y.id)) (fun _ => y) l) = drop' (fun s => decide (s.id = id)) l := by
  subst hy
  unfold drop' change
  induction l with
  | nil => rfl
  | cons a l ih =>
    by_cases ha : a.id = y.id
    · simpa [ha] using ih
    · simpa [ha] using ih

theorem drop_session_eq (l : List Sess) (id : Nat) : drop' (fun s => decide (s.id = id)) l = l.filter fun y => decide (y.id ≠ id) := by
  unfold drop'
  exact List.filter_congr fun y _ => by simp

/-- A request with a good tag, a good header and the next sequence of a session that is open. -/
structure FliadGood (c : Chip) (f : FliadFrame) (x : Sess) : Prop where
  session : c.session f.session = some x
  tag : fliadTag x.key f.octets = f.tag
  version : f.version = 1
  length : f.length ≤ 1024
  next : serialLt 32 x.last f.seq = true

/-- A request counts, and its session has heard. -/
def Chip.requested (c : Chip) (x : Sess) : Chip := (c.setSession { x with lastT := c.now }).count E.FLIAD_REQUESTS 1

/-- A session that keeps its last answer. -/
def Sess.answered (y : Sess) (seq : Nat) (reply frame : List Nat) : Sess := { y with last := seq, reply := reply, frame := frame }

/-- What a request's answer holds. -/
def fliadFields (f : FliadFrame) (op status : Nat) (r : FliadAnswer) : List Nat := (op + 128) :: status :: f.session :: f.seq :: r.fields

/-- An answered request: the session keeps its answer, which goes out. -/
def Chip.answeredBy (x : Sess) (f : FliadFrame) (op : Nat) (w : Chip × Sess × Nat × FliadAnswer) : Chip :=
  (w.1.setSession (w.2.1.answered f.seq (fliadFields f op w.2.2.1 w.2.2.2) (fliadOctets x.key f (op + 128) w.2.2.1 f.session w.2.2.2))).fliadSend
    (fliadFields f op w.2.2.1 w.2.2.2) (fliadOctets x.key f (op + 128) w.2.2.1 f.session w.2.2.2)

theorem Chip.fliadRequest_good {c : Chip} {f : FliadFrame} {x : Sess} (h : FliadGood c f x) (op : Nat) (ex : Chip → Sess → Chip × Sess × Nat × FliadAnswer) :
    c.fliadRequest f op ex = Chip.answeredBy x f op (ex (c.requested x) { x with lastT := c.now }) := by
  unfold Chip.fliadRequest
  simp only [h.session]
  rw [if_neg (by simp [h.tag]), if_neg (by have := h.length; simp [h.version]; omega), if_pos h.next]
  rfl

theorem Chip.requested_frame {c : Chip} {f : FliadFrame} {x : Sess} (h : FliadGood c f x) :
    (c.requested x).session f.session = some { x with lastT := c.now } ∧ c.keeps (c.requested x) [.mg, .dict]
      ∧ c.keepsEntries (c.requested x) [E.FLIAD_REQUESTS] ∧ c.counts (c.requested x) E.FLIAD_REQUESTS 0 1
      ∧ drop' (fun s => decide (s.id = f.session)) (c.requested x).mg.sessions = drop' (fun s => decide (s.id = f.session)) c.mg.sessions := by
  have hid := Chip.session_id h.session
  unfold Chip.requested
  refine ⟨?_, ?_, ?_, Chip.getAt_countAt_same _ _ _ _ (by decide), ?_⟩
  · rw [Chip.session_congr (Chip.keeps_countAt _ _ _ _ .mg (by decide))]
    exact Chip.session_setSession h.session rfl
  · exact (Chip.keeps_countAt_iff (by decide) _ _ _).2 ((Chip.keeps_with_mg (by decide) _).2 (Chip.keeps_refl _ _))
  · exact (Chip.keepsEntries_countAt_iff (by simp) _ _).2 (Chip.keepsEntries_vals rfl _)
  · rw [show (((c.setSession { x with lastT := c.now }).count E.FLIAD_REQUESTS 1)).mg = (c.setSession { x with lastT := c.now }).mg from
      Chip.keeps_countAt _ _ _ _ .mg (by decide)]
    exact drop_change_session _ hid

theorem Chip.keeps_answeredBy (x : Sess) (f : FliadFrame) (op : Nat) (w : Chip × Sess × Nat × FliadAnswer) : w.1.keeps (Chip.answeredBy x f op w) [.mg] :=
  (Chip.keeps_emit_iff _).2 ((Chip.keeps_emit_iff _).2 ((Chip.keeps_with_mg (by decide) _).2 (Chip.keeps_refl _ _)))

/-- The row of a request on a calm chip, from what its execution `w` gives. -/
theorem Completes.of_fliad {i : Instr} {s : State} {P : Chip → Prop} {t op : Nat} {f : FliadFrame} {x : Sess} {g : Chip → Chip}
    {ex : Chip → Sess → Chip × Sess × Nat × FliadAnswer} {w : Chip × Sess × Nat × FliadAnswer} {es : List Nat} (hon : s.chip.fliadOn = true)
    (hc : s.chip.calm) (h : FliadGood s.chip f x) (he : exec i s = fliadRow s t g) (hg : ∀ c, g c = c.fliadRequest f op ex)
    (hw : ex ((s.chip.atTime t).requested x) { x with lastT := (s.chip.atTime t).now } = w) (hid : w.2.1.id = x.id)
    (hk : ((s.chip.atTime t).requested x).keeps w.1 [.dict]) (hks : ((s.chip.atTime t).requested x).keepsEntries w.1 es) (hes : ∀ e ∈ es, e ∈ mgmtEntries)
    (hP : ∀ c : Chip, .reply .fliad (op + 128) w.2.2.1 (f.session :: f.seq :: w.2.2.2.fields) ∈ c.out →
      (∃ y, c.session f.session = some y ∧ y.last = f.seq ∧ y.blockAddr = w.2.1.blockAddr ∧ y.stageEnd = w.2.1.stageEnd) →
      (∀ e k, e ∉ eventMeters → c.getAt e k = w.1.getAt e k) → s.chip.keeps c (.mg :: notePart) → P c) : Completes i s P := by
  have h' : FliadGood (s.chip.atTime t) f x := ⟨h.session, h.tag, h.version, h.length, h.next⟩
  obtain ⟨h1, h2, h3, -, -⟩ := Chip.requested_frame h'
  have hses : w.1.session f.session = some { x with lastT := (s.chip.atTime t).now } :=
    (Chip.session_congr (hk .mg (by decide)) _).trans h1
  refine Completes.of_mgmt (l := [.mg]) (es := E.FLIAD_REQUESTS :: es) (c1 := Chip.answeredBy x f op w) he ?_ ?_ (by decide) ?_ ?_ hc ?_
  · show (s.chip.atTime t).when (s.chip.atTime t).fliadOn g = _
    rw [Chip.when_true (c := s.chip.atTime t) (b := (s.chip.atTime t).fliadOn) hon, hg, Chip.fliadRequest_good h', hw]
  · exact Chip.keeps_mono (Chip.keeps_trans h2 (Chip.keeps_trans hk (Chip.keeps_answeredBy x f op w))) (by decide)
  · refine (Chip.keepsEntries_dict (c := w.1) rfl).2 (Chip.keepsEntries_trans h3 hks)
  · rw [List.forall_mem_cons]
    exact ⟨by decide, hes⟩
  · intro c _ hmg hget hout hkc _
    refine hP c (hout _ (Chip.mem_out_emit _ _)) ⟨w.2.1.answered f.seq (fliadFields f op w.2.2.1 w.2.2.2)
      (fliadOctets x.key f (op + 128) w.2.2.1 f.session w.2.2.2), ?_, rfl, rfl, rfl⟩ hget hkc
    exact (Chip.session_congr hmg _).trans (Chip.session_setSession hses hid)

/-! ### The commands of a session -/

/-- The row of CLOSE on a calm chip. -/
theorem Completes.of_fliadClose {s : State} {t : Nat} {f : FliadFrame} {x : Sess} (hon : s.chip.fliadOn = true) (hc : s.chip.calm) (h : FliadGood s.chip f x)
    (hx : x.last ≠ f.seq) : Completes (.fliadClose t f) s fun c => .reply .fliad 130 0 [f.session, f.seq] ∈ c.out
      ∧ c.mg.sessions = s.chip.mg.sessions.filter (fun y => decide (y.id ≠ f.session)) ∧ s.chip.counts c E.FLIAD_REQUESTS 0 1
      ∧ s.chip.keeps c (.mg :: notePart) := by
  have he : exec (.fliadClose t f) s = fliadRow s t fun c => c.closeSession f := rfl
  have h' : FliadGood (s.chip.atTime t) f x := ⟨h.session, h.tag, h.version, h.length, h.next⟩
  obtain ⟨h1, h2, h3, h4, h5⟩ := Chip.requested_frame h'
  set w : Chip × Sess × Nat × FliadAnswer := ((s.chip.atTime t).requested x, { x with lastT := (s.chip.atTime t).now }, 0, .plain []) with hw
  set y := w.2.1.answered f.seq (fliadFields f 2 w.2.2.1 w.2.2.2) (fliadOctets x.key f (2 + 128) w.2.2.1 f.session w.2.2.2) with hy
  have hses : (Chip.answeredBy x f 2 w).session f.session = some y :=
    (Chip.session_congr (d := Chip.answeredBy x f 2 w) (c := w.1.setSession y) rfl _).trans (Chip.session_setSession h1 rfl)
  have hclose : (s.chip.atTime t).closeSession f = (Chip.answeredBy x f 2 w).endSession f.session 1 := by
    unfold Chip.closeSession
    rw [Chip.fliadRequest_good h']
    simp only [h'.session]
    rw [show ((s.chip.atTime t).requested x, ({ x with lastT := (s.chip.atTime t).now } : Sess), 0, FliadAnswer.plain []) = w from rfl]
    simp only [hses]
    exact if_pos hx
  have hdrop : drop' (fun z => decide (z.id = f.session)) (Chip.answeredBy x f 2 w).mg.sessions = drop' (fun z => decide (z.id = f.session)) s.chip.mg.sessions :=
    (drop_change_session _ (show y.id = f.session from Chip.session_id (c := s.chip) (x := x) h.session)).trans h5
  refine Completes.of_mgmt (l := [.mg]) (es := [E.FLIAD_REQUESTS]) (c1 := (Chip.answeredBy x f 2 w).endSession f.session 1) he ?_ ?_ (by decide) ?_ (by decide) hc ?_
  · show (s.chip.atTime t).when (s.chip.atTime t).fliadOn (fun c => c.closeSession f) = _
    rw [Chip.when_true (c := s.chip.atTime t) (b := (s.chip.atTime t).fliadOn) hon, hclose]
  · refine (Chip.keeps_event_iff (by decide) (by decide) (by decide) _ _ _ _ _).2 ((Chip.keeps_with_mg (by decide) _).2 ?_)
    exact Chip.keeps_mono (Chip.keeps_trans h2 (Chip.keeps_answeredBy x f 2 w)) (by decide)
  · exact (Chip.keepsEntries_event_iff _ _ _ _ _).2 ((Chip.keepsEntries_dict (c := w.1) rfl).2 h3)
  · intro c _ hmg hget hout hkc _
    refine ⟨hout _ ?_, ?_, ?_, hkc⟩
    · exact (congrArg (Out.reply Xport.fliad 130 0 [f.session, f.seq] ∈ ·) (Chip.event_out ..)).mpr (Chip.mem_out_emit _ _)
    · rw [hmg, Chip.endSession, Chip.event_mg]
      exact hdrop.trans (drop_session_eq _ _)
    · unfold Chip.counts
      rw [hget _ _ (by decide), Chip.endSession, Chip.getAt_event _ _ _ _ _ _ (by decide)]
      exact h4

/-- Set Endpoint ID is taken. -/
theorem Chip.mctpControl_frame {c : Chip} {eid : Nat} (h1 : 8 ≤ eid) (h2 : eid ≤ 254) :
    c.keeps (c.mctpControl 1 eid) [.dict, .ev, .lg] ∧ c.keepsEntries (c.mctpControl 1 eid) [E.MCTP_EID, E.MCTP_MSGS]
      ∧ .reply .mctp 1 0 [eid] ∈ (c.mctpControl 1 eid).out ∧ (c.mctpControl 1 eid).get E.MCTP_EID = eid := by
  have he : c.mctpControl 1 eid = (((c.set E.MCTP_EID eid).event 0x584 0 1 noUnit [eid]).count E.MCTP_MSGS 1).emit (.reply .mctp 1 0 [eid]) :=
    if_pos ⟨h1, h2⟩
  rw [he]
  refine ⟨by simp, ?_, Chip.mem_out_emit _ _, ?_⟩
  · exact (Chip.keepsEntries_emit_iff _).2 ((Chip.keepsEntries_countAt_iff (by decide) _ _).2 ((Chip.keepsEntries_event_iff _ _ _ _ _).2
      ((Chip.keepsEntries_setAt_iff (by decide) _ _).2 (Chip.keepsEntries_refl _ _))))
  · refine (Chip.keepsEntries_countAt _ E.MCTP_MSGS 0 1 E.MCTP_EID 0 (by decide) (by decide)).trans ((Chip.getAt_event _ _ _ _ _ _ (by decide)).trans ?_)
    exact (Chip.get_set _ _ _ _).trans (if_pos rfl)

/-- A session is added, under the number that was next. -/
def Chip.withSession (c : Chip) (z : Sess) : Chip :=
  { c with rnd := c.rnd + 1, mg := { c.mg with sessions := c.mg.sessions ++ [z], sessNext := if c.mg.sessNext + 1 = 2 ^ 32 then 1 else c.mg.sessNext + 1 } }

theorem Chip.openSession_taken {c : Chip} {f : FliadFrame} {k : Nat} (htag : fliadTag k f.octets = f.tag) (hv : f.version = 1) (hs : f.session = 0)
    (hl : f.length = 16) (hroom : c.mg.sessions.length < c.get E.FLIAD_SESSIONS_MAX) :
    ∃ nd octets, c.openSession f k = ((c.withSession (Sess.opened c.mg.sessNext (fliadKey k (f.payload % 2 ^ 128) nd c.mg.sessNext) c.now)).event 0x583 0 1 noUnit
      [c.mg.sessNext, 0]).fliadSend [129, 0, c.mg.sessNext, f.seq, nd] octets := by
  have hno : ¬(f.version ≠ 1 ∨ f.session ≠ 0 ∨ f.length ≠ 16) := by omega
  unfold Chip.openSession
  rw [if_neg (by rw [htag]; exact fun h => h rfl), if_neg hno, if_neg (Nat.not_le.2 hroom)]
  exact ⟨c.draw.1 % 2 ^ 128, _, rfl⟩

/-- OPEN opens a session. -/
theorem Chip.openSession_frame {c : Chip} {f : FliadFrame} {k : Nat} (htag : fliadTag k f.octets = f.tag) (hv : f.version = 1) (hs : f.session = 0)
    (hl : f.length = 16) (hroom : c.mg.sessions.length < c.get E.FLIAD_SESSIONS_MAX) :
    (∃ nd, .reply .fliad 129 0 [c.mg.sessNext, f.seq, nd] ∈ (c.openSession f k).out ∧ (c.openSession f k).mg.sessions
        = c.mg.sessions ++ [Sess.opened c.mg.sessNext (fliadKey k (f.payload % 2 ^ 128) nd c.mg.sessNext) c.now])
      ∧ (c.openSession f k).rnd = c.rnd + 1 ∧ c.keeps (c.openSession f k) [.mg, .rnd, .dict, .ev, .lg] ∧ c.keepsEntries (c.openSession f k) [] := by
  obtain ⟨nd, octets, he⟩ := Chip.openSession_taken htag hv hs hl hroom
  generalize hz : Sess.opened c.mg.sessNext (fliadKey k (f.payload % 2 ^ 128) nd c.mg.sessNext) c.now = z at he
  rw [he]
  have hw : c.keeps (c.withSession z) [.mg, .rnd, .dict, .ev, .lg] := by
    intro p hp; cases p <;> first | rfl | exact absurd (by decide) hp
  refine ⟨⟨nd, Chip.mem_out_emit _ _, ?_⟩, ?_, ?_, ?_⟩
  · show ((c.withSession z).event 0x583 0 1 noUnit [c.mg.sessNext, 0]).mg.sessions = _
    rw [Chip.event_mg, hz]
    rfl
  · show ((c.withSession z).event 0x583 0 1 noUnit [c.mg.sessNext, 0]).rnd = _
    rw [Chip.event_rnd]
    rfl
  · exact (Chip.keeps_emit_iff _).2 ((Chip.keeps_emit_iff _).2 ((Chip.keeps_event_iff (by decide) (by decide) (by decide) _ _ _ _ _).2 hw))
  · exact (Chip.keepsEntries_emit_iff _).2 ((Chip.keepsEntries_emit_iff _).2 ((Chip.keepsEntries_event_iff _ _ _ _ _).2 (Chip.keepsEntries_vals rfl _)))

/-- What the row of OPEN does. -/
def Chip.sessionRow (c : Chip) (f : FliadFrame) : Chip :=
  match c.mg.key with
  | none => c
  | some k => c.when c.fliadOn fun c => c.openSession f k

theorem Chip.sessionRow_on {c : Chip} {f : FliadFrame} {k : Nat} (hon : c.fliadOn = true) (hk : c.mg.key = some k) : c.sessionRow f = c.openSession f k := by
  unfold Chip.sessionRow
  rw [hk]
  exact Chip.when_true hon

/-- What the row of an idle session does. -/
def Chip.sessionIdle (c : Chip) (id : Nat) : Chip :=
  match c.session id with
  | none => c
  | some x => c.when (c.isReady && decide (x.lastT + c.get E.FLIAD_IDLE * cycPerSec ≤ c.now)) fun c => c.endSession id 2

theorem Chip.sessionIdle_over {c : Chip} {id : Nat} {x : Sess} (hr : c.isReady = true) (hx : c.session id = some x)
    (hidle : x.lastT + c.get E.FLIAD_IDLE * cycPerSec ≤ c.now) : c.sessionIdle id = c.endSession id 2 := by
  unfold Chip.sessionIdle
  rw [hx]
  exact Chip.when_true (by rw [hr, decide_eq_true hidle]; rfl)

/-- A block of GET_BLOCK from the start of an entry: the session latches its value, and the answer holds the first of it. -/
theorem Chip.fliadBlock_first {f : FliadFrame} {d : Desc} (hd : descOf f.addr = some d) (ho : d.type = .oct) (hoff : f.offset = 0) :
    ∃ ex : Chip → Sess → Chip × Sess × Nat × FliadAnswer, (∀ c : Chip, c.fliadBlock f = c.fliadRequest f 5 ex)
      ∧ ∀ c x, (ex c x).1 = c.count E.DICT_READS 1 ∧ (ex c x).2.1.id = x.id ∧ (ex c x).2.1.blockAddr = f.addr ∧ (ex c x).2.2.1 = 0 := by
  refine ⟨_, fun c => rfl, fun c x => ?_⟩
  simp only [hd, ho, hoff, ne_eq, not_true_eq_false, if_false, if_true, Nat.not_lt_zero, or_self]
  exact ⟨trivial, trivial, trivial, trivial⟩

/-- SET of one LUN_SELECT record. -/
theorem Chip.fliadWrites_lunSelect {f : FliadFrame} {v : Nat} (hv : v ≤ 2047) (hn : f.count = 0) :
    ∃ ex : Chip → Sess → Chip × Sess × Nat × FliadAnswer, (∀ c : Chip, c.fliadWrites f [lunRec v] = c.fliadRequest f 4 ex)
      ∧ ∀ c x, c.xportWrites .fliad = true → ex c x = (c.entered E.LUN_SELECT (Xport.item .fliad) v, x, 0, .plain []) := by
  refine ⟨_, fun c => rfl, fun c x hw => ?_⟩
  have hk : [lunRec v].any recKept = false := rfl
  simp only [hw, c.writeRecords_lunSelect .fliad hv, hk]
  rw [if_neg (by decide), if_neg (by simp [hn])]
  rfl

/-- A first block of SET_BLOCK, not its last. -/
theorem Chip.fliadStage_first {f : FliadFrame} {d : Desc} (hd : descOf f.addr = some d) (ho : d.type = .oct) (hoff : f.offset = 0) (hle : f.length ≤ d.octets)
    (hlast : f.last = false) : ∃ ex : Chip → Sess → Chip × Sess × Nat × FliadAnswer, (∀ c : Chip, c.fliadStage f = c.fliadRequest f 6 ex)
      ∧ ∀ c x, c.xportWrites .fliad = true → (ex c x).1 = c ∧ (ex c x).2.1.id = x.id ∧ (ex c x).2.1.stageEnd = f.length ∧ (ex c x).2.2 = (0, .plain []) := by
  refine ⟨_, fun c => rfl, fun c x hw => ?_⟩
  have hno : ¬(d.type ≠ .oct ∨ d.octets < f.offset + f.length) := by
    rw [hoff, Nat.zero_add]
    rintro (h | h)
    · exact h ho
    · omega
  simp only [hw, hd]
  rw [if_neg (by decide), if_neg hno, if_neg (by rw [hlast]; decide)]
  exact ⟨rfl, rfl, by rw [hoff, Nat.zero_add], rfl⟩

end Sys2Proof.Machine

open Sys2Proof Sys2Proof.Machine

/-- Settles O58: each answer goes out with the fields of its request, and only the transport's own state and counters follow. -/
theorem managementIsAnswered : Obligations.ManagementIsAnswered := by
  intro s t ha hcalm
  have hr : s.chip.isReady = true := (Bool.and_eq_true_iff.1 ha).1
  refine ⟨fun a n h1 h2 h3 => ?_, fun v hv hw => ?_, fun eid h1 h2 => ?_, ?_, fun f k hon hk htag hv hs hl hroom => ?_,
    fun f x hon hx htag hv hl hn hne => ?_, fun id x hx hidle => ?_⟩
  · obtain ⟨g1, g2, g3, ⟨rs, g4, hlen⟩, g5, g6⟩ := Chip.mctpReads_frame (c := (s.chip.atTime t).busReleased) h1 h2 h3
    exact Completes.of_mctp (f := fun c => c.mctpReads a n) ha hcalm rfl rfl (Chip.keeps_mono g1 (by decide)) g2 (by decide) fun c k1 k2 k3 k4 k5 k6 =>
      ⟨k4 _ g3, ⟨rs, k4 _ g4, hlen⟩, k1, k2, (k3 _ _ (by decide)).trans g5, (k3 _ _ (by decide)).trans g6, k5, k6⟩
  · obtain ⟨g1, g2, g3, g4, g5⟩ := Chip.mctpReply_frame ((s.chip.atTime t).busReleased.entered E.LUN_SELECT (Xport.item .mctp) v) 2 0 [1] (mctpBody 2 0 0 1 0 [])
    refine Completes.of_mctp (f := fun c => c.mctpWrites [lunRec v]) (es := [E.LUN_SELECT, E.DICT_WRITES] ++ [E.MCTP_MSGS]) ha hcalm rfl
      (Chip.mctpWrites_lunSelect (c := (s.chip.atTime t).busReleased) hw hv)
      (Chip.keeps_mono (Chip.keeps_trans (Chip.keeps_entered _ _ _ _) g1) (by decide))
      (Chip.keepsEntries_trans (Chip.keepsEntries_entered _ _ _ _) g2) (by decide) fun c _ _ k3 k4 k5 _ => ⟨?_, k4 _ g3, k5⟩
    exact (k3 _ _ (by decide)).trans ((g2 E.LUN_SELECT _ (by decide) (by decide)).trans (Chip.entered_same _ _ _ _))
  · obtain ⟨g1, g2, g3, g4⟩ := Chip.mctpControl_frame (c := (s.chip.atTime t).busReleased) h1 h2
    exact Completes.of_mctp (f := fun c => c.mctpControl 1 eid) ha hcalm rfl rfl g1 g2 (by decide) fun c _ _ k3 k4 k5 k6 =>
      ⟨(k3 _ _ (by decide)).trans g4, k4 _ g3, k5, k6⟩
  · refine Completes.of_when (b := Chip.awake) (f := fun c => (c.count E.MCTP_ERRORS 1).event 0x584 1 1 noUnit []) rfl ha ⟨?_, ?_, ?_⟩
    · exact Chip.counts_end t (by decide) ((Chip.getAt_event _ _ _ _ _ _ (by decide)).trans (Chip.getAt_countAt_same _ _ _ _ (by decide)))
    · exact Chip.keeps_ended t (by simp [notePart]) (by decide) (by decide)
    · exact Chip.keepsEntries_end t (by simp)
  · obtain ⟨⟨nd, g1, g2⟩, g3, g4, g5⟩ := Chip.openSession_frame (c := s.chip.atTime t) htag hv hs hl hroom
    refine Completes.of_run (f := fun c => c.sessionRow f) rfl ?_
    rw [Chip.sessionRow_on (c := s.chip.atTime t) hon hk]
    exact ⟨⟨nd, Chip.mem_out_end g1, by simpa using g2⟩, by simpa using g3, Chip.keeps_ended t (Chip.keeps_mono g4 (by decide)) (by decide) (by decide),
      Chip.keepsEntries_end t g5⟩
  · have h : FliadGood s.chip f x := ⟨hx, htag, hv, hl, hn⟩
    have h' : FliadGood (s.chip.atTime t) f x := ⟨hx, htag, hv, hl, hn⟩
    obtain ⟨-, -, h3, h4, -⟩ := Chip.requested_frame h'
    have hreq : ∀ {c d : Chip}, (∀ e k, e ∉ eventMeters → c.getAt e k = d.getAt e k) →
        d.getAt E.FLIAD_REQUESTS 0 = ((s.chip.atTime t).requested x).getAt E.FLIAD_REQUESTS 0 → s.chip.counts c E.FLIAD_REQUESTS 0 1 :=
      fun hget hd => (hget _ _ (by decide)).trans (hd.trans h4)
    have hreads : ∀ {c : Chip} {n : Nat}, (∀ e k, e ∉ eventMeters → c.getAt e k = (((s.chip.atTime t).requested x).count E.DICT_READS n).getAt e k) →
        s.chip.counts c E.DICT_READS 0 n ∧ s.chip.counts c E.FLIAD_REQUESTS 0 1 := fun {c n} hget =>
      ⟨(hget _ _ (by decide)).trans ((Chip.getAt_countAt_same _ _ _ _ (by decide)).trans
          (congrArg (fun v => min (topOf E.DICT_READS) (v + n)) (h3 E.DICT_READS 0 (by decide) (by decide)))),
        hreq hget (Chip.keepsEntries_countAt _ E.DICT_READS 0 n E.FLIAD_REQUESTS 0 (by decide) (by decide))⟩
    have hrk : ∀ n, ((s.chip.atTime t).requested x).keepsEntries (((s.chip.atTime t).requested x).count E.DICT_READS n) [E.DICT_READS] :=
      fun n e i q1 q2 => Chip.keepsEntries_countAt _ E.DICT_READS 0 n e i q1 q2
    have hxp : ∀ {c : Chip}, s.chip.keepsEntries c [E.FLIAD_REQUESTS] → s.chip.xportWrites .fliad = true → c.xportWrites .fliad = true := fun hk hx => by
      have := hk E.FLIAD_WRITE_ENABLE 0 (by decide) (by decide)
      unfold Chip.xportWrites Chip.get at *
      rw [this]
      exact hx
    refine ⟨Completes.of_fliadClose hon hcalm h hne, fun hc1 hc2 => ?_, fun d hd ho hoff => ?_, fun v hv hcnt hxw => ?_, fun d hxw hd ho hoff hpos hle hlast => ?_⟩
    · refine Completes.of_fliad (g := fun c => c.fliadReads f) (es := [E.DICT_READS]) hon hcalm h rfl (fun c => rfl) (if_neg (by omega)) rfl
        (Chip.keeps_countAt _ _ _ _) (hrk _) (by decide) fun c k1 k2 k3 k4 => ⟨⟨_, k1⟩, ?_, (hreads k3).2, (hreads k3).1, k4⟩
      obtain ⟨y, hy, hl, -⟩ := k2
      rw [hy, Option.map_some, hl]
    · obtain ⟨ex, hg, hex⟩ := Chip.fliadBlock_first hd ho hoff
      obtain ⟨g1, g2, g3, g4⟩ := hex ((s.chip.atTime t).requested x) { x with lastT := (s.chip.atTime t).now }
      refine Completes.of_fliad (g := fun c => c.fliadBlock f) (es := [E.DICT_READS]) hon hcalm h rfl hg rfl g2 (by rw [g1]; exact Chip.keeps_countAt _ _ _ _)
        (by rw [g1]; exact hrk _) (by decide) fun c k1 k2 k3 k4 => ?_
      rw [g1] at k3
      rw [g4] at k1
      obtain ⟨y, hy, hl, hb, -⟩ := k2
      exact ⟨⟨_, k1⟩, by rw [hy, Option.map_some, hl], by rw [hy, Option.map_some, hb, g3], (hreads k3).1, k4⟩
    · obtain ⟨ex, hg, hex⟩ := Chip.fliadWrites_lunSelect (f := f) hv hcnt
      refine Completes.of_fliad (g := fun c => c.fliadWrites f [lunRec v]) (es := [E.LUN_SELECT, E.DICT_WRITES]) hon hcalm h rfl hg (hex _ _ (hxp h3 hxw)) rfl
        (Chip.keeps_entered _ _ _ _) (Chip.keepsEntries_entered _ _ _ _) (by decide) fun c k1 k2 k3 k4 => ?_
      obtain ⟨y, hy, hl, -⟩ := k2
      exact ⟨(k3 _ _ (by decide)).trans (Chip.entered_same _ _ _ _), k1, by rw [hy, Option.map_some, hl], k4⟩
    · obtain ⟨ex, hg, hex⟩ := Chip.fliadStage_first hd ho hoff hle hlast
      obtain ⟨g1, g2, g3, g4⟩ := hex ((s.chip.atTime t).requested x) { x with lastT := (s.chip.atTime t).now } (hxp h3 hxw)
      refine Completes.of_fliad (g := fun c => c.fliadStage f) (es := []) hon hcalm h rfl hg rfl g2 (by rw [g1]; exact Chip.keeps_refl _ _)
        (by rw [g1]; exact Chip.keepsEntries_refl _ _) (by decide) fun c k1 k2 k3 k4 => ?_
      rw [g4] at k1
      obtain ⟨y, hy, hl, -, hb⟩ := k2
      exact ⟨k1, by rw [hy, Option.map_some, hb, g3], by rw [hy, Option.map_some, hl], k4⟩
  · have he : exec (.fliadIdle t id) s = run s t fun c => c.sessionIdle id := rfl
    refine Completes.of_run he ?_
    rw [Chip.sessionIdle_over (c := s.chip.atTime t) hr hx hidle]
    refine ⟨?_, Chip.keeps_ended t ?_ (by decide) (by decide), Chip.keepsEntries_end t ((Chip.keepsEntries_event_iff _ _ _ _ _).2 (Chip.keepsEntries_vals rfl _))⟩
    · rw [Chip.seal_mg, Chip.notices_mg, Chip.endSession, Chip.event_mg, drop_session_eq]
      rfl
    · exact (Chip.keeps_event_iff (by decide) (by decide) (by decide) _ _ _ _ _).2 ((Chip.keeps_with_mg (by decide) _).2 (Chip.keeps_refl _ _))
end

section
/-! Proofs of the family of the sequenced frames (R339, R340, R343, R345, R354). -/
namespace Sys2Proof.Machine

/-! ### A frame that is taken -/

/-- What a valid frame's header leaves of the pair's state, with nothing waiting to be sent (R338, R340). -/
def Pr.heard (p : Pr) (hd : RHdr) (now : Nat) : Pr :=
  let gone := p.window.filter fun f => !serialLt 32 hd.acked f.seq
  let keep := p.window.filter fun f => serialLt 32 hd.acked f.seq
  let clear := (gone.filter fun f => decide (f.kind = 0x20 ∧ nth f.fields 1 = 4)).map fun f => nth f.fields 2
  { p with window := keep, acked := hd.acked, credits := p.credits + hd.credits, slotsOut := p.slotsOut - hd.slots, lastRx := now,
           marks := p.marks.filter fun g => !clear.contains g, mapDirty := if clear = [] then p.mapDirty else some (p.mapDirty.getD now),
           replayT := if keep = [] then none else p.replayT, lastAckT := if !gone.isEmpty then now else p.lastAckT }

theorem Chip.drainRally_none {c : Chip} (hq : c.pr.queue = []) : c.drainRally = c := by
  unfold Chip.drainRally
  rw [hq]
  rfl

theorem Chip.heard_noQueue {c : Chip} (hq : c.pr.queue = []) (hd : RHdr) : c.heard hd = { c with pr := c.pr.heard hd c.now } := by
  have hs : c.heard hd = ({ c with pr := c.pr.heard hd c.now } : Chip).drainRally := rfl
  rw [hs, Chip.drainRally_none (c := { c with pr := c.pr.heard hd c.now }) hq]

/-- The chip that has taken a sequenced frame, before what the frame brings. -/
def Chip.sequenced (c : Chip) (hd : RHdr) : Chip :=
  ({ c with pr := { c.pr.heard hd c.now with recvNext := (hd.seq + 1) % 2 ^ 32, nakFor := none, back := (c.pr.heard hd c.now).back + 1 } }).count
    E.RALLY_FRAMES_RX 1

/-- The conditions on which a sequenced frame is taken, with nothing waiting to be sent. -/
structure Takes (c : Chip) (hd : RHdr) : Prop where
  on : c.rallyOn = true
  joined : c.pr.joined = true
  crc : hd.crcOk = true
  seq : hd.seq = c.pr.recvNext
  queue : c.pr.queue = []

theorem Takes.up {c : Chip} {hd : RHdr} (h : Takes c hd) : c.pr.up = true := (Bool.and_eq_true_iff.1 h.on).1

theorem Chip.takeSeq_next {c : Chip} {hd : RHdr} (h : Takes c hd) (f : Chip → Chip) : c.takeSeq hd f = f (c.sequenced hd) := by
  unfold Chip.takeSeq
  rw [if_neg (by simp [h.on, h.joined]), if_neg (by simp [h.crc]), if_neg (by simp [h.seq]), Chip.heard_noQueue h.queue]
  rfl

theorem Chip.sequenced_frame (c : Chip) (hd : RHdr) : c.keeps (c.sequenced hd) [.pr, .dict] ∧ c.keepsEntries (c.sequenced hd) [E.RALLY_FRAMES_RX]
    ∧ c.counts (c.sequenced hd) E.RALLY_FRAMES_RX 0 1
    ∧ (c.sequenced hd).pr = { c.pr.heard hd c.now with recvNext := (hd.seq + 1) % 2 ^ 32, nakFor := none, back := (c.pr.heard hd c.now).back + 1 } := by
  unfold Chip.sequenced
  refine ⟨(Chip.keeps_countAt_iff (by decide) _ _ _).2 ((Chip.keeps_with_pr (by decide) _).2 (Chip.keeps_refl _ _)),
    (Chip.keepsEntries_countAt_iff (by decide) _ _).2 (Chip.keepsEntries_vals rfl _), Chip.getAt_countAt_same _ _ _ _ (by decide), Chip.countAt_pr _ _ _ _⟩

theorem Completes.of_sequenced {i : Instr} {s : State} {P : Chip → Prop} {t : Nat} {hd : RHdr} {f : Chip → Chip} (h : Takes s.chip hd)
    (he : exec i s = run s t fun c => c.takeSeq hd f)
    (hp : P ((s.chip.atTime t).seal ((s.chip.atTime t).notices (f ((s.chip.atTime t).sequenced hd))))) : Completes i s P :=
  Completes.of_run he (by rw [Chip.takeSeq_next (c := s.chip.atTime t) ⟨h.on, h.joined, h.crc, h.seq, h.queue⟩]; exact hp)

/-! ### Frames of the Rally link that go out -/

theorem Chip.transmit_out (c : Chip) (f : Sent) : (∃ l, .rally f.kind c.pr.sendNext f.xfer l ∈ (c.transmit f).out) ∧ ∀ o ∈ c.out, o ∈ (c.transmit f).out := by
  unfold Chip.transmit
  extract_lets p ack g w t next c1 c2 c3
  have h1 : (∃ l, .rally f.kind c.pr.sendNext f.xfer l ∈ c1.out) ∧ ∀ o ∈ c.out, o ∈ c1.out := by
    refine ⟨⟨frameOctets g.kind (nth g.fields 0) g.seq ack p.back p.slotsFreed g.xfer (typeFields g.kind (g.fields.drop 1)) g.payload, Chip.mem_out_emit _ _⟩,
      fun o ho => ?_⟩
    simp [c1, Chip.emit, ho]
  have h3 : c3.out = c1.out := by unfold c3 c2; split_ifs <;> simp
  split
  · rw [Chip.countAt_out, h3]; exact h1
  · rw [h3]; exact h1

theorem Chip.sendFrame_transmits {c : Chip} (hu : c.pr.up = true) (hq : c.pr.queue = []) (hc : 0 < c.pr.credits) (kind xfer : Nat) (last : Bool) (fields : List Nat)
    (blocks : List Blk) : c.sendFrame kind xfer last fields blocks
      = c.transmit { seq := 0, kind := kind, xfer := xfer, fields := (if last then 1 else 0) :: fields, blocks := blocks } := by
  unfold Chip.sendFrame
  rw [if_neg (by simp [hu]), if_pos ⟨hq, hc⟩]

/-! ### Locks of a staged transfer -/

theorem Chip.keeps_moveHeld (c : Chip) : c.keeps c.moveHeld [.lk] := by
  unfold Chip.moveHeld
  refine Chip.keeps_each (fun d h => ?_) _ _
  dsimp only
  split
  · exact (Chip.keeps_with_lk (by simp) _).2 (Chip.keeps_refl _ _)
  · exact Chip.keeps_refl _ _

theorem Chip.keeps_lockRunsOf (c : Chip) (h : Nat) (runs : List (Nat × Nat × Nat)) (excl owner : Bool) : c.keeps (c.lockRunsOf h runs excl owner) [.lk, .dict] := by
  unfold Chip.lockRunsOf
  split
  · exact Chip.keeps_refl _ _
  · extract_lets c0 seq ls _ k late c1 c2 c3
    have h0 : c.keeps c0 [.lk, .dict] := Chip.keeps_mono c.keeps_moveHeld (by decide)
    have h1 : c.keeps c1 [.lk, .dict] := (Chip.keeps_setAt_iff (by decide) _ _ _).2 ((Chip.keeps_with_lk (by decide) _).2 h0)
    have h2 : c.keeps c2 [.lk, .dict] := by unfold c2; split <;> simp [h1]
    exact (Chip.keeps_setAt_iff (by decide) _ _ _).2 ((Chip.keeps_countAt_iff (by decide) _ _ _).2 h2)

theorem Chip.keeps_lockXfer (c : Chip) (f : Xfer) : c.keeps (c.lockXfer f) [.lk, .dict] := by
  unfold Chip.lockXfer
  split
  · exact Chip.keeps_lockRunsOf _ _ _ _ _
  · exact Chip.keeps_refl _ _

/-- The entries that the locks of a transfer change. -/
def lockEntries : List Nat := [E.RL_NEXT_SEQ, E.RL_SEQ_EPOCH, E.RL_WAITS, E.RL_PEAK]

theorem Chip.keepsEntries_lockXfer (c : Chip) (f : Xfer) : c.keepsEntries (c.lockXfer f) lockEntries := by
  unfold Chip.lockXfer Chip.lockRunsOf
  split
  · split
    · exact Chip.keepsEntries_refl _ _
    · extract_lets c0 seq ls _ k late c1 c2 c3
      have h0 : c.keepsEntries c0 lockEntries := Chip.keepsEntries_of_keeps c.keeps_moveHeld (by decide) _
      have h1 : c.keepsEntries c1 lockEntries := (Chip.keepsEntries_setAt_iff (by decide) _ _).2 (Chip.keepsEntries_trans h0 (Chip.keepsEntries_vals rfl []) |> fun h => Chip.keepsEntries_mono h (by simp))
      have h2 : c.keepsEntries c2 lockEntries := by
        unfold c2
        split
        · exact (Chip.keepsEntries_countAt_iff (by decide) _ _).2 h1
        · exact h1
      exact (Chip.keepsEntries_setAt_iff (by decide) _ _).2 ((Chip.keepsEntries_countAt_iff (by decide) _ _).2 h2)
  · exact Chip.keepsEntries_refl _ _

/-! ### Units that become deallocated or zero -/

theorem SMap.get_dropRun (m : SMap) (first count u : Nat) :
    SMap.get entryDealloc u (m.dropRun first count) = if first ≤ u ∧ u < first + count then entryDealloc else SMap.get entryDealloc u m := by
  unfold SMap.dropRun
  induction m with
  | nil => simp [SMap.get]
  | cons p m ih =>
    by_cases hp : first ≤ p.1 ∧ p.1 < first + count
    · rw [List.filter_cons_of_neg (by simp; omega), ih]
      by_cases hu : first ≤ u ∧ u < first + count
      · simp [hu]
      · have : p.1 ≠ u := fun h => hu (h ▸ hp)
        simp [hu, SMap.get, this]
    · rw [List.filter_cons_of_pos (by simp; omega)]
      by_cases hu : p.1 = u
      · have : ¬(first ≤ u ∧ u < first + count) := hu ▸ hp
        simp [SMap.get, hu, this]
      · simp only [SMap.get, hu, if_false, ih]

theorem SMap.get_putRun (m : SMap) (first count v u : Nat) :
    SMap.get entryDealloc u ((List.range count).foldl (fun m i => m.put entryDealloc (first + i) v) m)
      = if first ≤ u ∧ u < first + count then v else SMap.get entryDealloc u m := by
  induction count with
  | zero => rw [if_neg (by omega)]; rfl
  | succ n ih =>
    rw [List.range_succ, List.foldl_append, List.foldl_cons, List.foldl_nil]
    by_cases hu : u = first + n
    · subst hu
      rw [SMap.get_put_same, if_pos (by omega)]
    · rw [SMap.get_put_ne _ _ hu, ih]
      exact if_congr (by omega) rfl rfl

/-- What a unit without a page reads as: 1 deallocated, 2 zero. -/
def codeEntry (kind : Nat) : Nat := if kind = 1 then entryDealloc else entryZero

theorem Chip.keeps_seqAdvance (c : Chip) : c.keeps c.seqAdvance [.dict] := by
  unfold Chip.seqAdvance
  extract_lets c1
  split <;> simp [c1]

theorem Chip.keeps_append (c : Chip) (kind unit count entry : Nat) : c.keeps (c.append kind unit count entry) [.ft, .dict, .ev, .lg] := by
  unfold Chip.append
  extract_lets s r a s1 c1
  have h1 : c.keeps c1 [.ft, .dict, .ev, .lg] := (Chip.keeps_iff (Chip.keeps_seqAdvance _) (by decide)).2 ((Chip.keeps_with_ft (by decide) _).2 (Chip.keeps_refl _ _))
  split
  · exact (Chip.keeps_eventFirst_iff (by decide) (by decide) (by decide) _ _ _ _ _).2 h1
  · exact h1

/-- A journal record joins its stream, and no other part of the tables changes. -/
theorem Chip.append_ft (c : Chip) (kind unit count entry : Nat) : ∃ l, (c.append kind unit count entry).ft = { c.ft with streams := l } := by
  unfold Chip.append
  extract_lets s r a s1 c1
  have h1 : c1.ft = (c.setStream s1).ft := (c.setStream s1).keeps_seqAdvance .ft (by decide)
  split
  · rw [Chip.eventFirst_ft, h1]
    exact ⟨_, rfl⟩
  · rw [h1]
    exact ⟨_, rfl⟩

theorem Chip.mapChange_ft (c : Chip) (kind unit count entry : Nat) : ∃ l, (c.mapChange kind unit count entry).ft
    = { c.ft with map := JRec.apply c.ft.map { kind := kind, unit := unit, count := count, entry := entry, seq := 0 }, streams := l } :=
  Chip.append_ft _ _ _ _ _

theorem Chip.keeps_mapChange (c : Chip) (kind unit count entry : Nat) : c.keeps (c.mapChange kind unit count entry) [.ft, .dict, .ev, .lg] :=
  Chip.keeps_mono (Chip.keeps_trans (b := { c with ft := { c.ft with map := JRec.apply c.ft.map { kind := kind, unit := unit, count := count, entry := entry, seq := 0 } } })
    ((Chip.keeps_with_ft (l := [.ft]) (by decide) _).2 (Chip.keeps_refl _ _)) (Chip.keeps_append _ _ _ _ _)) (by decide)

theorem Chip.newest_mapChange (c : Chip) (kind unit count entry u : Nat) : (c.mapChange kind unit count entry).newest u = c.newest u := by
  obtain ⟨l, h⟩ := c.mapChange_ft kind unit count entry
  unfold Chip.newest
  rw [h]

theorem Chip.mapOf_mapChange {kind : Nat} (hk : kind = 1 ∨ kind = 2) (c : Chip) (unit count entry u : Nat) :
    (c.mapChange kind unit count entry).mapOf u = if unit ≤ u ∧ u < unit + count then codeEntry kind else c.mapOf u := by
  obtain ⟨l, h⟩ := c.mapChange_ft kind unit count entry
  unfold Chip.mapOf
  rw [h]
  rcases hk with rfl | rfl
  · exact SMap.get_dropRun _ _ _ _
  · exact SMap.get_putRun _ _ _ _ _

theorem Chip.mapOf_mapChanges {kind : Nat} (hk : kind = 1 ∨ kind = 2) {u : Nat} (rs : List (Nat × Nat)) (c : Chip)
    (h : c.mapOf u = codeEntry kind ∨ ∃ r ∈ rs, r.1 ≤ u ∧ u < r.1 + r.2) : (c.each rs fun c r => c.mapChange kind r.1 r.2 0).mapOf u = codeEntry kind := by
  induction rs generalizing c with
  | nil => exact h.elim id fun ⟨_, hr, _⟩ => absurd hr List.not_mem_nil
  | cons r rs ih =>
    refine ih _ ?_
    rw [Chip.mapOf_mapChange hk]
    by_cases hr : r.1 ≤ u ∧ u < r.1 + r.2
    · exact .inl (if_pos hr)
    · rw [if_neg hr]
      rcases h with h | ⟨q, hq, hu⟩
      · exact .inl h
      · rcases List.mem_cons.1 hq with rfl | hq
        · exact absurd hu hr
        · exact .inr ⟨q, hq, hu⟩

/-- Every unit of a list lies in one of its runs. -/
theorem unitRuns_cover (l : List Nat) : ∀ u ∈ l, ∃ r ∈ unitRuns l, r.1 ≤ u ∧ u < r.1 + r.2 := by
  induction l with
  | nil => simp
  | cons v l ih =>
    intro u hu
    unfold unitRuns
    cases hr : unitRuns l with
    | nil =>
      rcases List.mem_cons.1 hu with rfl | hu
      · exact ⟨(u, 1), by simp, by omega⟩
      · obtain ⟨r, h, -⟩ := ih u hu
        rw [hr] at h
        cases h
    | cons r rs =>
      obtain ⟨f, n⟩ := r
      dsimp only
      rcases List.mem_cons.1 hu with rfl | hu
      · split
        · exact ⟨(u, n + 1), by simp, by dsimp only; omega⟩
        · exact ⟨(u, 1), by simp, by dsimp only; omega⟩
      · obtain ⟨q, hq, h1, h2⟩ := ih u hu
        rw [hr] at hq
        split
        · next hj =>
          rcases List.mem_cons.1 hq with rfl | hq
          · exact ⟨(v, n + 1), by simp, by dsimp only at *; omega⟩
          · exact ⟨q, List.mem_cons_of_mem _ hq, h1, h2⟩
        · exact ⟨q, List.mem_cons_of_mem _ hq, h1, h2⟩

/-! ### The newest version of a unit goes -/

/-- What sending a frame reads of the pair's state. -/
def Pr.link (p : Pr) : Bool × List Sent × Nat × Nat × Nat := (p.up, p.queue, p.credits, p.sendNext, p.recvNext)

theorem Chip.freeSlot_frame (c : Chip) (id : Nat) : (c.freeSlot id).ft.dir = c.ft.dir ∧ (c.freeSlot id).ft.map = c.ft.map
    ∧ (c.freeSlot id).ft.slots.Sublist c.ft.slots ∧ (c.freeSlot id).pr.link = c.pr.link := by
  unfold Chip.freeSlot
  split
  · exact ⟨rfl, rfl, List.Sublist.refl _, rfl⟩
  · extract_lets _ c1 c2 _
    have h2 : c2.ft = c1.ft ∧ c2.pr.link = c.pr.link := by
      unfold c2 Chip.guestGone
      split_ifs <;> exact ⟨rfl, rfl⟩
    have h1 : c1.ft.slots.Sublist c.ft.slots := List.filter_sublist
    split
    · exact ⟨(congrArg Ft.dir h2.1 :), (congrArg Ft.map h2.1 :), (congrArg Ft.slots h2.1 :).symm ▸ h1, h2.2⟩
    · exact ⟨(congrArg Ft.dir h2.1 :), (congrArg Ft.map h2.1 :), (congrArg Ft.slots h2.1 :).symm ▸ h1, h2.2⟩

theorem Chip.newest_none_of {c d : Chip} {u : Nat} (hd : SMap.get 0 u d.ft.dir = 0 ∨ SMap.get 0 u d.ft.dir = SMap.get 0 u c.ft.dir)
    (hs : d.ft.slots.Sublist c.ft.slots) (h : c.newest u = none) : d.newest u = none := by
  unfold Chip.newest at *
  dsimp only at *
  rcases hd with h0 | h0
  · exact if_pos h0
  · rw [h0]
    split at h
    · next h1 => exact if_pos h1
    · next h1 =>
      rw [if_neg h1]
      rw [List.find?_eq_none] at h ⊢
      exact fun s hs' => h s (hs.subset hs')

theorem Chip.dropVersion_frame (c : Chip) (v : Nat) : (c.dropVersion v).newest v = none ∧ (∀ u, c.newest u = none → (c.dropVersion v).newest u = none)
    ∧ (c.dropVersion v).pr.link = c.pr.link ∧ c.keeps (c.dropVersion v) [.ft, .st, .pr] := by
  unfold Chip.dropVersion
  split
  · next h => exact ⟨h, fun _ h => h, rfl, Chip.keeps_refl _ _⟩
  · extract_lets dir _ c1 ord
    have hdir : ∀ u, SMap.get 0 u dir = 0 ∨ SMap.get 0 u dir = SMap.get 0 u c.ft.dir := fun u => by
      by_cases hu : u = v
      · exact .inl (by rw [hu]; exact SMap.get_put_same _ _ _ _)
      · exact .inr (SMap.get_put_ne _ _ hu _ _)
    have hdv : SMap.get 0 v dir = 0 := SMap.get_put_same _ _ _ _
    have hz : ∀ d : Chip, d.ft.dir = dir → d.newest v = none := fun d hd => by unfold Chip.newest; rw [hd]; exact if_pos hdv
    have hk1 : c.keeps c1 [.ft, .st, .pr] := (Chip.keeps_with_ft (by decide) _).2 (Chip.keeps_refl _ _)
    split
    · exact ⟨hz _ rfl, fun u hu => Chip.newest_none_of (hdir u) (List.Sublist.refl _) hu, rfl, hk1⟩
    · refine ⟨hz _ (Chip.freeSlot_frame _ _).1, fun u hu => ?_, (Chip.freeSlot_frame _ _).2.2.2, ?_⟩
      · refine Chip.newest_none_of (c := c) ?_ (Chip.freeSlot_frame _ _).2.2.1 hu
        rw [(Chip.freeSlot_frame _ _).1]
        exact hdir u
      · refine (Chip.keeps_iff (Chip.keeps_freeSlot _ _) (by decide)).2 ?_
        exact (Chip.keeps_with_ft (by decide) _).2 hk1

theorem Chip.keeps_clearLost (c : Chip) (u : Nat) : c.keeps (c.clearLost u) [.lost, .dict] := by
  unfold Chip.clearLost
  split
  · exact (Chip.keeps_countAt_iff (by decide) _ _ _).2 (fun p hp => by cases p <;> first | rfl | exact absurd (by decide) hp)
  · exact Chip.keeps_refl _ _

/-- Units that become deallocated or zero: none has a version, and each reads so. -/
theorem Chip.codeUnits_frame {kind : Nat} (hk : kind = 1 ∨ kind = 2) (c : Chip) (us : List Nat) :
    (∀ u ∈ us, (c.codeUnits us kind).mapOf u = codeEntry kind ∧ (c.codeUnits us kind).newest u = none) ∧ (c.codeUnits us kind).pr.link = c.pr.link
      ∧ c.keeps (c.codeUnits us kind) [.ft, .st, .pr, .lost, .dict, .ev, .lg] := by
  unfold Chip.codeUnits
  extract_lets c1
  have hstep : ∀ (d : Chip) v, d.keeps ((d.dropVersion v).clearLost v) [.ft, .st, .pr, .lost, .dict] := fun d v =>
    Chip.keeps_mono (Chip.keeps_trans (d.dropVersion_frame v).2.2.2 (Chip.keeps_clearLost _ v)) (by decide)
  have hnew : ∀ (d : Chip) v u, ((d.dropVersion v).clearLost v).newest u = (d.dropVersion v).newest u := fun d v u =>
    Chip.newest_congr (Chip.keeps_clearLost _ v .ft (by decide)) u
  have hnone : ∀ u ∈ us, c1.newest u = none := fun u hu => by
    have : ∀ (l : List Nat) (d : Chip), d.newest u = none ∨ u ∈ l → (d.each l fun c u => (c.dropVersion u).clearLost u).newest u = none := by
      intro l
      induction l with
      | nil => exact fun d h => h.elim id fun hu => absurd hu List.not_mem_nil
      | cons v l ih =>
        intro d h
        refine ih _ ?_
        rw [hnew]
        rcases h with h | h
        · exact .inl ((d.dropVersion_frame v).2.1 u h)
        · rcases List.mem_cons.1 h with rfl | h
          · exact .inl (d.dropVersion_frame u).1
          · exact .inr h
    exact this us c (.inr hu)
  have hlink : c1.pr.link = c.pr.link := Chip.each_induct (P := fun d => d.pr.link = c.pr.link) (fun d v h => by
    rw [show ((d.dropVersion v).clearLost v).pr = (d.dropVersion v).pr from Chip.keeps_clearLost _ v .pr (by decide), (d.dropVersion_frame v).2.2.1, h]) us rfl
  have hmap : ∀ (d : Chip) (r : Nat × Nat), d.keeps (d.mapChange kind r.1 r.2 0) [.ft, .dict, .ev, .lg] := fun d r => d.keeps_mapChange _ _ _ _
  have hkm := Chip.keeps_each hmap (unitRuns us) c1
  refine ⟨fun u hu => ⟨Chip.mapOf_mapChanges hk _ _ (.inr (unitRuns_cover us u hu)), ?_⟩, ?_, ?_⟩
  · exact Chip.each_induct (P := fun d => d.newest u = none) (fun d r h => (d.newest_mapChange _ _ _ _ u).trans h) _ (hnone u hu)
  · rw [hkm .pr (by decide), hlink]
  · exact Chip.keeps_mono (Chip.keeps_trans (Chip.keeps_each hstep us c) hkm) (by decide)

/-! ### What a frame brings -/

/-- A staged transfer as its first frame opens it. -/
def stagedXfer (hd : RHdr) (m : MirrorFrame) (h : Nat) : Xfer :=
  { id := hd.xfer, h := h, origin := false, slots := 0, mirror := false, done := false, nsid := m.nsid, first := m.unit, count := m.count, fmt := m.fmt,
    whole := m.whole, slba := m.slba, blocks := [], kind := 0, sent := false }

/-- The blocks of a mirror frame, marked as data (0) or metadata (1). -/
def markedBlocks (m : MirrorFrame) (mark : Nat) : List Blk := m.blocks.map fun b => { b with info := mark }

/-- A transfer with more blocks, which still waits for its last frame. -/
def Xfer.grown (f : Xfer) (bs : List Blk) : Xfer := { f with blocks := f.blocks ++ bs, mirror := false }

/-- A transfer in place of another. -/
def Chip.exchanged (c : Chip) (f g : Xfer) : Chip :=
  { c with pr := { c.pr with xfers := change (fun q => decide (q = f)) (fun _ => g) c.pr.xfers } }

/-- A staged transfer opens, and takes its entry of the range-lock table. -/
def Chip.staged (c : Chip) (f : Xfer) : Chip :=
  ({ c with pr := { c.pr with xfers := c.pr.xfers ++ [f] }, nextH := c.nextH + 1 } : Chip).lockXfer f

theorem mem_exchanged {c : Chip} {f : Xfer} (h : f ∈ c.pr.xfers) (g : Xfer) : g ∈ (c.exchanged f g).pr.xfers :=
  List.mem_map.2 ⟨f, h, if_pos (decide_eq_true rfl)⟩

/-- A frame, not the last, of a transfer that is staged. -/
theorem Chip.takeMirror_joins {c : Chip} {hd : RHdr} {f : Xfer} (m : MirrorFrame) (mark : Nat) (hlast : hd.last = false)
    (hn : (c.pr.xfers.any fun f => !f.origin && decide (f.id = hd.xfer ∧ f.kind = 0x21)) = false)
    (hf : (c.pr.xfers.find? fun f => !f.origin && decide (f.id = hd.xfer)) = some f) :
    c.takeMirror hd m mark = c.exchanged f (f.grown (markedBlocks m mark)) := by
  have ha : (c.pr.xfers.any fun f => !f.origin && decide (f.id = hd.xfer)) = true :=
    List.any_eq_true.2 ⟨f, List.mem_of_find?_eq_some hf, List.find?_some (p := fun f : Xfer => !f.origin && decide (f.id = hd.xfer)) hf⟩
  unfold Chip.takeMirror
  rw [if_neg (by simp only [hn]; decide)]
  simp only [ha, if_true, hf, hlast]
  rfl

/-- A frame, not the last, of a transfer that is not staged yet. -/
theorem Chip.takeMirror_opens {c : Chip} {hd : RHdr} (m : MirrorFrame) (mark : Nat) (hlast : hd.last = false)
    (hx : ∀ f ∈ c.pr.xfers, f.origin = true ∨ f.id ≠ hd.xfer) :
    c.takeMirror hd m mark = (c.staged (stagedXfer hd m c.nextH)).exchanged (stagedXfer hd m c.nextH) ((stagedXfer hd m c.nextH).grown (markedBlocks m mark)) := by
  have hno : ∀ p : Xfer → Bool, (∀ f, p f = true → f.origin = false ∧ f.id = hd.xfer) → c.pr.xfers.any p = false := fun p hp => by
    rw [List.any_eq_false]
    intro f hf hpf
    obtain ⟨h1, h2⟩ := hp f hpf
    rcases hx f hf with h | h
    · rw [h1] at h; cases h
    · exact h h2
  have h1 : (c.pr.xfers.any fun f => !f.origin && decide (f.id = hd.xfer ∧ f.kind = 0x21)) = false := hno _ (by simp_all)
  have h2 : (c.pr.xfers.any fun f => !f.origin && decide (f.id = hd.xfer)) = false := hno _ (by simp)
  generalize hg : stagedXfer hd m c.nextH = f
  have hpr : (c.staged f).pr.xfers = c.pr.xfers ++ [f] :=
    congrArg Pr.xfers (Chip.keeps_lockXfer ({ c with pr := { c.pr with xfers := c.pr.xfers ++ [f] }, nextH := c.nextH + 1 } : Chip) f .pr (by decide))
  have hfind : ((c.staged f).pr.xfers.find? fun f => !f.origin && decide (f.id = hd.xfer)) = some f := by
    rw [List.any_eq_false] at h2
    rw [hpr, List.find?_append, List.find?_eq_none.2 h2, ← hg]
    simp [stagedXfer]
  unfold Chip.takeMirror
  rw [if_neg (by simp only [h1]; decide)]
  simp only [h2, Bool.false_eq_true, if_false]
  subst hg
  split
  · next h => exact absurd (hfind.symm.trans h) (by simp)
  · next g h =>
    obtain rfl : stagedXfer hd m c.nextH = g := Option.some.inj (hfind.symm.trans h)
    rw [hlast]
    rfl

theorem Chip.staged_frame (c : Chip) (f : Xfer) : (c.staged f).pr = { c.pr with xfers := c.pr.xfers ++ [f] } ∧ (c.staged f).nextH = c.nextH + 1
    ∧ c.keeps (c.staged f) [.pr, .lk, .nextH, .dict] ∧ c.keepsEntries (c.staged f) lockEntries := by
  have hk := Chip.keeps_lockXfer ({ c with pr := { c.pr with xfers := c.pr.xfers ++ [f] }, nextH := c.nextH + 1 } : Chip) f
  refine ⟨hk .pr (by decide), hk .nextH (by decide), fun p hp => ?_, ?_⟩
  · have h := hk p (fun h => hp (by revert h; cases p <;> decide))
    cases p <;> first | exact h | exact absurd (by decide) hp
  · exact Chip.keepsEntries_trans (l := []) (Chip.keepsEntries_vals rfl _) (Chip.keepsEntries_lockXfer _ f)

/-- A change of the map at the mirror, of units that become deallocated: it is answered. -/
theorem Chip.takeMap_dealloc {c : Chip} {hd : RHdr} (hu : c.pr.up = true) (hq : c.pr.queue = []) (hcr : 0 < c.pr.credits) (unit count : Nat) (entry : List Nat) :
    (∀ u, unit ≤ u → u < unit + count → (c.takeMap hd 1 unit count entry).mapOf u = entryDealloc ∧ (c.takeMap hd 1 unit count entry).newest u = none)
      ∧ (∃ l, .rally 0x13 c.pr.sendNext hd.xfer l ∈ (c.takeMap hd 1 unit count entry).out) ∧ (c.takeMap hd 1 unit count entry).pr.recvNext = c.pr.recvNext
      ∧ c.keeps (c.takeMap hd 1 unit count entry) [.ft, .st, .pr, .lost, .dict, .ev, .lg] := by
  set us := (List.range count).map (unit + ·) with hus
  set c1 := c.codeUnits us 1 with hc1
  set c2 : Chip := { c1 with pr := { c1.pr with newer := c1.pr.newer ++ us } } with hc2
  obtain ⟨g1, g2, g3⟩ := Chip.codeUnits_frame (.inl rfl) c us
  have he : c.takeMap hd 1 unit count entry = c2.sendFrame 0x13 hd.xfer true [] [] := rfl
  obtain ⟨gu, gq, gc, gs, gr⟩ : c1.pr.up = c.pr.up ∧ c1.pr.queue = c.pr.queue ∧ c1.pr.credits = c.pr.credits ∧ c1.pr.sendNext = c.pr.sendNext
      ∧ c1.pr.recvNext = c.pr.recvNext := by simpa [Pr.link] using g2
  have hk : c2.keeps (c2.sendFrame 0x13 hd.xfer true [] []) [.pr, .dict] := Chip.keeps_sendFrame _ _ _ _ _ _
  have hft : (c2.sendFrame 0x13 hd.xfer true [] []).ft = c1.ft := hk .ft (by decide)
  rw [he]
  refine ⟨fun u h1 h2 => ?_, ?_, ?_, ?_⟩
  · obtain ⟨hm, hn⟩ := g1 u (List.mem_map.2 ⟨u - unit, by rw [List.mem_range]; omega, by omega⟩)
    exact ⟨(Chip.mapOf_congr hft u).trans hm, (Chip.newest_congr hft u).trans hn⟩
  · rw [Chip.sendFrame_transmits (c := c2) (gu.trans hu) (gq.trans hq) (gc.symm ▸ hcr), ← gs]
    exact (Chip.transmit_out c2 _).1
  · exact (congrArg Pr.recvNext (Chip.sendFrame_held c2 0x13 hd.xfer true [] []) :).trans gr
  · exact (Chip.keeps_iff hk (by decide)).2 ((Chip.keeps_with_pr (by decide) _).2 g3)

theorem Chip.resyncDone_out {c : Chip} (h : c.get E.PAIR_STATE ≠ 2) : c.resyncDone = c := by
  unfold Chip.resyncDone
  exact if_pos (.inl h)

theorem Chip.keeps_mirrorEnds (c : Chip) (h : Nat) : c.keeps (c.mirrorEnds h) [.cmds] := by
  unfold Chip.mirrorEnds Chip.dropCmd
  split
  · exact Chip.keeps_refl _ _
  · split_ifs
    · exact Chip.keeps_refl _ _
    · exact (Chip.keeps_with_cmds (by decide) _).2 (Chip.keeps_refl _ _)
    · exact Chip.keeps_setCmd _ _

/-- DONE for a transfer of this side, outside a resynchronisation. -/
theorem Chip.takeDone_ends {c : Chip} {hd : RHdr} {f : Xfer} (hp : c.get E.PAIR_STATE ≠ 2)
    (hf : (c.pr.xfers.find? fun f => f.origin && decide (f.id = hd.xfer)) = some f) :
    (c.takeDone hd).pr = { c.pr with xfers := c.pr.xfers.erase f } ∧ c.keeps (c.takeDone hd) [.pr, .cmds] := by
  set c1 := ({ c with pr := { c.pr with xfers := c.pr.xfers.erase f } } : Chip).mirrorEnds f.h with hc1
  have hk := Chip.keeps_mirrorEnds ({ c with pr := { c.pr with xfers := c.pr.xfers.erase f } } : Chip) f.h
  have he : c.takeDone hd = c1 := by
    unfold Chip.takeDone
    simp only [hf]
    exact Chip.resyncDone_out (by rw [show c1.get E.PAIR_STATE = c.get E.PAIR_STATE from Chip.keepsEntries_of_keeps hk (by decide) [] _ _ (by decide) (by decide)]; exact hp)
  rw [he]
  exact ⟨hk .pr (by decide), (Chip.keeps_iff hk (by decide)).2 ((Chip.keeps_with_pr (by decide) _).2 (Chip.keeps_refl _ _))⟩

theorem Chip.freeSlot_xfers (c : Chip) (id : Nat) : (c.freeSlot id).pr.xfers = c.pr.xfers := by
  unfold Chip.freeSlot
  split
  · rfl
  · extract_lets _ c1 c2 _
    have h2 : c2.pr.xfers = c.pr.xfers := by
      unfold c2 Chip.guestGone
      split_ifs <;> rfl
    split <;> exact h2

theorem Chip.freeSlot_gone (c : Chip) (id : Nat) : ∀ sl ∈ (c.freeSlot id).ft.slots, sl.id ≠ id := by
  unfold Chip.freeSlot
  split
  · next h => exact fun sl hs he => absurd (List.find?_eq_none.1 h sl hs) (by simp [he])
  · extract_lets _ c1 c2 _
    have h2 : c2.ft = c1.ft := by
      unfold c2 Chip.guestGone
      split_ifs <;> rfl
    have h1 : ∀ sl ∈ c1.ft.slots, sl.id ≠ id := fun sl hs => by simpa using (List.mem_filter.1 hs).2
    rw [← h2] at h1
    split <;> exact h1

/-- Tables, transfers and the sending side are those of another chip. -/
def Chip.sameSlots (a d : Chip) : Prop := d.ft = a.ft ∧ d.pr.xfers = a.pr.xfers ∧ d.pr.link = a.pr.link

/-- Beyond the slots, what a handle gives back is no part of the tables, the transfers or the sending side. -/
theorem Chip.sameSlots_giveBack (c : Chip) (h : Nat) :
    (c.each ((c.ft.slots.filter fun s => decide (s.h = h) && s.wseq.isNone).map Slot.id) Chip.freeSlot).sameSlots (c.giveBack h) := by
  unfold Chip.giveBack
  extract_lets ids c1 _ _ c2 c3
  have h2 : c1.sameSlots c2 := by
    unfold c2
    split <;> exact ⟨rfl, rfl, rfl⟩
  have h3 : c2.sameSlots c3 := by
    unfold c3
    split <;> exact ⟨rfl, rfl, rfl⟩
  exact ⟨h3.1.trans h2.1, h3.2.1.trans h2.2.1, h3.2.2.trans h2.2.2⟩

/-- What a handle gives back: its slots that wait for their write, and nothing of the transfers. -/
theorem Chip.giveBack_slots (c : Chip) (h : Nat) : (∀ sl ∈ (c.giveBack h).ft.slots, sl.h = h → sl.wseq.isSome = true)
    ∧ (c.giveBack h).pr.xfers = c.pr.xfers ∧ (c.giveBack h).pr.link = c.pr.link := by
  obtain ⟨hft, hpr⟩ := c.sameSlots_giveBack h
  set ids := (c.ft.slots.filter fun s => decide (s.h = h) && s.wseq.isNone).map Slot.id with hids
  set c1 := c.each ids Chip.freeSlot with hc1
  have hx : c1.pr.xfers = c.pr.xfers ∧ c1.pr.link = c.pr.link := Chip.each_induct (P := fun d => d.pr.xfers = c.pr.xfers ∧ d.pr.link = c.pr.link)
    (fun d i hd => ⟨(d.freeSlot_xfers i).trans hd.1, (d.freeSlot_frame i).2.2.2.trans hd.2⟩) ids ⟨rfl, rfl⟩
  have hs : ∀ (l : List Nat) (d : Chip), (∀ sl ∈ d.ft.slots, sl ∈ c.ft.slots) → (∀ sl ∈ (d.each l Chip.freeSlot).ft.slots, sl ∈ d.ft.slots ∧ sl.id ∉ l) := by
    intro l
    induction l with
    | nil => exact fun d hd sl hsl => ⟨hsl, List.not_mem_nil⟩
    | cons i l ih =>
      intro d hd sl hsl
      have hsub := (d.freeSlot_frame i).2.2.1.subset
      obtain ⟨h1, h2⟩ := ih (d.freeSlot i) (fun q hq => hd q (hsub hq)) sl hsl
      exact ⟨hsub h1, List.not_mem_cons_of_ne_of_not_mem (d.freeSlot_gone i sl h1) h2⟩
  refine ⟨fun sl hsl hh => ?_, hpr.1.trans hx.1, hpr.2.trans hx.2⟩
  rw [hft] at hsl
  obtain ⟨h1, h2⟩ := hs ids c (fun _ h => h) sl hsl
  rw [← Option.not_isNone, Bool.not_eq_true']
  by_contra hn
  exact h2 (List.mem_map.2 ⟨sl, List.mem_filter.2 ⟨h1, by simpa [hh] using hn⟩, rfl⟩)

/-- The last frame of a copied unit that is deallocated or zero at the partner. -/
theorem Chip.takeCopy_coded {c : Chip} {hd : RHdr} {m : MirrorFrame} (hn : c.pr.newer.contains m.unit = false) (mark : Nat) {state : Nat} (hs : state ≠ 0) :
    ∃ l, c.takeCopy hd m mark state = ({ c with pr := { c.pr with xfers := l } } : Chip).codeUnits [m.unit] state := by
  unfold Chip.takeCopy
  extract_lets bs f0 f g rest l _ c1
  rw [if_neg (fun h => hs h.2), if_neg (by rw [show c1.pr.newer = c.pr.newer from rfl, hn]; decide), if_pos hs]
  exact ⟨rest, rfl⟩

/-- What ABORT does. -/
def Chip.abortRow (c : Chip) (hd : RHdr) : Chip :=
  match c.pr.xfers.find? fun f => !f.origin && decide (f.id = hd.xfer) with
  | none => c
  | some f => c.discardXfer f

theorem Chip.abortRow_staged {c : Chip} {hd : RHdr} {f : Xfer} (hf : (c.pr.xfers.find? fun f => !f.origin && decide (f.id = hd.xfer)) = some f) :
    c.abortRow hd = c.discardXfer f := by
  unfold Chip.abortRow
  rw [hf]

/-- A transfer that is discarded holds no lock, and no slot that waits for its write. -/
theorem Chip.discardXfer_frame (c : Chip) (f : Xfer) : (c.discardXfer f).pr.xfers = c.pr.xfers.erase f ∧ (c.discardXfer f).pr.recvNext = c.pr.recvNext
    ∧ (∀ l ∈ (c.discardXfer f).lk.main ++ (c.discardXfer f).lk.held, l.h ≠ f.h)
    ∧ ∀ sl ∈ (c.discardXfer f).ft.slots, sl.h = f.h → sl.wseq.isSome = true := by
  obtain ⟨h1, h2, h3⟩ := ({ c with pr := { c.pr with xfers := c.pr.xfers.erase f } } : Chip).giveBack_slots f.h
  refine ⟨h2, congrArg (fun p => p.2.2.2.2) h3, fun l hl => ?_, h1⟩
  have : ∀ k : Lk, ∀ l ∈ (k.release f.h).main ++ (k.release f.h).held, l.h ≠ f.h := fun k l hl => by
    rcases List.mem_append.1 hl with h | h
    · simpa using (List.mem_filter.1 h).2
    · simpa using (List.mem_filter.1 h).2
  exact this _ l hl

end Sys2Proof.Machine

open Sys2Proof Sys2Proof.Machine

/-- Settles O52: a frame with the sequence expected is counted, and what it brings is done on the chip that has taken it. -/
theorem mirrorFramesAreTaken : Obligations.MirrorFramesAreTaken := by
  intro s t hd hon hj hcrc hseq hq
  have hT : Takes s.chip hd := ⟨hon, hj, hcrc, hseq, hq⟩
  obtain ⟨hk, hke, hcnt, hpr⟩ := (s.chip.atTime t).sequenced_frame hd
  generalize hd1 : (s.chip.atTime t).sequenced hd = d at hk hke hcnt hpr
  have hrecv : d.pr.recvNext = (hd.seq + 1) % 2 ^ 32 := by rw [hpr]
  have hxf : d.pr.xfers = s.chip.pr.xfers := by rw [hpr]; rfl
  have hft : d.ft = s.chip.ft := hk .ft (by decide)
  have hrow : ∀ {i : Instr} {f : Chip → Chip} {P : Chip → Prop}, exec i s = (run s t fun c => c.takeSeq hd f) →
      P ((s.chip.atTime t).seal ((s.chip.atTime t).notices (f d))) → Completes i s P := fun he hp => Completes.of_sequenced hT he (by rw [hd1]; exact hp)
  have hkeeps : ∀ {c1 : Chip} (m : List Area), d.keeps c1 m → .fuse ∉ [.pr, .dict] ++ m ++ notePart →
      s.chip.keeps ((s.chip.atTime t).seal ((s.chip.atTime t).notices c1)) ([.pr, .dict] ++ m ++ notePart) := fun m h hm =>
    Chip.keeps_ended t (Chip.keeps_mono (Chip.keeps_trans hk h) fun p hp => List.mem_append_left _ hp) hm fun p hp => List.mem_append_right _ hp
  have hent : ∀ {c1 : Chip} (es : List Nat), d.keepsEntries c1 es →
      s.chip.keepsEntries ((s.chip.atTime t).seal ((s.chip.atTime t).notices c1)) ([E.RALLY_FRAMES_RX] ++ es) := fun es h =>
    Chip.keepsEntries_end t (Chip.keepsEntries_trans hke h)
  have hrx : ∀ {c1 : Chip} (es : List Nat), d.keepsEntries c1 es → E.RALLY_FRAMES_RX ∉ es →
      s.chip.counts ((s.chip.atTime t).seal ((s.chip.atTime t).notices c1)) E.RALLY_FRAMES_RX 0 1 := fun es h hn =>
    Chip.counts_end t (by decide) ((h _ _ hn (by decide)).trans hcnt)
  refine ⟨fun m hl hx => ?_, fun m f hl hf h21 => ?_, fun unit nsid count entry hcr => ?_, fun f hp hf => ?_, fun f hf => ?_, fun index gs es => ?_,
    fun m state hn hs => ?_⟩
  · refine hrow (f := fun c => c.takeMirror hd m 0) rfl ?_
    rw [Chip.takeMirror_opens m 0 hl (by rw [hxf]; exact hx)]
    obtain ⟨g1, g2, g3, g4⟩ := d.staged_frame (stagedXfer hd m d.nextH)
    have hk2 : d.keeps ((d.staged (stagedXfer hd m d.nextH)).exchanged (stagedXfer hd m d.nextH) ((stagedXfer hd m d.nextH).grown (markedBlocks m 0)))
        [.pr, .lk, .nextH, .dict] := (Chip.keeps_with_pr (by decide) _).2 g3
    refine ⟨⟨(stagedXfer hd m d.nextH).grown (markedBlocks m 0), ?_, rfl, rfl, ?_, rfl, rfl, rfl, List.nil_append _⟩, ?_, ?_, hrx lockEntries ?_ (by decide), Chip.keeps_mono (hkeeps _ hk2 (by decide)) (by decide)⟩
    · rw [Chip.seal_pr, Chip.notices_pr]
      exact mem_exchanged (by rw [g1]; simp) _
    · exact hk .nextH (by decide)
    · rw [Chip.seal_nextH, Chip.notices_nextH]
      exact g2.trans (congrArg (· + 1) (hk .nextH (by decide)))
    · rw [Chip.seal_pr, Chip.notices_pr]
      exact (congrArg Pr.recvNext g1).trans hrecv
    · exact (Chip.keepsEntries_dict (c := d.staged (stagedXfer hd m d.nextH)) rfl).2 g4
  · refine hrow (f := fun c => c.takeMirror hd m 1) rfl ?_
    have hno : (d.pr.xfers.any fun f => !f.origin && decide (f.id = hd.xfer ∧ f.kind = 0x21)) = false := by
      rw [hxf, List.any_eq_false]
      exact fun g hg h => by
        obtain ⟨h1, h2, h3⟩ := by simpa using h
        exact h21 g hg h1 h2 h3
    rw [Chip.takeMirror_joins m 1 hl hno (by rw [hxf]; exact hf)]
    have hk2 : d.keeps (d.exchanged f (f.grown (markedBlocks m 1))) [.pr] := (Chip.keeps_with_pr (by decide) _).2 (Chip.keeps_refl _ _)
    have hke2 : d.keepsEntries (d.exchanged f (f.grown (markedBlocks m 1))) [] := Chip.keepsEntries_vals rfl _
    refine ⟨?_, ?_, hrx [] hke2 (by decide), Chip.keeps_mono (hkeeps _ hk2 (by decide)) (by decide), hent [] hke2⟩
    · rw [Chip.seal_pr, Chip.notices_pr]
      exact mem_exchanged (by rw [hxf]; exact List.mem_of_find?_eq_some hf) _
    · rw [Chip.seal_pr, Chip.notices_pr]
      exact hrecv
  · have he : exec (.mirrorMap t hd 1 unit nsid count entry) s = run s t fun c => c.takeSeq hd fun c => c.takeMap hd 1 unit count entry := rfl
    refine hrow he ?_
    obtain ⟨g1, g2, g3, g4⟩ := Chip.takeMap_dealloc (c := d) (hd := hd) (by rw [hpr]; exact hT.up) (by rw [hpr]; exact hq)
      (by rw [hpr]; exact Nat.add_pos_left hcr _) unit count entry
    obtain ⟨l, g2⟩ := g2
    refine ⟨fun u h1 h2 => ?_, ⟨l, Chip.mem_out_end ?_⟩, ?_, Chip.keeps_mono (hkeeps _ g4 (by decide)) (by decide)⟩
    · exact ⟨(Chip.mapOf_congr (by simp) u).trans (g1 u h1 h2).1, (Chip.newest_congr (by simp) u).trans (g1 u h1 h2).2⟩
    · rw [hpr] at g2
      exact g2
    · rw [Chip.seal_pr, Chip.notices_pr]
      exact g3.trans hrecv
  · refine hrow (f := fun c => c.takeDone hd) rfl ?_
    have hst : d.get E.PAIR_STATE ≠ 2 := by rw [show d.get E.PAIR_STATE = s.chip.get E.PAIR_STATE from hke _ _ (by decide) (by decide)]; exact hp
    obtain ⟨g1, g2⟩ := Chip.takeDone_ends hst (by rw [hxf]; exact hf)
    have hke2 := Chip.keepsEntries_of_keeps g2 (by decide) []
    refine ⟨?_, ?_, hrx [] hke2 (by decide), Chip.keeps_mono (hkeeps _ g2 (by decide)) (by decide), hent [] hke2⟩
    · rw [Chip.seal_pr, Chip.notices_pr, g1, ← hxf]
    · rw [Chip.seal_pr, Chip.notices_pr, g1]
      exact hrecv
  · have he : exec (.abortFrame t hd) s = run s t fun c => c.takeSeq hd fun c => c.abortRow hd := rfl
    refine hrow he ?_
    rw [Chip.abortRow_staged (by rw [hxf]; exact hf)]
    obtain ⟨g1, g2, g3, g4⟩ := d.discardXfer_frame f
    refine ⟨?_, ?_, ?_, ?_⟩
    · rw [Chip.seal_pr, Chip.notices_pr, g1, hxf]
    · rw [Chip.seal_lk, Chip.notices_lk]
      exact g3
    · rw [Chip.seal_ft, Chip.notices_ft]
      exact g4
    · rw [Chip.seal_pr, Chip.notices_pr, g2]
      exact hrecv
  · refine hrow (f := fun c => c.takeCtrl 1 index gs es) rfl ?_
    have hk2 : d.keeps (d.takeCtrl 1 index gs es) [.pr] := (Chip.keeps_with_pr (by decide) _).2 (Chip.keeps_refl _ _)
    refine ⟨?_, ?_, Chip.keeps_mono (hkeeps _ hk2 (by decide)) (by decide), hent [] (Chip.keepsEntries_vals rfl _)⟩
    · rw [Chip.seal_pr, Chip.notices_pr]
      show d.pr.peerMarks ++ gs.filter (fun g => !d.pr.peerMarks.contains g) = _
      rw [hpr]
      rfl
    · rw [Chip.seal_pr, Chip.notices_pr]
      exact hrecv
  · refine hrow (f := fun c => c.takeCopy hd m 0 state) rfl ?_
    obtain ⟨l, he⟩ := Chip.takeCopy_coded (c := d) (hd := hd) (m := m) (by rw [hpr]; exact hn) 0 (by omega : state ≠ 0)
    obtain ⟨g1, g2, g3⟩ := Chip.codeUnits_frame hs ({ d with pr := { d.pr with xfers := l } } : Chip) [m.unit]
    rw [← he] at g1 g2 g3
    have hk2 : d.keeps (d.takeCopy hd m 0 state) [.ft, .st, .pr, .lost, .dict, .ev, .lg] :=
      (Chip.keeps_iff g3 fun _ h => h).2 ((Chip.keeps_with_pr (by decide) _).2 (Chip.keeps_refl _ _))
    refine ⟨?_, ?_, ?_, Chip.keeps_mono (hkeeps _ hk2 (by decide)) (by decide)⟩
    · exact (Chip.mapOf_congr (by simp) _).trans (g1 _ (List.mem_singleton_self _)).1
    · exact (Chip.newest_congr (by simp) _).trans (g1 _ (List.mem_singleton_self _)).2
    · rw [Chip.seal_pr, Chip.notices_pr]
      exact (congrArg (fun p => p.2.2.2.2) g2 :).trans hrecv
end

section
/-! Proofs of the family of unsequenced frames and joining (R340, R342, R344). -/
namespace Sys2Proof.Machine

/-! ### Frames that wait go out -/

theorem Chip.drainN_frame (n : Nat) (c : Chip) : (Chip.drainN n c).pr.held = c.pr.held ∧ c.keeps (Chip.drainN n c) [.pr, .dict]
    ∧ c.keepsEntries (Chip.drainN n c) sendEntries := by
  induction n generalizing c with
  | zero => exact ⟨rfl, Chip.keeps_refl _ _, Chip.keepsEntries_refl _ _⟩
  | succ n ih =>
    unfold Chip.drainN
    split
    · exact ⟨rfl, Chip.keeps_refl _ _, Chip.keepsEntries_refl _ _⟩
    · next f r hq =>
      split
      · exact ⟨rfl, Chip.keeps_refl _ _, Chip.keepsEntries_refl _ _⟩
      · obtain ⟨h1, h2, h3⟩ := ih (({ c with pr := { c.pr with queue := r } } : Chip).transmit f)
        refine ⟨h1.trans (Chip.transmit_held _ f), (Chip.keeps_iff h2 fun _ h => h).2 ?_, (Chip.keepsEntries_iff h3 fun _ h => h).2 ?_⟩
        · exact (Chip.keeps_iff (Chip.keeps_transmit _ f) (by decide)).2 ((Chip.keeps_with_pr (by decide) _).2 (Chip.keeps_refl _ _))
        · exact (Chip.keepsEntries_iff (Chip.keepsEntries_transmit _ f) fun _ h => h).2 (Chip.keepsEntries_vals rfl _)

/-- What a valid frame's header changes: the pair, and the counters of frames that went out. -/
theorem Chip.heard_frame (c : Chip) (hd : RHdr) : (c.heard hd).pr.held = (c.pr.heard hd c.now).held ∧ c.keeps (c.heard hd) [.pr, .dict]
    ∧ c.keepsEntries (c.heard hd) sendEntries := by
  obtain ⟨h1, h2, h3⟩ := Chip.drainN_frame c.pr.queue.length ({ c with pr := c.pr.heard hd c.now } : Chip)
  exact ⟨h1, (Chip.keeps_iff h2 fun _ h => h).2 ((Chip.keeps_with_pr (by decide) _).2 (Chip.keeps_refl _ _)),
    (Chip.keepsEntries_iff h3 fun _ h => h).2 (Chip.keepsEntries_vals rfl _)⟩

theorem Chip.takePlain_good {c : Chip} {hd : RHdr} (hon : c.rallyOn = true) (hc : hd.crcOk = true) (f : Chip → Chip) : c.takePlain hd f = f (c.heard hd) := by
  unfold Chip.takePlain
  rw [if_neg (by simp [hon]), if_neg (by simp [hc])]

/-! ### A HELLO -/

theorem Chip.sendPlain_frame (c : Chip) (kind : Nat) (fields : List Nat) : (c.sendPlain kind fields).pr.held = c.pr.held
    ∧ c.keeps (c.sendPlain kind fields) [.pr] := by
  unfold Chip.sendPlain
  extract_lets p ack
  split
  · exact ⟨rfl, Chip.keeps_refl _ _⟩
  · exact ⟨rfl, (Chip.keeps_emit_iff _).2 ((Chip.keeps_with_pr (by decide) _).2 (Chip.keeps_refl _ _))⟩

theorem Chip.helloBad_congr {b c : Chip} {f : HelloFrame} (h1 : c.get E.PAIR_IDENTITY = b.get E.PAIR_IDENTITY) (h2 : c.pr.strap = b.pr.strap)
    (h3 : c.ft.nss = b.ft.nss) : c.helloBad f = b.helloBad f := by
  unfold Chip.helloBad
  rw [h1, h2, h3]

theorem Chip.joinIdentity_congr {b c : Chip} {f : HelloFrame} (h1 : c.get E.PAIR_IDENTITY = b.get E.PAIR_IDENTITY) (h2 : c.pr.strap = b.pr.strap)
    (h3 : c.fuse = b.fuse) : c.joinIdentity f = b.joinIdentity f := by
  unfold Chip.joinIdentity
  rw [h1, h2, h3]

theorem mem_markRegions {c : Chip} {gs : List Nat} {g : Nat} (h : g ∈ gs) : g ∈ (c.markRegions gs).pr.marks := by
  unfold Chip.markRegions
  dsimp only
  by_cases hm : g ∈ c.pr.marks
  · exact List.mem_append_left _ hm
  · exact List.mem_append_right _ (List.mem_filter.2 ⟨List.mem_eraseDups.2 h, by simpa using hm⟩)

theorem Chip.sendMaps_frame (c : Chip) : c.sendMaps.pr.held = c.pr.held ∧ c.keepsEntries c.sendMaps sendEntries := by
  unfold Chip.sendMaps
  extract_lets c1 us c2
  have h1 : c1.pr.held = c.pr.held ∧ c.keepsEntries c1 sendEntries :=
    ⟨Chip.each_induct (P := fun d => d.pr.held = c.pr.held) (fun d k h => (Chip.sendFrame_held ..).trans h) _ rfl,
      Chip.keepsEntries_each (fun d k => Chip.keepsEntries_sendFrame d _ _ _ _ _) _ _⟩
  have h2 : c2.pr.held = c.pr.held ∧ c.keepsEntries c2 sendEntries :=
    ⟨Chip.each_induct (P := fun d => d.pr.held = c.pr.held) (fun d k h => (Chip.sendFrame_held ..).trans h) _ h1.1,
      (Chip.keepsEntries_each_iff (fun d k => Chip.keepsEntries_sendFrame d _ _ _ _ _) _).2 h1.2⟩
  exact ⟨(Chip.sendFrame_held ..).trans h2.1, (Chip.keepsEntries_sendFrame_iff (fun _ h => h) _ _ _ _ _).2 h2.2⟩

/-- What follows a join changes the sending side of the link, and the state of the pair. -/
theorem Chip.afterJoin_frame (c : Chip) : c.afterJoin.pr.held = c.pr.held ∧ c.keeps c.afterJoin [.pr, .dict, .ev, .lg]
    ∧ c.keepsEntries c.afterJoin (E.PAIR_STATE :: E.SOLO_SINCE :: sendEntries) := by
  unfold Chip.afterJoin
  extract_lets own c1 state c2
  have h1 : c1.pr.held = c.pr.held ∧ c.keeps c1 [.pr, .dict, .ev, .lg] ∧ c.keepsEntries c1 (E.PAIR_STATE :: E.SOLO_SINCE :: sendEntries) := by
    refine ⟨Chip.each_induct (P := fun d => d.pr.held = c.pr.held) (fun d k h => (Chip.sendFrame_held ..).trans h) _ rfl, Chip.keeps_each (fun d k =>
      Chip.keeps_mono (Chip.keeps_sendFrame d _ _ _ _ _) (by decide)) _ _, Chip.keepsEntries_each (fun d k => Chip.keepsEntries_mono (Chip.keepsEntries_sendFrame d _ _ _ _ _) (by decide)) _ _⟩
  have h2 : c2.pr.held = c.pr.held ∧ c.keeps c2 [.pr, .dict, .ev, .lg] ∧ c.keepsEntries c2 (E.PAIR_STATE :: E.SOLO_SINCE :: sendEntries) := by
    unfold c2
    split
    · exact ⟨(Chip.setPairState_held _ _ _).trans h1.1, (Chip.keeps_iff (Chip.keeps_setPairState _ _ _) (by decide)).2 h1.2.1,
        (Chip.keepsEntries_iff (Chip.keepsEntries_setPairState _ _ _) fun _ h => h).2 h1.2.2⟩
    · exact h1
  split
  · refine ⟨?_, (Chip.keeps_iff (Chip.keeps_sendMaps _) (by decide)).2 h2.2.1, (Chip.keepsEntries_iff (Chip.sendMaps_frame _).2 (by decide)).2 h2.2.2⟩
    exact (Chip.sendMaps_frame _).1.trans h2.1
  · exact h2

/-- A pair that has joined: what the HELLO brought, and what starts anew. -/
structure Pr.JoinedBy (p : Pr) (hd : RHdr) (f : HelloFrame) : Prop where
  joined : p.joined = true
  index : p.partnerIndex = f.index
  boot : p.partnerBoot = f.boot
  state : p.partnerState = f.state
  recv : p.recvNext = hd.seq

theorem Pr.JoinedBy.congr {p q : Pr} {hd : RHdr} {f : HelloFrame} (h : p.JoinedBy hd f) (hq : q.held = p.held) : q.JoinedBy hd f :=
  ⟨(congrArg Pr.joined hq :).trans h.joined, (congrArg Pr.partnerIndex hq :).trans h.index, (congrArg Pr.partnerBoot hq :).trans h.boot,
    (congrArg Pr.partnerState hq :).trans h.state, (congrArg Pr.recvNext hq :).trans h.recv⟩

theorem Chip.takePartnerNss_frame (c : Chip) : c.keeps c.takePartnerNss [.ft, .free] ∧ c.takePartnerNss.ft.sizeMib = c.ft.sizeMib := by
  unfold Chip.takePartnerNss
  extract_lets nss
  clear_value nss
  exact ⟨fun q hq => by cases q <;> first | exact absurd (by decide) hq | rfl, rfl⟩

/-- The pair as a good HELLO leaves it, and the chip before the slots are granted. -/
theorem Chip.takeHello_joins {c : Chip} {f : HelloFrame} (hd : RHdr) (hj : c.pr.joined = false) (hb : c.helloBad f = false) :
    ∃ d : Chip, c.takeHello hd f = d.grantSlots.afterJoin ∧ d.pr.JoinedBy hd f ∧ d.get E.PAIR_IDENTITY = c.joinIdentity f ∧ d.ft.sizeMib = c.ft.sizeMib
      ∧ (c.get E.PAIR_IDENTITY = 0 → f.identity = 0 → c.pr.strap = 0 → ∀ n ∈ c.ft.nss, ∀ g ∈ n.granules, g ∈ d.pr.marks)
      ∧ (c.get E.PAIR_IDENTITY ≠ 0 ∨ f.identity ≠ 0 ∨ c.pr.strap = 0 → d.ft = c.ft) ∧ c.keeps d [.pr, .ft, .free, .dict] ∧ c.keepsEntries d [E.PAIR_IDENTITY] := by
  unfold Chip.takeHello
  rw [if_neg (by simp [hj]), if_neg (by simp [hb])]
  extract_lets first c0 c1 c2 key _ p c3
  have h0 : c.keeps c0 [.pr] := by
    unfold c0
    split
    · exact Chip.keeps_refl _ _
    · exact (Chip.keeps_iff (Chip.sendPlain_frame _ _ _).2 fun _ h => h).2 ((Chip.keeps_with_pr (by decide) _).2 (Chip.keeps_refl _ _))
  have h1 : c.keeps c1 [.pr, .dict] := Chip.keeps_trans h0 (c0.keeps_setAt E.PAIR_IDENTITY 0 (c.joinIdentity f))
  have he1 : c.keepsEntries c1 [E.PAIR_IDENTITY] := Chip.keepsEntries_trans (Chip.keepsEntries_of_keeps h0 (by decide) [])
    fun e i q1 q2 => Chip.keepsEntries_setAt c0 E.PAIR_IDENTITY 0 (c.joinIdentity f) e i q1 q2
  have hi1 : c1.get E.PAIR_IDENTITY = c.joinIdentity f := (Chip.get_set c0 E.PAIR_IDENTITY (c.joinIdentity f) E.PAIR_IDENTITY).trans (if_pos rfl)
  have hft1 : c1.ft = c.ft := h1 .ft (by decide)
  have hfirst : first = true ↔ c.get E.PAIR_IDENTITY = 0 ∧ f.identity = 0 := decide_eq_true_iff
  have h2 : c1.keeps c2 [.pr, .ft, .free] ∧ c2.ft.sizeMib = c.ft.sizeMib := by
    unfold c2
    split_ifs
    · exact ⟨Chip.keeps_refl _ _, congrArg Ft.sizeMib hft1⟩
    · exact ⟨(Chip.keeps_with_pr (by decide) _).2 (Chip.keeps_refl _ _), congrArg Ft.sizeMib hft1⟩
    · exact ⟨Chip.keeps_mono c1.takePartnerNss_frame.1 (by decide), c1.takePartnerNss_frame.2.trans (congrArg Ft.sizeMib hft1)⟩
  have hd2 : c2.keeps ({ c2 with pr := p, free := c2.free + 1 } : Chip) [.pr, .free] := fun q hq => by
    cases q <;> first | exact absurd (by decide) hq | rfl
  have he2 := Chip.keepsEntries_of_keeps h2.1 (by decide) []
  refine ⟨{ c2 with pr := p, free := c2.free + 1 }, rfl, ⟨rfl, rfl, rfl, rfl, rfl⟩, ?_, h2.2, fun q1 q2 q3 n hn g hg => ?_, fun h => ?_,
    Chip.keeps_mono (Chip.keeps_trans h1 (Chip.keeps_trans h2.1 hd2)) (by decide), Chip.keepsEntries_trans he1 (Chip.keepsEntries_trans he2 (Chip.keepsEntries_vals rfl []))⟩
  · exact (he2 E.PAIR_IDENTITY 0 (by decide) (by decide)).trans hi1
  · have hc2 : c2 = c1.markRegions (c1.ft.nss.flatMap Ns.granules) := by
      unfold c2
      rw [if_neg (by simp [hfirst.2 ⟨q1, q2⟩]), if_pos q3]
    show g ∈ c2.pr.marks
    rw [hc2, hft1]
    exact mem_markRegions (List.mem_flatMap.2 ⟨n, hn, hg⟩)
  · show c2.ft = c.ft
    unfold c2
    split_ifs with k1 k2
    · exact hft1
    · exact hft1
    · have hf : first = true := by simpa using k1
      obtain ⟨g1, g2⟩ := hfirst.1 hf
      omega

/-- The slots that a join grants. -/
theorem Chip.grantSlots_frame (c : Chip) : c.grantSlots.pr.grant = min (c.get E.MIRROR_SLOTS) (slotsOf c.ft.sizeMib / 2) ∧ c.grantSlots.pr.marks = c.pr.marks
    ∧ c.grantSlots.ft = c.ft ∧ c.keeps c.grantSlots [.pr, .st] ∧ (∀ hd f, c.pr.JoinedBy hd f → c.grantSlots.pr.JoinedBy hd f) :=
  ⟨rfl, rfl, rfl, (Chip.keeps_with_st_pr (by decide) (by decide) _ _).2 (Chip.keeps_refl _ _), fun _ _ h => ⟨h.joined, h.index, h.boot, h.state, h.recv⟩⟩

/-! ### Replay -/

/-- The frames of the window from a sequence on. -/
def Chip.unseen (c : Chip) (seq : Nat) : List Sent := c.pr.window.filter fun f => !serialLt 32 f.seq seq

/-- Frames as they go out again. -/
def Chip.resent (c : Chip) (l : List Sent) : Chip := c.each l fun c f => c.emit (f.out ((c.pr.recvNext + 2 ^ 32 - 1) % 2 ^ 32) 0 0)

theorem Chip.emitted_frame (c : Chip) (l : List Sent) {g : Chip → Sent → Out} (hg : ∀ c d : Chip, d.pr = c.pr → g d = g c) :
    (c.each l fun c f => c.emit (g c f)).pr = c.pr ∧ (c.each l fun c f => c.emit (g c f)).now = c.now ∧ c.keeps (c.each l fun c f => c.emit (g c f)) []
      ∧ (∀ o ∈ c.out, o ∈ (c.each l fun c f => c.emit (g c f)).out) ∧ ∀ f ∈ l, g c f ∈ (c.each l fun c f => c.emit (g c f)).out := by
  induction l generalizing c with
  | nil => exact ⟨rfl, rfl, Chip.keeps_refl _ _, fun _ h => h, fun _ h => absurd h List.not_mem_nil⟩
  | cons a l ih =>
    obtain ⟨h1, h2, h3, h4, h5⟩ := ih (c.emit (g c a))
    have hout : ∀ o ∈ c.out, o ∈ (c.emit (g c a)).out := fun o ho => by simp [Chip.emit, ho]
    refine ⟨h1, h2, (Chip.keeps_iff h3 fun _ h => h).2 (Chip.keeps_emit _ _ _), fun o ho => h4 o (hout o ho), fun f hf => ?_⟩
    rcases List.mem_cons.1 hf with rfl | hf
    · exact h4 _ (Chip.mem_out_emit _ _)
    · have := h5 f hf
      rw [hg c (c.emit (g c a)) rfl] at this
      exact this

/-- Frames that go out again within a millisecond of the first of them: each goes out as it was, with the value expected now. -/
theorem Chip.replayFrom_frame {c : Chip} {t0 : Nat} (h0 : c.pr.replayT = some t0) (ht : c.now < t0 + cycPerMs) (seq : Nat) :
    (∀ f ∈ c.unseen seq, f.out ((c.pr.recvNext + 2 ^ 32 - 1) % 2 ^ 32) 0 0 ∈ (c.replayFrom seq).out)
      ∧ (c.replayFrom seq).pr = { c.pr with lastAckT := c.now } ∧ c.keeps (c.replayFrom seq) [.pr, .dict]
      ∧ c.counts (c.replayFrom seq) E.RALLY_REPLAYS 0 (c.unseen seq).length ∧ c.keepsEntries (c.replayFrom seq) [E.RALLY_REPLAYS] := by
  obtain ⟨h1, h2, h3, -, h5⟩ := c.emitted_frame (c.unseen seq) (g := fun c f => f.out ((c.pr.recvNext + 2 ^ 32 - 1) % 2 ^ 32) 0 0) fun c d h => by simp only [h]
  change (c.resent (c.unseen seq)).pr = c.pr at h1
  have he : c.replayFrom seq = ({ c.resent (c.unseen seq) with pr := { (c.resent (c.unseen seq)).pr with lastAckT := c.now } } : Chip).count E.RALLY_REPLAYS
      (c.unseen seq).length := by
    unfold Chip.replayFrom
    extract_lets l burst c1 _ c2
    have hb : ¬burst = true := by
      unfold burst
      rw [h0]
      exact fun h => absurd (of_decide_eq_true h) (Nat.not_le.2 ht)
    rw [if_neg hb]
    exact ite_self _
  have h3' : c.keeps (c.resent (c.unseen seq)) [] := h3
  have h5' : ∀ f ∈ c.unseen seq, f.out ((c.pr.recvNext + 2 ^ 32 - 1) % 2 ^ 32) 0 0 ∈ (c.resent (c.unseen seq)).out := h5
  generalize c.resent (c.unseen seq) = d at h1 h3' h5' he
  rw [he]
  refine ⟨fun f hf => ?_, ?_, ?_, ?_, ?_⟩
  · rw [Chip.countAt_out]
    exact h5' f hf
  · rw [Chip.countAt_pr, h1]
  · exact (Chip.keeps_countAt_iff (by decide) _ _ _).2 ((Chip.keeps_with_pr (by decide) _).2 (Chip.keeps_mono h3' (by decide)))
  · refine (Chip.getAt_countAt_same _ _ _ _ (by decide)).trans ?_
    exact congrArg (fun v => min (topOf E.RALLY_REPLAYS) (v + _)) (Chip.keepsEntries_of_keeps h3' (by decide) [] E.RALLY_REPLAYS 0 (by decide) (by decide))
  · exact (Chip.keepsEntries_countAt_iff (by decide) _ _).2 (Chip.keepsEntries_trans (Chip.keepsEntries_of_keeps h3' (by decide) []) (Chip.keepsEntries_vals rfl _))

end Sys2Proof.Machine

open Sys2Proof Sys2Proof.Machine

/-- Settles O51: each frame is heard first, which changes the sending side alone, and then does what its type says. -/
theorem pairJoins : Obligations.PairJoins := by
  intro s t hd hon hcrc
  have hpl : ∀ f : Chip → Chip, (s.chip.atTime t).takePlain hd f = f ((s.chip.atTime t).heard hd) := Chip.takePlain_good (c := s.chip.atTime t) hon hcrc
  obtain ⟨g1, g2, g3⟩ := (s.chip.atTime t).heard_frame hd
  have hget : ∀ e, e ∉ sendEntries → e ∉ eventMeters → ((s.chip.atTime t).heard hd).get e = s.chip.get e := fun e h1 h2 => g3 e 0 h1 h2
  have hft : ((s.chip.atTime t).heard hd).ft = s.chip.ft := g2 .ft (by decide)
  have hid : ((s.chip.atTime t).heard hd).get E.PAIR_IDENTITY = s.chip.get E.PAIR_IDENTITY := hget _ (by decide) (by decide)
  have hstrap : ((s.chip.atTime t).heard hd).pr.strap = s.chip.pr.strap := (congrArg Pr.strap g1 :)
  refine ⟨fun f hj => ⟨fun hb => ?_, fun hb => ?_⟩, fun hp hq => ?_, fun expected t0 hcalm hq hex h0 ht => ?_⟩
  · refine Completes.of_run (f := fun c => c.takePlain hd fun c => c.takeHello hd f) rfl ?_
    rw [hpl]
    have hj' : ((s.chip.atTime t).heard hd).pr.joined = false := (congrArg Pr.joined g1 :).trans hj
    generalize (s.chip.atTime t).heard hd = c at *
    have he : c.takeHello hd f = ({ c with pr := { c.pr with refused := true } } : Chip).event 0x482 0 1 noUnit [f.index, f.variant] := by
      unfold Chip.takeHello
      rw [if_neg (by rw [hj']; decide), if_pos ((Chip.helloBad_congr hid hstrap (congrArg Ft.nss hft)).trans hb)]
    rw [he]
    refine ⟨?_, ?_, Chip.keeps_ended t ?_ (by decide) (by decide)⟩
    · simpa using hj'
    · simp
    · exact (Chip.keeps_event_iff (by decide) (by decide) (by decide) _ _ _ _ _).2 ((Chip.keeps_with_pr (by decide) _).2 (Chip.keeps_mono g2 (by decide)))
  · refine Completes.of_run (f := fun c => c.takePlain hd fun c => c.takeHello hd f) rfl ?_
    rw [hpl]
    have hj' : ((s.chip.atTime t).heard hd).pr.joined = false := (congrArg Pr.joined g1 :).trans hj
    have hslots := hget E.MIRROR_SLOTS (by decide) (by decide)
    have hfuse : ((s.chip.atTime t).heard hd).fuse = s.chip.fuse := g2 .fuse (by decide)
    generalize (s.chip.atTime t).heard hd = c at *
    obtain ⟨d, he, k1, k2, k3, k4, k5, k6, k7⟩ := Chip.takeHello_joins hd hj' ((Chip.helloBad_congr hid hstrap (congrArg Ft.nss hft)).trans hb)
    obtain ⟨m1, m2, m3, m4, m5⟩ := d.grantSlots_frame
    obtain ⟨n1, n2, n3⟩ := d.grantSlots.afterJoin_frame
    have hjoin := (m5 hd f k1).congr n1
    have hfin : d.grantSlots.afterJoin.ft = d.ft := (n2 .ft (by decide)).trans m3
    rw [he]
    simp only [Chip.seal_pr, Chip.notices_pr, Chip.seal_ft, Chip.notices_ft]
    refine ⟨hjoin.joined, hjoin.index, hjoin.boot, hjoin.state, hjoin.recv, ?_, ?_, fun q1 q2 q3 n hn g hg => ?_, fun h => ?_, Chip.keeps_ended t ?_ (by decide) (by decide)⟩
    · refine Chip.get_end (by decide) ((n3 E.PAIR_IDENTITY 0 (by decide) (by decide)).trans ?_)
      exact (Chip.keepsEntries_of_keeps m4 (by decide) [] E.PAIR_IDENTITY 0 (by decide) (by decide)).trans (k2.trans (Chip.joinIdentity_congr hid hstrap hfuse))
    · refine (congrArg Pr.grant n1 :).trans (m1.trans ?_)
      rw [show d.get E.MIRROR_SLOTS = s.chip.get E.MIRROR_SLOTS from (k7 E.MIRROR_SLOTS 0 (by decide) (by decide)).trans hslots, k3, hft]
    · have := k4 (hid.trans q1) q2 (hstrap.trans q3) n (by rw [hft]; exact hn) g hg
      rw [show d.grantSlots.afterJoin.pr.marks = d.pr.marks from (congrArg Pr.marks n1 :).trans m2]
      exact this
    · rw [hfin, k5 (by rw [hid, hstrap]; exact h), hft]
    · exact Chip.keeps_mono (Chip.keeps_trans (Chip.keeps_trans (Chip.keeps_trans g2 k6) m4) n2) (by decide)
  · refine Completes.of_run (f := fun c => c.takePlain hd Chip.resyncDone) rfl ?_
    rw [hpl, Chip.resyncDone_out (by rw [hget _ (by decide) (by decide)]; exact hp), Chip.heard_noQueue (c := s.chip.atTime t) hq]
    have hk : (s.chip.atTime t).keeps { s.chip.atTime t with pr := (s.chip.atTime t).pr.heard hd (s.chip.atTime t).now } [.pr] :=
      (Chip.keeps_with_pr (by decide) _).2 (Chip.keeps_refl _ _)
    simp only [Chip.seal_pr, Chip.notices_pr]
    exact ⟨rfl, rfl, rfl, rfl, rfl, Chip.keeps_ended t (Chip.keeps_mono hk (by decide)) (by decide) (by decide), Chip.keepsEntries_end t (Chip.keepsEntries_vals rfl _)⟩
  · have hne : s.chip.pr.window.filter (fun f => serialLt 32 hd.acked f.seq) ≠ [] := fun h => by
      obtain ⟨f, hf, hf2⟩ := hex
      exact absurd (List.mem_filter.2 ⟨hf, hf2⟩) (by rw [h]; exact List.not_mem_nil)
    set d : Chip := { s.chip.atTime t with pr := (s.chip.atTime t).pr.heard hd (s.chip.atTime t).now } with hd'
    obtain ⟨k1, k2, k3, -, k5⟩ := Chip.replayFrom_frame (c := d) (t0 := t0) ((if_neg hne).trans h0) ht expected
    have hk : (s.chip.atTime t).keeps (d.replayFrom expected) [.pr, .dict] :=
      (Chip.keeps_iff k3 fun _ h => h).2 ((Chip.keeps_with_pr (by decide) _).2 (Chip.keeps_refl _ _))
    have hks : (s.chip.atTime t).keepsEntries (d.replayFrom expected) [E.RALLY_REPLAYS] := fun e i q1 q2 => k5 e i q1 q2
    refine Completes.of_calmUnits (f := fun c => c.takePlain hd fun c => c.replayFrom expected) rfl (c1 := d.replayFrom expected) ?_ hk hks (by decide) (by decide)
      ?_ (by rw [hk .sb (by decide)]; rfl) (by rw [hk .st (by decide)]; rfl) (by rw [hk .st (by decide)]; rfl) (hk .ft (by decide)) hcalm ?_
    · show (s.chip.atTime t).takePlain hd (fun c => c.replayFrom expected) = _
      rw [hpl, Chip.heard_noQueue (c := s.chip.atTime t) hq]
    · unfold Chip.partnerStates
      rw [hk .boot (by decide), k2]
      rfl
    · simp only [Chip.seal_pr, Chip.notices_pr, k2]
      refine ⟨fun f hf h1 h2 => Chip.mem_out_end (k1 f ?_), rfl, rfl, Chip.keeps_ended t (Chip.keeps_mono hk (by decide)) (by decide) (by decide), Chip.keepsEntries_end t hks⟩
      exact List.mem_filter.2 ⟨List.mem_filter.2 ⟨hf, h1⟩, by rw [h2]; rfl⟩
end

section
/-! Refutation by a unit that the loss of the partner takes out of use: the reported state of the PAIR unit is worse without the partner's (R15), and a
read of a die under that unit's number begins its next step as the command ends, where the statement keeps the reads (R341). -/
namespace Sys2Proof.Machine

/-- A LUN number past the 2,048 of the device, under which the unit is PAIR. -/
def farLun : Nat := 22528

theorem mkUnit_farLun : mkUnit kLUN farLun = mkUnit kPAIR 0 := by decide

def farMember : Member := { lun := farLun, block := 0, hintZone := 0, hintSlot := 0, hinted := false, reads := 0 }
def farPatch : Patch := { row := 0, voids := (List.range 32).erase 0, pReloc := none, qReloc := none }

/-- A superblock with one member that is not void, on that LUN. -/
def farSb : Sb := { waitingSb with state := .closed, members := [farMember], patches := [farPatch] }

def farDie : Die := { lun := farLun, planes := 4, good := 0, blocks := [], ops := [], temp := none, tempAge := 0, tempT := 0, times := [] }

/-- A read of that member in its first step. -/
def farTask : Task :=
  { id := 1, h := 0, unit := 0, cw := 0, entry := 0, order := [], zone := 0, levels := [], idx := 0, step := 0, reached := 0, raTried := false, ran3 := false,
    cls := 3, own := ownPatrol, word := none, quad := 0, engine := 48, cont := false, skipped := false, grp := 0, members := [], pos := 0, parity := false,
    endPs := 0 }

/-- At rest with a partner that is ONLINE, this controller FENCED, and that read under way. -/
def farChip : Chip :=
  let calm := (restful fun _ => []).set E.PS_CURRENT 0
  let units := onlineUnit (mkUnit kPAIR 0) :: { onlineUnit (mkUnit kCTL 0) with own := 3 } :: calm.un.units
  { calm with boot := { calm.boot with pairMode := 1 }, un := { calm.un with units := units }, md := { calm.md with dies := calm.md.dies ++ [farDie] },
              rd := { calm.rd with tasks := [farTask] }, sb := { calm.sb with sbs := [farSb], eligible := [] },
              pr := { calm.pr with up := true, joined := true, partnerCtl := 1 } }

theorem farChip_calm : farChip.calm := by
  unfold Chip.calm
  decide +kernel

end Sys2Proof.Machine

open Sys2Proof Sys2Proof.Machine

/-- Refutes O50: when the link of that pair goes down, the read is in its fourth step. -/
theorem not_rallyLinkRuns : ¬ Obligations.RallyLinkRuns := by
  intro h
  obtain ⟨-, hdown, -⟩ := h { chip := farChip, pending := [] } 0
  obtain ⟨-, hjoined⟩ := hdown farChip_calm (by decide +kernel)
  have hv := Completes.value (hjoined (by decide +kernel) (by decide +kernel) (by decide +kernel)) (fun c => c.rd.tasks.map Task.step) fun c hc => by
    obtain ⟨-, -, -, -, -, hk⟩ := hc
    exact congrArg (fun r => r.tasks.map Task.step) (hk .rd (by decide))
  exact absurd hv (by decide +kernel)
end

section
/-! Proofs of the family of the partner's reads, the mailboxes and notices (R339, R341, R348, R354, R356, R358). -/
namespace Sys2Proof.Machine

/-! ### Frames that carry no copy and no mirrored data -/

/-- The frames whose payload is counted. -/
def dataKinds : List Nat := [0x10, 0x11, 0x12, 0x21]

/-- The counters of a frame whose payload is not counted. -/
def frameEntries : List Nat := [E.RALLY_FRAMES_TX, E.RALLY_SEQ_EPOCH]

theorem Chip.keepsEntries_transmit_plain (c : Chip) {f : Sent} (h : f.kind ∉ dataKinds) : c.keepsEntries (c.transmit f) frameEntries := by
  simp only [dataKinds, List.mem_cons, List.not_mem_nil, or_false, not_or] at h
  unfold Chip.transmit
  extract_lets p ack g w t next c1 c2 c3
  have h1 : c.keepsEntries c1 frameEntries := Chip.keepsEntries_vals rfl _
  have h2 : c.keepsEntries c2 frameEntries := (Chip.keepsEntries_countAt_iff (by decide) _ _).2 h1
  have h3 : c3 = c2 := by
    unfold c3
    rw [if_neg (by omega), if_neg (by omega)]
  rw [h3]
  split
  · exact (Chip.keepsEntries_countAt_iff (by decide) _ _).2 h2
  · exact h2

theorem Chip.keepsEntries_sendFrame_plain (c : Chip) {kind : Nat} (h : kind ∉ dataKinds) (xfer : Nat) (last : Bool) (fields : List Nat) (blocks : List Blk) :
    c.keepsEntries (c.sendFrame kind xfer last fields blocks) frameEntries := by
  unfold Chip.sendFrame
  extract_lets f q
  split
  · exact Chip.keepsEntries_refl _ _
  · split
    · exact c.keepsEntries_transmit_plain h
    · exact Chip.keepsEntries_vals rfl _

theorem Chip.sendFrame_outs (c : Chip) (kind xfer : Nat) (last : Bool) (fields : List Nat) (blocks : List Blk) :
    ∀ o ∈ c.out, o ∈ (c.sendFrame kind xfer last fields blocks).out := by
  unfold Chip.sendFrame
  extract_lets f q
  intro o ho
  split
  · exact ho
  · split
    · exact (c.transmit_out f).2 o ho
    · exact ho

/-- A change of the pair's state counts as a frame that carries no data. -/
theorem Chip.keepsEntries_setPairState_plain (c : Chip) (st cause : Nat) : c.keepsEntries (c.setPairState st cause) (E.PAIR_STATE :: E.SOLO_SINCE :: frameEntries) := by
  unfold Chip.setPairState
  extract_lets old c1
  have h1 : c.keepsEntries c1 (E.PAIR_STATE :: E.SOLO_SINCE :: frameEntries) := by simp [c1]
  split
  · exact Chip.keepsEntries_refl _ _
  · split
    · exact (Chip.keepsEntries_iff (Chip.keepsEntries_sendFrame_plain c1 (by decide) _ _ _ _) (by decide)).2 h1
    · exact h1

/-! ### The answer to a read of the partner -/

/-- Several frames: the first goes out at once, and no counter of mirrored data changes. -/
theorem Chip.sendAll_frame {c : Chip} {f : Sent} {fs : List Sent} (last : Bool) (hk : ∀ g ∈ f :: fs, g.kind ∉ dataKinds) (hu : c.pr.up = true) (hq : c.pr.queue = [])
    (hc : 0 < c.pr.credits) : (∃ l, .rally f.kind c.pr.sendNext f.xfer l ∈ (c.sendAll (f :: fs) last).out) ∧ c.keeps (c.sendAll (f :: fs) last) [.pr, .dict]
      ∧ c.keepsEntries (c.sendAll (f :: fs) last) frameEntries := by
  have hzip : ∀ p ∈ (f :: fs).zip (List.range (f :: fs).length), p.1.kind ∉ dataKinds := fun p hp => hk _ (List.of_mem_zip hp).1
  refine ⟨?_, Chip.keeps_each (fun d p => Chip.keeps_sendFrame d _ _ _ _ _) _ _, ?_⟩
  · unfold Chip.sendAll
    rw [List.length_cons, List.range_succ_eq_map, List.zip_cons_cons]
    obtain ⟨l, h⟩ := (c.transmit_out { seq := 0, kind := f.kind, xfer := f.xfer, fields := (if last && decide (0 + 1 = fs.length + 1) then 1 else 0) :: f.fields.drop 1, blocks := f.blocks }).1
    refine ⟨l, Chip.each_induct (P := fun d => Out.rally f.kind c.pr.sendNext f.xfer l ∈ d.out) (fun d p hd => Chip.sendFrame_outs d _ _ _ _ _ _ hd) _
      (c := c.sendFrame f.kind f.xfer (last && decide (0 + 1 = fs.length + 1)) (f.fields.drop 1) f.blocks) ?_⟩
    rw [Chip.sendFrame_transmits hu hq hc]
    exact h
  · exact Chip.each_mem_induct (P := fun d => c.keepsEntries d frameEntries) (fun d p hp hd => (Chip.keepsEntries_iff
      (Chip.keepsEntries_sendFrame_plain d (hzip p hp) _ _ _ _) fun _ h => h).2 hd) (Chip.keepsEntries_refl _ _)

theorem Chip.sendAnswer_frame {c : Chip} {ws : List Nat} (xfer : Nat) (hw : ws ≠ []) (hu : c.pr.up = true) (hq : c.pr.queue = []) (hc : 0 < c.pr.credits) :
    (∃ l, .rally 0x23 c.pr.sendNext xfer l ∈ (c.sendAnswer xfer ws).out) ∧ c.keeps (c.sendAnswer xfer ws) [.pr, .dict]
      ∧ c.keepsEntries (c.sendAnswer xfer ws) frameEntries := by
  unfold Chip.sendAnswer
  extract_lets total cs
  generalize hfs : (cs.zip (List.range cs.length)).map (fun p =>
    ({ seq := 0, kind := 0x23, xfer := xfer, fields := [0, 0, min 1024 (total - 1024 * p.2)], blocks := [{ data := p.1, info := 0 }] } : Sent)) = fs
  have hall : ∀ g ∈ fs, g.kind = 0x23 ∧ g.xfer = xfer := fun g hg => by
    rw [← hfs] at hg
    obtain ⟨p, -, rfl⟩ := List.mem_map.1 hg
    exact ⟨rfl, rfl⟩
  have hlen : 0 < fs.length := by
    have hws := List.length_pos_iff.2 hw
    have hcs : 0 < cs.length := by
      have hl : cs.length = cdiv total 1024 := by rw [show cs = chunks total _ from rfl, chunks, List.length_map, List.length_range]
      have ht : 0 < total := Nat.mul_pos (by decide) hws
      rw [hl, cdiv, if_neg (by decide)]
      omega
    rw [← hfs, List.length_map, List.length_zip, List.length_range, Nat.min_self]
    exact hcs
  cases fs with
  | nil => exact absurd hlen (by simp)
  | cons f fs =>
    obtain ⟨h1, h2⟩ := hall f (by simp)
    have := Chip.sendAll_frame (c := c) (f := f) (fs := fs) true (fun g hg => by rw [(hall g hg).1]; decide) hu hq hc
    rwa [h1, h2] at this

theorem Chip.takeRemote_atHand {c : Chip} {hd : RHdr} {unit mask : Nat} {n : Ns} {lba : Nat} {bs : List Blk} (left : Nat) (ho : c.ownerOf unit = some (n, lba))
    (hl : c.isLost unit = false) (hs : (c.newest unit).isSome = true ∨ c.sliceLoaded unit = true) (hb : c.unitNow n unit = some bs) :
    c.takeRemote hd unit mask left = c.sendAnswer hd.xfer (((List.range 4).filter fun k => bit mask k == 1).map fun k => wordOfLbas n.lbaf k bs) := by
  have hload : ¬((c.newest unit).isNone && !c.sliceLoaded unit) = true := by
    rcases hs with h | h
    · rw [Option.isSome_iff_ne_none] at h
      simp [h]
    · simp [h]
  unfold Chip.takeRemote
  simp only [ho]
  rw [if_neg hload, if_neg (by simp [hl])]
  simp only [hb]

theorem maskBits_ne_nil {mask : Nat} (h : mask % 16 ≠ 0) : ((List.range 4).filter fun k => bit mask k == 1) ≠ [] := by
  intro hn
  rw [List.filter_eq_nil_iff] at hn
  have hz : ∀ k ∈ List.range 4, bit mask k ≠ 1 := fun k hk => by simpa using hn k hk
  have h0 := hz 0 (by decide)
  have h1 := hz 1 (by decide)
  have h2 := hz 2 (by decide)
  have h3 := hz 3 (by decide)
  unfold bit at h0 h1 h2 h3
  omega

/-! ### The partner's data -/

theorem Chip.taskOf_setTask {c : Chip} {k : Task} (h : c.taskOf k.id = some k) {y : Task} (hy : y.id = k.id) : (c.setTask y).taskOf k.id = some y := by
  unfold Chip.taskOf Chip.setTask change at *
  dsimp only
  generalize c.rd.tasks = l at *
  induction l with
  | nil => simp at h
  | cons a l ih =>
    rw [List.map_cons, List.find?_cons]
    by_cases ha : a.id = k.id
    · simp [ha, hy]
    · have hl : l.find? (fun t => decide (t.id = k.id)) = some k := by simpa [ha] using h
      simp [ha, hy]
      simpa [hy] using ih hl

theorem Chip.keeps_queueRealloc (c : Chip) (unit entry cw word : Nat) : c.keeps (c.queueRealloc unit entry cw word) [.sb, .dict, .ev, .lg] := by
  unfold Chip.queueRealloc
  split_ifs
  · exact Chip.keeps_refl _ _
  · exact (Chip.keeps_with_sb (by decide) _).2 (Chip.keeps_refl _ _)
  · exact Chip.keeps_mono (Chip.keeps_event _ _ _ _ _ _) (by decide)
  · exact (Chip.keeps_with_sb (by decide) _).2 (Chip.keeps_refl _ _)

/-- A codeword of a unit of which another codeword is still to come: nothing follows yet. -/
theorem Chip.unitRead_waits {c : Chip} {t k : Task} (hk : k ∈ c.rd.tasks) (hh : k.h = t.h) (hu : k.unit = t.unit) (ho : k.own = t.own) (he : k.entry = t.entry)
    (hw : k.word = none) : c.unitRead t = c := by
  unfold Chip.unitRead
  by_cases hr : t.own = ownRecast ∨ t.own = ownPatrol
  · rw [if_pos hr]
    unfold Chip.rowRead
    exact if_pos (List.any_eq_true.2 ⟨k, hk, by simp [hh, hw]⟩)
  · rw [if_neg hr]
    extract_lets mine
    exact if_pos (List.any_eq_true.2 ⟨k, List.mem_filter.2 ⟨hk, by simp [hh, hu, ho, he]⟩, by simp [hw]⟩)

theorem Chip.taskOf_congr {c d : Chip} (h : d.rd = c.rd) (id : Nat) : d.taskOf id = c.taskOf id := by
  unfold Chip.taskOf
  rw [h]

/-- The last frame of an answer: the blocks of all its frames are taken together. -/
theorem Chip.takeRemoteData_last {c : Chip} {hd : RHdr} (hl : hd.last = true) (result : Nat) (blocks : List Blk) :
    ∃ xs, c.takeRemoteData hd result blocks = ({ c with pr := { c.pr with xfers := xs } } : Chip).takeAnswer hd result
      (((c.pr.xfers.find? fun f => !f.origin && decide (f.id = hd.xfer ∧ f.kind = 0x23)).map Xfer.blocks).getD [] ++ blocks) := by
  unfold Chip.takeRemoteData
  extract_lets g
  rw [if_pos hl]
  exact ⟨_, rfl⟩

/-- The answer to a read of the partner's, for the one codeword that waits for it in its sixth step. -/
theorem Chip.takeAnswer_one {c : Chip} {hd : RHdr} {k k' : Task} (blocks : List Blk) (hr : c.pr.remote = [(hd.xfer, k.id)]) (ht : c.taskOf k.id = some k) (hs : k.step = 6)
    (hk : k' ∈ c.rd.tasks) (hid : k'.id ≠ k.id) (hh : k'.h = k.h) (hu : k'.unit = k.unit) (ho : k'.own = k.own) (he : k'.entry = k.entry) (hw : k'.word = none) :
    ((c.takeAnswer hd 0 blocks).taskOf k.id).bind Task.word = some (joinOctets 1024 (blocks.map Blk.data) % 2 ^ 33280)
      ∧ (c.takeAnswer hd 0 blocks).pr.remote = [] ∧ c.keeps (c.takeAnswer hd 0 blocks) [.pr, .rd, .sb, .dict, .ev, .lg] := by
  set w := joinOctets 1024 (blocks.map Blk.data) / 2 ^ (33280 * 0) % 2 ^ 33280 with hw0
  set c1 : Chip := { c with pr := { c.pr with remote := [] } } with hc1
  set y : Task := { k with word := some w } with hy
  set c2 := ((c1.setTask y).queueRealloc k.unit k.entry k.cw w).event 0x48B 0 1 noUnit [k.unit % 2 ^ 20, k.unit / 2 ^ 20] with hc2
  have hk2 : (c1.setTask y).keeps c2 [.sb, .dict, .ev, .lg] :=
    (Chip.keeps_event_iff (by decide) (by decide) (by decide) _ _ _ _ _).2 (Chip.keeps_queueRealloc _ _ _ _ _)
  have hmem : k' ∈ c2.rd.tasks := by
    rw [show c2.rd = (c1.setTask y).rd from hk2 .rd (by decide)]
    exact List.mem_map.2 ⟨k', hk, if_neg (by simpa using hid)⟩
  have hread : c2.unitRead y = c2 := Chip.unitRead_waits hmem hh hu ho he hw
  have hans : c.takeAnswer hd 0 blocks = c2 := by
    unfold Chip.takeAnswer
    extract_lets octets mine rest _ c0 ids
    have hmine : mine = [(hd.xfer, k.id)] := by simp [mine, hr]
    have hrest : rest = [] := by simp [rest, hr, drop']
    have hids : ids.zip (List.range ids.length) = [(k.id, 0)] := by simp [ids, hmine]
    have hc0 : c0 = c1 := by rw [hc1, ← hrest]
    rw [hids, hc0]
    change (match c1.taskOf k.id with
      | none => c1
      | some t => _) = c2
    rw [show c1.taskOf k.id = some k from ht]
    dsimp only
    rw [if_pos rfl, if_pos hs]
    exact hread
  rw [hans]
  refine ⟨?_, ?_, ?_⟩
  · have hto : c2.taskOf k.id = some y := by
      rw [show c2.taskOf k.id = (c1.setTask y).taskOf k.id by unfold Chip.taskOf; rw [show c2.rd = (c1.setTask y).rd from hk2 .rd (by decide)]]
      exact Chip.taskOf_setTask (c := c1) ht rfl
    rw [hto]
    show some w = _
    rw [hw0, Nat.mul_zero, pow_zero, Nat.div_one]
  · exact congrArg Pr.remote (hk2 .pr (by decide))
  · refine (Chip.keeps_iff hk2 (by decide)).2 ?_
    exact (Chip.keeps_with_rd (by decide) _).2 ((Chip.keeps_with_pr (by decide) _).2 (Chip.keeps_refl _ _))

/-! ### Mailboxes -/

/-- The cells lie apart from a list of entries. -/
theorem mbox_notMem {l : List Nat} (h : ∀ e ∈ l, (e < E.MBOX ∨ E.MBOX + 64 ≤ e) ∧ (e < E.MBOX_FENCED ∨ E.MBOX_FENCED + 64 ≤ e)) {cell : Nat} (hc : cell < 64) :
    E.MBOX + cell ∉ l ∧ E.MBOX_FENCED + cell ∉ l := by
  refine ⟨fun hm => ?_, fun hm => ?_⟩
  · have := (h _ hm).1
    omega
  · have := (h _ hm).2
    omega

theorem Chip.setCell_frame (c : Chip) {cell : Nat} (hc : cell < 64) (v : Nat) : (c.setCell cell v).get (E.MBOX + cell) = v
    ∧ (c.setCell cell v).get (E.MBOX_FENCED + cell) = v ∧ c.keeps (c.setCell cell v) [.dict]
    ∧ c.keepsEntries (c.setCell cell v) [E.MBOX + cell, E.MBOX_FENCED + cell] := by
  have hne : E.MBOX + cell ≠ E.MBOX_FENCED + cell := by
    have : E.MBOX ≠ E.MBOX_FENCED := by decide
    omega
  unfold Chip.setCell
  rw [if_pos hc]
  refine ⟨?_, ?_, ?_, ?_⟩
  · rw [Chip.get_set, if_neg hne, Chip.get_set, if_pos rfl]
  · rw [Chip.get_set, if_pos rfl]
  · exact (Chip.keeps_setAt_iff (by decide) _ _ _).2 (Chip.keeps_setAt _ _ _ _)
  · exact (Chip.keepsEntries_setAt_iff (by simp) _ _).2 ((Chip.keepsEntries_setAt_iff (by simp) _ _).2 (Chip.keepsEntries_refl _ _))

/-- A write of an own cell in a pair: the cell takes the value, which a frame takes to the partner. -/
theorem Chip.writeCell_own {c : Chip} {cell : Nat} (hm : c.boot.pairMode = 1) (ho : c.ownCell cell = true) (v : Nat) (fenced : Bool) :
    c.writeCell cell v fenced = (c.setCell cell v).sendFrame 0x30 0 true [cell, if fenced then 1 else 0, v] [] := by
  unfold Chip.writeCell
  rw [if_neg (by rw [hm]; exact fun h => absurd h.2.1 (by decide)), if_neg (by simp [ho])]

theorem Chip.writeCell_frame {c : Chip} {cell : Nat} (hc : cell < 64) (hm : c.boot.pairMode = 1) (ho : c.ownCell cell = true) (v : Nat) (fenced : Bool) :
    (c.writeCell cell v fenced).get (E.MBOX + cell) = v ∧ (c.writeCell cell v fenced).get (E.MBOX_FENCED + cell) = v
      ∧ (c.writeCell cell v fenced).pr.held = c.pr.held ∧ c.keeps (c.writeCell cell v fenced) [.pr, .dict]
      ∧ c.keepsEntries (c.writeCell cell v fenced) [E.MBOX + cell, E.MBOX_FENCED + cell, E.RALLY_FRAMES_TX, E.RALLY_SEQ_EPOCH] := by
  obtain ⟨h1, h2, h3, h4⟩ := c.setCell_frame hc v
  have hk := Chip.keepsEntries_sendFrame_plain (c.setCell cell v) (kind := 0x30) (by decide) 0 true [cell, if fenced then 1 else 0, v] []
  have hfe := mbox_notMem (l := frameEntries) (by decide) hc
  have hme := mbox_notMem (l := eventMeters) (by decide) hc
  rw [Chip.writeCell_own hm ho]
  exact ⟨(hk _ 0 hfe.1 hme.1).trans h1, (hk _ 0 hfe.2 hme.2).trans h2, (Chip.sendFrame_held ..).trans (congrArg Pr.held (h3 .pr (by decide))),
    (Chip.keeps_sendFrame_iff (by decide) (by decide) _ _ _ _ _).2 (Chip.keeps_mono h3 (by decide)), Chip.keepsEntries_trans h4 hk⟩

/-- A fenced write of an own cell waits for its acknowledgement; without a partner it completes with result 2. -/
theorem Chip.fencedWrite_own {c : Chip} {cell : Nat} (ho : c.ownCell cell = true) (x : Xport) (v : Nat) : c.fencedWrite x cell v
    = if c.pr.joined then { c.writeCell cell v true with pr := { (c.writeCell cell v true).pr with fences := (c.writeCell cell v true).pr.fences ++ [(cell, Xport.item x, c.now)] } }
      else (c.writeCell cell v true).set E.MBOX_FENCE_RESULT 2 := by
  unfold Chip.fencedWrite
  rw [if_neg (by simp [ho])]

/-- Fenced writes that end with no Dictionary Set waiting: their result is kept. -/
theorem Chip.endFences_noSets {c : Chip} (h : ∀ y ∈ c.cmds, y.admin = true → y.opcode ≠ 0xC5) (left : List (Nat × Nat × Nat)) (result : Nat) :
    c.endFences left result = ({ c with pr := { c.pr with fences := left } } : Chip).set E.MBOX_FENCE_RESULT result := by
  unfold Chip.endFences Chip.when
  extract_lets _ c1
  have hn : (c1.cmds.filter fun x => x.admin && decide (x.opcode = 0xC5 ∧ x.phase = .working ∧ x.step = 1)) = [] := by
    rw [List.filter_eq_nil_iff]
    intro y hy hp
    rw [Bool.and_eq_true, decide_eq_true_iff] at hp
    exact h y hy hp.1 hp.2.1
  split
  · show c1.each (List.filter _ c1.cmds) _ = c1
    rw [hn]
    rfl
  · rfl

/-- What the acknowledgement of a fenced write does. -/
def Chip.ackFence (c : Chip) (cell : Nat) : Chip :=
  c.when (c.pr.fences.any fun f => decide (f.1 = cell)) fun c => c.endFences (c.pr.fences.eraseP fun f => decide (f.1 = cell)) 1

theorem Chip.ackFence_first {c : Chip} {cell : Nat} {f : Nat × Nat × Nat} {l : List (Nat × Nat × Nat)} (hf : c.pr.fences = f :: l) (hc : f.1 = cell)
    (h : ∀ y ∈ c.cmds, y.admin = true → y.opcode ≠ 0xC5) : c.ackFence cell = ({ c with pr := { c.pr with fences := l } } : Chip).set E.MBOX_FENCE_RESULT 1 := by
  unfold Chip.ackFence
  rw [Chip.when_true (by rw [hf]; simp [hc]), Chip.endFences_noSets h, hf, List.eraseP_cons_of_pos (by simp [hc])]

/-- The first of the fenced writes, when its time alone is over. -/
theorem Chip.fenceTimeout_first {c : Chip} {f : Nat × Nat × Nat} {l : List (Nat × Nat × Nat)} (hf : c.pr.fences = f :: l) (h1 : f.2.2 + 100 * cycPerUs ≤ c.now)
    (h2 : ∀ g ∈ l, c.now < g.2.2 + 100 * cycPerUs) (h : ∀ y ∈ c.cmds, y.admin = true → y.opcode ≠ 0xC5) :
    c.fenceTimeout = ({ c with pr := { c.pr with fences := l } } : Chip).set E.MBOX_FENCE_RESULT 2 := by
  have hleft : c.pr.fences.filter (fun f => decide (c.now < f.2.2 + 100 * cycPerUs)) = l := by
    rw [hf, List.filter_cons_of_neg (by simpa using h1), List.filter_eq_self.2 fun g hg => decide_eq_true (h2 g hg)]
  unfold Chip.fenceTimeout
  rw [if_pos (List.any_eq_true.2 ⟨f, by rw [hf]; exact List.mem_cons_self, decide_eq_true h1⟩), hleft, Chip.endFences_noSets h]

/-! ### The copy of a granule that no namespace holds -/

theorem Chip.transmit_window {c : Chip} (h : c.pr.window.length < 512) (f : Sent) : (c.transmit f).pr.window = c.pr.window ++ [{ f with seq := c.pr.sendNext }] := by
  unfold Chip.transmit
  extract_lets p ack g w t next c1 c2 c3
  have hw : w = c.pr.window ++ [{ f with seq := c.pr.sendNext }] := by
    unfold w
    rw [if_neg (by show ¬512 ≤ c.pr.window.length; omega)]
    rfl
  have h1 : c1.pr.window = w := rfl
  have h3 : c3.pr = c1.pr := by unfold c3 c2; split_ifs <;> simp
  split
  · rw [Chip.countAt_pr, h3, h1, hw]
  · rw [h3, h1, hw]

/-- A frame of this side that is to go out stands in its window or its queue. -/
theorem Chip.sendFrame_stands {c : Chip} (hu : c.pr.up = true) (hw : c.pr.window.length < 512) (kind xfer : Nat) (fields : List Nat) :
    (∀ f ∈ c.pr.window, f ∈ (c.sendFrame kind xfer true fields []).pr.window)
      ∧ ∃ f ∈ (c.sendFrame kind xfer true fields []).pr.window ++ (c.sendFrame kind xfer true fields []).pr.queue, f.kind = kind ∧ f.fields.drop 1 = fields := by
  unfold Chip.sendFrame
  extract_lets f q
  rw [if_neg (by simp [hu])]
  split
  · rw [Chip.transmit_window hw]
    exact ⟨fun g hg => List.mem_append_left _ hg, _, List.mem_append_left _ (List.mem_append_right _ (List.mem_singleton_self _)), rfl, rfl⟩
  · exact ⟨fun g hg => hg, f, List.mem_append_right _ (List.mem_append_right _ (List.mem_singleton_self _)), rfl, rfl⟩

/-- A granule of no namespace: its copy starts and is done at once. -/
def Chip.emptyCopied (c : Chip) (g : Nat) : Chip :=
  let d := ({ c with pr := { c.pr with copying := some g } } : Chip).sendFrame 0x20 0 true [3, g] []
  (({ d with pr := { d.pr with copying := none } } : Chip).unlock 0).sendFrame 0x20 0 true [4, g] []

theorem Chip.pairUnit_none {c : Chip} {u : Nat} (h : c.ownerOf u = none) (replay : Bool) : c.pairUnit u replay = c := by
  unfold Chip.pairUnit
  rw [h]

theorem Chip.ownerOf_congr {c d : Chip} (h : d.ft = c.ft) (u : Nat) : d.ownerOf u = c.ownerOf u := by
  unfold Chip.ownerOf
  rw [h]

theorem Chip.each_fixed {α : Type} {f : Chip → α → Chip} {l : List α} {c : Chip} (h : ∀ x ∈ l, f c x = c) : c.each l f = c := by
  induction l with
  | nil => rfl
  | cons x l ih => exact (congrArg (fun d => d.each l f) (h x (by simp))).trans (ih fun y hy => h y (by simp [hy]))

theorem Chip.copyGranule_empty {c : Chip} {g : Nat} {l : List Nat} (hp : c.get E.PAIR_STATE = 2) (hc : c.pr.copying = none) (hm : c.pr.marks = g :: l)
    (hg : g < 524288) (hw : c.pr.window = []) (hr : c.pr.replays = []) (hl : c.locksFree 1 = true) (hs : c.sliceLoaded (g * 65536) = true)
    (ho : ∀ i, i < 65536 → c.ownerOf (g * 65536 + i) = none) (ht : (c.rd.tasks.any fun k => decide (k.own = ownCopy)) = false)
    (hpace : c.pr.resyncT + (c.get E.RESYNC_BYTES - c.pr.resyncBytes) * 800 / c.get E.RESYNC_RATE_MAX ≤ c.now) : c.copyGranule = c.emptyCopied g := by
  have h0 : (if c.get E.PAIR_STATE = 2 then c.replayReady else c) = c := by rw [if_pos hp, Chip.replayReady_none hr]
  have hfirst : c.ownerOf (g * 65536) = none := by simpa using ho 0 (by decide)
  unfold Chip.copyGranule
  rw [h0]
  extract_lets c0 paced sent
  have hsent : sent = [] := by
    unfold sent
    rw [show c0.pr.window = [] from hw]
    rfl
  have hhead : (c.pr.marks.filter fun g => decide (g < 524288) && !sent.contains g).head? = some g := by
    rw [hm, List.filter_cons_of_pos (by simp [hg, hsent])]
    rfl
  have hpaced : paced = true := decide_eq_true hpace
  rw [hhead]
  dsimp only
  rw [if_neg (by simp [show c0.get E.PAIR_STATE = 2 from hp, show c0.pr.copying = none from hc, hpaced, show c0.locksFree 1 = true from hl]),
    if_neg (by simp [show c0.sliceLoaded (g * 65536) = true from hs]), show c0.ownerOf (g * 65536) = none from hfirst]
  set d := ({ c with pr := { c.pr with copying := some g } } : Chip).sendFrame 0x20 0 true [3, g] [] with hd
  have hk := Chip.keeps_sendFrame ({ c with pr := { c.pr with copying := some g } } : Chip) 0x20 0 true [3, g] []
  have hheld : d.pr.held = { c.pr with copying := some g }.held := Chip.sendFrame_held ..
  have heach : d.each ((List.range 65536).map (g * 65536 + ·)) (fun c u => c.pairUnit u false) = d := Chip.each_fixed fun u hu => by
    obtain ⟨i, hi, rfl⟩ := List.mem_map.1 hu
    exact Chip.pairUnit_none ((Chip.ownerOf_congr (hk .ft (by decide)) _).trans (ho i (List.mem_range.1 hi))) false
  have hends : d.copyEnds = c.emptyCopied g := by
    unfold Chip.copyEnds
    rw [show d.pr.copying = some g from (congrArg Pr.copying hheld :)]
    dsimp only
    rw [if_neg (by rw [show d.rd = c.rd from hk .rd (by decide), ht]; decide)]
    rfl
  rw [if_neg (by simp), heach, hends]

theorem Chip.emptyCopied_frame {c : Chip} (g : Nat) (hu : c.pr.up = true) (hq : c.pr.queue = []) (hcr : 0 < c.pr.credits) (hw : c.pr.window = []) :
    (∃ o, .rally 0x20 c.pr.sendNext 0 o ∈ (c.emptyCopied g).out) ∧ (c.emptyCopied g).pr.copying = none
      ∧ (∃ f ∈ (c.emptyCopied g).pr.window, f.kind = 0x20 ∧ f.seq = c.pr.sendNext ∧ f.fields.drop 1 = [3, g])
      ∧ (∃ f ∈ (c.emptyCopied g).pr.window ++ (c.emptyCopied g).pr.queue, f.kind = 0x20 ∧ f.fields.drop 1 = [4, g])
      ∧ c.keeps (c.emptyCopied g) [.pr, .lk, .dict] := by
  set b : Chip := { c with pr := { c.pr with copying := some g } } with hb
  set d := b.sendFrame 0x20 0 true [3, g] [] with hd
  set e := (({ d with pr := { d.pr with copying := none } } : Chip).unlock 0) with he
  have hes : c.emptyCopied g = e.sendFrame 0x20 0 true [4, g] [] := rfl
  have hdt : d = b.transmit { seq := 0, kind := 0x20, xfer := 0, fields := [1, 3, g], blocks := [] } :=
    Chip.sendFrame_transmits (c := b) hu hq hcr 0x20 0 true [3, g] []
  have hwin : d.pr.window = [{ seq := c.pr.sendNext, kind := 0x20, xfer := 0, fields := [1, 3, g], blocks := [] }] := by
    rw [hdt, Chip.transmit_window (by rw [show b.pr.window = [] from hw]; decide), show b.pr.window = [] from hw]
    rfl
  have hup : e.pr.up = true := (congrArg Pr.up (Chip.sendFrame_held b 0x20 0 true [3, g] []) :).trans hu
  obtain ⟨h1, h2⟩ := Chip.sendFrame_stands (c := e) hup (by rw [show e.pr.window = d.pr.window from rfl, hwin]; simp) 0x20 0 [4, g]
  rw [hes]
  refine ⟨?_, ?_, ⟨_, h1 _ (by rw [show e.pr.window = d.pr.window from rfl, hwin]; exact List.mem_singleton_self _), rfl, rfl, rfl⟩, h2, ?_⟩
  · obtain ⟨l, hl⟩ := (b.transmit_out { seq := 0, kind := 0x20, xfer := 0, fields := [1, 3, g], blocks := [] }).1
    rw [← hdt] at hl
    exact ⟨l, Chip.sendFrame_outs e _ _ _ _ _ _ hl⟩
  · exact (congrArg Pr.copying (Chip.sendFrame_held e 0x20 0 true [4, g] []) :)
  · refine (Chip.keeps_sendFrame_iff (by decide) (by decide) _ _ _ _ _).2 ((Chip.keeps_unlock_iff (by decide) _).2 ((Chip.keeps_with_pr (by decide) _).2 ?_))
    exact (Chip.keeps_sendFrame_iff (by decide) (by decide) _ _ _ _ _).2 ((Chip.keeps_with_pr (by decide) _).2 (Chip.keeps_refl _ _))

/-- Whether locks are free is read from the range-lock table and its entries. -/
theorem Chip.locksFree_congr {b c : Chip} (hk : c.lk = b.lk) (hg : ∀ e ∈ [E.RL_NEXT_SEQ, E.RL_CAPACITY], c.get e = b.get e) (n : Nat) :
    c.locksFree n = b.locksFree n := by
  have hnext : c.get E.RL_NEXT_SEQ = b.get E.RL_NEXT_SEQ := hg _ (by simp)
  have hmove : c.moveHeld.lk = b.moveHeld.lk := by
    unfold Chip.moveHeld
    rw [hnext, hk]
    dsimp only
    generalize (List.map Lock.h _).eraseDups = l
    clear hg hnext
    induction l generalizing b c with
    | nil => exact hk
    | cons h l ih =>
      refine ih ?_
      dsimp only
      rw [hk]
      split <;> first | rfl | exact hk
  have hget : ∀ d : Chip, d.moveHeld.get E.RL_NEXT_SEQ = d.get E.RL_NEXT_SEQ := fun d =>
    Chip.keepsEntries_of_keeps d.keeps_moveHeld (by decide) [] _ _ (by decide) (by decide)
  have hseq : c.moveHeld.seqHeld = b.moveHeld.seqHeld := by
    unfold Chip.seqHeld
    rw [hmove, hget c, hget b, hnext]
  unfold Chip.locksFree Chip.liveLocks
  rw [hk, hseq, hg E.RL_CAPACITY (by simp)]

/-! ### A row that does nothing -/

theorem Chip.newTags_self (b : Chip) : b.newTags b = b.dict.tags := by
  have hd : ∀ d ∈ allRows, Chip.retag b b d = b := fun d _ => Chip.each_fixed fun p _ => if_pos rfl
  have he : b.each allRows (Chip.retag b) = b := Chip.each_fixed hd
  unfold Chip.newTags
  dsimp only
  rw [show ({ b with dict := { b.dict with tags := b.dict.tags } } : Chip) = b from rfl, he]

/-- The end of a step that changed nothing. -/
theorem Chip.keeps_unchanged (c : Chip) (t : Nat) : c.keeps ((c.atTime t).seal ((c.atTime t).notices (c.atTime t))) []
    ∧ c.keepsEntries ((c.atTime t).seal ((c.atTime t).notices (c.atTime t))) [] := by
  have hn : (c.atTime t).notices (c.atTime t) = c.atTime t := Chip.notices_still (Chip.keeps_refl _ []) (by decide) fun _ _ => rfl
  refine ⟨fun p hp => ?_, Chip.keepsEntries_end t (Chip.keepsEntries_refl _ _)⟩
  rw [hn]
  cases p
  case fuse =>
    show c.fuse.blown c.fuse = c.fuse
    rw [Fuse.blown_self]
  case un =>
    show Un.hold c.fuse.variant c.un c.un = c.un
    rw [Un.hold_self]
  case dict =>
    show ({ c.dict with tags := (c.atTime t).newTags (c.atTime t) } : Dict) = c.dict
    rw [Chip.newTags_self]
    rfl
  all_goals rfl

/-! ### A detach of the partner -/

theorem Chip.takeNotice_detach (c : Chip) (state : Nat) : (c.takeNotice 3 state).get E.DETACHED = 2 ∧ (c.takeNotice 3 state).get E.PAIR_STATE = 1
    ∧ (c.takeNotice 3 state).pr.partnerState = state ∧ c.keeps (c.takeNotice 3 state) [.pr, .dict, .ev, .lg]
    ∧ c.keepsEntries (c.takeNotice 3 state) (E.DETACHED :: E.PAIR_STATE :: E.SOLO_SINCE :: frameEntries) := by
  set d := ({ c with pr := { c.pr with partnerState := state } } : Chip).set E.DETACHED 2 with hd
  have he : c.takeNotice 3 state = d.setPairState 1 5 := rfl
  have hk : c.keeps d [.pr, .dict] := (Chip.keeps_setAt_iff (by decide) _ _ _).2 ((Chip.keeps_with_pr (by decide) _).2 (Chip.keeps_refl _ _))
  have hke : c.keepsEntries d [E.DETACHED] := (Chip.keepsEntries_setAt_iff (by decide) _ _).2 (Chip.keepsEntries_vals rfl _)
  rw [he]
  refine ⟨(Chip.detached_setPairState d 1 5).trans ?_, Chip.pairState_setPairState d 1 5, (congrArg Pr.partnerState (Chip.setPairState_held d 1 5) :),
    (Chip.keeps_iff (Chip.keeps_setPairState d 1 5) (by decide)).2 (Chip.keeps_mono hk (by decide)), Chip.keepsEntries_trans hke (Chip.keepsEntries_setPairState_plain d 1 5)⟩
  exact (Chip.get_set _ E.DETACHED 2 E.DETACHED).trans (if_pos rfl)

end Sys2Proof.Machine

open Sys2Proof Sys2Proof.Machine

/-- Settles O53: each row is what its frame or write does on the chip that has taken it, which changes the pair and the counters of frames. -/
theorem partnersExchange : Obligations.PartnersExchange := by
  intro s t
  refine ⟨fun hd hon hj hcrc hseq hq => ?_, fun g l hu hq hcr hp hc hm hg hw hr hl hs ho ht hpace => ?_, fun x cell v hcell hmode hr hx => ?_,
    fun f l hf hlate hrest hsets => ?_⟩
  · have hT : Takes s.chip hd := ⟨hon, hj, hcrc, hseq, hq⟩
    obtain ⟨hk, hke, hcnt, hpr⟩ := (s.chip.atTime t).sequenced_frame hd
    generalize hd1 : (s.chip.atTime t).sequenced hd = d at hk hke hcnt hpr
    have hft : d.ft = s.chip.ft := hk .ft (by decide)
    have hup : d.pr.up = true := by rw [hpr]; exact hT.up
    have hdq : d.pr.queue = [] := by rw [hpr]; exact hq
    have hsend : d.pr.sendNext = s.chip.pr.sendNext := by rw [hpr]; rfl
    have hrow : ∀ {i : Instr} {f : Chip → Chip} {P : Chip → Prop}, exec i s = (run s t fun c => c.takeSeq hd f) →
        P ((s.chip.atTime t).seal ((s.chip.atTime t).notices (f d))) → Completes i s P := fun he hp => Completes.of_sequenced hT he (by rw [hd1]; exact hp)
    have hkeeps : ∀ {c1 : Chip} (m : List Area), d.keeps c1 m → .fuse ∉ [.pr, .dict] ++ m ++ notePart →
        s.chip.keeps ((s.chip.atTime t).seal ((s.chip.atTime t).notices c1)) ([.pr, .dict] ++ m ++ notePart) := fun m h hm =>
      Chip.keeps_ended t (Chip.keeps_mono (Chip.keeps_trans hk h) fun p hp => List.mem_append_left _ hp) hm fun p hp => List.mem_append_right _ hp
    have hent : ∀ {c1 : Chip} (es : List Nat), d.keepsEntries c1 es →
        s.chip.keepsEntries ((s.chip.atTime t).seal ((s.chip.atTime t).notices c1)) ([E.RALLY_FRAMES_RX] ++ es) := fun es h =>
      Chip.keepsEntries_end t (Chip.keepsEntries_trans hke h)
    refine ⟨fun unit mask nsid left n lba bs hcr ho hl hs hmask hb => ?_,
      fun k k' blocks had hlast hhad hrem htask hstep hmem hid hh hun hown hen hword => ?_, fun cell v hcell => ?_, fun cell f l hf hcell hsets => ?_, fun state => ?_⟩
    · have he : exec (.remoteRead t hd unit mask nsid left) s = run s t fun c => c.takeSeq hd fun c => c.takeRemote hd unit mask left := rfl
      refine hrow he ?_
      have hlost : d.lost = s.chip.lost := hk .lost (by decide)
      rw [Chip.takeRemote_atHand (c := d) (n := n) (lba := lba) (bs := bs) left ((Chip.ownerOf_congr hft _).trans ho) (by unfold Chip.isLost at hl ⊢; rw [hlost]; exact hl)
        (by rw [Chip.newest_congr hft]; unfold Chip.sliceLoaded at hs ⊢; rw [hft]; exact hs)
        (by unfold Chip.unitNow at hb ⊢; rw [Chip.newest_congr hft, Chip.mapOf_congr hft, Chip.ownerOf_congr hft]; exact hb)]
      obtain ⟨⟨o, g1⟩, g2, g3⟩ := Chip.sendAnswer_frame (c := d) (ws := ((List.range 4).filter fun k => bit mask k == 1).map fun k => wordOfLbas n.lbaf k bs) hd.xfer
        (fun h => maskBits_ne_nil hmask (List.map_eq_nil_iff.1 h)) hup hdq (by rw [hpr]; exact Nat.add_pos_left hcr _)
      rw [hsend] at g1
      exact ⟨⟨o, Chip.mem_out_end g1⟩, Chip.keeps_mono (hkeeps _ g2 (by decide)) (by decide), hent _ g3⟩
    · refine hrow (f := fun c => c.takeRemoteData hd 0 blocks) rfl ?_
      obtain ⟨xs, he⟩ := Chip.takeRemoteData_last (c := d) hlast 0 blocks
      rw [show d.pr.xfers = s.chip.pr.xfers by rw [hpr]; rfl, ← hhad] at he
      rw [he]
      obtain ⟨g1, g2, g3⟩ := Chip.takeAnswer_one (c := { d with pr := { d.pr with xfers := xs } }) (hd := hd) (had ++ blocks) (by rw [hpr]; exact hrem)
        ((Chip.taskOf_congr (c := s.chip) (hk .rd (by decide)) _).trans htask) hstep (by rw [show d.rd = s.chip.rd from hk .rd (by decide)]; exact hmem) hid hh hun hown hen hword
      refine ⟨?_, ?_, Chip.keeps_mono (hkeeps [.pr, .rd, .sb, .dict, .ev, .lg] ?_ (by decide)) (by decide)⟩
      · exact (congrArg (fun o => Option.bind o Task.word) (Chip.taskOf_congr (by rw [Chip.seal_rd, Chip.notices_rd]) _)).trans g1
      · rw [Chip.seal_pr, Chip.notices_pr, g2]
      · exact (Chip.keeps_iff g3 fun _ h => h).2 ((Chip.keeps_with_pr (by decide) _).2 (Chip.keeps_refl _ _))
    · refine hrow (f := fun c => c.setCell cell v) rfl ?_
      obtain ⟨g1, g2, g3, g4⟩ := d.setCell_frame hcell v
      have hme := mbox_notMem (l := eventMeters) (by decide) hcell
      have hrx := mbox_notMem (l := [E.RALLY_FRAMES_RX]) (by decide) hcell
      refine ⟨Chip.get_end hme.1 g1, Chip.get_end hme.2 g2, Chip.counts_end t (by decide) ((g4 _ _ ?_ (by decide)).trans hcnt),
        Chip.keeps_mono (hkeeps _ g3 (by decide)) (by decide), fun e i q1 q2 => hent _ g4 e i ?_ q2⟩
      · simp only [List.mem_cons, List.not_mem_nil, or_false, not_or] at hrx ⊢
        exact ⟨Ne.symm hrx.1, Ne.symm hrx.2⟩
      · simp only [List.mem_cons, List.not_mem_nil, or_false, not_or, List.cons_append, List.nil_append] at q1 ⊢
        exact ⟨q1.2.2, q1.1, q1.2.1⟩
    · have he : exec (.mboxAck t hd cell) s = run s t fun c => c.takeSeq hd fun c => c.ackFence cell := rfl
      refine hrow he ?_
      rw [Chip.ackFence_first (c := d) (f := f) (l := l) (by rw [hpr]; exact hf) hcell (by rw [show d.cmds = s.chip.cmds from hk .cmds (by decide)]; exact hsets)]
      have hk2 : d.keeps (({ d with pr := { d.pr with fences := l } } : Chip).set E.MBOX_FENCE_RESULT 1) [.pr, .dict] :=
        (Chip.keeps_setAt_iff (by decide) _ _ _).2 ((Chip.keeps_with_pr (by decide) _).2 (Chip.keeps_refl _ _))
      have hke2 : d.keepsEntries (({ d with pr := { d.pr with fences := l } } : Chip).set E.MBOX_FENCE_RESULT 1) [E.MBOX_FENCE_RESULT] :=
        (Chip.keepsEntries_setAt_iff (by decide) _ _).2 (Chip.keepsEntries_vals rfl _)
      refine ⟨?_, Chip.get_end (by decide) ((Chip.get_set _ _ _ _).trans (if_pos rfl)), Chip.keeps_mono (hkeeps _ hk2 (by decide)) (by decide),
        fun e i q1 q2 => hent _ hke2 e i (fun hm => q1 (List.mem_cons.2 ((List.mem_cons.1 hm).symm.imp (fun h => List.mem_singleton.1 h) fun h => List.mem_singleton.2 h))) q2⟩
      rw [Chip.seal_pr, Chip.notices_pr]
      rfl
    · refine hrow (f := fun c => c.takeNotice 3 state) rfl ?_
      obtain ⟨g1, g2, g3, g4, g5⟩ := d.takeNotice_detach state
      refine ⟨Chip.get_end (by decide) g1, Chip.get_end (by decide) g2, ?_, Chip.keeps_mono (hkeeps _ g4 (by decide)) (by decide), fun e i q1 q2 => hent _ g5 e i ?_ q2⟩
      · rw [Chip.seal_pr, Chip.notices_pr, g3]
      · exact fun hm => q1 ((by decide : ∀ e ∈ [E.RALLY_FRAMES_RX] ++ (E.DETACHED :: E.PAIR_STATE :: E.SOLO_SINCE :: frameEntries),
          e ∈ [E.DETACHED, E.PAIR_STATE, E.SOLO_SINCE, E.RALLY_FRAMES_RX, E.RALLY_FRAMES_TX, E.RALLY_SEQ_EPOCH]) e hm)
  · refine Completes.of_run (f := Chip.copyGranule) rfl ?_
    rw [Chip.copyGranule_empty (c := s.chip.atTime t) hp hc hm hg hw hr
      ((Chip.locksFree_congr (b := s.chip) (c := s.chip.atTime t) rfl (fun _ _ => rfl) 1).trans hl) hs ho ht hpace]
    obtain ⟨⟨o, g1⟩, g2, ⟨f, g3, g4⟩, ⟨f', g5, g6⟩, g7⟩ := (Chip.emptyCopied_frame (c := s.chip.atTime t) g hu hq hcr hw)
    simp only [Chip.seal_pr, Chip.notices_pr]
    exact ⟨⟨o, Chip.mem_out_end g1⟩, g2, ⟨f, g3, g4⟩, ⟨f', g5, g6⟩, Chip.keeps_ended t (Chip.keeps_mono g7 (by decide)) (by decide) (by decide)⟩
  · have hpair : s.chip.noPair E.MBOX = decide (s.chip.fuse.variant ≠ 0) ∧ s.chip.noPair E.MBOX_FENCED = decide (s.chip.fuse.variant ≠ 0) := by
      unfold Chip.noPair
      exact ⟨Bool.and_true _, Bool.and_true _⟩
    have hwhen : ∀ f : Chip → Chip, (s.chip.atTime t).when (s.chip.isReady && s.chip.xportWrites x && !decide (s.chip.fuse.variant ≠ 0)) f
        = (s.chip.atTime t).when (!decide (s.chip.fuse.variant ≠ 0)) f := fun f => by rw [hr, hx, Bool.true_and, Bool.true_and]
    have hw : ∀ P : Chip → Prop, P ((s.chip.atTime t).seal ((s.chip.atTime t).notices ((s.chip.atTime t).when (!decide (s.chip.fuse.variant ≠ 0))
        fun c => c.writeCell cell v false))) → Completes (.mboxWrite t x cell v) s P := fun P hp =>
      Completes.of_run (f := fun c => c.when (c.isReady && c.xportWrites x && !c.noPair E.MBOX) fun c => c.writeCell cell v false) rfl (by
        show P ((s.chip.atTime t).seal ((s.chip.atTime t).notices ((s.chip.atTime t).when (s.chip.isReady && s.chip.xportWrites x && !s.chip.noPair E.MBOX) _)))
        rw [hpair.1, hwhen]
        exact hp)
    have hf : ∀ P : Chip → Prop, P ((s.chip.atTime t).seal ((s.chip.atTime t).notices ((s.chip.atTime t).when (!decide (s.chip.fuse.variant ≠ 0))
        fun c => c.fencedWrite x cell v))) → Completes (.mboxFencedWrite t x cell v) s P := fun P hp =>
      Completes.of_run (f := fun c => c.when (c.isReady && c.xportWrites x && !c.noPair E.MBOX_FENCED) fun c => c.fencedWrite x cell v) rfl (by
        show P ((s.chip.atTime t).seal ((s.chip.atTime t).notices ((s.chip.atTime t).when (s.chip.isReady && s.chip.xportWrites x && !s.chip.noPair E.MBOX_FENCED) _)))
        rw [hpair.2, hwhen]
        exact hp)
    have hme := mbox_notMem (l := eventMeters) (by decide) hcell
    have hno : s.chip.fuse.variant ≠ 0 → ∀ f : Chip → Chip, (s.chip.atTime t).when (!decide (s.chip.fuse.variant ≠ 0)) f = s.chip.atTime t := fun hv f => by
      rw [decide_eq_true hv]
      rfl
    refine ⟨fun hv => ⟨hw _ ?_, hf _ ?_⟩, fun hv ho => hw _ ?_, fun hv ho => hw _ ?_, fun hv ho hj => hf _ ?_, fun hv ho hj => hf _ ?_⟩
    · rw [hno hv]
      exact s.chip.keeps_unchanged t
    · rw [hno hv]
      exact s.chip.keeps_unchanged t
    · obtain ⟨g1, g2, g3, g4, g5⟩ := Chip.writeCell_frame (c := s.chip.atTime t) hcell hmode ho v false
      rw [Chip.when_true (by simp [hv])]
      exact ⟨Chip.get_end hme.1 g1, Chip.get_end hme.2 g2, Chip.keeps_ended t (Chip.keeps_mono g4 (by decide)) (by decide) (by decide), Chip.keepsEntries_end t g5⟩
    · have he : (s.chip.atTime t).writeCell cell v false = ((s.chip.atTime t).count E.MBOX_FOREIGN_WRITES 1).event 0x48A 0 1 noUnit [cell] := by
        unfold Chip.writeCell
        rw [if_neg (fun h => absurd (h.2.1.symm.trans hmode) (by decide)), if_pos (by rw [show (s.chip.atTime t).ownCell cell = false from ho]; rfl)]
      rw [Chip.when_true (by simp [hv]), he]
      refine ⟨Chip.counts_end t (by decide) ((Chip.getAt_event _ _ _ _ _ _ (by decide)).trans (Chip.getAt_countAt_same _ _ _ _ (by decide))),
        Chip.keeps_ended t (by simp [notePart]) (by decide) (by decide), Chip.keepsEntries_end t (by simp)⟩
    · obtain ⟨g1, g2, g3, g4, g5⟩ := Chip.writeCell_frame (c := s.chip.atTime t) hcell hmode ho v true
      rw [Chip.when_true (by simp [hv]), Chip.fencedWrite_own (c := s.chip.atTime t) ho, if_pos (show (s.chip.atTime t).pr.joined = true from hj)]
      refine ⟨Chip.get_end hme.2 g2, ?_, Chip.keeps_ended t ((Chip.keeps_with_pr (by decide) _).2 (Chip.keeps_mono g4 (by decide))) (by decide) (by decide)⟩
      rw [Chip.seal_pr, Chip.notices_pr]
      exact congrArg (· ++ [(cell, Xport.item x, (s.chip.atTime t).now)]) (congrArg Pr.fences g3 :)
    · obtain ⟨g1, g2, g3, g4, g5⟩ := Chip.writeCell_frame (c := s.chip.atTime t) hcell hmode ho v true
      have hres := mbox_notMem (l := [E.MBOX_FENCE_RESULT]) (by decide) hcell
      rw [Chip.when_true (by simp [hv]), Chip.fencedWrite_own (c := s.chip.atTime t) ho, if_neg (by rw [show (s.chip.atTime t).pr.joined = false from hj]; decide)]
      refine ⟨Chip.get_end hme.2 ?_, Chip.get_end (by decide) ((Chip.get_set _ _ _ _).trans (if_pos rfl)), ?_,
        Chip.keeps_ended t ((Chip.keeps_setAt_iff (by decide) _ _ _).2 (Chip.keeps_mono g4 (by decide))) (by decide) (by decide)⟩
      · exact (Chip.get_set _ _ _ _).trans ((if_neg (by simpa using hres.2)).trans g2)
      · rw [Chip.seal_pr, Chip.notices_pr]
        exact (congrArg Pr.fences g3 :)
  · refine Completes.of_run (f := Chip.fenceTimeout) rfl ?_
    rw [Chip.fenceTimeout_first (c := s.chip.atTime t) hf hlate hrest hsets]
    have hk2 : (s.chip.atTime t).keeps (({ s.chip.atTime t with pr := { s.chip.pr with fences := l } } : Chip).set E.MBOX_FENCE_RESULT 2) [.pr, .dict] :=
      (Chip.keeps_setAt_iff (by decide) _ _ _).2 ((Chip.keeps_with_pr (by decide) _).2 (Chip.keeps_refl _ _))
    refine ⟨?_, Chip.get_end (by decide) ((Chip.get_set _ _ _ _).trans (if_pos rfl)), Chip.keeps_ended t (Chip.keeps_mono hk2 (by decide)) (by decide) (by decide),
      Chip.keepsEntries_end t ((Chip.keepsEntries_setAt_iff (by decide) _ _).2 (Chip.keepsEntries_vals rfl _))⟩
    rw [Chip.seal_pr, Chip.notices_pr]
    rfl
end

section
/-! Refutation by two records of one unit: reads take the first, and the search for units that wait in a fence takes both. As the first is retired, the
second lets its probe begin and overwrites the first (R18). -/
namespace Sys2Proof.Machine

/-- A decoder, ONLINE by its first record, and FENCED and postponed by its second. -/
def twinUnit : Nat := mkUnit kLDPC 5
def twinIdent : Nat := kLDPC * 2 ^ 15 + 5
def twinChip : Chip :=
  let calm := restful fun _ => []
  { calm with un := { calm.un with units := onlineUnit twinUnit :: { onlineUnit twinUnit with own := 3, probe := 2 } :: calm.un.units } }

theorem twinIdent_checked : ∀ f ∈ twinChip.unitChecks, f twinIdent = twinIdent := by decide +kernel

end Sys2Proof.Machine

open Sys2Proof Sys2Proof.Machine

/-- Refutes O38: after UNIT_RETIRE of that decoder it is FENCED. -/
theorem not_actionsTakeEffect : ¬ Obligations.ActionsTakeEffect := by
  intro h
  obtain ⟨-, -, -, -, hretire, -⟩ := h { chip := twinChip, pending := [] } 0 .nvme (by decide +kernel) rfl
  have hv := Completes.value (hretire twinIdent twinUnit (by decide) twinIdent_checked (by decide) (by decide) (by decide) (by decide +kernel) (by decide +kernel)
    (by decide +kernel) (by decide +kernel)) (fun c => c.own twinUnit) fun _ hc => hc.1
  exact absurd hv (by decide +kernel)
end

section
/-! Fetch (R35, R75, R76): the queue that a port's visit picks, what its turn takes from it, and what one entry taken leaves. -/
namespace Sys2Proof.Machine

/-! ### The queue picked -/

theorem mem_of_nextQueue {qs : List Sq} {last : Nat} {q : Sq} (h : nextQueue qs last = some q) : q ∈ qs := by
  unfold nextQueue at h
  dsimp only at h
  split at h
  next r hr =>
    obtain rfl := Option.some.inj h
    exact List.mem_mergeSort.1 (List.mem_of_find?_eq_some hr)
  next => exact List.mem_mergeSort.1 (List.mem_of_mem_head? h)

/-- A priority with a queue to fetch from and weight left in its round. -/
theorem weighted_of_findSome {of : Nat → Option Sq} {w w' : List Nat} {r : Sq × List Nat × Option Nat}
    (h : ((List.range 3).findSome? fun k => if nth w k = 0 then none else (of (k + 1)).map fun q => (q, w.set (5 + k) q.qid, some k)) = some r)
    (hw : r.2.1 = w') : ∃ k, r.2.2 = some k ∧ of (k + 1) = some r.1 ∧ nth w' k ≠ 0 := by
  obtain ⟨k, hk, hr⟩ := List.exists_of_findSome?_eq_some h
  split at hr
  · cases hr
  · next hn =>
    obtain ⟨q, hq, rfl⟩ := Option.map_eq_some_iff.1 hr
    refine ⟨k, rfl, hq, ?_⟩
    subst hw
    have hne : 5 + k ≠ k := by omega
    simpa only [nth, List.getD_eq_getElem?_getD, List.getElem?_set_ne hne] using hn

/-- The queue picked is one that can be fetched from, of a priority with weight left. -/
theorem Chip.pickQueue_spec {c : Chip} {f : Fn} {v w : List Nat} {q : Sq} {k : Option Nat} (h : c.pickQueue f v = some (q, w, k)) :
    c.canFetch q = true ∧ ∀ j, k = some j → nth w j ≠ 0 := by
  unfold Chip.pickQueue at h
  extract_lets mine of fresh try1 at h
  have hcan : ∀ {r : Sq}, r ∈ mine → c.canFetch r = true := fun hr => by
    have := (List.mem_filter.1 hr).2
    simp only [Bool.and_eq_true] at this
    exact this.2
  have hof : ∀ {p : Nat} {r : Sq}, of p = some r → c.canFetch r = true := fun hp => hcan (List.mem_filter.1 (mem_of_nextQueue hp)).1
  have htry : ∀ {u : List Nat}, try1 u = some (q, w, k) → c.canFetch q = true ∧ ∀ j, k = some j → nth w j ≠ 0 := fun {u} hu => by
    obtain ⟨i, hi, hq, hw⟩ := weighted_of_findSome hu rfl
    exact ⟨hof hq, fun j hj => Option.some.inj (hi.symm.trans hj) ▸ hw⟩
  split at h
  · split at h
    next r hr =>
      simp only [Option.some.injEq, Prod.mk.injEq] at h
      obtain ⟨rfl, -, rfl⟩ := h
      exact ⟨hcan (List.mem_of_find?_eq_some hr), fun j hj => by cases hj⟩
    next =>
      split at h
      next r hr =>
        simp only [Option.some.injEq, Prod.mk.injEq] at h
        obtain ⟨rfl, -, rfl⟩ := h
        exact ⟨hof hr, fun j hj => by cases hj⟩
      next =>
        split at h
        next r hr => exact htry (hr.trans h)
        next => exact htry h
  · obtain ⟨r, hr, he⟩ := Option.map_eq_some_iff.1 h
    simp only [Prod.mk.injEq] at he
    obtain ⟨rfl, -, rfl⟩ := he
    exact ⟨hcan (mem_of_nextQueue hr), fun j hj => by cases hj⟩

/-! ### The turn -/

/-- How many entries a visit takes: what the burst, the turn, the queue, its priority's weight and the input of the port allow. -/
def Chip.fetchRoom (c : Chip) (port : Nat) (a : Arb) (q : Sq) (w : List Nat) (k : Option Nat) (entries : List (List Nat)) : Nat :=
  min (min (min (if (c.fnOf port a.fn).ab = 7 then 8 else min 8 (2 ^ (c.fnOf port a.fn).ab)) a.left)
      (min (c.get E.FETCH_LIMIT - c.awaiting q) ((q.tail + q.size - q.head) % q.size)))
    (min (min entries.length ((k.map fun k => nth w k).getD 8)) (4096 - c.inputOf port))

/-- A submission queue of which `n` entries have been taken. -/
def Sq.taken (q : Sq) (n : Nat) : Sq := { q with head := (q.head + n) % q.size, fetched := (q.fetched + n) % 2 ^ 40, eventIdx := q.tail }

/-- The port's turn after `n` entries of a queue. -/
def Arb.after (a : Arb) (n : Nat) (w : List Nat) (k : Option Nat) : Arb :=
  { fn := a.fn, left := a.left - n,
    rounds := upsert (fun r => decide (r.1 = a.fn)) (a.fn, match k with
      | some k => w.set k (nth w k - n)
      | none => w) a.rounds }

/-- The queue and the turn of a visit that takes `n` entries. -/
def Chip.turned (c : Chip) (port : Nat) (a : Arb) (q : Sq) (w : List Nat) (k : Option Nat) (n : Nat) : Chip :=
  let c1 := (c.useContext port a.fn q.qid).setSq (q.taken n)
  { c1 with qs := { c1.qs with arb := c.qs.arb.set port (a.after n w k) } }

/-- In the turn of a function without shadow doorbells, a visit takes as many entries of the queue picked as there is room for. -/
theorem Chip.fetch_eq {c : Chip} {port : Nat} {a : Arb} {q : Sq} {w : List Nat} {k : Option Nat} (ha : c.qs.arb[port]? = some a) (hl : a.left ≠ 0)
    (hi : c.inputOf port < 4096) (hs : (c.fnOf port a.fn).shadow = false)
    (hc : (c.qs.sqs.any fun q => decide (q.port = port ∧ q.fn = a.fn) && c.canFetch q) = true)
    (hp : c.pickQueue (c.fnOf port a.fn) (((a.rounds.find? fun r => decide (r.1 = a.fn)).map Prod.snd).getD (c.fnOf port a.fn).freshRound) = some (q, w, k))
    (entries : List (List Nat)) :
    c.fetch port entries none = (c.turned port a q w k (c.fetchRoom port a q w k entries)).each (entries.take (c.fetchRoom port a q w k entries))
      fun d e => d.takeEntry (q.taken (c.fetchRoom port a q w k entries)) e := by
  have hd : c.qs.arb.getD port { fn := 0, left := 0, rounds := [] } = a := by rw [List.getD_eq_getElem?_getD, ha]; rfl
  unfold Chip.fetch
  rw [hd]
  simp only [hc, hl, ne_eq, not_false_eq_true, and_self, if_true, if_neg (Nat.not_le.2 hi), hp, hs, Bool.false_and, Bool.false_eq_true, if_false]
  rfl

theorem Chip.keeps_turned (c : Chip) (port : Nat) (a : Arb) (q : Sq) (w : List Nat) (k : Option Nat) (n : Nat) :
    c.keeps (c.turned port a q w k n) [.qs, .dict] :=
  (Chip.keeps_with_qs (by decide) _).2 ((Chip.keeps_setSq_iff (by decide) _).2 (Chip.keeps_useContext _ _ _ _))

theorem Chip.turned_now (c : Chip) (port : Nat) (a : Arb) (q : Sq) (w : List Nat) (k : Option Nat) (n : Nat) : (c.turned port a q w k n).now = c.now := by
  have h : (c.useContext port a.fn q.qid).now = c.now := by
    unfold Chip.useContext
    dsimp only
    split <;> exact Chip.countAt_now ..
  exact h

theorem Chip.keepsEntries_useContext (c : Chip) (port fn qid : Nat) : c.keepsEntries (c.useContext port fn qid) [E.CTX_HITS, E.CTX_MISSES] := by
  unfold Chip.useContext
  dsimp only
  split <;> exact (Chip.keepsEntries_countAt_iff (by decide) _ _).2 (Chip.keepsEntries_vals rfl _)

theorem Chip.keepsEntries_turned (c : Chip) (port : Nat) (a : Arb) (q : Sq) (w : List Nat) (k : Option Nat) (n : Nat) :
    c.keepsEntries (c.turned port a q w k n) [E.CTX_HITS, E.CTX_MISSES] :=
  Chip.keepsEntries_trans ((Chip.keepsEntries_setSq_iff (q.taken n)).2 (Chip.keepsEntries_useContext c port a.fn q.qid)) (Chip.keepsEntries_vals rfl []) |>
    fun h => Chip.keepsEntries_mono h (by simp)

theorem Chip.sqOf_turned (c : Chip) (port : Nat) (a : Arb) {q : Sq} (hq : q.port = port ∧ q.fn = a.fn) (w : List Nat) (k : Option Nat) (n : Nat) :
    (c.turned port a q w k n).sqOf port a.fn q.qid = some (q.taken n) := by
  have h := Chip.sqOf_setSq_same (c.useContext port a.fn q.qid) (q.taken n)
  have hp : (q.taken n).port = port := hq.1
  have hf : (q.taken n).fn = a.fn := hq.2
  rw [hp, hf] at h
  exact h

/-! ### The check at fetch -/

/-- The check of a new command depends on no queue and on no counter of queue contexts. -/
theorem Chip.fetchCheck_congr {a b : Chip} (hk : a.keeps b [.qs, .dict]) (hv : a.keepsEntries b [E.CTX_HITS, E.CTX_MISSES]) (x : Cmd) :
    b.fetchCheck x = a.fetchCheck x := by
  have hb : b.boot = a.boot := hk .boot (by decide)
  have hf : b.fuse = a.fuse := hk .fuse (by decide)
  have ht : b.ft = a.ft := hk .ft (by decide)
  have hw : b.wins = a.wins := hk .wins (by decide)
  have hp : b.pr = a.pr := hk .pr (by decide)
  have hns : b.ns = a.ns := by funext n; unfold Chip.ns; rw [ht]
  have g : ∀ e item, e ∉ [E.CTX_HITS, E.CTX_MISSES] → e ∉ eventMeters → b.getAt e item = a.getAt e item := hv
  have g1 := g E.SANITIZE_STATE 0 (by decide) (by decide)
  have g2 := g E.SB_STATE 0 (by decide) (by decide)
  have g3 := fun i => g E.SB_FN_RIGHTS i (by decide) (by decide)
  have g4 := g E.PAIR_STATE 0 (by decide) (by decide)
  have g5 := g E.DETACHED 0 (by decide) (by decide)
  have g6 := g E.PAIR_SOLO_WRITES 0 (by decide) (by decide)
  have hadmin : b.adminCheck x = a.adminCheck x := by unfold Chip.adminCheck; rw [hb, hf, Chip.get, g1]
  have hbook : b.bookFetch x = a.bookFetch x := by unfold Chip.bookFetch Chip.win5; rw [hw, hns]
  have hblock : b.blockFetch x = a.blockFetch x := by unfold Chip.blockFetch; rw [hns]
  have hown : b.ownIndex = a.ownIndex := by unfold Chip.ownIndex; rw [hb, hp]
  have hnsf : b.nsFetch x = a.nsFetch x := by unfold Chip.nsFetch Chip.attached Chip.cntlid; rw [hns, hown]
  have hio : b.ioOpcode = a.ioOpcode := by funext n; unfold Chip.ioOpcode Chip.bookOn Chip.get; rw [g2]
  have hright : b.bookRight x = a.bookRight x := by unfold Chip.bookRight; rw [g3]
  have hsolo : b.soloRefuses = a.soloRefuses := by unfold Chip.soloRefuses Chip.get; rw [g4, g5, g6, hown]
  have hreg : b.regionsOf x = a.regionsOf x := by unfold Chip.regionsOf Chip.granulesOf; rw [hns]
  have hpair : b.pairRefuses x = a.pairRefuses x := by unfold Chip.pairRefuses; rw [hsolo, hreg, hp, Chip.get, g4]
  have hioc : b.ioCheck x = a.ioCheck x := by unfold Chip.ioCheck; rw [hb, hio, hright, ht, hbook, hblock, hnsf, hpair, Chip.get, g1]
  unfold Chip.fetchCheck
  rw [hadmin, hioc]

/-! ### One entry -/

/-- The records of the commands under a handle. -/
def Chip.cmdsAt (c : Chip) (h : Nat) : List Cmd := c.cmds.filter fun x => decide (x.h = h)

theorem Chip.cmd_eq_head (c : Chip) (h : Nat) : c.cmd h = (c.cmdsAt h).head? := List.head?_filter.symm

theorem Chip.cmdsAt_congr {c d : Chip} (he : d.cmds = c.cmds) (h : Nat) : d.cmdsAt h = c.cmdsAt h := by unfold Chip.cmdsAt; rw [he]

theorem Chip.cmdsAt_setCmd_ne (c : Chip) {x : Cmd} {k : Nat} (hn : x.h ≠ k) : (c.setCmd x).cmdsAt k = c.cmdsAt k := by
  unfold Chip.cmdsAt
  rw [Chip.setCmd_cmds]
  generalize c.cmds = l
  induction l with
  | nil => rfl
  | cons y l ih =>
    simp only [change, List.map_cons, List.filter_cons, decide_eq_true_eq] at ih ⊢
    rw [ih]
    by_cases hy : y.h = x.h
    · have hyk : y.h ≠ k := hy ▸ hn
      simp [hy, hn]
    · simp [hy]

theorem Chip.cmdsAt_dropCmd_ne (c : Chip) {h k : Nat} (hn : h ≠ k) : (c.dropCmd h).cmdsAt k = c.cmdsAt k := by
  unfold Chip.cmdsAt Chip.dropCmd drop'
  dsimp only
  rw [List.filter_filter]
  refine List.filter_congr fun x _ => ?_
  by_cases hx : x.h = k <;> simp [hx, Ne.symm hn]

theorem Chip.cmdsAt_finish_ne (c : Chip) {h k status dw0 dw1 : Nat} (hn : h ≠ k) : (c.finish h status dw0 dw1).cmdsAt k = c.cmdsAt k := by
  unfold Chip.finish
  split
  · rfl
  · next x hx =>
    dsimp only
    split
    · exact (Chip.cmdsAt_dropCmd_ne _ hn).trans (Chip.cmdsAt_congr (c.releaseWork_cmds h) k)
    · exact (Chip.cmdsAt_setCmd_ne _ (by simpa using Chip.cmd_h hx ▸ hn)).trans (Chip.cmdsAt_congr (c.releaseWork_cmds h) k)

theorem Chip.cmdsAt_abortXfer_ne (c : Chip) {h k : Nat} (hn : h ≠ k) : (c.abortXfer h).cmdsAt k = c.cmdsAt k := by
  unfold Chip.abortXfer
  split
  · rfl
  · extract_lets l q c1 _
    have h1 : c1.cmdsAt k = c.cmdsAt k := by
      unfold c1
      split
      next x hx =>
        split
        · exact Chip.cmdsAt_setCmd_ne _ (by rw [show ({ x with guests := 0 } : Cmd).h = x.h from rfl, Chip.cmd_h hx]; exact hn)
        · rfl
      next => rfl
    exact (Chip.cmdsAt_congr (Chip.keeps_sendFrame _ _ _ _ _ _ .cmds (by decide)) k).trans h1

theorem Chip.cmdsAt_giveBack_ne (c : Chip) {h k : Nat} (hn : h ≠ k) : (c.giveBack h).cmdsAt k = c.cmdsAt k := by
  unfold Chip.giveBack
  extract_lets ids c1 _ _ c2 c3
  have h1 : c1.cmdsAt k = c.cmdsAt k := Chip.cmdsAt_congr (Chip.keeps_each Chip.keeps_freeSlot ids c .cmds (by decide)) k
  have h2 : c2.cmdsAt k = c.cmdsAt k := by
    unfold c2
    split
    · exact h1
    next x hx => exact (Chip.cmdsAt_setCmd_ne _ (by simpa using Chip.cmd_h hx ▸ hn)).trans h1
  refine Eq.trans (Chip.cmdsAt_congr ?_ k) h2
  unfold c3
  split <;> simp

theorem Chip.cmdsAt_undo_ne (c : Chip) {h k : Nat} (hn : h ≠ k) : (c.undo h).cmdsAt k = c.cmdsAt k :=
  (Chip.cmdsAt_giveBack_ne _ hn).trans (Chip.cmdsAt_abortXfer_ne c hn)

/-- What the marks of a namespace reach. -/
def markPart : List Area := [.pr, .dict, .cmds, .ft, .st, .book, .lk, .um]

/-- The end of the commands that wait on a namespace leaves the admin commands. -/
theorem Chip.endWaiting_frame (c : Chip) (nsid : Nat) (on : Cmd → Bool) (status : Nat) :
    c.keeps (c.endWaiting nsid on status) markPart
      ∧ ∀ h, (∀ x ∈ c.cmdsAt h, x.admin = true) → (c.endWaiting nsid on status).cmdsAt h = c.cmdsAt h := by
  unfold Chip.endWaiting
  have hk : ∀ (d : Chip) (x : Cmd), d.keeps ((d.undo x.h).fail x.h status) markPart := fun d x =>
    (Chip.keeps_finish_iff (by decide) (by decide) _ _ _ _).2 (Chip.keeps_undo d x.h)
  refine ⟨Chip.keeps_each hk _ _, fun h hx => ?_⟩
  refine Chip.each_mem_induct (P := fun d => d.cmdsAt h = c.cmdsAt h) (fun d x hmem hd => ?_) rfl
  obtain ⟨hc, hf⟩ := List.mem_filter.1 hmem
  have hne : x.h ≠ h := fun he => by simp [hx x (List.mem_filter.2 ⟨hc, by simpa using he⟩)] at hf
  exact (Chip.cmdsAt_finish_ne _ hne).trans ((Chip.cmdsAt_undo_ne d hne).trans hd)

/-- A namespace marked, and what waits on it ended. -/
theorem Chip.marked_frame (c : Chip) (n : Ns) (nsid : Nat) (on : Cmd → Bool) (status : Nat) :
    c.keeps ((c.setNs n).endWaiting nsid on status) markPart
      ∧ ∀ h, (∀ x ∈ c.cmdsAt h, x.admin = true) → ((c.setNs n).endWaiting nsid on status).cmdsAt h = c.cmdsAt h := by
  have hs : ∀ h, (c.setNs n).cmdsAt h = c.cmdsAt h := Chip.cmdsAt_congr rfl
  obtain ⟨h1, h2⟩ := (c.setNs n).endWaiting_frame nsid on status
  exact ⟨Chip.keeps_mono (Chip.keeps_trans (c.keeps_setNs n) h1) (by decide), fun h hx => (h2 h (by rw [hs]; exact hx)).trans (hs h)⟩

/-- The marks of an admin command end none, and no command is marked but Namespace Management, Namespace Attachment and Format NVM. -/
theorem Chip.markNs_frame (c : Chip) (x : Cmd) : c.keeps (c.markNs x) markPart ∧ (∀ h, (∀ y ∈ c.cmdsAt h, y.admin = true) → (c.markNs x).cmdsAt h = c.cmdsAt h)
    ∧ (x.opcode ≠ 0x0D → x.opcode ≠ 0x80 → x.opcode ≠ 0x15 → c.markNs x = c) := by
  have hrefl : c.keeps c markPart ∧ ∀ h, (∀ y ∈ c.cmdsAt h, y.admin = true) → c.cmdsAt h = c.cmdsAt h := ⟨Chip.keeps_refl _ _, fun _ _ => rfl⟩
  have heach : ∀ (l : List Ns) (mark : Ns → Ns) (status : Nat),
      c.keeps (c.each l fun c n => (c.setNs (mark n)).endWaiting n.nsid (fun _ => true) status) markPart ∧ ∀ h, (∀ y ∈ c.cmdsAt h, y.admin = true) →
        (c.each l fun c n => (c.setNs (mark n)).endWaiting n.nsid (fun _ => true) status).cmdsAt h = c.cmdsAt h := fun l mark status =>
    ⟨Chip.keeps_each (fun d n => (d.marked_frame (mark n) n.nsid (fun _ => true) status).1) _ _, fun h hx =>
      Chip.each_induct (P := fun d => d.cmdsAt h = c.cmdsAt h)
        (fun d n hd => ((d.marked_frame (mark n) n.nsid (fun _ => true) status).2 h (by rw [hd]; exact hx)).trans hd) _ rfl⟩
  rw [← and_assoc]
  refine ⟨?_, fun h1 h2 h3 => by unfold Chip.markNs; simp only [h1, h2, h3, false_and, if_false, ite_self]⟩
  unfold Chip.markNs
  split
  · exact hrefl
  · split
    · exact heach _ _ _
    · split
      · split
        · exact hrefl
        · split
          · exact c.marked_frame _ _ _ _
          · exact hrefl
      · split
        · exact heach _ _ _
        · exact hrefl

/-- The chip with a command more. -/
def Chip.withCmd (c : Chip) (x : Cmd) : Chip := { c with cmds := c.cmds ++ [x], nextH := c.nextH + 1 }

theorem Chip.keeps_withCmd (c : Chip) (x : Cmd) : c.keeps (c.withCmd x) [.nextH, .cmds] := fun p hp => by
  cases p <;> first | exact absurd (by decide) hp | rfl

/-- What the check at fetch leaves of a new command. -/
def Cmd.checked (x : Cmd) (st : Option Nat) (y : Cmd) : Prop :=
  match st with
  | none => y = x
  | some st => y = { x with phase := .ended, status := st, order := y.order }

theorem Chip.cmdsAt_withCmd {c : Chip} {x : Cmd} (hn : c.cmd x.h = none) : (c.withCmd x).cmdsAt x.h = [x] := by
  have h0 : c.cmdsAt x.h = [] := List.head?_eq_none_iff.1 ((c.cmd_eq_head x.h).symm.trans hn)
  unfold Chip.cmdsAt Chip.withCmd at *
  rw [List.filter_append, h0]
  simp

theorem Chip.cmd_withCmd_ne (c : Chip) {x : Cmd} {h : Nat} (hn : x.h ≠ h) : (c.withCmd x).cmd h = c.cmd h := by
  unfold Chip.cmd Chip.withCmd
  rw [List.find?_append]
  simp [hn]

/-- An entry of the queues' fetch is the next command: the queues stay, and the handles go on by one. -/
theorem Chip.takeEntry_frame (c : Chip) (q : Sq) (sqe : List Nat) :
    (c.takeEntry q sqe).qs = c.qs ∧ (c.takeEntry q sqe).fns = c.fns ∧ (c.takeEntry q sqe).nextH = c.nextH + 1 ∧ (c.cmd c.nextH = none →
        (∃ y, (c.takeEntry q sqe).cmd c.nextH = some y ∧ (c.newCmd q sqe).checked (c.fetchCheck (c.newCmd q sqe)) y)
      ∧ (q.qid ≠ 0 ∨ nth sqe 0 % 256 ≠ 0x0D ∧ nth sqe 0 % 256 ≠ 0x80 ∧ nth sqe 0 % 256 ≠ 0x15 →
          (∀ h, h ≠ c.nextH → (c.takeEntry q sqe).cmd h = c.cmd h) ∧ c.keeps (c.takeEntry q sqe) (.nextH :: notePart))) := by
  unfold Chip.takeEntry
  extract_lets x next l c0 c1
  have hxh : x.h = c.nextH := rfl
  have hk1 : (c.withCmd x).keeps c1 [.dict, .ev, .lg] := by
    unfold c1
    split
    · exact (Chip.keeps_event_iff (by decide) (by decide) (by decide) _ _ _ _ _).2 (Chip.keeps_refl _ _)
    · exact Chip.keeps_refl _ _
  have hc1 : c1.cmds = (c.withCmd x).cmds := hk1 .cmds (by decide)
  have hkc1 : c.keeps c1 (.nextH :: notePart) := Chip.keeps_mono (Chip.keeps_trans (c.keeps_withCmd x) hk1) (by decide)
  have hother : ∀ h, h ≠ c.nextH → c1.cmd h = c.cmd h := fun h hn => (Chip.cmd_congr hc1 h).trans (Chip.cmd_withCmd_ne c (Ne.symm hn))
  have hnew : c.cmd c.nextH = none → c1.cmdsAt c.nextH = [x] := fun hn => (Chip.cmdsAt_congr hc1 _).trans (Chip.cmdsAt_withCmd (x := x) hn)
  have hnewc : c.cmd c.nextH = none → c1.cmd c.nextH = some x := fun hn => by rw [Chip.cmd_eq_head, hnew hn]; rfl
  have hq1 : c1.qs = c.qs := hk1 .qs (by decide)
  have hf1 : c1.fns = c.fns := hk1 .fns (by decide)
  have hn1 : c1.nextH = c.nextH + 1 := hk1 .nextH (by decide)
  cases hst : c.fetchCheck x with
  | none =>
    simp only [Cmd.checked]
    by_cases ha : x.admin = true
    · rw [if_pos ha]
      obtain ⟨g1, g2, g3⟩ := c1.markNs_frame x
      refine ⟨(g1 .qs (by decide)).trans hq1, (g1 .fns (by decide)).trans hf1, (g1 .nextH (by decide)).trans hn1, fun hn => ⟨⟨x, ?_, rfl⟩, fun ho => ?_⟩⟩
      · rw [Chip.cmd_eq_head, g2 _ fun y hy => by rw [hnew hn, List.mem_singleton] at hy; rw [hy]; exact ha, hnew hn]
        rfl
      · have ho' := ho.resolve_left fun h => h (of_decide_eq_true ha)
        rw [g3 ho'.1 ho'.2.1 ho'.2.2]
        exact ⟨hother, hkc1⟩
    · rw [if_neg ha]
      exact ⟨hq1, hf1, hn1, fun hn => ⟨⟨x, hnewc hn, rfl⟩, fun _ => ⟨hother, hkc1⟩⟩⟩
  | some st =>
    simp only [Cmd.checked]
    generalize hc2 : (if st = dnr stDiverged then c1.eventFirst 0x489 0 1 noUnit [] else c1) = c2
    have hk2 : c1.keeps c2 [.dict, .ev, .lg] := by
      subst hc2
      split
      · exact (Chip.keeps_eventFirst_iff (by decide) (by decide) (by decide) _ _ _ _ _).2 (Chip.keeps_refl _ _)
      · exact Chip.keeps_refl _ _
    have hkf : c2.keeps (c2.finish x.h st 0 0) [.cmds, .um] := Chip.keeps_finish _ _ _ _ _
    refine ⟨(hkf .qs (by decide)).trans ((hk2 .qs (by decide)).trans hq1), (hkf .fns (by decide)).trans ((hk2 .fns (by decide)).trans hf1), (hkf .nextH (by decide)).trans ((hk2 .nextH (by decide)).trans hn1),
      fun hn => ⟨⟨_, Chip.cmd_finish_same c2 ((Chip.keeps_cmd hk2 (by decide) _).trans (hnewc hn)) rfl rfl, rfl⟩, fun _ => ⟨fun h hne => ?_, ?_⟩⟩⟩
    · exact (Chip.cmd_finish_ne _ (hxh ▸ Ne.symm hne)).trans ((Chip.keeps_cmd hk2 (by decide) _).trans (hother h hne))
    · exact Chip.keeps_mono (Chip.keeps_trans hkc1 (Chip.keeps_trans hk2 hkf)) (by decide)

/-- Entries taken one after the other. -/
theorem Chip.takeEntries_frame (q : Sq) (l : List (List Nat)) (c : Chip) :
    (c.each l fun d e => d.takeEntry q e).qs = c.qs ∧ (c.each l fun d e => d.takeEntry q e).nextH = c.nextH + l.length := by
  induction l generalizing c with
  | nil => exact ⟨rfl, rfl⟩
  | cons e l ih =>
    obtain ⟨hq, -, hn, -⟩ := c.takeEntry_frame q e
    obtain ⟨iq, ih⟩ := ih (c.takeEntry q e)
    refine ⟨iq.trans hq, ih.trans ?_⟩
    rw [hn, List.length_cons]
    omega

/-- A visit of a port takes one entry, where one is offered. -/
theorem Chip.fetchRoom_one {c : Chip} {port : Nat} {a : Arb} {q : Sq} {v w : List Nat} {k : Option Nat} (hl : a.left ≠ 0) (hi : c.inputOf port < 4096)
    (hp : c.pickQueue (c.fnOf port a.fn) v = some (q, w, k)) (hav : (q.tail + q.size - q.head) % q.size ≠ 0) (sqe : List Nat) :
    c.fetchRoom port a q w k [sqe] = 1 := by
  obtain ⟨hc, hw⟩ := Chip.pickQueue_spec hp
  have hlim : c.awaiting q < c.get E.FETCH_LIMIT := by
    unfold Chip.canFetch at hc
    simp only [Bool.and_eq_true, decide_eq_true_eq] at hc
    obtain ⟨⟨⟨-, h⟩, -⟩, -⟩ := hc
    exact h
  have hweight : 1 ≤ (k.map fun k => nth w k).getD 8 := by
    cases k with
    | none => exact (by decide : 1 ≤ 8)
    | some j => exact Nat.one_le_iff_ne_zero.2 (hw j rfl)
  have hburst : 1 ≤ (if (c.fnOf port a.fn).ab = 7 then 8 else min 8 (2 ^ (c.fnOf port a.fn).ab)) := by
    split
    · decide
    · exact Nat.le_min.2 ⟨by decide, Nat.one_le_two_pow⟩
  unfold Chip.fetchRoom
  rw [show ([sqe] : List (List Nat)).length = 1 from rfl]
  generalize (if (c.fnOf port a.fn).ab = 7 then 8 else min 8 (2 ^ (c.fnOf port a.fn).ab)) = b at hburst
  generalize (k.map fun k => nth w k).getD 8 = z at hweight
  omega

end Sys2Proof.Machine

open Sys2Proof Sys2Proof.Machine

/-- Settles O20: the room of the visit decides how many entries it takes, and each is checked on its own. -/
theorem fetchTakesAnEntry : Obligations.FetchTakesAnEntry := by
  intro s t port sqe a q w k hsv hb ha hl hi hs hany hp hq hav
  have he : ∀ entries, exec (.fetch t port entries none) s = run s t fun c => c.when (c.serves && !c.boot.fetchHeld) fun c => c.fetch port entries none :=
    fun _ => rfl
  have hon : ((s.chip.atTime t).serves && !(s.chip.atTime t).boot.fetchHeld) = true := by
    rw [Bool.and_eq_true, Bool.not_eq_true']
    exact ⟨hsv, hb⟩
  have heq := Chip.fetch_eq (c := s.chip.atTime t) ha hl hi hs hany hp
  have hqk : q.port = port ∧ q.fn = a.fn := by
    have := List.find?_some hq
    simp only [decide_eq_true_eq] at this
    exact ⟨this.1, this.2.1⟩
  have hhead : ∀ n, (((s.chip.atTime t).turned port a q w k n).sqOf port a.fn q.qid).map Sq.head = some ((q.head + n) % q.size) := fun n => by
    rw [Chip.sqOf_turned _ _ _ hqk]
    rfl
  refine ⟨fun hn hnot => ?_, fun entries n hnn => ?_⟩
  · refine Completes.of_whenOn (he [sqe]) hon ?_
    have hone : (s.chip.atTime t).fetchRoom port a q w k [sqe] = 1 := Chip.fetchRoom_one (c := s.chip.atTime t) hl hi hp hav sqe
    rw [heq, hone]
    have hkt := (s.chip.atTime t).keeps_turned port a q w k 1
    have hvt := (s.chip.atTime t).keepsEntries_turned port a q w k 1
    have hht := hhead 1
    have hnow := (s.chip.atTime t).turned_now port a q w k 1
    generalize (s.chip.atTime t).turned port a q w k 1 = d at hkt hvt hht hnow
    have hdn : d.nextH = s.chip.nextH := hkt .nextH (by decide)
    have hx : d.newCmd (q.taken 1) sqe = (s.chip.atTime t).newCmd q sqe := by
      unfold Chip.newCmd
      rw [hdn, hnow]
      rfl
    obtain ⟨g1, gf, g2, g3⟩ := d.takeEntry_frame (q.taken 1) sqe
    obtain ⟨⟨y, hy, hyc⟩, hrest⟩ := g3 (by rw [hdn]; exact (Chip.keeps_cmd hkt (by decide) _).trans hn)
    rw [hx, Chip.fetchCheck_congr hkt hvt] at hyc
    rw [hdn] at hy g2 hrest
    have hf : (d.takeEntry (q.taken 1) sqe).fns = s.chip.fns := gf.trans (hkt .fns (by decide))
    have hkeep : ∀ h, s.chip.notHeld h → (d.takeEntry (q.taken 1) sqe).notHeld h := fun h => Chip.notHeld_congr hf
    have hcmd : ∀ h, s.chip.notHeld h → ((s.chip.atTime t).seal ((s.chip.atTime t).notices (d.takeEntry (q.taken 1) sqe))).cmd h =
        (d.takeEntry (q.taken 1) sqe).cmd h := fun h hh => by rw [Chip.cmd_seal, Chip.cmd_notices _ (hkeep h hh)]
    refine ⟨⟨y, (hcmd _ hnot).trans hy, ?_⟩, ?_, ?_, fun ho => ?_⟩
    · generalize (s.chip.atTime t).fetchCheck ((s.chip.atTime t).newCmd q sqe) = st at hyc ⊢
      cases st <;> exact hyc
    · rw [Chip.seal_nextH, Chip.notices_nextH]
      exact g2
    · rw [Chip.sqOf_end]
      exact (congrArg _ (Chip.sqOf_congr g1 _ _ _)).trans hht
    · obtain ⟨r1, r2⟩ := hrest ho
      exact ⟨fun h hne hh => (hcmd h hh).trans ((r1 h hne).trans (Chip.keeps_cmd hkt (by decide) h)),
        Chip.keeps_ended t (Chip.keeps_mono (Chip.keeps_trans hkt r2) (by decide)) (by decide) (by decide)⟩
  · refine Completes.of_whenOn (he entries) hon ?_
    obtain rfl : n = (s.chip.atTime t).fetchRoom port a q w k entries := hnn
    rw [heq]
    have hlen : (s.chip.atTime t).fetchRoom port a q w k entries ≤ entries.length :=
      (Nat.min_le_right _ _).trans ((Nat.min_le_left _ _).trans (Nat.min_le_left _ _))
    generalize (s.chip.atTime t).fetchRoom port a q w k entries = m at hlen
    have hht := hhead m
    have hdn : ((s.chip.atTime t).turned port a q w k m).nextH = s.chip.nextH := (s.chip.atTime t).keeps_turned port a q w k m .nextH (by decide)
    generalize (s.chip.atTime t).turned port a q w k m = d at hht hdn
    obtain ⟨g1, g2⟩ := Chip.takeEntries_frame (q.taken m) (entries.take m) d
    refine ⟨?_, ?_⟩
    · rw [Chip.seal_nextH, Chip.notices_nextH, g2, hdn, List.length_take_of_le hlen]
    · rw [Chip.sqOf_end]
      exact (congrArg _ (Chip.sqOf_congr g1 _ _ _)).trans hht
end

section
/-! What the flush steps of a loss of power and of a full reset leave (R115, R290, R291): fuses, temperatures, the handles and what stands for chance. -/
namespace Sys2Proof.Machine

/-- What the flush steps reach. -/
def flushPart : List Area := [.boot, .dict, .ev, .un, .cmds, .lk, .um, .ft, .sb, .md, .rd, .st, .book, .wins, .pr, .lg]

section
variable {a b c : Chip}

theorem Chip.keeps_flushes (h : a.keeps b flushPart) (h' : b.keeps c flushPart) : a.keeps c flushPart :=
  Chip.keeps_mono (Chip.keeps_trans h h') (by simp)

theorem Chip.keeps_flush {l : List Area} (h : a.keeps b l) (hl : ∀ p ∈ l, p ∈ flushPart) : a.keeps b flushPart := Chip.keeps_mono h hl

/-- An answer that leaves the chip, where there is one, as the flush does. -/
def Chip.flushAnswer {α : Type} (c : Chip) (r : Option (α × Chip)) : Prop := ∀ e d, r = some (e, d) → c.keeps d flushPart

end

/-! ### Pages of the system -/

theorem Chip.keeps_dropRow (c : Chip) (id : Nat) : c.keeps (c.dropRow id) [.sb] := (Chip.keeps_with_sb (by decide) _).2 (Chip.keeps_refl _ _)

theorem Chip.keeps_chargePage (c : Chip) (lun : Nat) : c.keeps (c.chargePage lun) [.um] := by
  unfold Chip.chargePage
  exact (Chip.keeps_chargeRes_iff (by decide) _ _ _).2 (Chip.keeps_chargeRes _ _ _ _)

theorem Chip.keeps_sendPage (c : Chip) (s : Sb) (row m : Nat) (ws : List Nat) : c.keeps (c.sendPage s row m ws) [.um] := by
  unfold Chip.sendPage
  split
  · exact Chip.keeps_refl _ _
  · exact (Chip.keeps_emit_iff _).2 (Chip.keeps_chargePage _ _)

theorem Chip.keeps_usePage (c : Chip) (idx : Nat) (ws : List Nat) : c.keeps (c.usePage idx ws) flushPart := by
  unfold Chip.usePage
  split
  · exact Chip.keeps_refl _ _
  next s _ =>
    extract_lets row m r0 r next c1 _ l
    have h1 : c.keeps c1 flushPart :=
      Chip.keeps_flushes (Chip.keeps_flush (Chip.keeps_setSb c _) (by decide)) (Chip.keeps_flush (Chip.keeps_sendPage _ _ _ _ _) (by decide))
    split
    · refine (Chip.keeps_countSystem_iff (by decide) _).2 (Chip.keeps_flushes ?_ (Chip.keeps_flush (Chip.keeps_sendPage _ _ _ _ _) (by decide)))
      exact Chip.keeps_flushes ((Chip.keeps_with_sb (by decide) _).2 h1) (Chip.keeps_flush (Chip.keeps_dropRow _ _) (by decide))
    · exact (Chip.keeps_with_sb (by decide) _).2 h1

theorem Chip.systemPage_flush (c : Chip) (ws : List Nat) : c.flushAnswer (c.systemPage ws) := by
  intro e d h
  unfold Chip.systemPage at h
  obtain ⟨s, -, hs⟩ := Option.map_eq_some_iff.1 h
  obtain ⟨-, rfl⟩ := Prod.mk.inj hs
  exact (Chip.keeps_countSystem_iff (by decide) _).2 (c.keeps_usePage _ _)

theorem Chip.reservePlace_flush (c : Chip) (ws : List Nat) : c.flushAnswer (c.reservePlace ws) := by
  intro e d h
  unfold Chip.reservePlace at h
  obtain ⟨s, -, hs⟩ := Option.map_eq_some_iff.1 h
  obtain ⟨-, rfl⟩ := Prod.mk.inj hs
  exact (Chip.keeps_countSystem_iff (by decide) _).2 (c.keeps_usePage _ _)

/-! ### Rows -/

theorem Chip.keeps_patchFull (c : Chip) (s : Sb) (row : Nat) (voids : List Nat) : c.keeps (c.patchFull s row voids) flushPart := by
  unfold Chip.patchFull
  exact (Chip.keeps_event_iff (by decide) (by decide) (by decide) _ _ _ _ _).2 ((Chip.keeps_countAt_iff (by decide) _ _ _).2
    (Chip.keeps_flush (Chip.keeps_setSb c _) (by decide)))

theorem Chip.keeps_smallWrite (c : Chip) (idx row : Nat) (voids : List Nat) (pAway qAway : Bool) (data : List (Nat × List Nat)) :
    c.keeps (c.smallWrite idx row voids pAway qAway data) flushPart := by
  have hopt : ∀ (d : Chip) (b : Bool) (ws : List Nat), d.flushAnswer (if b then d.systemPage ws else some (0, d)) := fun d b ws e d' h => by
    split at h
    · exact d.systemPage_flush ws e d' h
    · obtain ⟨-, rfl⟩ := Prod.mk.inj (Option.some.inj h)
      exact Chip.keeps_refl _ _
  unfold Chip.smallWrite
  split
  · exact Chip.keeps_refl _ _
  next s _ =>
    have hpp := hopt c pAway (parityWords s row 0 data)
    dsimp only
    generalize (if pAway = true then c.systemPage (parityWords s row 0 data) else some (0, c)) = pp at hpp ⊢
    cases pp with
    | none => exact c.keeps_patchFull _ _ _
    | some r =>
      obtain ⟨p, c1⟩ := r
      have h1 : c.keeps c1 flushPart := hpp p c1 rfl
      have hqq := hopt c1 qAway (parityWords s row 1 data)
      dsimp only
      generalize (if qAway = true then c1.systemPage (parityWords s row 1 data) else some (0, c1)) = qq at hqq ⊢
      cases qq with
      | none => exact c.keeps_patchFull _ _ _
      | some r =>
        obtain ⟨q, c2⟩ := r
        dsimp only
        exact Chip.keeps_ite (c.keeps_patchFull _ _ _)
          ((Chip.keeps_countAt_iff (by decide) _ _ _).2 ((Chip.keeps_setSb_iff (by decide) _).2 (Chip.keeps_flushes h1 (hqq q c2 rfl))))

theorem Chip.keeps_cutRow (c : Chip) (id : Nat) : c.keeps (c.cutRow id) flushPart := by
  unfold Chip.cutRow
  split
  · exact Chip.keeps_refl _ _
  next r _ =>
    split
    · exact Chip.keeps_flush (c.keeps_dropRow id) (by decide)
    next s _ =>
      extract_lets voids kept used ps c1
      have h1 : c.keeps c1 flushPart := Chip.keeps_flushes (Chip.keeps_flushes (Chip.keeps_flush (Chip.keeps_setSb c _) (by decide)) (Chip.keeps_smallWrite _ _ _ _ _ _ _))
        (Chip.keeps_flush (Chip.keeps_dropRow _ _) (by decide))
      exact Chip.keeps_flushes h1 (Chip.keeps_each (fun d p => Chip.keeps_flush (d.keeps_sendPage _ _ _ _) (by decide)) _ _)

theorem Chip.keeps_nextPasses (c : Chip) (idx : Nat) : c.keeps (c.nextPasses idx) diePart := by
  unfold Chip.nextPasses
  split
  · exact Chip.keeps_refl _ _
  · refine Chip.keeps_each (fun d r => ?_) _ _
    extract_lets r1
    refine Chip.keeps_mono (Chip.keeps_trans (Chip.keeps_trans (Chip.keeps_setRow d r1) (Chip.keeps_each (fun e p => e.keeps_programPage _ _ _ _ _) r1.folded _))
      (Chip.keeps_rowProgress _ _)) (by decide)

theorem Chip.keeps_setFoldQ (c : Chip) (q : List Nat) : c.keeps (c.setFoldQ q) [.sb] := (Chip.keeps_with_sb (by decide) _).2 (Chip.keeps_refl _ _)

theorem Chip.keeps_setVictims (c : Chip) (q : List Nat) : c.keeps (c.setVictims q) [.sb] := (Chip.keeps_with_sb (by decide) _).2 (Chip.keeps_refl _ _)

theorem Chip.keeps_closeSb (c : Chip) (idx : Nat) : c.keeps (c.closeSb idx) [.sb] := by
  unfold Chip.closeSb
  split
  · exact Chip.keeps_refl _ _
  next s _ =>
    split
    · exact Chip.keeps_refl _ _
    · extract_lets ms c1
      have h1 : c.keeps c1 [.sb] := Chip.keeps_setSb _ _
      split
      · exact Chip.keeps_mono (Chip.keeps_trans h1 (Chip.keeps_setFoldQ _ _)) (by decide)
      · exact h1

theorem Chip.keeps_stopRows (c : Chip) (idx : Nat) : c.keeps (c.stopRows idx) diePart := by
  unfold Chip.stopRows
  split
  · exact Chip.keeps_refl _ _
  · split
    · exact Chip.keeps_refl _ _
    · extract_lets c1
      have h1 : c.keeps c1 [.sb] := Chip.keeps_setSb _ _
      split
      · exact Chip.keeps_mono (Chip.keeps_trans h1 (c1.keeps_nextPasses idx)) (by decide)
      · exact Chip.keeps_mono (Chip.keeps_trans h1 (c1.keeps_closeSb idx)) (by decide)

/-! ### Blocks given back -/

theorem Chip.keeps_gatherErase (c : Chip) (lun block kind sb : Nat) : c.keeps (c.gatherErase lun block kind sb) [.md, .dict] := by
  unfold Chip.gatherErase
  exact (Chip.keeps_setAt_iff (by decide) _ _ _).2 ((Chip.keeps_with_md (by decide) _).2 (Chip.keeps_refl _ _))

theorem Chip.keeps_spareState (c : Chip) (lun : Nat) : c.keeps (c.spareState lun) [.un, .dict, .ev, .lg] := by
  unfold Chip.spareState
  split
  · exact Chip.keeps_refl _ _
  · extract_lets u s m was low c1
    split
    · split
      · exact (Chip.keeps_event_iff (by decide) (by decide) (by decide) _ _ _ _ _).2 (Chip.keeps_mono (c.keeps_permanentFault _ _) (by decide))
      · exact Chip.keeps_refl _ _
    · have h1 : c.keeps c1 [.un, .dict, .ev, .lg] := Chip.keeps_mono (c.keeps_setDegraded _ _) (by decide)
      split
      · exact (Chip.keeps_event_iff (by decide) (by decide) (by decide) _ _ _ _ _).2 h1
      · exact h1

theorem Chip.keeps_scrap (c : Chip) (lun block : Nat) : c.keeps (c.scrap lun block) [.md, .un, .dict, .ev, .lg] := by
  unfold Chip.scrap
  extract_lets b
  split
  · exact Chip.keeps_refl _ _
  · exact Chip.keeps_mono (Chip.keeps_trans ((Chip.keeps_countAt_iff (by decide) _ _ _).2 ((Chip.keeps_setBlock_iff (by decide) _).2 (Chip.keeps_refl c [.md, .dict])))
      (Chip.keeps_spareState _ _)) (by decide)

theorem Chip.keeps_dropRepls (c : Chip) (idx : Nat) : c.keeps (c.dropRepls idx) [.sb, .md, .dict] := by
  unfold Chip.dropRepls
  extract_lets mine keep
  refine (Chip.keeps_each_iff (fun d r => ?_) _).2 ((Chip.keeps_with_sb (by decide) _).2 (Chip.keeps_refl _ _))
  split
  · exact Chip.keeps_refl _ _
  · exact Chip.keeps_mono (d.keeps_gatherErase _ _ _ _) (by decide)

theorem Chip.keeps_releaseSb (c : Chip) (idx : Nat) : c.keeps (c.releaseSb idx) flushPart := by
  unfold Chip.releaseSb
  split
  · exact Chip.keeps_refl _ _
  next s _ =>
    extract_lets c1 c2
    have h1 : c.keeps c1 flushPart := Chip.keeps_flush (Chip.keeps_trans (Chip.keeps_setSb c _) (Chip.keeps_setFoldQ _ _)) (by decide)
    have h2 : c.keeps c2 flushPart := Chip.keeps_flushes h1 (Chip.keeps_flush (Chip.keeps_trans (c1.keeps_setVictims _) (Chip.keeps_dropRepls _ idx)) (by decide))
    refine Chip.keeps_flushes h2 (Chip.keeps_each (fun d m => ?_) _ _)
    split
    · exact Chip.keeps_refl _ _
    · split
      · exact (Chip.keeps_event_iff (by decide) (by decide) (by decide) _ _ _ _ _).2 ((Chip.keeps_countAt_iff (by decide) _ _ _).2 (Chip.keeps_flush (d.keeps_scrap _ _) (by decide)))
      · exact Chip.keeps_flush (d.keeps_gatherErase _ _ _ _) (by decide)

/-! ### The steps of the flush -/

theorem Chip.keeps_placeUnit (c : Chip) (entry unit : Nat) : c.keeps (c.placeUnit entry unit) [.sb] := by
  unfold Chip.placeUnit
  split
  · exact Chip.keeps_refl _ _
  · exact Chip.keeps_setSb _ _

theorem Chip.keeps_flushSlot (c : Chip) (s : Slot) : c.keeps (c.flushSlot s) flushPart := by
  unfold Chip.flushSlot
  split
  · exact Chip.keeps_refl _ _
  next e c1 h =>
    extract_lets dir _
    have h1 : c.keeps { c1 with ft := { c1.ft with dir := dir } } flushPart := (Chip.keeps_with_ft (by decide) _).2 (c.reservePlace_flush _ e c1 h)
    exact Chip.keeps_flushes h1 (Chip.keeps_flush (Chip.keeps_trans (Chip.keeps_mapChange _ _ _ _ _) (Chip.keeps_placeUnit _ _ _)) (by decide))

/-- The runs of pages of the system, or the chip that counts pages written nowhere. -/
theorem Chip.systemRuns_flush (c : Chip) (n : Nat) (data : Nat → Nat) : c.keeps ((c.systemRuns n data).getD ([], c.countSystem n)).2 flushPart := by
  unfold Chip.systemRuns
  extract_lets step r
  split
  · exact Chip.keeps_flush (c.keeps_countSystem n) (by decide)
  · refine (Chip.keeps_countSystem_iff (by decide) _).2 (Chip.keeps_each (fun d q => ?_) _ _)
    exact Chip.keeps_each (fun e i => e.keeps_usePage _ _) _ _

theorem Chip.keeps_flushBook (c : Chip) : c.keeps c.flushBook flushPart := by
  unfold Chip.flushBook
  extract_lets cat r pages _
  exact (Chip.keeps_with_book (by decide) _).2 (c.systemRuns_flush _ _)

theorem Chip.keeps_addPages (c : Chip) (k : Nat) (halves : List (List JRec)) (place : List SysRun) : c.keeps (c.addPages k halves place) [.ft, .dict, .ev, .lg] := by
  unfold Chip.addPages
  extract_lets pages _ c1
  have h1 : c.keeps c1 [.ft, .dict, .ev, .lg] := (Chip.keeps_with_ft (by decide) _).2 (Chip.keeps_refl _ _)
  split
  · exact (Chip.keeps_eventFirst_iff (by decide) (by decide) (by decide) _ _ _ _ _).2 h1
  · exact h1

theorem Chip.keeps_flushStream (c : Chip) (s : JStream) : c.keeps (c.flushStream s) flushPart := by
  unfold Chip.flushStream
  extract_lets halves r
  exact (Chip.keeps_setStream_iff (by decide) _).2 (Chip.keeps_flushes (c.systemRuns_flush _ _) (Chip.keeps_flush (Chip.keeps_addPages _ _ _ _) (by decide)))

theorem Chip.keeps_reserveTurns (c : Chip) : c.keeps c.reserveTurns [.sb] := (Chip.keeps_with_sb (by decide) _).2 (Chip.keeps_refl _ _)

theorem Chip.keeps_stopCommands (c : Chip) : c.keeps c.stopCommands flushPart := by
  unfold Chip.stopCommands
  extract_lets c1 _ _
  have hk : ∀ (d : Chip) (x : Cmd), d.keeps ((if x.committed then d else d.undo x.h).dropTasks x.h) flushPart := fun d x =>
    Chip.keeps_flushes (Chip.keeps_ite (Chip.keeps_refl _ _) (Chip.keeps_flush (d.keeps_undo x.h) (by decide))) (Chip.keeps_flush (Chip.keeps_dropTasks _ _) (by decide))
  have h1 : c.keeps c1 flushPart := Chip.keeps_each hk _ _
  exact Chip.keeps_flushes h1 fun p hp => by cases p <;> first | exact absurd (by decide) hp | rfl

/-- A replacement given up. -/
theorem Chip.keeps_abandoned (d : Chip) (r : Repl) : d.keeps ((((d.setBlock { d.blockOf r.lun r.block with sb := none }).gatherErase r.lun r.block 0 max20).count
    E.RB_RESTARTS 1).event 0x183 0 1 noUnit [r.sb, r.pos]) flushPart :=
  (Chip.keeps_event_iff (by decide) (by decide) (by decide) _ _ _ _ _).2 ((Chip.keeps_countAt_iff (by decide) _ _ _).2
    (Chip.keeps_flush (Chip.keeps_trans (Chip.keeps_setBlock d _) (Chip.keeps_gatherErase _ _ _ _ _)) (by decide)))

theorem Chip.keeps_stopMedia (c : Chip) : c.keeps c.stopMedia flushPart := by
  unfold Chip.stopMedia
  extract_lets quiet _ _ _ c1 c2 c3 c4 c5 idle
  have h1 : c.keeps c1 flushPart := fun p hp => by cases p <;> first | exact absurd (by decide) hp | rfl
  have h2 : c.keeps c2 flushPart := Chip.keeps_flushes h1 (Chip.keeps_each Chip.keeps_cutRow _ _)
  have h3 : c.keeps c3 flushPart := Chip.keeps_flushes h2 (Chip.keeps_each (fun d (s : Sb) => Chip.keeps_flush (d.keeps_stopRows s.idx) (by decide)) _ _)
  have h4 : c.keeps c4 flushPart := Chip.keeps_flushes h3 (Chip.keeps_each (fun d (s : Sb) => d.keeps_releaseSb s.idx) _ _)
  have h5 : c.keeps c5 flushPart := Chip.keeps_flushes h4 (Chip.keeps_each Chip.keeps_abandoned _ _)
  exact Chip.keeps_flushes h5 fun p hp => by cases p <;> first | exact absurd (by decide) hp | rfl

theorem Chip.keeps_flushSteps (c : Chip) (reason : Nat) (returned : Bool) (f : FlushInput) : c.keeps (c.flushSteps reason returned f) flushPart := by
  unfold Chip.flushSteps
  extract_lets trigger flags lost proof told c0 c1 c2 dirty now c3 c4a c4b c4 result last h _ ft _ c5
  have h0 : c.keeps c0 flushPart := Chip.keeps_ite (Chip.keeps_flush (Chip.keeps_sendFrame _ _ _ _ _ _) (by decide)) (Chip.keeps_refl _ _)
  have h1 : c.keeps c1 flushPart := Chip.keeps_flushes h0 c0.keeps_stopCommands
  have h2 : c.keeps c2 flushPart := Chip.keeps_ite h1 (Chip.keeps_flushes (Chip.keeps_ite ((Chip.keeps_setAt_iff (by decide) _ _ _).2
    ((Chip.keeps_setAt_iff (by decide) _ _ _).2 h1)) h1) (Chip.keeps_stopMedia _))
  have h3 : c.keeps c3 flushPart := Chip.keeps_ite h2 (Chip.keeps_flushes (Chip.keeps_flushes h2 (Chip.keeps_each Chip.keeps_flushSlot _ _)) (Chip.keeps_flushBook _))
  have ha : c.keeps c4a flushPart := Chip.keeps_flushes (Chip.keeps_flushes h3 (Chip.keeps_flush c3.keeps_reserveTurns (by decide)))
    (Chip.keeps_each Chip.keeps_flushStream _ _)
  have hb : c.keeps c4b flushPart := Chip.keeps_flushes ha (Chip.keeps_each Chip.keeps_cutRow _ _)
  have h4 : c.keeps c4 flushPart := Chip.keeps_ite h3 ((Chip.keeps_with_pr (by decide) _).2 hb)
  have h5 : c.keeps c5 flushPart := Chip.keeps_flushes h4 fun p hp => by cases p <;> first | exact absurd (by decide) hp | rfl
  exact Chip.keeps_ite ((Chip.keeps_with_boot (by decide) _).2 h5) ((Chip.keeps_with_boot (by decide) _).2 h5)

theorem Chip.keeps_flushImage (c : Chip) : c.keeps c.flushImage [.um, .dict] := by
  have hend : ∀ d : Chip, d.keeps d.endImage [.um, .dict] := fun d => by
    obtain ⟨-, -, -, h, -⟩ := d.endImage_frame
    exact h
  have hbegin : ∀ d : Chip, d.keeps d.beginImage [.um, .dict] := fun d => (Chip.keeps_with_dict (by decide) _).2 (Chip.keeps_refl _ _)
  unfold Chip.flushImage
  extract_lets c1
  have h1 : c.keeps c1 [.um, .dict] := Chip.keeps_ite (hend c) (Chip.keeps_refl _ _)
  exact Chip.keeps_ite (Chip.keeps_mono (Chip.keeps_trans h1 (Chip.keeps_trans (hbegin c1) (hend _))) (by decide)) h1

theorem Chip.keeps_flushOnMain (c : Chip) (reason : Nat) (f : FlushInput) : c.keeps (c.flushOnMain reason f) flushPart := by
  unfold Chip.flushOnMain
  exact Chip.keeps_flushes (Chip.keeps_ite (Chip.keeps_refl _ _) (Chip.keeps_flush c.keeps_flushImage (by decide))) (Chip.keeps_flushSteps _ _ _ _)

theorem Chip.keeps_interruptStart (c : Chip) (reason : Nat) (returned : Bool) (f : FlushInput) : c.keeps (c.interruptStart reason returned f) flushPart := by
  unfold Chip.interruptStart
  extract_lets c1
  have h1 : c.keeps c1 flushPart := (Chip.keeps_event_iff (by decide) (by decide) (by decide) _ _ _ _ _).2 ((Chip.keeps_countAt_iff (by decide) _ _ _).2 (Chip.keeps_refl _ _))
  refine Chip.keeps_ite h1 (Chip.keeps_ite (Chip.keeps_flushes h1 (c1.keeps_flushSteps _ _ _)) ?_)
  split
  · exact (Chip.keeps_with_boot (by decide) _).2 h1
  · exact Chip.keeps_ite ((Chip.keeps_countAt_iff (by decide) _ _ _).2 h1) h1

end Sys2Proof.Machine
end

section
/-! Resets of ports and of the controller (R114, R115). -/
namespace Sys2Proof.Machine

/-! ### Resets of a port -/

/-- What the end of a function reaches. -/
def fnPart : List Area := [.dict, .ev, .fns, .qs, .cmds, .lk, .um, .ft, .rd, .st, .book, .wins, .pr, .fw, .lg]

theorem Chip.keeps_clearFn (c : Chip) (port fn : Nat) : c.keeps (c.clearFn port fn) fnPart := by
  unfold Chip.clearFn
  extract_lets c1 c2
  have h1 : c.keeps c1 fnPart := by
    obtain ⟨-, -, e⟩ := c.endFn_frame port fn
    obtain ⟨-, -, -, -, -, q, -⟩ := (c.endFn port fn).dropQueues_frame port fn
    obtain ⟨-, f⟩ := ((c.endFn port fn).dropQueues port fn).freeCmb_frame port fn
    obtain ⟨-, -, l⟩ := (((c.endFn port fn).dropQueues port fn).freeCmb port fn).lapse_frame
    exact Chip.keeps_mono (Chip.keeps_trans e (Chip.keeps_trans q (Chip.keeps_trans f l))) (by decide)
  have h2 : c.keeps c2 fnPart := by
    unfold c2
    split
    · exact Chip.keeps_mono (Chip.keeps_trans h1 (c1.keeps_endSelfTest 2 0)) (by decide)
    · exact h1
  exact Chip.keeps_ite ((Chip.keeps_with_fw (by decide) _).2 h2) h2

theorem Chip.keeps_takeFn (c : Chip) (port fn : Nat) : c.keeps (((c.clearFn port fn).resetFnEntries port fn).dropFn port fn) fnPart := by
  refine Chip.keeps_mono (Chip.keeps_trans (c.keeps_clearFn port fn) (m := [.dict, .fns]) ?_) (by decide)
  intro p hp
  cases p <;> first | exact absurd (by decide) hp | rfl

/-- Functions taken one after the other are gone, and no other comes. -/
theorem Chip.takeFns_frame (port : Nat) (l : List Nat) (c : Chip) :
    c.keeps (c.each l fun c n => ((c.clearFn port n).resetFnEntries port n).dropFn port n) fnPart
      ∧ ∀ g ∈ (c.each l fun c n => ((c.clearFn port n).resetFnEntries port n).dropFn port n).fns, g ∈ c.fns ∧ ¬ (g.port = port ∧ g.fn ∈ l) := by
  refine ⟨Chip.keeps_each (fun d n => d.keeps_takeFn port n) _ _, ?_⟩
  induction l generalizing c with
  | nil => exact fun g hg => ⟨hg, fun h => absurd h.2 List.not_mem_nil⟩
  | cons n l ih =>
    intro g hg
    obtain ⟨hg, hn⟩ := ih _ g hg
    obtain ⟨hg, hm⟩ := (c.clearVf_frame port n).2 g hg
    refine ⟨hg, fun hk => ?_⟩
    rcases List.mem_cons.1 hk.2 with h | h
    · exact hm ⟨hk.1, h⟩
    · exact hn ⟨hk.1, h⟩

/-- What the retiring of a window reaches. -/
def retirePart : List Area := [.wins, .dict, .ev, .lg, .ft, .pr, .st, .cmds, .book, .lk, .um, .rd]

theorem Chip.keeps_retireWin (c : Chip) (port win cause : Nat) (skip : Option Nat) : c.keeps (c.retireWin port win cause skip) retirePart := by
  unfold Chip.retireWin
  extract_lets w c1
  have h1 : c.keeps c1 retirePart := (Chip.keeps_event_iff (by decide) (by decide) (by decide) _ _ _ _ _).2 ((Chip.keeps_setAt_iff (by decide) _ _ _).2
    ((Chip.keeps_setWin5_iff (by decide) _).2 (Chip.keeps_refl _ _)))
  have hk : ∀ (d : Chip) (h : Nat), d.keeps (match d.cmd h with
      | none => d
      | some x => if skip = some x.port then d else ((d.giveBack h).dropTasks h).finish h stPassFault x.xfer cause) retirePart := fun d h => by
    split
    · exact Chip.keeps_refl _ _
    · refine Chip.keeps_ite (Chip.keeps_refl _ _) ((Chip.keeps_finish_iff (by decide) (by decide) _ _ _ _).2 ?_)
      exact Chip.keeps_mono (Chip.keeps_trans (d.keeps_giveBack h) (Chip.keeps_dropTasks _ h)) (by decide)
  exact Chip.keeps_ite (Chip.keeps_refl _ _) (Chip.keeps_mono (Chip.keeps_trans h1 (Chip.keeps_each hk _ _)) (by decide))

/-- A port after its reset. -/
def Chip.portAfter (c : Chip) (port kind : Nat) : Port :=
  c.latchPort { Port.initial port with perst := decide (kind = 0) || (c.portOf port).perst, link := if kind = 1 then 1 else 0 }

/-- The reset of a port takes its functions and sets the port anew. -/
theorem Chip.resetPort_frame (c : Chip) (port kind : Nat) : (∀ g ∈ (c.resetPort port kind).fns, g.port ≠ port)
    ∧ (∃ d : Chip, d.ports = c.ports ∧ (c.resetPort port kind).portOf port = d.portAfter port kind) ∧ c.keeps (c.resetPort port kind) (.ports :: fnPart) := by
  unfold Chip.resetPort
  extract_lets fs c1 armed c2 p _ new c3
  obtain ⟨h1, f1⟩ := Chip.takeFns_frame port fs c
  have h2 : c1.keeps c2 (.fw :: retirePart) :=
    (Chip.keeps_with_fw (by decide) _).2 (Chip.keeps_mono (Chip.keeps_each (fun d w => d.keeps_retireWin port w 4 none) armed c1) (by decide))
  have h3 : (c2.setPort new).keeps c3 [.dict, .ev, .lg] :=
    (Chip.keeps_event_iff (by decide) (by decide) (by decide) _ _ _ _ _).2 ((Chip.keeps_countAt_iff (by decide) _ _ _).2 (Chip.keeps_refl _ _))
  have h4 : (c2.setPort new).keeps (c3.event (0x280 + port) 2 1 (c3.unitIdent (mkUnit kPORT port)) []) [.dict, .ev, .lg] :=
    (Chip.keeps_event_iff (by decide) (by decide) (by decide) _ _ _ _ _).2 h3
  refine ⟨?_, ⟨c2, (h2 .ports (by decide)).trans (h1 .ports (by decide)), ?_⟩, ?_⟩
  · have hf : (c3.event (0x280 + port) 2 1 (c3.unitIdent (mkUnit kPORT port)) []).fns = c1.fns := (h4 .fns (by decide)).trans (h2 .fns (by decide))
    rw [hf]
    intro g hg he
    obtain ⟨hg, hn⟩ := f1 g hg
    exact hn ⟨he, List.mem_map.2 ⟨g, List.mem_filter.2 ⟨hg, by simpa using he⟩, rfl⟩⟩
  · exact (Chip.portOf_congr (h4 .ports (by decide)) port).trans (Chip.portOf_setPort_of (p := new) rfl)
  · exact Chip.keeps_mono (Chip.keeps_trans h1 (Chip.keeps_trans h2 (Chip.keeps_trans (Chip.keeps_setPort c2 new) h4))) (by decide)

/-! ### A full reset -/

theorem Chip.keeps_endSession (c : Chip) (id cause : Nat) : c.keeps (c.endSession id cause) [.mg, .dict, .ev, .lg] := by
  unfold Chip.endSession
  exact (Chip.keeps_event_iff (by decide) (by decide) (by decide) _ _ _ _ _).2 ((Chip.keeps_with_mg (by decide) _).2 (Chip.keeps_refl _ _))

/-- What a full reset reaches. -/
def resetPart : List Area := [.boot, .un, .ports, .qs, .lk, .ft, .sb, .md, .rd, .lost, .st, .book, .wins, .pr, .mg, .pm, .fw] ++ notePart

theorem Chip.fundamental_frame (c : Chip) : (∀ p ∈ c.fundamental.ports, p.perst = true) ∧ c.fundamental.wins = [] ∧ c.keeps c.fundamental resetPart := by
  unfold Chip.fundamental
  extract_lets ports c1 _ c2
  have h1 : c.keeps c1 resetPart := Chip.keeps_each (fun d id => Chip.keeps_mono (d.keeps_endSession id 3) (by decide)) _ _
  have h2 : c1.keeps c2 resetPart := fun p hp => by cases p <;> first | exact absurd (by decide) hp | rfl
  have h3 : c2.keeps ((c2.each c2.ports fun c p => c.countAt E.PORT_RESETS p.port 1).set E.MCTP_EID 0) [.dict] :=
    (Chip.keeps_setAt_iff (by decide) _ _ _).2 (Chip.keeps_each (fun d p => (Chip.keeps_countAt_iff (by decide) _ _ _).2 (Chip.keeps_refl _ _)) _ _)
  refine ⟨?_, h3 .wins (by decide), Chip.keeps_mono (Chip.keeps_trans h1 (Chip.keeps_trans h2 h3)) (by decide)⟩
  rw [show _ = c2.ports from h3 .ports (by decide)]
  intro p hp
  obtain ⟨q, -, rfl⟩ := List.mem_map.1 hp
  rfl

/-- The state of the boot after a full reset with the main power up. -/
def Chip.freshly (c : Chip) : Prop :=
  c.boot.run = .rails ∧ c.boot.cause = 1 ∧ c.boot.trained = false ∧ c.qs = Qs.initial ∧ c.wins = [] ∧ ∀ p ∈ c.ports, p.perst = true

/-- The reset proper, once what was to be kept has been. -/
def Chip.anew (c : Chip) (f : FlushInput) : Chip :=
  let c1 := c.fundamental.afterFlush 1 f
  { c1 with boot := { c1.boot with trained := false } }

theorem Chip.anew_frame (c : Chip) {f : FlushInput} (hf : f.mainLost = false) : (c.anew f).freshly ∧ c.keeps (c.anew f) resetPart := by
  obtain ⟨h1, h2, h3⟩ := c.fundamental_frame
  unfold Chip.anew Chip.afterFlush
  rw [hf]
  generalize c.fundamental = d at h1 h2 h3
  refine ⟨⟨rfl, rfl, rfl, rfl, h2, fun p hp => ?_⟩, ?_⟩
  · obtain ⟨q, hq, rfl⟩ := List.mem_map.1 hp
    exact h1 q hq
  · have hk : d.keeps { d.restart 1 with boot := { (d.restart 1).boot with trained := false } } resetPart := fun p hp => by
      cases p <;> first | exact absurd (by decide) hp | rfl
    exact Chip.keeps_mono (Chip.keeps_trans h3 hk) (by decide)

theorem Chip.keeps_takeEveryFn (c : Chip) : c.keeps (c.each c.fns fun c g => (c.clearFn g.port g.fn).dropFn g.port g.fn) fnPart := by
  refine Chip.keeps_each (fun d g => Chip.keeps_mono (Chip.keeps_trans (d.keeps_clearFn g.port g.fn) (m := [.fns]) ?_) (by decide)) _ _
  intro p hp
  cases p <;> first | exact absurd (by decide) hp | rfl

/-- A full reset from service, a start, ROM recovery, a shutdown or a halt is the reset proper after a flush, an interrupted start, or nothing. -/
theorem Chip.fullReset_eq (c : Chip) (f : FlushInput) (hr : c.boot.run = .ready ∨ c.boot.run = .starting ∨ c.boot.run = .recovery ∨ c.boot.run = .shut
    ∨ c.boot.run = .halted) : ∃ d : Chip, c.fullReset f = d.anew f ∧ c.keeps d resetPart := by
  unfold Chip.fullReset
  rcases hr with h | h | h | h | h <;> rw [h]
  · exact ⟨_, rfl, Chip.keeps_mono (Chip.keeps_trans c.keeps_takeEveryFn (Chip.keeps_flushOnMain _ 3 f)) (by decide)⟩
  · exact ⟨_, rfl, Chip.keeps_mono (c.keeps_interruptStart 3 false f) (by decide)⟩
  · exact ⟨c, rfl, Chip.keeps_refl _ _⟩
  · exact ⟨c, rfl, Chip.keeps_refl _ _⟩
  · exact ⟨c, rfl, Chip.keeps_refl _ _⟩

theorem Chip.freshly_end {b c : Chip} (h : c.freshly) : (b.seal (b.notices c)).freshly := by
  unfold Chip.freshly at *
  rw [Chip.seal_boot, Chip.notices_boot, Chip.seal_qs, Chip.notices_qs, Chip.seal_wins, Chip.notices_wins, Chip.seal_ports, Chip.notices_ports]
  exact h

end Sys2Proof.Machine

open Sys2Proof Sys2Proof.Machine

/-- Settles O32: the frames of the reset of a port and of the full reset. -/
theorem portsAreReset : Obligations.PortsAreReset := by
  intro s t
  refine ⟨fun port kind hup hu hkd hone => ?_, fun flush hm hr => ?_⟩
  · have he : exec (.portReset t port kind) s = runUnits s t fun c => c.when (!c.boot.run.railsOff && c.portUsed port && decide (kind ≤ 3) &&
        (decide (kind ≠ 0) || (decide (c.boot.portMode = 1) && !(c.portOf (1 - port)).perst))) fun c => c.resetPort port kind := rfl
    have hoff : s.chip.boot.run.railsOff = false := by
      unfold Chip.endpointUp at hup
      generalize s.chip.boot.run = r at hup ⊢
      cases r <;> simp_all [Run.railsOff]
    refine Completes.of_unitsWhen he ?_ ?_
    · simp only [Bool.and_eq_true, Bool.or_eq_true, decide_eq_true_eq, Bool.not_eq_true']
      exact ⟨⟨⟨hoff, hu⟩, hkd⟩, hone⟩
    · obtain ⟨h1, ⟨d, hd, h2⟩, h3⟩ := (s.chip.atTime t).resetPort_frame port kind
      have hport := (Chip.portOf_settled (s.chip.atTime t) ((s.chip.atTime t).resetPort port kind) port).trans h2
      have hperst : (d.portOf port).perst = (s.chip.portOf port).perst := congrArg Port.perst (Chip.portOf_congr (c := s.chip) hd port)
      refine ⟨Chip.fns_end (Q := fun p _ => p ≠ port) (by rw [Chip.settle_fns]; exact h1), ?_, ?_, ?_, ?_, ?_⟩
      · rw [hport]; rfl
      · rw [hport]; rfl
      · rw [hport, ← hperst]; rfl
      · rw [hport]; rfl
      · exact Chip.keeps_settled t (Chip.keeps_mono h3 (by decide)) (by decide) (by decide)
  · have he : exec (.fullFundamentalReset t flush) s = run s t fun c => c.fullReset flush := rfl
    obtain ⟨d, hd, hk⟩ := (s.chip.atTime t).fullReset_eq flush hr
    obtain ⟨h1, h2⟩ := d.anew_frame hm
    refine Completes.of_run he ?_
    rw [hd]
    obtain ⟨g1, g2, g3, g4, g5, g6⟩ := Chip.freshly_end (b := s.chip.atTime t) h1
    exact ⟨g1, g2, g3, g4, g5, g6, Chip.keeps_ended t (Chip.keeps_mono (Chip.keeps_trans hk h2) (by decide)) (by decide) (by decide)⟩
end

section
/-! A calm chip stays calm where units have the own states that they had (R12, R18, R19). -/
namespace Sys2Proof.Machine

/-! ### The units listed -/

/-- From a to b units may have come to the list, each of which was not in it. -/
def Chip.unitsGrow (a b : Chip) : Prop := ∃ l, b.un.units.map UnitRec.unit = a.un.units.map UnitRec.unit ++ l ∧ ∀ u ∈ l, u ∉ a.un.units.map UnitRec.unit

section
variable {a b c : Chip}

theorem Chip.unitsGrow_of_un (h : b.un = a.un) : a.unitsGrow b := ⟨[], by rw [h, List.append_nil], fun _ h => absurd h List.not_mem_nil⟩

theorem Chip.unitsGrow_refl (a : Chip) : a.unitsGrow a := Chip.unitsGrow_of_un rfl

theorem Chip.unitsGrow_trans (h : a.unitsGrow b) (h' : b.unitsGrow c) : a.unitsGrow c := by
  obtain ⟨l, hl, hn⟩ := h
  obtain ⟨m, hm, hk⟩ := h'
  refine ⟨l ++ m, by rw [hm, hl, List.append_assoc], fun u hu => ?_⟩
  rcases List.mem_append.1 hu with h | h
  · exact hn u h
  · exact fun hu => hk u h (by rw [hl]; exact List.mem_append_left _ hu)

theorem map_unit_upsert (r : UnitRec) (l : List UnitRec) :
    (r.unit ∈ l.map UnitRec.unit ∧ (upsert (fun q => decide (q.unit = r.unit)) r l).map UnitRec.unit = l.map UnitRec.unit)
      ∨ (r.unit ∉ l.map UnitRec.unit ∧ (upsert (fun q => decide (q.unit = r.unit)) r l).map UnitRec.unit = l.map UnitRec.unit ++ [r.unit]) := by
  induction l with
  | nil => exact .inr ⟨List.not_mem_nil, rfl⟩
  | cons x l ih =>
    unfold upsert
    by_cases hx : x.unit = r.unit
    · rw [if_pos (by simpa using hx)]
      exact .inl ⟨List.mem_cons.2 (.inl hx.symm), by rw [List.map_cons, List.map_cons, hx]⟩
    · rw [if_neg (by simpa using hx), List.map_cons, List.map_cons, List.mem_cons, List.cons_append]
      rcases ih with ⟨h1, h2⟩ | ⟨h1, h2⟩
      · exact .inl ⟨.inr h1, by rw [h2]⟩
      · exact .inr ⟨fun h => h.elim (fun h => hx h.symm) h1, by rw [h2]⟩

theorem Chip.unitsGrow_setUnit (c : Chip) (r : UnitRec) : c.unitsGrow (c.setUnit r) := by
  rcases map_unit_upsert r c.un.units with ⟨-, h⟩ | ⟨hn, h⟩
  · exact ⟨[], h.trans (List.append_nil _).symm, fun _ h => absurd h List.not_mem_nil⟩
  · exact ⟨[r.unit], h, fun u hu => List.mem_singleton.1 hu ▸ hn⟩

theorem Chip.unitsGrow_each {α : Type} {f : Chip → α → Chip} (hf : ∀ (c : Chip) x, c.unitsGrow (f c x)) (l : List α) (c : Chip) : c.unitsGrow (c.each l f) :=
  Chip.each_frame Chip.unitsGrow Chip.unitsGrow_refl (fun _ _ _ => Chip.unitsGrow_trans) f hf l c

end

theorem Chip.unitsGrow_freeProbes (c : Chip) : c.unitsGrow c.freeProbes := by
  unfold Chip.freeProbes
  refine Chip.unitsGrow_each (fun d r => ?_) _ _
  extract_lets o
  split
  · exact d.unitsGrow_setUnit _
  · split
    · exact Chip.unitsGrow_refl _
    · exact d.unitsGrow_setUnit _

theorem Chip.unitsGrow_setOwn (c : Chip) (u own cause : Nat) : c.unitsGrow (c.setOwn u own cause) := c.unitsGrow_setUnit _

theorem Chip.unitsGrow_retire (c : Chip) (u cause : Nat) : c.unitsGrow (c.retire u cause) :=
  Chip.unitsGrow_trans (Chip.unitsGrow_trans (c.unitsGrow_setUnit _) (Chip.unitsGrow_setOwn _ _ _ _)) (Chip.unitsGrow_freeProbes _)

theorem Chip.unitsGrow_fence (c : Chip) (u : Nat) : c.unitsGrow (c.fence u) := by
  unfold Chip.fence
  exact Chip.unitsGrow_trans (c.unitsGrow_setUnit _) (Chip.unitsGrow_setOwn _ _ _ _)

theorem Chip.unitsGrow_countFault (c : Chip) (u : Nat) : c.unitsGrow (c.countFault u) := by
  unfold Chip.countFault
  extract_lets r c1
  have h1 : c.unitsGrow c1 := c.unitsGrow_setUnit _
  split
  · split
    · exact h1
    · split
      · exact Chip.unitsGrow_trans h1 (c1.unitsGrow_fence u)
      · exact Chip.unitsGrow_trans h1 (c1.unitsGrow_retire u 2)
  · exact Chip.unitsGrow_refl _

theorem Chip.unitsGrow_chargeN (n : Nat) (c : Chip) (u : Nat) : c.unitsGrow (Chip.chargeN n c u) := by
  have hs : ∀ (d : Chip) (s : Spread), d.unitsGrow (d.setSpread s) := fun d s => ⟨[], (List.append_nil _).symm, fun _ h => absurd h List.not_mem_nil⟩
  induction n generalizing c u with
  | zero => exact c.unitsGrow_countFault u
  | succ n ih =>
    unfold Chip.chargeN
    split
    · exact Chip.unitsGrow_refl _
    · split
      · exact c.unitsGrow_countFault u
      next p _ =>
        split
        · extract_lets s kids first
          split
          · exact Chip.unitsGrow_refl _
          · split
            · exact Chip.unitsGrow_trans (Chip.unitsGrow_trans (hs c _) (Chip.unitsGrow_each (fun d p => d.unitsGrow_setUnit _) _ _)) (ih _ _)
            · exact Chip.unitsGrow_trans (hs c _) (Chip.unitsGrow_countFault _ _)
        · exact c.unitsGrow_countFault u

theorem Chip.unitsGrow_endProbe (c : Chip) (u : Nat) (ok : Bool) : c.unitsGrow (c.endProbe u ok) := by
  unfold Chip.endProbe
  extract_lets r
  split
  · split
    · exact Chip.unitsGrow_trans (c.unitsGrow_setUnit _) (Chip.unitsGrow_setOwn _ _ _ _)
    · exact c.unitsGrow_retire u 1
  · exact Chip.unitsGrow_refl _

theorem Chip.unitsGrow_chargeFault (c : Chip) (u : Nat) : c.unitsGrow (c.chargeFault u) := by
  unfold Chip.chargeFault
  split
  · split
    · exact c.unitsGrow_endProbe u false
    · exact Chip.unitsGrow_refl _
  · exact c.unitsGrow_chargeN 3 u

/-! ### The states reported -/

theorem Chip.own_unlisted {c : Chip} {u : Nat} (h : u ∉ c.un.units.map UnitRec.unit) : c.own u = (UnitRec.default c.fuse.variant u).own := by
  have hn : (c.un.units.find? fun r => decide (r.unit = u)) = none :=
    List.find?_eq_none.2 fun r hr => by simpa using fun he => h (List.mem_map.2 ⟨r, hr, he⟩)
  unfold Chip.own Chip.unitRec
  rw [hn]

/-- A state that stems from the states reported below it leaves those out that are not there. -/
theorem derive_filter {f : Nat → Nat} {p : Nat → Bool} (hp : ∀ v, p v = false → f v = 0) (l m : List Nat) :
    derive (l.map f ++ m) = derive ((l.filter p).map f ++ m) := by
  have h : (l.map f).filter (· ≠ 0) = ((l.filter p).map f).filter (· ≠ 0) := by
    induction l with
    | nil => rfl
    | cons x l ih =>
      cases hx : p x with
      | true => rw [List.filter_cons_of_pos (p := p) hx, List.map_cons, List.map_cons, List.filter_cons, List.filter_cons, ih]
      | false =>
        have hf : f x = 0 := hp x hx
        rw [List.filter_cons_of_neg (p := p) (by rw [hx]; decide), List.map_cons, List.filter_cons_of_neg (by simp [hf]), ih]
  unfold derive
  rw [List.filter_append, List.filter_append, h]

/-- A target that has come to the list is not there. -/
theorem Chip.children_of_grown (b : Chip) {c : Chip} (hg : b.unitsGrow c) (v : Nat) :
    (c.children v).filter (fun w => decide (b.own w ≠ 0)) = (b.children v).filter (fun w => decide (b.own w ≠ 0)) := by
  obtain ⟨l, hl, hn⟩ := hg
  have hmap : ∀ us : List UnitRec, (us.filter fun r => decide (unitKind r.unit = kTGT ∧ unitIdx r.unit / 16 = unitIdx v)).map UnitRec.unit
      = (us.map UnitRec.unit).filter fun w => decide (unitKind w = kTGT ∧ unitIdx w / 16 = unitIdx v) := fun us => by
    rw [List.filter_map]
    rfl
  have hnew : (l.filter fun w => decide (unitKind w = kTGT ∧ unitIdx w / 16 = unitIdx v)).filter (fun w => decide (b.own w ≠ 0)) = [] := by
    refine List.filter_eq_nil_iff.2 fun w hw => ?_
    obtain ⟨hw, hk⟩ := List.mem_filter.1 hw
    have hkind : unitKind w = kTGT := (of_decide_eq_true hk).1
    have h0 : b.own w = 0 := by
      rw [Chip.own_unlisted (hn w hw)]
      unfold UnitRec.default
      dsimp only
      split
      · rfl
      · rw [if_pos (.inl hkind)]
    simp [h0]
  unfold Chip.children
  dsimp only
  split
  · rfl
  · split
    · rw [hmap, hmap, hl, List.filter_append, List.filter_append, hnew, List.append_nil]
    · rfl

/-- Units in their own states report what they did, whatever units have come to the list. -/
theorem Chip.reported_of_grown {b c : Chip} (ho : ∀ u, c.own u = b.own u) (hg : b.unitsGrow c) (hp : c.partnerStates = b.partnerStates) (u : Nat) :
    c.reported u = b.reported u := by
  have ha : ∀ v, c.ancestorTerm v = b.ancestorTerm v := fun v => by unfold Chip.ancestorTerm; simp only [ho]
  have hw : ∀ v d, c.reportWith v d = b.reportWith v d := fun v d => by unfold Chip.reportWith; rw [ho, ha]
  have hc : ∀ v, (c.children v).filter (fun w => decide (b.own w ≠ 0)) = (b.children v).filter (fun w => decide (b.own w ≠ 0)) := b.children_of_grown hg
  have hz : ∀ n v, decide (b.own v ≠ 0) = false → b.reportLevel n v = 0 := fun n v hv => by
    have h0 : b.own v = 0 := by simpa using hv
    cases n <;> (unfold Chip.reportLevel Chip.reportWith; rw [if_pos h0])
  have hm : ∀ n v m, derive ((c.children v).map (b.reportLevel n) ++ m) = derive ((b.children v).map (b.reportLevel n) ++ m) := fun n v m => by
    rw [derive_filter (hz n), hc, ← derive_filter (hz n)]
  have hd : ∀ n v, derive ((c.children v).map (b.reportLevel n)) = derive ((b.children v).map (b.reportLevel n)) := fun n v => by
    simpa only [List.append_nil] using hm n v []
  have hl : ∀ n, c.reportLevel n = b.reportLevel n := by
    intro n
    induction n with
    | zero => exact funext fun v => hw v 0
    | succ n ih => exact funext fun v => by simp only [Chip.reportLevel, hw, ih, hd]
  unfold Chip.reported
  simp only [hl, hw, hp, hm]

/-! ### Calm chips -/

/-- Of the state of the media, only the dies and their pages bear on calm. -/
theorem Chip.calm_withMd {c : Chip} {m : Md} (hd : c.md.dies = m.dies) (hp : c.md.pagesPerBlock = m.pagesPerBlock) (h : ({ c with md := m } : Chip).calm) : c.calm := by
  have hr : ∀ u, ({ c with md := m } : Chip).reported u = c.reported u := Chip.reported_congr rfl rfl rfl
  have hpr : ∀ u, ({ c with md := m } : Chip).present u = c.present u := fun u => by unfold Chip.present; rw [hr]
  have hus : ∀ u, ({ c with md := m } : Chip).usable u = c.usable u := fun u => by unfold Chip.usable; rw [hr]
  have hsys : ({ c with md := m } : Chip).sysAreaOk = c.sysAreaOk := by unfold Chip.sysAreaOk Chip.halved; simp only [hpr]
  have hfix : ({ c with md := m } : Chip).fixedMib ({ c with md := m } : Chip).bookOn = c.fixedMib c.bookOn := by
    unfold Chip.fixedMib Chip.mapSlices Chip.capacityMax Chip.goodBlocks
    dsimp only
    rw [← hd, ← hp]
    rfl
  have hddr : ∀ p, ({ c with md := m } : Chip).ddrMib p = c.ddrMib p := fun _ => rfl
  have h1 : ({ c with md := m } : Chip).floorFaults = c.floorFaults := by
    unfold Chip.floorFaults
    simp only [hpr, hr, hsys, hfix, hddr]
    rw [hd]
  have h2 : ({ c with md := m } : Chip).eligibleNow = c.eligibleNow := by
    unfold Chip.eligibleNow
    simp only [hus]
    rw [hd]
  obtain ⟨g1, g2, g3, g4⟩ := h
  exact ⟨h1.symm.trans g1, h2.symm.trans g2, g3, g4⟩

/-- What a step of the media has to leave, for a calm chip to stay calm: own states, the dies, the layout's dies, the store and the sizes of the buffers. -/
structure Chip.quietMedia (b c : Chip) : Prop where
  own : ∀ u, c.own u = b.own u
  grow : b.unitsGrow c
  dies : c.md.dies = b.md.dies
  pages : c.md.pagesPerBlock = b.md.pagesPerBlock
  eligible : c.sb.eligible = b.sb.eligible

/-- A row whose effect is of that kind ends as its effect left it. -/
theorem Completes.of_quietMedia {i : Instr} {s : State} {P : Chip → Prop} {t : Nat} {f : Chip → Chip} {c1 : Chip} {l : List Area} {es : List Nat}
    (he : exec i s = runUnits s t f) (hg : f (s.chip.atTime t) = c1) (hq : (s.chip.atTime t).quietMedia c1) (hk : (s.chip.atTime t).keeps c1 l)
    (hks : (s.chip.atTime t).keepsEntries c1 es) (hl : ∀ p ∈ [Area.fuse, .boot, .pr, .st, .ft], p ∉ l) (hes : ∀ e ∈ calmEntries, e ∉ es) (hc : s.chip.calm)
    (hp : P ((s.chip.atTime t).seal ((s.chip.atTime t).notices c1))) : Completes i s P := by
  have hfuse : c1.fuse = s.chip.fuse := hk .fuse (hl _ (by simp))
  have hboot : c1.boot = s.chip.boot := hk .boot (hl _ (by simp))
  have hpr : c1.pr = s.chip.pr := hk .pr (hl _ (by simp))
  have hst : c1.st = s.chip.st := hk .st (hl _ (by simp))
  have hft : c1.ft = s.chip.ft := hk .ft (hl _ (by simp))
  have hpart : c1.partnerStates = s.chip.partnerStates := by unfold Chip.partnerStates; rw [hboot, hpr]
  have hm : ∀ e ∈ calmEntries, e ∉ eventMeters := by decide
  have hr : ∀ u, c1.reported u = s.chip.reported u := Chip.reported_of_grown (b := s.chip) hq.own hq.grow hpart
  have hcalm : c1.calm := Chip.calm_withMd (m := s.chip.md) hq.dies hq.pages (Chip.calm_congr (b := s.chip) (c := { c1 with md := s.chip.md })
    (fun u => (Chip.reported_congr (b := c1) (c := { c1 with md := s.chip.md }) rfl rfl rfl u).trans (hr u)) hq.own hfuse hboot rfl
    hq.eligible (by rw [hst]) (by rw [hst]) (by rw [hft]) (by unfold Chip.topGranule; rw [hft]) (by rw [hft]) (by rw [hft])
    (fun e he => hks e 0 (hes e he) (hm e he)) hc)
  refine Completes.of_run (he.trans (runUnits_eq s t f)) ?_
  rw [hg, Chip.settle_calm (b := s.chip.atTime t) (fun u => (hr u).trans (Chip.reported_congr (b := s.chip) (c := s.chip.atTime t) rfl rfl rfl u).symm) hq.own (congrArg Boot.maint hboot.symm) hcalm]
  exact hp

end Sys2Proof.Machine
end

section
/-! A fault charged to a unit depends on units, time and limits alone (R18 to R20). -/
namespace Sys2Proof.Machine

/-- The entries that the charging of faults looks at. -/
def faultEntries : List Nat :=
  [E.TRANSIENT_WINDOW, E.TRANSIENT_LIMIT, E.FENCE_WINDOW, E.FENCE_LIMIT, E.FENCE_TIME, E.POWER_ON_TIME, E.PARENT_SPREAD]

/-- Two chips whose faults are charged alike. -/
structure Chip.faultsAlike (a b : Chip) : Prop where
  un : b.un = a.un
  fuse : b.fuse = a.fuse
  now : b.now = a.now
  vals : ∀ e ∈ faultEntries, b.get e = a.get e

section
variable {a b : Chip}

theorem Chip.faultsAlike_of {l : List Area} {es : List Nat} (hk : a.keeps b l) (hv : a.keepsEntries b es) (hn : b.now = a.now) (hu : .un ∉ l) (hf : .fuse ∉ l)
    (he : ∀ e ∈ faultEntries, e ∉ es) : a.faultsAlike b :=
  have hm : ∀ e ∈ faultEntries, e ∉ eventMeters := by decide
  ⟨hk .un hu, hk .fuse hf, hn, fun e h => hv e 0 (he e h) (hm e h)⟩

theorem Chip.faultsAlike.unitRec (h : a.faultsAlike b) (u : Nat) : b.unitRec u = a.unitRec u := Chip.unitRec_congr h.un (by rw [h.fuse]) u

theorem Chip.faultsAlike.own (h : a.faultsAlike b) : b.own = a.own := funext fun u => congrArg UnitRec.own (h.unitRec u)

theorem Chip.faultsAlike.ancestorOut (h : a.faultsAlike b) (u : Nat) : b.ancestorOut u = a.ancestorOut u := by
  unfold Chip.ancestorOut Chip.ancestorTerm
  rw [h.own]

theorem Chip.faultsAlike.spreadOf (h : a.faultsAlike b) (p : Nat) : b.spreadOf p = a.spreadOf p := by
  unfold Chip.spreadOf
  rw [h.un, h.now]

theorem Chip.faultsAlike.setUnit (h : a.faultsAlike b) (r : UnitRec) : (a.setUnit r).faultsAlike (b.setUnit r) :=
  ⟨by unfold Chip.setUnit; rw [h.un], h.fuse, h.now, h.vals⟩

theorem Chip.faultsAlike.setSpread (h : a.faultsAlike b) (s : Spread) : (a.setSpread s).faultsAlike (b.setSpread s) :=
  ⟨by unfold Chip.setSpread; rw [h.un], h.fuse, h.now, h.vals⟩

theorem Chip.faultsAlike.setOwn (h : a.faultsAlike b) (u own cause : Nat) : (a.setOwn u own cause).faultsAlike (b.setOwn u own cause) := by
  unfold Chip.setOwn Chip.stamp
  rw [h.unitRec, h.now]
  exact h.setUnit _

/-- The same work over a list. -/
theorem Chip.faultsAlike.each {α : Type} {f g : Chip → α → Chip} (hfg : ∀ {c d : Chip} (x : α), c.faultsAlike d → (f c x).faultsAlike (g d x)) (h : a.faultsAlike b)
    (l : List α) : (a.each l f).faultsAlike (b.each l g) := by
  induction l generalizing a b with
  | nil => exact h
  | cons x l ih => exact ih (hfg x h)

theorem Chip.faultsAlike.freeProbes (h : a.faultsAlike b) : a.freeProbes.faultsAlike b.freeProbes := by
  unfold Chip.freeProbes
  rw [h.un]
  refine Chip.faultsAlike.each (fun {c d} r hcd => ?_) h _
  have hv : d.get E.FENCE_TIME = c.get E.FENCE_TIME := hcd.vals _ (by decide)
  dsimp only
  rw [hcd.own, hcd.now, hv]
  split
  · exact hcd.setUnit _
  · split
    · exact hcd
    · exact hcd.setUnit _

theorem Chip.faultsAlike.retire (h : a.faultsAlike b) (u cause : Nat) : (a.retire u cause).faultsAlike (b.retire u cause) := by
  unfold Chip.retire
  rw [h.unitRec]
  exact ((h.setUnit _).setOwn _ _ _).freeProbes

theorem Chip.faultsAlike.fence (h : a.faultsAlike b) (u : Nat) : (a.fence u).faultsAlike (b.fence u) := by
  have hv : b.get E.FENCE_TIME = a.get E.FENCE_TIME := h.vals _ (by decide)
  have hw : b.get E.POWER_ON_TIME = a.get E.POWER_ON_TIME := h.vals _ (by decide)
  unfold Chip.fence
  rw [h.unitRec, h.ancestorOut, h.now, hv, hw]
  exact (h.setUnit _).setOwn _ _ _

theorem Chip.faultsAlike.faultCount (h : a.faultsAlike b) (u : Nat) : b.faultCount u = a.faultCount u := by
  unfold Chip.faultCount
  rw [h.unitRec, h.now, h.vals _ (by decide)]

theorem Chip.faultsAlike.fenceCount (h : a.faultsAlike b) (u : Nat) : b.fenceCount u = a.fenceCount u := by
  unfold Chip.fenceCount
  rw [h.unitRec, h.vals E.FENCE_WINDOW (by decide), h.vals E.POWER_ON_TIME (by decide)]

theorem Chip.faultsAlike.countFault (h : a.faultsAlike b) (u : Nat) : (a.countFault u).faultsAlike (b.countFault u) := by
  have hs := h.setUnit { a.unitRec u with faults := a.now :: (a.unitRec u).faults }
  unfold Chip.countFault
  dsimp only
  rw [h.unitRec, h.now, hs.faultCount, hs.fenceCount, h.vals E.TRANSIENT_LIMIT (by decide), h.vals E.FENCE_LIMIT (by decide)]
  split
  · split
    · exact hs
    · split
      · exact hs.fence u
      · exact hs.retire u 2
  · exact h

theorem Chip.faultsAlike.withdraw (h : a.faultsAlike b) (l : List (Nat × Nat)) : (a.withdraw l).faultsAlike (b.withdraw l) := by
  refine Chip.faultsAlike.each (fun {c d} p hcd => ?_) h l
  dsimp only
  rw [hcd.unitRec]
  exact hcd.setUnit _

theorem Chip.faultsAlike.chargeN (n : Nat) (h : a.faultsAlike b) (u : Nat) : (Chip.chargeN n a u).faultsAlike (Chip.chargeN n b u) := by
  induction n generalizing a b u with
  | zero => exact h.countFault u
  | succ n ih =>
    unfold Chip.chargeN
    rw [h.ancestorOut]
    split
    · exact h
    · split
      · exact h.countFault u
      · dsimp only
        rw [h.spreadOf, h.now, h.vals E.PARENT_SPREAD (by decide)]
        split
        · split
          · exact h
          · split
            · exact ih ((h.setSpread _).withdraw _) _
            · exact (h.setSpread _).countFault u
        · exact h.countFault u

theorem Chip.faultsAlike.endProbe (h : a.faultsAlike b) (u : Nat) (pass : Bool) : (a.endProbe u pass).faultsAlike (b.endProbe u pass) := by
  unfold Chip.endProbe
  dsimp only
  rw [h.unitRec]
  split
  · split
    · exact (h.setUnit _).setOwn _ _ _
    · exact h.retire u 1
  · exact h

theorem Chip.faultsAlike.chargeFault (h : a.faultsAlike b) (u : Nat) : (a.chargeFault u).faultsAlike (b.chargeFault u) := by
  unfold Chip.chargeFault
  rw [h.own, h.unitRec, h.ancestorOut]
  split
  · split
    · exact h.endProbe u false
    · exact h
  · exact h.chargeN 3 u

/-- A unit that bears a fault bears it on a chip whose faults are charged alike. -/
theorem Chip.faultsAlike.bears (h : a.faultsAlike b) {u : Nat} (hb : a.bearsFault u) (v : Nat) : (b.chargeFault u).own v = a.own v := by
  rw [(h.chargeFault u).own]
  exact hb v

end

end Sys2Proof.Machine
end

section
/-! What work on dies leaves of the superblocks and their rows: of a row, it changes the pages folded into its parity alone (R240). -/
namespace Sys2Proof.Machine

/-- A row but for the pages folded. -/
def Row.bare (r : Row) : Row := { r with folded := [] }

/-- From a to b no more has changed of the superblocks and rows than the pages folded. -/
def Chip.foldsOnly (a b : Chip) : Prop := ∃ l, b.sb = { a.sb with rows := l } ∧ l.map Row.bare = a.sb.rows.map Row.bare

section
variable {a b c : Chip}

theorem Chip.foldsOnly_of_sb (h : b.sb = a.sb) : a.foldsOnly b := ⟨a.sb.rows, by rw [h], rfl⟩

theorem Chip.foldsOnly_refl (a : Chip) : a.foldsOnly a := Chip.foldsOnly_of_sb rfl

theorem Chip.foldsOnly_trans (h : a.foldsOnly b) (h' : b.foldsOnly c) : a.foldsOnly c := by
  obtain ⟨l, h1, h2⟩ := h
  obtain ⟨m, g1, g2⟩ := h'
  refine ⟨m, by rw [g1, h1], ?_⟩
  rw [g2, h1]
  exact h2

theorem Chip.foldsOnly_of_keeps {l : List Area} (h : a.keeps b l) (hl : .sb ∉ l) : a.foldsOnly b := Chip.foldsOnly_of_sb (h .sb hl)

theorem Chip.foldsOnly_each {α : Type} {f : Chip → α → Chip} (hf : ∀ (c : Chip) x, c.foldsOnly (f c x)) (l : List α) (c : Chip) : c.foldsOnly (c.each l f) :=
  Chip.each_frame Chip.foldsOnly Chip.foldsOnly_refl (fun _ _ _ => Chip.foldsOnly_trans) f hf l c

/-- The superblocks are as they were. -/
theorem Chip.foldsOnly.sbs (h : a.foldsOnly b) : b.sb.sbs = a.sb.sbs := by
  obtain ⟨l, h, -⟩ := h
  rw [h]

theorem Chip.foldsOnly.sbOf (h : a.foldsOnly b) (i : Nat) : b.sbOf i = a.sbOf i := by unfold Chip.sbOf; rw [h.sbs]

theorem find_bare {l m : List Row} (h : l.map Row.bare = m.map Row.bare) (id : Nat) :
    (l.find? fun r => decide (r.id = id)).map Row.bare = (m.find? fun r => decide (r.id = id)).map Row.bare := by
  have hf : ∀ l : List Row, (l.find? fun r => decide (r.id = id)).map Row.bare = (l.map Row.bare).find? fun r => decide (r.id = id) := fun l => by
    rw [List.find?_map]
    rfl
  rw [hf, hf, h]

/-- A row is as it was but for the pages folded. -/
theorem Chip.foldsOnly.rowOf (h : a.foldsOnly b) (id : Nat) : (b.rowOf id).map Row.bare = (a.rowOf id).map Row.bare := by
  obtain ⟨l, h, hl⟩ := h
  unfold Chip.rowOf
  rw [h]
  exact find_bare hl id

end

/-! ### Dies -/

theorem Row.bare_ite (p : Prop) [Decidable p] (r : Row) (l : List (Nat × List Nat)) : (if p then { r with folded := l } else r).bare = r.bare := by
  split <;> rfl

theorem Chip.foldsOnly_foldIn (c : Chip) (o : Op) : c.foldsOnly (c.foldIn o) := by
  refine ⟨_, rfl, ?_⟩
  unfold change
  rw [List.map_map]
  refine List.map_congr_left fun r _ => ?_
  exact Row.bare_ite _ _ _

theorem Chip.foldsOnly_beginTransfer (c : Chip) (lun : Nat) (o : Op) : c.foldsOnly (c.beginTransfer lun o) := by
  unfold Chip.beginTransfer
  extract_lets c1
  have h1 : c.foldsOnly c1 := Chip.foldsOnly_of_keeps (l := [.um]) (Chip.keeps_ite (Chip.keeps_refl _ _) (Chip.keeps_chargeRes _ _ _ _)) (by decide)
  split
  · exact Chip.foldsOnly_trans h1 (Chip.foldsOnly_foldIn (c1.emit _) o)
  · exact h1

theorem Chip.foldsOnly_chargeStarted (c : Chip) (before after : Die) : c.foldsOnly (c.chargeStarted before after) := by
  refine Chip.foldsOnly_each (fun d p => ?_) _ _
  split
  · exact Chip.foldsOnly_trans (Chip.foldsOnly_of_keeps (d.keeps_chargeRes _ _ _) (by decide)) (Chip.foldsOnly_beginTransfer _ _ _)
  · exact Chip.foldsOnly_refl _

theorem Chip.foldsOnly_startDie (c : Chip) (before after : Die) : c.foldsOnly (c.startDie before after) := by
  unfold Chip.startDie
  extract_lets new pairs d
  have h1 : c.keeps ((if pairs.any new then c.selectVolume before.lun else c).setDie d) [.md] :=
    (Chip.keeps_setDie_iff (by decide) _).2 (Chip.keeps_ite (c.keeps_selectVolume _) (Chip.keeps_refl _ _))
  exact Chip.foldsOnly_trans (Chip.foldsOnly_of_keeps h1 (by decide)) (Chip.foldsOnly_chargeStarted _ _ _)

theorem Chip.foldsOnly_resumeOp (c : Chip) (d : Die) (o : Op) : c.foldsOnly (c.resumeOp d o) := by
  unfold Chip.resumeOp
  extract_lets o1 o2
  exact Chip.foldsOnly_of_keeps (l := [.um, .md]) ((Chip.keeps_chargeRes_iff (by decide) _ _ _).2 ((Chip.keeps_setDie_iff (by decide) _).2
    (Chip.keeps_mono (c.keeps_selectVolume _) (by decide)))) (by decide)

theorem Chip.foldsOnly_issueSuspend (c : Chip) (d : Die) (o : Op) : c.foldsOnly (c.issueSuspend d o) :=
  Chip.foldsOnly_of_keeps (l := [.md]) ((Chip.keeps_setDie_iff (by decide) _).2 (c.keeps_selectVolume _)) (by decide)

theorem Chip.foldsOnly_kickDie (c : Chip) (lun : Nat) : c.foldsOnly (c.kickDie lun) := by
  unfold Chip.kickDie
  split
  · exact Chip.foldsOnly_refl _
  · extract_lets apart r
    split
    · exact Chip.foldsOnly_refl _
    · split
      · split_ifs
        · exact Chip.foldsOnly_startDie _ _ _
        · exact Chip.foldsOnly_resumeOp _ _ _
        · exact Chip.foldsOnly_refl _
        · exact Chip.foldsOnly_issueSuspend _ _ _
        · exact Chip.foldsOnly_refl _
      · split <;> exact Chip.foldsOnly_startDie _ _ _

theorem Chip.foldsOnly_queueOp (c : Chip) (lun : Nat) (o : Op) : c.foldsOnly (c.queueOp lun o) := by
  unfold Chip.queueOp
  split
  · exact Chip.foldsOnly_refl _
  · exact Chip.foldsOnly_trans (Chip.foldsOnly_of_keeps (Chip.keeps_setDie c _) (by decide)) (Chip.foldsOnly_kickDie _ _)

theorem Chip.foldsOnly_programPage (c : Chip) (s : Sb) (r : Row) (m cls : Nat) (ws : List Nat) : c.foldsOnly (c.programPage s r m cls ws) := by
  unfold Chip.programPage
  split
  · exact Chip.foldsOnly_refl _
  · extract_lets o
    exact Chip.foldsOnly_trans (Chip.foldsOnly_of_keeps (c.keeps_setBlock _) (by decide)) (Chip.foldsOnly_queueOp _ _ _)

/-! ### Rows -/

/-- What a row holds, and whether it closes. -/
def Chip.rowShape (c : Chip) (id : Nat) : Option (Bool × List (Nat × Nat)) := (c.rowOf id).map fun r => (r.closing, r.entries)

theorem Chip.foldsOnly.rowShape {a b : Chip} (h : a.foldsOnly b) (id : Nat) : b.rowShape id = a.rowShape id := by
  have he := congrArg (Option.map fun r : Row => (r.closing, r.entries)) (h.rowOf id)
  rwa [Option.map_map, Option.map_map] at he

theorem Chip.rowOf_id {c : Chip} {id : Nat} {r : Row} (h : c.rowOf id = some r) : r.id = id := by simpa using List.find?_some h

theorem Chip.rowOf_setRow_same {c : Chip} {r q : Row} (h : c.rowOf r.id = some q) : (c.setRow r).rowOf r.id = some r := by
  unfold Chip.rowOf at *
  exact find_change _ _ (by simp) _ (by simp [h])

theorem Chip.rowOf_setRow_ne (c : Chip) (r : Row) {id : Nat} (hn : r.id ≠ id) : (c.setRow r).rowOf id = c.rowOf id := by
  unfold Chip.rowOf
  refine find_change_ne _ _ _ (fun a ha => ?_) _
  have : a.id = r.id := by simpa using ha
  simp [this, hn]

/-- A row set to one that holds the same. -/
theorem Chip.rowShape_setRow {c : Chip} {r q : Row} (h : c.rowOf r.id = some q) (hq : (r.closing, r.entries) = (q.closing, q.entries)) (id : Nat) :
    (c.setRow r).rowShape id = c.rowShape id := by
  unfold Chip.rowShape
  by_cases hi : r.id = id
  · subst hi
    rw [Chip.rowOf_setRow_same h, h, Option.map_some, Option.map_some, hq]
  · rw [Chip.rowOf_setRow_ne c r hi]

/-- The parity of a row begins, where its data has passed: the row holds what it did. -/
theorem Chip.rowProgress_frame (c : Chip) (id : Nat) : (∀ i, (c.rowProgress id).rowShape i = c.rowShape i) ∧ (c.rowProgress id).sb.sbs = c.sb.sbs
    ∧ ∀ i, c.rowOf i = none → (c.rowProgress id).rowOf i = none := by
  unfold Chip.rowProgress
  split
  · exact ⟨fun _ => rfl, rfl, fun _ h => h⟩
  next r hr =>
    split
    · exact ⟨fun _ => rfl, rfl, fun _ h => h⟩
    next s _ =>
      extract_lets ready c1 ps
      split
      · have hid : r.id = id := Chip.rowOf_id hr
        have h1 : ∀ i, c1.rowShape i = c.rowShape i := Chip.rowShape_setRow (r := { r with parityIssued := true }) (q := r) (by rw [hid]; exact hr) rfl
        have hf : c1.foldsOnly (c1.each ((ps.zip (List.range ps.length)).filter fun p => !s.moved r.row p.1 && !r.passed.contains p.1) fun c p =>
            c.programPage s r p.1 (streamClass s.stream) (parityWords s r.row p.2 r.folded)) := Chip.foldsOnly_each (fun d p => d.foldsOnly_programPage _ _ _ _ _) _ _
        refine ⟨fun i => (hf.rowShape i).trans (h1 i), hf.sbs, fun i hi => ?_⟩
        have h2 : (c1.each ((ps.zip (List.range ps.length)).filter fun p => !s.moved r.row p.1 && !r.passed.contains p.1) fun c p =>
            c.programPage s r p.1 (streamClass s.stream) (parityWords s r.row p.2 r.folded)).rowShape i = none := by
          rw [hf.rowShape, h1]
          unfold Chip.rowShape
          rw [hi]
          rfl
        exact Option.map_eq_none_iff.1 h2
      · exact ⟨fun _ => rfl, rfl, fun _ h => h⟩

/-- The members of a row that filler takes, and the row with them. -/
def Row.padFree (r : Row) (s : Sb) : List Nat :=
  (dataPos s.idx r.row s.p2).filter fun m => !(r.entries.any fun e => decide (e.1 = m)) && !r.filler.contains m && !r.failed.contains m

def Row.padded (r : Row) (s : Sb) : Row := { r with filler := r.filler ++ r.padFree s, closing := true }

/-- A row being closed with filler, before its parity begins. -/
def Chip.padding (c : Chip) (r : Row) (s : Sb) : Chip :=
  ((c.setRow (r.padded s)).count E.CRU_PAD_UNITS (r.padFree s).length).each (r.padFree s) fun c m => c.programPage s (r.padded s) m (streamClass s.stream) fillerWords

theorem Chip.padRow_eq {c : Chip} {id : Nat} {r : Row} {s : Sb} (hr : c.rowOf id = some r) (hs : c.sbOf r.sb = some s) :
    c.padRow id = (c.padding r s).rowProgress id := by
  unfold Chip.padRow
  rw [hr]
  dsimp only
  rw [hs]
  rfl

theorem Chip.padRow_cases (c : Chip) (id : Nat) : c.padRow id = c
    ∨ ∃ r s, c.rowOf id = some r ∧ c.sbOf r.sb = some s ∧ c.padRow id = (c.padding r s).rowProgress id := by
  cases hr : c.rowOf id with
  | none => exact .inl (by unfold Chip.padRow; rw [hr])
  | some r =>
    cases hs : c.sbOf r.sb with
    | none => exact .inl (by unfold Chip.padRow; rw [hr]; dsimp only; rw [hs])
    | some s => exact .inr ⟨r, s, rfl, hs, Chip.padRow_eq hr hs⟩

theorem Chip.padding_frame {c : Chip} {id : Nat} {r : Row} (s : Sb) (hr : c.rowOf id = some r) : (c.padding r s).rowShape id = some (true, r.entries)
    ∧ (c.padding r s).sb.sbs = c.sb.sbs ∧ (∀ i, c.rowOf i = none → (c.padding r s).rowOf i = none) ∧ c.keepsEntries (c.padding r s) [E.CRU_PAD_UNITS]
    ∧ c.keeps (c.padding r s) (.dict :: diePart) := by
  unfold Chip.padding
  generalize hc1 : (c.setRow (r.padded s)).count E.CRU_PAD_UNITS (r.padFree s).length = c1
  have hid0 : r.id = id := Chip.rowOf_id hr
  have hid : (r.padded s).id = id := hid0
  have hsb : c1.sb = (c.setRow (r.padded s)).sb := by
    subst hc1
    exact Chip.keeps_countAt (c.setRow (r.padded s)) E.CRU_PAD_UNITS 0 _ .sb (by decide)
  have hro : ∀ i, c1.rowOf i = (c.setRow (r.padded s)).rowOf i := fun i => by unfold Chip.rowOf; rw [hsb]
  have hks : c.keepsEntries c1 [E.CRU_PAD_UNITS] := by
    subst hc1
    exact (Chip.keepsEntries_countAt_iff (by decide) _ _).2 ((Chip.keepsEntries_setRow_iff _).2 (Chip.keepsEntries_refl _ _))
  have hk : c.keeps c1 (.dict :: diePart) := by
    subst hc1
    exact (Chip.keeps_countAt_iff (by decide) _ _ _).2 ((Chip.keeps_setRow_iff (by decide) _).2 (Chip.keeps_refl _ _))
  have hf : c1.foldsOnly (c1.each (r.padFree s) fun c m => c.programPage s (r.padded s) m (streamClass s.stream) fillerWords) :=
    Chip.foldsOnly_each (fun d m => d.foldsOnly_programPage _ _ _ _ _) _ _
  have hd : c1.keeps (c1.each (r.padFree s) fun c m => c.programPage s (r.padded s) m (streamClass s.stream) fillerWords) diePart :=
    Chip.keeps_each (fun d m => d.keeps_programPage _ _ _ _ _) _ _
  refine ⟨?_, hf.sbs.trans (by rw [hsb]; rfl), fun i hi => ?_,
    Chip.keepsEntries_mono (Chip.keepsEntries_trans hks (Chip.keepsEntries_of_keeps hd (by decide) [])) (by simp), Chip.keeps_mono (Chip.keeps_trans hk hd) (by decide)⟩
  · have h := Chip.rowOf_setRow_same (c := c) (r := r.padded s) (q := r) (by rw [hid]; exact hr)
    rw [hid] at h
    rw [hf.rowShape]
    unfold Chip.rowShape
    rw [hro, h]
    rfl
  · have hne : (r.padded s).id ≠ i := fun he => by
      rw [← he, hid, hr] at hi
      cases hi
    have h2 := hf.rowOf i
    rw [hro, Chip.rowOf_setRow_ne c _ hne, hi] at h2
    exact Option.map_eq_none_iff.1 h2

/-- Closing a row with filler brings no row and changes no superblock. -/
theorem Chip.padRow_frame (c : Chip) (id : Nat) : (c.padRow id).sb.sbs = c.sb.sbs ∧ (∀ i, c.rowOf i = none → (c.padRow id).rowOf i = none)
    ∧ c.keepsEntries (c.padRow id) [E.CRU_PAD_UNITS] := by
  rcases c.padRow_cases id with h | ⟨r, s, hr, -, h⟩
  · rw [h]
    exact ⟨rfl, fun _ h => h, Chip.keepsEntries_refl _ _⟩
  · rw [h]
    obtain ⟨-, g2, g3, g4, -⟩ := c.padding_frame s hr
    obtain ⟨-, p2, p3⟩ := (c.padding r s).rowProgress_frame id
    exact ⟨p2.trans g2, fun i hi => p3 i (g3 i hi), Chip.keepsEntries_mono (Chip.keepsEntries_trans g4
      (Chip.keepsEntries_of_keeps ((c.padding r s).keeps_rowProgress id) (by decide) [])) (by simp)⟩

/-- A row closed with filler closes, with the entries that it held. -/
theorem Chip.padRow_closes {c : Chip} {id : Nat} {r : Row} {s : Sb} (hr : c.rowOf id = some r) (hs : c.sbOf r.sb = some s) :
    (c.padRow id).rowShape id = some (true, r.entries) := by
  rw [Chip.padRow_eq hr hs, ((c.padding r s).rowProgress_frame id).1]
  exact (c.padding_frame s hr).1

end Sys2Proof.Machine
end

section
/-! Places that change (R144, R150, R238, R244, R252): copies, releases, filler, patches and replacements. -/
namespace Sys2Proof.Machine

/-! ### Copies that take over -/

theorem Chip.mapOf_placed (c : Chip) (unit entry u : Nat) : (c.mapChange 0 unit 1 entry).mapOf u = if u = unit then entry else c.mapOf u := by
  obtain ⟨l, h⟩ := c.mapChange_ft 0 unit 1 entry
  unfold Chip.mapOf
  rw [h]
  show SMap.get entryDealloc u (c.ft.map.put entryDealloc unit entry) = _
  split
  next he => rw [he, SMap.get_put_same]
  next hn => exact SMap.get_put_ne _ _ hn _ _

theorem Chip.keeps_noteSeq (c : Chip) (idx : Nat) (w : Option Nat) : c.keeps (c.noteSeq idx w) [.sb] := by
  unfold Chip.noteSeq
  split
  · split
    · exact Chip.keeps_setSb _ _
    · exact Chip.keeps_refl _ _
  · exact Chip.keeps_refl _ _

theorem Chip.noteSeq_held (c : Chip) (idx : Nat) (w : Option Nat) : (c.noteSeq idx w).sb.held = c.sb.held := by
  unfold Chip.noteSeq
  split
  · split <;> rfl
  · rfl

theorem Chip.placeUnit_held (c : Chip) (entry unit : Nat) : (c.placeUnit entry unit).sb.held = c.sb.held := by
  unfold Chip.placeUnit
  split <;> rfl

theorem not_mem_erase_of_filter {α : Type} [DecidableEq α] {p : α → Bool} {x : α} {l : List α} (h : l.filter p = [x]) : x ∉ l.erase x := by
  have hx : p x = true := (List.mem_filter.1 (h ▸ List.mem_singleton_self x)).2
  have hc : l.count x = 1 := by rw [← List.count_filter hx, h, List.count_singleton_self]
  intro hm
  have := List.count_pos_iff.2 hm
  rw [List.count_erase_self] at this
  omega

/-- The only copy to a place, whose unit is still where it was read, takes over. -/
theorem Chip.switchAt_one {c : Chip} {e : Nat} {x : Held} (hf : (c.sb.held.filter fun y => decide (y.dst = e)) = [x]) (hm : c.mapOf x.unit = x.src) :
    (c.switchAt e).mapOf x.unit = x.dst ∧ x ∉ (c.switchAt e).sb.held ∧ c.keeps (c.switchAt e) [.ft, .sb, .dict, .ev, .lg] := by
  unfold Chip.switchAt
  rw [hf]
  simp only [Chip.each, List.foldl_cons, List.foldl_nil]
  rw [if_pos hm]
  generalize hl : c.sb.held.erase x = l
  have hn : x ∉ l := hl ▸ not_mem_erase_of_filter hf
  generalize hc1 : ({ c with sb := { c.sb with held := l } } : Chip) = c1
  have k1 : c.keeps c1 [.ft, .sb, .dict, .ev, .lg] := hc1 ▸ (Chip.keeps_with_sb (by decide) _).2 (Chip.keeps_refl _ _)
  have h1 : c1.sb.held = l := hc1 ▸ rfl
  have k2 : c1.keeps (((c1.mapChange 0 x.unit 1 x.dst).placeUnit x.dst x.unit).noteSeq (entrySb x.dst) (some x.wseq)) [.ft, .sb, .dict, .ev, .lg] :=
    Chip.keeps_mono (Chip.keeps_trans (c1.keeps_mapChange 0 x.unit 1 x.dst) (Chip.keeps_trans (Chip.keeps_placeUnit _ _ _) (Chip.keeps_noteSeq _ _ _))) (by decide)
  have h2 : (((c1.mapChange 0 x.unit 1 x.dst).placeUnit x.dst x.unit).noteSeq (entrySb x.dst) (some x.wseq)).sb.held = l := by
    rw [Chip.noteSeq_held, Chip.placeUnit_held, c1.keeps_mapChange 0 x.unit 1 x.dst .sb (by decide), h1]
  have m2 : (((c1.mapChange 0 x.unit 1 x.dst).placeUnit x.dst x.unit).noteSeq (entrySb x.dst) (some x.wseq)).mapOf x.unit = x.dst := by
    have hft := Chip.keeps_trans (Chip.keeps_placeUnit (c1.mapChange 0 x.unit 1 x.dst) x.dst x.unit) (Chip.keeps_noteSeq _ (entrySb x.dst) (some x.wseq)) .ft (by decide)
    have hm := c1.mapOf_placed x.unit x.dst x.unit
    rw [if_pos rfl] at hm
    exact (congrArg (fun f : Ft => f.map.get entryDealloc x.unit) hft).trans hm
  generalize ((c1.mapChange 0 x.unit 1 x.dst).placeUnit x.dst x.unit).noteSeq (entrySb x.dst) (some x.wseq) = c2 at k2 h2 m2
  split
  · have hk := Chip.keeps_countAt { c2 with sb := { c2.sb with realloc := drop' (fun (q : Nat × Nat × List (Nat × Nat)) => decide (q.1 = x.unit)) c2.sb.realloc } }
      E.REALLOCATED 0 1
    refine ⟨?_, ?_, ?_⟩
    · exact (congrArg (fun f : Ft => f.map.get entryDealloc x.unit) (hk .ft (by decide))).trans m2
    · rw [hk .sb (by decide)]
      exact h2 ▸ hn
    · exact Chip.keeps_mono (Chip.keeps_trans k1 (Chip.keeps_trans ((Chip.keeps_with_sb (by decide) _).2 k2) hk)) (by decide)
  · exact ⟨m2, h2 ▸ hn, Chip.keeps_mono (Chip.keeps_trans k1 ((Chip.keeps_with_sb (by decide) _).2 k2)) (by decide)⟩

/-- A page that is safe switches the copies to it, where their slices and their records are there, and no replacement is under way. -/
theorem Chip.destSafe_switches {c : Chip} {sb slot : Nat} {q : Sb} {x : Held} (hq : c.sbOf sb = some q) (hr : c.sb.repls = []) (hp : c.pageSafe q (slotPage slot) = true)
    (hf : (c.sb.held.filter fun y => decide (y.dst = sb * 2 ^ 20 + slot)) = [x]) (hl : c.sliceLoaded x.unit = true) (hh : c.placeHeld x.unit = false) :
    c.destSafe sb slot = c.switchAt (sb * 2 ^ 20 + slot) := by
  unfold Chip.destSafe
  split
  next h => rw [hq] at h; cases h
  next s h =>
    obtain rfl := Option.some.inj (h.symm.trans hq)
    extract_lets next _ c1 e here unloaded waits
    have hn : next = [] := by
      unfold next
      rw [hr]
      rfl
    have hc : c1 = c := by
      unfold c1
      rw [hn, ← hr]
    have hhere : here = [x] := hf
    have hw : waits = false := by
      unfold waits unloaded
      rw [hhere]
      simp [hc, hh, hl]
    rw [hc, hw, hp]
    rfl

/-! ### Sources released -/

/-- From a to b erases have been gathered, and no more. -/
def Chip.gathers (a b : Chip) : Prop := (∃ l, b.md = { a.md with intents := a.md.intents ++ l }) ∧ a.keeps b [.md, .dict] ∧ a.keepsEntries b [E.EI_NEXT_SEQ]

section
variable {a b c : Chip}

theorem Chip.gathers_refl (a : Chip) : a.gathers a := ⟨⟨[], by rw [List.append_nil]⟩, Chip.keeps_refl _ _, Chip.keepsEntries_refl _ _⟩

theorem Chip.gathers_trans (h : a.gathers b) (h' : b.gathers c) : a.gathers c := by
  obtain ⟨⟨l, h1⟩, h2, h3⟩ := h
  obtain ⟨⟨m, g1⟩, g2, g3⟩ := h'
  exact ⟨⟨l ++ m, by rw [g1, h1, List.append_assoc]⟩, Chip.keeps_mono (Chip.keeps_trans h2 g2) (by decide), Chip.keepsEntries_mono (Chip.keepsEntries_trans h3 g3) (by simp)⟩

theorem Chip.gathers.blockOf (h : a.gathers b) (lun block : Nat) : b.blockOf lun block = a.blockOf lun block := by
  obtain ⟨⟨l, h⟩, -, -⟩ := h
  unfold Chip.blockOf Chip.dieOf
  rw [h]

theorem Chip.gathers.reported (h : a.gathers b) (u : Nat) : b.reported u = a.reported u := by
  obtain ⟨-, h, -⟩ := h
  refine Chip.reported_congr (h .un (by decide)) (h .fuse (by decide)) ?_ u
  unfold Chip.partnerStates
  rw [h .boot (by decide), h .pr (by decide)]

theorem Chip.gathers.mem_intents (h : a.gathers b) {i : Intent} (hi : i ∈ a.md.intents) : i ∈ b.md.intents := by
  obtain ⟨⟨l, h⟩, -, -⟩ := h
  rw [h]
  exact List.mem_append_left _ hi

end

/-- The erase of a block of a superblock that a release gathers. -/
def Chip.gatherIntent (c : Chip) (lun block sb : Nat) : Intent :=
  { lun := lun, block := block, planes := 2 ^ c.md.planes - 1, kind := 0, seq := c.get E.EI_NEXT_SEQ, sb := sb, written := false, ended := false }

theorem Chip.gathers_gatherErase (c : Chip) (lun block kind sb : Nat) : c.gathers (c.gatherErase lun block kind sb) := by
  refine ⟨⟨[_], rfl⟩, c.keeps_gatherErase _ _ _ _, ?_⟩
  unfold Chip.gatherErase
  exact (Chip.keepsEntries_setAt_iff (by decide) _ _).2 (Chip.keepsEntries_vals rfl _)

theorem Chip.mem_gatherErase (c : Chip) (lun block sb : Nat) : c.gatherIntent lun block sb ∈ (c.gatherErase lun block 0 sb).md.intents :=
  List.mem_append_right _ (List.mem_singleton_self _)

/-- The superblock in the state in which it waits for erase. -/
def Sb.awaiting (s : Sb) : Sb :=
  { s with state := .awaitErase, exposed := false, inWork := false, dueT := none, stress := 0, marked := none, firstMark := false }

/-- The step of a release for one member. -/
def Chip.freeMember (idx : Nat) (c : Chip) (m : Member) : Chip :=
  if decide (c.reported (mkUnit kLUN m.lun) = 4) then c
  else if c.get E.MARK_RETIRE ≤ (c.blockOf m.lun m.block).marks then
    ((c.scrap m.lun m.block).count E.MARK_RETIRED_BLOCKS 1).event 0x135 0 1 (c.unitIdent (mkUnit kLUN m.lun)) [m.block]
  else c.gatherErase m.lun m.block 0 idx

/-- A member whose block is not due for retirement is gathered, but for one of a die that is RETIRED. -/
theorem Chip.freeMember_eq {b c : Chip} (idx : Nat) {m : Member} (hm : (b.blockOf m.lun m.block).marks < b.get E.MARK_RETIRE) (hc : b.gathers c) :
    c.freeMember idx m = if b.reported (mkUnit kLUN m.lun) = 4 then c else c.gatherErase m.lun m.block 0 idx := by
  have hv : c.get E.MARK_RETIRE = b.get E.MARK_RETIRE := hc.2.2 _ 0 (by decide) (by decide)
  unfold Chip.freeMember
  rw [hc.reported, hc.blockOf, hv, if_neg (Nat.not_le.2 hm)]
  simp only [decide_eq_true_eq]

theorem Chip.gathers_freeMember {b c : Chip} (idx : Nat) {m : Member} (hm : (b.blockOf m.lun m.block).marks < b.get E.MARK_RETIRE) (hc : b.gathers c) :
    c.gathers (c.freeMember idx m) := by
  rw [Chip.freeMember_eq idx hm hc]
  split
  · exact Chip.gathers_refl _
  · exact c.gathers_gatherErase _ _ _ _

theorem Chip.freeMembers_gather {b : Chip} (idx : Nat) (ms : List Member) (hm : ∀ m ∈ ms, (b.blockOf m.lun m.block).marks < b.get E.MARK_RETIRE) {c : Chip} (hc : b.gathers c) :
    c.gathers (c.each ms (Chip.freeMember idx)) ∧ ∀ m ∈ ms, b.reported (mkUnit kLUN m.lun) ≠ 4 →
      ∃ i ∈ (c.each ms (Chip.freeMember idx)).md.intents, i.lun = m.lun ∧ i.block = m.block ∧ i.kind = 0 ∧ i.sb = idx ∧ i.written = false := by
  induction ms generalizing c with
  | nil => exact ⟨Chip.gathers_refl _, fun m h => absurd h List.not_mem_nil⟩
  | cons m ms ih =>
    have hg : c.gathers (c.freeMember idx m) := Chip.gathers_freeMember idx (hm m List.mem_cons_self) hc
    obtain ⟨i1, i2⟩ := ih (fun n hn => hm n (List.mem_cons_of_mem _ hn)) (Chip.gathers_trans hc hg)
    refine ⟨Chip.gathers_trans hg i1, fun n hn hr => ?_⟩
    rcases List.mem_cons.1 hn with rfl | hn
    · have he := Chip.freeMember_eq idx (hm n List.mem_cons_self) hc
      rw [if_neg hr] at he
      exact ⟨c.gatherIntent n.lun n.block idx, i1.mem_intents (by rw [he]; exact c.mem_gatherErase _ _ _), rfl, rfl, rfl, rfl, rfl⟩
    · exact i2 n hn hr

theorem Chip.sbOf_idx {c : Chip} {i : Nat} {s : Sb} (h : c.sbOf i = some s) : s.idx = i := by simpa using List.find?_some h

theorem Chip.sbOf_setSb_same {c : Chip} {s q : Sb} (h : c.sbOf s.idx = some q) : (c.setSb s).sbOf s.idx = some s := by
  unfold Chip.sbOf at *
  exact find_change _ _ (by simp) _ (by simp [h])

/-- From a to b the superblocks, the dies of the layout and the replacements of other superblocks stay, and erases have been gathered. -/
theorem Chip.dropRepls_frame (c : Chip) (idx : Nat) : (∃ d : Chip, (∃ l, d = { c with sb := { c.sb with repls := l } }) ∧ d.gathers (c.dropRepls idx)) := by
  refine ⟨{ c with sb := { c.sb with repls := drop' (fun (r : Repl) => decide (r.sb = idx)) c.sb.repls } }, ⟨_, rfl⟩, ?_⟩
  unfold Chip.dropRepls
  refine Chip.each_frame Chip.gathers Chip.gathers_refl (fun _ _ _ => Chip.gathers_trans) _ (fun d r => ?_) _ _
  split
  · exact Chip.gathers_refl _
  · exact d.gathers_gatherErase _ _ _ _

/-- A release whose blocks are not due for retirement: the superblock waits for erase, its blocks are gathered, and no more of the media changes. -/
theorem Chip.releaseSb_frame {c : Chip} {idx : Nat} {s : Sb} (hs : c.sbOf idx = some s) (hm : ∀ m ∈ s.members, (c.blockOf m.lun m.block).marks < c.get E.MARK_RETIRE) :
    ((c.releaseSb idx).sbOf idx).map Sb.state = some .awaitErase
    ∧ (∀ m ∈ s.members, c.reported (mkUnit kLUN m.lun) ≠ 4 →
        ∃ i ∈ (c.releaseSb idx).md.intents, i.lun = m.lun ∧ i.block = m.block ∧ i.kind = 0 ∧ i.sb = idx ∧ i.written = false)
    ∧ (∃ l, (c.releaseSb idx).md = { c.md with intents := l }) ∧ (c.releaseSb idx).sb.eligible = c.sb.eligible
    ∧ c.keeps (c.releaseSb idx) [.sb, .md, .dict] ∧ c.keepsEntries (c.releaseSb idx) [E.EI_NEXT_SEQ] := by
  have he : c.releaseSb idx = (((((c.setSb s.awaiting).setFoldQ (c.sb.foldQ.erase idx)).setVictims
      (((c.setSb s.awaiting).setFoldQ (c.sb.foldQ.erase idx)).sb.victims.erase idx)).dropRepls idx).each s.members (Chip.freeMember idx)) := by
    unfold Chip.releaseSb
    rw [hs]
    rfl
  rw [he]
  generalize hb : ((c.setSb s.awaiting).setFoldQ (c.sb.foldQ.erase idx)).setVictims (((c.setSb s.awaiting).setFoldQ (c.sb.foldQ.erase idx)).sb.victims.erase idx) = b
  have hbs : b.sbOf idx = some s.awaiting := by
    subst hb
    have hid : s.awaiting.idx = idx := (Chip.sbOf_idx hs : s.idx = idx)
    have := Chip.sbOf_setSb_same (c := c) (s := s.awaiting) (q := s) (by rw [hid]; exact hs)
    rw [hid] at this
    exact this
  have hbk : c.keeps b [.sb] := by
    subst hb
    exact Chip.keeps_mono (Chip.keeps_trans (Chip.keeps_trans (Chip.keeps_setSb c _) (Chip.keeps_setFoldQ _ _)) (Chip.keeps_setVictims _ _)) (by decide)
  have hbe : b.sb.eligible = c.sb.eligible := by subst hb; rfl
  have hbv : b.dict.vals = c.dict.vals := by subst hb; rfl
  obtain ⟨d, ⟨l, hd⟩, hg⟩ := b.dropRepls_frame idx
  generalize b.dropRepls idx = e at hg
  have hds : d.sbOf idx = some s.awaiting := by subst hd; exact hbs
  have hdk : c.keeps d [.sb] := by subst hd; exact (Chip.keeps_with_sb (by decide) _).2 hbk
  have hde : d.sb.eligible = c.sb.eligible := by subst hd; exact hbe
  have hdv : d.dict.vals = c.dict.vals := by subst hd; exact hbv
  have hblock : ∀ lun block, d.blockOf lun block = c.blockOf lun block := fun lun block => by unfold Chip.blockOf Chip.dieOf; rw [hdk .md (by decide)]
  have hget : d.get E.MARK_RETIRE = c.get E.MARK_RETIRE := by unfold Chip.get Chip.getAt; rw [hdv]
  have hrep : ∀ u, d.reported u = c.reported u := fun u => Chip.reported_congr (hdk .un (by decide)) (hdk .fuse (by decide))
    (by unfold Chip.partnerStates; rw [hdk .boot (by decide), hdk .pr (by decide)]) u
  obtain ⟨g1, g2⟩ := Chip.freeMembers_gather (b := d) idx s.members (fun m hmem => by rw [hblock, hget]; exact hm m hmem) hg
  have ht := Chip.gathers_trans hg g1
  obtain ⟨⟨l', hmd⟩, hk, hv⟩ := ht
  refine ⟨?_, fun m hmem hr => g2 m hmem (by rw [hrep]; exact hr), ⟨_, by rw [hmd, hdk .md (by decide)]⟩, by rw [hk .sb (by decide)]; exact hde,
    Chip.keeps_mono (Chip.keeps_trans hdk hk) (by decide), Chip.keepsEntries_mono (Chip.keepsEntries_trans (Chip.keepsEntries_vals hdv []) hv) (by simp)⟩
  have : (e.each s.members (Chip.freeMember idx)).sbOf idx = some s.awaiting := by
    unfold Chip.sbOf
    rw [hk .sb (by decide)]
    exact hds
  rw [this]
  rfl

/-- The end of rebuilds changes neither superblocks nor the dies of the layout. -/
theorem Chip.rebuildEnds_frame (c : Chip) : c.rebuildEnds.sb.sbs = c.sb.sbs ∧ c.rebuildEnds.sb.eligible = c.sb.eligible
    ∧ c.keeps c.rebuildEnds [.sb, .dict, .ev, .lg] ∧ c.keepsEntries c.rebuildEnds [E.RB_LAST_TIME] := by
  unfold Chip.rebuildEnds
  extract_lets named done left counts
  split
  · exact ⟨rfl, rfl, Chip.keeps_refl _ _, Chip.keepsEntries_refl _ _⟩
  · generalize hb : ({ c with sb := { c.sb with rebuilding := left, replCounts := counts } } : Chip) = b
    have hk : b.keeps (b.each done fun c p => (c.set E.RB_LAST_TIME (min max40 ((c.now - p.2) / cycPerSec))).event 0x181 1 2 (c.unitIdent (mkUnit kLUN p.1))
        [min max40 ((c.now - p.2) / cycPerSec)]) [.dict, .ev, .lg] :=
      Chip.keeps_each (fun d p => (Chip.keeps_event_iff (by decide) (by decide) (by decide) _ _ _ _ _).2 ((Chip.keeps_setAt_iff (by decide) _ _ _).2 (Chip.keeps_refl _ _))) _ _
    have hv : b.keepsEntries (b.each done fun c p => (c.set E.RB_LAST_TIME (min max40 ((c.now - p.2) / cycPerSec))).event 0x181 1 2 (c.unitIdent (mkUnit kLUN p.1))
        [min max40 ((c.now - p.2) / cycPerSec)]) [E.RB_LAST_TIME] :=
      Chip.keepsEntries_each (fun d p => (Chip.keepsEntries_event_iff ..).2 ((Chip.keepsEntries_setAt_iff (by decide) _ _).2 (Chip.keepsEntries_refl _ _))) _ _
    have hc : c.keeps b [.sb] := hb ▸ (Chip.keeps_with_sb (by decide) _).2 (Chip.keeps_refl _ _)
    refine ⟨by rw [hk .sb (by decide), ← hb], by rw [hk .sb (by decide), ← hb], Chip.keeps_mono (Chip.keeps_trans hc hk) (by decide),
      Chip.keepsEntries_mono (Chip.keepsEntries_trans (Chip.keepsEntries_vals (b := b) (by rw [← hb]) []) hv) (by simp)⟩

end Sys2Proof.Machine
end

section
/-! Places that change (R144, R149, R245, R252): a replacement that has all its rows takes its member's place. -/
namespace Sys2Proof.Machine

/-- The members of a superblock. -/
def Chip.membersOf (c : Chip) (i : Nat) : Option (List Member) := (c.sbOf i).map Sb.members

theorem Chip.membersOf_congr {b c : Chip} (h : c.sb.sbs = b.sb.sbs) (i : Nat) : c.membersOf i = b.membersOf i := by
  unfold Chip.membersOf Chip.sbOf
  rw [h]

theorem Chip.sbOf_setSb_ne (c : Chip) (s : Sb) {i : Nat} (hn : s.idx ≠ i) : (c.setSb s).sbOf i = c.sbOf i := by
  unfold Chip.sbOf
  refine find_change_ne _ _ _ (fun a ha => ?_) _
  have : a.idx = s.idx := by simpa using ha
  simp [this, hn]

/-- A superblock set to one of the same members. -/
theorem Chip.membersOf_setSb {c : Chip} {s q : Sb} (h : c.sbOf s.idx = some q) (hm : s.members = q.members) (i : Nat) : (c.setSb s).membersOf i = c.membersOf i := by
  unfold Chip.membersOf
  by_cases hi : s.idx = i
  · subst hi
    rw [Chip.sbOf_setSb_same h, h, Option.map_some, Option.map_some, hm]
  · rw [Chip.sbOf_setSb_ne c s hi]

theorem Chip.markSb_frame (c : Chip) (sb cause : Nat) : (∀ i, (c.markSb sb cause).membersOf i = c.membersOf i)
    ∧ c.keeps (c.markSb sb cause) [.sb, .dict, .ev, .lg] ∧ c.keepsEntries (c.markSb sb cause) [E.EARLY_MARKS] := by
  unfold Chip.markSb
  split
  · exact ⟨fun _ => rfl, Chip.keeps_refl _ _, Chip.keepsEntries_refl _ _⟩
  next s hs =>
    split
    · exact ⟨fun _ => rfl, Chip.keeps_refl _ _, Chip.keepsEntries_refl _ _⟩
    · have hid : s.idx = sb := Chip.sbOf_idx hs
      have hm : ∀ i, (c.setSb { s with marked := some c.now }).membersOf i = c.membersOf i := Chip.membersOf_setSb (s := { s with marked := some c.now }) (q := s)
        (by rw [show ({ s with marked := some c.now } : Sb).idx = sb from hid]; exact hs) rfl
      have hk : c.keeps (c.setSb { s with marked := some c.now }) [.sb] := Chip.keeps_setSb _ _
      have hv : c.keepsEntries (c.setSb { s with marked := some c.now }) [] := Chip.keepsEntries_vals rfl _
      generalize c.setSb { s with marked := some c.now } = d at hm hk hv
      have hd : d.keeps ((d.count E.EARLY_MARKS 1).event 0x134 0 1 noUnit [sb, cause]) [.dict, .ev, .lg] :=
        (Chip.keeps_event_iff (by decide) (by decide) (by decide) _ _ _ _ _).2 ((Chip.keeps_countAt_iff (by decide) _ _ _).2 (Chip.keeps_refl _ _))
      exact ⟨fun i => (Chip.membersOf_congr (congrArg Sbs.sbs (hd .sb (by decide))) i).trans (hm i), Chip.keeps_mono (Chip.keeps_trans hk hd) (by decide),
        (Chip.keepsEntries_event_iff ..).2 ((Chip.keepsEntries_countAt_iff (by decide) _ _).2 (Chip.keepsEntries_mono hv (by simp)))⟩

/-- The members of a superblock with a replacement in its place. -/
def Sb.replacedAt (s : Sb) (r : Repl) : List Member :=
  match s.members[r.pos]? with
  | some m => s.members.set r.pos { m with lun := r.lun, block := r.block, hinted := false, reads := 0 }
  | none => s.members

/-- What a replacement costs, once its member is in place: its pages, and a page of the system for its record. -/
def Chip.replCharged (c : Chip) (s : Sb) (r : Repl) : Chip :=
  let c2 := (((c.setBlock { c.blockOf r.lun r.block with mode := 0 }).count E.RB_REPLACED 1).event 0x182 0 2 noUnit [s.idx, r.pos]).countSystem 1
  let rest := s.pages - r.prog
  (((c2.count E.NAND_PAGES_PROGRAMMED rest).countOct64 E.PROGRAM_SOURCES 3 rest).chargeRes (.die r.lun) 3
    (rest * cdiv c.tProg 500000)).chargeRes (.chan (chanOf r.lun)) 3 (rest * (4 * cdiv (c.cwPs (chanOf r.lun)) 125000))

/-- The entries of that cost. -/
def replEntries : List Nat := [E.NAND_PAGES_PROGRAMMED, E.PROGRAM_SOURCES]

theorem Chip.replCharged_frame (c : Chip) (s : Sb) (r : Repl) : c.keeps (c.replCharged s r) [.md, .um, .dict, .ev, .lg] ∧ c.counts (c.replCharged s r) E.RB_REPLACED 0 1 := by
  unfold Chip.replCharged
  extract_lets _ c2 rest
  have hb : c.keeps (c.setBlock { c.blockOf r.lun r.block with mode := 0 }) [.md] := c.keeps_setBlock _
  have hbv : c.keepsEntries (c.setBlock { c.blockOf r.lun r.block with mode := 0 }) [] := Chip.keepsEntries_of_keeps hb (by decide) []
  generalize hd : (c.setBlock { c.blockOf r.lun r.block with mode := 0 }).count E.RB_REPLACED 1 = d at *
  have hdk : c.keeps d [.md, .dict] := hd ▸ (Chip.keeps_countAt_iff (by decide) _ _ _).2 (Chip.keeps_mono hb (by decide))
  have hdc : c.counts d E.RB_REPLACED 0 1 := by
    have h := Chip.getAt_countAt_same (c.setBlock { c.blockOf r.lun r.block with mode := 0 }) E.RB_REPLACED 0 1 (by decide)
    rw [show (c.setBlock { c.blockOf r.lun r.block with mode := 0 }).getAt E.RB_REPLACED 0 = c.getAt E.RB_REPLACED 0 from hbv _ 0 (by decide) (by decide)] at h
    exact hd ▸ h
  have hc2 : c2 = (d.event 0x182 0 2 noUnit [s.idx, r.pos]).countSystem 1 := by rw [← hd]
  have hk2 : d.keeps c2 [.um, .dict, .ev, .lg] := hc2 ▸ (Chip.keeps_countSystem_iff (by decide) _).2
    ((Chip.keeps_event_iff (by decide) (by decide) (by decide) _ _ _ _ _).2 (Chip.keeps_refl _ _))
  have hv2 : d.keepsEntries c2 replEntries := hc2 ▸ (Chip.keepsEntries_countSystem_iff (by decide) (by decide) _).2 ((Chip.keepsEntries_event_iff ..).2 (Chip.keepsEntries_refl _ _))
  have hk3 : c2.keeps ((((c2.count E.NAND_PAGES_PROGRAMMED rest).countOct64 E.PROGRAM_SOURCES 3 rest).chargeRes (.die r.lun) 3
      (rest * cdiv c.tProg 500000)).chargeRes (.chan (chanOf r.lun)) 3 (rest * (4 * cdiv (c.cwPs (chanOf r.lun)) 125000))) [.um, .dict] :=
    (Chip.keeps_chargeRes_iff (by decide) _ _ _).2 ((Chip.keeps_chargeRes_iff (by decide) _ _ _).2 ((Chip.keeps_countOct64_iff (by decide) _ _ _).2
      ((Chip.keeps_countAt_iff (by decide) _ _ _).2 (Chip.keeps_refl _ _))))
  have hv3 : c2.keepsEntries ((((c2.count E.NAND_PAGES_PROGRAMMED rest).countOct64 E.PROGRAM_SOURCES 3 rest).chargeRes (.die r.lun) 3
      (rest * cdiv c.tProg 500000)).chargeRes (.chan (chanOf r.lun)) 3 (rest * (4 * cdiv (c.cwPs (chanOf r.lun)) 125000))) replEntries := by
    have h0 : c2.keepsEntries ((c2.count E.NAND_PAGES_PROGRAMMED rest).countOct64 E.PROGRAM_SOURCES 3 rest) replEntries :=
      (Chip.keepsEntries_countOct64_iff (by decide) _ _).2 ((Chip.keepsEntries_countAt_iff (by decide) _ _).2 (Chip.keepsEntries_refl _ _))
    generalize (c2.count E.NAND_PAGES_PROGRAMMED rest).countOct64 E.PROGRAM_SOURCES 3 rest = e at h0
    have h1 : ∀ n m, e.keepsEntries ((e.chargeRes (.die r.lun) 3 n).chargeRes (.chan (chanOf r.lun)) 3 m) [] := fun n m =>
      Chip.keepsEntries_of_keeps ((Chip.keeps_chargeRes_iff (l := [.um]) (by decide) _ _ _).2 (e.keeps_chargeRes _ _ _)) (by decide) []
    exact Chip.keepsEntries_mono (Chip.keepsEntries_trans h0 (h1 _ _)) (by simp)
  refine ⟨Chip.keeps_mono (Chip.keeps_trans hdk (Chip.keeps_trans hk2 hk3)) (by decide), ?_⟩
  unfold Chip.counts
  rw [hv3 _ 0 (by decide) (by decide), hv2 _ 0 (by decide) (by decide)]
  exact hdc

/-- The chip with the replacement in the place of its member, before what it costs. -/
def Chip.swapped (c : Chip) (s : Sb) (r : Repl) : Chip :=
  ({ c with sb := { c.sb with repls := c.sb.repls.erase r } }).setSb { s with members := s.replacedAt r }

/-- A replacement takes its member's place, is counted, and leaves all but superblocks and media. -/
theorem Chip.replaced_frame {c : Chip} {s : Sb} {r : Repl} {sb : Nat} (hs : c.sbOf sb = some s) : (c.replaced s r).membersOf sb = some (s.replacedAt r)
    ∧ c.counts (c.replaced s r) E.RB_REPLACED 0 1 ∧ c.keeps (c.replaced s r) [.sb, .md, .um, .dict, .ev, .lg] := by
  have hid : s.idx = sb := Chip.sbOf_idx hs
  have he : c.replaced s r = (let c4 := if r.filler then ((c.swapped s r).replCharged s r).markSb s.idx 5 else (c.swapped s r).replCharged s r
    match c4.sbOf s.idx with
    | none => c4
    | some s1 => (c4.setSb { s1 with exposed := decide (c4.missing s1 ≠ []), inWork := decide (c4.missing s1 ≠ []) && s1.inWork }).rebuildEnds) := rfl
  have m1 : (c.swapped s r).membersOf sb = some (s.replacedAt r) := by
    subst hid
    exact congrArg (Option.map Sb.members) (Chip.sbOf_setSb_same (c := { c with sb := { c.sb with repls := c.sb.repls.erase r } })
      (s := { s with members := s.replacedAt r }) (q := s) hs)
  have k1 : c.keeps (c.swapped s r) [.sb] := (Chip.keeps_setSb_iff (by decide) _).2 ((Chip.keeps_with_sb (by decide) _).2 (Chip.keeps_refl _ _))
  have v1 : c.keepsEntries (c.swapped s r) [] := Chip.keepsEntries_of_keeps k1 (by decide) []
  obtain ⟨k2, n2⟩ := (c.swapped s r).replCharged_frame s r
  have m2 : ((c.swapped s r).replCharged s r).membersOf sb = some (s.replacedAt r) := (Chip.membersOf_congr (congrArg Sbs.sbs (k2 .sb (by decide))) sb).trans m1
  have n2' : c.counts ((c.swapped s r).replCharged s r) E.RB_REPLACED 0 1 := by
    unfold Chip.counts at *
    rw [← v1 E.RB_REPLACED 0 (by decide) (by decide)]
    exact n2
  rw [he]
  generalize (c.swapped s r).replCharged s r = d at k2 m2 n2'
  obtain ⟨m3, k3, v3⟩ := d.markSb_frame s.idx 5
  have h4 : (if r.filler then d.markSb s.idx 5 else d).membersOf sb = some (s.replacedAt r) ∧ c.keeps (if r.filler then d.markSb s.idx 5 else d) [.sb, .md, .um, .dict, .ev, .lg]
      ∧ c.counts (if r.filler then d.markSb s.idx 5 else d) E.RB_REPLACED 0 1 := by
    split
    · refine ⟨(m3 sb).trans m2, Chip.keeps_mono (Chip.keeps_trans k1 (Chip.keeps_trans k2 k3)) (by decide), ?_⟩
      unfold Chip.counts at *
      rw [v3 _ 0 (by decide) (by decide)]
      exact n2'
    · exact ⟨m2, Chip.keeps_mono (Chip.keeps_trans k1 k2) (by decide), n2'⟩
  dsimp only
  generalize (if r.filler then d.markSb s.idx 5 else d) = c4 at h4
  obtain ⟨m4, k4, n4⟩ := h4
  split
  · exact ⟨m4, n4, k4⟩
  next s1 hs1 =>
    have hid1 : s1.idx = s.idx := Chip.sbOf_idx hs1
    generalize hs2 : ({ s1 with exposed := decide (c4.missing s1 ≠ []), inWork := decide (c4.missing s1 ≠ []) && s1.inWork } : Sb) = s2
    have hid2 : s2.idx = s1.idx := by rw [← hs2]
    have hm2 : s2.members = s1.members := by rw [← hs2]
    have m5 : (c4.setSb s2).membersOf sb = some (s.replacedAt r) := (Chip.membersOf_setSb (q := s1) (by rw [hid2, hid1]; exact hs1) hm2 sb).trans m4
    obtain ⟨r1, -, r3, r4⟩ := (c4.setSb s2).rebuildEnds_frame
    refine ⟨(Chip.membersOf_congr r1 sb).trans m5, ?_, Chip.keeps_mono (Chip.keeps_trans ((Chip.keeps_setSb_iff (by decide) _).2 k4) r3) (by decide)⟩
    unfold Chip.counts at *
    rw [r4 _ 0 (by decide) (by decide)]
    exact n4

end Sys2Proof.Machine
end

section
/-! Rows filled from the Crucible (R144, R244): of the superblocks their kinds, streams and dies stay, no unit moves, and no row or slot comes back. -/
namespace Sys2Proof.Machine

/-! ### Shapes of superblocks -/

/-- What a superblock is: its stream, its kind, and the dies of its members. -/
def Sb.shape (s : Sb) : Nat × SbKind × List Nat := (s.stream, s.kind, s.members.map Member.lun)

/-- Superblocks of the same indices and shapes. -/
def sameShapes (l m : List Sb) : Prop :=
  (∀ y ∈ m, ∃ x ∈ l, x.idx = y.idx ∧ x.shape = y.shape) ∧ ∀ x ∈ l, ∃ y ∈ m, y.idx = x.idx

theorem sameShapes_refl (l : List Sb) : sameShapes l l := ⟨fun y hy => ⟨y, hy, rfl, rfl⟩, fun x hx => ⟨x, hx, rfl⟩⟩

theorem sameShapes_trans {l m n : List Sb} (h : sameShapes l m) (h' : sameShapes m n) : sameShapes l n := by
  refine ⟨fun y hy => ?_, fun x hx => ?_⟩
  · obtain ⟨x, hx, hi, hs⟩ := h'.1 y hy
    obtain ⟨w, hw, hj, ht⟩ := h.1 x hx
    exact ⟨w, hw, hj.trans hi, ht.trans hs⟩
  · obtain ⟨y, hy, hi⟩ := h.2 x hx
    obtain ⟨z, hz, hj⟩ := h'.2 y hy
    exact ⟨z, hz, hj.trans hi⟩

/-- A superblock of the list set to one of its shape. -/
theorem sameShapes_setSb {c : Chip} {s q : Sb} (hq : q ∈ c.sb.sbs) (hi : s.idx = q.idx) (hs : s.shape = q.shape) : sameShapes c.sb.sbs (c.setSb s).sb.sbs := by
  refine ⟨fun y hy => ?_, fun x hx => ?_⟩
  · obtain ⟨x, hx, rfl⟩ := List.mem_map.1 hy
    split
    · exact ⟨q, hq, hi.symm, hs.symm⟩
    · exact ⟨x, hx, rfl, rfl⟩
  · refine ⟨_, List.mem_map.2 ⟨x, hx, rfl⟩, ?_⟩
    split
    next h => exact (of_decide_eq_true h).symm
    next => rfl

theorem Chip.sbOf_mem {c : Chip} {i : Nat} {s : Sb} (h : c.sbOf i = some s) : s ∈ c.sb.sbs := List.mem_of_find?_eq_some h

/-! ### What filling keeps -/

/-- From a to b rows may have been filled: shapes, the map, and what is not there, stay. -/
structure Chip.fills (a b : Chip) : Prop where
  shapes : sameShapes a.sb.sbs b.sb.sbs
  map : b.ft.map = a.ft.map
  slots : ∀ id, a.slotOf id = none → b.slotOf id = none
  next : a.sb.nextRow ≤ b.sb.nextRow
  rows : ∀ i, i < a.sb.nextRow → a.rowOf i = none → b.rowOf i = none

section
variable {a b c : Chip}

theorem Chip.fills_of (hs : sameShapes a.sb.sbs b.sb.sbs) (hf : b.ft = a.ft) (hn : b.sb.nextRow = a.sb.nextRow) (hr : ∀ i, a.rowOf i = none → b.rowOf i = none) : a.fills b :=
  ⟨hs, by rw [hf], fun id h => by unfold Chip.slotOf at *; rw [hf]; exact h, hn.ge, fun i _ h => hr i h⟩

theorem Chip.fills_of_sb (hs : b.sb = a.sb) (hf : b.ft = a.ft) : a.fills b :=
  Chip.fills_of (by rw [hs]; exact sameShapes_refl _) hf (by rw [hs]) fun i h => by unfold Chip.rowOf at *; rw [hs]; exact h

theorem Chip.fills_of_keeps {l : List Area} (h : a.keeps b l) (hs : .sb ∉ l) (hf : .ft ∉ l) : a.fills b := Chip.fills_of_sb (h .sb hs) (h .ft hf)

theorem Chip.fills_refl (a : Chip) : a.fills a := Chip.fills_of_sb rfl rfl

theorem Chip.fills_trans (h : a.fills b) (h' : b.fills c) : a.fills c :=
  ⟨sameShapes_trans h.shapes h'.shapes, h'.map.trans h.map, fun id hi => h'.slots id (h.slots id hi), h.next.trans h'.next,
    fun i hi hr => h'.rows i (hi.trans_le h.next) (h.rows i hi hr)⟩

theorem Chip.fills_each {α : Type} {f : Chip → α → Chip} (hf : ∀ (c : Chip) x, c.fills (f c x)) (l : List α) (c : Chip) : c.fills (c.each l f) :=
  Chip.each_frame Chip.fills Chip.fills_refl (fun _ _ _ => Chip.fills_trans) f hf l c

theorem Chip.fills_of_folds (h : a.foldsOnly b) (hf : b.ft = a.ft) : a.fills b := by
  refine Chip.fills_of (by rw [h.sbs]; exact sameShapes_refl _) hf ?_ fun i hi => ?_
  · obtain ⟨l, hl, -⟩ := h
    rw [hl]
  · have := h.rowOf i
    rw [hi] at this
    exact Option.map_eq_none_iff.1 this

end

theorem Chip.fills_setSb {c : Chip} {s q : Sb} (hq : q ∈ c.sb.sbs) (hi : s.idx = q.idx) (hs : s.shape = q.shape) : c.fills (c.setSb s) :=
  Chip.fills_of (sameShapes_setSb hq hi hs) rfl rfl fun _ h => h

theorem rowOf_setRow_none {c : Chip} {r : Row} {i : Nat} (h : c.rowOf i = none) : (c.setRow r).rowOf i = none := by
  unfold Chip.rowOf at *
  refine List.find?_eq_none.2 fun q hq => ?_
  obtain ⟨p, hp, rfl⟩ := List.mem_map.1 hq
  have hn := List.find?_eq_none.1 h p hp
  split
  next he => rwa [← (of_decide_eq_true he : p.id = r.id)]
  next => exact hn

theorem Chip.fills_setRow (c : Chip) (r : Row) : c.fills (c.setRow r) := Chip.fills_of (sameShapes_refl _) rfl rfl fun _ h => rowOf_setRow_none h

theorem Chip.fills_programPage (c : Chip) (s : Sb) (r : Row) (m cls : Nat) (ws : List Nat) : c.fills (c.programPage s r m cls ws) :=
  Chip.fills_of_folds (c.foldsOnly_programPage s r m cls ws) (c.keeps_programPage s r m cls ws .ft (by decide))

theorem Chip.fills_queueOp (c : Chip) (lun : Nat) (o : Op) : c.fills (c.queueOp lun o) :=
  Chip.fills_of_folds (c.foldsOnly_queueOp lun o) (c.keeps_queueOp lun o .ft (by decide))

theorem Chip.fills_rowProgress (c : Chip) (id : Nat) : c.fills (c.rowProgress id) := by
  unfold Chip.rowProgress
  split
  · exact Chip.fills_refl _
  · split
    · exact Chip.fills_refl _
    · extract_lets ready c1 ps
      split
      · exact Chip.fills_trans (c.fills_setRow _) (Chip.fills_each (fun d p => d.fills_programPage _ _ _ _ _) _ _)
      · exact Chip.fills_refl _

theorem Chip.fills_padRow (c : Chip) (id : Nat) : c.fills (c.padRow id) := by
  rcases c.padRow_cases id with h | ⟨r, s, -, -, h⟩
  · rw [h]
    exact Chip.fills_refl _
  · rw [h]
    unfold Chip.padding
    exact Chip.fills_trans (Chip.fills_trans (Chip.fills_trans (c.fills_setRow _) (Chip.fills_of_keeps (Chip.keeps_countAt _ _ _ _) (by decide) (by decide)))
      (Chip.fills_each (fun d m => d.fills_programPage _ _ _ _ _) _ _)) (Chip.fills_rowProgress _ _)

theorem Chip.fills_openRow {c d : Chip} {s : Sb} (hs : s ∈ c.sb.sbs) (h : c.openRow s = some d) : c.fills d := by
  unfold Chip.openRow at h
  extract_lets n r l next _ at h
  split at h
  · obtain rfl := Option.some.inj h
    generalize he : ({ c with sb := { c.sb with rows := l, nextRow := next } } : Chip) = e
    have hf : c.fills e := by
      subst he
      refine ⟨sameShapes_refl _, rfl, fun _ h => h, Nat.le_succ _, fun i hi hr => ?_⟩
      unfold Chip.rowOf at *
      show (c.sb.rows ++ [r]).find? _ = none
      rw [List.find?_append, hr, Option.none_or]
      exact List.find?_eq_none.2 fun q hq => by
        rw [List.mem_singleton.1 hq]
        simpa using hi.ne'
    exact Chip.fills_trans hf (Chip.fills_setSb (q := s) (by rw [← he]; exact hs) rfl rfl)
  · cases h

theorem Chip.fills_rowReady {c d : Chip} {p : Sb → Bool} {r : Row} {s : Sb} (h : c.rowReady p = some (r, s, d)) : c.fills d := by
  unfold Chip.rowReady at h
  split at h
  · injection h with h
    obtain rfl := congrArg (fun x : Row × Sb × Chip => x.2.2) h
    exact Chip.fills_refl _
  · split at h
    · cases h
    next c1 hc =>
      obtain ⟨x, -, hx⟩ := Option.map_eq_some_iff.1 h
      obtain rfl : c1 = d := congrArg (fun x : Row × Sb × Chip => x.2.2) hx
      obtain ⟨s', hmem, hs⟩ := List.exists_of_findSome?_eq_some hc
      split at hs
      · exact Chip.fills_openRow hmem hs
      · cases hs

theorem slotOf_setSlot_none {c : Chip} {s : Slot} {i : Nat} (h : c.slotOf i = none) : (c.setSlot s).slotOf i = none := by
  unfold Chip.slotOf at *
  refine List.find?_eq_none.2 fun q hq => ?_
  obtain ⟨p, hp, rfl⟩ := List.mem_map.1 hq
  have hn := List.find?_eq_none.1 h p hp
  split
  next he => rwa [← (of_decide_eq_true he : p.id = s.id)]
  next => exact hn

theorem Chip.fills_setSlot (c : Chip) (s : Slot) : c.fills (c.setSlot s) :=
  ⟨sameShapes_refl _, rfl, fun _ h => slotOf_setSlot_none h, le_refl _, fun _ _ h => h⟩

/-- The order of the Crucible is none of what filling keeps. -/
theorem Chip.fills_order (c : Chip) (l : List Nat) : c.fills { c with ft := { c.ft with order := l } } :=
  ⟨sameShapes_refl _, rfl, fun _ h => h, le_refl _, fun _ _ h => h⟩

theorem Chip.fills_fillOne {c d : Chip} (h : c.fillOne = some d) : c.fills d := by
  unfold Chip.fillOne at h
  split at h
  · cases h
  · split at h
    · obtain rfl := Option.some.inj h
      exact c.fills_order _
    · extract_lets p2 at h
      split at h
      · cases h
      next hr =>
        split at h
        · cases h
        · obtain rfl := Option.some.inj h
          exact Chip.fills_trans (Chip.fills_trans (Chip.fills_rowReady hr) (Chip.fills_order _ _))
            (Chip.fills_trans (Chip.fills_setSlot _ _) (Chip.fills_trans (Chip.fills_setRow _ _) (Chip.fills_programPage _ _ _ _ _ _)))

theorem Chip.fills_fillN (n : Nat) (c : Chip) : c.fills (Chip.fillN n c) := by
  induction n generalizing c with
  | zero => exact Chip.fills_refl _
  | succ n ih =>
    unfold Chip.fillN
    split
    next h => exact Chip.fills_trans (Chip.fills_fillOne h) (ih _)
    next =>
      split
      · exact Chip.fills_of_keeps (Chip.keeps_eventFirst _ _ _ _ _ _) (by decide) (by decide)
      · exact Chip.fills_refl _

/-- Rows filled from the Crucible, and those that close with filler. -/
theorem Chip.fills_pour (c : Chip) : c.fills c.pour := by
  unfold Chip.pour
  extract_lets c1
  exact Chip.fills_trans (Chip.fills_fillN _ _) (Chip.fills_each (fun d i => d.fills_padRow i) _ _)

theorem Chip.fills_closeSb (c : Chip) (idx : Nat) : c.fills (c.closeSb idx) := by
  unfold Chip.closeSb
  split
  · exact Chip.fills_refl _
  next s hs =>
    split
    · exact Chip.fills_refl _
    · extract_lets ms c1
      have hshape : ({ s with state := .closed, closeT := c.now, stress := 0, members := ms, patrolT := c.now } : Sb).shape = s.shape := by
        unfold Sb.shape
        simp only [ms, List.map_map]
        rfl
      have h1 : c.fills c1 := Chip.fills_setSb (Chip.sbOf_mem hs) rfl hshape
      split
      · exact Chip.fills_trans h1 (Chip.fills_of (sameShapes_refl _) rfl rfl fun _ h => h)
      · exact h1

end Sys2Proof.Machine
end

section
/-! The places of R149, R150, R238 and R252 that change in one piece: a safe copy, a source released, a row padded, a patch, a replacement. -/
namespace Sys2Proof.Machine

/-- What is asserted of places and of the Crucible at the end of a step is what its effect left. -/
theorem Chip.sb_end (b c : Chip) : (b.seal (b.notices c)).sb = c.sb := by simp

theorem Chip.md_end (b c : Chip) : (b.seal (b.notices c)).md = c.md := by simp

theorem Chip.mapOf_end (b c : Chip) (u : Nat) : (b.seal (b.notices c)).mapOf u = c.mapOf u := by
  unfold Chip.mapOf
  simp

theorem Chip.sbOf_end (b c : Chip) (i : Nat) : (b.seal (b.notices c)).sbOf i = c.sbOf i := by
  unfold Chip.sbOf
  rw [Chip.sb_end]

theorem Chip.rowOf_end (b c : Chip) (i : Nat) : (b.seal (b.notices c)).rowOf i = c.rowOf i := by
  unfold Chip.rowOf
  rw [Chip.sb_end]

theorem Chip.slotOf_end (b c : Chip) (i : Nat) : (b.seal (b.notices c)).slotOf i = c.slotOf i := by
  unfold Chip.slotOf
  simp

/-- A source with nothing left is released. -/
theorem Chip.sourceRelease_eq {c : Chip} {sb : Nat} {q : Sb} (hq : c.sbOf sb = some q) (hrel : c.releasable q = true) :
    ∃ d : Chip, c.sourceRelease sb = (d.releaseSb sb).rebuildEnds ∧ c.keeps d [.dict] ∧ c.keepsEntries d [E.REFRESHED] := by
  unfold Chip.sourceRelease
  rw [hq]
  dsimp only
  rw [if_neg (by rw [hrel]; simp)]
  refine ⟨_, rfl, Chip.keeps_ite (Chip.keeps_countAt _ _ _ _) (Chip.keeps_refl _ _), ?_⟩
  split
  · exact Chip.keepsEntries_countAt _ _ _ _
  · exact Chip.keepsEntries_refl _ _

/-- Of a superblock whose blocks are not due for retirement: it waits for erase, its blocks are gathered, and no more of the media changes. -/
theorem Chip.sourceRelease_frame {c : Chip} {sb : Nat} {q : Sb} (hq : c.sbOf sb = some q) (hrel : c.releasable q = true)
    (hm : ∀ m ∈ q.members, (c.blockOf m.lun m.block).marks < c.get E.MARK_RETIRE) :
    ((c.sourceRelease sb).sbOf sb).map Sb.state = some .awaitErase
    ∧ (∀ m ∈ q.members, c.reported (mkUnit kLUN m.lun) ≠ 4 →
        ∃ i ∈ (c.sourceRelease sb).md.intents, i.lun = m.lun ∧ i.block = m.block ∧ i.kind = 0 ∧ i.sb = sb ∧ i.written = false)
    ∧ (∃ l, (c.sourceRelease sb).md = { c.md with intents := l }) ∧ (c.sourceRelease sb).sb.eligible = c.sb.eligible
    ∧ c.keeps (c.sourceRelease sb) [.sb, .md, .dict, .ev, .lg] ∧ c.keepsEntries (c.sourceRelease sb) [E.REFRESHED, E.EI_NEXT_SEQ, E.RB_LAST_TIME] := by
  obtain ⟨d, he, hd, hdv⟩ := Chip.sourceRelease_eq hq hrel
  have hblock : ∀ lun block, d.blockOf lun block = c.blockOf lun block := fun lun block => by unfold Chip.blockOf Chip.dieOf; rw [hd .md (by decide)]
  have hget : d.get E.MARK_RETIRE = c.get E.MARK_RETIRE := hdv _ 0 (by decide) (by decide)
  have hrep : ∀ u, d.reported u = c.reported u := fun u => Chip.reported_congr (hd .un (by decide)) (hd .fuse (by decide))
    (by unfold Chip.partnerStates; rw [hd .boot (by decide), hd .pr (by decide)]) u
  obtain ⟨hst, hint, ⟨l, hmd⟩, hel, hk, hv⟩ := Chip.releaseSb_frame (c := d) (idx := sb) (s := q) (by unfold Chip.sbOf; rw [hd .sb (by decide)]; exact hq)
    (fun m hmem => by rw [hblock, hget]; exact hm m hmem)
  obtain ⟨hsbs, hel', hk', hv'⟩ := (d.releaseSb sb).rebuildEnds_frame
  have hmd' : (c.sourceRelease sb).md = (d.releaseSb sb).md := by rw [he]; exact hk' .md (by decide)
  refine ⟨?_, fun m hmem hr => ?_, ⟨l, ?_⟩, ?_, ?_, ?_⟩
  · rw [he]
    unfold Chip.sbOf at *
    rw [hsbs]
    exact hst
  · rw [hmd']
    exact hint m hmem (by rw [hrep]; exact hr)
  · rw [hmd', hmd, hd .md (by decide)]
  · rw [he, hel', hel, hd .sb (by decide)]
  · rw [he]
    exact Chip.keeps_mono (Chip.keeps_trans (Chip.keeps_trans hd hk) hk') (by decide)
  · rw [he]
    exact Chip.keepsEntries_mono (Chip.keepsEntries_trans (Chip.keepsEntries_trans hdv hv) hv') (by simp)

section
variable {s : State} {t sb : Nat}

/-- A copy whose page is safe takes over its unit (R150). -/
theorem safeCopy_switches {q : Sb} {x : Held} {slot : Nat} (hrun : s.chip.isReady = true) (hq : s.chip.sbOf sb = some q) (hr : s.chip.sb.repls = [])
    (hp : s.chip.pageSafe q (slotPage slot) = true) (hf : (s.chip.sb.held.filter fun y => decide (y.dst = sb * 2 ^ 20 + slot)) = [x])
    (hl : s.chip.sliceLoaded x.unit = true) (hm : s.chip.mapOf x.unit = x.src) (hh : s.chip.placeHeld x.unit = false) :
    Completes (.destinationPageSafe t sb slot) s fun c => c.mapOf x.unit = x.dst ∧ x ∉ c.sb.held ∧ s.chip.keeps c ([.ft, .sb] ++ notePart) := by
  have he : exec (.destinationPageSafe t sb slot) s = run s t fun c => c.when c.isReady fun c => c.destSafe sb slot := rfl
  obtain ⟨hmap, hheld, hk⟩ := Chip.switchAt_one (c := s.chip.atTime t) hf hm
  refine Completes.of_when he hrun ?_
  rw [Chip.destSafe_switches (c := s.chip.atTime t) hq hr hp hf hl hh]
  exact ⟨(Chip.mapOf_end _ _ _).trans hmap, by rw [Chip.sb_end]; exact hheld, Chip.keeps_ended t (Chip.keeps_mono hk (by decide)) (by decide) (by decide)⟩

/-- A source with nothing left waits for erase (R149). -/
theorem emptySource_waits {q : Sb} (hrun : s.chip.isReady = true) (hc : s.chip.calm) (hq : s.chip.sbOf sb = some q) (hrel : s.chip.releasable q = true)
    (hm : ∀ m ∈ q.members, (s.chip.blockOf m.lun m.block).marks < s.chip.get E.MARK_RETIRE) :
    Completes (.sourceRelease t sb) s fun c => (c.sbOf sb).map Sb.state = some .awaitErase
      ∧ (∀ m ∈ q.members, s.chip.reported (mkUnit kLUN m.lun) ≠ 4 → ∃ i ∈ c.md.intents, i.lun = m.lun ∧ i.block = m.block ∧ i.kind = 0 ∧ i.sb = sb ∧ i.written = false)
      ∧ s.chip.keeps c ([.sb, .md] ++ notePart) := by
  have he : exec (.sourceRelease t sb) s = runUnits s t fun c => c.when c.isReady fun c => c.sourceRelease sb := rfl
  obtain ⟨hst, hint, ⟨l, hmd⟩, hel, hk, hv⟩ := Chip.sourceRelease_frame (c := s.chip.atTime t) hq hrel hm
  have hown : ∀ u, ((s.chip.atTime t).sourceRelease sb).own u = (s.chip.atTime t).own u := Chip.own_congr (hk .un (by decide)) (hk .fuse (by decide))
  refine Completes.of_quietMedia he (Chip.when_true hrun) ⟨hown, Chip.unitsGrow_of_un (hk .un (by decide)), by rw [hmd], by rw [hmd], hel⟩ hk hv (by decide) (by decide) hc ?_
  exact ⟨by rw [Chip.sbOf_end]; exact hst, by
    rw [Chip.md_end]
    exact fun m hmem hr => hint m hmem ((Chip.reported_congr (b := s.chip) (c := s.chip.atTime t) rfl rfl rfl _).symm ▸ hr), Chip.keeps_ended t (Chip.keeps_mono hk (by decide)) (by decide) (by decide)⟩

/-- A row past its time is closed with filler (R144). -/
theorem lateRow_closes {row : Nat} {r : Row} {q : Sb} (hrun : s.chip.isReady = true) (hr : s.chip.rowOf row = some r) (hq : s.chip.sbOf r.sb = some q)
    (hcl : r.closing = false) (he : ∃ e ∈ r.entries, e.2 ≠ 0) (ht : r.since + s.chip.get E.CRU_CLOSE_TIME * cycPerMs ≤ (s.chip.atTime t).now) :
    Completes (.cruCloseTime t row) s fun c => (c.rowOf row).map (fun y => (y.closing, y.entries)) = some (true, r.entries)
      ∧ s.chip.keeps c ([.sb, .md] ++ notePart) ∧ s.chip.keepsEntries c [E.CRU_PAD_UNITS] := by
  have hx : exec (.cruCloseTime t row) s = run s t fun c => match c.rowOf row with
    | none => c
    | some r => c.when (c.isReady && !r.closing && (r.entries.any fun e => decide (e.2 ≠ 0))
        && decide (r.since + c.get E.CRU_CLOSE_TIME * cycPerMs ≤ c.now)) fun c => c.padRow row := rfl
  have hany : (r.entries.any fun e => decide (e.2 ≠ 0)) = true := by simpa using he
  refine Completes.of_run hx ?_
  rw [(show (s.chip.atTime t).rowOf row = some r from hr)]
  dsimp only
  rw [Chip.when_true (by rw [(show (s.chip.atTime t).isReady = true from hrun), hcl, hany]; simpa using ht)]
  obtain ⟨-, -, hv⟩ := (s.chip.atTime t).padRow_frame row
  exact ⟨by rw [Chip.rowOf_end]; exact Chip.padRow_closes hr hq, Chip.keeps_ended t (Chip.keeps_mono ((s.chip.atTime t).keeps_padRow row) (by decide)) (by decide) (by decide),
    Chip.keepsEntries_end t hv⟩

/-- A patch entry that takes effect (R252). -/
theorem patch_takes {row : Nat} {q : Sb} {e : Patch} (hrun : s.chip.isReady = true) (hq : s.chip.sbOf sb = some q) (hp : (q.pend.find? fun p => decide (p.row = row)) = some e) :
    Completes (.patchEntryEffect t sb row) s fun c =>
      c.sbOf sb = some { q with pend := q.pend.erase e, patches := q.patches ++ [e.over (q.patchOf row)],
                                record := (q.patches ++ [e.over (q.patchOf row)]).map Patch.octets }
        ∧ s.chip.keeps c (.sb :: notePart) ∧ s.chip.keepsEntries c [E.NAND_PAGES_PROGRAMMED, E.PROGRAM_SOURCES] := by
  have he : exec (.patchEntryEffect t sb row) s = run s t fun c => c.when c.isReady fun c => c.patchTakes sb row := rfl
  refine Completes.of_when he hrun ?_
  generalize hq' : ({ q with pend := q.pend.erase e, patches := q.patches ++ [e.over (q.patchOf row)],
                             record := (q.patches ++ [e.over (q.patchOf row)]).map Patch.octets } : Sb) = q'
  have hid : q'.idx = sb := (congrArg Sb.idx hq').symm.trans (show q.idx = sb from Chip.sbOf_idx hq)
  have hf : (s.chip.atTime t).patchTakes sb row = ((s.chip.atTime t).setSb q').countSystem 1 := by
    unfold Chip.patchTakes
    rw [(show (s.chip.atTime t).sbOf sb = some q from hq)]
    dsimp only
    rw [hp, ← hq']
  rw [hf]
  have hs : ((s.chip.atTime t).setSb q').sbOf sb = some q' := by
    rw [← hid]
    exact Chip.sbOf_setSb_same (q := q) (by rw [hid]; exact hq)
  have hk : (s.chip.atTime t).keeps (((s.chip.atTime t).setSb q').countSystem 1) [.sb, .dict] := by
    rw [Chip.keeps_countSystem_iff (by decide)]
    exact Chip.keeps_mono (Chip.keeps_setSb _ _) (by decide)
  refine ⟨?_, Chip.keeps_ended t (Chip.keeps_mono hk (by decide)) (by decide) (by decide), Chip.keepsEntries_end t ?_⟩
  · rw [Chip.sbOf_end]
    exact hs
  · rw [Chip.keepsEntries_countSystem_iff (by decide) (by decide)]
    exact Chip.keepsEntries_of_keeps (Chip.keeps_setSb _ _) (by decide) _

/-- A replacement with all its rows takes its member's place (R238). -/
theorem fullReplacement_takes {member : Nat} {q : Sb} {r : Repl} {m : Member} (haw : s.chip.awake = true) (hq : s.chip.sbOf sb = some q)
    (hr : (s.chip.sb.repls.find? fun x => decide (x.sb = sb ∧ x.pos = member)) = some r) (hm : q.members[member]? = some m)
    (hu : s.chip.usable (mkUnit kLUN r.lun) = true) (hrows : q.rows ≤ r.fin) (hb : s.chip.replBusy r = false)
    (hmode : (s.chip.blockOf r.lun r.block).mode = (if q.qlc then 2 else 1)) :
    Completes (.memberReplacementComplete t sb member) s fun c =>
      ((c.sbOf sb).bind fun y => y.members[member]?).map (fun y => (y.lun, y.block)) = some (r.lun, r.block) ∧ s.chip.counts c E.RB_REPLACED 0 1
        ∧ s.chip.keeps c ([.sb, .md] ++ notePart) := by
  have he : exec (.memberReplacementComplete t sb member) s = run s t fun c => match c.sbOf sb, c.sb.repls.find? fun r => decide (r.sb = sb ∧ r.pos = member) with
    | some q, some r => c.when (c.awake && c.usable (mkUnit kLUN r.lun) && decide (q.rows ≤ r.fin ∧ (0 < q.rows ∨ (c.blockOf r.lun r.block).mode = (if q.qlc then 2 else 1)))
        && !c.replBusy r) fun c => c.replaced q r
    | _, _ => c := rfl
  have hu' : (s.chip.atTime t).usable (mkUnit kLUN r.lun) = true := by
    unfold Chip.usable at *
    rwa [Chip.reported_congr (b := s.chip) (c := s.chip.atTime t) rfl rfl rfl]
  refine Completes.of_run he ?_
  rw [(show (s.chip.atTime t).sbOf sb = some q from hq), (show ((s.chip.atTime t).sb.repls.find? fun x => decide (x.sb = sb ∧ x.pos = member)) = some r from hr)]
  dsimp only
  rw [Chip.when_true (by
    rw [(show (s.chip.atTime t).awake = true from haw), hu', (show (s.chip.atTime t).replBusy r = false from hb),
      (show ((s.chip.atTime t).blockOf r.lun r.block).mode = (if q.qlc then 2 else 1) from hmode)]
    simpa using hrows)]
  obtain ⟨hmem, hcnt, hk⟩ := Chip.replaced_frame (c := s.chip.atTime t) (r := r) hq
  refine ⟨?_, Chip.counts_end t (by decide) hcnt, Chip.keeps_ended t (Chip.keeps_mono hk (by decide)) (by decide) (by decide)⟩
  have hpos : r.sb = sb ∧ r.pos = member := by simpa using List.find?_some hr
  have hlen : member < q.members.length := (List.getElem?_eq_some_iff.1 hm).1
  rw [Chip.sbOf_end]
  obtain ⟨y, hys, hy⟩ := Option.map_eq_some_iff.1 hmem
  rw [hys]
  show (y.members[member]?).map _ = _
  rw [hy]
  unfold Sb.replacedAt
  rw [hpos.2, hm]
  simp [hlen]
end

end Sys2Proof.Machine
end

section
/-! A row that closes (R144, R145): its slots' units take their places and the slots go. -/
namespace Sys2Proof.Machine

theorem find_drop {α : Type} (p q : α → Bool) (l : List α) (h : ∀ a, q a = true → p a = false) : (drop' p l).find? q = l.find? q := by
  unfold drop'
  rw [List.find?_filter]
  refine congrArg (l.find? ·) (funext fun a => ?_)
  by_cases ha : q a = true
  · simp [h a ha, ha]
  · simp [ha]

theorem Chip.slotOf_freeSlot (c : Chip) (id i : Nat) : (c.freeSlot id).slotOf i = if i = id then none else c.slotOf i := by
  split
  next h =>
    subst h
    exact List.find?_eq_none.2 fun sl hsl => by simpa using c.freeSlot_gone i sl hsl
  next h =>
    unfold Chip.freeSlot
    split
    · rfl
    · extract_lets _ c1 c2 _
      have h2 : c2.ft = c1.ft := by
        unfold c2 Chip.guestGone
        split_ifs <;> rfl
      have h1 : c1.slotOf i = c.slotOf i := find_drop _ _ _ fun a ha => by
        have : a.id = i := by simpa using ha
        simpa [this] using h
      unfold Chip.slotOf at *
      rw [← h2] at h1
      split <;> exact h1

/-- Rows, and the shapes of superblocks, are those of another chip. -/
def Chip.sameRows (a b : Chip) : Prop := b.sb.rows = a.sb.rows ∧ b.sb.nextRow = a.sb.nextRow

theorem Chip.sameRows_setSb (c : Chip) (s : Sb) : c.sameRows (c.setSb s) := ⟨rfl, rfl⟩

theorem Chip.sameRows_of_keeps {a b : Chip} {l : List Area} (h : a.keeps b l) (hl : .sb ∉ l) : a.sameRows b := by
  unfold Chip.sameRows
  rw [h .sb hl]
  exact ⟨rfl, rfl⟩

theorem Chip.sameRows_trans {a b c : Chip} (h : a.sameRows b) (h' : b.sameRows c) : a.sameRows c := ⟨h'.1.trans h.1, h'.2.trans h.2⟩

theorem Chip.sameRows_placeUnit (c : Chip) (entry unit : Nat) : c.sameRows (c.placeUnit entry unit) := by
  unfold Chip.placeUnit
  split
  · exact ⟨rfl, rfl⟩
  · exact c.sameRows_setSb _

theorem Chip.sameRows_noteSeq (c : Chip) (idx : Nat) (w : Option Nat) : c.sameRows (c.noteSeq idx w) := by
  unfold Chip.noteSeq
  split
  · split
    · exact c.sameRows_setSb _
    · exact ⟨rfl, rfl⟩
  · exact ⟨rfl, rfl⟩

/-- One slot of a row, the newest of its unit: the unit takes its place, and the slot goes. -/
theorem Chip.placeSlot_frame {c : Chip} {id : Nat} {sl : Slot} (s : Sb) (r : Row) (m : Nat) (hs : c.slotOf id = some sl) (hd : c.ft.dir.get 0 sl.unit = id) :
    (∀ u, (c.placeSlot s r m id).mapOf u = if u = sl.unit then mkEntry s.idx r.row m else c.mapOf u)
    ∧ (∀ u, u ≠ sl.unit → (c.placeSlot s r m id).ft.dir.get 0 u = c.ft.dir.get 0 u)
    ∧ (∀ i, (c.placeSlot s r m id).slotOf i = if i = id then none else c.slotOf i) ∧ c.sameRows (c.placeSlot s r m id) := by
  unfold Chip.placeSlot
  rw [hs]
  dsimp only
  rw [if_pos hd]
  generalize hb : ({ c with ft := { c.ft with dir := c.ft.dir.put 0 sl.unit 0 } } : Chip) = b
  generalize mkEntry s.idx r.row m = e
  obtain ⟨l, hft⟩ := b.mapChange_ft 0 sl.unit 1 e
  have hmap := Chip.mapOf_placed b sl.unit e
  have hrow : b.sameRows (b.mapChange 0 sl.unit 1 e) := Chip.sameRows_of_keeps (b.keeps_mapChange 0 sl.unit 1 e) (by decide)
  generalize b.mapChange 0 sl.unit 1 e = d at *
  have hplace := Chip.sameRows_trans (d.sameRows_placeUnit e sl.unit) ((d.placeUnit e sl.unit).sameRows_noteSeq s.idx sl.wseq)
  have hkeep : d.keeps ((d.placeUnit e sl.unit).noteSeq s.idx sl.wseq) [.sb] :=
    Chip.keeps_mono (Chip.keeps_trans (d.keeps_placeUnit e sl.unit) (Chip.keeps_noteSeq _ s.idx sl.wseq)) (by decide)
  generalize (d.placeUnit e sl.unit).noteSeq s.idx sl.wseq = f at *
  have hff : f.ft = d.ft := hkeep .ft (by decide)
  obtain ⟨hdir, hmp, -, -⟩ := f.freeSlot_frame id
  refine ⟨fun u => ?_, fun u hu => ?_, fun i => ?_, ?_⟩
  · unfold Chip.mapOf at *
    rw [hmp, hff, hmap, ← hb]
  · rw [hdir, hff, hft, ← hb]
    exact SMap.get_put_ne 0 0 hu 0 c.ft.dir
  · rw [Chip.slotOf_freeSlot]
    unfold Chip.slotOf
    rw [hff, hft, ← hb]
  · refine Chip.sameRows_trans (Chip.sameRows_trans (Chip.sameRows_trans ?_ hrow) hplace) (Chip.sameRows_of_keeps (f.keeps_freeSlot id) (by decide))
    rw [← hb]
    exact ⟨rfl, rfl⟩

/-- The slots of a row, each the newest of its unit. -/
theorem Chip.placeSlots_frame (s : Sb) (r : Row) (es : List (Nat × Nat)) (c : Chip) (hn : (es.map Prod.snd).Nodup)
    (hs : ∀ e ∈ es, ∃ sl, c.slotOf e.2 = some sl ∧ c.ft.dir.get 0 sl.unit = e.2) :
    (∀ e ∈ es, ∀ sl, c.slotOf e.2 = some sl → (c.each es fun c e => c.placeSlot s r e.1 e.2).mapOf sl.unit = mkEntry s.idx r.row e.1
      ∧ (c.each es fun c e => c.placeSlot s r e.1 e.2).slotOf e.2 = none)
    ∧ (∀ u, (∀ e ∈ es, ∀ sl, c.slotOf e.2 = some sl → sl.unit ≠ u) → (c.each es fun c e => c.placeSlot s r e.1 e.2).mapOf u = c.mapOf u)
    ∧ (∀ i, i ∉ es.map Prod.snd → (c.each es fun c e => c.placeSlot s r e.1 e.2).slotOf i = c.slotOf i)
    ∧ c.sameRows (c.each es fun c e => c.placeSlot s r e.1 e.2) := by
  induction es generalizing c with
  | nil => exact ⟨fun e he => absurd he List.not_mem_nil, fun _ _ => rfl, fun _ _ => rfl, rfl, rfl⟩
  | cons e es ih =>
    obtain ⟨hne, hn⟩ := List.nodup_cons.1 hn
    obtain ⟨sl, hsl, hdir⟩ := hs e List.mem_cons_self
    obtain ⟨hmap, hd, hslots, hrows⟩ := Chip.placeSlot_frame s r e.1 hsl hdir
    have heach : c.each (e :: es) (fun c e => c.placeSlot s r e.1 e.2) = (c.placeSlot s r e.1 e.2).each es fun c e => c.placeSlot s r e.1 e.2 := rfl
    rw [heach]
    generalize c.placeSlot s r e.1 e.2 = d at *
    have hid : ∀ x ∈ es, x.2 ≠ e.2 := fun x hx h => hne (List.mem_map.2 ⟨x, hx, h⟩)
    have hsame : ∀ x ∈ es, d.slotOf x.2 = c.slotOf x.2 := fun x hx => by rw [hslots, if_neg (hid x hx)]
    have hunit : ∀ x ∈ es, ∀ y, c.slotOf x.2 = some y → y.unit ≠ sl.unit := by
      intro x hx y hy hu
      obtain ⟨z, hz, hzd⟩ := hs x (List.mem_cons_of_mem _ hx)
      obtain rfl : y = z := Option.some.inj (hy.symm.trans hz)
      exact hid x hx (hzd.symm.trans (hu ▸ hdir))
    obtain ⟨h1, h2, h3, h4⟩ := ih d hn fun x hx => by
      obtain ⟨y, hy, hyd⟩ := hs x (List.mem_cons_of_mem _ hx)
      exact ⟨y, (hsame x hx).trans hy, (hd _ (hunit x hx y hy)).trans hyd⟩
    refine ⟨fun x hx y hy => ?_, fun u hu => ?_, fun i hi => ?_, Chip.sameRows_trans hrows h4⟩
    · rcases List.mem_cons.1 hx with rfl | hx
      · obtain rfl : sl = y := Option.some.inj (hsl.symm.trans hy)
        refine ⟨?_, ?_⟩
        · rw [h2 _ fun z hz w hw => hunit z hz w ((hsame z hz).symm.trans hw), hmap, if_pos rfl]
        · rw [h3 _ hne, hslots, if_pos rfl]
      · exact h1 x hx y ((hsame x hx).trans hy)
    · rw [h2 u fun x hx y hy => hu x (List.mem_cons_of_mem _ hx) y ((hsame x hx).symm.trans hy), hmap, if_neg fun h => hu e List.mem_cons_self sl hsl h.symm]
    · obtain ⟨hi1, hi2⟩ := not_or.1 (fun h => hi (List.mem_cons.2 h))
      rw [h3 i hi2, hslots, if_neg hi1]

/-! ### The row -/

/-- A row that has passed, and whose slots are written, the newest of their units, and have room for their records. -/
theorem Chip.closeRow_eq {c : Chip} {row : Nat} {r : Row} {q : Sb} (hr : c.rowOf row = some r) (hq : c.sbOf r.sb = some q) (hp : r.passedAll q = true)
    (hs : ∀ e ∈ r.entries, ∃ sl, c.slotOf e.2 = some sl ∧ sl.wseq.isSome = true ∧ c.ft.dir.get 0 sl.unit = e.2)
    (hf : c.placesFit ((r.entries.filterMap fun e => c.slotOf e.2).map Slot.unit) = true) :
    ((c.each r.entries fun c e => c.placeSlot q r e.1 e.2).dropRow row).fills (c.closeRow row) := by
  have hslots : ∀ sl ∈ r.entries.filterMap fun e => c.slotOf e.2, sl.wseq.isNone = false ∧ c.ft.dir.get 0 sl.unit = sl.id := by
    intro sl hsl
    obtain ⟨e, he, hx⟩ := List.mem_filterMap.1 hsl
    obtain ⟨y, hy, hw, hd⟩ := hs e he
    obtain rfl : y = sl := Option.some.inj (hy.symm.trans hx)
    have hid : y.id = e.2 := by simpa using List.find?_some hy
    exact ⟨by simpa using hw, hd.trans hid.symm⟩
  have hnamed : (r.entries.filterMap fun e => c.slotOf e.2).filter (fun sl => decide (c.ft.dir.get 0 sl.unit = sl.id)) = r.entries.filterMap fun e => c.slotOf e.2 :=
    List.filter_eq_self.2 fun sl hsl => decide_eq_true (hslots sl hsl).2
  have hnone : ((r.entries.filterMap fun e => c.slotOf e.2).any fun sl => sl.wseq.isNone) = false :=
    List.any_eq_false.2 fun sl hsl => by rw [(hslots sl hsl).1]; simp
  unfold Chip.closeRow
  rw [hr]
  dsimp only
  rw [hq]
  dsimp only
  rw [hnamed, hnone, hf, hp]
  simp only [Bool.not_true, Bool.and_false, Bool.or_false, Bool.false_eq_true, false_and, and_false, if_false, or_false]
  generalize (c.each r.entries fun c e => c.placeSlot q r e.1 e.2).dropRow row = d
  split
  · exact Chip.fills_trans (Chip.fills_closeSb _ _) (Chip.fills_pour _)
  · exact Chip.fills_pour _

/-- A row programmed with pass places its units and goes, and so do its slots (R145). -/
theorem passedRow_places {s : State} {t row : Nat} {r : Row} {q : Sb} (hrun : s.chip.isReady = true) (hr : s.chip.rowOf row = some r) (hq : s.chip.sbOf r.sb = some q)
    (hp : r.passedAll q = true) (hlt : row < s.chip.sb.nextRow) (hn : (r.entries.map Prod.snd).Nodup)
    (hs : ∀ e ∈ r.entries, ∃ sl, s.chip.slotOf e.2 = some sl ∧ sl.wseq.isSome = true ∧ s.chip.ft.dir.get 0 sl.unit = e.2)
    (hf : s.chip.placesFit ((r.entries.filterMap fun e => s.chip.slotOf e.2).map Slot.unit) = true) :
    Completes (.stripeRowClose t { row := row, fault := false }) s fun c =>
      c.rowOf row = none ∧ ∀ e ∈ r.entries, ∀ sl, s.chip.slotOf e.2 = some sl → c.mapOf sl.unit = mkEntry r.sb r.row e.1 ∧ c.slotOf e.2 = none := by
  have he : exec (.stripeRowClose t { row := row, fault := false }) s = run s t fun c => c.when c.isReady fun c => c.closeRow row := rfl
  refine Completes.of_when he hrun ?_
  have hfill := Chip.closeRow_eq (c := s.chip.atTime t) hr hq hp hs hf
  obtain ⟨hplace, -, -, -, hnext⟩ := Chip.placeSlots_frame q r r.entries (s.chip.atTime t) hn fun e he => by
    obtain ⟨sl, h1, -, h2⟩ := hs e he
    exact ⟨sl, h1, h2⟩
  rw [Chip.sbOf_idx hq] at hplace
  generalize (s.chip.atTime t).each r.entries (fun c e => c.placeSlot q r e.1 e.2) = d at *
  have hgone : (d.dropRow row).rowOf row = none := List.find?_eq_none.2 fun x hx => by
    have := (List.mem_filter.1 hx).2
    simpa using this
  refine ⟨?_, fun e he sl hsl => ⟨?_, ?_⟩⟩
  · rw [Chip.rowOf_end]
    exact hfill.rows row (by rw [(show (d.dropRow row).sb.nextRow = s.chip.sb.nextRow from hnext)]; exact hlt) hgone
  · rw [Chip.mapOf_end]
    have hm : ((s.chip.atTime t).closeRow row).mapOf sl.unit = d.mapOf sl.unit := by
      unfold Chip.mapOf
      rw [hfill.map]
      rfl
    exact hm.trans (hplace e he sl hsl).1
  · rw [Chip.slotOf_end]
    exact hfill.slots e.2 (hplace e he sl hsl).2

/-- A row whose accumulator shows a fault waits, and its quad is charged (log entry 74). -/
theorem faultyRow_waits {s : State} {t row : Nat} {r : Row} (hrun : s.chip.isReady = true) (hc : s.chip.calm) (hr : s.chip.rowOf row = some r)
    (hb : (s.chip.atTime t).bearsFault (mkUnit kQUAD r.quad)) :
    Completes (.stripeRowClose t { row := row, fault := true }) s fun c => c.rowOf row = some r ∧ s.chip.keeps c (.un :: notePart) ∧ s.chip.keepsEntries c [] := by
  have he : exec (.stripeRowClose t { row := row, fault := true }) s = runUnits s t fun c => c.when c.isReady fun c => c.accFault row := rfl
  obtain ⟨d, hd, hdk, hdv, hdn⟩ : ∃ d : Chip, (s.chip.atTime t).accFault row = d.chargeFault (mkUnit kQUAD r.quad) ∧ (s.chip.atTime t).keeps d [.dict, .ev, .lg]
      ∧ (s.chip.atTime t).keepsEntries d [] ∧ d.now = (s.chip.atTime t).now := by
    unfold Chip.accFault
    rw [(show (s.chip.atTime t).rowOf row = some r from hr)]
    exact ⟨_, rfl, Chip.keeps_event _ _ _ _ _ _, Chip.keepsEntries_event _ _ _ _ _ _ _, Chip.event_now _ _ _ _ _ _⟩
  have ha : (s.chip.atTime t).faultsAlike d := Chip.faultsAlike_of hdk hdv hdn (by decide) (by decide) (by decide)
  have hk : (s.chip.atTime t).keeps ((s.chip.atTime t).accFault row) [.un, .dict, .ev, .lg] := by
    rw [hd]
    exact Chip.keeps_mono (Chip.keeps_trans hdk (Chip.keeps_chargeFault _ _)) (by decide)
  have hv : (s.chip.atTime t).keepsEntries ((s.chip.atTime t).accFault row) [] := by
    rw [hd]
    exact (Chip.keepsEntries_chargeFault_iff _).2 hdv
  refine Completes.of_quietMedia he (Chip.when_true hrun) ⟨fun u => ?_, ?_, ?_, ?_, ?_⟩ hk hv (by decide) (by decide) hc
    ⟨?_, Chip.keeps_ended t (Chip.keeps_mono hk (by decide)) (by decide) (by decide), Chip.keepsEntries_end t hv⟩
  · rw [hd]
    exact ha.bears hb u
  · rw [hd]
    exact Chip.unitsGrow_trans (Chip.unitsGrow_of_un ha.un) (Chip.unitsGrow_chargeFault _ _)
  · rw [hk .md (by decide)]
  · rw [hk .md (by decide)]
  · rw [hk .sb (by decide)]
  · rw [Chip.rowOf_end]
    unfold Chip.rowOf
    rw [hk .sb (by decide)]
    exact hr

end Sys2Proof.Machine
end

section
/-! A superblock assembled over the next row of dies (R149, R244), and the moves and rows that go on for it. -/
namespace Sys2Proof.Machine

/-! ### Moves that start -/

theorem Chip.fills_event (c : Chip) (src ev sev unit : Nat) (ps : List Nat) : c.fills (c.event src ev sev unit ps) :=
  Chip.fills_of_keeps (c.keeps_event _ _ _ _ _) (by decide) (by decide)

theorem Chip.fills_count (c : Chip) (e n : Nat) : c.fills (c.count e n) := Chip.fills_of_keeps (c.keeps_countAt _ _ _) (by decide) (by decide)

theorem Chip.fills_markSb (c : Chip) (sb cause : Nat) : c.fills (c.markSb sb cause) := by
  unfold Chip.markSb
  split
  · exact Chip.fills_refl _
  next s hs =>
    split
    · exact Chip.fills_refl _
    · have h1 : c.fills (c.setSb { s with marked := some c.now }) := Chip.fills_setSb (q := s) (Chip.sbOf_mem hs) rfl rfl
      exact Chip.fills_trans (Chip.fills_trans h1 (Chip.fills_count _ _ _)) (Chip.fills_event _ _ _ _ _ _)

/-- A member changed in its own place. -/
theorem Chip.fills_setMember (c : Chip) (sb pos : Nat) {f : Member → Member} (hf : ∀ m, (f m).lun = m.lun) : c.fills (c.setMember sb pos f) := by
  unfold Chip.setMember
  split
  · exact Chip.fills_refl _
  next s hs =>
    split
    · exact Chip.fills_refl _
    next m hm =>
      refine Chip.fills_setSb (Chip.sbOf_mem hs) rfl ?_
      obtain ⟨hlt, hget⟩ := List.getElem?_eq_some_iff.1 hm
      have hl : (s.members.set pos (f m)).map Member.lun = s.members.map Member.lun := by
        rw [List.map_set, hf]
        exact List.set_getElem_self (as := s.members.map Member.lun) (i := pos) (by simpa using hlt) ▸ by simp [hget]
      unfold Sb.shape
      rw [hl]

theorem Chip.fills_countReads (c : Chip) (e n : Nat) : c.fills (c.countReads e n) := by
  unfold Chip.countReads
  split
  · exact Chip.fills_refl _
  · split
    · exact Chip.fills_refl _
    · extract_lets c1 limit
      have h1 : c.fills c1 := c.fills_setMember _ _ fun _ => rfl
      split
      · split
        · exact Chip.fills_trans h1 (c1.fills_markSb _ _)
        · exact h1
      · exact h1

theorem Chip.fills_sense (c : Chip) (e cls grp : Nat) (levels : List (Nat × Int)) (cws : Nat) : c.fills (c.sense e cls grp levels cws) := by
  unfold Chip.sense
  split
  · exact Chip.fills_refl _
  · exact Chip.fills_trans (Chip.fills_queueOp _ _ _) (Chip.fills_countReads _ _ _)

theorem Chip.fills_routeTo (c : Chip) (h ch : Nat) (hard : Bool) (n : Nat) : c.fills (c.routeTo h ch hard n).2 := by
  unfold Chip.routeTo
  split
  · exact Chip.fills_refl _
  · extract_lets own
    split
    · exact Chip.fills_refl _
    · split
      · exact Chip.fills_trans (Chip.fills_count _ _ _) (Chip.fills_event _ _ _ _ _ _)
      · exact Chip.fills_count _ _ _

/-- What is being read is none of what filling keeps. -/
theorem Chip.fills_rd (c : Chip) (r : Rd) : c.fills { c with rd := r } := Chip.fills_of_sb rfl rfl

theorem Chip.fills_addTasks (c : Chip) (h unit entry : Nat) (cws : List Nat) (cls own step : Nat) : c.fills (c.addTasks h unit entry cws cls own step) := by
  unfold Chip.addTasks
  split
  · exact Chip.fills_refl _
  · split
    · exact Chip.fills_refl _
    · extract_lets grp hard r path due zone order levels one c1
      have hr : c.fills r.2 := by
        unfold r
        split
        · exact c.fills_routeTo _ _ _ _
        · exact Chip.fills_refl _
      exact Chip.fills_trans hr (Chip.fills_trans (Chip.fills_each (fun d p => d.fills_rd _) _ _) (c1.fills_rd _))

theorem Chip.fills_programMove (c : Chip) (unit src : Nat) (read : List (Nat × Nat)) : c.fills (c.programMove unit src read) := by
  unfold Chip.programMove
  split
  · exact Chip.fills_refl _
  · split
    · exact Chip.fills_refl _
    · split
      · exact Chip.fills_refl _
      · extract_lets staged ws page hs
        exact Chip.fills_trans (Chip.fills_of (b := { c with sb := { c.sb with held := hs } }) (sameShapes_refl _) rfl rfl fun _ h => h) (Chip.fills_programPage _ _ _ _ _ _)

theorem Chip.fills_startMove {c d : Chip} {unit src cls stream : Nat} {staged : List (Nat × Nat)} (h : c.startMove unit src cls stream staged = some d) : c.fills d := by
  unfold Chip.startMove at h
  split at h
  · cases h
  next r s c1 hr =>
    split at h
    · cases h
    · extract_lets e hd c2 l _ c3 cws at h
      have h3 : c.fills c3 := Chip.fills_trans (Chip.fills_rowReady hr) (Chip.fills_trans (c1.fills_setRow _)
        (Chip.fills_of (sameShapes_refl _) rfl rfl fun _ h => h))
      obtain rfl := Option.some.inj h
      split
      · exact Chip.fills_trans h3 (c3.fills_programMove _ _ _)
      · exact Chip.fills_trans h3 (Chip.fills_trans (c3.fills_addTasks _ _ _ _ _ _ _) (Chip.fills_sense _ _ _ _ _ _))

theorem Chip.fills_retryMoves (c : Chip) : c.fills c.retryMoves := by
  unfold Chip.retryMoves
  extract_lets live
  refine Chip.fills_trans (Chip.fills_of (b := { c with sb := { c.sb with moveQ := [] } }) (sameShapes_refl _) rfl rfl fun _ h => h) (Chip.fills_each (fun d q => ?_) _ _)
  unfold Chip.moveOrWait
  split
  next h => exact Chip.fills_startMove h
  next => exact Chip.fills_of (sameShapes_refl _) rfl rfl fun _ h => h

/-! ### The superblock -/

theorem Chip.fills_wearLevel (c : Chip) : c.fills c.wearLevel := by
  unfold Chip.wearLevel
  extract_lets hit
  split
  · exact Chip.fills_refl _
  next s hs =>
    extract_lets c1 seen
    have h1 : c.fills c1 := by
      refine Chip.fills_trans (c.fills_count E.WL_MOVES 1) ?_
      unfold c1 Chip.headOfQueue
      split
      · exact Chip.fills_of (sameShapes_refl _) rfl rfl fun _ h => h
      · split
        · exact Chip.fills_of (sameShapes_refl _) rfl rfl fun _ h => h
        · exact Chip.fills_refl _
    split
    · exact h1
    · exact Chip.fills_trans h1 (c1.fills_event _ _ _ _ _)

theorem Chip.fills_openAssembled (c : Chip) (idx : Nat) : c.fills (c.openAssembled idx) := by
  unfold Chip.openAssembled
  split
  · exact Chip.fills_refl _
  next s hs =>
    extract_lets mode
    split
    · exact Chip.fills_setSb (Chip.sbOf_mem hs) rfl rfl
    · exact Chip.fills_refl _

/-- The superblocks of another chip, and one more. -/
def Chip.gains (a b : Chip) (shape : Nat × SbKind × List Nat) : Prop :=
  ∃ x : Sb, x.idx = a.freeIndex ∧ x.shape = shape ∧ sameShapes (a.sb.sbs ++ [x]) b.sb.sbs

theorem Chip.gains.fills {a b c : Chip} {p : Nat × SbKind × List Nat} (h : a.gains b p) (hf : b.fills c) : a.gains c p := by
  obtain ⟨x, hi, hs, hx⟩ := h
  exact ⟨x, hi, hs, sameShapes_trans hx hf.shapes⟩

theorem Chip.gains.sbOf {a b : Chip} {p : Nat × SbKind × List Nat} (h : a.gains b p) (hn : a.sbOf a.freeIndex = none) :
    ∃ y, b.sbOf a.freeIndex = some y ∧ y.shape = p := by
  obtain ⟨x, hi, hs, hx⟩ := h
  obtain ⟨z, hz, hzi⟩ := hx.2 x (List.mem_append_right _ (List.mem_singleton_self x))
  cases hy : b.sbOf a.freeIndex with
  | none => exact absurd (List.find?_eq_none.1 hy z hz) (by simp [hzi, hi])
  | some y =>
    refine ⟨y, rfl, ?_⟩
    obtain ⟨w, hw, hwi, hws⟩ := hx.1 y (Chip.sbOf_mem hy)
    rcases List.mem_append.1 hw with hw | hw
    · exact absurd (List.find?_eq_none.1 hn w hw) (by simp [hwi, Chip.sbOf_idx hy])
    · rw [← hws, List.mem_singleton.1 hw, hs]

theorem Chip.gains_assembleOn (c : Chip) (stream layout : Nat) (luns : List Nat) : c.gains (c.assembleOn stream layout luns) (stream, streamKind stream, luns) := by
  unfold Chip.assembleOn
  extract_lets k qlc idx ms p2 pages s all _ c1 mode c2
  have hshape : s.shape = (stream, streamKind stream, luns) := by
    show (stream, streamKind stream, ms.map Member.lun) = _
    rw [List.map_map]
    exact congrArg (fun l => (stream, streamKind stream, l)) (List.map_id luns)
  have h1 : c.gains c1 (stream, streamKind stream, luns) := ⟨s, rfl, hshape, sameShapes_refl _⟩
  refine (h1.fills ?_).fills (Chip.fills_trans (c2.fills_openAssembled idx) (Chip.fills_wearLevel _))
  refine Chip.fills_each (fun d m => ?_) _ _
  extract_lets b d'
  have h2 : d.fills d' := Chip.fills_of_keeps (d.keeps_setBlock _) (by decide) (by decide)
  split
  · exact h2
  · exact Chip.fills_trans h2 (Chip.fills_of_keeps (d'.keeps_gatherErase _ _ _ _) (by decide) (by decide))

/-- A stream with no superblock open gets one over the dies of the next free row. -/
theorem freeRow_assembles {s : State} {t stream layout r : Nat} (hrun : s.chip.isReady = true) (h6 : stream ≤ 6) (hm : s.chip.mayAssemble stream = true)
    (ho : s.chip.streamOpen stream layout = false) (hr : s.chip.rowsAhead.find? s.chip.rowFree = some r) (hn : s.chip.sbOf s.chip.freeIndex = none) :
    Completes (.superblockAssembly t stream layout) s fun c =>
      ∃ y, c.sbOf s.chip.freeIndex = some y ∧ y.stream = stream ∧ y.kind = streamKind stream ∧ y.members.map Member.lun = s.chip.layoutRow r := by
  have he : exec (.superblockAssembly t stream layout) s = run s t fun c =>
    c.when (c.isReady && decide (stream ≤ 6) && c.mayAssemble stream && !c.streamOpen stream layout) fun c => (c.assemble stream layout).retryMoves.pour := rfl
  have hg : (s.chip.atTime t).gains (((s.chip.atTime t).assemble stream layout).retryMoves.pour) (stream, streamKind stream, s.chip.layoutRow r) := by
    refine (Chip.gains.fills ?_ (Chip.fills_retryMoves _)).fills (Chip.fills_pour _)
    unfold Chip.assemble
    extract_lets rows
    rw [(show rows.find? (s.chip.atTime t).rowFree = some r from hr)]
    dsimp only
    generalize hd : ({ s.chip.atTime t with sb := _ } : Chip).count E.LAYOUT_SKIPS _ = d
    have hsbs : d.sb.sbs = (s.chip.atTime t).sb.sbs := by rw [← hd]; rfl
    obtain ⟨x, hi, hs, hx⟩ := d.gains_assembleOn stream layout ((s.chip.atTime t).layoutRow r)
    rw [hsbs] at hx
    refine ⟨x, hi.trans ?_, hs, hx⟩
    unfold Chip.freeIndex
    rw [hsbs]
  obtain ⟨y, hy, hs⟩ := hg.sbOf hn
  refine Completes.of_when he ?_ ⟨y, (Chip.sbOf_end _ _ _).trans hy, congrArg (·.1) hs, congrArg (·.2.1) hs, congrArg (·.2.2) hs⟩
  rw [(show (s.chip.atTime t).isReady = true from hrun), (show (s.chip.atTime t).mayAssemble stream = true from hm),
    (show (s.chip.atTime t).streamOpen stream layout = false from ho)]
  simpa using h6

end Sys2Proof.Machine

open Sys2Proof Sys2Proof.Machine

/-- Settles O45, a place at a time. -/
theorem placesChange : Obligations.PlacesChange := by
  intro s t sb hrun
  refine ⟨fun q x slot hq hr hp hf hl hm hh => safeCopy_switches hrun hq hr hp hf hl hm hh, fun q hc hq hrel hm => emptySource_waits hrun hc hq hrel hm,
    fun stream layout r h6 hm ho hr hn => freeRow_assembles hrun h6 hm ho hr hn, fun row r q hr hq hp hlt hn hs hf => passedRow_places hrun hr hq hp hlt hn hs hf,
    fun row r hc hr hb => faultyRow_waits hrun hc hr hb, fun row r q hr hq hcl he ht => lateRow_closes hrun hr hq hcl he ht,
    fun row q e hq hp => patch_takes hrun hq hp, fun member q r m haw hq hr hm hu hrows hb hmode => fullReplacement_takes haw hq hr hm hu hrows hb hmode⟩
end

section
/-! Training of targets (R175, R179): what it leaves of its channel, and what a trained target holds. -/
namespace Sys2Proof.Machine

theorem find_change_map {α : Type} {p : α → Bool} {f : α → α} (h : ∀ a, p (f a) = p a) (l : List α) : (change p f l).find? p = (l.find? p).map f := by
  induction l with
  | nil => rfl
  | cons a l ih =>
    unfold change at *
    rw [List.map_cons, List.find?_cons, List.find?_cons, ih]
    by_cases ha : p a = true
    · simp [ha, h]
    · simp [ha]

/-! ### Channels and targets -/

theorem Chip.chan_ch {c : Chip} {ch : Nat} {k : Chan} (h : c.chan ch = some k) : k.ch = ch := by simpa using List.find?_some h

theorem Chip.tgt_tgt {c : Chip} {i : Nat} {x : Tgt} (h : c.tgt i = some x) : x.tgt = i := by simpa using List.find?_some h

theorem Chip.chan_setChan {c : Chip} {k q : Chan} {ch : Nat} (h : c.chan ch = some q) (hk : k.ch = ch) : (c.setChan k).chan ch = some k := by
  subst hk
  exact find_change _ _ (by simp) _ (by rw [show c.md.chans.find? _ = some q from h]; rfl)

theorem Chip.tgt_setTgt (c : Chip) (x : Tgt) (i : Nat) : (c.setTgt x).tgt i = if i = x.tgt ∧ (c.tgt i).isSome then some x else c.tgt i := by
  by_cases hi : i = x.tgt
  · subst hi
    cases hc : c.tgt x.tgt with
    | none =>
      rw [if_neg (by simp)]
      refine List.find?_eq_none.2 fun y hy => ?_
      obtain ⟨z, hz, rfl⟩ := List.mem_map.1 hy
      have hn := List.find?_eq_none.1 hc z hz
      rw [if_neg hn]
      exact hn
    | some y =>
      rw [if_pos ⟨rfl, rfl⟩]
      exact find_change _ _ (by simp) _ (by rw [show c.md.tgts.find? _ = some y from hc]; rfl)
  · rw [if_neg fun h => hi h.1]
    exact find_change_ne _ _ _ (fun a ha => by
      have : a.tgt = x.tgt := by simpa using ha
      simp [this, Ne.symm hi]) _

/-- From a to b targets of a channel have been trained: of its record no more than the volumes selected changes. -/
structure Chip.tunes (ch : Nat) (a b : Chip) : Prop where
  chan : ∀ k, a.chan ch = some k → ∃ sel, b.chan ch = some { k with selected := sel }
  media : ∃ ks l, b.md = { a.md with chans := ks, tgts := l }
  now : b.now = a.now
  kept : a.keeps b [.md, .free]
  vals : b.dict.vals = a.dict.vals
  tgts : ∀ i, (b.tgt i).isSome = (a.tgt i).isSome

section
variable {ch : Nat} {a b c : Chip}

theorem Chip.tunes_refl (ch : Nat) (a : Chip) : a.tunes ch a :=
  ⟨fun k h => ⟨k.selected, h⟩, ⟨_, _, rfl⟩, rfl, Chip.keeps_refl _ _, rfl, fun _ => rfl⟩

theorem Chip.tunes_trans (h : a.tunes ch b) (h' : b.tunes ch c) : a.tunes ch c := by
  refine ⟨fun k hk => ?_, ?_, h'.now.trans h.now, Chip.keeps_mono (Chip.keeps_trans h.kept h'.kept) (by simp), h'.vals.trans h.vals, fun i => (h'.tgts i).trans (h.tgts i)⟩
  · obtain ⟨sel, hs⟩ := h.chan k hk
    obtain ⟨sel', hs'⟩ := h'.chan _ hs
    exact ⟨sel', hs'⟩
  · obtain ⟨_, _, h1⟩ := h.media
    obtain ⟨_, _, h2⟩ := h'.media
    exact ⟨_, _, by rw [h2, h1]⟩

theorem Chip.tunes.trainSet (h : a.tunes ch b) {k : Chan} (hk : a.chan ch = some k) : b.trainSet ch = k.set := by
  obtain ⟨sel, hs⟩ := h.chan k hk
  unfold Chip.trainSet
  rw [hs]
  rfl

end

theorem Chip.selectVolume_tgts (c : Chip) (lun : Nat) : (c.selectVolume lun).md.tgts = c.md.tgts := by
  unfold Chip.selectVolume
  dsimp only
  split
  · split <;> rfl
  · rfl

theorem Chip.tunes_selectVolume (c : Chip) (lun : Nat) : c.tunes (chanOf lun) (c.selectVolume lun) := by
  refine ⟨fun k hk => ?_, ?_, ?_, Chip.keeps_mono (c.keeps_selectVolume lun) (by decide), ?_, fun i => ?_⟩
  · unfold Chip.selectVolume
    extract_lets ch pin
    split
    · split
      · exact ⟨k.selected, hk⟩
      next v _ _ _ =>
        have hf := find_change_map (p := fun q : Chan => decide (q.ch = ch)) (f := fun q : Chan => { q with selected := q.selected.set pin v }) (fun _ => rfl) c.md.chans
        rw [show c.md.chans.find? _ = some k from hk] at hf
        exact ⟨_, hf⟩
    · exact ⟨k.selected, hk⟩
  · unfold Chip.selectVolume
    dsimp only
    split
    · split <;> exact ⟨_, _, rfl⟩
    · exact ⟨_, _, rfl⟩
  · unfold Chip.selectVolume
    dsimp only
    split
    · split <;> rfl
    · rfl
  · unfold Chip.selectVolume
    dsimp only
    split
    · split <;> rfl
    · rfl
  · unfold Chip.tgt
    rw [Chip.selectVolume_tgts]

/-! ### A target trained -/

/-- A target with the trims of its training. -/
def Chip.trimmedTo (c : Chip) (eye : Nat) (x : Tgt) : Tgt :=
  { x with trims := trimSet c.free eye, trainT := c.now, trainTemp := c.tempOf (4 * x.tgt), eye := eye,
           odt := (c.trainSet (x.tgt / 16)).odt, drive := (c.trainSet (x.tgt / 16)).drive }

theorem Chip.trimmed_eq (c : Chip) (eye : Nat) (x : Tgt) : c.trimmed eye x = ({ c with free := c.free + 1 } : Chip).setTgt (c.trimmedTo eye x) := by
  unfold Chip.trimmed Chip.trimmedTo
  rfl

theorem Chip.trimmedTo_tgt (c : Chip) (eye : Nat) (x : Tgt) : (c.trimmedTo eye x).tgt = x.tgt := by
  unfold Chip.trimmedTo
  rfl

theorem Chip.tgt_trimmed (c : Chip) (eye : Nat) (x : Tgt) (i : Nat) :
    (c.trimmed eye x).tgt i = if i = x.tgt ∧ (c.tgt i).isSome then some (c.trimmedTo eye x) else c.tgt i := by
  rw [Chip.trimmed_eq, Chip.tgt_setTgt, Chip.trimmedTo_tgt]
  rfl

theorem Chip.tunes_trimmed (c : Chip) (ch eye : Nat) (x : Tgt) : c.tunes ch (c.trimmed eye x) := by
  refine ⟨fun k hk => ⟨k.selected, hk⟩, ⟨_, _, rfl⟩, rfl, ?_, rfl, fun i => ?_⟩
  · unfold Chip.trimmed
    dsimp only
    exact (Chip.keeps_setTgt_iff (by decide) _).2 ((Chip.keeps_with_free (by decide) _).2 (Chip.keeps_refl _ _))
  · rw [Chip.tgt_trimmed]
    split
    next h => rw [h.2]; rfl
    next => rfl

theorem Chip.tunes_trainTarget (c : Chip) {ch : Nat} (eye : Nat) {x : Tgt} (hx : x.tgt / 16 = ch) : c.tunes ch (c.trainTarget eye x) := by
  have hch : chanOf (4 * x.tgt) = ch := by unfold chanOf; omega
  exact Chip.tunes_trans (hch ▸ c.tunes_selectVolume (4 * x.tgt)) (Chip.tunes_trimmed _ _ _ _)

theorem Chip.tunes_trainTargets (c : Chip) {ch : Nat} (eye : Nat) {l : List Tgt} (hl : ∀ x ∈ l, x.tgt / 16 = ch) : c.tunes ch (c.each l (Chip.trainTarget · eye)) := by
  induction l generalizing c with
  | nil => exact Chip.tunes_refl _ _
  | cons x l ih =>
    exact Chip.tunes_trans (c.tunes_trainTarget eye (hl x List.mem_cons_self)) (ih _ fun y hy => hl y (List.mem_cons_of_mem _ hy))

/-- What a full attempt leaves in a target: calibrated and trained at that moment, under the entries in force. -/
def Tgt.fresh (now eye : Nat) (set : TrainSet) (y : Tgt) : Prop := y.zqT = now ∧ y.trainT = now ∧ y.eye = eye ∧ y.odt = set.odt ∧ y.drive = set.drive

theorem Chip.trimmedTo_fresh {c : Chip} {now eye : Nat} {set : TrainSet} {x : Tgt} (hz : x.zqT = now) (hn : c.now = now) (hs : c.trainSet (x.tgt / 16) = set) :
    (c.trimmedTo eye x).fresh now eye set := by
  unfold Chip.trimmedTo Tgt.fresh
  exact ⟨hz, hn, rfl, by rw [hs], by rw [hs]⟩

/-- A target that is trained, or was. -/
theorem Chip.fresh_trainTarget {c : Chip} {ch eye i : Nat} {k : Chan} {x : Tgt} (hk : c.chan ch = some k) (hx : x.tgt / 16 = ch) (hz : x.zqT = c.now)
    (h : (∃ y, c.tgt i = some y ∧ y.fresh c.now eye k.set) ∨ (x.tgt = i ∧ (c.tgt i).isSome = true)) :
    ∃ y, (c.trainTarget eye x).tgt i = some y ∧ y.fresh c.now eye k.set := by
  have hch : chanOf (4 * x.tgt) = ch := by unfold chanOf; omega
  have hs : c.tunes ch (c.selectVolume (4 * x.tgt)) := hch ▸ c.tunes_selectVolume (4 * x.tgt)
  have hset := hs.trainSet hk
  have htgt : (c.selectVolume (4 * x.tgt)).tgt i = c.tgt i := by
    unfold Chip.tgt
    rw [Chip.selectVolume_tgts]
  unfold Chip.trainTarget
  rw [Chip.tgt_trimmed, htgt]
  split
  next hi => exact ⟨_, rfl, Chip.trimmedTo_fresh hz hs.now (by rw [hx, hset])⟩
  next hi =>
    rcases h with h | h
    · exact h
    · exact absurd ⟨h.1.symm, h.2⟩ hi

/-- Targets calibrated now that are trained one after the other. -/
theorem Chip.fresh_trainTargets {ch eye i : Nat} {l : List Tgt} {c : Chip} {k : Chan} (hk : c.chan ch = some k) (hl : ∀ x ∈ l, x.tgt / 16 = ch ∧ x.zqT = c.now)
    (h : (∃ y, c.tgt i = some y ∧ y.fresh c.now eye k.set) ∨ ((∃ x ∈ l, x.tgt = i) ∧ (c.tgt i).isSome = true)) :
    ∃ y, (c.each l (Chip.trainTarget · eye)).tgt i = some y ∧ y.fresh c.now eye k.set := by
  induction l generalizing c k with
  | nil =>
    rcases h with h | ⟨⟨x, hx, -⟩, -⟩
    · exact h
    · exact absurd hx List.not_mem_nil
  | cons x l ih =>
    obtain ⟨hx, hz⟩ := hl x List.mem_cons_self
    have ht := c.tunes_trainTarget eye hx
    obtain ⟨sel, hsel⟩ := ht.chan k hk
    have := ih (c := c.trainTarget eye x) (k := { k with selected := sel }) hsel (fun y hy => by rw [ht.now]; exact hl y (List.mem_cons_of_mem _ hy)) (by
      rw [ht.now, ht.tgts]
      rcases h with h | ⟨⟨y, hy, hi⟩, hs⟩
      · exact .inl (Chip.fresh_trainTarget (k := k) hk hx hz (.inl h))
      · rcases List.mem_cons.1 hy with rfl | hy
        · exact .inl (Chip.fresh_trainTarget (k := k) hk hx hz (.inr ⟨hi, hs⟩))
        · exact .inr ⟨⟨y, hy, hi⟩, hs⟩)
    rw [ht.now] at this
    exact this

end Sys2Proof.Machine
end

section
/-! A training attempt (R180, R181): where a rate passes, and where none does. -/
namespace Sys2Proof.Machine

/-- What an attempt leaves beyond the units: the channel, with any volumes selected, and the time of the attempt. -/
structure Chip.attempted (c d : Chip) (ch : Nat) (q : Chan) : Prop where
  chan : ∃ sel, d.chan ch = some { q with selected := sel }
  media : ∃ ks l, d.md = { c.md with chans := ks, tgts := l }
  now : d.now = c.now
  kept : c.keeps d [.md, .free, .dict, .ev, .lg]
  vals : c.keepsEntries d [E.CH_TRAIN_LAST]
  last : d.getAt E.CH_TRAIN_LAST ch = c.stamp

/-- Events are none of it. -/
theorem Chip.attempted.event {c d : Chip} {ch : Nat} {q : Chan} (h : c.attempted d ch q) (src ev sev unit : Nat) (ps : List Nat) :
    c.attempted (d.event src ev sev unit ps) ch q := by
  have hk := d.keeps_event src ev sev unit ps
  have hmd : (d.event src ev sev unit ps).md = d.md := hk .md (by decide)
  refine ⟨?_, by rw [hmd]; exact h.media, by rw [Chip.event_now]; exact h.now, Chip.keeps_mono (Chip.keeps_trans h.kept hk) (by decide), ?_, ?_⟩
  · unfold Chip.chan
    rw [hmd]
    exact h.chan
  · exact (Chip.keepsEntries_event_iff ..).2 h.vals
  · exact (Chip.keepsEntries_event d src ev sev unit ps [] E.CH_TRAIN_LAST ch (by decide) (by decide)).trans h.last

theorem Chip.attempted_began {c : Chip} {ch : Nat} {k q : Chan} (hk : c.chan ch = some k) (hq : q.ch = ch) :
    c.attempted ((c.setAt E.CH_TRAIN_LAST ch c.stamp).setChan q) ch q := by
  have hs := Chip.keepsEntries_setAt c E.CH_TRAIN_LAST ch c.stamp
  refine ⟨⟨q.selected, Chip.chan_setChan (q := k) hk hq⟩, ⟨_, _, rfl⟩, rfl, (Chip.keeps_setChan_iff (by decide) _).2 (Chip.keeps_mono (c.keeps_setAt _ _ _) (by decide)),
    (Chip.keepsEntries_setChan_iff _).2 hs, ?_⟩
  exact (Chip.getAt_setAt c E.CH_TRAIN_LAST ch c.stamp _ _).trans (if_pos ⟨rfl, rfl⟩)

theorem Chip.attempted.tunes {c d e : Chip} {ch : Nat} {q : Chan} (h : c.attempted d ch q) (ht : d.tunes ch e) : c.attempted e ch q := by
  obtain ⟨sel, hs⟩ := h.chan
  obtain ⟨sel', hs'⟩ := ht.chan _ hs
  obtain ⟨_, _, h1⟩ := h.media
  obtain ⟨_, _, h2⟩ := ht.media
  refine ⟨⟨sel', hs'⟩, ⟨_, _, by rw [h2, h1]⟩, ht.now.trans h.now, Chip.keeps_mono (Chip.keeps_trans h.kept ht.kept) (by decide),
    fun e i h1 h2 => ?_, ?_⟩
  · rw [← h.vals e i h1 h2]
    unfold Chip.getAt
    rw [ht.vals]
  · rw [← h.last]
    unfold Chip.getAt
    rw [ht.vals]

theorem Chip.mem_fittedOn {c : Chip} {ch : Nat} {x : Tgt} : x ∈ c.fittedOn ch ↔ x ∈ c.md.tgts ∧ x.fitted = true ∧ x.tgt / 16 = ch := by
  unfold Chip.fittedOn
  rw [List.mem_filter, Bool.and_eq_true, decide_eq_true_iff]

/-- A channel of record k on the way of an attempt that leaves it as q: the channel takes its rate, and its targets are trained. -/
def Chip.rated (c : Chip) (ch : Nat) (k q : Chan) : Chip :=
  let c0 := c.setAt E.CH_TRAIN_LAST ch c.stamp
  let c1 := ((c0.setChan q).each (c0.fittedOn ch) (Chip.trainTarget · q.eye)).event (8 * ch) 0 1 (c0.unitIdent (mkUnit kCHAN ch)) [1, q.rate]
  if k.rate = q.rate then c1 else c1.event (8 * ch) 1 1 (c1.unitIdent (mkUnit kCHAN ch)) [k.rate, q.rate]

theorem Chip.train_of_pass {c : Chip} {ch r eye : Nat} {k : Chan} {eyes : List (Nat × Nat × Nat)} (hk : c.chan ch = some k) (hf : c.firstRate ch eyes = some (r, eye)) :
    c.train ch eyes = (let d := c.rated ch k { k with rate := r, configured := c.configuredRate ch, fails := 0, wp := false, eye := eye }
      (if d.own (mkUnit kCHAN ch) = 3 then d.passProbe (mkUnit kCHAN ch) else d).setDegraded (mkUnit kCHAN ch) (decide (r < c.configuredRate ch))) := by
  unfold Chip.train
  rw [hk]
  dsimp only
  rw [hf]
  rfl

theorem Chip.rated_frame {c : Chip} {ch : Nat} {k q : Chan} (hk : c.chan ch = some k) (hq : q.ch = ch) :
    c.attempted (c.rated ch k q) ch q
    ∧ ∀ i x, c.tgt i = some x → x.fitted = true → x.tgt / 16 = ch → (∀ y ∈ c.fittedOn ch, y.zqT = c.now) → ∃ y, (c.rated ch k q).tgt i = some y ∧ y.fresh c.now q.eye q.set := by
  have h0 := Chip.attempted_began hk hq
  have hb : ((c.setAt E.CH_TRAIN_LAST ch c.stamp).setChan q).chan ch = some q := Chip.chan_setChan (q := k) hk hq
  have htgt : ∀ i, ((c.setAt E.CH_TRAIN_LAST ch c.stamp).setChan q).tgt i = c.tgt i := fun _ => rfl
  have hfit : (c.setAt E.CH_TRAIN_LAST ch c.stamp).fittedOn ch = c.fittedOn ch := rfl
  unfold Chip.rated
  extract_lets c0 c1
  have hall : ∀ x ∈ c.fittedOn ch, x.tgt / 16 = ch := fun x hx => (Chip.mem_fittedOn.1 hx).2.2
  have ht := (c0.setChan q).tunes_trainTargets q.eye hall
  have h1 : c.attempted c1 ch q := (h0.tunes ht).event _ _ _ _ _
  have hmd : c1.md = ((c0.setChan q).each (c.fittedOn ch) (Chip.trainTarget · q.eye)).md := Chip.keeps_event _ _ _ _ _ _ .md (by decide)
  refine ⟨?_, fun i x hx hfx h16 hz => ?_⟩
  · split
    · exact h1
    · exact h1.event _ _ _ _ _
  · obtain ⟨y, hy, hfr⟩ := Chip.fresh_trainTargets (i := i) (eye := q.eye) hb (l := c.fittedOn ch) (fun z hz' => ⟨hall z hz', hz z hz'⟩)
      (.inr ⟨⟨x, Chip.mem_fittedOn.2 ⟨List.mem_of_find?_eq_some hx, hfx, h16⟩, Chip.tgt_tgt hx⟩, by rw [htgt, hx]; rfl⟩)
    refine ⟨y, ?_, hfr⟩
    unfold Chip.tgt at *
    split
    · rw [hmd]
      exact hy
    · rw [Chip.keeps_event _ _ _ _ _ _ .md (by decide), hmd]
      exact hy

/-- An attempt in which no rate passes: one more failure, and the third in succession is a permanent fault. -/
theorem Chip.train_fails {c : Chip} {ch : Nat} {k : Chan} {eyes : List (Nat × Nat × Nat)} (hk : c.chan ch = some k) (hf : c.firstRate ch eyes = none) :
    ∃ d, c.attempted d ch { k with fails := min 3 (k.fails + 1), configured := c.configuredRate ch } ∧ c.keeps d [.md, .dict, .ev, .lg]
      ∧ d.chan ch = some { k with fails := min 3 (k.fails + 1), configured := c.configuredRate ch }
      ∧ c.train ch eyes = if 2 ≤ k.fails then d.permanentFault (mkUnit kCHAN ch) 3 else d := by
  generalize hq : ({ k with fails := min 3 (k.fails + 1), configured := c.configuredRate ch } : Chan) = q
  have hqc : q.ch = ch := (congrArg Chan.ch hq).symm.trans (show k.ch = ch from Chip.chan_ch hk)
  have h0 := Chip.attempted_began hk hqc
  have hb : ((c.setAt E.CH_TRAIN_LAST ch c.stamp).setChan q).chan ch = some q := Chip.chan_setChan (q := k) hk hqc
  refine ⟨((c.setAt E.CH_TRAIN_LAST ch c.stamp).setChan q).event (8 * ch) 0 1 ((c.setAt E.CH_TRAIN_LAST ch c.stamp).unitIdent (mkUnit kCHAN ch)) [0, k.fails + 1],
    h0.event _ _ _ _ _, ?_, ?_, ?_⟩
  · exact (Chip.keeps_event_iff (by decide) (by decide) (by decide) _ _ _ _ _).2 ((Chip.keeps_setChan_iff (by decide) _).2 (Chip.keeps_mono (c.keeps_setAt _ _ _) (by decide)))
  · unfold Chip.chan
    rw [Chip.keeps_event _ _ _ _ _ _ .md (by decide)]
    exact hb
  · unfold Chip.train
    rw [hk]
    dsimp only
    rw [hf]
    dsimp only
    rw [hq]
    exact if_congr (by omega) rfl rfl

end Sys2Proof.Machine
end

section
/-! A full attempt (R180, R199): long calibration, and the entries that come into force with it. -/
namespace Sys2Proof.Machine

/-- The interface entries as they are written. -/
def Chip.entriesNow (c : Chip) : TrainSet :=
  { rateMax := c.get E.NAND_RATE_MAX, floor := c.get E.NAND_RATE_FLOOR, odt := c.get E.NAND_ODT, drive := c.get E.NAND_DRIVE, ntemp := c.get E.NTEMP_FEATURE }

theorem Chip.latchPasses_md (c : Chip) : ∃ n, c.latchPasses = { c with md := { c.md with passes := n } } := by
  unfold Chip.latchPasses
  dsimp only
  split
  · exact ⟨_, rfl⟩
  · exact ⟨c.md.passes, rfl⟩

/-- Long calibration: the channel's record, and its targets, each calibrated now. -/
structure Chip.calibrated (c d : Chip) (ch : Nat) : Prop where
  chan : ∀ k, c.chan ch = some k → d.chan ch = some { k with selected := [0, 0, 0, 0], set := c.entriesNow }
  zq : ∀ x ∈ d.fittedOn ch, x.zqT = c.now
  tgt : ∀ i x, c.tgt i = some x → ∃ y, d.tgt i = some y ∧ y.fitted = x.fitted ∧ y.tgt = x.tgt
  now : d.now = c.now
  kept : c.keeps d [.md]
  vals : d.dict.vals = c.dict.vals

theorem Chip.calibrateLong_frame (c : Chip) (ch : Nat) : c.calibrated (c.calibrateLong ch) ch := by
  unfold Chip.calibrateLong
  extract_lets vols now l ks _
  obtain ⟨n, hn⟩ := Chip.latchPasses_md ({ c with md := { c.md with tgts := l, chans := ks } } : Chip)
  rw [hn]
  refine ⟨fun k hk => ?_, fun x hx => ?_, fun i x hx => ?_, rfl, ?_, rfl⟩
  · have hf := find_change_map (p := fun k : Chan => decide (k.ch = ch)) (f := fun k : Chan => { k with selected := [0, 0, 0, 0], set := now }) (fun _ => rfl) c.md.chans
    rw [show c.md.chans.find? _ = some k from hk] at hf
    exact hf
  · obtain ⟨hm, hfx, h16⟩ := Chip.mem_fittedOn.1 hx
    obtain ⟨y, hy, hyx⟩ := List.mem_map.1 (show x ∈ l from hm)
    dsimp only at hyx
    split at hyx
    · rw [← hyx]
    next hno => exact absurd (by rw [hyx, hfx, h16]; simp) hno
  · refine ⟨if x.fitted && decide (x.tgt / 16 = ch) then { x with zqT := c.now, volume := if vols x then some (x.tgt % 4) else none } else x, ?_, ?_, ?_⟩
    · have hf : (l.find? fun x => decide (x.tgt = i)) = (c.md.tgts.find? fun x => decide (x.tgt = i)).map
          fun x => if x.fitted && decide (x.tgt / 16 = ch) then { x with zqT := c.now, volume := if vols x then some (x.tgt % 4) else none } else x := by
        refine (List.find?_map ..).trans (congrArg _ (congrArg (fun p => c.md.tgts.find? p) (funext fun y => ?_)))
        show decide ((if _ then _ else y : Tgt).tgt = i) = _
        split <;> rfl
      rw [show c.md.tgts.find? _ = some x from hx] at hf
      exact hf
    · split <;> rfl
    · split <;> rfl
  · exact (Chip.keeps_with_md (c := { c with md := { c.md with tgts := l, chans := ks } }) (by decide) _).2 ((Chip.keeps_with_md (by decide) _).2 (Chip.keeps_refl _ _))

/-- The entries in force after it are those that are written. -/
theorem Chip.calibrated.trainSet {c d : Chip} {ch : Nat} {k : Chan} (h : c.calibrated d ch) (hk : c.chan ch = some k) : d.trainSet ch = c.entriesNow := by
  unfold Chip.trainSet
  rw [h.chan k hk]
  rfl

/-! ### A unit that is RETIRED -/

theorem find_of_nodup_map {α : Type} {f : α → Nat} {l : List α} (hl : (l.map f).Nodup) {x : α} (hx : x ∈ l) : l.find? (fun y => decide (f y = f x)) = some x := by
  induction l with
  | nil => exact absurd hx List.not_mem_nil
  | cons a l ih =>
    obtain ⟨ha, hl⟩ := List.nodup_cons.1 hl
    rw [List.find?_cons]
    rcases List.mem_cons.1 hx with rfl | hx
    · simp
    · have hne : f a ≠ f x := fun h => ha (h ▸ List.mem_map_of_mem hx)
      simp only [hne, decide_false]
      exact ih hl hx

theorem Chip.own_setUnit_other (c : Chip) {r : UnitRec} {u : Nat} (h : r.unit ≠ u) : (c.setUnit r).own u = c.own u := by
  unfold Chip.own Chip.unitRec Chip.setUnit
  dsimp only
  rw [find_upsert_ne _ _ _ (fun a ha => by
    have : a.unit = r.unit := by simpa using ha
    simp [this, h]) (by simpa using h)]

theorem Chip.nodup_setUnit {c : Chip} (r : UnitRec) (h : (c.un.units.map UnitRec.unit).Nodup) : ((c.setUnit r).un.units.map UnitRec.unit).Nodup := by
  have hu : (c.setUnit r).un.units = upsert (fun q => decide (q.unit = r.unit)) r c.un.units := rfl
  rw [hu]
  rcases map_unit_upsert r c.un.units with ⟨-, h2⟩ | ⟨h1, h2⟩
  · rw [h2]
    exact h
  · rw [h2]
    exact List.nodup_append.2 ⟨h, List.nodup_singleton _, fun a ha b hb he => h1 (List.mem_singleton.1 hb ▸ he ▸ ha)⟩

/-- Where there is one record for each unit, a unit that is retired is RETIRED. -/
theorem Chip.own_retire {c : Chip} (u cause : Nat) (hn : (c.un.units.map UnitRec.unit).Nodup) : (c.retire u cause).own u = 4 := by
  unfold Chip.retire
  dsimp only
  have hd : (((c.setUnit { c.unitRec u with probe := 0 }).setOwn u 4 cause).un.units.map UnitRec.unit).Nodup :=
    Chip.nodup_setUnit _ (Chip.nodup_setUnit _ hn)
  have ho := (c.setUnit { c.unitRec u with probe := 0 }).own_setOwn u 4 cause
  generalize (c.setUnit { c.unitRec u with probe := 0 }).setOwn u 4 cause = d at *
  have hne : ∀ r ∈ d.un.units.filter fun r => decide (r.own = 3 ∧ r.probe ≠ 0), r.unit ≠ u := by
    rintro r hr rfl
    obtain ⟨hm, hr3⟩ := List.mem_filter.1 hr
    have h3 : r.own = 3 := (of_decide_eq_true hr3).1
    have : d.unitRec r.unit = r := by
      unfold Chip.unitRec
      rw [find_of_nodup_map hd hm]
    rw [Chip.own, this, h3] at ho
    cases ho
  unfold Chip.freeProbes
  refine Chip.each_mem_induct (P := fun e => e.own u = 4) (fun e r hr he => ?_) ho
  dsimp only
  split
  · refine (e.own_setUnit_other ?_).trans he
    exact hne r hr
  · split
    · exact he
    · refine (e.own_setUnit_other ?_).trans he
      exact hne r hr
/-! ### The row of a start -/

theorem Chip.chan_end (b c : Chip) (ch : Nat) : (b.seal (b.notices c)).chan ch = c.chan ch := by
  unfold Chip.chan
  rw [Chip.md_end]

theorem Chip.tgt_end (b c : Chip) (i : Nat) : (b.seal (b.notices c)).tgt i = c.tgt i := by
  unfold Chip.tgt
  rw [Chip.md_end]

theorem Chip.own_end {b c : Chip} {u : Nat} (hu : fusedOff b.fuse.variant u = false) (hv : c.fuse = b.fuse) : (b.seal (b.notices c)).own u = c.own u :=
  congrArg UnitRec.own (Chip.unitRec_end hu (by rw [hv]))

theorem Chip.attempted.own {c d : Chip} {ch : Nat} {q : Chan} (h : c.attempted d ch q) (u : Nat) : d.own u = c.own u :=
  Chip.own_congr (h.kept .un (by decide)) (h.kept .fuse (by decide)) u

section
variable {s : State} {t ch : Nat} {k : Chan}

/-- A row of a start, in which nothing settles. -/
theorem Completes.of_starting {i : Instr} {P : Chip → Prop} {b : Chip → Bool} {f : Chip → Chip} (he : exec i s = runUnits s t fun c => c.when (b c) f)
    (hb : b (s.chip.atTime t) = true) (hrun : s.chip.boot.run = .starting) (hk : (f (s.chip.atTime t)).boot = s.chip.boot)
    (hp : P ((s.chip.atTime t).seal ((s.chip.atTime t).notices (f (s.chip.atTime t))))) : Completes i s P := by
  refine Completes.of_unitsWhen he hb ?_
  rw [Chip.settle_idle _ (by unfold Chip.isReady; rw [hk, hrun]; rfl)]
  exact hp

theorem exec_fullAttempt (s : State) (t ch : Nat) (rates : List Nat) (eyes : List (Nat × Nat)) : exec (.trainingAttempt t ch true rates eyes) s = runUnits s t fun c =>
    c.when (decide (c.boot.run = .starting) && decide (1 ≤ c.own (mkUnit kCHAN ch) ∧ c.own (mkUnit kCHAN ch) ≤ 2)) fun c => (c.calibrateLong ch).train ch (rates.zip eyes) := rfl

section
variable {rates : List Nat} {eyes : List (Nat × Nat)} (hk : s.chip.chan ch = some k) (hrun : s.chip.boot.run = .starting)
  (h1 : 1 ≤ s.chip.own (mkUnit kCHAN ch)) (h2 : s.chip.own (mkUnit kCHAN ch) ≤ 2)
include hk hrun h1 h2

/-- A full attempt in which a rate passes. -/
theorem fullAttempt_passes {r eye : Nat} (hf : ((s.chip.atTime t).calibrateLong ch).firstRate ch (rates.zip eyes) = some (r, eye)) :
    Completes (.trainingAttempt t ch true rates eyes) s fun c =>
      (∃ sel, c.chan ch = some { k with rate := r, configured := ((s.chip.atTime t).calibrateLong ch).configuredRate ch, fails := 0, wp := false, eye := eye,
                                        selected := sel, set := (s.chip.calibrateLong ch).trainSet ch })
        ∧ ((s.chip.calibrateLong ch).trainSet ch).rateMax = s.chip.get E.NAND_RATE_MAX
        ∧ ((s.chip.calibrateLong ch).trainSet ch).floor = s.chip.get E.NAND_RATE_FLOOR
        ∧ (∀ i x, s.chip.tgt i = some x → x.fitted = true → x.tgt / 16 = ch →
          ∃ y, c.tgt i = some y ∧ y.zqT = (s.chip.atTime t).now ∧ y.trainT = (s.chip.atTime t).now ∧ y.eye = eye
            ∧ y.odt = s.chip.get E.NAND_ODT ∧ y.drive = s.chip.get E.NAND_DRIVE)
        ∧ c.getAt E.CH_TRAIN_LAST ch = (s.chip.atTime t).stamp ∧ s.chip.keeps c ([.md, .un, .free] ++ notePart) := by
  have hcal := (s.chip.atTime t).calibrateLong_frame ch
  have hset : (s.chip.calibrateLong ch).trainSet ch = (s.chip.atTime t).entriesNow := (s.chip.calibrateLong_frame ch).trainSet hk
  have hchan := hcal.chan k hk
  generalize hb : (s.chip.atTime t).calibrateLong ch = b at *
  have htr := Chip.train_of_pass hchan hf
  generalize hq : ({ k with selected := [0, 0, 0, 0], set := (s.chip.atTime t).entriesNow, rate := r, configured := b.configuredRate ch, fails := 0, wp := false, eye := eye } : Chan) = q
  have hqc : q.ch = ch := (congrArg Chan.ch hq).symm.trans (show k.ch = ch from Chip.chan_ch hk)
  have hqe : q.eye = eye := (congrArg Chan.eye hq).symm
  have hqs : q.set = (s.chip.atTime t).entriesNow := (congrArg Chan.set hq).symm
  obtain ⟨hatt, hfresh⟩ := Chip.rated_frame hchan hqc
  rw [show ({ ({ k with selected := [0, 0, 0, 0], set := (s.chip.atTime t).entriesNow } : Chan) with
    rate := r, configured := b.configuredRate ch, fails := 0, wp := false, eye := eye } : Chan) = q from hq] at htr
  dsimp only at htr
  generalize b.rated ch { k with selected := [0, 0, 0, 0], set := (s.chip.atTime t).entriesNow } q = d at *
  have hown : d.own (mkUnit kCHAN ch) = s.chip.own (mkUnit kCHAN ch) :=
    (hatt.own _).trans ((Chip.own_congr (hcal.kept .un (by decide)) (hcal.kept .fuse (by decide)) _).trans rfl)
  rw [if_neg (by rw [hown]; omega)] at htr
  have hdeg := d.keeps_setDegraded (mkUnit kCHAN ch) (decide (r < b.configuredRate ch))
  have hkeep : (s.chip.atTime t).keeps (b.train ch (rates.zip eyes)) [.md, .un, .free, .dict, .ev, .lg] := by
    rw [htr]
    exact Chip.keeps_mono (Chip.keeps_trans (Chip.keeps_trans hcal.kept hatt.kept) hdeg) (by decide)
  have hmd : (b.train ch (rates.zip eyes)).md = d.md := by
    rw [htr]
    exact hdeg .md (by decide)
  have hlast : (b.train ch (rates.zip eyes)).getAt E.CH_TRAIN_LAST ch = (s.chip.atTime t).stamp := by
    rw [htr]
    exact (Chip.keepsEntries_of_keeps hdeg (by decide) [] E.CH_TRAIN_LAST ch (by decide) (by decide)).trans (hatt.last.trans (by unfold Chip.stamp; rw [hcal.now]))
  refine Completes.of_starting (exec_fullAttempt s t ch rates eyes) ?_ hrun ?_ ⟨?_, ?_, ?_, fun i x hx hfx h16 => ?_, ?_, ?_⟩
  · rw [show (s.chip.atTime t).boot.run = .starting from hrun]
    exact decide_eq_true (⟨h1, h2⟩ : 1 ≤ s.chip.own (mkUnit kCHAN ch) ∧ s.chip.own (mkUnit kCHAN ch) ≤ 2)
  · rw [hb]
    exact hkeep .boot (by decide)
  · obtain ⟨sel, hsel⟩ := hatt.chan
    refine ⟨sel, ?_⟩
    rw [Chip.chan_end, hb, hset]
    unfold Chip.chan at *
    rw [hmd, hsel, ← hq]
  · rw [hset]; rfl
  · rw [hset]; rfl
  · obtain ⟨z, hz, hzf, hzt⟩ := hcal.tgt i x hx
    obtain ⟨y, hy, hy1, hy2, hy3, hy4, hy5⟩ := hfresh i z hz (hzf.trans hfx) (by rw [hzt]; exact h16) (by rw [hcal.now]; exact hcal.zq)
    refine ⟨y, ?_, hy1.trans hcal.now, hy2.trans hcal.now, hy3.trans hqe, ?_, ?_⟩
    · rw [Chip.tgt_end, hb]
      unfold Chip.tgt at *
      rw [hmd]
      exact hy
    · rw [hy4, hqs]; rfl
    · rw [hy5, hqs]; rfl
  · exact Chip.get_end (by decide) (by rw [hb]; exact hlast)
  · rw [hb]
    exact Chip.keeps_ended t (Chip.keeps_mono hkeep (by decide)) (by decide) (by decide)

/-- A full attempt in which no rate passes. -/
theorem fullAttempt_fails (hf : ((s.chip.atTime t).calibrateLong ch).firstRate ch (rates.zip eyes) = none) :
    Completes (.trainingAttempt t ch true rates eyes) s fun c =>
      c.chan ch = some { k with fails := min 3 (k.fails + 1), configured := ((s.chip.atTime t).calibrateLong ch).configuredRate ch, selected := [0, 0, 0, 0],
                                set := (s.chip.calibrateLong ch).trainSet ch }
        ∧ (2 ≤ k.fails → (s.chip.un.units.map UnitRec.unit).Nodup → fusedOff s.chip.fuse.variant (mkUnit kCHAN ch) = false → c.own (mkUnit kCHAN ch) = 4)
        ∧ c.getAt E.CH_TRAIN_LAST ch = (s.chip.atTime t).stamp ∧ s.chip.keeps c ([.md, .un] ++ notePart) := by
  have hcal := (s.chip.atTime t).calibrateLong_frame ch
  have hset : (s.chip.calibrateLong ch).trainSet ch = (s.chip.atTime t).entriesNow := (s.chip.calibrateLong_frame ch).trainSet hk
  have hchan := hcal.chan k hk
  generalize hb : (s.chip.atTime t).calibrateLong ch = b at *
  obtain ⟨d, hatt, hdk, hdc, htr⟩ := Chip.train_fails hchan hf
  have hkd : (s.chip.atTime t).keeps d [.md, .dict, .ev, .lg] := Chip.keeps_mono (Chip.keeps_trans hcal.kept hdk) (by decide)
  have hown : d.own (mkUnit kCHAN ch) = s.chip.own (mkUnit kCHAN ch) := Chip.own_congr (hkd .un (by decide)) (hkd .fuse (by decide)) _
  have hperm := d.keeps_permanentFault (mkUnit kCHAN ch) 3
  have hall : d.keeps (b.train ch (rates.zip eyes)) [.un] := by
    rw [htr]
    exact Chip.keeps_ite hperm (Chip.keeps_refl _ _)
  have hkeep : (s.chip.atTime t).keeps (b.train ch (rates.zip eyes)) [.md, .un, .dict, .ev, .lg] := Chip.keeps_mono (Chip.keeps_trans hkd hall) (by decide)
  refine Completes.of_starting (exec_fullAttempt s t ch rates eyes) ?_ hrun ?_ ⟨?_, fun h3 hn hv => ?_, ?_, ?_⟩
  · rw [show (s.chip.atTime t).boot.run = .starting from hrun]
    exact decide_eq_true (⟨h1, h2⟩ : 1 ≤ s.chip.own (mkUnit kCHAN ch) ∧ s.chip.own (mkUnit kCHAN ch) ≤ 2)
  · rw [hb]
    exact hkeep .boot (by decide)
  · rw [Chip.chan_end, hb, hset]
    unfold Chip.chan at *
    rw [hall .md (by decide), hdc]
  · rw [Chip.own_end (b := s.chip.atTime t) hv (by rw [hb]; exact hkeep .fuse (by decide)), hb, htr, if_pos (show 2 ≤ k.fails from h3)]
    unfold Chip.permanentFault
    rw [if_pos (by rw [hown]; omega)]
    exact Chip.own_retire _ _ (by rw [hkd .un (by decide)]; exact hn)
  · refine Chip.get_end (by decide) ?_
    rw [hb]
    exact (Chip.keepsEntries_of_keeps hall (by decide) [] E.CH_TRAIN_LAST ch (by decide) (by decide)).trans (hatt.last.trans (by unfold Chip.stamp; rw [hcal.now]))
  · rw [hb]
    exact Chip.keeps_ended t (Chip.keeps_mono hkeep (by decide)) (by decide) (by decide)

end
end

end Sys2Proof.Machine
end

section
/-! An attempt as the probe of a FENCED channel (R18, R181). -/
namespace Sys2Proof.Machine

/-- A probe that passes within its time, or under a unit that is out, is kept. -/
theorem Chip.passProbe_kept {d : Chip} {u : Nat} (b : Bool) (h3 : d.own u = 3) (hw : d.now < (d.unitRec u).fenceEnd ∨ d.ancestorOut u = true) :
    ((d.passProbe u).setDegraded u b).own u = 3 ∧ (((d.passProbe u).setDegraded u b).unitRec u).probe = 3
      ∧ (∀ v, ((d.passProbe u).setDegraded u b).own v = d.own v) ∧ d.unitsGrow ((d.passProbe u).setDegraded u b) ∧ d.keeps ((d.passProbe u).setDegraded u b) [.un] := by
  have hp : d.passProbe u = d.setUnit { d.unitRec u with probe := 3 } := by
    unfold Chip.passProbe
    dsimp only
    rw [if_neg (show ¬ (d.unitRec u).own ≠ 3 from not_not.2 h3), if_neg]
    rintro ⟨h1, h2⟩
    rcases hw with hw | hw
    · omega
    · rw [hw] at h2; cases h2
  have hr : (d.passProbe u).unitRec u = { d.unitRec u with probe := 3 } := by
    rw [hp]
    exact Chip.unitRec_setUnit_of (d.unitRec_unit u)
  have ho : ∀ v, (d.passProbe u).own v = d.own v := fun v => by
    rw [hp]
    exact d.own_setUnit (r := { d.unitRec u with probe := 3 }) (by rw [show ({ d.unitRec u with probe := 3 } : UnitRec).unit = u from d.unitRec_unit u]) v
  have hg : d.unitsGrow (d.passProbe u) := by
    rw [hp]
    exact d.unitsGrow_setUnit _
  have hk : d.keeps (d.passProbe u) [.un] := by
    rw [hp]
    exact d.keeps_setUnit _
  generalize d.passProbe u = e at *
  have h3e : (e.unitRec u).own = 3 := by rw [hr]; exact h3
  have hs : e.setDegraded u b = e.setUnit { e.unitRec u with prior := if b then 2 else 1 } := by
    unfold Chip.setDegraded
    dsimp only
    rw [if_neg (by omega), if_pos h3e]
  rw [hs]
  have hr2 : (e.setUnit { e.unitRec u with prior := if b then 2 else 1 }).unitRec u = { e.unitRec u with prior := if b then 2 else 1 } :=
    Chip.unitRec_setUnit_of (e.unitRec_unit u)
  refine ⟨?_, ?_, fun v => (e.own_setUnit ?_ v).trans (ho v), Chip.unitsGrow_trans hg (e.unitsGrow_setUnit _), Chip.keeps_mono (Chip.keeps_trans hk (e.keeps_setUnit _)) (by decide)⟩
  · rw [Chip.own, hr2]
    exact h3e
  · rw [hr2, hr]
  · rw [show ({ e.unitRec u with prior := if b then 2 else 1 } : UnitRec).unit = u from e.unitRec_unit u]

/-- A probe that passes at the end of its time returns the unit to its prior state, as it is now. -/
theorem Chip.passProbe_returns {d : Chip} {u : Nat} (b : Bool) (h3 : d.own u = 3) (he : (d.unitRec u).fenceEnd ≤ d.now) (ha : d.ancestorOut u = false)
    (h1 : 1 ≤ (d.unitRec u).prior) (h2 : (d.unitRec u).prior ≤ 2) :
    ((d.passProbe u).setDegraded u b).own u = if b then 2 else 1 := by
  refine Chip.own_setDegraded b ?_
  have hp : d.passProbe u = (d.setUnit { d.unitRec u with faults := [], probe := 0 }).setOwn u (d.unitRec u).prior 0 := by
    unfold Chip.passProbe Chip.endProbe
    dsimp only
    rw [if_neg (show ¬ (d.unitRec u).own ≠ 3 from not_not.2 h3), if_pos ⟨he, by rw [ha]; rfl⟩, if_pos h3]
    rfl
  rw [hp, Chip.own_setOwn]
  omega

theorem Chip.keeps_passProbe (c : Chip) (u : Nat) : c.keeps (c.passProbe u) [.un] := by
  unfold Chip.passProbe
  dsimp only
  split
  · exact Chip.keeps_refl _ _
  · exact Chip.keeps_ite (c.keeps_endProbe _ _) (c.keeps_setUnit _)

section
variable {s : State} {t ch : Nat} {k : Chan}

theorem exec_probeAttempt (s : State) (t ch : Nat) (rates : List Nat) (eyes : List (Nat × Nat)) : exec (.trainingAttempt t ch false rates eyes) s = runUnits s t fun c =>
    c.when (c.isReady && decide (c.own (mkUnit kCHAN ch) = 3 ∧ (c.unitRec (mkUnit kCHAN ch)).probe = 1)) fun c => c.train ch (rates.zip eyes) := rfl

section
variable {rates : List Nat} {eyes : List (Nat × Nat)} (hk : s.chip.chan ch = some k) (hrun : s.chip.isReady = true)
  (h3 : s.chip.own (mkUnit kCHAN ch) = 3) (hp : (s.chip.unitRec (mkUnit kCHAN ch)).probe = 1) (hv : fusedOff s.chip.fuse.variant (mkUnit kCHAN ch) = false)

section
include hrun h3 hp

theorem probeAttempt_runs : ((s.chip.atTime t).isReady && decide ((s.chip.atTime t).own (mkUnit kCHAN ch) = 3 ∧ ((s.chip.atTime t).unitRec (mkUnit kCHAN ch)).probe = 1)) = true := by
  rw [show (s.chip.atTime t).isReady = true from hrun]
  exact decide_eq_true (⟨h3, hp⟩ : s.chip.own (mkUnit kCHAN ch) = 3 ∧ (s.chip.unitRec (mkUnit kCHAN ch)).probe = 1)

end

section
include hk h3

/-- The channel of a pass, before its probe ends. -/
theorem probeAttempt_passes {r eye : Nat} (hf : (s.chip.atTime t).firstRate ch (rates.zip eyes) = some (r, eye)) :
    ∃ d, (s.chip.atTime t).attempted d ch { k with rate := r, configured := s.chip.configuredRate ch, fails := 0, wp := false, eye := eye }
      ∧ (∀ u, d.unitRec u = s.chip.unitRec u) ∧ d.own (mkUnit kCHAN ch) = 3
      ∧ (s.chip.atTime t).train ch (rates.zip eyes) = (d.passProbe (mkUnit kCHAN ch)).setDegraded (mkUnit kCHAN ch) (decide (r < s.chip.configuredRate ch)) := by
  have hka : (s.chip.atTime t).chan ch = some k := hk
  have htr := Chip.train_of_pass hka hf
  have hqc : ({ k with rate := r, configured := (s.chip.atTime t).configuredRate ch, fails := 0, wp := false, eye := eye } : Chan).ch = ch := show k.ch = ch from Chip.chan_ch hk
  obtain ⟨hatt, -⟩ := Chip.rated_frame hka hqc
  dsimp only at htr
  generalize (s.chip.atTime t).rated ch k { k with rate := r, configured := (s.chip.atTime t).configuredRate ch, fails := 0, wp := false, eye := eye } = d at *
  have hrec : ∀ u, d.unitRec u = s.chip.unitRec u := fun u => Chip.unitRec_congr (hatt.kept .un (by decide)) (by rw [hatt.kept .fuse (by decide)]) u
  have hd3 : d.own (mkUnit kCHAN ch) = 3 := (congrArg UnitRec.own (hrec _)).trans h3
  rw [if_pos hd3] at htr
  exact ⟨d, hatt, hrec, hd3, htr⟩

end

include hk hrun h3 hp hv

/-- A pass that is kept. -/
theorem probeAttempt_kept (hc : s.chip.calm) {r eye : Nat} (hf : (s.chip.atTime t).firstRate ch (rates.zip eyes) = some (r, eye))
    (hw : (s.chip.atTime t).now < (s.chip.unitRec (mkUnit kCHAN ch)).fenceEnd ∨ s.chip.ancestorOut (mkUnit kCHAN ch) = true) :
    Completes (.trainingAttempt t ch false rates eyes) s fun c =>
      (∃ sel, c.chan ch = some { k with rate := r, configured := s.chip.configuredRate ch, fails := 0, wp := false, eye := eye, selected := sel })
        ∧ c.own (mkUnit kCHAN ch) = 3 ∧ (c.unitRec (mkUnit kCHAN ch)).probe = 3 ∧ c.getAt E.CH_TRAIN_LAST ch = (s.chip.atTime t).stamp := by
  obtain ⟨d, hatt, hrec, hd3, htr⟩ := probeAttempt_passes hk h3 hf
  obtain ⟨ho, hpr, hown, hgrow, hkp⟩ := Chip.passProbe_kept (d := d) (decide (r < s.chip.configuredRate ch)) hd3 (by
    rw [hrec, hatt.now]
    exact hw.imp id fun h => (Chip.ancestorOut_congr (fun v => congrArg UnitRec.own (hrec v)) _).trans h)
  have hkeep : (s.chip.atTime t).keeps ((s.chip.atTime t).train ch (rates.zip eyes)) [.md, .un, .free, .dict, .ev, .lg] := by
    rw [htr]
    exact Chip.keeps_mono (Chip.keeps_trans hatt.kept hkp) (by decide)
  have hvals : (s.chip.atTime t).keepsEntries ((s.chip.atTime t).train ch (rates.zip eyes)) [E.CH_TRAIN_LAST] := by
    rw [htr]
    exact Chip.keepsEntries_mono (Chip.keepsEntries_trans hatt.vals (Chip.keepsEntries_of_keeps hkp (by decide) [])) (by decide)
  rw [← htr] at ho hpr hown hgrow hkp
  generalize hR : (s.chip.atTime t).train ch (rates.zip eyes) = R at *
  have hmd : R.md = d.md := hkp .md (by decide)
  obtain ⟨_, _, hdm⟩ := hatt.media
  refine Completes.of_quietMedia (exec_probeAttempt s t ch rates eyes) ((Chip.when_true (probeAttempt_runs hrun h3 hp)).trans hR)
    ⟨fun u => (hown u).trans (hatt.own u), Chip.unitsGrow_trans (Chip.unitsGrow_of_un (hatt.kept .un (by decide))) hgrow, by rw [hmd, hdm], by rw [hmd, hdm],
      by rw [hkeep .sb (by decide)]⟩ hkeep hvals (by decide) (by decide) hc ⟨?_, ?_, ?_, ?_⟩
  · obtain ⟨sel, hsel⟩ := hatt.chan
    refine ⟨sel, ?_⟩
    rw [Chip.chan_end]
    unfold Chip.chan at *
    rw [hmd]
    exact hsel
  · rw [Chip.own_end (b := s.chip.atTime t) hv (hkeep .fuse (by decide))]
    exact ho
  · rw [Chip.unitRec_end (b := s.chip.atTime t) hv (by rw [hkeep .fuse (by decide)])]
    exact hpr
  · exact Chip.get_end (by decide) ((Chip.keepsEntries_of_keeps hkp (by decide) [] E.CH_TRAIN_LAST ch (by decide) (by decide)).trans hatt.last)

/-- A pass at the end of the fence. -/
theorem probeAttempt_returns {r eye : Nat} (hf : (s.chip.atTime t).firstRate ch (rates.zip eyes) = some (r, eye))
    (he : (s.chip.unitRec (mkUnit kCHAN ch)).fenceEnd ≤ (s.chip.atTime t).now) (ha : s.chip.ancestorOut (mkUnit kCHAN ch) = false)
    (h1 : 1 ≤ (s.chip.unitRec (mkUnit kCHAN ch)).prior) (h2 : (s.chip.unitRec (mkUnit kCHAN ch)).prior ≤ 2) :
    Completes (.trainingAttempt t ch false rates eyes) s fun c => c.own (mkUnit kCHAN ch) = if r < s.chip.configuredRate ch then 2 else 1 := by
  obtain ⟨d, hatt, hrec, hd3, htr⟩ := probeAttempt_passes hk h3 hf
  have hret := Chip.passProbe_returns (d := d) (decide (r < s.chip.configuredRate ch)) hd3 (by rw [hrec, hatt.now]; exact he)
    ((Chip.ancestorOut_congr (fun v => congrArg UnitRec.own (hrec v)) _).trans ha) (by rw [hrec]; exact h1) (by rw [hrec]; exact h2)
  have hfuse : ((s.chip.atTime t).train ch (rates.zip eyes)).fuse = (s.chip.atTime t).fuse := by
    rw [htr]
    exact ((Chip.keeps_setDegraded _ _ _ .fuse (by decide)).trans (Chip.keeps_passProbe _ _ .fuse (by decide))).trans (hatt.kept .fuse (by decide))
  refine Completes.of_unitsWhen (exec_probeAttempt s t ch rates eyes) (probeAttempt_runs hrun h3 hp) ?_
  rw [Chip.own, Chip.unitRec_settled (b := s.chip.atTime t) hv hfuse, htr]
  refine hret.trans ?_
  simp only [decide_eq_true_eq]

/-- An attempt in which no rate passes is a failure of the channel, and the third of them retires it. -/
theorem probeAttempt_fails (hc : s.chip.calm) (hn : (s.chip.un.units.map UnitRec.unit).Nodup) (hf : (s.chip.atTime t).firstRate ch (rates.zip eyes) = none) :
    (k.fails < 2 → Completes (.trainingAttempt t ch false rates eyes) s fun c =>
      c.chan ch = some { k with fails := k.fails + 1, configured := s.chip.configuredRate ch } ∧ c.own (mkUnit kCHAN ch) = 3
        ∧ c.getAt E.CH_TRAIN_LAST ch = (s.chip.atTime t).stamp ∧ s.chip.keeps c (.md :: notePart))
    ∧ (2 ≤ k.fails → Completes (.trainingAttempt t ch false rates eyes) s fun c => c.own (mkUnit kCHAN ch) = 4) := by
  have hka : (s.chip.atTime t).chan ch = some k := hk
  obtain ⟨d, hatt, hdk, hdc, htr⟩ := Chip.train_fails hka hf
  have hrec : ∀ u, d.unitRec u = s.chip.unitRec u := fun u => Chip.unitRec_congr (hdk .un (by decide)) (by rw [hdk .fuse (by decide)]) u
  obtain ⟨_, _, hdm⟩ := hatt.media
  refine ⟨fun h2 => ?_, fun h2 => ?_⟩
  · rw [if_neg (by omega)] at htr
    have hmin : min 3 (k.fails + 1) = k.fails + 1 := by omega
    rw [hmin] at hdc
    refine Completes.of_quietMedia (exec_probeAttempt s t ch rates eyes) ((Chip.when_true (probeAttempt_runs hrun h3 hp)).trans htr)
      ⟨hatt.own, Chip.unitsGrow_of_un (hdk .un (by decide)), by rw [hdm], by rw [hdm], by rw [hdk .sb (by decide)]⟩ hdk hatt.vals (by decide) (by decide) hc ⟨?_, ?_, ?_, ?_⟩
    · rw [Chip.chan_end]
      exact hdc
    · rw [Chip.own_end (b := s.chip.atTime t) hv (hdk .fuse (by decide))]
      exact (congrArg UnitRec.own (hrec _)).trans h3
    · exact Chip.get_end (by decide) hatt.last
    · exact Chip.keeps_ended t (Chip.keeps_mono hdk (by decide)) (by decide) (by decide)
  · rw [if_pos h2] at htr
    have hfuse : ((s.chip.atTime t).train ch (rates.zip eyes)).fuse = (s.chip.atTime t).fuse := by
      rw [htr]
      exact (Chip.keeps_permanentFault _ _ _ .fuse (by decide)).trans (hdk .fuse (by decide))
    refine Completes.of_unitsWhen (exec_probeAttempt s t ch rates eyes) (probeAttempt_runs hrun h3 hp) ?_
    rw [Chip.own, Chip.unitRec_settled (b := s.chip.atTime t) hv hfuse, htr]
    have hd3 : d.own (mkUnit kCHAN ch) = 3 := (congrArg UnitRec.own (hrec _)).trans h3
    unfold Chip.permanentFault
    rw [if_pos (by rw [hd3]; omega)]
    exact Chip.own_retire _ _ (by rw [hdk .un (by decide)]; exact hn)

end
end

end Sys2Proof.Machine
end

section
/-! A retraining (R182): the parts of which it is made, and what each leaves. -/
namespace Sys2Proof.Machine

/-! ### Booking -/

/-- The first innings after the ledger and after those booked already. -/
def Chan.freeInnings (k : Chan) (inning n : Nat) : List Nat :=
  (List.range n).map (max (inning + 63) (maxOf (k.outages.filter fun i => decide (inning ≤ i))) + 1 + ·)

/-- A channel's record with these innings booked for a target. -/
def Chan.booked (k : Chan) (inning : Nat) (x : Tgt) (n : Nat) : Chan :=
  { k with outages := (k.outages.filter fun i => decide (inning ≤ i)) ++ k.freeInnings inning n,
           jobs := drop' (fun (j : Nat × List Nat) => decide (j.1 = x.tgt)) k.jobs ++ [(x.tgt, k.freeInnings inning n)] }

theorem Chan.job_booked (k : Chan) (inning : Nat) (x : Tgt) (n : Nat) : (k.booked inning x n).job x = k.freeInnings inning n := by
  have hf : (drop' (fun (j : Nat × List Nat) => decide (j.1 = x.tgt)) k.jobs).find? (fun j => decide (j.1 = x.tgt)) = none :=
    List.find?_eq_none.2 fun j hj => by simpa using (List.mem_filter.1 hj).2
  unfold Chan.job Chan.booked
  dsimp only
  rw [List.find?_append, hf]
  simp

/-- Innings booked for a target: beyond the ledger, in its channel's outages, as many as are asked for. -/
theorem Chip.bookOutage_frame {c : Chip} {x : Tgt} {ch : Nat} {k : Chan} (n : Nat) (hx : x.tgt / 16 = ch) (hk : c.chan ch = some k) :
    (∃ q, (c.bookOutage x n).chan ch = some q ∧ q.rate = k.rate ∧ (q.job x).length = n ∧ ∀ i ∈ q.job x, c.inning + 63 < i ∧ i ∈ q.outages)
    ∧ (∃ l, (c.bookOutage x n).md = { c.md with chans := l }) ∧ c.keeps (c.bookOutage x n) [.md] ∧ (c.bookOutage x n).dict.vals = c.dict.vals := by
  have he : c.bookOutage x n = c.setChan (k.booked c.inning x n) := by
    unfold Chip.bookOutage
    rw [hx, hk]
    rfl
  rw [he]
  refine ⟨⟨k.booked c.inning x n, Chip.chan_setChan hk (show k.ch = ch from Chip.chan_ch hk), rfl, ?_, fun i hi => ⟨?_, ?_⟩⟩, ⟨_, rfl⟩, c.keeps_setChan _, rfl⟩
  · rw [k.job_booked]
    unfold Chan.freeInnings
    rw [List.length_map, List.length_range]
  · rw [k.job_booked] at hi
    obtain ⟨j, -, rfl⟩ := List.mem_map.1 hi
    have : c.inning + 63 ≤ max (c.inning + 63) (maxOf (k.outages.filter fun i => decide (c.inning ≤ i))) := Nat.le_max_left _ _
    omega
  · rw [k.job_booked] at hi
    exact List.mem_append_right _ hi

/-! ### A target renewed -/

theorem Chip.tempOf_congr {c d : Chip} (hd : d.md.dies = c.md.dies) (hv : d.get E.NTEMP_DEFAULT = c.get E.NTEMP_DEFAULT) (lun : Nat) : d.tempOf lun = c.tempOf lun := by
  unfold Chip.tempOf Chip.dieOf Chip.getS
  rw [hd, hv]

theorem Chip.narrowest_congr {c d : Chip} (h : d.md.tgts = c.md.tgts) (ch : Nat) : d.narrowest ch = c.narrowest ch := by
  unfold Chip.narrowest Chip.fittedOn
  rw [h]

theorem Chip.renewEye_frame {c : Chip} {ch : Nat} {k : Chan} (hk : c.chan ch = some k) :
    (c.renewEye ch).chan ch = some { k with eye := c.narrowest ch } ∧ (∃ l, (c.renewEye ch).md = { c.md with chans := l })
    ∧ c.keeps (c.renewEye ch) [.md] ∧ (c.renewEye ch).dict.vals = c.dict.vals ∧ (c.renewEye ch).now = c.now := by
  unfold Chip.renewEye
  rw [hk]
  exact ⟨Chip.chan_setChan (q := k) hk (show k.ch = ch from Chip.chan_ch hk), ⟨_, rfl⟩, c.keeps_setChan _, rfl, rfl⟩

/-- What a retraining leaves of a channel: its rate, and the eye that its targets now have. -/
structure Chip.retrained (c d : Chip) (ch rate : Nat) : Prop where
  chan : ∃ q, d.chan ch = some q ∧ q.rate = rate ∧ q.eye = d.narrowest ch
  media : ∃ ks l, d.md = { c.md with chans := ks, tgts := l }
  now : d.now = c.now
  kept : c.keeps d [.md, .free, .dict, .ev, .lg]
  vals : c.keepsEntries d [E.CH_TRAIN_LAST, E.CH_RETRAINS]
  last : d.getAt E.CH_TRAIN_LAST ch = c.stamp

/-- What keeps the media and the entries of training keeps that. -/
theorem Chip.retrained.of_keeps {c d e : Chip} {ch rate : Nat} {l : List Area} {es : List Nat} (h : c.retrained d ch rate) (hk : d.keeps e l) (hv : d.keepsEntries e es)
    (hn : e.now = d.now) (hm : .md ∉ l) (hl : ∀ p ∈ l, p ∈ [Area.md, .free, .dict, .ev, .lg]) (hes : ∀ p ∈ es, p = E.CH_RETRAINS) : c.retrained e ch rate := by
  have hmd : e.md = d.md := hk .md hm
  obtain ⟨q, hq, hr, he⟩ := h.chan
  refine ⟨⟨q, ?_, hr, ?_⟩, by rw [hmd]; exact h.media, hn.trans h.now, Chip.keeps_mono (Chip.keeps_trans h.kept hk) fun p hp => (List.mem_append.1 hp).elim id (hl p),
    Chip.keepsEntries_mono (Chip.keepsEntries_trans h.vals hv) fun p hp => (List.mem_append.1 hp).elim id fun hp => by simp [hes p hp], ?_⟩
  · unfold Chip.chan at *
    rw [hmd]
    exact hq
  · rw [he]
    exact (Chip.narrowest_congr (by rw [hmd]) _).symm
  · exact (hv _ ch (fun hp => absurd (hes _ hp) (by decide)) (by decide)).trans h.last

/-- A channel whose record is q, after its attempt, with its eye renewed. -/
theorem Chip.attempted.renewEye {c d : Chip} {ch : Nat} {q : Chan} (h : c.attempted d ch q) : c.retrained (d.renewEye ch) ch q.rate := by
  obtain ⟨sel, hs⟩ := h.chan
  obtain ⟨ks, l, hmd⟩ := h.media
  obtain ⟨hch, ⟨l', hm⟩, hk, hv, hn⟩ := Chip.renewEye_frame hs
  refine ⟨⟨_, hch, rfl, (Chip.narrowest_congr (by rw [hm]) _).symm⟩, ⟨l', l, by rw [hm, hmd]⟩, hn.trans h.now, Chip.keeps_mono (Chip.keeps_trans h.kept hk) (by decide),
    fun e i h1 h2 => ?_, ?_⟩
  · refine (Chip.keepsEntries_vals hv [] e i (by simp) h2).trans (h.vals e i (fun hp => h1 ?_) h2)
    rw [List.mem_singleton.1 hp]
    exact List.mem_cons_self
  · exact (Chip.keepsEntries_vals hv [] E.CH_TRAIN_LAST ch (by simp) (by decide)).trans h.last

/-- A channel's record with a target's booking gone. -/
def Chan.freed (k : Chan) (x : Tgt) (left : List Nat) : Chan :=
  { k with outages := k.outages.filter fun i => !left.contains i, jobs := drop' (fun (j : Nat × List Nat) => decide (j.1 = x.tgt)) k.jobs }

/-- The retraining of a target whose eye passes, at the rate of its channel. -/
def Chip.renewed (c : Chip) (k1 : Chan) (x : Tgt) (eye : Nat) : Chip :=
  let c1 := (c.setChan k1).setAt E.CH_TRAIN_LAST k1.ch c.stamp
  (((c1.trainTarget eye x).renewEye k1.ch).countAt E.CH_RETRAINS k1.ch 1).event (8 * k1.ch + 1) 2 1 (c1.unitIdent (mkUnit kTGT x.tgt)) [x.tgt]

theorem Chip.renewed_frame {c : Chip} {ch eye : Nat} {k q : Chan} {x : Tgt} (hk : c.chan ch = some k) (hq : q.ch = ch) (hs : q.set = k.set) (hx : c.tgt x.tgt = some x) (h16 : x.tgt / 16 = ch) :
    c.retrained (c.renewed q x eye) ch q.rate
    ∧ (c.renewed q x eye).tgt x.tgt = some { x with trims := trimSet c.free eye, trainT := c.now, eye := eye, trainTemp := c.tempOf (4 * x.tgt), odt := k.set.odt, drive := k.set.drive }
    ∧ (c.renewed q x eye).getAt E.CH_RETRAINS ch = min (topOf E.CH_RETRAINS) (c.getAt E.CH_RETRAINS ch + 1) := by
  subst hq
  have h0 := Chip.attempted_began hk rfl
  have hb : ((c.setAt E.CH_TRAIN_LAST q.ch c.stamp).setChan q).chan q.ch = some q := Chip.chan_setChan (q := k) hk rfl
  have hbt : ((c.setAt E.CH_TRAIN_LAST q.ch c.stamp).setChan q).tgt x.tgt = some x := hx
  have hbn : ((c.setAt E.CH_TRAIN_LAST q.ch c.stamp).setChan q).free = c.free := rfl
  unfold Chip.renewed
  extract_lets c1
  have hc1 : (c.setAt E.CH_TRAIN_LAST q.ch c.stamp).setChan q = c1 := rfl
  rw [hc1] at h0 hb hbt hbn
  clear_value c1
  have ht := c1.tunes_trainTarget eye h16
  have hr := (h0.tunes ht).renewEye
  have htgt : (c1.trainTarget eye x).tgt x.tgt
      = some { x with trims := trimSet c.free eye, trainT := c.now, eye := eye, trainTemp := c.tempOf (4 * x.tgt), odt := k.set.odt, drive := k.set.drive } := by
    have hsel : c1.tunes q.ch (c1.selectVolume (4 * x.tgt)) := by
      have hch : chanOf (4 * x.tgt) = q.ch := by unfold chanOf; omega
      exact hch ▸ c1.tunes_selectVolume (4 * x.tgt)
    have hse : (c1.selectVolume (4 * x.tgt)).free = c1.free := c1.keeps_selectVolume _ .free (by decide)
    have htg : (c1.selectVolume (4 * x.tgt)).tgt x.tgt = some x := by
      unfold Chip.tgt at *
      rw [Chip.selectVolume_tgts]
      exact hbt
    have htp : (c1.selectVolume (4 * x.tgt)).tempOf (4 * x.tgt) = c.tempOf (4 * x.tgt) := by
      obtain ⟨_, _, h1⟩ := h0.media
      obtain ⟨_, _, h2⟩ := hsel.media
      exact Chip.tempOf_congr (by rw [h2, h1]) ((Chip.keepsEntries_vals hsel.vals [] E.NTEMP_DEFAULT 0 (by simp) (by decide)).trans
        (h0.vals E.NTEMP_DEFAULT 0 (by decide) (by decide))) _
    unfold Chip.trainTarget
    rw [Chip.tgt_trimmed, if_pos ⟨rfl, by rw [htg]; rfl⟩]
    unfold Chip.trimmedTo
    rw [h16, hsel.trainSet hb, htp, hse, hbn, hsel.now, h0.now, hs]
  have hretr : (c1.trainTarget eye x).getAt E.CH_RETRAINS q.ch = c.getAt E.CH_RETRAINS q.ch :=
    (Chip.keepsEntries_vals ht.vals [] E.CH_RETRAINS q.ch (by simp) (by decide)).trans (h0.vals E.CH_RETRAINS q.ch (by decide) (by decide))
  obtain ⟨q', hq'⟩ := (h0.tunes ht).chan
  obtain ⟨-, ⟨l, hm⟩, -, hv, -⟩ := Chip.renewEye_frame hq'
  generalize c1.trainTarget eye x = d at *
  have hcnt := (d.renewEye q.ch).keeps_countAt E.CH_RETRAINS q.ch 1
  have hcount := (d.renewEye q.ch).getAt_countAt_same E.CH_RETRAINS q.ch 1 (by decide)
  have hcr := hr.of_keeps hcnt (Chip.keepsEntries_countAt _ _ _ _) rfl (by decide) (by decide) (by simp)
  refine ⟨hcr.of_keeps (Chip.keeps_event _ _ _ _ _ _) (Chip.keepsEntries_event _ _ _ _ _ _ []) (Chip.event_now _ _ _ _ _ _) (by decide) (by decide) (by simp), ?_, ?_⟩
  · unfold Chip.tgt at *
    rw [Chip.keeps_event _ _ _ _ _ _ .md (by decide), hcnt .md (by decide), hm]
    exact htgt
  · refine (Chip.keepsEntries_event _ _ _ _ _ _ [] E.CH_RETRAINS q.ch (by simp) (by decide)).trans (hcount.trans ?_)
    rw [Chip.keepsEntries_vals hv [] E.CH_RETRAINS q.ch (by simp) (by decide), hretr]

end Sys2Proof.Machine
end

section
/-! The retraining of a booked target (R182), and the rows that book it and run it. -/
namespace Sys2Proof.Machine

/-! ### Outcomes -/

/-- Its targets trained anew, a channel takes a higher rate. -/
theorem Chip.retrained.widen {c d e : Chip} {ch rate : Nat} {q : Chan} (r : Nat) (h : c.retrained d ch rate) (ht : d.tunes ch e) (hq : e.chan ch = some q) :
    c.retrained ((e.setChan { q with rate := r }).renewEye ch) ch r := by
  obtain ⟨_, _, h1⟩ := h.media
  obtain ⟨_, _, h2⟩ := ht.media
  have hf : (e.setChan { q with rate := r }).chan ch = some { q with rate := r } := Chip.chan_setChan (q := q) hq (show q.ch = ch from Chip.chan_ch hq)
  have hfm : (e.setChan { q with rate := r }).md.tgts = e.md.tgts := rfl
  obtain ⟨hch, ⟨_, hm⟩, hk, hv, hn⟩ := Chip.renewEye_frame hf
  have hke : d.keepsEntries ((e.setChan { q with rate := r }).renewEye ch) [] := Chip.keepsEntries_vals (hv.trans ht.vals) []
  have hks : e.keeps (e.setChan { q with rate := r }) [.md] := e.keeps_setChan _
  have hns : (e.setChan { q with rate := r }).now = e.now := rfl
  have hms : ∃ l, (e.setChan { q with rate := r }).md = { e.md with chans := l } := ⟨_, rfl⟩
  generalize e.setChan { q with rate := r } = f at *
  obtain ⟨_, hms⟩ := hms
  refine ⟨⟨_, hch, rfl, (Chip.narrowest_congr (by rw [hm]) _).symm⟩, ⟨_, _, by rw [hm, hms, h2, h1]⟩, ((hn.trans hns).trans ht.now).trans h.now,
    Chip.keeps_mono (Chip.keeps_trans (Chip.keeps_trans h.kept ht.kept) (Chip.keeps_trans hks hk)) (by decide),
    Chip.keepsEntries_mono (Chip.keepsEntries_trans h.vals hke) (by simp), (hke E.CH_TRAIN_LAST ch (by simp) (by decide)).trans h.last⟩

/-- Where the eye of a target passes, and no higher rate does. -/
theorem Chip.retrain_renews {c : Chip} {k : Chan} {x : Tgt} {eye : Nat × Nat} {higher : List (Nat × Nat × Nat)} (hok : c.eyeOk eye = true)
    (hb : c.betterRate k x higher = none) : ∃ left, c.retrain k x eye higher = c.renewed (k.freed x left) x eye.1 := by
  unfold Chip.retrain
  rw [hb]
  dsimp only
  rw [if_pos hok]
  exact ⟨_, rfl⟩

/-- A channel takes a rate, with the narrowest eye of its targets. -/
def Chip.takesRate (c : Chip) (ch r : Nat) : Chip :=
  (match c.chan ch with
    | some q => c.setChan { q with rate := r }
    | none => c).renewEye ch

/-- Where a higher rate passes. -/
theorem Chip.retrain_widens {c : Chip} {k : Chan} {x : Tgt} {eye : Nat × Nat} {higher : List (Nat × Nat × Nat)} {r : Nat} (hok : c.eyeOk eye = true)
    (hb : c.betterRate k x higher = some r) : ∃ left eye' src ev sev unit ps, c.retrain k x eye higher
      = ((((c.renewed (k.freed x left) x eye.1).each ((c.renewed (k.freed x left) x eye.1).fittedOn k.ch) (Chip.trainTarget · eye')).takesRate k.ch r).event src ev sev unit ps).setDegraded
          (mkUnit kCHAN k.ch) (decide (r < k.configured)) := by
  unfold Chip.retrain
  extract_lets ch u tries better per used left k1 c1 c2
  have hbe : better = some r := hb
  clear_value better used
  subst hbe
  rw [if_pos hok]
  have hc2 : c2 = c.renewed (k.freed x left) x eye.1 := rfl
  clear_value c2
  refine ⟨left, (c2.eyeAt higher r).getD 0, ?_⟩
  rw [← hc2]
  dsimp only
  unfold Chip.takesRate
  generalize c2.each (c2.fittedOn ch) (Chip.trainTarget · ((c2.eyeAt higher r).getD 0)) = w
  exact ⟨_, _, _, _, _, rfl⟩

/-- Where the eye of a target fails: its channel is charged, and it is booked anew. -/
theorem Chip.retrain_fails {c : Chip} {k : Chan} {x : Tgt} {eye : Nat × Nat} {higher : List (Nat × Nat × Nat)} (hok : c.eyeOk eye = false) :
    ∃ left used src ev sev unit ps, 0 < used ∧ c.retrain k x eye higher
      = (((((c.setAt E.CH_TRAIN_LAST k.ch c.stamp).setChan (k.freed x left)).selectVolume (4 * x.tgt)).event src ev sev unit ps).chargeFault (mkUnit kCHAN k.ch)).bookOutage x used := by
  unfold Chip.retrain
  extract_lets ch u tries better per used left k1 c1 c2
  rw [if_neg (by rw [hok]; simp)]
  have hused : 0 < used := Nat.succ_le_iff.1 (Nat.le_add_right 1 _)
  have hc1 : c1 = (c.setAt E.CH_TRAIN_LAST k.ch c.stamp).setChan (k.freed x left) := rfl
  clear_value used left c1
  exact ⟨left, used, _, _, _, _, _, hused, by rw [← hc1]⟩

/-! ### The rows -/

theorem Chip.retrainRow_books {c : Chip} {ch : Nat} {k : Chan} {x : Tgt} (hk : c.chan ch = some k) (hx : x.tgt / 16 = ch) (hj : k.job x = []) (eye : Nat × Nat)
    (higher : List (Nat × Nat × Nat)) : c.retrainRow x eye higher = c.bookOutage x (1 + (c.fittedOn ch).length * (c.higherRates k x).length) := by
  unfold Chip.retrainRow
  rw [hx, hk]
  dsimp only
  rw [hj, Chip.chan_ch hk]

theorem Chip.retrainRow_booked {c : Chip} {ch i : Nat} {l : List Nat} {k : Chan} {x : Tgt} (hk : c.chan ch = some k) (hx : x.tgt / 16 = ch) (hj : k.job x = i :: l) (eye : Nat × Nat)
    (higher : List (Nat × Nat × Nat)) : c.retrainRow x eye higher = if i ≤ c.inning then c.retrain k x eye higher else c := by
  unfold Chip.retrainRow
  rw [hx, hk]
  dsimp only
  rw [hj]

/-- The effect of the row of a target in use. -/
theorem Chip.retrainDue_effect {c : Chip} {i : Nat} {x : Tgt} (hx : c.tgt i = some x) (hrun : c.isReady = true) (hfit : x.fitted = true)
    (hus : c.usable (mkUnit kTGT x.tgt) = true) (eye : Nat × Nat) (higher : List (Nat × Nat × Nat)) :
    (match c.tgt i with
      | none => c
      | some x => c.when (c.isReady && x.fitted && c.usable (mkUnit kTGT x.tgt) && c.retrainDue x) fun c => c.retrainRow x eye higher)
    = if c.retrainDue x then c.retrainRow x eye higher else c := by
  rw [hx]
  dsimp only
  rw [hrun, hfit, hus]
  generalize c.retrainDue x = b
  cases b <;> rfl

section
variable {s : State} {t ch tgt : Nat} {k : Chan} {x : Tgt} {eye : Nat × Nat} {higher : List (Nat × Nat × Nat)}
  (hk : s.chip.chan ch = some k) (hrun : s.chip.isReady = true) (hc : s.chip.calm) (hx : s.chip.tgt (16 * ch + tgt % 16) = some x) (hfit : x.fitted = true)
  (hus : s.chip.usable (mkUnit kTGT x.tgt) = true)

theorem retrainDue_row (s : State) (t ch tgt : Nat) (eye : Nat × Nat) (higher : List (Nat × Nat × Nat)) : exec (.retrainDue t ch tgt eye higher) s = runUnits s t fun c =>
    match c.tgt (16 * ch + tgt % 16) with
    | none => c
    | some x => c.when (c.isReady && x.fitted && c.usable (mkUnit kTGT x.tgt) && c.retrainDue x) fun c => c.retrainRow x eye higher := rfl

theorem Chip.usable_atTime (c : Chip) (t u : Nat) : (c.atTime t).usable u = c.usable u := by
  unfold Chip.usable
  rw [Chip.reported_congr (b := c) (c := c.atTime t) rfl rfl rfl]

section
include hx

theorem tgtOn_ch : x.tgt / 16 = ch := by
  have := Chip.tgt_tgt hx
  omega

theorem tgtOn_same : s.chip.tgt x.tgt = some x := by
  rw [Chip.tgt_tgt hx]
  exact hx

end

theorem Chip.quietMedia_refl (c : Chip) : c.quietMedia c := ⟨fun _ => rfl, Chip.unitsGrow_refl _, rfl, rfl, rfl⟩

section
include hrun hx hfit hus

theorem retrainDue_runs : (match (s.chip.atTime t).tgt (16 * ch + tgt % 16) with
    | none => s.chip.atTime t
    | some x => (s.chip.atTime t).when ((s.chip.atTime t).isReady && x.fitted && (s.chip.atTime t).usable (mkUnit kTGT x.tgt) && (s.chip.atTime t).retrainDue x)
        fun c => c.retrainRow x eye higher)
    = if (s.chip.atTime t).retrainDue x then (s.chip.atTime t).retrainRow x eye higher else s.chip.atTime t :=
  Chip.retrainDue_effect (c := s.chip.atTime t) hx hrun hfit ((s.chip.usable_atTime t _).trans hus) eye higher

end

include hk hrun hc hx hfit hus

/-- A target that is not due, or whose booked inning has not come. -/
theorem retrainDue_waits (h : (s.chip.atTime t).retrainDue x = false ∨ (∃ i l, k.job x = i :: l ∧ (s.chip.atTime t).inning < i)) :
    Completes (.retrainDue t ch tgt eye higher) s fun c => c.tgt x.tgt = some x ∧ c.chan ch = some k ∧ s.chip.keeps c notePart ∧ s.chip.keepsEntries c [] := by
  have hsame : (if (s.chip.atTime t).retrainDue x then (s.chip.atTime t).retrainRow x eye higher else s.chip.atTime t) = s.chip.atTime t := by
    rcases h with h | ⟨i, l, hj, hi⟩
    · rw [if_neg (by rw [h]; simp)]
    · rw [Chip.retrainRow_booked (c := s.chip.atTime t) hk (tgtOn_ch hx) hj, if_neg (Nat.not_le.2 hi), ite_self]
  refine Completes.of_quietMedia (l := []) (es := []) (retrainDue_row s t ch tgt eye higher) ((retrainDue_runs hrun hx hfit hus).trans hsame) (Chip.quietMedia_refl _)
    (Chip.keeps_refl _ _) (Chip.keepsEntries_refl _ _) (by simp) (by simp) hc ⟨?_, ?_, Chip.keeps_ended t (Chip.keeps_mono (Chip.keeps_refl _ []) (by simp)) (by decide) (by decide), Chip.keepsEntries_end t (Chip.keepsEntries_refl _ _)⟩
  · rw [Chip.tgt_end]
    exact tgtOn_same hx
  · rw [Chip.chan_end]
    exact hk

/-- A target that is due and not booked. -/
theorem retrainDue_books (hd : (s.chip.atTime t).retrainDue x = true) (hj : k.job x = []) : Completes (.retrainDue t ch tgt eye higher) s fun c =>
    (∃ q, c.chan ch = some q ∧ q.rate = k.rate ∧ (q.job x).length = 1 + (s.chip.fittedOn ch).length * ((s.chip.atTime t).higherRates k x).length
        ∧ ∀ i ∈ q.job x, (s.chip.atTime t).inning + 63 < i ∧ i ∈ q.outages)
      ∧ c.tgt x.tgt = some x ∧ s.chip.keeps c (.md :: notePart) ∧ s.chip.keepsEntries c [] := by
  have hka : (s.chip.atTime t).chan ch = some k := hk
  have he := (retrainDue_runs (t := t) (eye := eye) (higher := higher) hrun hx hfit hus).trans ((if_pos hd).trans (Chip.retrainRow_books hka (tgtOn_ch hx) hj eye higher))
  obtain ⟨hq, ⟨l, hm⟩, hkeep, hv⟩ := Chip.bookOutage_frame (1 + ((s.chip.atTime t).fittedOn ch).length * ((s.chip.atTime t).higherRates k x).length) (tgtOn_ch hx) hka
  generalize (s.chip.atTime t).bookOutage x _ = d at *
  have hvals : (s.chip.atTime t).keepsEntries d [] := Chip.keepsEntries_vals hv []
  refine Completes.of_quietMedia (retrainDue_row s t ch tgt eye higher) he ⟨Chip.own_congr (hkeep .un (by decide)) (hkeep .fuse (by decide)),
    Chip.unitsGrow_of_un (hkeep .un (by decide)), by rw [hm], by rw [hm], by rw [hkeep .sb (by decide)]⟩ hkeep hvals (by decide) (by decide) hc
    ⟨?_, ?_, Chip.keeps_ended t (Chip.keeps_mono hkeep (by decide)) (by decide) (by decide), Chip.keepsEntries_end t hvals⟩
  · rw [Chip.chan_end]
    exact hq
  · rw [Chip.tgt_end]
    unfold Chip.tgt
    rw [hm]
    exact tgtOn_same hx

end

end Sys2Proof.Machine
end

section
/-! The retraining of a target whose inning has come (R182). -/
namespace Sys2Proof.Machine

theorem Chip.own_of_betterRate {c : Chip} {k : Chan} {x : Tgt} {higher : List (Nat × Nat × Nat)} {r : Nat} (h : c.betterRate k x higher = some r) : c.own (mkUnit kCHAN k.ch) = 2 := by
  by_contra hn
  unfold Chip.betterRate Chip.higherRates at h
  rw [if_neg fun hp => hn hp.1] at h
  cases h

theorem Chip.setDegraded_same {c : Chip} {u : Nat} (h : c.own u = 2) : c.setDegraded u true = c := by
  have ho : (c.unitRec u).own = 2 := h
  unfold Chip.setDegraded
  dsimp only
  rw [if_neg (by rw [ho]; simp), if_neg (by omega)]

theorem Chip.retrained.own {c d : Chip} {ch rate : Nat} (h : c.retrained d ch rate) (u : Nat) : d.own u = c.own u :=
  Chip.own_congr (h.kept .un (by decide)) (h.kept .fuse (by decide)) u

/-- A retraining touches no die and no unit. -/
theorem Chip.retrained.quiet {c d : Chip} {ch rate : Nat} (h : c.retrained d ch rate) : c.quietMedia d := by
  obtain ⟨_, _, hm⟩ := h.media
  exact ⟨h.own, Chip.unitsGrow_of_un (h.kept .un (by decide)), by rw [hm], by rw [hm], by rw [h.kept .sb (by decide)]⟩

theorem Chip.retrained.chan_end {c d : Chip} {ch rate : Nat} (h : c.retrained d ch rate) (b : Chip) :
    ((b.seal (b.notices d)).chan ch).map (fun q => (q.rate, q.eye)) = some (rate, (b.seal (b.notices d)).narrowest ch) := by
  obtain ⟨q, hq, hr, he⟩ := h.chan
  rw [Chip.chan_end, Chip.narrowest_congr (c := d) (by rw [Chip.md_end]), hq, ← hr, ← he]
  rfl

/-! A fault that is charged takes no time. -/

theorem Chip.freeProbes_now (c : Chip) : c.freeProbes.now = c.now := by
  unfold Chip.freeProbes
  refine Chip.each_now (fun d r => ?_) _ _
  dsimp only
  split
  · rfl
  · split <;> rfl

theorem Chip.retire_now (c : Chip) (u cause : Nat) : (c.retire u cause).now = c.now := Chip.freeProbes_now _

theorem Chip.countFault_now (c : Chip) (u : Nat) : (c.countFault u).now = c.now := by
  unfold Chip.countFault
  extract_lets r c1
  split_ifs
  · rfl
  · rfl
  · exact c1.retire_now u 2
  · rfl

theorem Chip.withdraw_now (c : Chip) (l : List (Nat × Nat)) : (c.withdraw l).now = c.now := by
  unfold Chip.withdraw
  refine Chip.each_now (fun d p => ?_) l c
  rfl

theorem Chip.chargeN_now (n : Nat) (c : Chip) (u : Nat) : (Chip.chargeN n c u).now = c.now := by
  induction n generalizing c u with
  | zero => exact c.countFault_now u
  | succ n ih =>
    unfold Chip.chargeN
    split
    · rfl
    · split
      · exact c.countFault_now u
      · split
        · extract_lets s kids first
          split
          · rfl
          · split
            · exact (ih _ _).trans (Chip.withdraw_now _ _)
            · exact Chip.countFault_now _ u
        · exact c.countFault_now u

theorem Chip.endProbe_now (c : Chip) (u : Nat) (pass : Bool) : (c.endProbe u pass).now = c.now := by
  unfold Chip.endProbe
  dsimp only
  split
  · split
    · rfl
    · exact c.retire_now u 1
  · rfl

theorem Chip.chargeFault_now (c : Chip) (u : Nat) : (c.chargeFault u).now = c.now := by
  unfold Chip.chargeFault
  split
  · split
    · exact c.endProbe_now u false
    · rfl
  · exact c.chargeN_now 3 u

/-- A row with units by its effect. -/
theorem Completes.of_unitsEffect {i : Instr} {s : State} {P : Chip → Prop} {t : Nat} {f : Chip → Chip} {c1 : Chip} (he : exec i s = runUnits s t f)
    (hg : f (s.chip.atTime t) = c1) (hp : P ((s.chip.atTime t).seal ((s.chip.atTime t).notices ((s.chip.atTime t).settle c1)))) : Completes i s P :=
  Completes.of_run (he.trans (runUnits_eq s t f)) (by rw [hg]; exact hp)

section
variable {s : State} {t ch tgt i : Nat} {l : List Nat} {k : Chan} {x : Tgt} {eye : Nat × Nat} {higher : List (Nat × Nat × Nat)}
  (hk : s.chip.chan ch = some k) (hrun : s.chip.isReady = true) (hc : s.chip.calm) (hx : s.chip.tgt (16 * ch + tgt % 16) = some x) (hfit : x.fitted = true)
  (hus : s.chip.usable (mkUnit kTGT x.tgt) = true) (hd : (s.chip.atTime t).retrainDue x = true) (hj : k.job x = i :: l) (hi : i ≤ (s.chip.atTime t).inning)

section
include hk hrun hx hfit hus hd hj hi

/-- The row in a booked inning is the retraining. -/
theorem retrainDue_retrains : (match (s.chip.atTime t).tgt (16 * ch + tgt % 16) with
    | none => s.chip.atTime t
    | some x => (s.chip.atTime t).when ((s.chip.atTime t).isReady && x.fitted && (s.chip.atTime t).usable (mkUnit kTGT x.tgt) && (s.chip.atTime t).retrainDue x)
        fun c => c.retrainRow x eye higher)
    = (s.chip.atTime t).retrain k x eye higher :=
  (retrainDue_runs hrun hx hfit hus).trans ((if_pos hd).trans ((Chip.retrainRow_booked (c := s.chip.atTime t) hk (tgtOn_ch hx) hj eye higher).trans (if_pos hi)))

end

include hk hx in
/-- The target renewed. -/
theorem retrain_renewed (left : List Nat) :
    (s.chip.atTime t).retrained ((s.chip.atTime t).renewed (k.freed x left) x eye.1) ch k.rate
    ∧ ((s.chip.atTime t).renewed (k.freed x left) x eye.1).tgt x.tgt = some
        { x with trims := trimSet s.chip.free eye.1, trainT := (s.chip.atTime t).now, eye := eye.1,
                 trainTemp := (s.chip.atTime t).tempOf (4 * x.tgt), odt := k.set.odt, drive := k.set.drive }
    ∧ ((s.chip.atTime t).renewed (k.freed x left) x eye.1).getAt E.CH_RETRAINS ch = min (topOf E.CH_RETRAINS) (s.chip.getAt E.CH_RETRAINS ch + 1) :=
  Chip.renewed_frame (c := s.chip.atTime t) (q := k.freed x left) hk (show k.ch = ch from Chip.chan_ch hk) rfl (tgtOn_same hx) (tgtOn_ch hx)

include hk hrun hc hx hfit hus hd hj hi

/-- With no higher rate. -/
theorem retrainDue_renews (hok : s.chip.eyeOk eye = true) (hb : (s.chip.atTime t).betterRate k x higher = none) : Completes (.retrainDue t ch tgt eye higher) s fun c =>
    c.tgt x.tgt = some { x with trims := trimSet s.chip.free eye.1, trainT := (s.chip.atTime t).now, eye := eye.1,
                                trainTemp := (s.chip.atTime t).tempOf (4 * x.tgt), odt := k.set.odt, drive := k.set.drive }
      ∧ (c.chan ch).map (fun q => (q.rate, q.eye)) = some (k.rate, c.narrowest ch) ∧ c.getAt E.CH_TRAIN_LAST ch = (s.chip.atTime t).stamp
      ∧ c.getAt E.CH_RETRAINS ch = min (topOf E.CH_RETRAINS) (s.chip.getAt E.CH_RETRAINS ch + 1)
      ∧ s.chip.keeps c ([.md, .free] ++ notePart) := by
  obtain ⟨left, hl⟩ := Chip.retrain_renews (c := s.chip.atTime t) hok hb
  obtain ⟨hr, htgt, hcnt⟩ := retrain_renewed (t := t) (eye := eye) hk hx left
  have he := (retrainDue_retrains (t := t) (eye := eye) (higher := higher) hk hrun hx hfit hus hd hj hi).trans hl
  generalize (s.chip.atTime t).renewed (k.freed x left) x eye.1 = d at *
  refine Completes.of_quietMedia (retrainDue_row s t ch tgt eye higher) he hr.quiet hr.kept hr.vals (by decide) (by decide) hc
    ⟨?_, hr.chan_end _, Chip.get_end (by decide) hr.last, Chip.get_end (by decide) hcnt, Chip.keeps_ended t (Chip.keeps_mono hr.kept (by decide)) (by decide) (by decide)⟩
  rw [Chip.tgt_end]
  exact htgt

/-- With a higher rate, which a DEGRADED channel takes. -/
theorem retrainDue_widens {r : Nat} (hok : s.chip.eyeOk eye = true) (hb : (s.chip.atTime t).betterRate k x higher = some r)
    (hv : fusedOff s.chip.fuse.variant (mkUnit kCHAN ch) = false) :
    (r < k.configured → Completes (.retrainDue t ch tgt eye higher) s fun c =>
      (c.chan ch).map (fun q => (q.rate, q.eye)) = some (r, c.narrowest ch) ∧ c.own (mkUnit kCHAN ch) = 2 ∧ c.getAt E.CH_TRAIN_LAST ch = (s.chip.atTime t).stamp)
    ∧ (k.configured ≤ r → Completes (.retrainDue t ch tgt eye higher) s fun c => c.own (mkUnit kCHAN ch) = 1) := by
  obtain ⟨left, eye', src, ev, sev, unit, ps, hl⟩ := Chip.retrain_widens (c := s.chip.atTime t) hok hb
  obtain ⟨hr, -, -⟩ := retrain_renewed (t := t) (eye := eye) hk hx left
  have he := (retrainDue_retrains (t := t) (eye := eye) (higher := higher) hk hrun hx hfit hus hd hj hi).trans hl
  have ho := Chip.own_of_betterRate hb
  rw [Chip.chan_ch hk] at he ho
  generalize (s.chip.atTime t).renewed (k.freed x left) x eye.1 = d at *
  have ht := d.tunes_trainTargets eye' (l := d.fittedOn ch) fun y hy => (Chip.mem_fittedOn.1 hy).2.2
  obtain ⟨q, hq, -, -⟩ := hr.chan
  obtain ⟨sel, hs⟩ := ht.chan q hq
  have hw := hr.widen r ht hs
  have htake : (d.each (d.fittedOn ch) (Chip.trainTarget · eye')).takesRate ch r
      = ((d.each (d.fittedOn ch) (Chip.trainTarget · eye')).setChan { ({ q with selected := sel } : Chan) with rate := r }).renewEye ch := by
    unfold Chip.takesRate
    rw [hs]
  rw [← htake] at hw
  generalize (d.each (d.fittedOn ch) (Chip.trainTarget · eye')).takesRate ch r = w at *
  have hwe := hw.of_keeps (w.keeps_event src ev sev unit ps) (w.keepsEntries_event src ev sev unit ps []) (Chip.event_now w src ev sev unit ps) (by decide) (by decide) (by simp)
  generalize w.event src ev sev unit ps = v at *
  have hvo : v.own (mkUnit kCHAN ch) = 2 := (hwe.own _).trans ho
  refine ⟨fun hlt => ?_, fun hge => ?_⟩
  · rw [decide_eq_true hlt, Chip.setDegraded_same hvo] at he
    refine Completes.of_quietMedia (retrainDue_row s t ch tgt eye higher) he hwe.quiet hwe.kept hwe.vals (by decide) (by decide) hc
      ⟨hwe.chan_end _, ?_, Chip.get_end (by decide) hwe.last⟩
    rw [Chip.own_end (b := s.chip.atTime t) hv (hwe.kept .fuse (by decide))]
    exact hvo
  · rw [decide_eq_false (Nat.not_lt.2 hge)] at he
    refine Completes.of_unitsEffect (retrainDue_row s t ch tgt eye higher) he ?_
    rw [Chip.own, Chip.unitRec_settled (b := s.chip.atTime t) hv ((v.keeps_setDegraded _ _ .fuse (by decide)).trans (hwe.kept .fuse (by decide)))]
    exact v.own_setDegraded false (.inr hvo)

/-- With too small an eye: the channel bears the fault, and the target is booked anew. -/
theorem retrainDue_fails (hok : s.chip.eyeOk eye = false) (hb : (s.chip.atTime t).bearsFault (mkUnit kCHAN ch)) : Completes (.retrainDue t ch tgt eye higher) s fun c =>
    c.tgt x.tgt = some x ∧ (∃ q, c.chan ch = some q ∧ q.rate = k.rate ∧ q.job x ≠ [] ∧ ∀ j ∈ q.job x, (s.chip.atTime t).inning + 63 < j ∧ j ∈ q.outages)
      ∧ c.getAt E.CH_TRAIN_LAST ch = (s.chip.atTime t).stamp ∧ s.chip.keeps c ([.md, .un] ++ notePart) := by
  have hka : (s.chip.atTime t).chan ch = some k := hk
  obtain ⟨left, used, src, ev, sev, unit, ps, hpos, hl⟩ := Chip.retrain_fails (c := s.chip.atTime t) (k := k) (x := x) (higher := higher) hok
  have he := (retrainDue_retrains (t := t) (eye := eye) (higher := higher) hk hrun hx hfit hus hd hj hi).trans hl
  rw [Chip.chan_ch hk] at he
  have h0 := Chip.attempted_began (q := k.freed x left) hka (show k.ch = ch from Chip.chan_ch hk)
  have hk0 : (s.chip.atTime t).keeps (((s.chip.atTime t).setAt E.CH_TRAIN_LAST ch (s.chip.atTime t).stamp).setChan (k.freed x left)) [.md, .dict] :=
    (Chip.keeps_setChan_iff (by decide) _).2 (Chip.keeps_mono (Chip.keeps_setAt _ _ _ _) (by decide))
  have ht0 : (((s.chip.atTime t).setAt E.CH_TRAIN_LAST ch (s.chip.atTime t).stamp).setChan (k.freed x left)).md.tgts = s.chip.md.tgts := rfl
  generalize ((s.chip.atTime t).setAt E.CH_TRAIN_LAST ch (s.chip.atTime t).stamp).setChan (k.freed x left) = b at *
  have hsel : b.tunes ch (b.selectVolume (4 * x.tgt)) := by
    have hch : chanOf (4 * x.tgt) = ch := by
      have := tgtOn_ch hx
      unfold chanOf
      omega
    exact hch ▸ b.tunes_selectVolume (4 * x.tgt)
  have h1 := (h0.tunes hsel).event src ev sev unit ps
  have hk1 : (s.chip.atTime t).keeps ((b.selectVolume (4 * x.tgt)).event src ev sev unit ps) [.md, .dict, .ev, .lg] :=
    Chip.keeps_mono (Chip.keeps_trans (Chip.keeps_trans hk0 (b.keeps_selectVolume _)) (Chip.keeps_event _ _ _ _ _ _)) (by decide)
  have ht1 : ((b.selectVolume (4 * x.tgt)).event src ev sev unit ps).md.tgts = s.chip.md.tgts := by
    rw [Chip.keeps_event _ _ _ _ _ _ .md (by decide), Chip.selectVolume_tgts, ht0]
  generalize (b.selectVolume (4 * x.tgt)).event src ev sev unit ps = d at *
  have ha : (s.chip.atTime t).faultsAlike d := Chip.faultsAlike_of hk1 h1.vals h1.now (by decide) (by decide) (by decide)
  have hown := ha.bears hb
  have hgrow := d.unitsGrow_chargeFault (mkUnit kCHAN ch)
  have hk2 := d.keeps_chargeFault (mkUnit kCHAN ch)
  have hn2 : (d.chargeFault (mkUnit kCHAN ch)).now = d.now := d.chargeFault_now _
  generalize d.chargeFault (mkUnit kCHAN ch) = f at *
  obtain ⟨sel, hs⟩ := h1.chan
  have hfc : f.chan ch = some { k.freed x left with selected := sel } := by
    unfold Chip.chan at *
    rw [hk2 .md (by decide)]
    exact hs
  obtain ⟨⟨q, hq, hr, hlen, hjob⟩, ⟨cs, hm⟩, hk3, hv3⟩ := Chip.bookOutage_frame used (tgtOn_ch hx) hfc
  generalize f.bookOutage x used = g at *
  have hkeep : (s.chip.atTime t).keeps g [.md, .un, .dict, .ev, .lg] := Chip.keeps_mono (Chip.keeps_trans (Chip.keeps_trans hk1 hk2) hk3) (by decide)
  have hvg : d.keepsEntries g [] := Chip.keepsEntries_trans (Chip.keepsEntries_of_keeps hk2 (by decide) []) (Chip.keepsEntries_vals hv3 [])
  have hvals : (s.chip.atTime t).keepsEntries g [E.CH_TRAIN_LAST] := Chip.keepsEntries_mono (Chip.keepsEntries_trans h1.vals hvg) (by simp)
  obtain ⟨_, _, hdm⟩ := h1.media
  have hmd : f.md = d.md := hk2 .md (by decide)
  refine Completes.of_quietMedia (retrainDue_row s t ch tgt eye higher) he
    ⟨fun u => (Chip.own_congr (hk3 .un (by decide)) (hk3 .fuse (by decide)) u).trans (hown u),
      Chip.unitsGrow_trans (Chip.unitsGrow_of_un ha.un) (Chip.unitsGrow_trans hgrow (Chip.unitsGrow_of_un (hk3 .un (by decide)))),
      by rw [hm, hmd, hdm], by rw [hm, hmd, hdm], by rw [hkeep .sb (by decide)]⟩ hkeep hvals (by decide) (by decide) hc
    ⟨?_, ⟨q, (Chip.chan_end _ _ _).trans hq, hr, fun hn => ?_, fun j hj => ?_⟩, Chip.get_end (by decide) ((hvg E.CH_TRAIN_LAST ch (by simp) (by decide)).trans h1.last),
      Chip.keeps_ended t (Chip.keeps_mono hkeep (by decide)) (by decide) (by decide)⟩
  · rw [Chip.tgt_end]
    unfold Chip.tgt
    rw [hm, hmd, ht1]
    exact tgtOn_same hx
  · rw [hn] at hlen
    exact absurd hlen.symm hpos.ne'
  · obtain ⟨hj1, hj2⟩ := hjob j hj
    refine ⟨?_, hj2⟩
    have hin : f.inning = (s.chip.atTime t).inning := by
      unfold Chip.inning
      rw [hn2, h1.now]
    rw [← hin]
    exact hj1

end

end Sys2Proof.Machine
end

section
/-! Short calibration (R183) and the temperatures of dies (R195). -/
namespace Sys2Proof.Machine

/-! ### Calibration -/

theorem zqCalibration_row (s : State) (t ch tgt : Nat) (ok : Bool) : exec (.zqCalibration t ch tgt ok) s = runUnits s t fun c =>
    match c.tgt (16 * ch + tgt % 16), c.chan ch with
    | some x, some k => c.when (c.isReady && x.fitted && c.usable (mkUnit kTGT x.tgt) && !k.outages.contains c.inning
        && decide (x.zqT + c.get E.ZQ_INTERVAL * cycPerMs ≤ c.now)) fun c => c.calibrate x ok
    | _, _ => c := rfl

theorem Chip.zqCalibration_effect {c : Chip} {i ch : Nat} {x : Tgt} {k : Chan} (hx : c.tgt i = some x) (hk : c.chan ch = some k) (hrun : c.isReady = true) (hfit : x.fitted = true)
    (hus : c.usable (mkUnit kTGT x.tgt) = true) (hout : k.outages.contains c.inning = false) (hz : x.zqT + c.get E.ZQ_INTERVAL * cycPerMs ≤ c.now) (ok : Bool) :
    (match c.tgt i, c.chan ch with
      | some x, some k => c.when (c.isReady && x.fitted && c.usable (mkUnit kTGT x.tgt) && !k.outages.contains c.inning
          && decide (x.zqT + c.get E.ZQ_INTERVAL * cycPerMs ≤ c.now)) fun c => c.calibrate x ok
      | _, _ => c) = c.calibrate x ok := by
  rw [hx, hk]
  dsimp only
  rw [hrun, hfit, hus, hout, decide_eq_true hz]
  rfl

/-- A target calibrated in the short form. -/
def Chip.calibratedTgt (c : Chip) (x : Tgt) : Chip :=
  ((c.selectVolume (4 * x.tgt)).setTgt { x with zqT := c.now }).chargeRes (.chan (x.tgt / 16)) 1 (Config.busTokens 1)

theorem Chip.calibrate_eq (c : Chip) (x : Tgt) (ok : Bool) : ∃ src ev sev unit ps, c.calibrate x ok = if ok then c.calibratedTgt x
    else ((c.calibratedTgt x).event src ev sev unit ps).chargeFault (mkUnit kTGT x.tgt) := ⟨_, _, _, _, _, rfl⟩

theorem Chip.calibratedTgt_frame {c : Chip} {x : Tgt} (hx : c.tgt x.tgt = some x) :
    (c.calibratedTgt x).tgt x.tgt = some { x with zqT := c.now } ∧ (∃ ks l, (c.calibratedTgt x).md = { c.md with chans := ks, tgts := l })
    ∧ (c.calibratedTgt x).now = c.now ∧ c.keeps (c.calibratedTgt x) [.md, .um] ∧ (c.calibratedTgt x).dict.vals = c.dict.vals := by
  have hsel := c.tunes_selectVolume (4 * x.tgt)
  have htg : (c.selectVolume (4 * x.tgt)).tgt x.tgt = some x := by
    unfold Chip.tgt at *
    rw [Chip.selectVolume_tgts]
    exact hx
  have hk := c.keeps_selectVolume (4 * x.tgt)
  unfold Chip.calibratedTgt
  generalize c.selectVolume (4 * x.tgt) = b at *
  obtain ⟨ks, l, hm⟩ := hsel.media
  obtain ⟨l', hm'⟩ : ∃ l', (b.setTgt { x with zqT := c.now }).md = { b.md with tgts := l' } := ⟨_, rfl⟩
  refine ⟨?_, ⟨ks, l', hm'.trans (by rw [hm])⟩, hsel.now, (Chip.keeps_chargeRes_iff (by decide) _ _ _).2 ((Chip.keeps_setTgt_iff (by decide) _).2 (Chip.keeps_mono hk (by decide))), hsel.vals⟩
  exact (Chip.tgt_setTgt b { x with zqT := c.now } x.tgt).trans (if_pos ⟨rfl, by rw [htg]; rfl⟩)

section
variable {s : State} {t ch tgt : Nat} {k : Chan} {x : Tgt} {ok : Bool}

/-- A target whose calibration is due, outside the outages of its channel. -/
theorem zqCalibration_calibrates (hk : s.chip.chan ch = some k) (hrun : s.chip.isReady = true) (hc : s.chip.calm) (hx : s.chip.tgt (16 * ch + tgt % 16) = some x)
    (hfit : x.fitted = true) (hus : s.chip.usable (mkUnit kTGT x.tgt) = true) (hout : k.outages.contains (s.chip.atTime t).inning = false)
    (hz : x.zqT + s.chip.get E.ZQ_INTERVAL * cycPerMs ≤ (s.chip.atTime t).now) (hb : ok = true ∨ (s.chip.atTime t).bearsFault (mkUnit kTGT x.tgt)) :
    Completes (.zqCalibration t ch tgt ok) s fun c => c.tgt x.tgt = some { x with zqT := (s.chip.atTime t).now }
      ∧ s.chip.keeps c ((if ok then [.md] else [.md, .un]) ++ notePart) ∧ s.chip.keepsEntries c [] := by
  obtain ⟨src, ev, sev, unit, ps, heq⟩ := Chip.calibrate_eq (s.chip.atTime t) x ok
  have he := (Chip.zqCalibration_effect (c := s.chip.atTime t) hx hk hrun hfit ((s.chip.usable_atTime t _).trans hus) hout hz ok).trans heq
  obtain ⟨htgt, ⟨ks, l, hm⟩, hn, hkeep, hv⟩ := Chip.calibratedTgt_frame (c := s.chip.atTime t) (tgtOn_same hx)
  generalize (s.chip.atTime t).calibratedTgt x = d at *
  have hvals : (s.chip.atTime t).keepsEntries d [] := Chip.keepsEntries_vals hv []
  cases ok with
  | true =>
    rw [if_pos rfl] at he
    refine Completes.of_quietMedia (zqCalibration_row s t ch tgt true) he ⟨Chip.own_congr (hkeep .un (by decide)) (hkeep .fuse (by decide)),
      Chip.unitsGrow_of_un (hkeep .un (by decide)), by rw [hm], by rw [hm], by rw [hkeep .sb (by decide)]⟩ hkeep hvals (by decide) (by decide) hc
      ⟨(Chip.tgt_end _ _ _).trans htgt, Chip.keeps_ended t (Chip.keeps_mono hkeep (by decide)) (by decide) (by decide), Chip.keepsEntries_end t hvals⟩
  | false =>
    rw [if_neg Bool.false_ne_true] at he
    have hbears : (s.chip.atTime t).bearsFault (mkUnit kTGT x.tgt) := hb.resolve_left (by simp)
    have hke : (s.chip.atTime t).keeps (d.event src ev sev unit ps) [.md, .um, .dict, .ev, .lg] :=
      Chip.keeps_mono (Chip.keeps_trans hkeep (d.keeps_event _ _ _ _ _)) (by decide)
    have hve : (s.chip.atTime t).keepsEntries (d.event src ev sev unit ps) [] := (Chip.keepsEntries_event_iff ..).2 hvals
    have hmd : (d.event src ev sev unit ps).md = d.md := d.keeps_event _ _ _ _ _ .md (by decide)
    have ha : (s.chip.atTime t).faultsAlike (d.event src ev sev unit ps) :=
      Chip.faultsAlike_of hke hve ((Chip.event_now _ _ _ _ _ _).trans hn) (by decide) (by decide) (by decide)
    generalize d.event src ev sev unit ps = e at *
    have hkf := e.keeps_chargeFault (mkUnit kTGT x.tgt)
    have hkeep' : (s.chip.atTime t).keeps (e.chargeFault (mkUnit kTGT x.tgt)) [.md, .um, .un, .dict, .ev, .lg] := Chip.keeps_mono (Chip.keeps_trans hke hkf) (by decide)
    have hvals' : (s.chip.atTime t).keepsEntries (e.chargeFault (mkUnit kTGT x.tgt)) [] := (Chip.keepsEntries_chargeFault_iff _).2 hve
    have hmd' : (e.chargeFault (mkUnit kTGT x.tgt)).md = d.md := (hkf .md (by decide)).trans hmd
    refine Completes.of_quietMedia (zqCalibration_row s t ch tgt false) he ⟨ha.bears hbears, Chip.unitsGrow_trans (Chip.unitsGrow_of_un ha.un) (e.unitsGrow_chargeFault _),
      by rw [hmd', hm], by rw [hmd', hm], by rw [hkeep' .sb (by decide)]⟩ hkeep' hvals' (by decide) (by decide) hc
      ⟨?_, Chip.keeps_ended t (Chip.keeps_mono hkeep' (by decide)) (by decide) (by decide), Chip.keepsEntries_end t hvals'⟩
    rw [Chip.tgt_end]
    unfold Chip.tgt at *
    rw [hmd']
    exact htgt

end

/-! ### Temperatures -/

theorem Chip.dieOf_setDie {c : Chip} {d q : Die} {lun : Nat} (h : c.dieOf lun = some q) (hd : d.lun = lun) : (c.setDie d).dieOf lun = some d := by
  subst hd
  exact find_change _ _ (by simp) _ (by rw [show c.md.dies.find? _ = some q from h]; rfl)

theorem Chip.dieOf_lun {c : Chip} {lun : Nat} {d : Die} (h : c.dieOf lun = some d) : d.lun = lun := by simpa using List.find?_some h

/-- A die whose interval passes without a reading. -/
def Die.missed (d : Die) (now : Nat) : Die := { d with tempAge := min 3 (d.tempAge + 1), tempT := now }

/-- What an interval leaves, with the die as q. -/
structure Chip.took (c e : Chip) (lun : Nat) (q : Die) (es : List Nat) : Prop where
  die : e.dieOf lun = some q
  kept : c.keeps e [.md, .um, .dict, .ev, .lg]
  vals : c.keepsEntries e es

/-- The reading itself costs bus time, and leaves the dies. -/
structure Chip.polled (c e : Chip) : Prop where
  dies : e.md.dies = c.md.dies
  now : e.now = c.now
  kept : c.keeps e [.md, .um, .dict, .ev, .lg]
  vals : c.keepsEntries e []

theorem Chip.polled_refl (c : Chip) : c.polled c := ⟨rfl, rfl, Chip.keeps_mono (Chip.keeps_refl _ []) (by simp), Chip.keepsEntries_refl _ _⟩

theorem Chip.polled_bus (c : Chip) (lun n m : Nat) (r : Res) : c.polled ((c.selectVolume lun).chargeRes r n m) := by
  have h := c.tunes_selectVolume lun
  obtain ⟨_, _, hm⟩ := h.media
  refine ⟨?_, h.now, (Chip.keeps_chargeRes_iff (by decide) _ _ _).2 (Chip.keeps_mono (c.keeps_selectVolume lun) (by decide)), Chip.keepsEntries_vals h.vals []⟩
  show (c.selectVolume lun).md.dies = _
  rw [hm]

theorem Chip.polled.event {c e : Chip} (h : c.polled e) (src ev sev unit : Nat) (ps : List Nat) : c.polled (e.event src ev sev unit ps) :=
  ⟨by rw [e.keeps_event _ _ _ _ _ .md (by decide)]; exact h.dies, (Chip.event_now _ _ _ _ _ _).trans h.now,
    Chip.keeps_mono (Chip.keeps_trans h.kept (e.keeps_event _ _ _ _ _)) (by decide), (Chip.keepsEntries_event_iff ..).2 h.vals⟩

theorem Chip.polled.setDie {c e : Chip} {lun : Nat} {d q : Die} (h : c.polled e) (hd : c.dieOf lun = some d) (hq : q.lun = lun) : c.took (e.setDie q) lun q [] := by
  have he : e.dieOf lun = some d := by
    unfold Chip.dieOf at *
    rw [h.dies]
    exact hd
  refine ⟨Chip.dieOf_setDie he hq, (Chip.keeps_setDie_iff (by decide) _).2 h.kept, Chip.keepsEntries_trans h.vals (Chip.keepsEntries_of_keeps (e.keeps_setDie q) (by decide) [])⟩

/-- A reading in range is kept. -/
theorem Chip.takeTemp_keeps {c : Chip} {lun : Nat} {d : Die} {v : Int} (hd : c.dieOf lun = some d) (h1 : -40 ≤ c.degrees (chanOf lun) v) (h2 : c.degrees (chanOf lun) v ≤ 125) :
    c.took (c.takeTemp d (some v)) lun { d with temp := some (c.degrees (chanOf lun) v), tempAge := 0, tempT := c.now } [] := by
  have hl := Chip.dieOf_lun hd
  have he : c.takeTemp d (some v) = ((c.selectVolume d.lun).chargeRes (.chan (chanOf d.lun)) 1 (Config.busTokens 2)).setDie
      { d with temp := some (c.degrees (chanOf lun) v), tempAge := 0, tempT := c.now } := by
    unfold Chip.takeTemp
    dsimp only [Option.map_some, Option.isSome_some]
    rw [if_pos rfl, hl, if_pos ⟨h1, h2⟩]
  rw [he]
  exact (c.polled_bus _ _ _ _).setDie hd hl

/-- An interval without a reading. -/
theorem Chip.polled.misses {c e : Chip} {lun : Nat} {d : Die} (h : c.polled e) (hd : c.dieOf lun = some d) (k ident : Nat) :
    c.took (let c1 := e.setDie { d with tempAge := min 3 (d.tempAge + 1), tempT := e.now }
      if 3 ≤ d.tempAge + 1 then (c1.count E.NTEMP_FALLBACKS 1).event k 0 1 ident [] else c1) lun (d.missed c.now) [E.NTEMP_FALLBACKS] := by
  rw [h.now]
  have h1 := h.setDie (q := d.missed c.now) hd (show d.lun = lun from Chip.dieOf_lun hd)
  unfold Die.missed at *
  dsimp only
  generalize e.setDie { d with tempAge := min 3 (d.tempAge + 1), tempT := c.now } = f at *
  split
  · have hk : f.keeps ((f.count E.NTEMP_FALLBACKS 1).event k 0 1 ident []) [.dict, .ev, .lg] :=
      Chip.keeps_mono (Chip.keeps_trans (f.keeps_countAt _ _ _) (Chip.keeps_event _ _ _ _ _ _)) (by decide)
    refine ⟨?_, Chip.keeps_mono (Chip.keeps_trans h1.kept hk) (by decide), (Chip.keepsEntries_event_iff ..).2 ((Chip.keepsEntries_countAt_iff (by decide) _ _).2 (Chip.keepsEntries_mono h1.vals (by simp)))⟩
    unfold Chip.dieOf
    rw [hk .md (by decide)]
    exact h1.die
  · exact ⟨h1.die, h1.kept, Chip.keepsEntries_mono h1.vals (by simp)⟩

theorem Chip.takeTemp_misses {c : Chip} {lun : Nat} {d : Die} {reading : Option Int} (hd : c.dieOf lun = some d)
    (h : reading = none ∨ ∃ v, reading = some v ∧ (c.degrees (chanOf lun) v < -40 ∨ 125 < c.degrees (chanOf lun) v)) :
    c.took (c.takeTemp d reading) lun (d.missed c.now) [E.NTEMP_FALLBACKS] := by
  obtain rfl := Chip.dieOf_lun hd
  unfold Chip.takeTemp
  rcases h with rfl | ⟨v, rfl, hv⟩
  · exact c.polled_refl.misses hd _ _
  · dsimp only [Option.map_some, Option.isSome_some]
    rw [if_pos rfl]
    generalize c.degrees (chanOf d.lun) v = x at *
    rw [if_neg (by omega)]
    have hp := c.polled_bus d.lun 1 (Config.busTokens 2) (.chan (chanOf d.lun))
    generalize (c.selectVolume d.lun).chargeRes (.chan (chanOf d.lun)) 1 (Config.busTokens 2) = e at *
    exact (hp.event _ _ _ _ _).misses hd _ _

theorem nandTemperatureRead_row (s : State) (t lun : Nat) (reading : Option Int) : exec (.nandTemperatureRead t lun reading) s = run s t fun c => c.when c.isReady fun c =>
    match c.dieOf lun with
    | none => c
    | some d => if c.usable (mkUnit kLUN lun) && (decide (d.tempT = 0) || decide (d.tempT + c.get E.NTEMP_INTERVAL * cycPerMs ≤ c.now)) then c.tempEvents (c.takeTemp d reading) else c := rfl

/-- A die whose interval has passed: what its reading leaves is there at the end. -/
theorem nandTemperatureRead_takes {s : State} {t lun : Nat} {d q : Die} {reading : Option Int} {es : List Nat} (hrun : s.chip.isReady = true) (hd : s.chip.dieOf lun = some d)
    (hus : s.chip.usable (mkUnit kLUN lun) = true) (hz : d.tempT = 0 ∨ d.tempT + s.chip.get E.NTEMP_INTERVAL * cycPerMs ≤ (s.chip.atTime t).now)
    (h : (s.chip.atTime t).took ((s.chip.atTime t).takeTemp d reading) lun q es) :
    Completes (.nandTemperatureRead t lun reading) s fun c => c.dieOf lun = some q ∧ s.chip.keeps c (.md :: notePart) ∧ s.chip.keepsEntries c es := by
  refine Completes.of_when (nandTemperatureRead_row s t lun reading) hrun ?_
  have hcond : ((s.chip.atTime t).usable (mkUnit kLUN lun) && (decide (d.tempT = 0) || decide (d.tempT + (s.chip.atTime t).get E.NTEMP_INTERVAL * cycPerMs ≤ (s.chip.atTime t).now))) = true := by
    rw [s.chip.usable_atTime, hus, Bool.true_and, Bool.or_eq_true, decide_eq_true_iff, decide_eq_true_iff]
    exact hz
  rw [show (s.chip.atTime t).dieOf lun = some d from hd]
  dsimp only
  rw [if_pos hcond]
  obtain ⟨-, hev, hek⟩ := Chip.tempEvents_frame (s.chip.atTime t) ((s.chip.atTime t).takeTemp d reading)
  refine ⟨?_, Chip.keeps_ended t (Chip.keeps_mono (Chip.keeps_trans h.kept hek) (by decide)) (by decide) (by decide), Chip.keepsEntries_end t
    (Chip.keepsEntries_mono (Chip.keepsEntries_trans h.vals (Chip.keepsEntries_vals hev [])) (by simp))⟩
  have hdie := h.die
  unfold Chip.dieOf at *
  rw [Chip.md_end, hek .md (by decide)]
  exact hdie

end Sys2Proof.Machine

open Sys2Proof Sys2Proof.Machine

/-- Settles O42, an instruction at a time. -/
theorem channelsAreTrained : Obligations.ChannelsAreTrained := by
  intro s t ch k hk
  refine ⟨fun rates eyes hrun h1 h2 => ⟨fun r eye hf => fullAttempt_passes hk hrun h1 h2 hf, fun hf => fullAttempt_fails hk hrun h1 h2 hf⟩,
    fun rates eyes hrun hc h3 hp hn hv => ⟨fun r eye hf => ⟨fun hw => probeAttempt_kept hk hrun h3 hp hv hc hf hw,
      fun he ha h1 h2 => probeAttempt_returns hk hrun h3 hp hv hf he ha h1 h2⟩, fun hf => probeAttempt_fails hk hrun h3 hp hv hc hn hf⟩,
    fun hrun hc tgt x hx hfit hus => ⟨fun eye higher h => retrainDue_waits hk hrun hc hx hfit hus h, fun eye higher hd hj => retrainDue_books hk hrun hc hx hfit hus hd hj,
      fun eye higher i l hd hj hi => ⟨fun hok hb => retrainDue_renews hk hrun hc hx hfit hus hd hj hi hok hb,
        fun r hok hb hv => retrainDue_widens hk hrun hc hx hfit hus hd hj hi hok hb hv, fun hok hb => retrainDue_fails hk hrun hc hx hfit hus hd hj hi hok hb⟩,
      fun ok hout hz hb => zqCalibration_calibrates hk hrun hc hx hfit hus hout hz hb⟩,
    fun lun d reading hrun hd hus hz => ⟨fun v hv h1 h2 => ?_, fun h => nandTemperatureRead_takes hrun hd hus hz (Chip.takeTemp_misses (c := s.chip.atTime t) hd h)⟩⟩
  subst hv
  exact nandTemperatureRead_takes hrun hd hus hz (Chip.takeTemp_keeps (c := s.chip.atTime t) hd h1 h2)
end
